-- ==== Sys2Proof/Word.lean ====
section
/-! DEFINITION. The word types of the hub and the plain data that commands carry. -/

namespace Sys2Proof

/-- A word is 32 bits (R10). -/
abbrev Word := BitVec 32

/-- A byte is 8 bits (R10). -/
abbrev Byte := BitVec 8

/-- A 52-bit stamp: SECONDS[19:0] in bits 51:32, nanoseconds in bits 31:2 and quarter nanoseconds in bits 1:0 (R59). -/
abbrev Stamp := BitVec 52

/-- A table keyed by a number, keys rising; an unlisted key reads as the entry type's default. -/
abbrev Tbl (α : Type) := List (Nat × α)

/-- A byte memory in canonical form: addresses rising, no entry equal to what an unlisted address reads as. -/
abbrev Memory := List (Nat × Byte)

/-- What a host's ADP frame carries after the hub has taken off the Ethernet header and found the frame well formed
(R313, R314, R316): the port it came by (0 T1S_A, 1 T1S_B, 2 T1_UP, 3 the service port), its source address, and the
header's fields with the payload. -/
structure HostFrame where
  /-- Port the frame came by. -/
  port : Nat := 2
  /-- Source MAC address; 0 at the service port. -/
  src : Nat := 0
  /-- Header FLAGS. -/
  flags : Byte := 0
  /-- Header PARISH. -/
  parish : Nat := 0
  /-- Header SESSION. -/
  session : Nat := 0
  /-- Header TRANS_ID. -/
  transId : Nat := 0
  /-- Header OBJ_COUNT. -/
  objCount : Nat := 0
  /-- The tag of a tagged frame, empty when FLAGS has no TAGGED. -/
  tag : List Byte := []
  /-- Payload bytes. -/
  payload : List Byte := []
deriving DecidableEq, Repr

/-- The fields of a twin word that its receiver reads, but for TYPE and CRC (R388). -/
structure TwinWord where
  /-- STATES: pairing state in bits 3:0, die count in bits 7:4. -/
  states : Nat := 0
  /-- SAFETY. -/
  safety : Nat := 0
  /-- WIRES. -/
  wires : Nat := 0
  /-- SEQ. -/
  seq : Nat := 0
  /-- REQ_OFF. -/
  reqOff : Nat := 0
  /-- DIGEST. -/
  digest : Nat := 0
  /-- CODE. -/
  code : Nat := 0
  /-- SERIAL. -/
  serial : Nat := 0
deriving DecidableEq, Repr

end Sys2Proof
end

