-- ==== Sys2Proof/Syntax.lean ====
section
/-! DEFINITION. The commands of the block: one constructor for each row of spec/opcode_table.json, with the row's
operands. A resource is named by its global number (R6); what the environment supplies (a pin's level, a received byte, a
measured code, a message's times) is an operand. -/

namespace Sys2Proof

/-- A command of the hub: an operation that host software or an engine program asks for, or an event of the part or of
its surroundings (spec/opcode_table.json). -/
inductive Instr where
  /-- LEAD_HEARTBEAT (R18): A non-lead die receives the lead heartbeat over the ring, which restarts its count of missed heartbeats. -/
  | leadHeartbeat (d : Nat)
  /-- LEAD_LOST (R18): A non-lead die misses 5 consecutive lead heartbeats, stops its rota at the frame boundary and drives its safety outputs off until reset. -/
  | leadLost (d : Nat)
  /-- RING_FRAME_RECEIVE (R21): A ring frame arrives at a die; the receiver checks its CRC, acknowledges it, discards duplicates by link sequence number and delivers it. -/
  | ringFrameReceive (d : Nat) (link : Nat) (seq : Nat) (cls : Nat) (crcOk : Bool)
  /-- RING_LINK_LOST (R21): A ring link delivers no valid symbol for 2 µs; the link is declared lost and unacknowledged frames are re-sent the other way round the ring. -/
  | ringLinkLost (link : Nat)
  /-- SIDEBAND_PAIR_FAULT (R23): A trip sideband wire pair shows equal levels; the receiving die treats it as a trip and raises a fault to its reeve. -/
  | sidebandPairFault (d : Nat) (outputs : Nat)
  /-- SAFETY_OUTPUT_TRIP_REQUEST (R27): A direct or sideband trip request reaches a die's safety-output logic and drives SO_A and SO_B off at once. -/
  | safetyOutputTripRequest (d : Nat) (outputs : Nat) (on : Bool)
  /-- MATRIX_TRIP_CONFIRMED (R27): A matrix-route trip request has been present for 3 consecutive SYS cycles and drives the safety outputs off. -/
  | matrixTripConfirmed (d : Nat) (c : Nat)
  /-- TIME_ALIGN_FRAME (R24): Every 1 ms the lead die sends a time-alignment frame that re-aligns every die and applies pending RATE, OFFSET_ADJ, TIME_SET and SLEW_LIMIT changes. -/
  | timeAlignFrame (held : Nat)
  /-- TIME_TICK (R36): On each TIME clock edge the effective increment is added to NANOSECONDS:FRACTION, with the carry into SECONDS. -/
  | timeTick
  /-- SLEW_COMPLETE (R42): The remaining slew offset falls below one tick's slew term; the remainder is applied in one tick and the slew term removed. -/
  | slewComplete
  /-- RATE_WRITE (R37): A write of RATE is range-checked and made pending until the next time-alignment frame. -/
  | rateWrite (value : Nat)
  /-- OFFSET_ADJ_WRITE (R42): A write of OFFSET_ADJ takes the ADJ_MODE in force and becomes a slew or a step at the next time-alignment frame. -/
  | offsetAdjWrite (value : Int)
  /-- TIME_SET_WRITE (R43): A write of TIME_SET requests a step to the written time at the next time-alignment frame. -/
  | timeSetWrite (value : Nat)
  /-- REACQUIRE_WRITE (R48): A write of 1 to REACQUIRE puts the servo into ACQUIRING. -/
  | reacquireWrite (value : Nat)
  /-- REF_RETUNE (R38): While LOCKED, the steered RATE has differed from nominal by more than 20 ppm for 10 s; the steward moves REF one step and compensates RATE. -/
  | refRetune (effect : Int)
  /-- TSEC_LO_READ (R40): An engine read of TSEC_LO returns live seconds and latches the rest of the time into the engine's private latch. -/
  | tsecLoRead (e : Nat) (rd : BitVec 4)
  /-- PTP_SYNC_RECEIVE (R48): A Sync arrives on a PTP port; the port measures its offset and, on the steering port, the servo updates RATE and its state. -/
  | ptpSyncReceive (n : Nat) (domain : Nat) (twoStep : Bool) (t1 : Int)
  /-- PTP_ANNOUNCE_RECEIVE (R52): An Announce arrives; the port runs the best master clock algorithm, records the grandmaster identity and UTC_OFFSET, and a new grandmaster sends the servo to HOLDOVER. -/
  | ptpAnnounceReceive (n : Nat) (domain : Nat) (p1 : Nat) (cls : Nat) (acc : Nat) (var : Nat) (p2 : Nat) (gm : Nat) (utc : Int)
  /-- PTP_DELAY_RESPONSE_RECEIVE (R51): A delay response or peer delay message arrives and the port updates its path delay. -/
  | ptpDelayResponseReceive (n : Nat) (domain : Nat) (t4 : Int) (turnaround : Option Int)
  /-- PTP_MESSAGE_DISCARD (R52): A PTP management message or unsupported message arrives and is discarded without response. -/
  | ptpMessageDiscard (n : Nat)
  /-- PTP_SYNC_SEND (R54): The Sync interval of a master port expires and it sends a Sync carrying its transmission time. -/
  | ptpSyncSend (n : Nat)
  /-- PTP_DELAY_REQUEST_SEND (R51): The delay request interval of a port expires and it sends a delay request. -/
  | ptpDelayRequestSend (n : Nat)
  /-- PTP_ANNOUNCE_SEND (R54): The Announce interval of a master port expires and it announces the hub as grandmaster. -/
  | ptpAnnounceSend (n : Nat)
  /-- SYNC_TIMEOUT (R48): HOLDOVER_COUNT Sync intervals pass without a valid measurement and the servo enters HOLDOVER. -/
  | syncTimeout (n : Nat)
  /-- PORT_MODE_IDLE_END (R68): The 10 µs UNCONFIGURED interval after a PORT_MODE change ends and the new mode is applied. -/
  | portModeIdleEnd (n : Nat)
  /-- VP_ON_WRITE (R87): An engine writes VP_ON, closing or opening the port's VP switch. -/
  | vpOnWrite (n : Nat) (on : Bool)
  /-- PGOOD (R71): VP reaches 90 % after switch-on and the hub sets PGOOD. -/
  | pgood (n : Nat)
  /-- VP_AVERAGE_OVERLOAD (R74): The 1 ms average exceeds VP_ILIM in 3 consecutive windows; the switch opens, OVERLOAD is set and the port enters quarantine with reason 3. -/
  | vpAverageOverload (n : Nat)
  /-- VP_PEAK_OVERLOAD (R74): Instantaneous VP current exceeds 450 mA; the switch opens within 2 µs and the port enters quarantine with reason 4. -/
  | vpPeakOverload (n : Nat)
  /-- EM_CFG_WRITE (R76): An engine writes EM_CFG; out-of-range values are clamped and CLAMPED is set. -/
  | emCfgWrite (n : Nat) (value : Word)
  /-- GOVERNOR_GRANT (R80): A governor slot is released and granted within 100 ns to the first waiting emitter request, which then starts sinking. -/
  | governorGrant (d : Nat) (bins : Nat)
  /-- EMITTER_PULSE_DONE (R78): An emitter pulse ends; OPEN and NOREG are checked, the governor slot is released and the PULSE operation completes. -/
  | emitterPulseDone (n : Nat) (isOpen : Bool) (noreg : Bool)
  /-- QUARANTINE_PROBE (R91): The back-off of a held automatic quarantine reason expires and the hub probes it, removing the reason on success. -/
  | quarantineProbe (n : Nat) (reason : Nat) (interval : Nat)
  /-- QUAR_CTL_RELEASE (R481): The owning parish writes QUAR_CTL = 0, removing reason 5. -/
  | quarCtlRelease (n : Nat)
  /-- QUAR_CTL_HOLD (R89): The owning parish writes QUAR_CTL = 1, adding reason 5 to the port's quarantine. -/
  | quarCtlHold (n : Nat)
  /-- QUAR_CTL_PROBE (R91): The owning parish writes QUAR_CTL = 2, probing every held automatic reason at once. -/
  | quarCtlProbe (n : Nat)
  /-- UART_RX_LOW_TIMEOUT (R89): RXD stays low for RX_LOW_TIMEOUT and the port enters quarantine with reason 2. -/
  | uartRxLowTimeout (n : Nat)
  /-- PIN_EDGE (R57): An edge on a port pin is confirmed by the filter, stamped, counted in PIN_EDGE and latched for data-ready and launch use. -/
  | pinEdge (n : Nat) (pin : Nat) (rising : Bool) (bins : Nat)
  /-- PORT_OPERATION_START (R162): A queued port operation finds its port idle and its conditions met and reaches the pins, converter or emitter. -/
  | portOperationStart (n : Nat) (bins : Nat)
  /-- TW_START (R103): A two-wire transfer finds the bus free and its data-ready edge present, and sends START. -/
  | twStart (n : Nat) (bins : Nat)
  /-- ARBITRATION_LOST (R104): The controller reads zero while sending one, releases the lines, and retries or completes ARBLOST. -/
  | arbitrationLost (n : Nat)
  /-- TW_TRANSFER_DONE (R99): A two-wire transfer ends with STOP; NAK, count and PEC are judged and the status and read buffer are written. -/
  | twTransferDone (n : Nat) (nak : Nat) (rx : List Byte) (pec : Byte) (rise : Nat)
  /-- BUS_TIMEOUT (R110): SCL or SDA stays low beyond its timeout; the flag is set, an operation in flight completes BUSTIMEOUT and recovery starts. -/
  | busTimeout (n : Nat) (sda : Bool)
  /-- BUS_RECOVERY_DONE (R109): The bus recovery sequence ends FREE, resuming the port, or STUCK, placing it in quarantine. -/
  | busRecoveryDone (n : Nat) (isFree : Bool)
  /-- SPI_TRANSFER_DONE (R163): An SPI transfer ends and writes its received bytes and status. -/
  | spiTransferDone (n : Nat) (rx : List Byte)
  /-- UART_IDLE_GAP (R83): An idle gap of IDLE_BITS bit times ends the reception of a UART operation. -/
  | uartIdleGap (n : Nat)
  /-- UART_TRANSFER_DONE (R164): A UART operation ends by count, idle gap or end byte and writes its received bytes and status. -/
  | uartTransferDone (n : Nat) (rx : List Byte) (err : Nat) (lag : Nat) (bins : Nat)
  /-- SVC_STATUS (R118): A service-port block read of STATUS returns the status block. -/
  | svcStatus
  /-- SVC_RESULT (R116): A service-port block read of RESULT returns the next part of the pending response, or count 0. -/
  | svcResult
  /-- SVC_OBJ_READ (R114): A service-port OBJ_READ block write carries an ADP READ or READ_BLOCK request. -/
  | svcObjRead (data : List Byte) (pec : Option Byte)
  /-- SVC_OBJ_WRITE (R114): A service-port OBJ_WRITE block write carries an ADP WRITE or WRITE_BLOCK request. -/
  | svcObjWrite (data : List Byte) (pec : Option Byte)
  /-- SVC_SESSION (R114): A service-port SESSION block write carries an ADP SESSION frame. -/
  | svcSession (data : List Byte) (pec : Option Byte)
  /-- SVC_RECORDS (R117): A service-port RECORDS read returns the current record chunk. -/
  | svcRecords
  /-- SVC_RECORDS_ACK (R117): A service-port RECORDS_ACK frees the named chunk so the next chunk is formed, or is discarded when the number differs. -/
  | svcRecordsAck (seq : Byte) (pec : Option Byte)
  /-- SVC_UNKNOWN_COMMAND (R114): A service-port command with an undefined code is not acknowledged. -/
  | svcUnknownCommand
  /-- SVC_SCL_TIMEOUT (R113): SCL stays low for 25 ms and the service port resets its interface. -/
  | svcSclTimeout (midRequest : Bool)
  /-- SVC_ADDRESS_WAKE (R119): In SLEEP or DEEP SLEEP the service-port address is recognised, not acknowledged, and starts a wake. -/
  | svcAddressWake
  /-- STEWARD_SERVE_REQUEST (R327): The lead steward takes the next waiting ADP or service-port request in order of arrival and serves it. -/
  | stewardServeRequest
  /-- ADC_CONVERSION_DONE (R124): A raw code is ready 18 ADC clocks after its hold and the auto-ranging rules decide the range. -/
  | adcConversionDone (n : Nat) (raw : Int) (outside : Bool) (lag : Nat) (bins : Nat)
  /-- RANGE_SETTLED (R128): The 30 ADC clock settling of the gain path after a range change ends. -/
  | rangeSettled (n : Nat)
  /-- ANA_OPERATION_DONE (R127): A KIND 0 analogue operation completes and writes its sample words and optional stamp. -/
  | anaOperationDone (n : Nat)
  /-- CODE_BURST_DONE (R148): A coded-light burst ends, writes its correlated or raw results and releases its governor slot. -/
  | codeBurstDone (n : Nat) (isOpen : Bool) (noreg : Bool)
  /-- SINGLE_SLOPE_END (R138): A single-slope conversion ends at C0's edge, the ramp end or the maximum elapsed time, and writes its sample word. -/
  | singleSlopeEnd (n : Nat) (elapsed : Nat) (rampEnd : Bool) (atMax : Bool)
  /-- COMPARATOR_EDGE (R132): A comparator output changes state and feeds the trip path and the latched path. -/
  | comparatorEdge (n : Nat) (j : Nat) (tripped : Bool) (bins : Nat)
  /-- MAJORITY_SAMPLE (R139): A trip signal's majority filter samples at MAJ_INTERVAL and sets its latch when MAJ_N of MAJ_M samples are tripped. -/
  | majoritySample (n : Nat) (j : Nat)
  /-- TRIP_FILTER_EXPIRY (R141): A gated trip has been present for its TRIP_FILT time and passes to the pulse generators and safety-output logic. -/
  | tripFilterExpiry (n : Nat) (j : Nat)
  /-- CMP_LATCH_CLEAR (R140): An engine writes 1 to a comparator latch bit, or the dictionary clears it, unless the vote is still tripped. -/
  | cmpLatchClear (n : Nat) (mask : Nat)
  /-- CMP_DAC_WRITE (R136): An engine writes CMP_DAC; unlocked DAC fields take effect and locked fields are dropped with WR_DROPPED. -/
  | cmpDacWrite (n : Nat) (value : Word)
  /-- PG_START (R145): A pulse generator starts on a write of 1 to its RUN bit or an edge of its START_LINE. -/
  | pgStart (n : Nat) (g : Nat)
  /-- PG_STOP (R145): A write of 0 to a RUN bit stops the generator after the pulse in progress. -/
  | pgStop (n : Nat) (g : Nat)
  /-- PG_PERIOD_START (R145): A pulse generator period starts and begins a pulse unless a trip skips or holds it. -/
  | pgPeriodStart (n : Nat) (g : Nat)
  /-- PG_PULSE_END (R145): A generator pulse reaches WIDTH and ends; a BURST generator stops after PCOUNT pulses. -/
  | pgPulseEnd (n : Nat) (g : Nat)
  /-- PG_TRIP (R146): A trip of TRIP_SRC reaches a pulse generator and truncates or holds it according to TRIP_ACT. -/
  | pgTrip (n : Nat) (g : Nat)
  /-- PG_HELD_CLEAR (R146): A write of 1 to PG0_HELD or PG1_HELD releases a generator held by SHUTDOWN. -/
  | pgHeldClear (n : Nat) (g : Nat)
  /-- CONTEXT_LAUNCH (R151): At an entry's nominal instant the rota chooses a context of the engine's bench and makes it ready, or records BENCHFULL. -/
  | contextLaunch (d : Nat) (entry : Nat)
  /-- CONTEXT_DISPATCH (R152): The engine becomes free and switches to the oldest ready context in 3 SYS cycles. -/
  | contextDispatch (e : Nat)
  /-- ADD (R157): ALU FN 0 adds two registers and sets ZNCV. -/
  | add (e : Nat) (rd : BitVec 4) (ra : BitVec 4) (rb : BitVec 4)
  /-- SUB (R157): ALU FN 1 subtracts two registers and sets ZNCV. -/
  | sub (e : Nat) (rd : BitVec 4) (ra : BitVec 4) (rb : BitVec 4)
  /-- AND (R157): ALU FN 2 forms the bitwise AND of two registers. -/
  | and (e : Nat) (rd : BitVec 4) (ra : BitVec 4) (rb : BitVec 4)
  /-- OR (R157): ALU FN 3 forms the bitwise OR of two registers. -/
  | or (e : Nat) (rd : BitVec 4) (ra : BitVec 4) (rb : BitVec 4)
  /-- XOR (R157): ALU FN 4 forms the bitwise XOR of two registers. -/
  | xor (e : Nat) (rd : BitVec 4) (ra : BitVec 4) (rb : BitVec 4)
  /-- SHL (R157): ALU FN 5 shifts left by rb[4:0]. -/
  | shl (e : Nat) (rd : BitVec 4) (ra : BitVec 4) (rb : BitVec 4)
  /-- SHR (R157): ALU FN 6 shifts right with zero fill. -/
  | shr (e : Nat) (rd : BitVec 4) (ra : BitVec 4) (rb : BitVec 4)
  /-- SAR (R157): ALU FN 7 shifts right with sign fill. -/
  | sar (e : Nat) (rd : BitVec 4) (ra : BitVec 4) (rb : BitVec 4)
  /-- ADDS (R157): ALU FN 8 adds with saturation. -/
  | adds (e : Nat) (rd : BitVec 4) (ra : BitVec 4) (rb : BitVec 4)
  /-- SUBS (R157): ALU FN 9 subtracts with saturation. -/
  | subs (e : Nat) (rd : BitVec 4) (ra : BitVec 4) (rb : BitVec 4)
  /-- MUL (R157): ALU FN 10 returns the low word of the product. -/
  | mul (e : Nat) (rd : BitVec 4) (ra : BitVec 4) (rb : BitVec 4)
  /-- MULH (R157): ALU FN 11 returns the high word of the signed product. -/
  | mulh (e : Nat) (rd : BitVec 4) (ra : BitVec 4) (rb : BitVec 4)
  /-- MULHU (R157): ALU FN 12 returns the high word of the unsigned product. -/
  | mulhu (e : Nat) (rd : BitVec 4) (ra : BitVec 4) (rb : BitVec 4)
  /-- MULQ (R157): ALU FN 13 returns the saturated Q31 product. -/
  | mulq (e : Nat) (rd : BitVec 4) (ra : BitVec 4) (rb : BitVec 4)
  /-- MIN (R157): ALU FN 14 returns the signed minimum. -/
  | min (e : Nat) (rd : BitVec 4) (ra : BitVec 4) (rb : BitVec 4)
  /-- MAX (R157): ALU FN 15 returns the signed maximum. -/
  | max (e : Nat) (rd : BitVec 4) (ra : BitVec 4) (rb : BitVec 4)
  /-- MINU (R157): ALU FN 16 returns the unsigned minimum. -/
  | minu (e : Nat) (rd : BitVec 4) (ra : BitVec 4) (rb : BitVec 4)
  /-- MAXU (R157): ALU FN 17 returns the unsigned maximum. -/
  | maxu (e : Nat) (rd : BitVec 4) (ra : BitVec 4) (rb : BitVec 4)
  /-- ABS (R157): ALU FN 18 returns the saturated absolute value. -/
  | abs (e : Nat) (rd : BitVec 4) (ra : BitVec 4)
  /-- ADDI (R156): Adds a sign-extended immediate to a register. -/
  | addi (e : Nat) (rd : BitVec 4) (ra : BitVec 4) (imm : BitVec 18)
  /-- ANDI (R156): ANDs a zero-extended immediate into a register. -/
  | andi (e : Nat) (rd : BitVec 4) (ra : BitVec 4) (imm : BitVec 18)
  /-- ORI (R156): ORs a zero-extended immediate into a register. -/
  | ori (e : Nat) (rd : BitVec 4) (ra : BitVec 4) (imm : BitVec 18)
  /-- XORI (R156): XORs a zero-extended immediate into a register. -/
  | xori (e : Nat) (rd : BitVec 4) (ra : BitVec 4) (imm : BitVec 18)
  /-- SHLI (R156): Shifts left by an immediate count. -/
  | shli (e : Nat) (rd : BitVec 4) (ra : BitVec 4) (n : BitVec 5)
  /-- SHRI (R156): Shifts right logically by an immediate count. -/
  | shri (e : Nat) (rd : BitVec 4) (ra : BitVec 4) (n : BitVec 5)
  /-- SARI (R156): Shifts right arithmetically by an immediate count. -/
  | sari (e : Nat) (rd : BitVec 4) (ra : BitVec 4) (n : BitVec 5)
  /-- LUI (R156): Loads an 18-bit immediate shifted left by 14. -/
  | lui (e : Nat) (rd : BitVec 4) (imm : BitVec 18)
  /-- CMPI (R156): Sets flags from a register less an immediate. -/
  | cmpi (e : Nat) (ra : BitVec 4) (imm : BitVec 18)
  /-- ADDSI (R156): Adds an immediate with saturation. -/
  | addsi (e : Nat) (rd : BitVec 4) (ra : BitVec 4) (imm : BitVec 18)
  /-- LW (R159): Loads a word from scratch memory. -/
  | lw (e : Nat) (rd : BitVec 4) (ra : BitVec 4) (imm : BitVec 18)
  /-- LH (R159): Loads a sign-extended halfword from scratch memory. -/
  | lh (e : Nat) (rd : BitVec 4) (ra : BitVec 4) (imm : BitVec 18)
  /-- LHU (R159): Loads a zero-extended halfword from scratch memory. -/
  | lhu (e : Nat) (rd : BitVec 4) (ra : BitVec 4) (imm : BitVec 18)
  /-- LB (R159): Loads a sign-extended byte from scratch memory. -/
  | lb (e : Nat) (rd : BitVec 4) (ra : BitVec 4) (imm : BitVec 18)
  /-- LBU (R159): Loads a zero-extended byte from scratch memory. -/
  | lbu (e : Nat) (rd : BitVec 4) (ra : BitVec 4) (imm : BitVec 18)
  /-- SW (R159): Stores a word to scratch memory. -/
  | sw (e : Nat) (rd : BitVec 4) (ra : BitVec 4) (imm : BitVec 18)
  /-- SH (R159): Stores a halfword to scratch memory. -/
  | sh (e : Nat) (rd : BitVec 4) (ra : BitVec 4) (imm : BitVec 18)
  /-- SB (R159): Stores a byte to scratch memory. -/
  | sb (e : Nat) (rd : BitVec 4) (ra : BitVec 4) (imm : BitVec 18)
  /-- IN (R160): Reads an I/O register after alignment, range and ownership checks. -/
  | ioIn (e : Nat) (rd : BitVec 4) (ra : BitVec 4) (imm : BitVec 18)
  /-- OUT (R160): Writes an I/O register after alignment, range and ownership checks. -/
  | ioOut (e : Nat) (rd : BitVec 4) (ra : BitVec 4) (imm : BitVec 18)
  /-- PAIR_WORD_WRITE (R175): A write of PAIR_WORD in a safety-pair entry folds the word into the entry's pair digest. -/
  | pairWordWrite (e : Nat) (value : Word)
  /-- REGISTER_WRITE (R87): An engine writes a port or engine register that has no step of its own, such as PIN_OUT, PIN_OE, XFER_CFG or a W1C flag. -/
  | registerWrite (e : Nat) (addr : Nat) (value : Word)
  /-- B (R161): Branches to an absolute target when the condition code holds. -/
  | branch (e : Nat) (cond : BitVec 4) (tgt : BitVec 10)
  /-- JAL (R156): Stores PC + 1 and jumps to an absolute target. -/
  | jal (e : Nat) (rd : BitVec 4) (tgt : BitVec 10)
  /-- JR (R161): Jumps to the address held in a register. -/
  | jr (e : Nat) (ra : BitVec 4)
  /-- TW (R98): Issues a two-wire descriptor on a port and returns a ticket. -/
  | issueTw (e : Nat) (rd : BitVec 4) (rh : BitVec 4) (ra : BitVec 4) (doff : BitVec 8)
  /-- SPI (R163): Issues an SPI descriptor on a port and returns a ticket. -/
  | issueSpi (e : Nat) (rd : BitVec 4) (rh : BitVec 4) (ra : BitVec 4) (doff : BitVec 8)
  /-- UART (R164): Issues a UART descriptor on a port and returns a ticket. -/
  | issueUart (e : Nat) (rd : BitVec 4) (rh : BitVec 4) (ra : BitVec 4) (doff : BitVec 8)
  /-- ANA (R125): Issues an analogue descriptor on a port and returns a ticket. -/
  | issueAna (e : Nat) (rd : BitVec 4) (rh : BitVec 4) (ra : BitVec 4) (doff : BitVec 8)
  /-- PULSE (R165): Issues a single emitter pulse on a port and returns a ticket. -/
  | issuePulse (e : Nat) (rd : BitVec 4) (rh : BitVec 4)
  /-- TRANSACTION_SLOT_FREE (R162): A transaction slot retires while a context waits for one, and the context's issue proceeds. -/
  | transactionSlotFree (d : Nat)
  /-- STAMP (R169): Copies CSTAMP into two registers. -/
  | stampRead (e : Nat) (rd : BitVec 4) (ra : BitVec 4)
  /-- EMIT (R171): Writes a record of N payload words to a stream of the die's granary. -/
  | emit (e : Nat) (rs : BitVec 4) (ra : BitVec 4) (n : BitVec 4)
  /-- EMIT_S (R171): Writes a record as EMIT does, with the STALE flag set. -/
  | emitS (e : Nat) (rs : BitVec 4) (ra : BitVec 4) (n : BitVec 4)
  /-- MILL (R172): Submits a sample word to a mill channel, which accepts, discards or restarts on it. -/
  | millSubmit (e : Nat) (rc : BitVec 4) (ra : BitVec 4) (rb : BitVec 4)
  /-- SIEVE (R173): Offers a signed value to a sieve rule. -/
  | sieveOffer (e : Nat) (rr : BitVec 4) (ra : BitVec 4)
  /-- SIGNAL_LOW (R174): Drives an engine line of the parish low. -/
  | signalLow (e : Nat) (ra : BitVec 4)
  /-- SIGNAL_HIGH (R174): Drives an engine line of the parish high. -/
  | signalHigh (e : Nat) (ra : BitVec 4)
  /-- SIGNAL_PULSE (R174): Drives a 4-SYS-cycle high pulse on an engine line. -/
  | signalPulse (e : Nat) (ra : BitVec 4)
  /-- AWAIT_COMP (R167): Waits for the operation of a ticket to complete and returns its completion word. -/
  | awaitComp (e : Nat) (rd : BitVec 4) (ra : BitVec 4)
  /-- AWAIT_EDGE (R167): Waits for an edge on a pin of an owned port. -/
  | awaitEdge (e : Nat) (rd : BitVec 4) (ra : BitVec 4) (pin : BitVec 2) (edge : BitVec 2)
  /-- AWAIT_TIME (R167): Waits for a number of 10 ns units of elapsed time. -/
  | awaitTime (e : Nat) (rd : BitVec 4) (ra : BitVec 4) (units : BitVec 16)
  /-- AWAIT_LINE (R167): Waits for a consumer line to be high or to rise. -/
  | awaitLine (e : Nat) (rd : BitVec 4) (ra : BitVec 4) (rise : Bool)
  /-- AWAIT_RESUME (R167): The awaited condition of a suspended context holds and the context becomes ready with its return value and stamp. -/
  | awaitResume (e : Nat) (c : Nat)
  /-- YIELD (R153): Ends the context, closes its pair digest and frees it. -/
  | yield (e : Nat)
  /-- TRAP (R176): Ends the context with fault TRAP and its code. -/
  | trap (e : Nat) (code : BitVec 8)
  /-- RESERVED_OPCODE (R176): An instruction with a reserved opcode, FN, COND or a non-zero reserved field raises ILLEGAL and ends the context. -/
  | reservedOpcode (e : Nat)
  /-- PCEND (R161): A context's PC passes 0x3FF without a branch and the context ends with PCEND. -/
  | pcend (e : Nat)
  /-- FRAME_BEGIN (R181): A rota frame of a die begins at its aligned network-time instant; bank swaps and standby takeovers take effect there. -/
  | frameBegin (d : Nat)
  /-- ENTRY_NOMINAL_INSTANT (R187): An entry's nominal instant arrives; a plain entry launches, a DRDY entry starts waiting for its edge, a gap opens the chain to calibration. -/
  | entryNominalInstant (d : Nat) (entry : Nat)
  /-- WINDOW_END (R190): An entry's window ends; a live context ends by budget, its operations are aborted, and a missed entry writes a stale record. -/
  | windowEnd (d : Nat) (entry : Nat)
  /-- NEXT_IMAGE_WRITE (R197): Host software writes a rota image to NEXT_IMAGE and the rota state becomes WRITTEN. -/
  | nextImageWrite (d : Nat) (p : Nat) (session : Nat) (image : List Byte)
  /-- MILL_OUTPUT_COMPUTED (R210): The MAC engine finishes computing a due mill output. -/
  | millOutputComputed (c : Nat)
  /-- MILL_SLOT (R208): A channel's 64-cycle slot in the mill round starts and releases its ready outputs as records and sieve offers. -/
  | millSlot (c : Nat)
  /-- MILL_ROUND (R212): A mill round boundary passes; a new coefficient bank is taken there after an apply. -/
  | millRound (d : Nat)
  /-- SIEVE_OFFER_EVAL (R217): The sieve evaluates the next queued offer for its rule, then the rules that take a changed OUT, and drives events, lines, crier and verdicts. -/
  | sieveOfferEval (d : Nat)
  /-- SIEVE_TIMER_EXPIRY (R218): A rule's time window expires at the 1 µs check and is evaluated as an offer. -/
  | sieveTimerExpiry (r : Nat)
  /-- SIEVE_SILENCE_EXPIRY (R221): A rule receives no offer for SILENCE, becomes unprimed with OUT at FAIL_VALUE and writes a fault record. -/
  | sieveSilenceExpiry (r : Nat)
  /-- MAX_AGE_EXPIRY (R241): An undelivered record reaches its stream's MAX_AGE and triggers delivery or a crier reason. -/
  | maxAgeExpiry (k : Nat)
  /-- BATCH_ASSEMBLE (R242): The lead steward assembles a parish's batch with a leading anchor, due records in order, and discards over-age records. -/
  | batchAssemble (p : Nat)
  /-- CRIER_WAKE (R245): A crier reason for a sleeping parish's host asserts HOST_WAKE and sends an EVENT frame. -/
  | crierWake (p : Nat)
  /-- WAKE_HOLD_EXPIRY (R245): WAKE_HOLD passes and HOST_WAKE is released. -/
  | wakeHoldExpiry
  /-- WAKE_RETRY_EXPIRY (R245): WAKE_RETRY passes without acknowledgement while a reason holds and the wake is repeated. -/
  | wakeRetryExpiry (p : Nat)
  /-- LOG_FLUSH_EXPIRY (R253): LOG_FLUSH passes after the first record of an open CONTINUOUS page and the page is committed. -/
  | logFlushExpiry (d : Nat) (p : Nat)
  /-- NV_PAGE_WRITE_DONE (R251): A die finishes writing an NV page, with group retries, page retirement and spares as needed. -/
  | nvPageWriteDone (d : Nat) (p : Nat) (retries : Nat) (ok : Bool)
  /-- LOG_TRIGGER (R253): A write of 1 to LOG_TRIGGER starts a capture on every die of the parish. -/
  | logTrigger (p : Nat)
  /-- CAPTURE_START (R253): A capture of a parish starts and pins its records from LOG_PRE before the trigger. -/
  | captureStart (d : Nat) (p : Nat)
  /-- CAPTURE_END (R253): LOG_POST after the last trigger passes and the capture's last page is committed. -/
  | captureEnd (d : Nat) (p : Nat)
  /-- WEAR_LEVEL_CHECK (R254): Every 10 s a die compares region wear and moves a block when the difference exceeds 2,000 writes. -/
  | wearLevelCheck (d : Nat)
  /-- NV_SCAN_DONE (R257): The NV log scan after reset completes, region heads are set and SCAN_DONE becomes 1. -/
  | nvScanDone (d : Nat)
  /-- TALLY_TICK (R261): A tally channel counts a tick; matches and wraps copy preloads and take their actions. -/
  | tallyTick (t : Nat)
  /-- TALLY_LINK_ACTION (R269): An action on a linked tally channel takes effect one SYS cycle after its cause. -/
  | tallyLinkAction (t : Nat)
  /-- TALLY_START (R268): A write of CTL = 1 starts a tally channel. -/
  | tallyStart (t : Nat)
  /-- TALLY_STOP (R268): A write of CTL = 2 stops a tally channel. -/
  | tallyStop (t : Nat)
  /-- TALLY_RESET (R268): A write of CTL = 3 resets a tally channel. -/
  | tallyReset (t : Nat)
  /-- UNIT_START (R268): The start bits of UNIT_CTL start the named channels in one SYS cycle. -/
  | unitStart (u : Nat) (mask : Nat)
  /-- UNIT_RESET (R268): The reset bits of UNIT_CTL reset the named channels in one SYS cycle, before any starts. -/
  | unitReset (u : Nat) (mask : Nat)
  /-- TOP_WRITE (R262): A write of TOP loads the preload, copied at the next wrap or at once when idle. -/
  | topWrite (t : Nat) (value : Nat)
  /-- CMP_WRITE (R262): A write of CMP loads the preload, copied at the next wrap or at once when idle. -/
  | cmpWrite (t : Nat) (value : Nat)
  /-- TALLY_CAPTURE (R271): A confirmed capture edge latches COUNT into CAP_A, stamps it and offers it to the sieve. -/
  | tallyCapture (t : Nat) (rising : Bool)
  /-- TALLY_PAIRED_RISE (R272): In paired capture a rising edge latches COUNT into CAP_A and starts the width counter. -/
  | tallyPairedRise (t : Nat)
  /-- TALLY_PAIRED_FALL (R272): In paired capture a falling edge latches CAP_B and WIDTH and makes the capture. -/
  | tallyPairedFall (t : Nat)
  /-- MATRIX_ROW_CHANGE (R281): A matrix producer row changes level and the columns it is enabled into change and act on their sinks. -/
  | matrixRowChange (d : Nat) (r : Nat) (level : Bool)
  /-- CROSS_DIE_LINE_FAULT (R282): A cross-die line shows equal levels or its sender is lost; the receiver reads the FAIL level and faults its reeve. -/
  | crossDieLineFault (d : Nat) (line : Nat) (equal : Bool)
  /-- STATE_REQ_RUN (R293): A write of STATE_REQ = 2 requests RUN for a parish. -/
  | stateReqRun (p : Nat)
  /-- STATE_REQ_HALT (R293): A write of STATE_REQ = 4 requests HALT for a parish. -/
  | stateReqHalt (p : Nat)
  /-- PARISH_STATE_CHANGE (R293): A decided parish state change takes effect on each die at its first frame boundary. -/
  | parishStateChange (d : Nat) (p : Nat)
  /-- TEST_TIME_EXPIRY (R293): TEST_TIME elapses and a parish other than 1 moves from TEST to RUN. -/
  | testTimeExpiry (p : Nat)
  /-- KEY_WRITE (R297): A write of KEY sets or changes a parish key and closes its sessions on change. -/
  | keyWrite (p : Nat) (session : Nat) (value : List Byte)
  /-- SESSION_OPEN (R298): A host SESSION OPEN allocates a session number and returns the hub nonce. -/
  | sessionOpen (f : HostFrame)
  /-- SESSION_CONFIRM (R298): A host SESSION CONFIRM tagged under Ks opens the session. -/
  | sessionConfirm (f : HostFrame)
  /-- SESSION_CLOSE (R298): A host SESSION CLOSE ends the session. -/
  | sessionClose (f : HostFrame)
  /-- SESSION_IDLE_EXPIRY (R298): SESSION_IDLE passes without a valid frame and the session ends. -/
  | sessionIdleExpiry (n : Nat)
  /-- OPEN_BLOCK_EXPIRY (R301): The one-second refusal of OPEN after 8 failed CONFIRM steps ends. -/
  | openBlockExpiry (p : Nat)
  /-- ARM_REQ_WRITE (R302): A session of parish 1 writes ARM_REQ and ARM_STATE becomes ARMED. -/
  | armReqWrite (session : Nat) (value : Nat) (tagged : Bool)
  /-- ARM_WINDOW_EXPIRY (R302): ARM_WINDOW passes without the commit and ARM_STATE returns to IDLE. -/
  | armWindowExpiry
  /-- FW_IMAGE_WRITE (R306): A parish-0 session writes signed firmware into the inactive slot, which is then checked. -/
  | fwImageWrite (p : Nat) (session : Nat) (image : List Byte)
  /-- FW_CHECK_DONE (R305): The check of a written firmware slot ends and FW_STATE becomes READY or FAILED. -/
  | fwCheckDone
  /-- FW_SWITCH (R362): A write of FW_SWITCH selects the READY slot for the next reset. -/
  | fwSwitch (p : Nat) (session : Nat) (value : Nat)
  /-- ETH_FRAME_OTHER (R312): A received frame that is neither ADP nor PTP for the hub is discarded and counted. -/
  | ethFrameOther (n : Nat)
  /-- ADP_FRAME_REJECT (R316): A received ADP frame fails its FCS, version, header CRC, form or opcode check and is discarded or answered 0x0102. -/
  | adpFrameReject (n : Nat) (fcsOk : Bool) (raw : List Byte)
  /-- ADP_PING (R317): A host PING is answered with a RESPONSE that echoes its payload. -/
  | adpPing (f : HostFrame)
  /-- ADP_READ (R318): A host READ returns the value and status of each entry. -/
  | adpRead (f : HostFrame)
  /-- ADP_WRITE (R319): A host WRITE checks every entry and writes all of them in one step or none. -/
  | adpWrite (f : HostFrame)
  /-- ADP_READ_BLOCK (R320): A host READ_BLOCK returns a segment of an object value with its GENERATION. -/
  | adpReadBlock (f : HostFrame)
  /-- ADP_WRITE_BLOCK (R320): A host WRITE_BLOCK opens or continues a block transfer and writes the whole value at TOTAL. -/
  | adpWriteBlock (f : HostFrame)
  /-- BLOCK_TIMEOUT_EXPIRY (R320): A block transfer receives no segment for BLOCK_TIMEOUT, is discarded and the hub sends ABORT 0x0406. -/
  | blockTimeoutExpiry (k : Nat)
  /-- ADP_ABORT (R321): A host ABORT discards the named block transfer or waiting request. -/
  | adpAbort (f : HostFrame)
  /-- ADP_STREAM_REQUEST (R322): A host STREAM request asks for delivery of the named streams, answered per entry and followed by batches. -/
  | adpStreamRequest (f : HostFrame)
  /-- SLEEP_VOTE_SLEEP (R333): A host SLEEP vote sets the parish's HOST_ASLEEP with its TARGET. -/
  | sleepVoteSleep (f : HostFrame)
  /-- SLEEP_VOTE_STAY (R333): A host STAY vote clears HOST_ASLEEP and cancels a pending agreement. -/
  | sleepVoteStay (f : HostFrame)
  /-- ADP_WAKE_NOTICE (R325): A host WAKE_NOTICE acknowledges the crier's wake and ends host-asleep status. -/
  | adpWakeNotice (f : HostFrame)
  /-- ADP_HUB_OPCODE_RECEIVED (R317): A host frame with a hub-only or reserved opcode is answered 0x0102. -/
  | adpHubOpcodeReceived (op : Nat) (f : HostFrame)
  /-- DELIVERY_WINDOW_OPEN (R331): A delivery window opens on a port and waiting STREAM parts of its parishes pass to the MAC or are withheld. -/
  | deliveryWindowOpen (n : Nat) (k : Nat)
  /-- ANNOUNCE_PERIOD_EXPIRY (R325): ANNOUNCE_PERIOD passes and the hub sends ANNOUNCE on each port. -/
  | announcePeriodExpiry (n : Nat)
  /-- PLCA_CYCLE (R311): A PLCA cycle begins and node 0 sends a BEACON. -/
  | plcaCycle (n : Nat)
  /-- PLCA_INACTIVE (R311): PLCA status goes inactive on a non-coordinator T1S port and it falls back to CSMA/CD. -/
  | plcaInactive (n : Nat)
  /-- LINK_DOWN (R338): A port's link-loss condition holds; LINK goes DOWN, a fault record is written and failover moves traffic. -/
  | linkDown (n : Nat)
  /-- LINK_UP (R338): A port's link returns to UP and ANNOUNCE is sent. -/
  | linkUp (n : Nat)
  /-- FAILBACK (R339): A failed port has been UP for FAILBACK_TIME and destinations return to it. -/
  | failback (n : Nat)
  /-- TX_DISCARD_TIMEOUT (R340): A frame waits 1 s with its port and fallback down and is discarded. -/
  | txDiscardTimeout (n : Nat)
  /-- SLEEP_AGREEMENT (R334): Every voter's host is asleep with no cancellation cause; VOTE_STATE becomes AGREED and AGREED is sent. -/
  | sleepAgreement
  /-- SLEEP_COMMIT_POINT (R334): SLEEP_GRACE after agreement passes; VOTE_STATE becomes COMMITTED and entry to the agreed state starts. -/
  | sleepCommitPoint
  /-- NETWORK_WAKE_ACTIVITY (R336): The energy detector recognises activity on a port with WAKE_MODE ACTIVITY and wakes the hub. -/
  | networkWakeActivity (n : Nat)
  /-- NETWORK_WAKE_PATTERN (R336): The energy detector recognises the 500 µs wake pattern and wakes the hub. -/
  | networkWakePattern (n : Nat)
  /-- COMMIT (R351): COMMIT action 1 checks the pending writes of the masked parishes, fixes T and later persists them. -/
  | commitPending (mask : Nat) (p : Nat) (session : Nat)
  /-- APPLY (R351): COMMIT action 2 checks and applies the pending writes without persisting them. -/
  | applyPending (mask : Nat) (p : Nat) (session : Nat)
  /-- DISCARD (R351): COMMIT action 3 drops the pending writes of the masked parishes. -/
  | discardPending (mask : Nat) (p : Nat)
  /-- COMMIT_DIE_APPLY (R351): At its first frame boundary at or after T, a die applies the committed writes for its resources. -/
  | commitDieApply (d : Nat)
  /-- PERSIST_DONE (R352): The persisted set is written and verified in the other copy, marked current, and COMMIT_STATE becomes DONE. -/
  | persistDone (erases : Nat)
  /-- SO_RELEASE (R366): A tagged parish-1 write of SO_RELEASE releases outputs whose requests have cleared. -/
  | soRelease (value : Nat)
  /-- RESTART_DELAY_EXPIRY (R366): In AUTO mode no request has been present for RESTART_DELAY and the output is released. -/
  | restartDelayExpiry (d : Nat) (o : Nat)
  /-- TWTRIP_IN_TRIP (R367): TWTRIP_IN goes low after its deglitch filter and requests off the outputs of TWTRIP_MAP. -/
  | twtripInTrip
  /-- LOCKSTEP_MISMATCH (R373): The two steward cores of a die differ in an output and a LOCKSTEP fault is raised. -/
  | lockstepMismatch (d : Nat)
  /-- WATCHDOG_SERVICE (R373): The steward services the windowed watchdog; a service outside 0.75 ms to 1.25 ms is a WATCHDOG fault. -/
  | watchdogService (d : Nat)
  /-- WATCHDOG_TIMEOUT (R373): No watchdog service arrives by 1.25 ms and a WATCHDOG fault is raised. -/
  | watchdogTimeout (d : Nat)
  /-- CLOCK_MONITOR_FAULT (R374): A clock leaves its expected frequency band over its measurement time and a CLOCK fault is raised. -/
  | clockMonitorFault (d : Nat) (detail : Nat) (measured : Nat)
  /-- SUPPLY_MONITOR_FAULT (R374): A core rail, port rail or VIN leaves its band and a SUPPLY fault is raised. -/
  | supplyMonitorFault (d : Nat) (detail : Nat) (measured : Nat)
  /-- THERMAL_WARNING (R374): A die reaches 135 °C; THERMAL 0x01 is recorded and the dies step down. -/
  | thermalWarning (d : Nat) (temp : Int)
  /-- THERMAL_SHUTDOWN (R438): A die reaches 150 °C; the outputs go safe, any page group completes, and the part resets. -/
  | thermalShutdown (d : Nat) (temp : Int) (torn : List Nat) (groups : List Nat)
  /-- TRIP_TEST_PULSE_START (R375): A 2 µs trip-test pulse starts on SO_A or SO_B and the test is injected into every trip source of that output. -/
  | tripTestPulseStart (d : Nat) (o : Nat)
  /-- TRIP_TEST_DEADLINE (R375): A tap, pin-fall or pin-return deadline of a test pulse passes and the check raises TRIPTEST when it fails. -/
  | tripTestDeadline (d : Nat) (kind : Nat) (ok : Bool) (src : Nat)
  /-- TRIP_TEST_PULSE_END (R375): A trip-test pulse ends and the output is restored. -/
  | tripTestPulseEnd (d : Nat)
  /-- OUTPUT_READBACK_FAULT (R376): An output pin disagrees with its command for more than 100 µs and OUTPUT 0x01 or 0x02 is raised. -/
  | outputReadbackFault (d : Nat) (o : Nat) (high : Bool)
  /-- SO_CURRENT_LIMIT_EXPIRY (R477): An output stays in current limit for more than 1 ms and turns off for at least 10 ms. -/
  | soCurrentLimitExpiry (d : Nat) (o : Nat)
  /-- PAIR_DIGEST_COMPARE (R378): Exchanged pair digests arrive and the reeves compare them, raising PAIR on mismatch or repeated absence. -/
  | pairDigestCompare (d : Nat) (entry : Nat)
  /-- RETIRE (R380): A tagged parish-1 write of RETIRE retires an engine and hands its entries to its standby. -/
  | retireEngine (value : Nat)
  /-- RECOVERY_CAUSE_CLEARED (R382): The RECOVERY cause has been absent for 100 ms and, with the release condition and start-up tests, parish 1 returns to RUN. -/
  | recoveryCauseCleared
  /-- LATCH_RESET (R384): A tagged parish-1 write of SAFETY_DIGEST to LATCH_RESET leaves LATCHED SAFE and enters TEST. -/
  | latchReset (value : Nat)
  /-- TWIN_WORD_SEND (R388): Every 500 µs the hub sends a word to its twin. -/
  | twinWordSend
  /-- HELLO (R389): A valid HELLO word is received and matched; 3 consecutive matches enter PAIRED. -/
  | twinHello (w : TwinWord)
  /-- VERDICT (R390): A valid VERDICT word is compared with the hub's own state and disagreements are counted. -/
  | twinVerdict (w : TwinWord)
  /-- DETACH (R392): A DETACH word is received and the hub enters ALONE. -/
  | twinDetach (w : TwinWord)
  /-- REST (R392): A REST word is received and the hub enters SEEKING. -/
  | twinRest (w : TwinWord)
  /-- TWIN_WORD_INVALID (R388): A twin word with a bad CRC, SEQ or reserved bit is discarded and counted in WORDS_BAD. -/
  | twinWordInvalid
  /-- TWIN_LOST (R391): No valid twin word arrives for 1.5 ms while PAIRED; the hub enters DEGRADED and raises TWIN 0x01. -/
  | twinLost
  /-- LOST_RQ_TIME_EXPIRY (R391): DEGRADED lasts LOST_RQ_TIME and RQ_REASON bit 4 is set. -/
  | lostRqTimeExpiry
  /-- POWER_CMD_RUN (R405): A write of POWER_CMD 0 requests RUN. -/
  | powerCmdRun
  /-- POWER_CMD_SLEEP (R405): A write of POWER_CMD 2 starts entry to SLEEP. -/
  | powerCmdSleep
  /-- POWER_CMD_DEEP_SLEEP (R405): A write of POWER_CMD 3 starts entry to DEEP SLEEP. -/
  | powerCmdDeepSleep
  /-- POWER_CMD_OFF (R405): A write of POWER_CMD 4 starts entry to OFF. -/
  | powerCmdOff
  /-- IDLE_TIME_EXPIRY (R405): IDLE_TIME passes without a request and the hub enters IDLE. -/
  | idleTimeExpiry
  /-- SLEEP_TIME_EXPIRY (R405): SLEEP_TIME passes without activity and entry to SLEEP starts. -/
  | sleepTimeExpiry
  /-- DEEP_TIME_EXPIRY (R405): DEEP_TIME passes in SLEEP without a wake and entry to DEEP SLEEP starts. -/
  | deepTimeExpiry
  /-- STORAGE_TIME_EXPIRY (R405): STORAGE_TIME passes in DEEP SLEEP without a wake and entry to OFF starts. -/
  | storageTimeExpiry
  /-- DRAIN_EXPIRY (R407): The 200 µs drain of a powered-down domain ends; remaining contexts end and their operations complete ABORTED_BY_POWER. -/
  | drainExpiry
  /-- POWER_STATE_REACHED (R406): An entry completes and the hub is in SLEEP, DEEP SLEEP or OFF, starting a return at once if a wake was latched. -/
  | powerStateReached
  /-- WAKE_PIN_LEVEL (R409): WAKE is held high for 50 µs in level mode and wakes the hub. -/
  | wakePinLevel
  /-- WAKE_PIN_EDGE (R409): A rising edge on WAKE in edge mode wakes the hub. -/
  | wakePinEdge
  /-- WAKE_PIN_START (R409): WAKE held high for 10 ms in OFF starts the hub. -/
  | wakePinStart
  /-- COMPARATOR_WAKE (R409): A kept trip signal of a wake port trips in SLEEP or DEEP SLEEP and wakes the hub. -/
  | comparatorWake (n : Nat)
  /-- AON_TALLY_WAKE (R409): The AON tally matches and wakes the hub. -/
  | aonTallyWake
  /-- TWIN_WAKE (R409): Activity on TWRX for 100 µs wakes the hub. -/
  | twinWake
  /-- SENTINEL_CRIER_WAKE (R409): A crier request of a sentinel rule in SLEEP asserts HOST_WAKE and returns the hub to RUN. -/
  | sentinelCrierWake (r : Nat)
  /-- WAKE_AFTER_EXPIRY (R409): The WAKE_AFTER timer expires and wakes the hub. -/
  | wakeAfterExpiry
  /-- RETURN_COMPLETE (R410): The return sequence ends with POWER_STATE 0 and a RETURN record, and waiting requests are evaluated. -/
  | returnComplete (origin : Nat)
  /-- OP_SET (R401): A write of OP_SET names target points and fixes T_OP for the switch. -/
  | opSet (value : Nat)
  /-- VOLTAGE_CONFIRMED (R400): The supply monitor confirms a core voltage setpoint after 5 µs within ±2 %. -/
  | voltageConfirmed (d : Nat)
  /-- OP_SWITCH_PAUSE (R401): At the first frame boundary after T_OP and a confirmed voltage, frames pause and SYS moves to the FRC. -/
  | opSwitchPause (d : Nat)
  /-- SYS_PLL_CHECKED (R401): The reprogrammed SYS PLL locks and agrees with REF, and SYS switches to it. -/
  | sysPllChecked (d : Nat)
  /-- RELOCK_TIMEOUT (R403): Lock or check is not reached within 200 µs; the die retries once, then faults and is treated as lost. -/
  | relockTimeout (d : Nat)
  /-- CONVERTER_DERATE (R404): A converter phase fault, converter temperature of 140 °C or thermal warning steps every die to its lowest point. -/
  | converterDerate (detail : Nat) (item : Nat) (temp : Int)
  /-- DERATE_CLEAR (R404): The temperature has stayed below 125 °C for 10 s and the thermal derating cause clears. -/
  | derateClear
  /-- SCRUB_WORD (R418): The scrub port reads a control-memory word, corrects a single-bit error or reports an uncorrectable one. -/
  | scrubWord (d : Nat) (err : Nat) (kind : Nat) (item : Nat) (sub : Nat)
  /-- RELOAD_COPY_WRITE (R422): A die finishes writing the reload copy of an applied structure into firmware NV. -/
  | reloadCopyWrite (d : Nat) (idx : Nat) (erases : Nat)
  /-- RELOAD_APPLY (R422): At the first frame boundary at least 2 ms after detection, a die re-applies a damaged structure from its reload copy. -/
  | reloadApply (d : Nat) (idx : Nat) (bad : List (Nat × Nat))
  /-- ROTA_FAILOVER (R423): A die loads and checks the reload copy of its active rota and swaps at the next frame boundary. -/
  | rotaFailover (d : Nat) (bad : List (Nat × Nat))
  /-- TEMPERATURE_CHECK (R426): Every 10 ms the die temperature is measured and calibration made due when it moved beyond DELTA_T_CAL. -/
  | temperatureCheck (d : Nat) (temp : Int)
  /-- CAL_REQ (R426): The port's parish writes CAL_REQ and calibration becomes due. -/
  | calReq (n : Nat)
  /-- CAL_ITEM_DONE (R429): A calibration item ends and its result is judged for plausibility and spare use. -/
  | calItemDone (n : Nat) (item : Nat) (values : List Int) (bad : List Nat)
  /-- FORCED_CAL_WINDOW (R430): A port at twice DELTA_T_CAL with an incomplete run is taken offline for up to 200 µs when no operation is active. -/
  | forcedCalWindow (n : Nat)
  /-- TELEMETRY_INSTANT (R435): At each aligned TELEM_PERIOD instant every die writes a telemetry record. -/
  | telemetryInstant
  /-- VIN_VALID (R439): VIN stays above 8.8 V for 100 µs and the start-up sequence runs. -/
  | vinValid (vinMv : Nat) (low : Bool) (strap : Bool) (svcAddr : Nat) (testen : Bool) (nvBad : List (Nat × Nat × Nat)) (fwBad : Nat)
  /-- VIN_DIP (R438): VIN falls below 8.5 V for 1 ms or below 7.0 V and the hub resets. -/
  | vinDip (torn : List (Nat × Nat)) (masks : List Nat)
  /-- RESET (R438): A write of 0x0000_5A5A to RESET resets the hub. -/
  | resetWrite (value : Nat)
  /-- DIE_STARTUP_TIMEOUT (R439): A die has not completed start-up step 7 by 22.5 ms and is treated as lost. -/
  | dieStartupTimeout (d : Nat)
  /-- THERMAL_RESTART (R438): After a thermal shutdown every die reads below 125 °C and the hub restarts. -/
  | thermalRestart (temps : List Int)
  /-- SELFTEST (R458): A write of 1 to SELFTEST in PROD_MODE starts the functional self-test. -/
  | selfTest (value : Nat)
  /-- SELFTEST_DONE (R458): The self-test ends and SELFTEST_RESULT reports each die. -/
  | selfTestDone (failed : Nat)
  /-- PORT_LOOP_L0 (R452): PORT_LOOP depth 1 runs a controller loopback before the pad. -/
  | portLoopL0 (n : Nat)
  /-- PORT_LOOP_L1 (R452): PORT_LOOP depth 2 runs a loopback through the pad drivers. -/
  | portLoopL1 (n : Nat)
  /-- PORT_LOOP_L2 (R452): PORT_LOOP depth 3 runs an analogue loopback from the DAC through PGA, ADC and comparators. -/
  | portLoopL2 (n : Nat)
  /-- PORT_LOOP_L3 (R452): PORT_LOOP depth 4 runs an external fixture loopback with an emitter pulse. -/
  | portLoopL3 (n : Nat)
  /-- NET_LOOP_MAC (R453): NET_LOOP depth 1 loops 100 frames at the MAC. -/
  | netLoopMac (n : Nat) (via : Nat)
  /-- NET_LOOP_PCS (R453): NET_LOOP depth 2 loops 100 frames at the PCS. -/
  | netLoopPcs (n : Nat) (via : Nat)
  /-- NET_LOOP_PMA (R453): NET_LOOP depth 3 loops 100 frames at the PMA. -/
  | netLoopPma (n : Nat) (via : Nat)
  /-- NET_LOOP_REMOTE (R453): NET_LOOP depth 4 reflects received frames with swapped addresses until stopped or timed out. -/
  | netLoopRemote (n : Nat) (via : Nat)
  /-- REMOTE_FRAME_REFLECT (R453): In REMOTE, a received frame is sent back with addresses exchanged and FCS recomputed. -/
  | remoteFrameReflect (n : Nat) (raw : List Byte)
  /-- LOOP_TIMEOUT_EXPIRY (R453): LOOP_TIMEOUT passes and a REMOTE loopback ends. -/
  | loopTimeoutExpiry (n : Nat)
  /-- TWIN_LOOP_NEAR (R454): TWIN_LOOP depth 1 loops die 0's twin serialiser to its deserialiser. -/
  | twinLoopNear
  /-- TWIN_LOOP_FAR (R454): TWIN_LOOP depth 2 sends 65,536 words for the partner to return. -/
  | twinLoopFar
  /-- RING_LOOP (R454): RING_LOOP tests the link layer of one ring link while traffic runs the other way. -/
  | ringLoop (l : Nat)
  /-- LOOPBACK_DONE (R455): A loopback ends, writes its result word and returns LOOP to 0. -/
  | loopbackDone (kind : Nat) (n : Nat) (firstErr : Nat) (errors : Nat)
  /-- LEAD_HEARTBEAT_SEND (R18): Every 100 µs the lead die sends its heartbeat over the ring to every non-lead die. -/
  | leadHeartbeatSend
  /-- PTP_FOLLOW_UP_RECEIVE (R51): A Follow_Up arrives for a two-step Sync and completes the offset measurement that feeds the port's report and the servo. -/
  | ptpFollowUpReceive (n : Nat) (domain : Nat) (t1 : Int)
  /-- PTP_DELAY_REQUEST_RECEIVE (R51): A Delay_Req arrives at a port in the master role, which timestamps it and answers with a Delay_Resp. -/
  | ptpDelayRequestReceive (n : Nat) (domain : Nat) (peer : Bool)
  /-- ANNOUNCE_RECEIPT_TIMEOUT (R51): A port in the BMCA role receives no Announce within its announce receipt timeout, so its master is lost and the best master clock algorithm chooses its role again. -/
  | announceReceiptTimeout (n : Nat)
  /-- QUARANTINE_PROBE_PASSED (R89): A running probe meets its exit condition, namely RXD high for 1 ms or 10 ms without overload after PGOOD, and the probed reason leaves the set. -/
  | quarantineProbePassed (n : Nat) (reason : Nat)
  /-- TRANSMIT_OPPORTUNITY (R331): The hub's transmit opportunity on a port arrives; the MAC begins the next waiting frame, or withholds a window-bound frame that cannot end before the window end less DW_GUARD. -/
  | transmitOpportunity (n : Nat)
  /-- NET_LOOP_STOP (R453): A write of 0 to NET_LOOP through another port or the service port ends a REMOTE loopback. -/
  | netLoopStop (n : Nat) (via : Nat)
  /-- TWTRIP_IN_RELEASE (R367): TWTRIP_IN returns high, the twin's trip request on the outputs of TWTRIP_MAP clears, and the release rules of R366 begin to run. -/
  | twtripInRelease
  /-- MONITOR_RETURN_TO_BAND (R382): A monitored clock or supply returns within its band, which ends the fault cause and starts the 100 ms absence that RECOVERY_CAUSE_CLEARED waits for. -/
  | monitorReturnToBand (d : Nat) (cls : Nat) (detail : Nat)
  /-- SO_CURRENT_LIMIT_HOLDOFF_END (R477): The 10 ms off time after a current-limit turn-off ends, and the output may be energised again. -/
  | soCurrentLimitHoldoffEnd (d : Nat) (o : Nat)
deriving DecidableEq, Repr

end Sys2Proof
end

