-- ==== Sys2Proof/Decode.lean ====
section
/-! DEFINITION. The 32-bit words of the tap engines' instructions (R155 to R157, R161, R167, R171 to R174), and the host's
table-word entry. The commands of the hub themselves have no encoding: opcode_table.json gives no row bits. -/

namespace Sys2Proof

/-! ### Instruction formats (R155) -/

/-- Format R: OP, RD, RA, RB, bits 13:5 zero, FN. -/
def fmtR (op : BitVec 6) (rd ra rb : BitVec 4) (fn : BitVec 5) : BitVec 32 := op ++ rd ++ ra ++ rb ++ 0#9 ++ fn
/-- Format I: OP, RD, RA, IMM. -/
def fmtI (op : BitVec 6) (rd ra : BitVec 4) (imm : BitVec 18) : BitVec 32 := op ++ rd ++ ra ++ imm
/-- Format J: OP, COND or RD, RA, bits 17:10 zero, TGT. -/
def fmtJ (op : BitVec 6) (rd ra : BitVec 4) (tgt : BitVec 10) : BitVec 32 := op ++ rd ++ ra ++ 0#8 ++ tgt
/-- Format P: OP, RD, RH, RA, DOFF, bits 5:0 zero. -/
def fmtP (op : BitVec 6) (rd rh ra : BitVec 4) (doff : BitVec 8) : BitVec 32 := op ++ rd ++ rh ++ ra ++ doff ++ 0#6

/-- OP of a word. -/
def wOp (w : BitVec 32) : BitVec 6 := w.extractLsb' 26 6
/-- Bits 25:22 of a word. -/
def wRd (w : BitVec 32) : BitVec 4 := w.extractLsb' 22 4
/-- Bits 21:18 of a word. -/
def wRa (w : BitVec 32) : BitVec 4 := w.extractLsb' 18 4
/-- Bits 17:14 of a word. -/
def wRb (w : BitVec 32) : BitVec 4 := w.extractLsb' 14 4
/-- Bits 13:5 of a word. -/
def wMid (w : BitVec 32) : BitVec 9 := w.extractLsb' 5 9
/-- FN of a word. -/
def wFn (w : BitVec 32) : BitVec 5 := w.extractLsb' 0 5
/-- IMM of a word. -/
def wImm (w : BitVec 32) : BitVec 18 := w.extractLsb' 0 18
/-- TGT of a word. -/
def wTgt (w : BitVec 32) : BitVec 10 := w.extractLsb' 0 10
/-- DOFF of a word. -/
def wDoff (w : BitVec 32) : BitVec 8 := w.extractLsb' 6 8

/-! ### Decoding -/

/-- The R-format instruction of OP 0x00 that FN selects (R157); none for FN 19 to 31 and for ABS with RB not zero. -/
def decodeAlu (e : Nat) (rd ra rb : BitVec 4) (fn : Nat) : Option Instr :=
  match fn with
  | 0 => some (.add e rd ra rb)
  | 1 => some (.sub e rd ra rb)
  | 2 => some (.and e rd ra rb)
  | 3 => some (.or e rd ra rb)
  | 4 => some (.xor e rd ra rb)
  | 5 => some (.shl e rd ra rb)
  | 6 => some (.shr e rd ra rb)
  | 7 => some (.sar e rd ra rb)
  | 8 => some (.adds e rd ra rb)
  | 9 => some (.subs e rd ra rb)
  | 10 => some (.mul e rd ra rb)
  | 11 => some (.mulh e rd ra rb)
  | 12 => some (.mulhu e rd ra rb)
  | 13 => some (.mulq e rd ra rb)
  | 14 => some (.min e rd ra rb)
  | 15 => some (.max e rd ra rb)
  | 16 => some (.minu e rd ra rb)
  | 17 => some (.maxu e rd ra rb)
  | 18 => if rb = 0 then some (.abs e rd ra) else none
  | _ => none

/-- The AWAIT that IMM selects (R167): KIND in bits 17:16; unused bits and EDGE code 0 are reserved. -/
def decodeAwait (e : Nat) (rd ra : BitVec 4) (imm : BitVec 18) : Option Instr :=
  match (imm.extractLsb' 16 2).toNat with
  | 0 => if imm.extractLsb' 0 16 = 0 then some (.awaitComp e rd ra) else none
  | 1 => if imm.extractLsb' 4 12 = 0 ∧ imm.extractLsb' 2 2 ≠ 0
      then some (.awaitEdge e rd ra (imm.extractLsb' 0 2) (imm.extractLsb' 2 2)) else none
  | 2 => some (.awaitTime e rd ra (imm.extractLsb' 0 16))
  | _ => if imm.extractLsb' 1 15 = 0 then some (.awaitLine e rd ra (imm.getLsbD 0)) else none

/-- The SIGNAL that IMM selects (R174); code 3 and bits 17:2 are reserved. -/
def decodeSignal (e : Nat) (ra : BitVec 4) (imm : BitVec 18) : Option Instr :=
  match imm.toNat with
  | 0 => some (.signalLow e ra)
  | 1 => some (.signalHigh e ra)
  | 2 => some (.signalPulse e ra)
  | _ => none

/-- The instruction of engine e that a program word spells; none for a reserved opcode, FN or COND and for a non-zero
reserved field, which RESERVED_OPCODE takes (R156, R176). -/
def decodeWord (e : Nat) (w : BitVec 32) : Option Instr :=
  let rd := wRd w
  let ra := wRa w
  let rb := wRb w
  let imm := wImm w
  match (wOp w).toNat with
  | 0x00 => if wMid w = 0 then decodeAlu e rd ra rb (wFn w).toNat else none
  | 0x01 => some (.addi e rd ra imm)
  | 0x02 => some (.andi e rd ra imm)
  | 0x03 => some (.ori e rd ra imm)
  | 0x04 => some (.xori e rd ra imm)
  | 0x05 => if imm.extractLsb' 5 13 = 0 then some (.shli e rd ra (imm.extractLsb' 0 5)) else none
  | 0x06 => if imm.extractLsb' 5 13 = 0 then some (.shri e rd ra (imm.extractLsb' 0 5)) else none
  | 0x07 => if imm.extractLsb' 5 13 = 0 then some (.sari e rd ra (imm.extractLsb' 0 5)) else none
  | 0x08 => if ra = 0 then some (.lui e rd imm) else none
  | 0x09 => if rd = 0 then some (.cmpi e ra imm) else none
  | 0x0A => some (.addsi e rd ra imm)
  | 0x10 => some (.lw e rd ra imm)
  | 0x11 => some (.lh e rd ra imm)
  | 0x12 => some (.lhu e rd ra imm)
  | 0x13 => some (.lb e rd ra imm)
  | 0x14 => some (.lbu e rd ra imm)
  | 0x15 => some (.sw e rd ra imm)
  | 0x16 => some (.sh e rd ra imm)
  | 0x17 => some (.sb e rd ra imm)
  | 0x18 => some (.ioIn e rd ra imm)
  | 0x19 => some (.ioOut e rd ra imm)
  | 0x20 => if ra = 0 ∧ w.extractLsb' 10 8 = 0 ∧ rd.toNat ≤ 12 then some (.branch e rd (wTgt w)) else none
  | 0x21 => if ra = 0 ∧ w.extractLsb' 10 8 = 0 then some (.jal e rd (wTgt w)) else none
  | 0x22 => if rd = 0 ∧ imm = 0 then some (.jr e ra) else none
  | 0x28 => if w.extractLsb' 0 6 = 0 then some (.issueTw e rd ra rb (wDoff w)) else none
  | 0x29 => if w.extractLsb' 0 6 = 0 then some (.issueSpi e rd ra rb (wDoff w)) else none
  | 0x2A => if w.extractLsb' 0 6 = 0 then some (.issueUart e rd ra rb (wDoff w)) else none
  | 0x2B => if w.extractLsb' 0 6 = 0 then some (.issueAna e rd ra rb (wDoff w)) else none
  | 0x2C => if imm = 0 then some (.issuePulse e rd ra) else none
  | 0x30 => if imm = 0 then some (.stampRead e rd ra) else none
  | 0x31 => if w.extractLsb' 0 13 = 0 then (if w.getLsbD 13 then some (.emitS e rd ra rb) else some (.emit e rd ra rb))
      else none
  | 0x32 => if w.extractLsb' 0 14 = 0 then some (.millSubmit e rd ra rb) else none
  | 0x33 => if imm = 0 then some (.sieveOffer e rd ra) else none
  | 0x34 => if rd = 0 then decodeSignal e ra imm else none
  | 0x35 => decodeAwait e rd ra imm
  | 0x36 => if w.extractLsb' 0 26 = 0 then some (.yield e) else none
  | 0x37 => if rd = 0 ∧ ra = 0 ∧ imm.extractLsb' 8 10 = 0 then some (.trap e (imm.extractLsb' 0 8)) else none
  | _ => none

/-- Whether a program word is reserved: an opcode, FN or COND of no instruction, a reserved field that is not zero, or a
reserved code of AWAIT or SIGNAL. A program image with one is refused (R4, R13, R179), and one that executes raises ILLEGAL
(R176). -/
def wordReserved (w : BitVec 32) : Bool := (decodeWord 0 w).isNone

/-! ### Encoding -/

/-- The program word of an engine instruction, from the same tables; none for a command that is no instruction. -/
def encodeWord (i : Instr) : Option (BitVec 32) :=
  match i with
  | .add _ rd ra rb => some (fmtR 0x00 rd ra rb 0)
  | .sub _ rd ra rb => some (fmtR 0x00 rd ra rb 1)
  | .and _ rd ra rb => some (fmtR 0x00 rd ra rb 2)
  | .or _ rd ra rb => some (fmtR 0x00 rd ra rb 3)
  | .xor _ rd ra rb => some (fmtR 0x00 rd ra rb 4)
  | .shl _ rd ra rb => some (fmtR 0x00 rd ra rb 5)
  | .shr _ rd ra rb => some (fmtR 0x00 rd ra rb 6)
  | .sar _ rd ra rb => some (fmtR 0x00 rd ra rb 7)
  | .adds _ rd ra rb => some (fmtR 0x00 rd ra rb 8)
  | .subs _ rd ra rb => some (fmtR 0x00 rd ra rb 9)
  | .mul _ rd ra rb => some (fmtR 0x00 rd ra rb 10)
  | .mulh _ rd ra rb => some (fmtR 0x00 rd ra rb 11)
  | .mulhu _ rd ra rb => some (fmtR 0x00 rd ra rb 12)
  | .mulq _ rd ra rb => some (fmtR 0x00 rd ra rb 13)
  | .min _ rd ra rb => some (fmtR 0x00 rd ra rb 14)
  | .max _ rd ra rb => some (fmtR 0x00 rd ra rb 15)
  | .minu _ rd ra rb => some (fmtR 0x00 rd ra rb 16)
  | .maxu _ rd ra rb => some (fmtR 0x00 rd ra rb 17)
  | .abs _ rd ra => some (fmtR 0x00 rd ra 0 18)
  | .addi _ rd ra imm => some (fmtI 0x01 rd ra imm)
  | .andi _ rd ra imm => some (fmtI 0x02 rd ra imm)
  | .ori _ rd ra imm => some (fmtI 0x03 rd ra imm)
  | .xori _ rd ra imm => some (fmtI 0x04 rd ra imm)
  | .addsi _ rd ra imm => some (fmtI 0x0A rd ra imm)
  | .lw _ rd ra imm => some (fmtI 0x10 rd ra imm)
  | .lh _ rd ra imm => some (fmtI 0x11 rd ra imm)
  | .lhu _ rd ra imm => some (fmtI 0x12 rd ra imm)
  | .lb _ rd ra imm => some (fmtI 0x13 rd ra imm)
  | .lbu _ rd ra imm => some (fmtI 0x14 rd ra imm)
  | .sw _ rd ra imm => some (fmtI 0x15 rd ra imm)
  | .sh _ rd ra imm => some (fmtI 0x16 rd ra imm)
  | .sb _ rd ra imm => some (fmtI 0x17 rd ra imm)
  | .ioIn _ rd ra imm => some (fmtI 0x18 rd ra imm)
  | .ioOut _ rd ra imm => some (fmtI 0x19 rd ra imm)
  | .shli _ rd ra n => some (fmtI 0x05 rd ra (0#13 ++ n))
  | .shri _ rd ra n => some (fmtI 0x06 rd ra (0#13 ++ n))
  | .sari _ rd ra n => some (fmtI 0x07 rd ra (0#13 ++ n))
  | .lui _ rd imm => some (fmtI 0x08 rd 0 imm)
  | .cmpi _ ra imm => some (fmtI 0x09 0 ra imm)
  | .branch _ cond tgt => some (fmtJ 0x20 cond 0 tgt)
  | .jal _ rd tgt => some (fmtJ 0x21 rd 0 tgt)
  | .jr _ ra => some (fmtJ 0x22 0 ra 0)
  | .issueTw _ rd rh ra doff => some (fmtP 0x28 rd rh ra doff)
  | .issueSpi _ rd rh ra doff => some (fmtP 0x29 rd rh ra doff)
  | .issueUart _ rd rh ra doff => some (fmtP 0x2A rd rh ra doff)
  | .issueAna _ rd rh ra doff => some (fmtP 0x2B rd rh ra doff)
  | .issuePulse _ rd rh => some (fmtP 0x2C rd rh 0 0)
  | .stampRead _ rd ra => some (fmtR 0x30 rd ra 0 0)
  | .emit _ rs ra n => some (fmtI 0x31 rs ra (n ++ 0#14))
  | .emitS _ rs ra n => some (fmtI 0x31 rs ra (n ++ 1#1 ++ 0#13))
  | .millSubmit _ rc ra rb => some (fmtR 0x32 rc ra rb 0)
  | .sieveOffer _ rr ra => some (fmtR 0x33 rr ra 0 0)
  | .signalLow _ ra => some (fmtI 0x34 0 ra 0)
  | .signalHigh _ ra => some (fmtI 0x34 0 ra 1)
  | .signalPulse _ ra => some (fmtI 0x34 0 ra 2)
  | .awaitComp _ rd ra => some (fmtI 0x35 rd ra 0)
  | .awaitEdge _ rd ra pin edge => some (fmtI 0x35 rd ra (1#2 ++ 0#12 ++ edge ++ pin))
  | .awaitTime _ rd ra units => some (fmtI 0x35 rd ra (2#2 ++ units))
  | .awaitLine _ rd ra rise => some (fmtI 0x35 rd ra (3#2 ++ 0#15 ++ BitVec.ofBool rise))
  | .yield _ => some (fmtI 0x36 0 0 0)
  | .trap _ code => some (fmtI 0x37 0 0 (0#10 ++ code))
  | _ => none

/-! ### The host's table words -/

/-- The command that a word of the opcode table spells: no row of spec/opcode_table.json gives bits, so no word spells
one (log entry 9). -/
def decodeTableWord (_nbits _w : Nat) : Option Instr := none

end Sys2Proof
end

