-- ==== Sys2Proof/Config.lean ====
section
/-! DEFINITION. What the spec leaves open or fixes only in silicon: free values without a body, so that nothing can be
proved of one beyond its type. Log entry 7 lists them. -/

namespace Sys2Proof

/-- Fresh bits: the n-th value drawn where the spec states no value (a random nonce, a code that the spec calls
undefined). Free value. -/
opaque Config.freeBits : Nat → BitVec 64

/-- The trimmed pad delay of a capture point, in units of 2^-32 ns (R58). Factory value; free. -/
opaque Config.padDelay : Nat → Int

/-- The current drawn at a port's VP ball in a window of 1 ms: the average in bits 15:0, in 0.1 mA, and the peak in bits 31:16, in mA
(R87). The load is outside the hub; free value. -/
opaque Config.vpLoad : Nat → Nat → BitVec 32

/-- The choice among the runs of adjacent banks in which a stream's ring of a given size may lie, given the banks that its parish
owns on the die (bit b for bank b): the spec does not say where among them a ring is placed (R237). Free value. -/
opaque Config.ringPlace : Nat → Nat → Nat → Nat

/-- Whether a firmware image passes the ECDSA P-256 signature check and the fused version check (R305). The public-key
hash is fused; free value. -/
opaque Config.signatureOk : List Byte → Bool

/-- The firmware version that an image carries (R347). The image's inner layout is the vendor's; free value. -/
opaque Config.imageVersion : List Byte → Nat

/-- The security version that an image carries (R305). The image's inner layout is the vendor's; free value. -/
opaque Config.imageSecurity : List Byte → Nat

end Sys2Proof
end

