-- ==== Sys2Proof/Machine/Bits.lean ====
section
/-! DEFINITION. Bit fields, signed readings, saturating counters, tables, byte order (R11) and the check codes (R12) that
every chapter uses. -/

namespace Sys2Proof.Machine

/-! ### Fields and counters -/

/-- Bits hi to lo of a value (R10). -/
def field (x hi lo : Nat) : Nat := x / 2 ^ lo % 2 ^ (hi + 1 - lo)

/-- Whether bit i of a value is 1. -/
def bitOf (x i : Nat) : Bool := x / 2 ^ i % 2 == 1

/-- A value with bit i set. -/
def setBit (x i : Nat) : Nat := if bitOf x i then x else x + 2 ^ i

/-- A value with bit i cleared. -/
def clrBit (x i : Nat) : Nat := if bitOf x i then x - 2 ^ i else x

/-- A value with bit i at the given level. -/
def putBit (x i : Nat) (b : Bool) : Nat := if b then setBit x i else clrBit x i

/-- Bits of x that are not in y, over the low n bits. -/
def andNot (n x y : Nat) : Nat :=
  (List.range n).foldl (fun a i => if bitOf x i && !bitOf y i then a + 2 ^ i else a) 0

/-- The numbers of the bits that are set among the low n bits. -/
def bitList (n x : Nat) : List Nat := (List.range n).filter (bitOf x)

/-- 1 for true, 0 for false. -/
def b2n (b : Bool) : Nat := if b then 1 else 0

/-- One more, saturating at m. -/
def satInc (m n : Nat) : Nat := if n < m then n + 1 else m

/-- A sum that saturates at m. -/
def satAdd (m a b : Nat) : Nat := min m (a + b)

/-- The signed reading of the low w bits. -/
def sgn (w x : Nat) : Int :=
  let y := x % 2 ^ w
  if 2 * y < 2 ^ w then (y : Int) else (y : Int) - 2 ^ w

/-- The w-bit pattern of an integer, wrapping. -/
def ofInt (w : Nat) (i : Int) : Nat := (i % (2 ^ w : Nat)).toNat

/-- An integer held within lo and hi. -/
def clampInt (lo hi i : Int) : Int := if i < lo then lo else if hi < i then hi else i

/-- An integer saturated to w bits, signed. -/
def satInt (w : Nat) (i : Int) : Int := clampInt (-(2 ^ (w - 1) : Nat)) ((2 ^ (w - 1) : Nat) - 1) i

/-- Division that rounds to the nearest integer, halves away from zero. -/
def roundDiv (a : Int) (b : Nat) : Int :=
  if a < 0 then -(((-a).toNat * 2 + b) / (2 * b) : Nat) else ((a.toNat * 2 + b) / (2 * b) : Nat)

/-! ### Tables -/

/-- The entry of a key; dflt where none is listed. -/
def tget {α : Type} (dflt : α) : Tbl α → Nat → α
  | [], _ => dflt
  | (j, w) :: t, k => if k = j then w else tget dflt t k

/-- A table with the entry of one key set, keys kept rising. -/
def tput {α : Type} : Tbl α → Nat → α → Tbl α
  | [], k, v => [(k, v)]
  | (j, w) :: t, k, v =>
    if k < j then (k, v) :: (j, w) :: t
    else if k = j then (k, v) :: t
    else (j, w) :: tput t k v

/-- A table with one key no longer listed. -/
def tdel {α : Type} (t : Tbl α) (k : Nat) : Tbl α := t.filter (fun e => e.1 != k)

/-- A table with the entry of one key changed. -/
def tmod {α : Type} (dflt : α) (t : Tbl α) (k : Nat) (f : α → α) : Tbl α := tput t k (f (tget dflt t k))

/-- Whether a key is listed. -/
def thas {α : Type} (t : Tbl α) (k : Nat) : Bool := t.any (fun e => e.1 == k)

/-- The n-th element of a list, dflt past its end. -/
def nth {α : Type} (dflt : α) : List α → Nat → α
  | [], _ => dflt
  | a :: _, 0 => a
  | _ :: t, n + 1 => nth dflt t n

/-- A list with its n-th element replaced. -/
def setNth {α : Type} : List α → Nat → α → List α
  | [], _, _ => []
  | _ :: t, 0, v => v :: t
  | a :: t, n + 1, v => a :: setNth t n v

/-- A list with one element added at its end when it is not yet in it. -/
def addOnce (l : List Nat) (k : Nat) : List Nat := if l.contains k then l else l ++ [k]

/-- A list without one value. -/
def without (l : List Nat) (k : Nat) : List Nat := l.filter (fun j => j != k)

/-! ### Bytes, least significant first (R11) -/

/-- The n bytes of a value, least significant first. -/
def leBytes : Nat → Nat → List Byte
  | 0, _ => []
  | n + 1, v => BitVec.ofNat 8 v :: leBytes n (v / 256)

/-- The value of bytes, least significant first. -/
def leNat : List Byte → Nat
  | [] => 0
  | b :: t => b.toNat + 256 * leNat t

/-- The n bytes from an offset. -/
def slice (l : List Byte) (off n : Nat) : List Byte := (l.drop off).take n

/-- The unsigned value of the n bytes at an offset. -/
def getLe (l : List Byte) (off n : Nat) : Nat := leNat (slice l off n)

/-- The signed value of the n bytes at an offset. -/
def getLeInt (l : List Byte) (off n : Nat) : Int := sgn (8 * n) (getLe l off n)

/-- n zero bytes. -/
def zeros (n : Nat) : List Byte := List.replicate n 0

/-- The bytes of words, each least significant byte first. -/
def wordsBytes (ws : List Word) : List Byte := ws.flatMap (fun w => leBytes 4 w.toNat)

/-- The words of bytes, four bytes each; a last part of fewer bytes is filled with zero bytes. -/
def bytesWords : List Byte → List Word
  | b0 :: b1 :: b2 :: b3 :: t => BitVec.ofNat 32 (leNat [b0, b1, b2, b3]) :: bytesWords t
  | [] => []
  | l => [BitVec.ofNat 32 (leNat l)]

/-! ### Check codes (R12) -/

/-- One shift of a CRC-16 with polynomial 0x1021, most significant bit first (R316). -/
def crc16Bit (c : Nat) : Nat := if 32768 ≤ c then (2 * c % 65536) ^^^ 4129 else 2 * c

/-- A CRC-16 register after one byte. -/
def crc16Byte (c : Nat) (b : Byte) : Nat :=
  crc16Bit (crc16Bit (crc16Bit (crc16Bit (crc16Bit (crc16Bit (crc16Bit (crc16Bit (c ^^^ (b.toNat * 256)))))))))

/-- CRC-16: polynomial 0x1021, initial value 0xFFFF, no reflection, no final XOR (R316). -/
def crc16 (l : List Byte) : Nat := l.foldl crc16Byte 65535

/-- One shift of the reflected IEEE 802.3 CRC-32 (R175). -/
def crc32Bit (c : Nat) : Nat := if c % 2 = 1 then (c / 2) ^^^ 3988292384 else c / 2

/-- A CRC-32 register after one byte, before the final XOR (R175). -/
def crc32Byte (c : Nat) (b : Byte) : Nat :=
  crc32Bit (crc32Bit (crc32Bit (crc32Bit (crc32Bit (crc32Bit (crc32Bit (crc32Bit (c ^^^ b.toNat))))))))

/-- The CRC-32 register after bytes, before the final XOR. -/
def crc32Fold (c : Nat) (l : List Byte) : Nat := l.foldl crc32Byte c

/-- CRC-32: reflected, initial value and final XOR 0xFFFF_FFFF (R175). -/
def crc32 (l : List Byte) : Nat := crc32Fold 4294967295 l ^^^ 4294967295

/-- One shift of the SMBus PEC with polynomial x^8 + x^2 + x + 1 (R100). -/
def crc8Bit (c : Nat) : Nat := if 128 ≤ c then (2 * c % 256) ^^^ 7 else 2 * c

/-- The PEC register after one byte (R100). -/
def crc8Byte (c : Nat) (b : Byte) : Nat :=
  crc8Bit (crc8Bit (crc8Bit (crc8Bit (crc8Bit (crc8Bit (crc8Bit (crc8Bit (c ^^^ b.toNat))))))))

/-- CRC-8 from initial value 0: the SMBus PEC (R100). -/
def crc8 (l : List Byte) : Nat := l.foldl crc8Byte 0

end Sys2Proof.Machine
end

