-- ==== Sys2Proof/Machine/State.lean ====
section
/-! DEFINITION. The machine's state as plain data (every piece of state spec/ names, one structure for each unit of the
part), its two ways to stop, and the state right after reset. A table keyed by a resource number holds only the entries
that differ from the default; an unlisted key reads as the structure's default, which is its reset value. -/

namespace Sys2Proof.Machine

/-- The reasons a step can fault. -/
inductive Fault where
  /-- An event names a die, port, engine, channel, rule, link or other unit that the part does not have (R6, R9; log entry 3). A write
  of an object of such a unit does not come here: it answers 0x0101 (R9).
  Raised by every event whose operands name a unit. Safe: no such unit exists, so nothing of the hardware is left out. -/
  | noSuchResource (unit : String)
  /-- A command carries an operand outside the field that the spec gives it, so that no event of the part spells it.
  Raised by meanings whose operands are numbers. Safe: the hardware has no such event. -/
  | noSuchOperand (operand : String)
deriving DecidableEq, Repr

/-- The reasons a step can be refused. -/
inductive Refusal where
  /-- The command has no meaning in this model yet. Raised by an arm of exec only. Safe: the model stops. -/
  | notModelled (mnemonic : String)
deriving DecidableEq, Repr

/-- What a command answers. -/
abbrev Result (σ : Type) := Host.Outcome σ Fault Refusal

/-- A slew in progress (R42). -/
structure Slew where
  /-- Offset still to slew (#3011:05) (R42). -/
  residual : Int := 0
deriving DecidableEq, Repr

/-- The package time base (02_time.md) (R35). -/
structure TimeBase where
  /-- SECONDS (R35). -/
  seconds : BitVec 48 := 0
  /-- NANOSECONDS (R35). -/
  nanos : Nat := 0
  /-- FRACTION (R35). -/
  frac : Nat := 0
  /-- RATE as last written (#3010:01) (R36). -/
  rate : Nat := 0x400000000
  /-- RATE in force (R41). -/
  rateForce : Nat := 0x400000000
  /-- A RATE write waits for the time-alignment frame (R41). -/
  ratePend : Bool := false
  /-- OFFSET_ADJ waiting, with true for STEP mode at its write (R41). -/
  offPend : Option (Int × Bool) := none
  /-- TIME_SET waiting, as written value less time of receipt (R43). -/
  setPend : Option Int := none
  /-- ADJ_MODE (#3011:03): 0 SLEW, 1 STEP (R55). -/
  adjMode : Nat := 0
  /-- Slew in progress (R42). -/
  slew : Option Slew := none
  /-- SLEW_LIMIT governing the time base, ppm (R42). -/
  slewLimit : Nat := 100
  /-- SLEW_LIMIT applied by a commit, waiting for the alignment frame (R41). -/
  slewLimitPend : Option Nat := none
  /-- EPOCH (#3000:03) (R43). -/
  epoch : BitVec 8 := 0
  /-- LAST_STEP (#3000:04), 2^-16 ns, saturating (R43). -/
  lastStep : Int := 0
  /-- UTC_OFFSET (#3000:05) (R55). -/
  utcOffset : Int := 0
  /-- Elapsed TIME ticks of 4 ns since reset (R45). -/
  elapsed : Nat := 0
  /-- Network time at the last tick before the step that ended an epoch, key the epoch (R60). -/
  closes : Tbl Nat := []
  /-- REF tuning steps moved since reset (R38). -/
  refTune : Int := 0
  /-- Elapsed tick since which the steered RATE has differed from nominal by more than 20 ppm (R38). -/
  farAt : Option Nat := none
  /-- Network time of the first tick of the present epoch (R62). -/
  epochFrom : Nat := 0
deriving DecidableEq, Repr

/-- The built-in servo (R48). -/
structure Servo where
  /-- TIME_STATUS (#3000:02): 0 UNSET 1 ACQUIRING 2 LOCKED 3 TRACKING 4 HOLDOVER 5 HOST (R48). -/
  status : Nat := 0
  /-- Integral term (R48). -/
  integral : Int := 0
  /-- Frequency estimate set at acquisition (R48). -/
  basePpb : Int := 0
  /-- Consecutive measurements within LOCK_THRESHOLD (R48). -/
  count : Nat := 0
  /-- Consecutive valid measurements from one grandmaster (HOLDOVER) (R49). -/
  valid : Nat := 0
  /-- ACQUIRING: offset and elapsed tick of the first measurement (R48). -/
  meas : List (Int × Nat) := []
  /-- ACQUIRING has stepped once (R48). -/
  stepped : Bool := false
  /-- First lock since reset has happened (R49). -/
  everLocked : Bool := false
  /-- LAST_OFFSET (#3020:08), hub less master (R55). -/
  lastOffset : Int := 0
  /-- MEAN_PATH_DELAY (#3020:09) (R55). -/
  meanPath : Nat := 0
  /-- Grandmaster identity the servo follows (R49). -/
  gm : Nat := 0
  /-- Elapsed tick of the last valid measurement on the steering port (R48). -/
  heardAt : Nat := 0
  /-- REACQUIRE has asked for ACQUIRING, so it may step after the first lock (R49). -/
  mayStep : Bool := false
deriving DecidableEq, Repr

/-- One PTP instance per network port (R56). -/
structure PtpPort where
  /-- PORT_STATE (#31x0:0D): portState coding of IEEE 1588, 1 INITIALIZING (R56). -/
  state : Nat := 1
  /-- GM_IDENTITY (#31x0:0E) (R56). -/
  gm : Nat := 0
  /-- Priority vector of the best Announce held, as a number (R51). -/
  gmPrio : Nat := 0
  /-- OFFSET_FROM_MASTER (#31x0:0F) (R56). -/
  offset : Int := 0
  /-- PATH_DELAY (#31x0:10) (R56). -/
  pathDelay : Nat := 0
  /-- Ingress time of a two-step Sync waiting for its Follow_Up (R51). -/
  syncIngress : Option Int := none
  /-- Master and hub time of the last complete Sync (R51). -/
  syncPair : Option (Int × Int) := none
  /-- Egress time of the delay request in flight (R51). -/
  reqEgress : Option Int := none
  /-- Sequence number of messages sent (R54). -/
  sent : Nat := 0
deriving DecidableEq, Repr

/-- An ADP or PTP frame the hub sends (R313). -/
structure Frame where
  /-- Opcode (16 Sync, 17 Delay_Req, 18 Announce, 19 Delay_Resp, 20 Follow_Up, 21 reflected raw frame: the model's own numbers for what is no ADP frame) (R317). -/
  op : Nat := 0
  /-- Destination address (R313). -/
  dst : Nat := 0
  /-- Header FLAGS (R315). -/
  flags : Nat := 0
  /-- Header PARISH (R314). -/
  parish : Nat := 0
  /-- Header SESSION (R314). -/
  session : Nat := 0
  /-- TRANS_ID (R314). -/
  transId : Nat := 0
  /-- OBJ_COUNT (R314). -/
  objCount : Nat := 0
  /-- TAG (empty for zero) (R299). -/
  tag : List Byte := []
  /-- Payload (R313). -/
  payload : List Byte := []
  /-- A part of a PUSH batch (R331). -/
  push : Bool := false
  /-- Bound to delivery windows (R331). -/
  windowed : Bool := false
  /-- Elapsed tick at which it joined the frames that wait (R340). -/
  since : Nat := 0
  /-- The frame was withheld once (R331). -/
  withheld : Bool := false
  /-- Stream, parish and SEQ of the records that its handover delivers (R243). -/
  takes : List (Nat × Nat × Nat) := []
deriving DecidableEq, Repr

/-- A network port (R341). -/
structure NetPort where
  /-- LINK (#08x0:02) (R341). -/
  link : Bool := false
  /-- LINK_DOWNS (R341). -/
  linkDowns : BitVec 32 := 0
  /-- SLOT_EDGE (R341). -/
  slotEdge : BitVec 32 := 0
  /-- TX_FRAMES (R341). -/
  txFrames : BitVec 32 := 0
  /-- RX_FRAMES (R341). -/
  rxFrames : BitVec 32 := 0
  /-- RX_FCS (R341). -/
  rxFcs : BitVec 32 := 0
  /-- TX_DISCARDS (R341). -/
  txDiscards : BitVec 32 := 0
  /-- PLCA status of Clause 148 (false: CSMA/CD) (R311). -/
  plcaActive : Bool := false
  /-- BEACONs sent as node 0 (R311). -/
  beacons : Nat := 0
  /-- Frames waiting at the port for a window (R332). -/
  waiting : List Frame := []
  /-- Frames handed to the MAC, oldest first (R331). -/
  mac : List Frame := []
  /-- The frame the MAC last began to send (R332). -/
  onWire : Option Frame := none
  /-- TRANS_ID counter of frames the hub starts (R314). -/
  transCtr : BitVec 32 := 0
  /-- Port that serves this port's destinations after a failover (R339). -/
  failedOver : Option Nat := none
  /-- Elapsed tick of the last link-up (R339). -/
  upAt : Nat := 0
  /-- Elapsed tick of the last ANNOUNCE on the port (R325). -/
  announceAt : Nat := 0
  /-- Elapsed tick at which the present 10 ms of the shares began (R295). -/
  shareFrom : Nat := 0
  /-- Transmit time granted in the present 10 ms in bit times, key the parish (R295). -/
  granted : Tbl Nat := []
  /-- Elapsed tick at which the loopback started (R453). -/
  loopAt : Nat := 0
  /-- NET_LOOP (R460). -/
  loopDepth : Nat := 0
  /-- Elapsed tick at which the link of a T1S port went DOWN (R338). -/
  downAt : Option Nat := none
  /-- Delivery-window settings from before a commit, by subindex, in force until dwAt; empty for none (R341). -/
  dwHeld : List Nat := []
  /-- Network time of the DW_CYCLE boundary at which the committed settings take effect (R341). -/
  dwAt : Nat := 0
  /-- A REMOTE loopback begins once the RESPONSE to its write has been sent (R453). -/
  remoteDue : Bool := false
  /-- NET_RESULT (R455). -/
  loopResult : BitVec 32 := 0
deriving DecidableEq, Repr

/-- An open block transfer (R320). -/
structure BlockXfer where
  /-- Session, 0 for a source (R320). -/
  session : Nat := 0
  /-- Parish of the source (R320). -/
  parish : Nat := 0
  /-- Port it came by (3 service port) (R320). -/
  port : Nat := 0
  /-- Source MAC address (R320). -/
  src : Nat := 0
  /-- Object index (R320). -/
  index : Nat := 0
  /-- Object subindex (R320). -/
  sub : Nat := 0
  /-- TOTAL (R320). -/
  total : Nat := 0
  /-- Bytes received so far (R320). -/
  data : List Byte := []
  /-- TRANS_IDs of the segments accepted, newest first (R321). -/
  transIds : List Nat := []
  /-- Elapsed tick of its last segment (R320). -/
  lastAt : Nat := 0
deriving DecidableEq, Repr

/-- A session (R298). -/
structure Session where
  /-- Session number 1 to 255 (R298). -/
  num : Nat := 0
  /-- Parish (R298). -/
  parish : Nat := 0
  /-- Confirmed (R298). -/
  isOpen : Bool := false
  /-- NH (R298). -/
  nonceH : List Byte := []
  /-- ND (R298). -/
  nonceD : List Byte := []
  /-- Ks (R298). -/
  key : Option (List Byte) := none
  /-- Last accepted transaction ID of tagged frames, -1 for none (R299). -/
  lastTrans : Int := -1
  /-- Consecutive refused frames (R301). -/
  refusedRun : Nat := 0
  /-- Source address of its OPEN (R323). -/
  src : Nat := 0
  /-- Port of its OPEN (R323). -/
  port : Nat := 2
  /-- Elapsed tick of its last valid frame (R298). -/
  lastAt : Nat := 0
deriving DecidableEq, Repr

/-- A request waiting for the lead steward (R327). -/
structure Request where
  /-- Opcode (R317). -/
  op : Nat := 0
  /-- The frame (R313). -/
  frame : HostFrame := {}
  /-- Abort code with which the request is to be answered, 0 for service (R114). -/
  code : Nat := 0
deriving DecidableEq, Repr

/-- Network objects of the hub as a whole (R341). -/
structure Net where
  /-- VOTE_STATE (#0800:08) (R341). -/
  voteState : Nat := 0
  /-- HDR_CRC_FAILS (R341). -/
  hdrCrcFails : BitVec 32 := 0
  /-- VERSION_FAILS (R341). -/
  versionFails : BitVec 32 := 0
  /-- RX_OTHER (R341). -/
  rxOther : BitVec 32 := 0
  /-- RX_BUSY (R341). -/
  rxBusy : BitVec 32 := 0
  /-- ROUND of agreements (R333). -/
  voteRound : BitVec 16 := 0
  /-- Agreed TARGET (R333). -/
  voteTarget : Nat := 0
  /-- Elapsed tick of the agreement (R334). -/
  voteAt : Nat := 0
  /-- Elapsed tick of the last cancellation cause (R334). -/
  graceAt : Option Nat := none
  /-- Requests waiting for the lead steward, oldest first (R327). -/
  waiting : List Request := []
  /-- Open block transfers (R320). -/
  blocks : List BlockXfer := []
  /-- Abort code of the last dictionary access (0 success), as its RESPONSE carries it (R328). -/
  lastStatus : Nat := 0
deriving DecidableEq, Repr

/-- The service port (R113). -/
structure SvcPort where
  /-- Address 0x58 + SVC_ADDR sampled at reset (R113). -/
  addr : Nat := 0x58
  /-- Levels of SVC_ADDR0 to SVC_ADDR2, which a reset samples (R113). -/
  straps : Nat := 0
  /-- The interface acknowledges its address (R119). -/
  awake : Bool := true
  /-- Elapsed tick of the first address that was not acknowledged asleep (R119). -/
  wokenAt : Option Nat := none
  /-- Response bytes still to read (R116). -/
  response : List Byte := []
  /-- RESULT_READY (R118). -/
  ready : Bool := false
  /-- REQ_BUSY (R118). -/
  busy : Bool := false
  /-- DISCARDED (R118). -/
  discarded : Nat := 0
  /-- Sequence number of the current record chunk (R117). -/
  chunkSeq : BitVec 8 := 0
  /-- Current record chunk, formed (R117). -/
  chunk : Option (List Byte) := none
  /-- Stream, parish and SEQ of the records in the chunk, delivered at RECORDS_ACK (R117). -/
  chunkTake : List (Nat × Nat × Nat) := []
  /-- Records of the batch being delivered that no chunk has taken yet, as bytes, each with its key (R117). -/
  batchRest : List (List Byte × List (Nat × Nat × Nat)) := []
  /-- Bytes of the last block read answered (R114). -/
  lastRead : List Byte := []
  /-- Whether the last command was acknowledged (R114). -/
  acked : Bool := true
deriving DecidableEq, Repr

/-- A held quarantine reason (R481). -/
structure QuarReason where
  /-- Reason code 1 to 5 (R92). -/
  code : Nat := 0
  /-- Interval to the next probe (R91). -/
  backoff : Nat := 10
  /-- Elapsed tick of the next probe (R91). -/
  nextAt : Nat := 0
  /-- A probe runs (R89). -/
  probing : Bool := false
deriving DecidableEq, Repr

/-- One trip signal of a port: C0, C1 or WIN (R132). -/
structure Comp where
  /-- C0_OUT, C1_OUT or WIN_OUT: tripped, before the filter (R149). -/
  out : Bool := false
  /-- C0_LAT, C1_LAT or WIN_LAT (R149). -/
  latch : Bool := false
  /-- Latch sets (R149). -/
  sets : BitVec 8 := 0
  /-- Last MAJ_M samples, newest first (R139). -/
  hist : List Bool := []
  /-- Stamp of the last raw edge into the tripped state (R140). -/
  edge : BitVec 52 := 0
  /-- Stamp of the last latch set (R140). -/
  setStamp : BitVec 52 := 0
  /-- Trip after polarity, window and TRIP_GATE (R141). -/
  gated : Bool := false
  /-- Trip after TRIP_FILT, as it drives its consumers (R141). -/
  filtered : Bool := false
  /-- Elapsed tick at which the output became tripped (R141). -/
  since : Nat := 0
  /-- Elapsed tick at which the trip last passed its filter (R141). -/
  passedAt : Nat := 0
  /-- Active input pair of the comparator (R135). -/
  pair : Nat := 0
  /-- Spare input pair that calibration trims while the active one watches (R135). -/
  spare : Option Nat := none
  /-- Input pairs given up (R135). -/
  badPairs : Nat := 0
  /-- Elapsed tick since which the spare pair and the active one agree (R135). -/
  agree : Option Nat := none
deriving DecidableEq, Repr

/-- A pulse generator (R145). -/
structure PulseGen where
  /-- PGx_RUN (R149). -/
  run : Bool := false
  /-- PGx_OUT (R149). -/
  out : Bool := false
  /-- PGx_HELD (R149). -/
  held : Bool := false
  /-- PGx_TRUNC (R149). -/
  trunc : BitVec 8 := 0
  /-- Pulses given in BURST (R145). -/
  done : Nat := 0
  /-- A stop waits for the end of the pulse (R145). -/
  stopping : Bool := false
  /-- Elapsed tick of the last period start since the generator started (R145). -/
  periodAt : Option Nat := none
  /-- Stamp of the start of the last pulse (R278). -/
  startStamp : BitVec 52 := 0
deriving DecidableEq, Repr

/-- One converted sample of the operation in progress (R123). -/
structure Sample where
  /-- Sample word (R123). -/
  word : BitVec 32 := 0
  /-- Raw code (R122). -/
  raw : Int := 0
  /-- Hold made while the gain path settled (R129). -/
  unsettled : Bool := false
deriving DecidableEq, Repr

/-- A sensor port (03_ports.md, 04_two_wire.md, 05_analogue.md) (R65). -/
structure Port where
  /-- PSTAT[MODE], PORT_MODE in force (R87). -/
  mode : Nat := 0
  /-- Mode waiting behind the 10 us UNCONFIGURED interval (R68). -/
  nextMode : Option Nat := none
  /-- Elapsed tick at which MODE last changed (R68). -/
  modeAt : Nat := 0
  /-- The port domain is on (R70). -/
  powered : Bool := false
  /-- PIN_IN (R87). -/
  pinIn : BitVec 4 := 0
  /-- PIN_OUT (R87). -/
  pinOut : BitVec 4 := 0
  /-- PIN_OE (R87). -/
  pinOe : BitVec 4 := 0
  /-- PIN_EDGE[RISE] (R87). -/
  rise : BitVec 4 := 0
  /-- PIN_EDGE[FALL] (R87). -/
  fall : BitVec 4 := 0
  /-- Latched unconsumed edges, key pin*2 + (1 rising) (R102). -/
  edgeLatch : Tbl (BitVec 52) := []
  /-- Stamp of the last edge on each pin (R187). -/
  edgeStamp : Tbl (BitVec 52) := []
  /-- Elapsed tick of the last edge on each pin (R103). -/
  pinAt : Tbl Nat := []
  /-- VP_CTL[VP_ON] (R87). -/
  vpOn : Bool := false
  /-- The settings have been applied since reset or change of owner (R87). -/
  vpInitTaken : Bool := false
  /-- VP_SEL in force (R71). -/
  vpSel : Nat := 0
  /-- VP_CTL[PGOOD] (R87). -/
  pgood : Bool := false
  /-- VP_CTL[OVERLOAD] (R87). -/
  overload : Bool := false
  /-- Elapsed tick at which PGOOD was last set (R89). -/
  pgoodAt : Nat := 0
  /-- Consecutive windows of 1 ms whose average exceeded VP_ILIM (R74). -/
  overWins : Nat := 0
  /-- The power state holds the VP switch open (R93). -/
  vpSleep : Bool := false
  /-- VP_MEAS[I_AVG] (R87). -/
  iAvg : Nat := 0
  /-- VP_MEAS[I_PEAK] (R87). -/
  iPeak : Nat := 0
  /-- EM_CFG[I_SET] (R87). -/
  emISet : Nat := 10
  /-- EM_CFG[WIDTH] (R87). -/
  emWidth : Nat := 1
  /-- EM_STAT[BUSY] (R87). -/
  emBusy : Bool := false
  /-- EM_STAT[OPEN] (R87). -/
  emOpen : Bool := false
  /-- EM_STAT[NOREG] (R87). -/
  emNoreg : Bool := false
  /-- EM_STAT[CLAMPED] (R87). -/
  emClamped : Bool := false
  /-- EM_STAT[DEFER_TIME] (R87). -/
  emDefer : Nat := 0
  /-- EM sinks current (R76). -/
  emSink : Bool := false
  /-- Elapsed tick at which EM began to sink (R141). -/
  emSince : Nat := 0
  /-- OP_STAT[STATUS] (R87). -/
  opStatus : Nat := 0
  /-- OP_STAT[OP_COUNT] (R87). -/
  opCount : BitVec 16 := 0
  /-- ERR_CNT[FAILED] (R87). -/
  failed : Nat := 0
  /-- ERR_CNT[RECOVERIES] (R87). -/
  recoveries : Nat := 0
  /-- Held quarantine reasons, most recently added first (R481). -/
  quar : List QuarReason := []
  /-- QUAR_CTL as last written (R357). -/
  quarCtl : Nat := 0
  /-- XFER_CFG[SPI_MODE] (R87). -/
  spiMode : Nat := 0
  /-- XFER_CFG[LSB_FIRST] (R87). -/
  lsbFirst : Bool := false
  /-- XFER_CFG[PARITY] (R87). -/
  parity : Nat := 0
  /-- XFER_CFG[END_BYTE] (R87). -/
  endByte : Nat := 0
  /-- XFER_CFG[END_EN] (R87). -/
  endEn : Bool := false
  /-- Operations of the port in issue order; the head is next or in flight (R162). -/
  queue : List Nat := []
  /-- The bus recovery sequence runs (R109). -/
  recovering : Bool := false
  /-- Slot held through recovery (R193). -/
  recSlot : Option Nat := none
  /-- An idle gap has ended the reception (R83). -/
  uartIdle : Bool := false
  /-- TW_STAT[BUS_BUSY] (R107). -/
  busBusy : Bool := false
  /-- Bytes that the controller has put on the bus in the transfer in progress or the last one, PEC included (R97). -/
  twSent : List Byte := []
  /-- TW_STAT[COUNT] (R107). -/
  twCount : Nat := 0
  /-- TW_STAT[PEC_RX] (R107). -/
  pecRx : Nat := 0
  /-- TW_STAT[CAUSE] (R107). -/
  cause : Nat := 0
  /-- TW_STAT[SCL_TO] (R107). -/
  sclTo : Bool := false
  /-- TW_STAT[SDA_TO] (R107). -/
  sdaTo : Bool := false
  /-- TW_STAT[ARB_LOSSES] (R107). -/
  arbLosses : Nat := 0
  /-- TW_STAT[SCL_RISE] (R107). -/
  sclRise : Nat := 0
  /-- Samples of the operation in progress, oldest first (R127). -/
  samples : List Sample := []
  /-- Stamp of the last hold (R127). -/
  lastHold : BitVec 52 := 0
  /-- Range of each input (0 P2, 1 P3, 2 P2-P3, 3 TIA), stored plus one; 0 means RANGE_FIX (R122). -/
  range : Tbl Nat := []
  /-- AR_HOLD count of each input (R128). -/
  holdCnt : Tbl Nat := []
  /-- The next settled sample of the input is the first at a new range (R129). -/
  newRange : Tbl Bool := []
  /-- The next sample is the n + 2 of a PATCHED one (R129). -/
  patchNext : Bool := false
  /-- The last sample of the operation in progress changed the range (R129). -/
  stepped : Bool := false
  /-- INPUT of the last analogue operation (FE carries it) (R132). -/
  lastInput : Nat := 0
  /-- INPUT last converted (R149). -/
  convInput : Nat := 0
  /-- AN_STAT[SETTLING] (R149). -/
  settling : Bool := false
  /-- AN_STAT[CAL] (R149). -/
  calOffline : Bool := false
  /-- AN_STAT[RANGE_CHANGES] (R149). -/
  rangeChanges : BitVec 16 := 0
  /-- Comparator C0 (R132). -/
  c0 : Comp := {}
  /-- Comparator C1 (R132). -/
  c1 : Comp := {}
  /-- Window (R134). -/
  win : Comp := {}
  /-- CMP_DAC[DAC0] (R149). -/
  dac0 : Nat := 0
  /-- CMP_DAC[DAC1] (R149). -/
  dac1 : Nat := 0
  /-- CMP_DAC[WR_DROPPED] (R149). -/
  wrDropped : Bool := false
  /-- Modes in force, C0 in bits 1:0 and C1 in bits 3:2 (R133). -/
  cmpMode : Nat := 0
  /-- The power state holds the comparators off (R93). -/
  cmpOff : Bool := true
  /-- PG0 (R145). -/
  pg0 : PulseGen := {}
  /-- PG1 (R145). -/
  pg1 : PulseGen := {}
  /-- Restarts of the ramp generator (R137). -/
  rampRestarts : Nat := 0
  /-- Elapsed tick at which the ramp last restarted (R137). -/
  rampAt : Nat := 0
  /-- Elapsed time of the first edge of C0 since a single-slope conversion started (R138). -/
  rampEdge : Option Nat := none
  /-- Stamp of that edge (R138). -/
  rampStamp : BitVec 52 := 0
  /-- A CALGAP window of the port is open (R194). -/
  gapOpen : Bool := false
  /-- That window carries EMITTER (R186). -/
  gapEmitter : Bool := false
  /-- CAL_TEMP (#E1nn:02) (R437). -/
  calTemp : Int := 250
  /-- CAL_STAMP (R437). -/
  calStamp : BitVec 52 := 0
  /-- CAL_DUE (R437). -/
  calDue : Nat := 0
  /-- Items ended in the present run (R432). -/
  calDone : Nat := 0
  /-- Items failed in the present run (R432). -/
  calFailed : Nat := 0
  /-- Temperature at the start of the present run (R426). -/
  calRunTemp : Int := 0
  /-- Offline windows used in the present run (R432). -/
  calWindows : Nat := 0
  /-- The present run is forced (R430). -/
  calForced : Bool := false
  /-- Items of the present run, 0 with no run (R427). -/
  calRun : Nat := 0
  /-- Item in progress with the chain offline (R428). -/
  calItem : Nat := 0
  /-- Range that item 3 measures (R427). -/
  calRange : Nat := 0
  /-- Ranges that item 3 has ended in the present run (R427). -/
  calRanges : Nat := 0
  /-- Elapsed tick at which the item in progress started (R194). -/
  calFrom : Nat := 0
  /-- Microseconds offline in the present window (R194). -/
  calUsed : Nat := 0
  /-- Elapsed tick at which the present window ends (R428). -/
  calUntil : Nat := 0
  /-- Elapsed tick of the last forced window (R430). -/
  calForcedAt : Option Nat := none
  /-- The present run has written its record (R432). -/
  calRecorded : Bool := false
  /-- SPARE_TAKEN in the present run (R432). -/
  calSpareTaken : Bool := false
  /-- SPARE_LAST in the present run (R432). -/
  calSpareLast : Bool := false
  /-- SPARES (#E1nn:05): 4 good pairs of each comparator, no spare bit in use (R437). -/
  spares : Nat := 0x24
  /-- CAL_FAILS (R437). -/
  calFails : Nat := 0
  /-- Last accepted result of each calibration item, key the item code (range ratios from 0x30) (R427). -/
  trim : Tbl Int := []
  /-- PORT_LOOP (R460). -/
  loopDepth : Nat := 0
  /-- PIN_OE before the loopback, restored at its end (R452). -/
  loopOe : BitVec 4 := 0
  /-- PORT_RESULT (R455). -/
  loopResult : BitVec 32 := 0
deriving DecidableEq, Repr

/-- What a suspended context waits for (R167). -/
structure Await where
  /-- 0 COMP, 1 EDGE, 2 TIME, 3 LINE (R167). -/
  kind : Nat := 0
  /-- Ticket, handle, units of 10 ns, or consumer line (R167). -/
  arg : Nat := 0
  /-- IMM of the AWAIT (R167). -/
  sub : Nat := 0
  /-- Register the return value goes to (R167). -/
  rd : BitVec 4 := 0
  /-- TIME: elapsed time at which the wait ends (R167). -/
  due : Nat := 0
  /-- EDGE and LINE: the awaited event has come, with its stamp (R167). -/
  met : Option (BitVec 52) := none
  /-- The condition has held and the context is ready to return from its AWAIT (R167). -/
  done : Bool := false
deriving DecidableEq, Repr

/-- A context of an engine's bench (R150). -/
structure Ctx where
  /-- The context is taken (R150). -/
  live : Bool := false
  /-- W1 to w7 (R150). -/
  regs : Tbl Word := []
  /-- Flag Z (R150). -/
  z : Bool := false
  /-- Flag N (R150). -/
  n : Bool := false
  /-- Flag C (R150). -/
  c : Bool := false
  /-- Flag V (R150). -/
  v : Bool := false
  /-- CSTAMP (R150). -/
  cstamp : BitVec 52 := 0
  /-- PC (1024 when it has passed 0x3FF) (R150). -/
  pc : Nat := 0
  /-- LAUNCH[ENTRY] (R154). -/
  entry : Nat := 0
  /-- LAUNCH[FLAGS] (R154). -/
  flags : Nat := 0
  /-- Launch stamp (R168). -/
  launchStamp : BitVec 52 := 0
  /-- Elapsed tick at which the window ends (R190). -/
  budgetEnd : Nat := 0
  /-- Condition a suspended context waits for (R167). -/
  await : Option Await := none
  /-- Suspended before an issue until a slot retires (R162). -/
  slotWait : Bool := false
  /-- Unretired tickets (R162). -/
  tickets : List Nat := []
  /-- Later records carry STALE (R86). -/
  stale : Bool := false
  /-- Later records carry PATCHED (R130). -/
  patched : Bool := false
  /-- Later records carry RANGE (R130). -/
  rangeF : Bool := false
  /-- Later records carry DEFER (R81). -/
  defer : Bool := false
  /-- Pair digest register before the final XOR (R175). -/
  digest : BitVec 32 := 0xFFFFFFFF
  /-- Its first instruction has been reached (R201). -/
  began : Bool := false
  /-- Elapsed tick at which it last became ready (R152). -/
  readyAt : Nat := 0
deriving DecidableEq, Repr

/-- A tap engine (06_engines.md) (R150). -/
structure Engine where
  /-- ENG_STATE: 0 EMPTY 1 LOADED 2 HALTED 3 RETIRED (R359). -/
  state : Nat := 0
  /-- Program memory; words beyond it are zero (R150). -/
  prog : List Word := []
  /-- Init words in control memory (R178). -/
  init : List Word := []
  /-- Scratch memory (R150). -/
  scratch : Memory := []
  /-- W8 to w15 (R150). -/
  shared : Tbl Word := []
  /-- BENCH_SIZE of the applied image (R178). -/
  bench : Nat := 0
  /-- The bench (R150). -/
  ctxs : Tbl Ctx := []
  /-- Context that holds the engine (R152). -/
  running : Option Nat := none
  /-- Ready contexts in the order in which they became ready (R152). -/
  ready : List Nat := []
  /-- Levels the engine holds on its parish's engine lines, bit L (R174). -/
  lines : Nat := 0
  /-- Engine lines on which a pulse of the engine runs (R174). -/
  pulses : Nat := 0
  /-- Latch behind TSEC_HI (R40). -/
  tsecHi : Word := 0
  /-- Latch behind TNS (R40). -/
  tns : Word := 0
  /-- Latch behind TFRAC (R40). -/
  tfrac : Word := 0
  /-- ENG_ERR[DROPPED] (R154). -/
  dropped : Nat := 0
  /-- ENG_ERR[ORPHANS] (R154). -/
  orphans : Nat := 0
  /-- ACTIVE_CRC (R359). -/
  activeCrc : Nat := 0
  /-- CTX_PEAK (R359). -/
  peak : Nat := 0
  /-- LAUNCHES (R359). -/
  launches : BitVec 32 := 0
  /-- FAULTS (R359). -/
  faults : BitVec 32 := 0
  /-- LAST_FAULT (R359). -/
  lastFault : Nat := 0
  /-- The program was re-applied after a PROGECC (R421). -/
  reloaded : Bool := false
deriving DecidableEq, Repr

/-- A slot of a die's transaction table (R193). -/
structure Slot where
  /-- 0 free, 1 WAIT_EDGE, 2 QUEUED, 3 ACTIVE, 4 DONE (R193). -/
  state : Nat := 0
  /-- Generation count (R162). -/
  gen : Nat := 0
  /-- 0 TW 1 SPI 2 UART 3 ANA 4 PULSE (R162). -/
  kind : Nat := 0
  /-- Issuing engine (global) (R162). -/
  engine : Nat := 0
  /-- Issuing context (R162). -/
  ctx : Nat := 0
  /-- Entry of the issuing context (R190). -/
  entry : Nat := 0
  /-- Port (global) (R162). -/
  port : Nat := 0
  /-- Descriptor word D0, copied at issue (R98). -/
  d0 : Word := 0
  /-- Descriptor word D1 (R98). -/
  d1 : Word := 0
  /-- Write data read from scratch as the transfer sends it (R98). -/
  wdata : List Byte := []
  /-- The issuing context has ended (R153). -/
  orphan : Bool := false
  /-- Arbitration retries made (R104). -/
  retries : Nat := 0
  /-- Its data-ready edge is consumed (R102). -/
  edgeTaken : Bool := false
  /-- Ended by budget; the port is being freed (R190). -/
  aborted : Bool := false
  /-- Elapsed tick of its governor request (R81). -/
  heldAt : Nat := 0
  /-- STATUS of the completion word (R166). -/
  status : Nat := 0
  /-- COUNT of the completion word (R166). -/
  count : Nat := 0
  /-- STAMPED (R166). -/
  stamped : Bool := false
  /-- Stamp of the operation (R57). -/
  stamp : BitVec 52 := 0
  /-- The operation waits for a governor slot (R79). -/
  needsGov : Bool := false
  /-- The operation was deferred (R81). -/
  deferred : Bool := false
  /-- It delivered a PATCHED sample (R130). -/
  patched : Bool := false
  /-- It delivered a RANGE or UNSETTLED sample (R130). -/
  rangeF : Bool := false
  /-- It waited for a forced calibration window (R430). -/
  waitedCal : Bool := false
deriving DecidableEq, Repr

/-- One entry of a rota bank (R182). -/
structure RotaEntry where
  /-- OFFSET (R182). -/
  offset : Nat := 0
  /-- ENGINE (R182). -/
  engine : Nat := 0
  /-- ENTRY_PT (R182). -/
  entryPt : Nat := 0
  /-- HINT (R182). -/
  hint : Nat := 0
  /-- BUDGET (R182). -/
  budget : Nat := 0
  /-- Flags byte (R182). -/
  flags : Nat := 0
  /-- STALE_STREAM (R199). -/
  stale : Nat := 0xFFFF
deriving DecidableEq, Repr

/-- One pair record of a rota image (R199). -/
structure PairRec where
  /-- LOCAL_ENTRY (R199). -/
  entry : Nat := 0
  /-- PARTNER_ENTRY (R199). -/
  partner : Nat := 0
  /-- PARTNER_DIE (R199). -/
  die : Nat := 0
deriving DecidableEq, Repr

/-- The contents of a rota bank (R197). -/
structure Rota where
  /-- The bank holds a rota (R197). -/
  valid : Bool := false
  /-- KIND (R199). -/
  kind : Nat := 0
  /-- FRAME_LEN (R180). -/
  frameLen : Nat := 0
  /-- PHASE (R180). -/
  phase : Nat := 0
  /-- The entries (R182). -/
  entries : List RotaEntry := []
  /-- The pair records (R199). -/
  pairs : List PairRec := []
  /-- STANDBY (R199). -/
  standby : List Nat := []
  /-- LAUNCH_PIN (R199). -/
  launchPin : List Nat := []
  /-- BODY_CRC (R199). -/
  bodyCrc : Nat := 0
  /-- The image as it was committed (ACTIVE_IMAGE is rebuilt from the bank) (R201). -/
  image : List Byte := []
deriving DecidableEq, Repr

/-- An open window of an entry (R184). -/
structure OpenWindow where
  /-- Index of the entry (R184). -/
  entry : Nat := 0
  /-- Nominal instant (R184). -/
  nominal : BitVec 52 := 0
  /-- Engine (global) it launches on (R187). -/
  engine : Nat := 0
  /-- Context launched, none while it waits for its edge (R187). -/
  ctx : Option Nat := none
  /-- It is already counted as missed (BENCHFULL or POWER) (R188). -/
  done : Bool := false
  /-- Elapsed tick at which the window ends (R184). -/
  endAt : Nat := 0
deriving DecidableEq, Repr

/-- An offer in a die's offer queue (R216). -/
structure Offer where
  /-- Local rule (R216). -/
  rule : Nat := 0
  /-- Value (R216). -/
  value : Int := 0
  /-- Stamp of the offer (R216). -/
  stamp : BitVec 52 := 0
  /-- Elapsed tick of its arrival (R218). -/
  arrived : Nat := 0
deriving DecidableEq, Repr

/-- An output of a mill channel that waits for release (R206). -/
structure MillOut where
  /-- Output word (R206). -/
  word : BitVec 32 := 0
  /-- Output stamp (R207). -/
  stamp : BitVec 52 := 0
  /-- Round in which it became due (R210). -/
  round : Nat := 0
  /-- D that governs its release (R212). -/
  lag : Nat := 1
  /-- OUT_STREAM of the image it became due under (R213). -/
  stream : Nat := 0xFFFF
  /-- Computed (R210). -/
  ready : Bool := false
deriving DecidableEq, Repr

/-- The fields of a mill channel image in force (R214). -/
structure MillImg where
  /-- ENABLE (R214). -/
  enable : Bool := false
  /-- TAPS (R214). -/
  taps : Nat := 0
  /-- DECIM (R214). -/
  decim : Nat := 1
  /-- SHIFT (R214). -/
  shift : Nat := 0
  /-- BURST (R214). -/
  burst : Nat := 1
  /-- IN_PERIOD (R214). -/
  inPeriod : Nat := 100
  /-- GD_HALF (R214). -/
  gdHalf : Nat := 0
  /-- OUT_STREAM (R214). -/
  outStream : Nat := 0xFFFF
  /-- Coefficients, c[0] first (R203). -/
  coeffs : List Int := []
deriving DecidableEq, Repr

/-- A mill channel (08_mill_sieve.md) (R203). -/
structure MillChan where
  /-- Image in force (R203). -/
  img : MillImg := {}
  /-- Image applied, taken at the next round boundary (R212). -/
  next : Option MillImg := none
  /-- Input samples and stamps, newest first (R203). -/
  history : List (BitVec 32 × BitVec 52) := []
  /-- Samples accepted since the last restart (decimation phase) (R204). -/
  count : Nat := 0
  /-- Samples accepted since the last settle cause (R211). -/
  since : Nat := 0
  /-- Stamp of the previous accepted sample (R205). -/
  lastIn : Option (BitVec 52) := none
  /-- An output has been computed since the last settle cause (R211). -/
  settled : Bool := false
  /-- Due outputs, oldest first (R210). -/
  waiting : List MillOut := []
  /-- Stopped by an uncorrectable error (R213). -/
  halted : Bool := false
  /-- Its next record carries STALE (R213). -/
  staleNext : Bool := false
  /-- OUTPUTS (R228). -/
  outputs : BitVec 32 := 0
  /-- SUPPRESSED (R228). -/
  suppressed : BitVec 32 := 0
  /-- LATE_OUT (R228). -/
  lateOut : BitVec 32 := 0
  /-- GAPS (R228). -/
  gaps : Nat := 0
  /-- IN_DROPPED (R228). -/
  inDropped : Nat := 0
  /-- LAST_OUT (R228). -/
  lastOut : BitVec 32 := 0
  /-- LAST_STAMP (R228). -/
  lastStamp : BitVec 52 := 0
deriving DecidableEq, Repr

/-- The fields of a sieve rule image in force (R226). -/
structure RuleImg where
  /-- An image is in force (R228). -/
  present : Bool := false
  /-- PARISH (R226). -/
  parish : Nat := 0
  /-- TYPE (R226). -/
  type : Nat := 0
  /-- SRC_KIND (R226). -/
  srcKind : Nat := 0
  /-- SRC_NUM (R226). -/
  srcNum : Nat := 0
  /-- FIELD (R226). -/
  field : Nat := 0
  /-- FIELD_LSB (R226). -/
  fieldLsb : Nat := 0
  /-- FIELD_WIDTH (R226). -/
  fieldWidth : Nat := 0
  /-- MODE (R226). -/
  mode : Nat := 0
  /-- A (R226). -/
  a : Int := 0
  /-- B (R226). -/
  b : Int := 0
  /-- T in microseconds (R226). -/
  t : Nat := 0
  /-- N (R226). -/
  n : Nat := 0
  /-- INV (R226). -/
  inv : Nat := 0
  /-- IN0 to IN3 (R226). -/
  ins : List Nat := []
  /-- OUTPUTS (R226). -/
  outputs : Nat := 0
  /-- SILENCE (R226). -/
  silence : Nat := 0
deriving DecidableEq, Repr

/-- A sieve rule (R216). -/
structure Rule where
  /-- Image in force (R226). -/
  img : RuleImg := {}
  /-- RULE_OUT (R228). -/
  out : Bool := false
  /-- RULE_STATE 2 (with an image present) (R228). -/
  primed : Bool := false
  /-- The last condition (COUNT, HOLD) (R220). -/
  lastC : Bool := false
  /-- The last K values (SLOPE), newest first (R220). -/
  hist : List Int := []
  /-- Arrival instants of rising transitions (COUNT, HOLD) or of IN0's latest rise (SEQUENCE), newest first (R220). -/
  arrivals : List Nat := []
  /-- Ref (CHANGE) (R220). -/
  ref : Int := 0
  /-- EVENTS (R228). -/
  events : BitVec 32 := 0
  /-- LAST_VALUE (R228). -/
  lastValue : Int := 0
  /-- LAST_STAMP (R228). -/
  lastStamp : BitVec 52 := 0
  /-- SKIPPED (R228). -/
  skipped : Nat := 0
  /-- FAILS (R228). -/
  fails : Nat := 0
  /-- Elapsed tick of the last accepted offer (R221). -/
  heard : Nat := 0
  /-- A LINE_PULSE pulse runs (R219). -/
  pulse : Bool := false
deriving DecidableEq, Repr

/-- A record (R229). -/
structure Rec where
  /-- HEADER stream ID (R229). -/
  stream : Nat := 0
  /-- HEADER stamp (R229). -/
  stamp : BitVec 52 := 0
  /-- TAG[PCODE] (R230). -/
  pcode : Nat := 0
  /-- TAG[FLAGS] (R230). -/
  flags : Nat := 0
  /-- TAG[SEQ] (R230). -/
  seq : Nat := 0
  /-- Payload words (R229). -/
  words : List Word := []
  /-- EPOCH in force at its stamp (R62). -/
  epoch : BitVec 8 := 0
  /-- Elapsed tick at which it entered its ring (R62). -/
  entered : Nat := 0
  /-- Parishes whose batches have taken it (R242). -/
  sentTo : List Nat := []
  /-- Delivered, behind the read point (R237). -/
  delivered : Bool := false
  /-- Pinned by a running NV capture, or by log writes that wait for the scan (R257) (R253). -/
  pinned : Bool := false
  /-- Model's field: the number of records that entered its ring before it since reset (R243). -/
  place : Nat := 0
deriving DecidableEq, Repr

/-- A stream and its ring (09_records_granary.md) (R237). -/
structure Stream where
  /-- Records of the ring, oldest first (R237). -/
  ring : List Rec := []
  /-- Next SEQ for each parish (R233). -/
  seqs : Tbl Nat := []
  /-- LOST (R360). -/
  lost : BitVec 32 := 0
  /-- RECORDS (R360). -/
  records : BitVec 32 := 0
  /-- LAST_STAMP (R360). -/
  lastStamp : BitVec 52 := 0
  /-- STREAM_STAT[1] (R360). -/
  ovrDue : Bool := false
  /-- Model's field: records that entered the ring since reset (R243). -/
  entries : Nat := 0
deriving DecidableEq, Repr

/-- The crier's state for one parish (R245). -/
structure Wake where
  /-- REASON bits that hold (R324). -/
  reasons : Nat := 0
  /-- First rule of the wake (R324). -/
  rule : Nat := 0xFFFF
  /-- A wake has been sent and is not acknowledged (R245). -/
  pending : Bool := false
  /-- A request waits for a wake of its own (R246). -/
  asked : Bool := false
  /-- Elapsed tick of the last wake (R246). -/
  lastAt : Option Nat := none
  /-- WAKES (R259). -/
  wakes : BitVec 32 := 0
deriving DecidableEq, Repr

/-- A page of the NV log before it is written (R249). -/
structure Page where
  /-- LOG_SEQ (R249). -/
  seq : Nat := 0
  /-- PFLAGS (R249). -/
  pflags : Nat := 0
  /-- Page anchor (R249). -/
  seconds : BitVec 48 := 0
  /-- EPOCH (R249). -/
  epoch : BitVec 8 := 0
  /-- Records area (R249). -/
  recs : List Rec := []
deriving DecidableEq, Repr

/-- A region of a die's NV log (R248). -/
structure Region where
  /-- Contents of the pages written, oldest first (R248). -/
  pages : List (List Byte) := []
  /-- Open CONTINUOUS page (R253). -/
  openPage : Option Page := none
  /-- Pages waiting to be written (R251). -/
  queue : List Page := []
  /-- Next LOG_SEQ (R249). -/
  nextSeq : Nat := 0
  /-- Physical blocks of the region, in region order (the block map) (R248). -/
  blocks : List Nat := []
  /-- PAGE_SEL (R259). -/
  pageSel : Nat := 0
  /-- CAPTURES (R259). -/
  captures : Nat := 0
  /-- CAPTURE_ACTIVE (R259). -/
  capActive : Bool := false
  /-- The capture's span has ended and its pages wait to be committed (R253). -/
  capDrain : Bool := false
  /-- The capture's first page has been formed (R253). -/
  capFirst : Bool := false
  /-- Start of the captured span (R253). -/
  capFrom : Nat := 0
  /-- End of the captured span (R253). -/
  capTo : Nat := 0
deriving DecidableEq, Repr

/-- A tally channel (10_tally_routing.md) (R260). -/
structure Tally where
  /-- CFG in force (R276). -/
  cfg : Nat := 0
  /-- CAP_SRC in force (R275). -/
  capSrc : Nat := 0
  /-- CAP_PRESC in force (R275). -/
  capPresc : Nat := 1
  /-- PHASE in force (R275). -/
  phase : Nat := 0
  /-- TOP preload (R275). -/
  top : Nat := 0xFFFF
  /-- CMP preload (R275). -/
  cmp : Nat := 0
  /-- STATE: 0 IDLE 1 RUNNING 2 STOPPED (R275). -/
  state : Nat := 0
  /-- COUNT (R275). -/
  count : Nat := 0
  /-- UPDOWN: counting down (R261). -/
  down : Bool := false
  /-- TOP_ACT (R275). -/
  topAct : Nat := 0xFFFF
  /-- CMP_ACT (R275). -/
  cmpAct : Nat := 0
  /-- Compare output (R263). -/
  cmpOut : Bool := false
  /-- Stamp of the compare output's last change (R278). -/
  outStamp : BitVec 52 := 0
  /-- Stamp of the last match that began a pulse (R278). -/
  matchStamp : BitVec 52 := 0
  /-- Stamp of the last wrap that began a pulse (R278). -/
  wrapStamp : BitVec 52 := 0
  /-- CAP_A (R275). -/
  capA : Nat := 0
  /-- CAP_B (R275). -/
  capB : Nat := 0
  /-- WIDTH (paired capture) (R275). -/
  width : Nat := 0
  /-- Hidden width counter, while a rising edge waits for its falling edge (R272). -/
  widthCnt : Option Nat := none
  /-- Stamp of that rising edge (R272). -/
  riseStamp : BitVec 52 := 0
  /-- CAP_STAMP (R275). -/
  capStamp : BitVec 52 := 0
  /-- CAPTURES (R275). -/
  captures : BitVec 32 := 0
  /-- Edges counted towards CAP_PRESC (R271). -/
  prescCnt : Nat := 0
  /-- Mark of the source's last edge that was confirmed or was there when the configuration took effect: for a pin one more than the tick of the edge, for a column twice its rises plus its level (the model's own field) (R271). -/
  edgeSeen : Nat := 0
  /-- EDGE: capture events whose tick has not been counted yet (the model's own field) (R264). -/
  tickDue : Nat := 0
  /-- AON match flag, holds until return (R267). -/
  matched : Bool := false
  /-- Actions of linked channels that take effect in the next SYS cycle (2 stop 3 start 4 reset) (R269). -/
  link : List Nat := []
  /-- Stopped by an uncorrectable error (R421). -/
  stopped : Bool := false
  /-- 4-cycle pulses that run on the match (bit 0), wrap (bit 1) and capture (bit 2) producers (R278). -/
  pulse : Nat := 0
  /-- W64: a write of the upper CMP is copied at the next tick (R262). -/
  copyDue : Bool := false
deriving DecidableEq, Repr

/-- A producer row of the routing matrix (R278). -/
structure Row where
  /-- SRC in force (R283). -/
  src : Nat := 0
  /-- SHARE in force (R283). -/
  share : Nat := 0
  /-- LEVEL (R283). -/
  level : Bool := false
  /-- Stamp carried with the last rise (R278). -/
  stamp : BitVec 52 := 0
  /-- Reads low after an uncorrectable error (R421). -/
  failed : Bool := false
deriving DecidableEq, Repr

/-- A consumer column (R279). -/
structure Col where
  /-- DEST in force (R283). -/
  dest : Nat := 0
  /-- ROWS_LO and ROWS_HI in force (R283). -/
  rows : Nat := 0
  /-- LEVEL (R283). -/
  level : Bool := false
  /-- RISES (R283). -/
  rises : BitVec 32 := 0
  /-- Stamp of the last rise (R167). -/
  stamp : BitVec 52 := 0
  /-- Number of rises, as AWAIT LINE sees them (R167). -/
  riseAt : Nat := 0
  /-- Damaged by an uncorrectable error (R421). -/
  failed : Bool := false
deriving DecidableEq, Repr

/-- The trip-test pulse in progress on a die (R375). -/
structure TripTest where
  /-- 0 SO_A, 1 SO_B (R375). -/
  output : Nat := 0
  /-- Every source tap showed the pulse (R375). -/
  tapsOk : Bool := false
  /-- The tap deadline has passed (R375). -/
  tapDone : Bool := false
  /-- The pin fell (R375). -/
  pinOk : Bool := false
  /-- A real request came during the pulse, so the pin check is skipped (R385). -/
  real : Bool := false
  /-- The pulse has ended and the pin-return deadline is awaited (R375). -/
  ended : Bool := false
  /-- Elapsed tick at which the pulse started, or ended (R375). -/
  at_ : Nat := 0
deriving DecidableEq, Repr

/-- The die-level calibration of a die (R426). -/
structure DieCal where
  /-- DIE_CAL_TEMP (R437). -/
  temp : Int := 250
  /-- Die-level items due (R426). -/
  due : Nat := 0
  /-- Die-level items ended in the present run (R432). -/
  done : Nat := 0
  /-- Die-level items failed in the present run (R432). -/
  failed : Nat := 0
  /-- Temperature at the start of the present die-level run (R426). -/
  runTemp : Int := 0
  /-- A bandgap cell was excluded in the present run (R432). -/
  spare : Bool := false
  /-- Bandgap cells excluded (R429). -/
  cells : Nat := 0
  /-- Die-level calibration results (R427). -/
  trim : Tbl Int := []
  /-- Trimmed widths of the interpolator bins (R58). -/
  bins : List Int := []
  /-- Trimmed pad delays, key the capture point; the factory value where absent (R58). -/
  pads : Tbl Int := []
  /-- Elapsed tick of the last temperature measurement (R426). -/
  lastAt : Option Nat := none
deriving DecidableEq, Repr

/-- The scrub of a die's control memory (R418). -/
structure Scrub where
  /-- CE_COUNT (R437). -/
  ceCount : BitVec 32 := 0
  /-- UE_COUNT (R437). -/
  ueCount : BitVec 32 := 0
  /-- Instants of corrections within the last 24 h (R420). -/
  ceDay : List Nat := []
  /-- HARD_BITS (R437). -/
  hardBits : Nat := 0
  /-- Words corrected in the present pass (R420). -/
  corrected : List Nat := []
  /-- Words corrected in the previous pass (R420). -/
  correctedPrev : List Nat := []
  /-- PASSES (R437). -/
  passes : BitVec 32 := 0
  /-- Word the scrub port reads next (R418). -/
  scrubAt : Nat := 0
  /-- Elapsed tick of the last word read (R418). -/
  wordAt : Option Nat := none
deriving DecidableEq, Repr

/-- Counts of a die at its last telemetry record (R435). -/
structure Tele where
  /-- MISSED at the last telemetry record (R435). -/
  missed : BitVec 32 := 0
  /-- CE_COUNT at the last telemetry record (R435). -/
  ce : BitVec 32 := 0
  /-- UE_COUNT at the last telemetry record (R435). -/
  ue : BitVec 32 := 0
  /-- Recoveries at the last telemetry record (R435). -/
  recs : Nat := 0
  /-- Sum of SLOT_EDGE at the last telemetry record (die 0) (R435). -/
  edge : BitVec 32 := 0
  /-- Calibration runs since the last telemetry record (R435). -/
  runs : Nat := 0
  /-- Peak of slots held since the last telemetry record (R435). -/
  slotPeak : Nat := 0
  /-- Elapsed tick of the last telemetry record (R435). -/
  lastAt : Option Nat := none
deriving DecidableEq, Repr

/-- A frame on a ring link (R21). -/
structure RingFrame where
  /-- Class: 1 time alignment, 2 dictionary and control, 3 records (R19). -/
  cls : Nat := 2
  /-- Die that sends it (R20). -/
  src : Nat := 0
  /-- Die that it goes to (R20). -/
  dst : Nat := 0
  /-- Parish named in the frame (R34). -/
  parish : Nat := 0
  /-- Object that a dictionary frame concerns, as index * 256 + sub; 0 for a heartbeat and for other classes (R17). -/
  key : Nat := 0
deriving DecidableEq, Repr

/-- A die of the part (R17). -/
structure Die where
  /-- Lost die (R22). -/
  lost : Bool := false
  /-- Core logic powered (R397). -/
  logicOn : Bool := true
  /-- DIES_UP bit (R347). -/
  up : Bool := false
  /-- Holds the 1 ns agreement (R24). -/
  aligned : Bool := true
  /-- Elapsed tick of the last lead heartbeat received, from which the missed ones count (R18). -/
  hbAt : Nat := 0
  /-- Elapsed tick at which die 0 last sent its heartbeats (R18). -/
  hbSentAt : Option Nat := none
  /-- The ownership entries of the die while a commit has changed the allocation objects and the die has not yet applied them; none when they follow the allocation objects in force (R34). -/
  ownHeld : Option (Tbl (List Byte)) := none
  /-- Lead declared lost: rota stopped and outputs off until reset (R18). -/
  leadLost : Bool := false
  /-- The rota stops at the current frame boundary (R18). -/
  stopAtFrame : Bool := false
  /-- Last link sequence number accepted on each link (R21). -/
  rxSeq : Tbl Nat := []
  /-- Last link sequence number acknowledged on each link (R21). -/
  acks : Tbl Nat := []
  /-- Per link: frames kept until the next die acknowledges them, in the order of their classes and within a class oldest first (R21). -/
  unacked : Tbl (List RingFrame) := []
  /-- Ring frames delivered at the die (R21). -/
  delivered : Nat := 0
  /-- Active rota bank (R197). -/
  active : Rota := {}
  /-- Next rota bank (R197). -/
  next : Rota := {}
  /-- RUN rota kept while the sentinel rota is in use (R202). -/
  sentinelHeld : Rota := {}
  /-- Rota that a power transition loaded, until it swaps at its first aligned frame instant (R202). -/
  bankTurn : Option Rota := none
  /-- ROTA_STATE (R201). -/
  rotaState : Nat := 0
  /-- REFUSE_CAUSE (R201). -/
  refuseCause : Nat := 0
  /-- REFUSE_ENTRY (R201). -/
  refuseEntry : Nat := 0
  /-- SWAP_STAMP (R201). -/
  swapStamp : BitVec 52 := 0
  /-- MISSED (R201). -/
  missed : BitVec 32 := 0
  /-- MISSED_BY_CAUSE and MISSED_BY_CAUSE_HI, key the cause (R201). -/
  missedBy : Tbl Nat := []
  /-- START_LAG_MAX (R201). -/
  startLag : Nat := 0
  /-- Peak of slots held since reset (R201). -/
  slotPeak : Nat := 0
  /-- SLOT_WAITS (R201). -/
  slotWaits : Nat := 0
  /-- STANDBY_ACTIVE (R201). -/
  standbyActive : Nat := 0
  /-- Entries of the active bank with an uncorrectable error (R421). -/
  rotaDamaged : List Nat := []
  /-- No rota is in force after a failed failover (R423). -/
  rotaNone : Bool := false
  /-- The next bank holds a checked reload copy of the active rota (R423). -/
  failover : Bool := false
  /-- FRAME (R154). -/
  frames : BitVec 32 := 0
  /-- Number N of the running frame (R181). -/
  frameN : Int := 0
  /-- Network time at which the running frame began, moved with a step (R46); none when no frame runs (R181). -/
  frameStart : Option Int := none
  /-- Elapsed tick at which the running frame began (R46). -/
  frameTick : Nat := 0
  /-- A step came while the frame ran, so it ends in elapsed ticks (R46). -/
  frameCut : Bool := false
  /-- Entries whose nominal instant has come in the running frame (R187). -/
  instants : List Nat := []
  /-- Digests that closed in the running frame, key the entry (R175). -/
  curDigests : Tbl (Option (BitVec 32)) := []
  /-- Frames paused for an operating-point switch (R401). -/
  paused : Bool := false
  /-- Open windows (R184). -/
  opens : List OpenWindow := []
  /-- Digests that closed in the previous frame, key the entry (R378). -/
  prevDigests : Tbl (Option (BitVec 32)) := []
  /-- Consecutive frames with an absence, key the entry (R378). -/
  pairAbsent : Tbl Nat := []
  /-- Consecutive frames with equal digests, key the entry (R381). -/
  pairEqual : Tbl Nat := []
  /-- The transaction table (R193). -/
  slots : Tbl Slot := []
  /-- Engines with the contexts that wait for a slot, oldest first (R162). -/
  slotWaiters : List (Nat × Nat) := []
  /-- Global ports that hold a governor slot (R79). -/
  govHeld : List Nat := []
  /-- Global ports that wait for a slot, in order of request (R80). -/
  govWait : List Nat := []
  /-- MILL_LAG, D (R228). -/
  lag : Nat := 1
  /-- D of the images applied, taken at the next round boundary (R212). -/
  lagNext : Option Nat := none
  /-- Old values of D that are kept, each with the rounds left (R212). -/
  oldLags : List (Nat × Nat) := []
  /-- MILL_DEMAND (R228). -/
  demand : Nat := 0
  /-- MILL_REFUSE (R228). -/
  millRefuse : Nat := 0
  /-- Number of the present mill round (R208). -/
  round : Nat := 0
  /-- Offer queue, oldest first (R217). -/
  offers : List Offer := []
  /-- OFFER_DROPS (R228). -/
  offerDrops : BitVec 32 := 0
  /-- SIEVE_REFUSE (R228). -/
  sieveRefuse : Nat := 0
  /-- QUEUE_PEAK (R228). -/
  queuePeak : Nat := 0
  /-- SPOIL[31:0] coalesced per parish (R228). -/
  spoilCo : Tbl Nat := []
  /-- SPOIL[63:32] dropped per parish (R228). -/
  spoilDrop : Tbl Nat := []
  /-- NV log regions, key the parish (R248). -/
  regions : Tbl Region := []
  /-- SPARES_FREE (R259). -/
  sparesFree : Nat := 1024
  /-- PAGES_RETIRED (R259). -/
  pagesRetired : Nat := 0
  /-- WRITE_RETRIES (R259). -/
  writeRetries : BitVec 32 := 0
  /-- Write count of each physical page (R248). -/
  pageWrites : Tbl Nat := []
  /-- TORN_PAGES (R259). -/
  tornPages : Nat := 0
  /-- SCAN_DONE (R259). -/
  scanDone : Bool := false
  /-- Physical blocks of the spare pool (R248). -/
  spareBlocks : List Nat := [240, 241, 242, 243, 244, 245, 246, 247, 248, 249, 250, 251, 252, 253, 254, 255]
  /-- Pages retired without a spare, by their place in the block map (R252). -/
  gonePages : List Nat := []
  /-- Spare page that serves a retired page (R252). -/
  remap : Tbl Nat := []
  /-- ROUTE_REFUSE (R283). -/
  routeRefuse : Nat := 0
  /-- TALLY_HOLDS (R283). -/
  tallyHolds : BitVec 32 := 0
  /-- CROSS_FAULTS (R283). -/
  crossFaults : Nat := 0
  /-- Cross-die lines read at their FAIL level here (R282). -/
  crossFail : Nat := 0
  /-- Outputs energised (bit 0 SO_A, bit 1 SO_B) (R363). -/
  soOut : Nat := 0
  /-- SO_READBACK (R394). -/
  soPin : Nat := 0
  /-- Outputs released since their last request (R366). -/
  soReleased : Nat := 0
  /-- Direct or sideband request present on each output (R27). -/
  directReq : Nat := 0
  /-- Confirmed matrix request on each output (R27). -/
  matrixReq : Nat := 0
  /-- Outputs turned off by current limit (R477). -/
  curOff : Nat := 0
  /-- Outputs within the 10 ms off time (R477). -/
  curHold : Nat := 0
  /-- Trip-test pulse in progress (R375). -/
  test : Option TripTest := none
  /-- TEST_FAILS (R394). -/
  testFails : Nat := 0
  /-- PAIR_FAULTS (R394). -/
  pairFaults : Nat := 0
  /-- Elapsed tick since which no request to an output has been present, key the output; absent while one is (R366). -/
  soFree : Tbl Nat := []
  /-- Elapsed tick at which an output last changed or its test pulse ended, key the output (R376). -/
  soAt : Tbl Nat := []
  /-- Elapsed tick at which an output's current limit turned it off, key the output (R477). -/
  curAt : Tbl Nat := []
  /-- Entries whose digests have been compared since the last frame boundary (R378). -/
  pairDone : List Nat := []
  /-- Pulses of the present round passed, bit per output (R375). -/
  roundOk : Nat := 0
  /-- A full trip-test round has passed since TEST or RECOVERY was entered (R381). -/
  roundPassed : Bool := false
  /-- Elapsed tick of the last watchdog service, or at which the die's logic came on (R373). -/
  wdSince : Nat := 0
  /-- The watchdog has been served since the die's logic came on (R373). -/
  wdServed : Bool := false
  /-- OP_POINT (R417). -/
  opPoint : Nat := 0
  /-- SYS runs from the FRC (R398). -/
  onFrc : Bool := false
  /-- Target point of the switch in progress (R401). -/
  opTarget : Option Nat := none
  /-- CAUSE bits of that switch (R415). -/
  opCause : Nat := 0
  /-- The target voltage is confirmed (R400). -/
  voltOk : Bool := false
  /-- Elapsed tick at which the present setpoint was ordered (R400). -/
  voltAt : Nat := 0
  /-- Core voltage setpoint (R400). -/
  coreSet : Nat := 900
  /-- Elapsed tick at which frames paused (R401). -/
  pauseAt : Nat := 0
  /-- W0 of the POINT record owed at the next frame (R401). -/
  pointDue : Option Nat := none
  /-- Relock attempts failed in this switch (R403). -/
  relocks : Nat := 0
  /-- Elapsed tick at which the present attempt to lock began (R403). -/
  relockAt : Nat := 0
  /-- RELOCK_FAILS (R417). -/
  relockFails : Nat := 0
  /-- SWITCHES (R417). -/
  switches : BitVec 32 := 0
  /-- CORE_MV, measured (R417). -/
  coreMv : Nat := 900
  /-- SYS_KHZ, measured (R417). -/
  sysKhz : Nat := 200000
  /-- DIE_TEMP (R417). -/
  temp : Int := 250
  /-- 5 V rail, measured (R435). -/
  rail5 : Nat := 5000
  /-- 3.3 V rail, measured (R435). -/
  rail33 : Nat := 3300
  /-- The scrub (R418). -/
  scrub : Scrub := {}
  /-- Die-level calibration (R426). -/
  cal : DieCal := {}
  /-- Telemetry counts (R435). -/
  tele : Tele := {}
  /-- FW_NV_ERASES (R437). -/
  fwErases : Nat := 0
  /-- Reload copies in firmware NV, by object key (R422). -/
  reload : Tbl (List Byte) := []
  /-- CRC-32 of each reload copy, by object index (R422). -/
  reloadCrc : Tbl Nat := []
  /-- Structures damaged and waiting for their reload, by object index, with the elapsed tick of detection (R422). -/
  reloadDue : Tbl Nat := []
  /-- Damaged structures whose reload failed, by object index (R422). -/
  reloadFailed : List Nat := []
  /-- Objects whose dictionary shadow is damaged, by index (die 0) (R421). -/
  shadowBad : List Nat := []
  /-- Structures applied whose reload copy is not yet written (R422). -/
  reloadTodo : List Nat := []
  /-- Its loaded configuration has been applied (R442). -/
  booted : Bool := false
  /-- Fault records withheld per key within 100 ms (R370). -/
  faultSpoil : Tbl Nat := []
  /-- Elapsed tick of the last record per key (R370). -/
  faultAt : Tbl Nat := []
  /-- SELFTEST_RESULT bit of the die (R460). -/
  selfFailed : Bool := false
deriving DecidableEq, Repr

/-- A parish (11_parishes.md) (R292). -/
structure Parish where
  /-- STATE: 0 INIT 1 TEST 2 RUN 3 RECOVERY 4 HALT (R292). -/
  state : Nat := 0
  /-- Elapsed tick at which STATE was last taken (R293). -/
  since : Nat := 0
  /-- Elapsed tick of the arm (parish 1) (R302). -/
  armAt : Nat := 0
  /-- Decided state not yet taken by every die (R293). -/
  target : Option Nat := none
  /-- Dies that have taken the decided state (R293). -/
  taken : List Nat := []
  /-- Causes that hold the parish in RECOVERY (1 engine halted, 2 die lost, 3 ownership damaged, 4 reeve, 5 POWER) (R293). -/
  cause : List Nat := []
  /-- VIOLATIONS (R307). -/
  violations : BitVec 32 := 0
  /-- Violations within the last second (R291). -/
  violAt : List Nat := []
  /-- TAG_FAILS (R307). -/
  tagFails : BitVec 32 := 0
  /-- Failed CONFIRM steps within the last second (R301). -/
  openFails : List Nat := []
  /-- OPEN refused for one second (R301). -/
  openBlocked : Bool := false
  /-- Elapsed tick since which OPEN is refused (R301). -/
  openBlockedAt : Nat := 0
  /-- AES-128 key (none is EMPTY) (R297). -/
  key : Option (List Byte) := none
  /-- ARM_REQ value and the session that armed (parish 1) (R302). -/
  armed : Option (Nat × Nat) := none
  /-- The last arm expired unused (R303). -/
  armExpired : Bool := false
  /-- ALLOC_REFUSE (R307). -/
  allocRefuse : Nat := 0
  /-- HOST_ASLEEP (R341). -/
  hostAsleep : Bool := false
  /-- TARGET of the parish's last SLEEP vote (R333). -/
  voteTarget : Nat := 0
  /-- Crier state (R245). -/
  wake : Wake := {}
  /-- BATCHES (R341). -/
  batches : BitVec 32 := 0
  /-- BATCH counter (R322). -/
  batchNo : BitVec 16 := 0
  /-- Source address and port of the most recent session opened since reset (R323). -/
  destSrc : Option (Nat × Nat) := none
  /-- Delivery of every PUSH stream goes on until none holds undelivered records (R241). -/
  deliverAll : Bool := false
  /-- Streams that a session's request has named (R322). -/
  pulls : List Nat := []
deriving DecidableEq, Repr

/-- The reeves acting as one supervisor (14_safety_twin.md) (R363). -/
structure Reeve where
  /-- LATCHED SAFE is in force (R383). -/
  latched : Bool := false
  /-- A fault reaction is in force (R371). -/
  reaction : Bool := false
  /-- Class, detail, die and item of the first fault (R383). -/
  firstKey : Option (Nat × Nat × Nat × Nat) := none
  /-- FIRST_FAULT (R394). -/
  firstFault : Nat := 0
  /-- FIRST_STAMP (R394). -/
  firstStamp : BitVec 52 := 0
  /-- Elapsed tick of the first fault (R383). -/
  firstAt : Nat := 0
  /-- SECOND_FAULT (R394). -/
  secondFault : Nat := 0
  /-- Keys of dangerous faults whose cause still holds (R382). -/
  causes : List (Nat × Nat × Nat × Nat) := []
  /-- RECOVERY with cause POWER (R386). -/
  powerCause : Bool := false
  /-- The cause has been absent for 100 ms (R382). -/
  clear100 : Bool := false
  /-- Elapsed tick at which that was found (R382). -/
  clearAt : Nat := 0
  /-- Elapsed tick at which a cause of RECOVERY last held (R382). -/
  heldAt : Nat := 0
  /-- A tagged STATE_REQ = 2 came after that, or RESTART_DELAY passed in AUTO (R382). -/
  runAsked : Bool := false
  /-- DANGEROUS (R394). -/
  dangerous : BitVec 32 := 0
  /-- TEST_ROUNDS (R394). -/
  testRounds : BitVec 32 := 0
  /-- FAULTS (#0010:05) (R347). -/
  faults : BitVec 32 := 0
  /-- LAST_FAULT (R347). -/
  lastFault : Nat := 0
  /-- LAST_FAULT_STAMP (R347). -/
  lastFaultStamp : BitVec 52 := 0
  /-- RQ_REASON (R348). -/
  rqReason : Nat := 0
  /-- RQ_FIRST (R348). -/
  rqFirst : BitVec 52 := 0
  /-- RQ_DIES (R348). -/
  rqDies : Nat := 0
  /-- TWTRIP_OUT driven high (R367). -/
  twtripOut : Bool := false
  /-- TWTRIP_IN reads high after the deglitch filter (R367). -/
  twtripIn : Bool := false
  /-- Resources owned by no parish after an uncorrectable error: allocation subindex and resource (R289). -/
  ownDamaged : List (Nat × Nat) := []
deriving DecidableEq, Repr

/-- The twin (R388). -/
structure Twin where
  /-- PAIR_STATE: 0 ALONE 1 SEEKING 2 PAIRED 3 DEGRADED (R395). -/
  state : Nat := 0
  /-- PARTNER_SERIAL (R395). -/
  partner : Nat := 0
  /-- WORDS_BAD (R395). -/
  wordsBad : BitVec 32 := 0
  /-- DISAGREEMENTS (R395). -/
  disagreements : BitVec 32 := 0
  /-- LOSSES (R395). -/
  losses : BitVec 32 := 0
  /-- TEST_PHASE (R395). -/
  testPhase : Nat := 0
  /-- Consecutive valid matching HELLO words (R389). -/
  matched : Nat := 0
  /-- Consecutive words with a REQ_OFF difference (R390). -/
  reqRun : Nat := 0
  /-- Consecutive words with a wire difference (R390). -/
  wireRun : Nat := 0
  /-- SEQ of the last valid word received (R388). -/
  rxSeq : Option Nat := none
  /-- Elapsed tick of the last word sent (R388). -/
  txAt : Option Nat := none
  /-- SEQ of the next word sent (R388). -/
  txSeq : BitVec 16 := 0
  /-- DETACH and REST words still to send (R392). -/
  todo : List Nat := []
  /-- The last word sent (R388). -/
  lastSent : List Byte := []
  /-- Elapsed tick of the last TWIN 0x04 (R389). -/
  refusedAt : Option Nat := none
  /-- Elapsed tick of the last valid word (R389). -/
  heardAt : Nat := 0
  /-- Elapsed tick of the last entry to DEGRADED (R391). -/
  lostAt : Nat := 0
  /-- TWIN_LOOP (R460). -/
  loopDepth : Nat := 0
  /-- TWIN_RESULT (R455). -/
  loopResult : BitVec 32 := 0
deriving DecidableEq, Repr

/-- Power states and clocks (15_power_clocks.md) (R396). -/
structure Power where
  /-- POWER_STATE (R396). -/
  state : Nat := 0
  /-- State the entry in progress goes to (R406). -/
  target : Nat := 0
  /-- CAUSE bits of that entry (R415). -/
  entryCause : Nat := 0
  /-- Elapsed tick of the commit point of the entry (R406). -/
  enteredAt : Nat := 0
  /-- Elapsed tick at which the hub, leaving RUN or IDLE, reached a lower state, for the time asleep (R415). -/
  reachedAt : Nat := 0
  /-- LPRC cycles counted in SLEEP and DEEP SLEEP since the hub left RUN or IDLE (R405). -/
  lprc : Nat := 0
  /-- That count as the present state was reached (R64). -/
  lprcAt : Nat := 0
  /-- LPRC cycles of the last four of an entry that have passed (R408). -/
  lprcEnd : Nat := 0
  /-- LPRC period measured just before the entry to DEEP SLEEP (R64). -/
  lprcPeriod : Nat := 0
  /-- Network time as DEEP SLEEP was reached (R64). -/
  sleepFine : Nat := 0
  /-- Elapsed tick at which a temperature of 125 C or more was last reported (R404). -/
  hotAt : Nat := 0
  /-- Parish 1 has been in RUN since reset (R443). -/
  ran : Bool := false
  /-- State before the entry (R415). -/
  prevState : Nat := 0
  /-- The drain has ended (R407). -/
  drained : Bool := false
  /-- CAUSE bits of wakes latched (R409). -/
  wakeLatched : Nat := 0
  /-- PENDING_REQ (R417). -/
  pendReq : Nat := 0
  /-- Waiting state request (R411). -/
  pendState : Nat := 0
  /-- Waiting OP_SET value (R411). -/
  pendOp : Nat := 0
  /-- An operating-point switch runs (R411). -/
  opBusy : Bool := false
  /-- Elapsed tick of T_OP (R401). -/
  opAt : Nat := 0
  /-- CAUSE bits of the waiting request (R415). -/
  pendCause : Nat := 0
  /-- LAST_WAKE (R417). -/
  lastWake : Nat := 0
  /-- ASLEEP_MS (R417). -/
  asleepMs : Nat := 0
  /-- CAUSE of the WAKE_NOTICE owed on each port (R325). -/
  noticeCause : Nat := 0
  /-- Ports that still owe a WAKE_NOTICE (R325). -/
  noticeOwed : Nat := 0
  /-- FROM of that notice (R325). -/
  noticeFrom : Nat := 0
  /-- VIN is valid (R439). -/
  vinOk : Bool := false
  /-- A thermal shutdown holds the hub (R438). -/
  thermDown : Bool := false
  /-- VIN_MV (R417). -/
  vinMv : Nat := 24000
  /-- PKG_MW (R417). -/
  pkgMw : Nat := 0
  /-- CONV_STATE[0] (R417). -/
  phaseFault : Bool := false
  /-- CONV_STATE[1] (R417). -/
  convHot : Bool := false
  /-- CONV_STATE[2] (R417). -/
  stepDown : Bool := false
  /-- THERMAL 0x01 holds (R404). -/
  thermHot : Bool := false
  /-- CONV_TEMP (R417). -/
  convTemp : Int := 250
  /-- HOST_WAKE asserted (R245). -/
  hostWake : Bool := false
deriving DecidableEq, Repr

/-- Firmware slots and the boot (R362). -/
structure Fw where
  /-- FW_VERSION (R347). -/
  version : Nat := 0
  /-- FW_SLOT (R347). -/
  slot : Nat := 0
  /-- FW_SECURITY (R347). -/
  security : Nat := 0
  /-- FW_STATE (R362). -/
  state : Nat := 0
  /-- Image written into the inactive slot (R362). -/
  image : List Byte := []
  /-- Slot chosen by FW_SWITCH for the next reset (R362). -/
  nextSlot : Option Nat := none
  /-- Bytes of the copies of the persisted set that read wrong: the copy (0 the current one, 1 the other), the place, and the bits that differ (R441). -/
  nvBad : List (Nat × Nat × Nat) := []
  /-- CRC-32 that protects the current copy of the persisted set (R352). -/
  setCrc : Nat := 0
  /-- CRC-32 that protects the other copy (R352). -/
  otherCrc : Nat := 0
  /-- Slots that failed their check at boot (R349). -/
  badSlots : Nat := 0
  /-- Version of the image in each slot that has been written and checked (R347). -/
  slotVersion : Tbl Nat := []
  /-- Security version of that image (R305). -/
  slotSecurity : Tbl Nat := []
  /-- Both slots failed: only STATUS, PING and firmware writes are answered (R306). -/
  boot : Bool := false
deriving DecidableEq, Repr

/-- The commit in progress (R350). -/
structure Commit where
  /-- COMMIT_STATE (R350). -/
  state : Nat := 0
  /-- COMMIT_RESULT (R350). -/
  result : Nat := 0
  /-- COMMIT_AT (R350). -/
  failAt : Nat := 0
  /-- COMMIT_T (R350). -/
  t : BitVec 52 := 0
  /-- COMMITS (R350). -/
  commits : BitVec 32 := 0
  /-- Mask of the running commit (R351). -/
  mask : Nat := 0
  /-- Action 1 (R351). -/
  persist : Bool := false
  /-- What has not yet applied: a die, 255 for the package objects, 256 + n for a port whose operation is in flight (R351). -/
  todo : List Nat := []
  /-- Objects of the running commit, by key (R351). -/
  keys : List Nat := []
deriving DecidableEq, Repr

/-- Test and loopback objects of the part (R460). -/
structure Test where
  /-- PROD_MODE (R460). -/
  prodMode : Bool := false
  /-- SELFTEST_RESULT[1:0] (R460). -/
  selfRun : Nat := 0
  /-- RING_LOOP (R460). -/
  ringLoop : Tbl Nat := []
  /-- RING_RESULT (R460). -/
  ringResult : Tbl Nat := []
  /-- Ring links declared lost (R21). -/
  linkDown : List Nat := []
deriving DecidableEq, Repr

/-- The idle timers of RUN and IDLE (R405). -/
structure Timers where
  /-- IDLE_TIME: elapsed ticks in RUN since the lead steward last served a request (R405). -/
  idleRun : Nat := 0
  /-- SLEEP_TIME: elapsed ticks counted in IDLE since the last activity (R405). -/
  sleepRun : Nat := 0
deriving DecidableEq, Repr

/-- The hub (R17). -/
structure State where
  /-- The queue of waiting commands (the model's own field, fixed by the interface). -/
  pending : List Instr := []
  /-- DIES: 2, 4 or 8; the part follows (SCN-820, SCN-840, SCN-880) (R347). -/
  dies : Nat := 8
  /-- SERIAL (factory) (R347). -/
  serial : Nat := 0x5C4E0001
  /-- MAC_ADDR (factory) (R341). -/
  mac : Nat := 0x024144500002
  /-- CMPT_STRAP (R354). -/
  cmptStrap : Bool := false
  /-- CMPT_ACTIVE (R354). -/
  cmpt : Bool := false
  /-- RESET_CAUSE (R347). -/
  resetCause : Nat := 0
  /-- DICT_READY (R118). -/
  dictReady : Bool := false
  /-- TESTEN sampled at reset (R457). -/
  testen : Bool := false
  /-- Dies that have written their START anchor (R60). -/
  startAnchor : Nat := 0
  /-- The time base (R35). -/
  time : TimeBase := {}
  /-- The servo (R48). -/
  servo : Servo := {}
  /-- PTP ports (R56). -/
  ptp : Tbl PtpPort := []
  /-- Network (R341). -/
  net : Net := {}
  /-- Network ports (R341). -/
  netPorts : Tbl NetPort := []
  /-- Sessions (R298). -/
  sessions : List Session := []
  /-- Service port (R113). -/
  svc : SvcPort := {}
  /-- Dies (R17). -/
  die : Tbl Die := []
  /-- Sensor ports, key the global number (R65). -/
  port : Tbl Port := []
  /-- Tap engines, key the global number (R150). -/
  engine : Tbl Engine := []
  /-- Streams, key the stream ID (R360). -/
  stream : Tbl Stream := []
  /-- Mill channels, key the global number (R203). -/
  mill : Tbl MillChan := []
  /-- Sieve rules, key the global number (R216). -/
  rule : Tbl Rule := []
  /-- Tally channels, key unit * 4 + channel (R260). -/
  tally : Tbl Tally := []
  /-- Matrix rows, key die * 256 + row (R277). -/
  row : Tbl Row := []
  /-- Matrix columns, key die * 256 + column (R277). -/
  col : Tbl Col := []
  /-- Parishes (R292). -/
  parish : Tbl Parish := []
  /-- Values in force of RWP objects, key index * 256 + sub; an unlisted one is at its table's default (R351). -/
  conf : Tbl (List Byte) := []
  /-- Pending writes (R351). -/
  pend : Tbl (List Byte) := []
  /-- The current persisted copy (R352). -/
  persisted : Tbl (List Byte) := []
  /-- The other copy (R352). -/
  persistedOther : Tbl (List Byte) := []
  /-- Both copies failed their CRC (R441). -/
  persistedBad : Bool := false
  /-- GENERATION of each object (R329). -/
  gens : Tbl Nat := []
  /-- Value of an RO object at its last READ_BLOCK (R329). -/
  seen : Tbl (List Byte) := []
  /-- Commit (R350). -/
  commit : Commit := {}
  /-- Reeve (R363). -/
  reeve : Reeve := {}
  /-- Idle timers (R405). -/
  timers : Timers := {}
  /-- Twin (R388). -/
  twin : Twin := {}
  /-- Power (R396). -/
  power : Power := {}
  /-- Firmware (R362). -/
  fw : Fw := {}
  /-- Test (R460). -/
  test : Test := {}
  /-- Counter of free values drawn (the model's own field; DESIGN CHOICE, log entry 7). -/
  free : Nat := 0
deriving DecidableEq, Repr

/-- The machine right after reset, before start-up (R438, R440): every field at its default, the reset value that
spec/ gives or, where it gives none, the value that the assumption log names. The dictionary is at its table defaults,
no command waits, and every table lists nothing. -/
def State.reset : State := { pending := [] }

end Sys2Proof.Machine
end

