-- ==== Sys2Proof/Machine/Objects.lean ====
section
/-! DEFINITION. The object dictionary's catalogue (R342 to R362 and the object tables of every chapter): which objects
exist on a part, their types, access, defaults, ranges, owners and readers, and the reading of a setting in force. -/

namespace Sys2Proof.Machine

/-! ### Types, access and ranges -/

/-- Object types (R343): an unsigned or signed number of so many bytes, a stamp, a TIME96, text, opaque bytes, a key.
A `blob n f` holds up to n bytes; its default is f.1 bytes of value f.2. -/
inductive ObjType where
  | bool
  | nat (bytes : Nat)
  | int (bytes : Nat)
  | stamp
  | time96
  | str (n : Nat)
  | blob (n : Nat) (fill : Nat × Nat)
  | key16
deriving DecidableEq, Repr

/-- Object access codes (R15). -/
inductive Access where
  | co | ro | rw | wo | rwp
deriving DecidableEq, Repr

/-- The range that an object's table or owning rule gives for that object alone (R480). -/
inductive Rng where
  | any
  | between (lo hi : Int)
  | codes (l : List Nat)
  | steps (lo hi st : Nat)
  /-- PIN_PULL: codes 0 to 4 per pin, code 1 on P0 and P1 only (R69). -/
  | pinPull
  /-- ADP_ETHERTYPE (R341). -/
  | etherType
  /-- A multicast address of 48 bits (R341). -/
  | multicast
  /-- Nanoseconds of a TIME96 below one second (R39). -/
  | time96
  /-- SRC of a matrix row (R278). -/
  | srcCode
  /-- DEST of a matrix column (R279). -/
  | destCode
  /-- CFG of a tally channel: CLK 3, DIR 3 and action code 7 are reserved (R261, R269, R276). -/
  | tallyCfg
  /-- CAP_SRC of a tally channel (R275). -/
  | capSrc
  /-- DW_CYCLE (R330). -/
  | dwCycle
  /-- TELEM_PERIOD (R437). -/
  | telem
deriving DecidableEq, Repr

/-- Who may write an object (R15): the owner of its resource, one parish, or any parish. -/
inductive Own where
  | unit | fixed (p : Nat) | any
deriving DecidableEq, Repr

/-- Who may read an object (R345): its owner's readers, every parish, the owner and parish 0 alone, or parishes 0 and 1. -/
inductive Rd where
  | owner | all | ownerOnly | safety
deriving DecidableEq, Repr

/-- One row of an object table. -/
structure ObjRow where
  sub : Nat
  ty : ObjType
  acc : Access
  dflt : Int := 0
  rng : Rng := .any
  own : Own := .unit
  /-- Bits of a number that the table defines; the others are reserved and ignored (R13). -/
  mask : Option Nat := none
deriving DecidableEq, Repr

/-- Size in bytes of a value of a type; the largest size of STR and BLOB (R343). -/
def ObjType.size : ObjType → Nat
  | .bool => 1 | .nat n => n | .int n => n | .stamp => 8 | .time96 => 12 | .str n => n | .blob n _ => n | .key16 => 16

/-- Whether a written length fits a type (R344). -/
def ObjType.lenOk (t : ObjType) (n : Nat) : Bool :=
  match t with
  | .str m => n ≤ m
  | .blob m _ => n ≤ m
  | _ => n == t.size

/-- An RO row of owner 0. -/
def roRow (sub : Nat) (ty : ObjType) (dflt : Int := 0) : ObjRow := { sub, ty, acc := .ro, dflt, own := .fixed 0 }

/-- A CO row of owner 0. -/
def coRow (sub : Nat) (ty : ObjType) (dflt : Int := 0) : ObjRow := { sub, ty, acc := .co, dflt, own := .fixed 0 }

/-- An RO row of the resource's owner. -/
def roOwn (sub : Nat) (ty : ObjType) (dflt : Int := 0) : ObjRow := { sub, ty, acc := .ro, dflt }

/-- An RWP row of the resource's owner. -/
def cfgOwn (sub : Nat) (ty : ObjType) (dflt : Int := 0) (rng : Rng := .any) (mask : Option Nat := none) : ObjRow :=
  { sub, ty, acc := .rwp, dflt, rng, mask }

/-- An RWP row of one parish. -/
def cfgFix (p sub : Nat) (ty : ObjType) (dflt : Int := 0) (rng : Rng := .any) (mask : Option Nat := none) : ObjRow :=
  { sub, ty, acc := .rwp, dflt, rng, own := .fixed p, mask }

/-- A row of a given access and owner. -/
def rowOf (acc : Access) (own : Own) (sub : Nat) (ty : ObjType) (dflt : Int := 0) (rng : Rng := .any)
    (mask : Option Nat := none) : ObjRow := { sub, ty, acc, dflt, rng, own, mask }

/-! ### Layouts -/

/-- The layouts of R346 with the resource each index names. -/
inductive Lay where
  | identity | status | request | commit | compat
  | netGen | netPort (n : Nat) | netWin (n : Nat)
  | parState (p : Nat) | parAlloc (p : Nat) | parKey (p : Nat) | parDest (p : Nat) | parUser (p : Nat)
  | timeNow | timeRate | timeAdj | servo | ptp (n : Nat)
  | port (n off : Nat)
  | eng (e : Nat) | engScratch (e : Nat)
  | rota (d : Nat)
  | stream (k : Nat)
  | mill (c : Nat) | millDie (d : Nat)
  | rule (r : Nat) | sieveDie (d : Nat)
  | granDie (d : Nat) | granPar (p : Nat)
  | nvDie (d : Nat) | nvRegion (d p : Nat)
  | tally (t : Nat) | tallyUnit (u : Nat)
  | row (d r : Nat) | col (d c : Nat) | routeDie (d : Nat)
  | reeve | reeveDie (d : Nat) | tripMap (n : Nat) | verdictMap (r : Nat) | twin
  | power | powerDie (d : Nat) | powerPkg
  | bg | bgDie (d : Nat) | calPort (n : Nat)
  | test | portLoop (n : Nat) | netLoop (n : Nat) | twinLoop | ringLoop (l : Nat)
  | firmware
deriving DecidableEq, Repr

/-- The offsets in use within a port's block (R356). -/
def portOffsets : List Nat := [0, 1, 2, 4, 5, 6, 8, 9, 10, 11, 12, 13, 14]

/-- The layout of an index in the identity, network and parish areas (R346). -/
def layLow (i : Nat) : Option Lay :=
  if i = 0x0000 then some .identity
  else if i = 0x0010 then some .status
  else if i = 0x0040 then some .request
  else if i = 0x0050 then some .commit
  else if i = 0x0060 then some .compat
  else if i = 0x0800 then some .netGen
  else if i = 0x0810 ∨ i = 0x0820 ∨ i = 0x0830 then some (.netPort (i / 16 % 16 - 1))
  else if i = 0x0811 ∨ i = 0x0821 ∨ i = 0x0831 then some (.netWin (i / 16 % 16 - 1))
  else if i / 4096 = 2 then
    let p := i / 256 % 16
    let o := i % 256
    if o = 0 then some (.parState p) else if o = 1 then some (.parAlloc p) else if o = 2 then some (.parKey p)
    else if o = 3 then some (.parDest p) else if o = 0x10 then some (.parUser p) else none
  else if i = 0x3000 then some .timeNow
  else if i = 0x3010 then some .timeRate
  else if i = 0x3011 then some .timeAdj
  else if i = 0x3020 then some .servo
  else if i = 0x3100 ∨ i = 0x3110 ∨ i = 0x3120 then some (.ptp (i / 16 % 16))
  else none

/-- The layout of an index in the port, engine, rota and stream areas (R346). -/
def layMid (dies i : Nat) : Option Lay :=
  if i < 0x6000 then
    let n := (i - 0x4000) / 64
    let o := (i - 0x4000) % 64
    if n < dies * 12 ∧ portOffsets.contains o then some (.port n o) else none
  else if i < 0x6C00 then
    let e := (i - 0x6000) / 16
    if e < dies * 24 then
      if i % 16 = 0 then some (.eng e) else if i % 16 = 1 then some (.engScratch e) else none
    else none
  else if i < 0x7000 then
    if i % 128 = 0 ∧ (i - 0x6C00) / 128 < dies then some (.rota ((i - 0x6C00) / 128)) else none
  else if i - 0x7000 < dies * 512 then some (.stream (i - 0x7000)) else none

/-- The layout of an index in the mill, sieve, granary, log, tally and matrix areas (R346). -/
def layHigh (dies i : Nat) : Option Lay :=
  if i < 0x8200 then if i - 0x8000 < dies * 16 then some (.mill (i - 0x8000)) else none
  else if i < 0x8400 then
    if i % 16 = 0 ∧ (i - 0x8200) / 16 < dies then some (.millDie ((i - 0x8200) / 16)) else none
  else if i < 0x8600 then if i - 0x8400 < dies * 64 then some (.rule (i - 0x8400)) else none
  else if i < 0x9000 then
    if i % 16 = 0 ∧ (i - 0x8600) / 16 < dies then some (.sieveDie ((i - 0x8600) / 16)) else none
  else if i < 0x9100 then
    if i % 16 = 0 ∧ (i - 0x9000) / 16 < dies then some (.granDie ((i - 0x9000) / 16)) else none
  else if i < 0x9800 then
    if i % 16 = 0 ∧ (i - 0x9100) / 16 < 16 then some (.granPar ((i - 0x9100) / 16)) else none
  else if i < 0x9900 then
    if i % 16 = 0 ∧ (i - 0x9800) / 16 < dies then some (.nvDie ((i - 0x9800) / 16)) else none
  else if i < 0xA000 then
    if (i - 0x9900) / 16 < dies then some (.nvRegion ((i - 0x9900) / 16) (i % 16)) else none
  else if i < 0xA100 then if i - 0xA000 < dies * 32 then some (.tally (i - 0xA000)) else none
  else if i < 0xA800 then if i - 0xA100 < dies * 8 then some (.tallyUnit (i - 0xA100)) else none
  else
    let d := (i - 0xA800) / 256
    let o := i % 256
    if d < dies ∧ i < 0xB000 then
      if o < 80 then some (.row d o)
      else if 128 ≤ o ∧ o < 192 then some (.col d (o - 128))
      else if o = 0xF0 then some (.routeDie d) else none
    else none

/-- The layout of an index in the power, safety, background, test and vendor areas (R346). -/
def layTop (dies i : Nat) : Option Lay :=
  if i = 0xC000 then some .power
  else if i = 0xC100 then some .powerPkg
  else if 0xC010 ≤ i ∧ i < 0xC010 + dies then some (.powerDie (i - 0xC010))
  else if i = 0xD000 then some .reeve
  else if 0xD010 ≤ i ∧ i < 0xD010 + dies then some (.reeveDie (i - 0xD010))
  else if 0xD100 ≤ i ∧ i < 0xD100 + dies * 12 then some (.tripMap (i - 0xD100))
  else if 0xD200 ≤ i ∧ i < 0xD200 + dies * 64 then some (.verdictMap (i - 0xD200))
  else if i = 0xD800 then some .twin
  else if i = 0xE000 then some .bg
  else if 0xE010 ≤ i ∧ i < 0xE010 + dies then some (.bgDie (i - 0xE010))
  else if 0xE100 ≤ i ∧ i < 0xE100 + dies * 12 then some (.calPort (i - 0xE100))
  else if i = 0xF000 then some .test
  else if 0xF100 ≤ i ∧ i < 0xF100 + dies * 12 then some (.portLoop (i - 0xF100))
  else if 0xF201 ≤ i ∧ i < 0xF204 then some (.netLoop (i - 0xF201))
  else if i = 0xF300 then some .twinLoop
  else if 0xF400 ≤ i ∧ i < 0xF400 + dies then some (.ringLoop (i - 0xF400))
  else if i = 0xF800 then some .firmware
  else none

/-- The layout that an index of a part of so many dies names; none where no table defines the index (R342, R9). -/
def layOf (dies i : Nat) : Option Lay :=
  if i < 0x4000 then layLow i
  else if i < 0x8000 then layMid dies i
  else if i < 0xB000 then layHigh dies i
  else layTop dies i

/-- The index of a layout (the inverse of `layOf`). -/
def layIndex : Lay → Nat
  | .identity => 0 | .status => 0x10 | .request => 0x40 | .commit => 0x50 | .compat => 0x60
  | .netGen => 0x800 | .netPort n => 0x810 + 16 * n | .netWin n => 0x811 + 16 * n
  | .parState p => 0x2000 + 256 * p | .parAlloc p => 0x2001 + 256 * p | .parKey p => 0x2002 + 256 * p
  | .parDest p => 0x2003 + 256 * p | .parUser p => 0x2010 + 256 * p
  | .timeNow => 0x3000 | .timeRate => 0x3010 | .timeAdj => 0x3011 | .servo => 0x3020 | .ptp n => 0x3100 + 16 * n
  | .port n o => 0x4000 + 64 * n + o | .eng e => 0x6000 + 16 * e | .engScratch e => 0x6001 + 16 * e
  | .rota d => 0x6C00 + 128 * d | .stream k => 0x7000 + k | .mill c => 0x8000 + c | .millDie d => 0x8200 + 16 * d
  | .rule r => 0x8400 + r | .sieveDie d => 0x8600 + 16 * d | .granDie d => 0x9000 + 16 * d
  | .granPar p => 0x9100 + 16 * p | .nvDie d => 0x9800 + 16 * d | .nvRegion d p => 0x9900 + 16 * d + p
  | .tally t => 0xA000 + t | .tallyUnit u => 0xA100 + u | .row d r => 0xA800 + 256 * d + r
  | .col d c => 0xA880 + 256 * d + c | .routeDie d => 0xA8F0 + 256 * d | .reeve => 0xD000
  | .reeveDie d => 0xD010 + d | .tripMap n => 0xD100 + n | .verdictMap r => 0xD200 + r | .twin => 0xD800
  | .power => 0xC000 | .powerDie d => 0xC010 + d | .powerPkg => 0xC100 | .bg => 0xE000 | .bgDie d => 0xE010 + d
  | .calPort n => 0xE100 + n | .test => 0xF000 | .portLoop n => 0xF100 + n | .netLoop n => 0xF201 + n
  | .twinLoop => 0xF300 | .ringLoop l => 0xF400 + l | .firmware => 0xF800

/-! ### The tables -/

/-- Identity, status, replacement request, commit and compatibility (R347, R348, R350, R354). -/
def rowsGeneral : Lay → List ObjRow
  | .identity =>
    [coRow 1 (.str 8), coRow 2 (.nat 2), coRow 3 (.nat 1), coRow 4 (.nat 1) 0xB2, coRow 5 (.nat 1) 0x45,
     coRow 6 (.nat 8), roRow 7 (.nat 4), roRow 8 (.nat 1), roRow 9 (.nat 2), coRow 0xA (.nat 2) 1]
  | .status =>
    [roRow 1 (.nat 1), roRow 2 (.nat 8), roRow 3 (.nat 1), roRow 4 (.nat 1), roRow 5 (.nat 4), roRow 6 (.nat 4),
     roRow 7 .stamp, roRow 8 (.nat 4)]
  | .request => [roRow 1 .bool, roRow 2 (.nat 2), roRow 3 .stamp, roRow 4 (.nat 1)]
  | .commit =>
    [rowOf .wo .any 1 (.nat 4) (mask := some 0xFFFF0003), roRow 2 (.nat 1), roRow 3 (.nat 2), roRow 4 (.nat 4),
     roRow 5 .stamp, roRow 6 (.nat 2), roRow 7 (.nat 4)]
  | .compat => [cfgFix 0 1 (.nat 1) 0 (.between 0 2), roRow 2 .bool, roRow 3 .bool]
  | .firmware => [rowOf .wo (.fixed 0) 1 (.blob 524288 (0, 0)), roRow 2 (.nat 1), rowOf .wo (.fixed 0) 3 .bool]
  | _ => []

/-- Network objects (R341). -/
def rowsNet : Lay → List ObjRow
  | .netGen =>
    [coRow 1 (.nat 8), cfgFix 0 2 (.nat 2) 0x88B5 .etherType, cfgFix 0 3 (.nat 8) 0x034144500001 .multicast,
     cfgFix 0 4 (.nat 2) 10 (.between 0 3600), cfgFix 0 5 (.nat 2) 1000 (.between 100 60000), cfgFix 0 6 (.nat 2),
     cfgFix 0 7 (.nat 2) 2 (.between 1 100), roRow 8 (.nat 1), roRow 9 (.nat 4), roRow 0xA (.nat 4),
     roRow 0xB (.nat 4), roRow 0xC (.nat 4)]
  | .netPort n =>
    [cfgFix 0 1 .bool 1, roRow 2 (.nat 1), cfgFix 0 3 .bool, cfgFix 0 4 (.nat 1) 1 (.between 0 254),
     cfgFix 0 5 (.nat 1) 8 (.between 1 255), cfgFix 0 6 (.nat 1) 32, cfgFix 0 7 (.nat 1), cfgFix 0 8 (.nat 1) 128,
     cfgFix 0 9 (.nat 1) 0 (.between 0 1), cfgFix 0 0xA (.nat 1) 2 (.between 0 2),
     cfgFix 0 0xB (.nat 1) (if n = 0 then 1 else if n = 1 then 0 else 255) (.codes [0, 1, 255]),
     cfgFix 0 0xC (.nat 2) 5 (.between 0 3600), roRow 0xD (.nat 4), roRow 0xE (.nat 4), roRow 0xF (.nat 4),
     roRow 0x10 (.nat 4), roRow 0x11 (.nat 4), roRow 0x12 (.nat 4)]
  | .netWin _ =>
    [cfgFix 0 1 (.nat 4) 0 .dwCycle, cfgFix 0 2 (.nat 2) 20 (.between 0 10000)]
      ++ (List.range 8).map (fun k => cfgFix 0 (3 + k) (.nat 8) (mask := some 0x00FFFFFFFFFFFFFF))
  | .parDest _ =>
    [cfgOwn 1 (.nat 1) 0 (.between 0 1), cfgOwn 2 (.nat 8), cfgOwn 3 (.nat 1) 2 (.between 0 2), roOwn 4 .bool,
     roOwn 5 (.nat 4)]
  | _ => []

/-- Parish objects (R307, R355). -/
def rowsParish : Lay → List ObjRow
  | .parState _ =>
    [roOwn 1 (.nat 1), rowOf .wo .unit 2 (.nat 1) 0 (.codes [2, 4]), cfgOwn 3 (.nat 2) 100 (.between 0 60000),
     cfgOwn 4 (.nat 2), roRow 5 (.nat 4), cfgFix 0 6 (.nat 2)]
  | .parAlloc p =>
    [cfgFix 0 1 (.blob 12 (12, 0)), cfgFix 0 2 (.blob 24 (24, 0)), cfgFix 0 3 (.blob 8 (8, 0)),
     cfgFix 0 4 (.blob 64 (64, 255)), cfgFix 0 5 (.blob 32 (32, 0)), cfgFix 0 6 (.blob 16 (16, 0)),
     cfgFix 0 7 (.blob 64 (64, 0)), cfgFix 0 8 (.nat 8), cfgFix 0 9 (.blob 64 (64, 0)),
     cfgFix 0 0xA (.blob 64 (64, 0)), cfgFix 0 0xB (.blob 8 (8, 0)), cfgFix 0 0xC (.nat 1), cfgFix 0 0xD .bool,
     cfgFix 0 0xE (.blob 32 (32, 255)), cfgFix 0 0xF (.nat 1) (if p = 0 then 5 else 0), cfgFix 0 0x10 (.nat 2),
     roRow 0x11 (.nat 4)]
  | .parKey p =>
    [rowOf .wo .unit 1 .key16, roOwn 2 (.nat 1), cfgOwn 3 .bool, cfgOwn 4 (.nat 2) 60 (.between 1 3600),
     roOwn 5 (.nat 4)] ++ (if p = 1 then [rowOf .wo .unit 6 (.nat 4)] else [])
      ++ [roOwn 7 (.nat 1), cfgOwn 8 (.nat 2) 10 (.between 1 60)]
  | .parUser _ => (List.range 16).map (fun k => cfgOwn (1 + k) (.blob 64 (0, 0)))
  | _ => []

/-- Time-base and PTP objects (R55, R56). -/
def rowsTime : Lay → List ObjRow
  | .timeNow => [roOwn 1 .time96, roOwn 2 (.nat 1), roOwn 3 (.nat 1), roOwn 4 (.int 8), roOwn 5 (.int 2)]
  | .timeRate =>
    [rowOf .rw .unit 1 (.nat 8) 0x400000000 (.between 0x3FF7CED91 0x40083126F), roOwn 2 (.int 4)]
  | .timeAdj =>
    [rowOf .wo .unit 1 (.int 8), rowOf .wo .unit 2 .time96 0 .time96, rowOf .rw .unit 3 (.nat 1) 0 (.between 0 1),
     cfgOwn 4 (.nat 2) 100 (.between 1 1000), roOwn 5 (.int 8)]
  | .servo =>
    [cfgOwn 1 (.nat 1) 1 (.between 0 1), cfgOwn 2 (.nat 2) 1024, cfgOwn 3 (.nat 2) 128, cfgOwn 4 (.nat 4) 1000000,
     cfgOwn 5 (.nat 4) 100, cfgOwn 6 (.nat 1) 8 (.between 1 64), cfgOwn 7 (.nat 1) 4 (.between 2 64), roOwn 8 (.int 8),
     roOwn 9 (.nat 4), cfgOwn 0xA (.nat 1) 2 (.codes [0, 1, 2, 255]), rowOf .wo .unit 0xB .bool]
  | .ptp n =>
    [cfgOwn 1 .bool (if n = 2 then 1 else 0), cfgOwn 2 (.nat 1) 0 (if n = 2 then .between 0 1 else .between 0 0),
     cfgOwn 3 (.nat 1) 0 (.between 0 127), cfgOwn 4 (.nat 1) 2 (.between 0 2), cfgOwn 5 (.nat 1) 1 (.between 0 1),
     cfgOwn 6 (.int 1) (-3) (.between (-7) 1), cfgOwn 7 (.int 1) 0 (.between (-4) 5), cfgOwn 8 (.nat 2),
     cfgOwn 9 (.nat 2), cfgOwn 0xA (.nat 1) 128, cfgOwn 0xB (.nat 1) 128, cfgOwn 0xC (.nat 1) 248, roOwn 0xD (.nat 1) 1,
     roOwn 0xE (.nat 8), roOwn 0xF (.int 8), roOwn 0x10 (.nat 4)]
  | _ => []

/-- The rows of a trip signal: C0, C1, or WIN with subindexes 1 to 7 reserved (R357). -/
def rowsTrip (win : Bool) : List ObjRow :=
  (if win then (List.range 7).map (fun k => rowOf .rwp .unit (1 + k) (if k = 2 then .nat 2 else .nat 1) 0 .any (some 0))
   else
    [cfgOwn 1 (.nat 1) 0 (.between 0 2), cfgOwn 2 (.nat 1) 0 (.between 0 2), cfgOwn 3 (.nat 2) 0 (.between 0 1023),
     cfgOwn 4 (.nat 1) 0 (.between 0 1), cfgOwn 5 (.nat 1) 0 (.between 0 3), cfgOwn 6 (.nat 1) 0 (.between 0 3),
     cfgOwn 7 (.nat 1) 3 (.between 2 3)])
   ++ [cfgOwn 8 (.nat 2) 1 (.between 1 4096), cfgOwn 9 (.nat 1) 1 (.between 1 15), cfgOwn 0xA (.nat 1) 1 (.between 1 15),
     cfgOwn 0xB (.nat 1) 0 (.between 0 1), cfgOwn 0xC (.nat 1) 0 (.between 0 1), cfgOwn 0xD (.nat 1) 0 (.between 0 7),
     cfgOwn 0xE .bool] ++ (if win then [cfgOwn 0xF (.nat 1) 0 (.between 0 2)] else [])

/-- Port objects (R357). -/
def rowsPort (off : Nat) : List ObjRow :=
  if off = 0 then
    [cfgOwn 1 (.nat 1) 0 (.between 0 5), cfgOwn 2 (.nat 2) 0 .pinPull, cfgOwn 3 (.nat 1) 0 (.between 0 1),
     cfgOwn 4 (.nat 1) 10 (.steps 10 150 10), cfgOwn 5 .bool, cfgOwn 6 (.nat 1) (mask := some 15),
     rowOf .rw .unit 7 (.nat 1) 0 (.between 0 2), cfgOwn 8 (.nat 2) 100 (.between 1 1000)]
  else if off = 1 then (List.range 7).map (fun k => roOwn (1 + k) (.nat 4))
  else if off = 2 then
    [cfgOwn 1 .bool, cfgOwn 2 (.nat 1) 10 (.between 10 250), cfgOwn 3 (.nat 2) 1 (.between 1 1000)]
  else if off = 4 then
    [cfgOwn 1 (.nat 1) 1 (.between 0 2)] ++ (List.range 5).map (fun k => cfgOwn (2 + k) (.nat 2) 0xFFFF)
      ++ [cfgOwn 7 (.nat 1) 0xFF, cfgOwn 8 (.nat 1) 0xFF, cfgOwn 9 (.nat 1) 3 (.between 0 7),
          cfgOwn 0xA (.nat 1) 25 (.between 1 35), cfgOwn 0xB (.nat 1) 25 (.between 1 35)]
  else if off = 5 then
    [cfgOwn 1 (.nat 4) 1000000 (.between 0 25000000), cfgOwn 2 (.nat 1) 0 (.between 0 3), cfgOwn 3 .bool, cfgOwn 4 .bool,
     cfgOwn 5 (.nat 1) 1 (.between 1 16), cfgOwn 6 (.nat 1) 1 (.between 1 16), cfgOwn 7 (.nat 1), cfgOwn 8 .bool]
  else if off = 6 then
    [cfgOwn 1 (.nat 4) 115200 (.between 0 3000000), cfgOwn 2 (.nat 1) 0 (.between 0 2), cfgOwn 3 (.nat 1) 1 (.between 1 2),
     cfgOwn 4 .bool, cfgOwn 5 (.nat 1) (mask := some 3), cfgOwn 6 (.nat 1) 10 (.between 2 255), cfgOwn 7 (.nat 1),
     cfgOwn 8 .bool]
  else if off = 8 then
    [cfgOwn 1 .bool, cfgOwn 2 (.nat 1) 0 (.between 0 250), cfgOwn 3 (.nat 1) 0 (.between 0 1),
     cfgOwn 4 (.nat 1) 6 (.between 0 11), cfgOwn 5 (.nat 1) 0 (.between 0 11), cfgOwn 6 (.nat 1) 6 (.between 0 11),
     cfgOwn 7 (.nat 2) 29491 (.between 1024 32767), cfgOwn 8 (.nat 2) 6553 (.between 0 16383),
     cfgOwn 9 (.nat 1) 8 (.between 1 255), cfgOwn 0xA (.nat 1) 1 (.between 0 1)]
  else if off = 9 then rowsTrip false
  else if off = 10 then rowsTrip false
  else if off = 11 then rowsTrip true
  else if off = 12 then [cfgOwn 1 (.nat 2) 0 (.between 0 1023), cfgOwn 2 (.int 2), cfgOwn 3 (.nat 1) 0 (.between 0 1)]
  else if off = 13 ∨ off = 14 then
    [cfgOwn 1 (.nat 1) 0 (.between 0 4), cfgOwn 2 (.nat 4), cfgOwn 3 (.nat 4), cfgOwn 4 (.nat 2) 1 (.between 1 65535),
     cfgOwn 5 (.nat 1) 0 (.between 0 1), cfgOwn 6 (.nat 1) 0 (.between 0 3), cfgOwn 7 (.nat 1) 0 (.between 0 2),
     cfgOwn 8 .bool]
  else []

/-- The fixed settings of a system stream: RING_SIZE and DELIVERY (R361). -/
def sysRing (loc : Nat) : Nat :=
  if loc = 0x1F0 then 16 else if loc = 0x1F1 then 28 else if loc = 0x1F2 then 64 else if loc = 0x1F3 then 16
  else if loc = 0x1F4 then 64 else if loc = 0x1F5 then 32 else 0

/-- Stream objects (R360, R361). -/
def rowsStream (k : Nat) : List ObjRow :=
  let loc := k % 512
  if loc < 0x1F0 then
    [cfgOwn 1 (.nat 2) 0 (.between 0 7936), cfgOwn 2 (.nat 1) 0 (.between 0 1), cfgOwn 3 (.nat 1) 50 (.between 0 100),
     cfgOwn 4 (.nat 1) 0 (.between 0 3), cfgOwn 5 (.nat 2) 0 (.between 0 60000), cfgOwn 6 (.nat 1) 0 (.between 0 2),
     cfgOwn 7 (.nat 2), roOwn 8 (.nat 4), roOwn 9 (.nat 4), roOwn 0xA (.nat 4), roOwn 0xB .stamp, roOwn 0xC (.nat 1)]
  else if loc < 0x1F6 then
    [coRow 1 (.nat 2) (sysRing loc), coRow 2 (.nat 1), coRow 3 (.nat 1), coRow 4 (.nat 1) 1, coRow 5 (.nat 2),
     coRow 6 (.nat 1), cfgFix 0 7 (.nat 2), roRow 8 (.nat 4), roRow 9 (.nat 4), roRow 0xA (.nat 4), roRow 0xB .stamp,
     roRow 0xC (.nat 1)]
  else
    [coRow 1 (.nat 2), coRow 2 (.nat 1), coRow 3 (.nat 1), coRow 4 (.nat 1), coRow 5 (.nat 2), coRow 6 (.nat 1),
     coRow 7 (.nat 2), coRow 8 (.nat 4), coRow 9 (.nat 4), coRow 0xA (.nat 4), coRow 0xB .stamp, coRow 0xC (.nat 1)]

/-- Engine, rota, mill, sieve, granary and log objects (R359, R201, R228, R259). -/
def rowsData : Lay → List ObjRow
  | .eng _ =>
    [cfgOwn 1 (.blob 5152 (0, 0)), roOwn 2 (.nat 1), roOwn 3 (.nat 4), roOwn 4 (.nat 1), roOwn 5 (.nat 1), roOwn 6 (.nat 4),
     roOwn 7 (.nat 4), roOwn 8 (.nat 4), roOwn 9 (.nat 4)]
  | .engScratch _ => [roOwn 1 (.blob 1024 (1024, 0))]
  | .rota d =>
    [cfgOwn 1 (.blob 36944 (0, 0)), roOwn 2 (.blob 36944 (0, 0)), roOwn 3 (.nat 1), roOwn 4 (.nat 2), roOwn 5 (.nat 2),
     roOwn 6 (.nat 4), roOwn 7 .stamp, roOwn 8 (.nat 4), roOwn 9 (.nat 8), roOwn 0xA (.nat 4), roOwn 0xB (.nat 8)]
      ++ (if d = 0 then [cfgOwn 0xC (.blob 36944 (0, 0))] else []) ++ [roOwn 0xD (.nat 4), roOwn 0xE (.nat 4)]
  | .mill _ =>
    [cfgOwn 1 (.blob 1072 (0, 0)), roOwn 2 (.nat 1), roOwn 3 (.nat 4), roOwn 4 (.nat 4), roOwn 5 (.nat 4), roOwn 6 (.nat 2),
     roOwn 7 (.nat 2), roOwn 8 (.nat 4), roOwn 9 .stamp]
  | .millDie _ => [roRow 1 (.nat 4), roRow 2 (.nat 1) 1, roRow 3 (.nat 4)]
  | .rule _ =>
    [cfgOwn 1 (.blob 48 (0, 0)), roOwn 2 .bool, roOwn 3 (.nat 1), roOwn 4 (.nat 4), roOwn 5 (.int 4), roOwn 6 .stamp,
     roOwn 7 (.nat 2), roOwn 8 (.nat 2)]
  | .sieveDie _ =>
    [roRow 1 (.nat 2), roRow 2 (.nat 2), roRow 3 (.nat 4), roRow 4 (.nat 4)]
      ++ (List.range 16).map (fun k => roRow (0x10 + k) (.nat 8))
  | .granDie _ => [roRow 1 (.nat 4) 1, roRow 2 (.nat 4), roRow 3 (.nat 4)]
  | .granPar _ =>
    [cfgOwn 1 (.nat 1) 75 (.between 1 100), cfgOwn 2 (.nat 1) 16 (.between 1 64), cfgOwn 3 .bool 1, cfgOwn 4 .bool 1,
     cfgOwn 5 (.nat 2) 10 .any (some 31), cfgOwn 6 (.nat 2) 1000 (.between 10 60000), cfgOwn 7 (.nat 2) 10 (.between 1 3600),
     cfgOwn 8 (.nat 2) 100 (.between 0 60000), roOwn 9 (.nat 4), cfgOwn 0xA (.nat 2) 5000 (.between 0 60000),
     cfgOwn 0xB (.nat 2) 1000 (.between 0 60000), cfgOwn 0xC (.nat 2) 1000 (.between 10 60000),
     rowOf .wo .unit 0xD .bool]
  | .nvDie _ =>
    [roRow 1 (.nat 2) 1024, roRow 2 (.nat 2), roRow 3 (.nat 4), roRow 4 (.nat 4), roRow 5 (.nat 4), roRow 6 (.nat 2),
     roRow 7 .bool]
  | .nvRegion _ _ =>
    [roOwn 1 (.nat 1), roOwn 2 (.nat 4), roOwn 3 (.nat 4), rowOf .rw .unit 4 (.nat 4), roOwn 5 (.blob 256 (0, 0)),
     roOwn 6 (.nat 2), roOwn 7 .bool]
  | _ => []

/-- Tally and routing objects (R275, R283). -/
def rowsRoute : Lay → List ObjRow
  | .tally _ =>
    [cfgOwn 1 (.nat 4) 0 .tallyCfg (some 0x07FFFFFF), cfgOwn 2 (.nat 2) 0 .capSrc, cfgOwn 3 (.nat 2) 1 (.between 1 256),
     cfgOwn 4 (.nat 4), rowOf .rw .unit 5 (.nat 4) 0xFFFF (.between 1 0xFFFFFFFF), rowOf .rw .unit 6 (.nat 4),
     rowOf .wo .unit 7 (.nat 1) 0 (.between 1 3), roOwn 8 (.nat 1), roOwn 9 (.nat 4), roOwn 0xA (.nat 4) 0xFFFF,
     roOwn 0xB (.nat 4), roOwn 0xC (.nat 4), roOwn 0xD (.nat 4), roOwn 0xE (.nat 4), roOwn 0xF .stamp, roOwn 0x10 (.nat 4),
     roOwn 0x11 (.nat 1)]
  | .tallyUnit _ => [rowOf .wo .unit 1 (.nat 1)]
  | .row _ r =>
    [(if r < 64 then cfgOwn 1 (.nat 2) 0 .srcCode else roOwn 1 (.nat 2) (0xA000 + (r - 64 : Nat))), cfgOwn 2 (.nat 2),
     roOwn 3 .bool]
  | .col _ _ => [cfgOwn 1 (.nat 2) 0 .destCode, cfgOwn 2 (.nat 8), cfgOwn 3 (.nat 2), roOwn 4 .bool, roOwn 5 (.nat 4)]
  | .routeDie _ => [roRow 1 (.nat 4), roRow 2 (.nat 4), roRow 3 (.nat 2)]
  | _ => []

/-- Reeve and twin objects (R394, R395). -/
def rowsSafety : Lay → List ObjRow
  | .reeve =>
    [roRow 1 (.nat 1), roRow 2 (.nat 4), roRow 3 (.nat 4), cfgFix 1 4 (.nat 2), roRow 5 (.nat 2), roRow 6 (.nat 2),
     cfgFix 1 7 (.nat 1) 0 (.between 0 1), cfgFix 1 8 (.nat 2) 500 (.between 0 60000), rowOf .wo (.fixed 1) 9 (.nat 2),
     cfgFix 1 0xA (.nat 1) 0 (.between 0 1), roRow 0xB (.nat 1), roRow 0xC (.nat 4), roRow 0xD .stamp, roRow 0xE (.nat 4),
     rowOf .wo (.fixed 1) 0xF (.nat 4), rowOf .wo (.fixed 1) 0x10 (.nat 1), roRow 0x11 (.nat 4), roRow 0x12 (.nat 4)]
  | .reeveDie _ => [roRow 1 (.nat 1), roRow 2 (.nat 2), roRow 3 (.nat 2)]
  | .tripMap _ => (List.range 3).map (fun k => cfgOwn (1 + k) (.nat 4) 0 .any (some 0x1FFFF))
  | .verdictMap _ => [cfgOwn 1 (.nat 4) 0 .any (some 0x1FFFF)]
  | .twin =>
    [cfgFix 1 1 .bool, cfgFix 1 2 (.nat 4), cfgFix 1 3 .bool 1, cfgFix 1 4 (.nat 4) 0 (.between 0 0xFFFF) (some 0x1FFFF),
     cfgFix 1 5 (.nat 1) 4 (.between 2 16), cfgFix 1 6 (.nat 2) 60 (.between 1 3600), roRow 7 (.nat 1), roRow 8 (.nat 8),
     roRow 9 (.nat 4), roRow 0xA (.nat 4), roRow 0xB (.nat 4), roRow 0xC (.nat 1)]
  | _ => []

/-- Power, background and test objects (R417, R437, R460). -/
def rowsPower : Lay → List ObjRow
  | .power =>
    [rowOf .wo (.fixed 0) 1 (.nat 1) 0 (.codes [0, 2, 3, 4]), cfgFix 0 2 (.nat 2) 10 (.between 0 1000),
     cfgFix 0 3 (.nat 2) 0 (.between 0 3600), cfgFix 0 4 (.nat 4) 0 (.between 0 86400),
     cfgFix 0 5 (.nat 2) 0 (.between 0 8760), cfgFix 0 6 (.nat 4) 0 (.between 0 2592000),
     cfgFix 0 7 (.nat 1) 1 (.between 0 2), cfgFix 0 8 .bool, cfgFix 0 9 (.blob 12 (12, 0)), cfgFix 0 0xA (.blob 32 (32, 0)),
     rowOf .wo (.fixed 0) 0xB (.nat 4), roRow 0xC (.nat 2), roRow 0xD (.nat 4), roRow 0xE (.nat 1), roRow 0xF (.nat 1)]
  | .powerDie _ =>
    [roRow 1 (.nat 1), cfgFix 0 2 (.nat 1) 1 .any (some 7), roRow 3 (.nat 2), roRow 4 (.nat 4), roRow 5 (.nat 4),
     roRow 6 (.nat 2), roRow 7 (.int 2)]
  | .powerPkg => [roRow 1 (.nat 4), roRow 2 (.nat 4), roRow 3 (.nat 1), roRow 4 (.int 2)]
  | .bg =>
    [cfgFix 0 1 (.nat 1) 8 (.between 2 30), cfgFix 0 2 (.nat 2) 64 (.between 1 65535), cfgFix 0 3 (.nat 2) 1000 .telem]
  | .bgDie _ =>
    [roRow 1 (.nat 4), roRow 2 (.nat 4), roRow 3 (.nat 2), roRow 4 (.nat 4), roRow 5 (.int 2), roRow 6 (.nat 4)]
  | .calPort _ =>
    [rowOf .wo .unit 1 .bool, roOwn 2 (.int 2), roOwn 3 .stamp, roOwn 4 (.nat 2), roOwn 5 (.nat 2), roOwn 6 (.nat 2)]
  | .test =>
    [rowOf .wo (.fixed 0) 1 (.nat 4), rowOf .wo (.fixed 0) 2 .bool, roRow 3 (.nat 4), roRow 4 .bool,
     cfgFix 0 5 (.nat 2) 10 (.between 1 600)]
  | .portLoop _ => [rowOf .rw .unit 1 (.nat 1) 0 (.between 0 4), roOwn 2 (.nat 4)]
  | .netLoop _ => [rowOf .rw (.fixed 0) 1 (.nat 1) 0 (.between 0 4), roRow 2 (.nat 4)]
  | .twinLoop => [rowOf .rw (.fixed 1) 1 (.nat 1) 0 (.between 0 2), rowOf .ro (.fixed 1) 2 (.nat 4)]
  | .ringLoop _ => [rowOf .rw (.fixed 0) 1 (.nat 1) 0 (.between 0 1), roRow 2 (.nat 4)]
  | _ => []

/-- The rows of a layout. -/
def layRows (l : Lay) : List ObjRow :=
  match l with
  | .identity | .status | .request | .commit | .compat | .firmware => rowsGeneral l
  | .netGen | .netPort _ | .netWin _ | .parDest _ => rowsNet l
  | .parState _ | .parAlloc _ | .parKey _ | .parUser _ => rowsParish l
  | .timeNow | .timeRate | .timeAdj | .servo | .ptp _ => rowsTime l
  | .port _ o => rowsPort o
  | .stream k => rowsStream k
  | .tally _ | .tallyUnit _ | .row _ _ | .col _ _ | .routeDie _ => rowsRoute l
  | .reeve | .reeveDie _ | .tripMap _ | .verdictMap _ | .twin => rowsSafety l
  | .eng _ | .engScratch _ | .rota _ | .mill _ | .millDie _ | .rule _ | .sieveDie _ | .granDie _ | .granPar _
  | .nvDie _ | .nvRegion _ _ => rowsData l
  | .power | .powerDie _ | .powerPkg | .bg | .bgDie _ | .calPort _ | .test | .portLoop _ | .netLoop _ | .twinLoop
  | .ringLoop _ => rowsPower l

/-- The row of a subindex. -/
def findRow (l : Lay) (sub : Nat) : Option ObjRow := (layRows l).find? (fun r => r.sub == sub)

/-- The highest subindex defined at an index (R342). -/
def highestSub (l : Lay) : Nat := (layRows l).foldl (fun a r => max a r.sub) 0

/-! ### Values in force -/

/-- The key of an object in the tables of values. -/
def okey (idx sub : Nat) : Nat := idx * 256 + sub

/-- The bytes of a row's table default. -/
def rowDefault (r : ObjRow) : List Byte :=
  match r.ty with
  | .str n => zeros n
  | .blob _ f => List.replicate f.1 (BitVec.ofNat 8 f.2)
  | t => leBytes t.size (ofInt (8 * t.size) r.dflt)

/-- The value of an RWP object in one table of values; none where the table has none. -/
def storedIn (t : Tbl (List Byte)) (idx sub : Nat) : Option (List Byte) := (t.find? (fun e => e.1 == okey idx sub)).map (·.2)

/-- A numeric setting in a table of values, with the default that holds where nothing is stored. -/
def cfgIn (t : Tbl (List Byte)) (idx sub dflt : Nat) : Nat :=
  match storedIn t idx sub with
  | some b => leNat b
  | none => dflt

/-- A numeric setting in force. -/
def cfg (s : State) (idx sub dflt : Nat) : Nat := cfgIn s.conf idx sub dflt

/-- An opaque setting in force. -/
def cfgBlob (s : State) (idx sub : Nat) : List Byte := (storedIn s.conf idx sub).getD []

/-- Whether bit n of an allocation bitmap is set. -/
def blobBit (b : List Byte) (n : Nat) : Bool := bitOf ((nth 0 b (n / 8)).toNat) (n % 8)

/-- Byte n of an opaque value, 0 beyond it. -/
def blobByte (b : List Byte) (n : Nat) : Nat := (nth 0 b n).toNat

/-- The default of an object: its table's, except where the table names another object's value (R131, R341). -/
def objDefault (s : State) (l : Lay) (r : ObjRow) : List Byte :=
  match l, r.sub with
  | .port n 8, 4 => if cfg s (0x4000 + 64 * n + 8) 1 0 = 1 then [11] else [6]
  | .port n 8, 6 => if cfg s (0x4000 + 64 * n + 8) 1 0 = 1 then [11] else [6]
  | .parDest _, 2 => leBytes 8 (cfg s 0x800 3 0x034144500001)
  | .parAlloc 0, 0xE => leBytes 4 0xFFFF0000 ++ List.replicate 28 255
  | _, _ => rowDefault r

/-! ### Ranges (R480) -/

/-- The number a written value of a numeric type spells. -/
def objInt (t : ObjType) (b : List Byte) : Int :=
  match t with
  | .int n => sgn (8 * n) (leNat b)
  | _ => leNat b

/-- The bytes of a value with reserved fields cleared (R13). -/
def maskVal (r : ObjRow) (b : List Byte) : List Byte :=
  match r.mask with
  | some m => leBytes r.ty.size (leNat b &&& m)
  | none => match r.ty with
    | .str n => b ++ zeros (n - b.length)
    | .stamp => leBytes 8 (leNat b % 2 ^ 52)
    | _ => b

/-- Source kinds and indexes of SRC (R278). -/
def srcOk (v : Nat) : Bool :=
  let i := v % 4096
  match v / 4096 with
  | 0 => i == 0
  | 1 => i < 36
  | 2 => i < 24
  | 3 | 4 | 5 | 6 => i < 32
  | 7 => i < 64
  | 8 => i < 64
  | 9 => i < 48
  | _ => false

/-- Sink kinds and indexes of DEST (R279). -/
def destOk (v : Nat) : Bool :=
  let i := v % 4096
  match v / 4096 with
  | 0 => i == 0
  | 1 => i < 24
  | 2 | 3 | 4 => i < 32
  | 5 => i < 48
  | 6 => i < 2
  | 7 => i == 0
  | 8 => i < 32
  | 9 => i == 0
  | _ => false

/-- Whether a value lies in a range. -/
def rngOk (g : Rng) (v : Int) : Bool :=
  let n := v.toNat
  match g with
  | .any => true
  | .between lo hi => lo ≤ v && v ≤ hi
  | .codes l => l.contains n
  | .steps lo hi st => lo ≤ n && n ≤ hi && n % st == 0
  | .pinPull => (List.range 4).all (fun p => let c := n / 16 ^ p % 16; c ≤ 4 && (c != 1 || p < 2))
  | .etherType => 0x600 ≤ n && !([0x800, 0x806, 0x8100, 0x86DD, 0x88F7].contains n)
  | .multicast => n < 2 ^ 48 && bitOf n 40
  | .time96 => n / 65536 % 2 ^ 30 < 1000000000
  | .srcCode => srcOk n
  | .destCode => destOk n
  | .tallyCfg => field n 5 4 != 3 && field n 3 2 != 3 && field n 16 14 ≤ 6 && field n 19 17 ≤ 6
  | .capSrc => n / 4096 == 0 || (n / 4096 == 1 && n % 4096 < 48) || (n / 4096 == 2 && n % 4096 < 64)
  | .dwCycle => n == 0 || (1000 ≤ n && n ≤ 1000000 && 1000000 % n == 0)
  | .telem => n == 0 || (100 ≤ n && n ≤ 60000 && 60000 % n == 0)

/-- Whether a written value of the right length lies in its object's range; BOOL takes 0 and 1 only (R343, R480). -/
def valOk (r : ObjRow) (b : List Byte) : Bool :=
  match r.ty with
  | .bool => leNat b ≤ 1
  | .str _ => true
  | .blob _ _ => true
  | t => rngOk r.rng (objInt t (maskVal r b))

end Sys2Proof.Machine
end

