-- ==== Sys2Proof/Machine/Ops.lean ====
section
/-! DEFINITION. The named operations that every family uses: the tables of State, time and stamps, ownership, records and
their rings, the crier's reasons and fault records. -/

namespace Sys2Proof.Machine

/-! ### The tables of State -/

/-- The state of a die. -/
def State.dieAt (s : State) (k : Nat) : Die := tget {} s.die k

/-- The machine with the state of a die changed. -/
def State.modDie (s : State) (k : Nat) (g : Die → Die) : State :=
  { s with die := tput s.die k (g (s.dieAt k)) }

/-- The state of a sensor port. -/
def State.portAt (s : State) (k : Nat) : Port := tget {} s.port k

/-- The machine with the state of a sensor port changed. -/
def State.modPort (s : State) (k : Nat) (g : Port → Port) : State :=
  { s with port := tput s.port k (g (s.portAt k)) }

/-- The state of an engine. -/
def State.engAt (s : State) (k : Nat) : Engine := tget {} s.engine k

/-- The machine with the state of an engine changed. -/
def State.modEng (s : State) (k : Nat) (g : Engine → Engine) : State :=
  { s with engine := tput s.engine k (g (s.engAt k)) }

/-- The state of a stream. -/
def State.streamAt (s : State) (k : Nat) : Stream := tget {} s.stream k

/-- The machine with the state of a stream changed. -/
def State.modStream (s : State) (k : Nat) (g : Stream → Stream) : State :=
  { s with stream := tput s.stream k (g (s.streamAt k)) }

/-- The state of a mill channel. -/
def State.millAt (s : State) (k : Nat) : MillChan := tget {} s.mill k

/-- The machine with the state of a mill channel changed. -/
def State.modMill (s : State) (k : Nat) (g : MillChan → MillChan) : State :=
  { s with mill := tput s.mill k (g (s.millAt k)) }

/-- The state of a sieve rule. -/
def State.ruleAt (s : State) (k : Nat) : Rule := tget {} s.rule k

/-- The machine with the state of a sieve rule changed. -/
def State.modRule (s : State) (k : Nat) (g : Rule → Rule) : State :=
  { s with rule := tput s.rule k (g (s.ruleAt k)) }

/-- The state of a tally channel. -/
def State.tallyAt (s : State) (k : Nat) : Tally := tget {} s.tally k

/-- The machine with the state of a tally channel changed. -/
def State.modTally (s : State) (k : Nat) (g : Tally → Tally) : State :=
  { s with tally := tput s.tally k (g (s.tallyAt k)) }

/-- The state of a matrix row (die × 256 + row). -/
def State.rowAt (s : State) (k : Nat) : Row := tget {} s.row k

/-- The machine with the state of a matrix row (die × 256 + row) changed. -/
def State.modRow (s : State) (k : Nat) (g : Row → Row) : State :=
  { s with row := tput s.row k (g (s.rowAt k)) }

/-- The state of a matrix column (die × 256 + column). -/
def State.colAt (s : State) (k : Nat) : Col := tget {} s.col k

/-- The machine with the state of a matrix column (die × 256 + column) changed. -/
def State.modCol (s : State) (k : Nat) (g : Col → Col) : State :=
  { s with col := tput s.col k (g (s.colAt k)) }

/-- The state of a parish. -/
def State.parAt (s : State) (k : Nat) : Parish := tget {} s.parish k

/-- The machine with the state of a parish changed. -/
def State.modPar (s : State) (k : Nat) (g : Parish → Parish) : State :=
  { s with parish := tput s.parish k (g (s.parAt k)) }

/-- The state of a PTP port. -/
def State.ptpAt (s : State) (k : Nat) : PtpPort := tget {} s.ptp k

/-- The machine with the state of a PTP port changed. -/
def State.modPtp (s : State) (k : Nat) (g : PtpPort → PtpPort) : State :=
  { s with ptp := tput s.ptp k (g (s.ptpAt k)) }

/-- The state of a network port. -/
def State.netAt (s : State) (k : Nat) : NetPort := tget {} s.netPorts k

/-- The machine with the state of a network port changed. -/
def State.modNet (s : State) (k : Nat) (g : NetPort → NetPort) : State :=
  { s with netPorts := tput s.netPorts k (g (s.netAt k)) }

/-- The dies in use: every die, or die 0 alone in SH-12 mode (R445). -/
def usedDies (s : State) : Nat := if s.cmpt then 1 else s.dies

/-- The key of row or column j of die d. -/
def rk (d j : Nat) : Nat := d * 256 + j

/-- A fresh free value of so many bits, and the machine with the draw counted (log entry 7). -/
def State.draw (s : State) (bits : Nat) : Nat × State :=
  ((Config.freeBits s.free).toNat % 2 ^ bits, { s with free := s.free + 1 })

/-! ### Elapsed time and network time (R35, R45, R59) -/

/-- Ticks of 4 ns in a number of milliseconds (R45). -/
def msTicks (ms : Nat) : Nat := ms * 250000

/-- Elapsed TIME ticks since reset (R45). -/
def State.ticks (s : State) : Nat := s.time.elapsed

/-- Network time in quarter nanoseconds (R35, R59). -/
def TimeBase.quarters (t : TimeBase) : Nat := (t.seconds.toNat * 1000000000 + t.nanos) * 4 + t.frac / 2 ^ 30

/-- Network time in units of 2^-32 ns. -/
def TimeBase.fine (t : TimeBase) : Nat := (t.seconds.toNat * 1000000000 + t.nanos) * 2 ^ 32 + t.frac

/-- The stamp of a network time in quarter nanoseconds (R59). -/
def stampOf (q : Nat) : Stamp := BitVec.ofNat 52 (q / 4000000000 % 2 ^ 20 * 2 ^ 32 + q % 4000000000)

/-- A stamp in quarter nanoseconds. -/
def stampQ (st : Stamp) : Nat := st.toNat / 2 ^ 32 * 4000000000 + st.toNat % 2 ^ 32

/-- The quarter nanoseconds in which SECONDS[19:0] wraps. -/
def stampSpan : Nat := 2 ^ 20 * 4000000000

/-- Whether a stamp lies at or after another, within half of the wrap (R59). -/
def stampGe (a b : Stamp) : Bool := (stampQ a + stampSpan - stampQ b) % stampSpan < stampSpan / 2

/-- A stamp so many quarter nanoseconds later. -/
def stampAdd (a : Stamp) (q : Nat) : Stamp := stampOf (stampQ a + q)

/-- The stamp of the present instant. -/
def State.nowStamp (s : State) : Stamp := stampOf s.time.quarters

/-- The slew term of one tick in units of 2^-32 ns: SLEW_LIMIT times 4.0 ns, toward the residual (R42). It is cut to a whole unit
(DEDUCED, log entry 16). -/
def TimeBase.slewTerm (t : TimeBase) : Int :=
  match t.slew with
  | none => 0
  | some sl => let m : Int := (t.slewLimit * (4 * 2 ^ 32) / 1000000 : Nat); if sl.residual < 0 then -m else m

/-- The effective increment of one tick in units of 2^-32 ns (R36). -/
def TimeBase.increment (t : TimeBase) : Int := t.rateForce + t.slewTerm

/-- The stamp of an event at a capture point: the counter of the tick, plus bins/16 of the effective increment, less the
trimmed pad delay, rounded to the nearest quarter nanosecond (R58). -/
def TimeBase.capture (t : TimeBase) (bins : Nat) (delay : Int) : Stamp :=
  let f : Int := (t.fine : Int) + (bins % 16 : Nat) * t.increment / 16 - delay
  stampOf ((f + 2 ^ 29) / 2 ^ 30).toNat

/-! ### Parishes and ownership (R285 to R289) -/

/-- The index of an allocation object's parish block. -/
def allocIdx (p : Nat) : Nat := 0x2001 + 256 * p

/-- The first parish other than 0 that meets a test; parish 0 where none does (R286). -/
def firstParish (f : Nat → Bool) : Nat := (((List.range 16).drop 1).find? f).getD 0

/-- The ownership entries of a die that allocation object `sub` of a parish gives it. Each die holds its own: while a commit has
changed the allocation objects, the die keeps those from before until it applies the commit (R34, R351). -/
def ownBlob (s : State) (d p sub : Nat) : List Byte :=
  match (s.dieAt d).ownHeld with
  | some t => cfgBlob { s with conf := t } (allocIdx p) sub
  | none => cfgBlob s (allocIdx p) sub

/-- The owner that a die's ownership table gives a resource of the die; none where its entry is damaged (R34, R289). -/
def bitOwner (s : State) (d sub n : Nat) : Option Nat :=
  if s.reeve.ownDamaged.contains (sub, n) then none
  else some (firstParish (fun p => blobBit (ownBlob s d p sub) n))

/-- Whether some parish's allocation names a resource of a die. Parish 0 leaves one that none names idle (R286). -/
def named (s : State) (d sub n : Nat) : Bool := (List.range 16).any (fun p => blobBit (ownBlob s d p sub) n)
/-- Whether an allocation names a port; one that none names stays high-Z, with VP off (R286). -/
def portNamed (s : State) (n : Nat) : Bool := named s (n / 12) 1 n
/-- Whether an allocation names an engine; one that none names launches nothing (R286). -/
def engNamed (s : State) (e : Nat) : Bool := named s (e / 24) 2 e

/-- Whether some pair of U16 first and last numbers, in bytes, names a number (R307). -/
def pairsName : List Byte → Nat → Bool
  | a :: b :: c :: d :: t, k =>
    (leNat [a, b] != 0xFFFF && leNat [a, b] ≤ k && k ≤ leNat [c, d]) || pairsName t k
  | _, _ => false

/-- The owner of a port (R66). -/
def portOwner (s : State) (n : Nat) : Option Nat := bitOwner s (n / 12) 1 n
/-- The owner of an engine. -/
def engOwner (s : State) (e : Nat) : Option Nat := bitOwner s (e / 24) 2 e
/-- The owner of a bank of a die; bank 0 is parish 0's (R286). -/
def bankOwner (s : State) (d b : Nat) : Option Nat := if b = 0 then some 0 else bitOwner s d 5 (d * 32 + b)
/-- The owner of a mill channel. -/
def millOwner (s : State) (c : Nat) : Option Nat := bitOwner s (c / 16) 6 c
/-- The owner of a sieve rule. -/
def ruleOwner (s : State) (r : Nat) : Option Nat := bitOwner s (r / 64) 7 r
/-- The owner of a tally unit. -/
def tallyOwner (s : State) (u : Nat) : Option Nat := bitOwner s (u / 8) 8 u
/-- The owner of a column. -/
def colOwner (s : State) (d c : Nat) : Option Nat := bitOwner s d 0xA (d * 64 + c)
/-- The owner of a die's rota. -/
def rotaOwner (s : State) (d : Nat) : Option Nat := bitOwner s d 0xC d
/-- The owner of the time base. -/
def timeOwner (s : State) : Option Nat := bitOwner s 0 0xD 0

/-- The columns, as die and number, whose DEST in force names a cross-die line (R282). -/
def lineColumns (s : State) (line : Nat) : List (Nat × Nat) :=
  (s.col.filter (fun e => e.2.dest / 4096 == 8 && e.2.dest % 16 == line)).map (fun e => (e.1 / 256, e.1 % 256))

/-- The owner of a row; row 64 + n belongs to the owner of the column that names cross-die line n (R285). -/
def rowOwner (s : State) (d r : Nat) : Option Nat :=
  if r < 64 then bitOwner s d 9 (d * 64 + r)
  else match lineColumns s (r - 64) with
    | (d', c) :: _ => colOwner s d' c
    | [] => some 0

/-- The owner of a stream; system streams are parish 0's (R7, R286). -/
def streamOwner (s : State) (k : Nat) : Option Nat :=
  if 0x1F0 ≤ k % 512 then some 0
  else if s.reeve.ownDamaged.contains (4, k) then none
  else some (firstParish (fun p => pairsName (ownBlob s (k / 512) p 4) k))

/-- Whether an allocation names a stream; one that none names holds no ring (R286). -/
def streamHeld (s : State) (k : Nat) : Bool := (List.range 16).any (fun p => pairsName (ownBlob s (k / 512) p 4) k)

/-- Blocks of NV log that a parish owns on a die. -/
def logBlocks (s : State) (p d : Nat) : Nat := blobByte (ownBlob s d p 0xB) d

/-- Contexts that a parish may hold on a die. -/
def ctxLimit (s : State) (p d : Nat) : Nat := blobByte (ownBlob s d p 3) d

/-- The state of a parish; parish 0 is always in RUN (R292). -/
def parishState (s : State) (p : Nat) : Nat := if p = 0 then 2 else (s.parAt p).state

/-- The parish that owns the resource of a layout; none where its ownership entry is damaged (R66, R285, R289). -/
def layOwner (s : State) : Lay → Option Nat
  | .parState p | .parAlloc p | .parKey p | .parDest p | .parUser p | .granPar p => some p
  | .nvRegion _ p => some p
  | .timeNow | .timeRate | .timeAdj | .servo | .ptp _ => timeOwner s
  | .port n _ | .tripMap n | .calPort n | .portLoop n => portOwner s n
  | .eng e | .engScratch e => engOwner s e
  | .rota d => rotaOwner s d
  | .stream k => streamOwner s k
  | .mill c => millOwner s c
  | .rule r | .verdictMap r => ruleOwner s r
  | .tally t => tallyOwner s (t / 4)
  | .tallyUnit u => tallyOwner s u
  | .row d r => rowOwner s d r
  | .col d c => colOwner s d c
  | _ => some 0

/-- The parish that a row's Owner column names (R15); none for a damaged entry or for "any". -/
def rowOwnerOf (s : State) (l : Lay) (r : ObjRow) : Option Nat :=
  match r.own with
  | .fixed p => some p
  | .unit => layOwner s l
  | .any => none

/-! ### Ports, streams and engines by die -/

/-- The die of a global port (R6). -/
def portDie (n : Nat) : Nat := n / 12
/-- The die of a global engine. -/
def engDie (e : Nat) : Nat := e / 24
/-- The die of a stream. -/
def streamDie (k : Nat) : Nat := k / 512
/-- The die of a sieve rule. -/
def ruleDie (r : Nat) : Nat := r / 64
/-- The die of a mill channel. -/
def millDie (c : Nat) : Nat := c / 16
/-- The die of a tally channel. -/
def tallyDie (t : Nat) : Nat := t / 32
/-- The index of an object block of a port. -/
def portIdx (n off : Nat) : Nat := 0x4000 + 64 * n + off

/-- The present MODE of a port domain: on while its die's logic is on and the domain is powered (R70, R397). -/
def domainOn (s : State) (n : Nat) : Bool := (s.portAt n).powered && (s.dieAt (portDie n)).logicOn

/-! ### Where a ring lies (R237) -/

/-- The banks of a stream's die that its parish owns, bit b for bank b. -/
def ownedBanks (s : State) (k : Nat) : Nat :=
  (List.range 32).foldl (fun a b => if bankOwner s (streamDie k) b = streamOwner s k then a + 2 ^ b else a) 0

/-- The runs of adjacent owned banks in which a ring of so many units of 256 bytes fits, from any place in its first bank. -/
def bankRuns (owned size : Nat) : List Nat :=
  let runs (n : Nat) : List Nat := (List.range (33 - n)).map (fun a => (2 ^ n - 1) * 2 ^ a)
  (runs ((size + 255) / 256) ++ (if (size + 255) / 256 < (size + 510) / 256 then runs ((size + 510) / 256) else [])).filter
    (fun m => m &&& owned == m)

/-- The banks that a stream's ring lies in, bit b for bank b: bank 0 for a system stream, else a run of adjacent banks of its
parish; where no run is long enough, all of them (R235, R237; log entry 7). -/
def ringBanks (s : State) (k size : Nat) : Nat :=
  if size = 0 then 0
  else if 0x1F0 ≤ k % 512 then 1
  else
    let owned := ownedBanks s k
    let runs := bankRuns owned size
    if runs.isEmpty then owned else nth 0 runs (Config.ringPlace k size owned % runs.length)

/-! ### Delivery windows (R330, R341) -/

/-- A delivery-window setting of a port in force: that of the settings, or, until the first DW_CYCLE boundary after a commit, that from
before it (R341). -/
def windowReg (s : State) (n sub dflt : Nat) : Nat :=
  let x := s.netAt n
  if x.dwHeld.isEmpty ∨ x.dwAt ≤ s.time.fine then cfg s (0x0811 + 16 * n) sub dflt else nth dflt x.dwHeld sub

/-! ### The crier's reasons (R245) -/

/-- The index of a parish's granary block. -/
def granIdx (p : Nat) : Nat := 0x9100 + 16 * p

/-- Whether a parish is within so many milliseconds of its last wake. -/
def sinceWake (s : State) (p ms : Nat) : Bool :=
  match (s.parAt p).wake.lastAt with
  | none => false
  | some t => decide (s.ticks < t + msTicks ms)

/-- An instance of activity restarts SLEEP_TIME (R405). -/
def active (s : State) : State := { s with timers := { s.timers with sleepRun := 0 } }

/-- A reason of WAKE_ON, or bit 15 for a CRIER request, arises for a parish: while the parish's host is asleep it is a request
for the crier; while awake it has no effect (R245). Within WAKE_HOLDOFF of the parish's last wake it joins that wake, which may
be acknowledged already, and asks for none of its own (R246). -/
def crierReason (s : State) (p bit : Nat) (rule : Nat) : State :=
  let joins := sinceWake s p (cfg s (granIdx p) 8 100)
  if (s.parAt p).hostAsleep && (bit == 15 || bitOf (cfg s (granIdx p) 5 10) bit) && (!joins || (s.parAt p).wake.pending) then
    (active s).modPar p (fun x => { x with wake := { x.wake with
      reasons := setBit x.wake.reasons bit, asked := x.wake.asked || !joins
      rule := if bit = 15 ∧ x.wake.rule = 0xFFFF then rule else x.wake.rule } })
  else s

/-! ### Rings (R237 to R240) -/

/-- Bytes of a record (R229). -/
def Rec.size (r : Rec) : Nat := 12 + 4 * r.words.length

/-- RING_SIZE of a stream in 256-byte units (R238, R361). -/
def ringSize (s : State) (k : Nat) : Nat :=
  if 0x1F0 ≤ k % 512 then sysRing (k % 512)
  else
    let n := cfg s (0x7000 + k) 1 0
    if n = 0 ∨ streamHeld s k = false then 0 else n

/-- DELIVERY of a stream (R238, R361). -/
def streamDelivery (s : State) (k : Nat) : Nat :=
  if 0x1F6 ≤ k % 512 then 0 else if 0x1F0 ≤ k % 512 then 1 else cfg s (0x7000 + k) 4 0

/-- POLICY of a stream: 1 DROP_NEWEST. -/
def streamPolicy (s : State) (k : Nat) : Nat := if 0x1F0 ≤ k % 512 then 0 else cfg s (0x7000 + k) 2 0

/-- LOG_MODE of a stream. -/
def streamLog (s : State) (k : Nat) : Nat := if 0x1F0 ≤ k % 512 then 0 else cfg s (0x7000 + k) 6 0

/-- Bytes of the records of a list. -/
def recBytes (l : List Rec) : Nat := l.foldl (fun a r => a + r.size) 0

/-- Undelivered bytes of a stream (R237). -/
def undelivered (s : State) (k : Nat) : Nat := recBytes ((s.streamAt k).ring.filter (fun r => !r.delivered))

/-- Delivered records leave a ring, the oldest first, until so many bytes are free; a pinned one stays (R239). Answers the ring
with the bytes still to free. -/
def dropDelivered : Nat → List Rec → List Rec × Nat
  | 0, l => (l, 0)
  | n, [] => ([], n)
  | n, r :: t =>
    if r.delivered && !r.pinned then dropDelivered (n - r.size) t
    else
      let q := dropDelivered n t
      (r :: q.1, q.2)

/-- Undelivered records leave a ring, the oldest first, until so many bytes are free; none where the oldest of them is pinned
(R239, R240). Answers the ring with the count lost. -/
def dropOldest : Nat → List Rec → Option (List Rec × Nat)
  | 0, l => some (l, 0)
  | _, [] => none
  | n, r :: t =>
    if r.delivered then (dropOldest n t).map (fun q => (r :: q.1, q.2))
    else if r.pinned then none
    else (dropOldest (n - r.size) t).map (fun q => (q.1, q.2 + 1))

/-- The ring left once its records take at most `room` bytes, with the count lost, or none when room cannot be made: delivered
records go before any policy applies (R239). -/
def makeRoom (oldest : Bool) (room : Nat) (l : List Rec) : Option (List Rec × Nat) :=
  match dropDelivered (recBytes l - room) l with
  | (l1, 0) => some (l1, 0)
  | (l1, n) => if oldest then dropOldest n l1 else none

/-- Whether a record that enters now is pinned in its ring: by a running capture of the stream's parish (R253), or for
continuous logging that waits for the scan after reset (R257). -/
def captureWants (s : State) (k : Nat) : Bool :=
  match streamOwner s k with
  | none => false
  | some p =>
    let x := s.dieAt (streamDie k)
    let g := tget {} x.regions p
    (streamLog s k == 2 && g.capActive && s.ticks ≤ g.capTo)
      || (streamLog s k == 1 && !x.scanDone && logBlocks s p (streamDie k) != 0)

/-- The page being filled joins the pages that wait to be written (R253). -/
def closePage (g : Region) : Region :=
  match g.openPage with
  | none => g
  | some pg => { g with openPage := none, queue := g.queue ++ [pg] }

/-- Words of the records area that a record takes (R249). -/
def Rec.pageWords (r : Rec) : Nat := 3 + r.words.length

/-- FILL of a page: the record words used. -/
def Page.fill (pg : Page) : Nat := pg.recs.foldl (fun a r => a + r.pageWords) 0

/-- Whether a record may join an open page: it fits in 58 words, belongs to the page's epoch and lies within 2^18 s of the
page anchor (R249). -/
def pageTakes (pg : Page) (r : Rec) : Bool :=
  pg.fill + r.pageWords ≤ 58 && pg.epoch == r.epoch &&
    (let a := pg.seconds.toNat % 2 ^ 20
     let b := r.stamp.toNat / 2 ^ 32
     let df := (b + 2 ^ 20 - a) % 2 ^ 20
     df ≤ 2 ^ 18 || 2 ^ 20 - 2 ^ 18 ≤ df)

/-- The full seconds of a stamp, resolved against the present time (R63). -/
def stampSeconds (s : State) (st : Stamp) : Nat :=
  let now := s.time.seconds.toNat
  let d := (st.toNat / 2 ^ 32 + 2 ^ 20 - now % 2 ^ 20) % 2 ^ 20
  if d < 2 ^ 19 then now + d else now + d - 2 ^ 20

/-- A page that a record opens: its anchor is the record's own seconds (R249; log entry 19). -/
def freshPage (s : State) (pflags : Nat) (r : Rec) : Page :=
  { seq := 0, pflags := pflags, seconds := BitVec.ofNat 48 (stampSeconds s r.stamp), epoch := r.epoch, recs := [r] }

/-- A region whose open page is full commits it (R253). -/
def closeFull (g : Region) : Region :=
  if (g.openPage.map Page.fill).getD 0 = 58 then closePage g else g

/-- A record enters a region's open page, which closes first when it cannot take the record, and then when it is full (R249,
R253). -/
def logRecord (s : State) (g : Region) (p : Nat) (r : Rec) : Region :=
  closeFull (match g.openPage with
    | none => { g with openPage := some (freshPage s (p % 16) r) }
    | some pg =>
      if pageTakes pg r then { g with openPage := some { pg with recs := pg.recs ++ [r] } }
      else { closePage g with openPage := some (freshPage s (p % 16) r) })

/-- The record that a stream with LOG_MODE CONTINUOUS logs as it enters its ring (R253). -/
def logContinuous (s : State) (k : Nat) (r : Rec) : State :=
  if streamLog s k = 1 then
    match streamOwner s k with
    | none => s
    | some p =>
      let d := streamDie k
      if logBlocks s p d = 0 then s
      else s.modDie d (fun x => { x with
        regions := tput x.regions p (logRecord s (tget {} x.regions p) p r) })
  else s

/-- The total ring bytes of a parish: the sizes of its streams' rings, and of the system rings for parish 0 (R235, R241). Only
a size that stands in the settings is not 0. -/
def parishRingBytes (s : State) (p : Nat) : Nat :=
  s.conf.foldl (fun a e =>
    let k := e.1 / 256 - 0x7000
    if e.1 % 256 = 1 ∧ 0x7000 ≤ e.1 / 256 ∧ k < usedDies s * 512 ∧ k % 512 < 0x1F0 ∧ streamOwner s k = some p
    then a + ringSize s k * 256 else a) (if p = 0 then usedDies s * 220 * 256 else 0)

/-- The undelivered bytes of a parish on all its rings (R241). -/
def parishUndelivered (s : State) (p : Nat) : Nat :=
  (s.stream.map (·.1)).foldl (fun a k => if streamOwner s k = some p then a + undelivered s k else a) 0

/-- Whether a parish's undelivered bytes reach PARISH_WM of its total ring bytes (R241). -/
def parishMark (s : State) (p : Nat) : Bool :=
  0 < parishRingBytes s p && decide (cfg s (granIdx p) 1 75 * parishRingBytes s p ≤ 100 * parishUndelivered s p)

/-- The watermark reasons of R245 after a record entered a stream: bit 0 for RING_WM, bit 1 for PARISH_WM. -/
def markReasons (s : State) (k : Nat) : State :=
  match streamOwner s k with
  | none => s
  | some p =>
    if (s.parAt p).hostAsleep then
      let wm := if 0x1F0 ≤ k % 512 then 0 else cfg s (0x7000 + k) 3 50
      let s1 := if wm ≠ 0 ∧ streamDelivery s k = 1 ∧ wm * (ringSize s k * 256) ≤ 100 * undelivered s k
        then crierReason s p 0 0xFFFF else s
      if parishMark s p then crierReason s1 p 1 0xFFFF else s1
    else s

/-- The epoch to which a stamp belongs: the present one when it lies between the first tick of that epoch and the present tick, else
the one before (R62, log entry 16). -/
def stampEpoch (t : TimeBase) (st : Stamp) : BitVec 8 :=
  let run := t.quarters - t.epochFrom
  if stampSpan ≤ run + 32 ∨ (stampQ st + stampSpan - t.epochFrom % stampSpan) % stampSpan ≤ run + 32 then t.epoch
  else t.epoch - 1

/-- A record with its number, its ring's marks and the time of its entry (R24, R233, R234). -/
def stampRec (s : State) (k : Nat) (lost : Bool) (r : Rec) : Rec :=
  let st := s.streamAt k
  { r with
    stream := k
    seq := tget 0 st.seqs (r.pcode % 16)
    flags := putBit (if (s.dieAt (streamDie k)).aligned then r.flags else setBit r.flags 3) 4
      (bitOf r.flags 4 || st.ovrDue || lost)
    epoch := stampEpoch s.time r.stamp
    entered := s.ticks
    delivered := false
    pinned := captureWants s k
    place := st.entries }

/-- So many records of a stream leave its ring other than by delivery: LOST counts them and OVR is due (R234); LOST is not used on
the event stream (R240). -/
def Stream.lose (x : Stream) (k n : Nat) : Stream :=
  if n = 0 ∨ k % 512 = 0x1F1 then x else { x with lost := x.lost + BitVec.ofNat 32 n, ovrDue := true }

/-- A ring is cleared; its undelivered records count as lost (R234, R240, R247). -/
def Stream.clear (x : Stream) (k : Nat) : Stream :=
  Stream.lose { x with ring := [] } k (x.ring.filter (fun r => !r.delivered)).length

/-- A record enters its stream's ring under the stream's policy (R233, R234, R237, R239, R240). A ring of size 0, or in a bank
that is off with its die's logic (R412), discards it and counts it in LOST. -/
def ringEnter (s : State) (k : Nat) (r : Rec) : State :=
  let cap := if (s.dieAt (streamDie k)).logicOn then ringSize s k * 256 else 0
  let bump (t : Tbl Nat) := tput t (r.pcode % 16) ((tget 0 t (r.pcode % 16) + 1) % 4096)
  if cap = 0 then s.modStream k (fun x => x.lose k 1)
  else match makeRoom (streamPolicy s k == 0) (cap - r.size) (s.streamAt k).ring with
    | none => s.modStream k (fun x => Stream.lose { x with seqs := bump x.seqs } k 1)
    | some (ring, n) =>
      let r1 := stampRec s k (0 < n && k % 512 != 0x1F1) r
      let s1 := s.modStream k (fun x => { x.lose k n with
        ring := ring ++ [r1], seqs := bump x.seqs, ovrDue := false
        records := x.records + 1, lastStamp := r1.stamp, entries := x.entries + 1 })
      markReasons (logContinuous s1 k r1) k

/-- An anchor record's payload (R61). -/
def anchorWords (t : TimeBase) (reason : Nat) : List Word :=
  [BitVec.ofNat 32 t.seconds.toNat,
   BitVec.ofNat 32 (t.seconds.toNat / 2 ^ 32 % 65536 + reason % 256 * 65536 + t.epoch.toNat * 16777216)]

/-- An anchor record of the present time (R60, R61): SOURCE 4, parish 0, ANCHOR set. -/
def anchorRec (s : State) (reason : Nat) : Rec :=
  { stream := 0x1F0, stamp := s.nowStamp, pcode := 0x40, flags := 0x20, words := anchorWords s.time reason
    epoch := s.time.epoch }

/-- Every die whose logic is on inserts an anchor on its stream 0x1F0 (R60, R247). -/
def anchorAll (s : State) (reason : Nat) : State :=
  ((List.range (usedDies s)).filter (fun d => (s.dieAt d).logicOn)).foldl (fun x d => ringEnter x (d * 512 + 0x1F0) (anchorRec s reason)) s

/-! ### Fault records (R236, R369, R370) -/

/-- The FW word of a fault record (R236). -/
def faultWord (cls detail par : Nat) : Nat := detail % 256 + cls % 256 * 256 + par % 16 * 65536

/-- The number of a fault's key among one die's keys. -/
def faultKey (cls detail item : Nat) : Nat := (cls * 256 + detail) * 65536 + item % 65536

/-- A fault record is written on a die's fault stream unless one of the same key was written within 100 ms; a withheld one
is counted and reported as SPOIL in the next (R177, R290, R370). `mk` makes the payload words after FW from SPOIL. -/
def faultRecord (s : State) (d cls detail par key : Nat) (mk : Nat → List Word) : State :=
  let x := s.dieAt d
  let last := (x.faultAt.find? (fun e => e.1 == key)).map (·.2)
  if last.any (fun t => decide (s.ticks < t + msTicks 100)) then
    s.modDie d (fun y => { y with faultSpoil := tput y.faultSpoil key (satInc 65535 (tget 0 y.faultSpoil key)) })
  else
    let fw := faultWord cls detail par
    let r : Rec := { stamp := s.nowStamp, pcode := 0x50,
                     words := BitVec.ofNat 32 fw :: mk (tget 0 x.faultSpoil key) }
    let s1 := s.modDie d (fun y => { y with
      faultAt := tput y.faultAt key s.ticks, faultSpoil := tput y.faultSpoil key 0 })
    let s2 := ringEnter s1 (d * 512 + 0x1F2) r
    let s3 := { s2 with reeve := { s2.reeve with
      faults := s2.reeve.faults + 1, lastFault := fw, lastFaultStamp := r.stamp } }
    if par = 0 then s3 else crierReason s3 par 3 0xFFFF

/-- The parish that a fault concerns, as FW[PARISH] names it (R236): the owner of the port, rule or region that ITEM names,
parish 1 for a safety pair, else 0 (log entry 12). -/
def faultParish (s : State) (cls detail item : Nat) : Nat :=
  match cls with
  | 0x0B => 1
  | 0x0D | 0x13 => (portOwner s item).getD 0
  | 0x0E => if detail = 1 then (ruleOwner s item).getD 0 else 0
  | 0x11 => if item < 16 then item else 0
  | _ => 0

/-- A fault record of classes 0x03 to 0x14 (R370): DIE and ITEM, DATA_A, DATA_B and SPOIL. -/
def faultItem (s : State) (d cls detail item dataA dataB : Nat) : State :=
  faultRecord s d cls detail (faultParish s cls detail item) (faultKey cls detail item)
    (fun sp => [BitVec.ofNat 32 (d % 8 + item % 65536 * 256), BitVec.ofNat 32 dataA, BitVec.ofNat 32 dataB,
                BitVec.ofNat 32 sp])

/-- A reason of the replacement request is set: the bit stays until reset, and each bit newly set writes a REQUEST fault
record to die 0's fault stream (R348, R349). -/
def requestReason (s : State) (bit d : Nat) : State :=
  let q := s.reeve
  let s1 := { s with reeve := { q with
    rqReason := setBit q.rqReason bit, rqDies := setBit q.rqDies d
    rqFirst := if q.rqReason = 0 then s.nowStamp else q.rqFirst } }
  if bitOf q.rqReason bit then s1 else faultItem s1 0 0x14 bit d 0 0

/-- A violation of a parish is counted; beyond VIOL_HALT within one second the parish goes to HALT (R291). -/
def violationCount (s : State) (p : Nat) : State :=
  let lim := cfg s (0x2000 + 256 * p) 6 0
  s.modPar p (fun x =>
    let recent := s.ticks :: x.violAt.filter (fun t => s.ticks < t + msTicks 1000)
    let halts := lim ≠ 0 ∧ lim < recent.length ∧ p ≠ 0
    { x with violations := x.violations + 1, violAt := recent
             target := if halts then some 4 else x.target
             taken := if halts then [] else x.taken })

/-- A violation other than an engine's (R290): recorded at most once in 100 ms per parish and detail, and counted. -/
def violation (s : State) (d p detail idx sub opcode session : Nat) : State :=
  violationCount (faultRecord s d 0x02 detail p (faultKey 0x02 detail p)
    (fun sp => [BitVec.ofNat 32 (sub % 256 + idx % 65536 * 256 + opcode % 256 * 16777216),
                BitVec.ofNat 32 (session % 256), BitVec.ofNat 32 sp])) p

/-! ### Parish states (R292, R293) -/

/-- The state that the lead steward last decided for a parish: the decided change, or the state in force. -/
def decided (s : State) (p : Nat) : Nat := if p = 0 then 2 else (s.parAt p).target.getD (s.parAt p).state

/-- The state of a parish as a die has taken it (R293). -/
def parStateOn (s : State) (p d : Nat) : Nat :=
  if p = 0 then 2
  else
    let x := s.parAt p
    match x.target with
    | some t => if x.taken.contains d then t else x.state
    | none => x.state

/-- Whether the parish of a port is in INIT or HALT on its die, where the port's pads are high-Z (R292). -/
def padsHeld (s : State) (n : Nat) : Bool :=
  (portOwner s n).any (fun p => parStateOn s p (n / 12) == 0 || parStateOn s p (n / 12) == 4)

/-- Whether a port's VP stays open: no allocation names the port (R286), or its parish is in INIT or HALT and does not leave it at
this boundary (R292, R293). -/
def vpBarred (s : State) (n : Nat) : Bool :=
  !portNamed s n || (padsHeld s n && (portOwner s n).any (fun p => decided s p == 0 || decided s p == 4))

/-! ### The VP switch and its measurement (R71, R74, R87, R90, R93) -/

/-- Whether some quarantine reason is held. -/
def Port.inQuarantine (x : Port) : Bool := !x.quar.isEmpty

/-- Whether a quarantine reason is held. -/
def Port.holds (x : Port) (code : Nat) : Bool := x.quar.any (fun r => r.code == code)

/-- Whether the VP switch is closed (R74, R89, R90, R93): per VP_ON, or, while reason 3 or 4 is held, only while one of them is
probed. -/
def Port.vpClosed (x : Port) : Bool :=
  x.powered && !x.vpSleep && (if x.holds 3 || x.holds 4 then x.quar.any (fun r => (r.code == 3 || r.code == 4) && r.probing) else x.vpOn)

/-- The end of a window of 1 ms: VP_MEAS takes the measured current `m`, I_AVG in 0.1 mA and I_PEAK in mA, and windows above
VP_ILIM are counted (R74, R87). An open switch carries no current. -/
def Port.vpMeasure (x : Port) (ilim m : Nat) : Port :=
  if x.vpClosed then { x with
    iAvg := m % 65536, iPeak := m / 65536 % 65536
    overWins := if 10 * ilim < m % 65536 then satInc 3 x.overWins else 0 }
  else { x with iAvg := 0, iPeak := 0, overWins := 0 }

/-- Every port's measurement at an edge of the TIME clock: the windows end every 250,000 ticks. The current that a load draws is a
free value (log entry 7). -/
def vpWindows (s : State) : State :=
  if s.ticks % 250000 = 0 then
    { s with port := s.port.map (fun e =>
        (e.1, e.2.vpMeasure (cfg s (portIdx e.1 0) 4 10) (Config.vpLoad e.1 (s.ticks / 250000)).toNat)) }
  else s

end Sys2Proof.Machine
end

