-- ==== Sys2Proof/Machine/Operands.lean ====
section
/-! DEFINITION. The forms that a command's operands take: a unit of the part by its number (R6, R9), and a premise that the
state must meet for the command to be an event of the part (log entries 2 and 3). -/

namespace Sys2Proof.Machine

/-- The effect of a command that names a unit: a fault when the part has no such unit (R9). -/
def withUnit (ok : Bool) (unit : String) (t : State) : Result State :=
  if ok then .next t else .fault (.noSuchResource unit)

/-- The effect of a command that names a die. -/
def withDie (s : State) (d : Nat) (t : State) : Result State := withUnit (decide (d < usedDies s)) "die" t

/-- The effect of a command that names a sensor port. -/
def withPort (s : State) (n : Nat) (t : State) : Result State := withUnit (decide (n < usedDies s * 12)) "port" t

/-- The effect of a command that names an engine. -/
def withEngine (s : State) (e : Nat) (t : State) : Result State := withUnit (decide (e < usedDies s * 24)) "engine" t

/-- The effect of a command that names a network port. -/
def withNet (n : Nat) (t : State) : Result State := withUnit (decide (n < 3)) "network port" t

/-- The effect of a command that names a stream. -/
def withStream (s : State) (k : Nat) (t : State) : Result State := withUnit (decide (k < usedDies s * 512)) "stream" t

/-- The effect of a command that names a mill channel. -/
def withMill (s : State) (c : Nat) (t : State) : Result State := withUnit (decide (c < usedDies s * 16)) "mill channel" t

/-- The effect of a command that names a sieve rule. -/
def withRule (s : State) (r : Nat) (t : State) : Result State := withUnit (decide (r < usedDies s * 64)) "sieve rule" t

/-- The effect of a command that names a tally channel (unit × 4 + channel). -/
def withTally (s : State) (t : Nat) (u : State) : Result State :=
  withUnit (decide (t < usedDies s * 32)) "tally channel" u

/-- The effect of a command that names a parish. -/
def withParish (p : Nat) (t : State) : Result State := withUnit (decide (p < 16)) "parish" t

/-- A premise of an event: without it the command is no event of the part and changes nothing (log entry 2). -/
def given (c : Bool) (s t : State) : State := if c then t else s

/-- The machine with the status of a dictionary access recorded, as its RESPONSE carries it (R328). -/
def withStatus (s : State) (code : Nat) : State := { s with net := { s.net with lastStatus := code } }

/-! ### Writes of objects that have a row of their own (R9, R412) -/

/-- The abort code of such a write, by the first check that fails (R328): 0x0101 where the part has no such object (R9), 0x0302 for a
value out of its range, 0x0401 where its die is lost or its logic off (R412), else none. -/
def accessCode (has inRange off : Bool) : Nat := if !has then 0x0101 else if !inRange then 0x0302 else if off then 0x0401 else 0

/-- Whether the objects of a die are out of reach (R412). -/
def dieOff (s : State) (d : Nat) : Bool := (s.dieAt d).lost || !(s.dieAt d).logicOn

/-- The code for an object of a sensor port. -/
def portCode (s : State) (n : Nat) : Nat := accessCode (decide (n < usedDies s * 12)) true (dieOff s (portDie n))

/-- The code for an object of a tally channel (unit × 4 + channel). -/
def tallyCode (s : State) (t : Nat) (inRange : Bool) : Nat := accessCode (decide (t < usedDies s * 32)) inRange (dieOff s (t / 32))

/-- The code for an object of a parish, which no die holds. -/
def parCode (p : Nat) : Nat := accessCode (decide (p < 16)) true false

/-- The code for an object of a network port, which no other die holds. -/
def netCode (n : Nat) : Nat := accessCode (decide (n < 3)) true false

end Sys2Proof.Machine
end

