-- ==== Sys2Proof/Machine/Reset.lean ====
section
/-! DEFINITION. Reset and start-up (R438 to R442): what a reset keeps, and the start-up sequence up to the first frame. -/

namespace Sys2Proof.Machine

/-! ### Reset (R438) -/

/-- What a reset keeps of an NV log region: its committed and torn pages (R438); the open page, the waiting pages and a
running capture are lost with the granary (R255). -/
def keepRegion (g : Region) : Region :=
  { pages := g.pages, nextSeq := g.nextSeq, blocks := g.blocks }

/-- What a reset keeps of a die: the NV log, firmware NV with the block map, reload copies and calibration results
(R248, R422, R426, R438), and the quantities that the environment sets (temperature and rails). -/
def keepDie (x : Die) : Die :=
  { regions := x.regions.map (fun e => (e.1, keepRegion e.2)), sparesFree := x.sparesFree, pagesRetired := x.pagesRetired
    spareBlocks := x.spareBlocks, gonePages := x.gonePages, remap := x.remap, pageWrites := x.pageWrites
    cal := { temp := x.cal.temp, trim := x.cal.trim, cells := x.cal.cells, bins := x.cal.bins, pads := x.cal.pads }, fwErases := x.fwErases, reload := x.reload, reloadCrc := x.reloadCrc
    temp := x.temp, rail5 := x.rail5, rail33 := x.rail33, selfFailed := x.selfFailed }

/-- What a reset keeps of a port: its last calibration results in firmware NV (R426). -/
def keepPort (x : Port) : Port :=
  { trim := x.trim, calTemp := x.calTemp, calStamp := x.calStamp, spares := x.spares
    c0 := { pair := x.c0.pair, badPairs := x.c0.badPairs }, c1 := { pair := x.c1.pair, badPairs := x.c1.badPairs } }

/-- The hub resets (R438): the time base, every ring and every pending write are lost; firmware NV, the NV log, the key
store and the persisted set are kept; RESET_CAUSE records the cause. -/
def resetPart (s : State) (cause : Nat) : State :=
  { pending := s.pending
    dies := s.dies, serial := s.serial, mac := s.mac, cmptStrap := s.cmptStrap, testen := s.testen
    resetCause := cause
    svc := { addr := s.svc.addr, straps := s.svc.straps }
    die := s.die.map (fun e => (e.1, keepDie e.2))
    port := s.port.map (fun e => (e.1, keepPort e.2))
    parish := s.parish.map (fun e => (e.1, { key := e.2.key }))
    persisted := s.persisted, persistedOther := s.persistedOther, persistedBad := s.persistedBad
    power := { vinOk := s.power.vinOk, thermDown := s.power.thermDown, vinMv := s.power.vinMv, convTemp := s.power.convTemp }
    fw := { version := s.fw.version, slot := s.fw.slot, security := s.fw.security, nextSlot := s.fw.nextSlot
            badSlots := s.fw.badSlots, nvBad := s.fw.nvBad, setCrc := s.fw.setCrc, otherCrc := s.fw.otherCrc, slotVersion := s.fw.slotVersion, slotSecurity := s.fw.slotSecurity }
    free := s.free }

/-! ### Start-up (R439 to R442) -/

/-- Core voltage of an operating point in mV (R398). -/
def pointMv (k : Nat) : Nat := if k = 0 then 900 else if k = 1 then 800 else if k = 2 then 700 else 800

/-- The highest operating point that PERMITTED names (R399, R439). -/
def startPoint (s : State) (d : Nat) : Nat :=
  let v := cfg s (0xC010 + d) 2 1
  if bitOf v 0 then 0 else if bitOf v 1 then 1 else 2

/-- Bit mask of the first n dies. -/
def dieMask (n : Nat) : Nat := 2 ^ n - 1

/-- Reset with TESTEN high erases the key store and both copies of the persisted set and sets PROD_MODE (R457). -/
def testenErase (s : State) : State :=
  if s.testen then
    { s with parish := s.parish.map (fun e => (e.1, { e.2 with key := none })), persisted := [], persistedOther := []
             resetCause := 5, fw := { s.fw with setCrc := 0, otherCrc := 0 }, test := { s.test with prodMode := true } }
  else { s with test := { s.test with prodMode := false } }

/-- The hub boots from a slot: its version is that of the image written there, and the fused counter rises with its first
complete boot (R305, R306). -/
def bootSlot (s : State) (k : Nat) : State :=
  { s with fw := { s.fw with
    slot := k, nextSlot := none, boot := false, version := tget s.fw.version s.fw.slotVersion k
    security := max s.fw.security (tget 0 s.fw.slotSecurity k) } }

/-- Whether a slot passes its check: its signature and digests hold, and its security version is not below the fused counter (R305). -/
def slotPasses (s : State) (k : Nat) : Bool :=
  !bitOf s.fw.badSlots k && decide (s.fw.security ≤ tget s.fw.security s.fw.slotSecurity k)

/-- The firmware check of step 5 (R305, R306): the slot that FW_SWITCH chose or the active one, the other when it fails;
with both failed the hub stays in the state of R306. -/
def bootFirmware (s : State) : State :=
  let a := s.fw.nextSlot.getD s.fw.slot
  if slotPasses s a then bootSlot s a
  else if slotPasses s (1 - a) then bootSlot s (1 - a)
  else { s with fw := { s.fw with boot := true } }

/-- Bytes as firmware NV gives them back: `bad` lists the places of those that read wrong, each with the bits that differ. -/
def nvRead (b : List Byte) (bad : List (Nat × Nat)) : List Byte :=
  bad.foldl (fun a e => setNth a e.1 (nth 0 a e.1 ^^^ BitVec.ofNat 8 e.2)) b

/-- The bytes of a persisted set: INDEX, SUB, LENGTH and the value of each object, in ascending order (R352). -/
def setBytes (t : Tbl (List Byte)) : List Byte :=
  t.flatMap (fun e => leBytes 2 (e.1 / 256) ++ leBytes 1 (e.1 % 256) ++ leBytes 2 e.2.length ++ e.2)

/-- Whether a copy of the persisted set passes its CRC-32 as it is read: 0 the current one, 1 the other (R12, R352, R441). -/
def setGood (s : State) (k : Nat) : Bool :=
  let bad := (s.fw.nvBad.filter (fun e => e.1 == k)).map (·.2)
  crc32 (nvRead (setBytes (if k = 0 then s.persisted else s.persistedOther)) bad) == (if k = 0 then s.fw.setCrc else s.fw.otherCrc)

/-- The persisted set of step 8 (R441): the current copy, the other when it fails its CRC, factory defaults with MEMORY 0x0B when both
fail. -/
def loadPersisted (s : State) : State :=
  if setGood s 0 then { s with conf := s.persisted, persistedBad := false }
  else if setGood s 1 then { s with conf := s.persistedOther, persistedBad := false }
  else faultItem { s with conf := [], persistedBad := true } 0 0x08 0x0B 0x0050 0 0

/-- Whether the last spare of a set of calibration item 2 or 4 is taken (R429). -/
def lastSpare (spares item : Nat) : Bool :=
  if item = 2 then field spares 7 6 == 2
  else if item = 4 then field spares 2 0 ≤ 1 || field spares 5 3 ≤ 1 else false

/-- Whether some set of calibration spares of a die is exhausted: a port's, or its bandgap cells (R429). -/
def sparesGone (s : State) (d : Nat) : Bool :=
  (s.dieAt d).cal.cells != 0 || s.port.any (fun e => e.1 / 12 == d && (lastSpare e.2.spares 2 || lastSpare e.2.spares 4))

/-- The replacement reasons whose cause a start still finds present (R349): spares below 103 on a die, calibration spares exhausted, a
firmware slot that failed its check. -/
def startReasons (s : State) : State :=
  let s1 := (List.range (usedDies s)).foldl
    (fun x d => if (x.dieAt d).sparesFree < 103 then requestReason x 0 d else x) s
  let s2 := (List.range (usedDies s)).foldl (fun x d => if sparesGone x d then requestReason x 3 d else x) s1
  if s.fw.badSlots = 0 then s2 else requestReason s2 7 0

/-- Steps 2 to 8 of the start-up sequence with the sampled pins as they stand in the state (R113, R439, R441, R444, R457). What the
loaded configuration does follows in `bootPackage`. -/
def startUp (s : State) : State :=
  let s1 := bootFirmware (testenErase s)
  if s1.fw.boot then requestReason s1 7 0
  else
    let s2 := loadPersisted s1
    let sel := cfg s2 0x60 1 0
    let s3 := { s2 with cmpt := decide (sel = 2 ∨ (sel = 0 ∧ s2.cmptStrap = true)) }
    let s4 := (List.range s3.dies).foldl (fun x d => x.modDie d (fun y => { y with
      up := decide (d < usedDies s3), logicOn := decide (d < usedDies s3), onFrc := false
      opPoint := startPoint x d, coreSet := pointMv (startPoint x d), coreMv := pointMv (startPoint x d) })) s3
    let s5 := (List.range (usedDies s4 * 12)).foldl (fun x n => x.modPort n (fun y => { y with powered := true })) s4
    startReasons { s5 with
      dictReady := true, svc := { s5.svc with awake := true, addr := 0x58 + s5.svc.straps }
      power := { s5.power with state := 0 } }

end Sys2Proof.Machine
end

