-- ==== Sys2Proof/Machine/Reeve.lean ====
section
/-! DEFINITION. The reeve's shared operations: what an output needs to be energised, trip requests, NV captures, faults with
their reactions, lost dies and the states of parishes (chapters 11 and 14). -/

namespace Sys2Proof.Machine

/-! ### Parish states (R292 to R294) -/

/-- A change of a parish's state is decided; each die takes it at its first frame boundary (R293). Parish 0 stays in RUN.
HALT prevails over any other change decided for the same boundary, and RECOVERY over RUN (R294). -/
def decideState (s : State) (p st : Nat) : State :=
  if p = 0 then s
  else s.modPar p (fun x =>
    if x.target = some 4 ∨ (x.target = some 3 ∧ st = 2) then x
    else { x with target := some st, taken := [] })

/-- Whether some bit of so many from lo is set in an allocation bitmap. -/
def blobAny (b : List Byte) (lo n : Nat) : Bool := (List.range n).any (fun i => blobBit b (lo + i))

/-- Whether a parish holds a resource on a die (R285). -/
def parishOnDie (s : State) (p d : Nat) : Bool :=
  let a (sub : Nat) := ownBlob s d p sub
  blobAny (a 1) (d * 12) 12 || blobAny (a 2) (d * 24) 24 || blobAny (a 6) (d * 16) 16 || blobAny (a 7) (d * 64) 64 ||
    blobAny (a 8) (d * 8) 8 || blobAny (a 9) (d * 64) 64 || blobAny (a 0xA) (d * 64) 64 || blobBit (a 0xC) d ||
    blobAny (a 5) (d * 32) 32 || blobByte (a 3) d != 0 || blobByte (a 0xB) d != 0

/-- A cause of RECOVERY of parish 1 holds now: its 100 ms of absence begin anew (R382). -/
def causeSeen (s : State) (p : Nat) : State :=
  if p = 1 then { s with reeve := { s.reeve with heldAt := s.ticks, clear100 := false, runAsked := false } } else s

/-- The hub places a parish in RECOVERY for a cause (1 engine halted, 2 die lost, 3 ownership damaged, 4 reeve, 5 POWER):
from RUN, or, with the cause added, while already in RECOVERY; parish 1 also from TEST (R293, R385). -/
def parishRecover (s : State) (p cause : Nat) : State :=
  if p = 0 then s
  else
    let st := decided s p
    if st = 2 ∨ (p = 1 ∧ st = 1) then
      decideState ((causeSeen s p).modPar p (fun x => { x with cause := addOnce x.cause cause })) p 3
    else if st = 3 then (causeSeen s p).modPar p (fun x => { x with cause := addOnce x.cause cause })
    else s

/-! ### NV captures (R253) -/

/-- A capture of a parish starts on a die, or a trigger during one extends it: its records from LOG_PRE before the trigger
are pinned in their rings. -/
def captureTrigger (s : State) (d p : Nat) : State :=
  if logBlocks s p d = 0 then s
  else
    let g := tget {} (s.dieAt d).regions p
    let post := s.ticks + msTicks (cfg s (granIdx p) 0xB 1000)
    let from_ := if g.capActive then (if g.capDrain then g.capTo + 1 else g.capFrom)
      else s.ticks - msTicks (cfg s (granIdx p) 0xA 5000)
    let s1 := s.modDie d (fun x => { x with
      regions := tput x.regions p { g with
        capActive := true, capDrain := false, capFirst := g.capActive && g.capFirst, capFrom := from_, capTo := post } })
    let mine := (s.stream.map (·.1)).filter (fun k => streamDie k == d && streamOwner s k == some p && streamLog s k == 2)
    mine.foldl (fun x k => x.modStream k (fun y => { y with
      ring := y.ring.map (fun r => if from_ ≤ r.entered then { r with pinned := true } else r) })) s1

/-! ### Trip requests (R363 to R367) -/

/-- SO_USED in force (R394). -/
def soUsed (s : State) : Nat := cfg s 0xD000 4 0

/-- The trip signal j of a port: 0 C0, 1 C1, 2 WIN. -/
def portComp (x : Port) (j : Nat) : Comp := if j = 0 then x.c0 else if j = 1 then x.c1 else x.win

/-- A port with one trip signal changed. -/
def setComp (x : Port) (j : Nat) (c : Comp) : Port :=
  if j = 0 then { x with c0 := c } else if j = 1 then { x with c1 := c } else { x with win := c }

/-- The output map of trip signal j of a port (R364, R394). -/
def tripMap (s : State) (n j : Nat) : Nat := cfg s (0xD100 + n) (1 + j) 0

/-- TRIP_SO of trip signal j of a port (R141, R357). -/
def tripSo (s : State) (n j : Nat) : Bool := cfg s (portIdx n (9 + j)) 0xE 0 == 1

/-- The chip at which the run of on chips that holds chip i of a code began (R147). -/
def codeRun (code : Nat) : Nat → Nat
  | 0 => 0
  | i + 1 => if bitOf code i then codeRun code i else i + 1

/-- The elapsed tick at which EM began its present sinking, none while it sinks nothing. In a code burst the sink follows CODE,
chip i lasting WIDTH from the burst's start (R147). Chips are timed nominally, without the tolerance of the ADC clock (DESIGN
CHOICE, log entry 17). -/
def sinkSince (s : State) (n : Nat) : Option Nat :=
  let x := s.portAt n
  let burst := (x.queue.head?.map (fun k => tget {} (s.dieAt (portDie n)).slots k)).filter (fun y => y.kind == 3 && y.state == 3)
  if x.emSink = false then none
  else match burst with
    | none => some x.emSince
    | some y =>
      let chip := min 15 ((s.ticks - x.emSince) / (250 * max 1 x.emWidth))
      let code := field y.d1.toNat 31 16
      if bitOf code chip then some (x.emSince + 250 * max 1 x.emWidth * codeRun code chip) else none

/-- The elapsed tick from which the gate of trip signal j of a port is open: always, or from 500 ns (125 ticks) after the start of
sinking (R141). -/
def gateFrom (s : State) (n j : Nat) : Option Nat :=
  if cfg s (portIdx n (9 + j)) 0xC 0 = 0 then some 0 else (sinkSince s n).map (· + 125)

/-- Whether TRIP_GATE lets a trip pass (R141). -/
def gateOpen (s : State) (n j : Nat) : Bool := (gateFrom s n j).any (fun t => decide (t ≤ s.ticks))

/-- Whether the gated and filtered trip of a signal reaches its consumers: it has passed its filter since its gate opened, and
the gate is open (R141). -/
def tripPasses (s : State) (n j : Nat) : Bool :=
  (portComp (s.portAt n) j).filtered
    && (gateFrom s n j).any (fun t => decide (t ≤ s.ticks ∧ t ≤ (portComp (s.portAt n) j).passedAt))

/-- Bits of the output maps, TWTRIP in bit 16, that trip signals request: a filtered trip with TRIP_SO set (R141, R364). -/
def tripMapReq (s : State) : List Nat :=
  s.port.flatMap (fun e => (List.range 3).filterMap (fun j =>
    if tripPasses s e.1 j && tripSo s e.1 j then some (tripMap s e.1 j) else none))

/-- The maps of the verdict rules whose OUT requests off (R365). -/
def verdictMapReq (s : State) : List Nat :=
  s.rule.filterMap (fun e =>
    if e.2.img.present && e.2.out && bitOf e.2.img.outputs 4 then some (cfg s (0xD200 + e.1) 1 0) else none)

/-- Whether the trip wire from the twin requests off: TWTRIP_IN low while SEEKING or PAIRED (R367, R389). -/
def twinTripActs (s : State) : Bool := !s.reeve.twtripIn && (s.twin.state == 1 || s.twin.state == 2)

/-- Whether a request to output o of die d is present, whichever route it came by (R27, R363). -/
def soRequested (s : State) (d o : Nat) : Bool :=
  let b := 2 * d + o
  bitOf (s.dieAt d).directReq o || bitOf (s.dieAt d).matrixReq o
    || (tripMapReq s).any (fun m => bitOf m b) || (verdictMapReq s).any (fun m => bitOf m b)
    || (twinTripActs s && bitOf (cfg s 0xD800 4 0) b)

/-- Whether the whole part holds its outputs off: parish 1 not in RUN, LATCHED SAFE or a fault reaction (R363). -/
def outputsHeld (s : State) : Bool :=
  !(parishState s 1 == 2) || decided s 1 != 2 || s.reeve.latched || s.reeve.reaction

/-- Whether output o of die d is energised (R363), given its request. -/
def soEnergise (s : State) (d o : Nat) (req : Bool) : Bool :=
  let x := s.dieAt d
  bitOf (soUsed s) (2 * d + o) && !outputsHeld s && !req && bitOf x.soReleased o && !bitOf x.curOff o && !bitOf x.curHold o
    && !(x.test.map (fun t => t.output == o && !t.ended)).getD false && !x.leadLost && !x.lost && x.logicOn

/-- The outputs of one die follow R363, and each pin its output when that changes. A request, or anything that holds every
output, takes away the release, which may come back once it has been absent long enough (R366); either during a test pulse is noted
for its pin check (R385). -/
def soRefreshDie (s : State) (d : Nat) : State :=
  let ra := soRequested s d 0
  let rb := soRequested s d 1
  let held := outputsHeld s
  let x := s.dieAt d
  let rel := b2n (bitOf x.soReleased 0 && !ra && !held) + 2 * b2n (bitOf x.soReleased 1 && !rb && !held)
  let s1 := s.modDie d (fun y => { y with soReleased := rel })
  let out := b2n (soEnergise s1 d 0 ra) + 2 * b2n (soEnergise s1 d 1 rb)
  s1.modDie d (fun y => { y with
    soOut := out
    soPin := (List.range 2).foldl (fun a o => if bitOf out o != bitOf y.soOut o then putBit a o (bitOf out o) else a) y.soPin
    soAt := (List.range 2).foldl (fun t o => if bitOf out o != bitOf y.soOut o then tput t o s.ticks else t) y.soAt
    soFree := (List.range 2).foldl (fun t o =>
      if held || (if o = 0 then ra else rb) then tdel t o else if thas t o then t else tput t o s.ticks) y.soFree
    test := y.test.map (fun t => { t with real := t.real || held || (if t.output = 0 then ra else rb) }) })

/-- Whether some column of kind 7 is high (R279, R367). -/
def twtripColumns (s : State) : Bool := s.col.any (fun e => e.2.dest / 4096 == 7 && e.2.level)

/-- Whether the reeve has driven output o of a die to the safe state between two states of the die: it went off otherwise than by
its own test pulse, or a drive came during that pulse (R253). -/
def droveSafe (x y : Die) (o : Nat) : Bool :=
  match y.test with
  | some t =>
    if t.output = o ∧ t.ended = false then t.real && !(x.test.map (·.real)).getD false
    else bitOf x.soOut o && !bitOf y.soOut o
  | none => bitOf x.soOut o && !bitOf y.soOut o

/-- Every output of the part and TWTRIP_OUT follow their conditions (R363, R367). Where the reeve drives an output of
a die to the safe state, a capture of parish 1 starts on that die (R253). -/
def soRefresh (s : State) : State :=
  let s1 := (List.range (usedDies s)).foldl soRefreshDie s
  let s2 := { s1 with reeve := { s1.reeve with
    twtripOut := !outputsHeld s1 && !twtripColumns s1 && !(tripMapReq s1).any (fun m => bitOf m 16)
      && !(verdictMapReq s1).any (fun m => bitOf m 16) } }
  (List.range (usedDies s)).foldl
    (fun x d => if !(s2.dieAt d).lost && (List.range 2).any (droveSafe (s.dieAt d) (s2.dieAt d))
      then captureTrigger x d 1 else x) s2

/-! ### Lost dies (R18, R22) -/

/-- The pads of every port of a die float: outputs released, VP open, the emitter off (R22, R93). -/
def floatPorts (s : State) (d : Nat) : State :=
  { s with port := s.port.map (fun e =>
      if portDie e.1 = d then
        (e.1, { e.2 with powered := false, cmpOff := true, pinOe := 0, pinOut := 0, vpOn := false, emSink := false, pgood := false
                         pg0 := { e.2.pg0 with run := false, out := false }
                         pg1 := { e.2.pg1 with run := false, out := false } })
      else e) }

/-- The SAFE reaction on the state: every output off, TWTRIP_OUT low, parish 1 in RECOVERY, held until parish 1 leaves
RECOVERY (R371). -/
def safeReaction (s : State) : State :=
  soRefresh (parishRecover { s with reeve := { s.reeve with reaction := true } } 1 4)

/-- A dangerous fault is judged (R382, R383, R385): its key joins the causes; the first one of a RECOVERY is recorded; a
second one, of another key and no consequence within 100 ms, places the part in LATCHED SAFE. Of two at once in RUN that of the
lower class is the first, and the other is judged as the second. -/
def judgeDangerous (s : State) (key : Nat × Nat × Nat × Nat) : State :=
  let q := s.reeve
  let fw := faultWord key.1 key.2.1 0
  let consequence := (key.1 = 0x0B ∨ key.1 = 0x0D ∨ key.1 = 0x0E ∨ (key.1 = 0x0F ∧ key.2.1 = 2)) ∧
    s.ticks ≤ q.firstAt + msTicks 100
  let q1 := { q with dangerous := q.dangerous + 1, causes := if q.causes.contains key then q.causes else q.causes ++ [key]
                     clear100 := false, runAsked := false, heldAt := s.ticks }
  match q.firstKey with
  | some k0 =>
    if q.firstAt = s.ticks ∧ parishState s 1 = 2 ∧ key.1 < k0.1 then
      let spared := k0.1 = 0x0B ∨ k0.1 = 0x0D ∨ k0.1 = 0x0E ∨ (k0.1 = 0x0F ∧ k0.2.1 = 2)
      { s with reeve := { q1 with
          firstKey := some key, firstFault := fw, latched := q.latched || !decide spared
          secondFault := if spared then q.secondFault else q.firstFault } }
    else if decided s 1 = 3 ∧ k0 ≠ key ∧ ¬consequence then
      { s with reeve := { q1 with latched := true, secondFault := fw } }
    else { s with reeve := q1 }
  | none => { s with reeve := { q1 with firstKey := some key, firstFault := fw, firstStamp := s.nowStamp, firstAt := s.ticks } }

/-- A dangerous fault of a key is judged and the SAFE reaction follows, while SO_USED is not 0 (R369, R371). Parish 1 in INIT
or HALT keeps its outputs off already: there the fault is recorded and counted. -/
def dangerReaction (s : State) (key : Nat × Nat × Nat × Nat) : State :=
  if soUsed s = 0 then s
  else
    let s2 := judgeDangerous s key
    if decided s2 1 = 1 ∨ decided s2 1 = 2 ∨ decided s2 1 = 3 then safeReaction s2 else soRefresh s2

/-- A fault of classes 0x03 to 0x14 with the SAFE reaction when it is dangerous and SO_USED is not 0 (R369, R371). -/
def raiseFault (s : State) (d cls detail item dataA dataB : Nat) (dangerous : Bool) : State :=
  let s1 := faultItem s d cls detail item dataA dataB
  if dangerous then dangerReaction s1 (cls, detail, d, item) else s1

/-- A die becomes a lost die (R22): it stops, its outputs and pads float, its streams read STALE, its parishes go to
RECOVERY (R293), RING 0x02 is raised by the lead die and RQ_REASON bit 1 is set. The lead steward works on where the lead die is
cut off, since R22 leaves the handling of a lost die to it (log entry 26). -/
def loseDie (s : State) (d : Nat) : State :=
  if (s.dieAt d).lost then s
  else
    let s1 := s.modDie d (fun x => { x with
      lost := true, up := false, leadLost := true, stopAtFrame := true, logicOn := d == 0 && x.logicOn
      test := none, opens := [] })
    let s2 := floatPorts s1 d
    let s3 := ((List.range 16).drop 1).foldl
      (fun x p => if parishOnDie x p d then parishRecover x p 2 else x) s2
    requestReason (raiseFault (soRefresh s3) 0 0x0C 2 d 0 0 true) 1 d

/-- The DIE reaction (R371): as SAFE, then the die stops as a lost die; on die 0 the part resets with RESET_CAUSE 3. -/
def dieReaction (s : State) (d cls detail item : Nat) : State :=
  let s1 := raiseFault s d cls detail item 0 0 true
  if soUsed s = 0 then s1 else if d = 0 then resetPart s1 3 else loseDie s1 d

/-- The state of the safety function, as SAFETY_STATE reads (R394): 0 NONE with SO_USED 0. -/
def safetyState (s : State) : Nat :=
  if s.reeve.latched then 5
  else if soUsed s = 0 then 0
  else match parishState s 1 with
    | 0 => 1 | 1 => 2 | 2 => 3 | 3 => 4 | _ => 0

/-- SAFETY_LEVEL (R393). -/
def safetyLevel (s : State) : Nat :=
  if parishState s 1 != 2 then 0 else if s.twin.state = 2 then 3 else 2

end Sys2Proof.Machine
end

