-- ==== Sys2Proof/Machine/Faults.lean ====
section
/-! DEFINITION. The reeve's monitors, tests and releases: commands of chapter 14 other than the twin's words. -/

namespace Sys2Proof.Machine

/-! ### What holds parish 1 (R381, R382) -/

/-- Whether a standby engine serves every entry of a halted engine of a die (R196, R380). -/
def engineServed (s : State) (e : Nat) : Bool :=
  let r := (s.dieAt (engDie e)).active
  let st := nth 0xFF r.standby (e % 24)
  !(r.entries.any (fun x => x.engine == e % 24))
    || (st < 24 && (s.engAt (engDie e * 24 + st)).state == 1)

/-- Whether some engine of a parish is halted or retired without a standby that serves its entries (R293, R382). -/
def haltedEngine (s : State) (p : Nat) : Bool :=
  s.engine.any (fun e => (e.2.state == 2 || e.2.state == 3) && engOwner s e.1 == some p && !engineServed s e.1)

/-- Whether a lost die holds resources of a parish (R293). -/
def lostDieOf (s : State) (p : Nat) : Bool :=
  (List.range (usedDies s)).any (fun d => (s.dieAt d).lost && parishOnDie s p d)

/-- Whether the cause of a dangerous fault of a given key still holds (R382). -/
def faultHolds (s : State) (k : Nat × Nat × Nat × Nat) : Bool :=
  let x := s.dieAt k.2.2.1
  match k.1 with
  | 0x01 => haltedEngine s 1
  | 0x05 | 0x06 => true
  | 0x08 => k.2.1 == 0x0C || !x.reloadDue.isEmpty
  | 0x0A => bitOf x.soPin (k.2.2.2 % 2) && !bitOf x.soOut (k.2.2.2 % 2)
  | 0x0C => (k.2.1 == 2 && lostDieOf s 1) || (k.2.1 == 3 && x.leadLost) || (k.2.1 == 5 && bitOf x.crossFail (k.2.2.2 % 16))
  | 0x0D => !(s.portAt k.2.2.2).quar.isEmpty
  | _ => false

/-- Whether a cause that holds parish 1 in RECOVERY still holds (R382, R386). -/
def recoveryHeld (s : State) : Bool :=
  s.reeve.causes.any (faultHolds s) || s.reeve.powerCause || haltedEngine s 1 || lostDieOf s 1

/-- The reeve looks at every edge of the TIME clock whether a cause of parish 1's RECOVERY holds (R382). -/
def watchCauses (s : State) : State := if decided s 1 = 3 ∧ recoveryHeld s = true then causeSeen s 1 else s

/-- Whether the idle timers to SLEEP and DEEP SLEEP count (R405). -/
def idleCounts (s : State) : Bool := parishState s 1 != 2 && cfg s 0x0800 6 0 == 0

/-- The idle timers at an edge of the TIME clock (R405): IDLE_TIME counts in RUN while the lead steward has no request, SLEEP_TIME in
IDLE while parish 1 is not in RUN and nobody votes. -/
def idleClock (s : State) : State :=
  if s.power.state = 0 then { s with timers := { s.timers with idleRun := if s.net.waiting.isEmpty then s.timers.idleRun + 1 else 0 } }
  else if s.power.state = 1 ∧ idleCounts s = true then { s with timers := { s.timers with sleepRun := s.timers.sleepRun + 1 } }
  else s

/-- What every edge of the TIME clock brings beside the time itself: the windows of VP_MEAS, the idle timers, and the causes that hold
parish 1 in RECOVERY (R87, R382, R405). -/
def everyTick (s : State) : State := watchCauses (idleClock (vpWindows s))

/-- Whether the start-up tests of R381 have passed. -/
def startupTests (s : State) : Bool :=
  let used := soUsed s
  let dies := List.range (usedDies s)
  dies.all (fun d =>
    let x := s.dieAt d
    let trip := s.port.any (fun e => portDie e.1 == d && portOwner s e.1 == some 1
      && (tripSo s e.1 0 || tripSo s e.1 1 || tripSo s e.1 2))
      || s.col.any (fun e => e.1 / 256 == d && (e.2.dest / 4096 == 6 || e.2.dest / 4096 == 7))
      || s.rule.any (fun e => ruleDie e.1 == d && e.2.img.present && bitOf e.2.img.outputs 4 && ruleOwner s e.1 == some 1)
    (field used (2 * d + 1) (2 * d) == 0 && !trip || x.roundPassed)
      && (List.range 2).all (fun o => !(bitOf used (2 * d + o) && bitOf x.soPin o))
      && x.active.pairs.all (fun p => 2 ≤ tget 0 x.pairEqual p.entry))
    && s.rule.all (fun e => !(e.2.img.present && bitOf e.2.img.outputs 4 && ruleOwner s e.1 == some 1) || e.2.primed)
    && (!(cfg s 0xD800 1 0 == 1 && cfg s 0xD800 3 1 == 1) || s.twin.state == 2)

/-- The reeve moves parish 1 to RUN when R381, or R382 in RECOVERY, allows it. -/
def tryRun (s : State) : State :=
  if decided s 1 = 1 ∧ startupTests s = true ∧ s.reeve.latched = false then decideState s 1 2
  else if decided s 1 = 3 ∧ s.reeve.clear100 = true ∧ s.reeve.runAsked = true ∧ recoveryHeld s = false
      ∧ s.reeve.latched = false ∧ startupTests s = true then decideState s 1 2
  else s

/-! ### Releases and requests (R366, R367) -/

/-- RESTART_MODE in force: 1 AUTO. -/
def restartAuto (s : State) : Bool := cfg s 0xD000 7 0 == 1

/-- Output o of die d is released unless a request is present (R366). A release also ends a current-limit turn-off (R477). -/
def releaseOne (s : State) (d o : Nat) : State :=
  if soRequested s d o || outputsHeld s then s
  else s.modDie d (fun x => { x with soReleased := setBit x.soReleased o, curOff := clrBit x.curOff o })

/-- A write of SO_RELEASE (R366): in MANUAL mode each output whose bit is set is released. -/
def writeRelease (s : State) (value : Nat) : State :=
  if restartAuto s then withStatus s 0
  else withStatus (soRefresh ((List.range (2 * usedDies s)).foldl
    (fun x b => if bitOf value b then releaseOne x (b / 2) (b % 2) else x) s)) 0

/-- SO_RELEASE (R366): a tagged parish-1 session writes SO_RELEASE. -/
def execSoRelease (value : Nat) (s : State) : Result State :=
  if value < 65536 then .next (writeRelease s value) else .fault (.noSuchOperand "safety output")

/-- RESTART_DELAY, in ticks. -/
def restartDelay (s : State) : Nat := msTicks (cfg s 0xD000 8 500)

/-- RESTART_DELAY_EXPIRY (R366, R382): in AUTO mode RESTART_DELAY has passed without a request to the output, which is
released; in RECOVERY, RESTART_DELAY after the cause was found absent for 100 ms, it stands for the write of STATE_REQ. -/
def execRestartDelayExpiry (d o : Nat) (s : State) : Result State :=
  if usedDies s ≤ d then .fault (.noSuchResource "die")
  else withUnit (decide (o < 2)) "safety output" (given (restartAuto s) s (
    let s1 := if decided s 1 = 3 ∧ s.reeve.clear100 = true ∧ s.reeve.clearAt + restartDelay s ≤ s.ticks then
      tryRun { s with reeve := { s.reeve with runAsked := true } } else s
    if thas (s.dieAt d).soFree o ∧ tget 0 (s.dieAt d).soFree o + restartDelay s ≤ s.ticks then soRefresh (releaseOne s1 d o)
    else s1))

/-- TWTRIP_IN_TRIP (R367): TWTRIP_IN reads low after its deglitch filter. -/
def execTwtripInTrip (s : State) : Result State := .next (soRefresh { s with reeve := { s.reeve with twtripIn := false } })

/-- TWTRIP_IN_RELEASE (R367): TWTRIP_IN returns high; its request clears. -/
def execTwtripInRelease (s : State) : Result State := .next (soRefresh { s with reeve := { s.reeve with twtripIn := true } })

/-! ### Monitors (R374) -/

/-- CLOCK_MONITOR_FAULT (R374): clock 1 SYS, 2 TIME, 3 REF, 4 FRC, 5 LPRC, 6 ADC, with the measured value. -/
def execClockMonitorFault (d detail measured : Nat) (s : State) : Result State :=
  if usedDies s ≤ d then .fault (.noSuchResource "die")
  else withUnit (decide (1 ≤ detail ∧ detail ≤ 6)) "clock" (given ((s.dieAt d).logicOn && !(s.dieAt d).lost) s
    (raiseFault s d 0x05 detail 0 measured 0 true))

/-- SUPPLY_MONITOR_FAULT (R374): 1 core low, 2 core high, 3 the 5 V rail, 4 the 3.3 V rail, 5 VIN, with the measured value. -/
def execSupplyMonitorFault (d detail measured : Nat) (s : State) : Result State :=
  if usedDies s ≤ d then .fault (.noSuchResource "die")
  else withUnit (decide (1 ≤ detail ∧ detail ≤ 5)) "supply" (given ((s.dieAt d).logicOn && !(s.dieAt d).lost) s
    (raiseFault s d 0x06 detail 0 measured 0 true))

/-- MONITOR_RETURN_TO_BAND (R382): a clock (class 5) or supply (class 6) is back within its band, which ends its cause. -/
def execMonitorReturnToBand (d cls detail : Nat) (s : State) : Result State :=
  withDie s d (given (cls == 5 || cls == 6) s
    { s with reeve := { s.reeve with causes := s.reeve.causes.filter (fun k => k != (cls, detail, d, 0)) } })

/-! ### Trip-path tests and readback (R375, R376, R477) -/

/-- Whether the test pulse on output o is due in the present tick: on SO_A where a round begins, at NANOSECONDS mod 4,000,000 =
TEST_PHASE × 1,000,000, and on SO_B 2 ms later (R375). -/
def pulseDue (s : State) (o : Nat) : Bool :=
  let at_ := (s.time.nanos * 2 ^ 32 + s.time.frac : Int) - ((s.twin.testPhase * 1000000 + o * 2000000) * 2 ^ 32 : Nat)
  decide (at_ % (4000000 * 2 ^ 32 : Nat) < s.time.increment)

/-- TRIP_TEST_PULSE_START (R375): a test pulse starts on one output of a die at its instant of the round, in TEST, RUN or RECOVERY,
never on both at once, and not across an operating-point switch. A pulse on SO_A begins a round. -/
def execTripTestPulseStart (d o : Nat) (s : State) : Result State :=
  if usedDies s ≤ d then .fault (.noSuchResource "die")
  else withUnit (decide (o < 2)) "safety output" (
    let st := parishState s 1
    let x := s.dieAt d
    given ((st == 1 || st == 2 || st == 3) && pulseDue s o && !x.paused && !s.power.opBusy && !x.lost && x.logicOn
        && (x.test.map (fun t => t.ended)).getD true) s
      (soRefresh (s.modDie d (fun y => { y with
        test := some { output := o, real := soRequested s d o, at_ := s.ticks }, roundOk := if o = 0 then 0 else y.roundOk }))))

/-- A TRIPTEST fault of an output (R375, R369): counted in TEST_FAILS; 0x03 is recorded only. -/
def tripTestFault (s : State) (d o detail src : Nat) : State :=
  raiseFault (s.modDie d (fun x => { x with testFails := satInc 65535 x.testFails })) d 0x09 detail (2 * d + o) src 0
    (detail != 3)

/-- The pulse on an output has passed; with both outputs passed the round has (R375, R394). -/
def pulsePassed (s : State) (d o : Nat) : State :=
  let ok := setBit (s.dieAt d).roundOk o
  if ok = 3 then
    tryRun { (s.modDie d (fun x => { x with roundOk := 0, roundPassed := true })) with
      reeve := { s.reeve with testRounds := s.reeve.testRounds + 1 } }
  else s.modDie d (fun x => { x with roundOk := ok })

/-- Whether an output is energised but for its own test pulse (R375). -/
def energisedUnder (s : State) (d o : Nat) : Bool :=
  soEnergise (s.modDie d (fun x => { x with test := none })) d o (soRequested s d o)

/-- TRIP_TEST_DEADLINE (R375, R385): kind 1, the source taps within 200 ns (`src` names a silent one); kind 2, the fall of an
energised output's pin within 1 µs, skipped when a real request came; kind 3, the pin's return within 10 µs of the end. -/
def execTripTestDeadline (d kind : Nat) (ok : Bool) (src : Nat) (s : State) : Result State :=
  if usedDies s ≤ d then .fault (.noSuchResource "die")
  else withUnit (decide (1 ≤ kind ∧ kind ≤ 3)) "deadline" (
    match (s.dieAt d).test with
    | none => s
    | some t =>
      let upd (t' : Option TripTest) : State := s.modDie d (fun x => { x with test := t' })
      if t.ended then
        if kind != 3 || decide (s.ticks < t.at_ + 2500) then s
        else if ok then pulsePassed (upd none) d t.output
        else tripTestFault (upd none) d t.output 3 0
      else if s.ticks < t.at_ + (if kind = 1 then 50 else 250) then s
      else if kind = 1 then
        if ok then upd (some { t with tapDone := true, tapsOk := true })
        else tripTestFault (upd (some { t with tapDone := true })) d t.output 1 src
      else if kind = 2 then
        if ok || t.real || !energisedUnder s d t.output then upd (some { t with pinOk := true })
        else tripTestFault s d t.output 2 0
      else s)

/-- TRIP_TEST_PULSE_END (R375): the output is restored 2 µs after the pulse started. With its checks passed the pulse has passed at once where the output
stays off, and after the pin-return deadline where it is energised. -/
def execTripTestPulseEnd (d : Nat) (s : State) : Result State :=
  withDie s d (
    match (s.dieAt d).test with
    | none => s
    | some t =>
      if t.ended || decide (s.ticks < t.at_ + 500) then s
      else
        let good := t.tapsOk && t.pinOk
        let s1 := soRefresh (s.modDie d (fun x => { x with test := none, soAt := tput x.soAt t.output s.ticks }))
        if !bitOf (s1.dieAt d).soOut t.output then if good then pulsePassed s1 d t.output else s1
        else if good then s1.modDie d (fun x => { x with test := some { t with ended := true, at_ := s.ticks } })
        else s1)

/-- OUTPUT_READBACK_FAULT (R376): the pin has read high for more than 100 µs with its output off and no test pulse on it, or
low as long with its output energised. -/
def execOutputReadbackFault (d o : Nat) (high : Bool) (s : State) : Result State :=
  if usedDies s ≤ d then .fault (.noSuchResource "die")
  else withUnit (decide (o < 2)) "safety output" (
    let x := s.dieAt d
    let pulsed := (x.test.map (fun t => t.output == o && !t.ended)).getD false
    given (!pulsed && high != bitOf x.soOut o && decide (tget 0 x.soAt o + 25000 < s.ticks)) s (
      raiseFault (s.modDie d (fun y => { y with soPin := putBit y.soPin o high })) d 0x0A (if high then 1 else 2) (2 * d + o)
        0 0 high))

/-- SO_CURRENT_LIMIT_EXPIRY (R477): after more than 1 ms in current limit the output turns off until it is energised again,
and for at least 10 ms; OUTPUT 0x02 is recorded. -/
def execSoCurrentLimitExpiry (d o : Nat) (s : State) : Result State :=
  if usedDies s ≤ d then .fault (.noSuchResource "die")
  else withUnit (decide (o < 2)) "safety output" (given (bitOf (s.dieAt d).soOut o && decide (tget 0 (s.dieAt d).soAt o + msTicks 1 < s.ticks)) s (
    raiseFault (soRefresh (s.modDie d (fun x => { x with
      curOff := setBit x.curOff o, curHold := setBit x.curHold o, curAt := tput x.curAt o s.ticks }))) d 0x0A 2 (2 * d + o) 0 0 false))

/-- SO_CURRENT_LIMIT_HOLDOFF_END (R477): the 10 ms off time ends; a released output may be energised again. -/
def execSoCurrentLimitHoldoffEnd (d o : Nat) (s : State) : Result State :=
  if usedDies s ≤ d then .fault (.noSuchResource "die")
  else withUnit (decide (o < 2)) "safety output"
    (given (bitOf (s.dieAt d).curHold o && decide (tget 0 (s.dieAt d).curAt o + msTicks 10 ≤ s.ticks)) s
      (soRefresh (s.modDie d (fun x => { x with curHold := clrBit x.curHold o }))))

/-! ### Safety pairs (R378) -/

/-- A PAIR fault of an entry, with the digests of both sides (R369, R370). -/
def pairFault (s : State) (d entry detail a b : Nat) : State :=
  raiseFault (s.modDie d (fun x => { x with
    pairFaults := satInc 65535 x.pairFaults, pairEqual := tput x.pairEqual entry 0 })) d 0x0B detail entry a b true

/-- The reeve of die d compares the digest that an entry closed in the previous frame with its partner's (R378). Unequal digests raise
PAIR 0x01; more than PAIR_TOLERANCE consecutive absences PAIR 0x02. The local digest of an absent entry is a free value in the record
(log entry 7). -/
def comparePair (s : State) (d : Nat) (pr : PairRec) : State :=
  let mine := tget none (s.dieAt d).prevDigests pr.entry
  let theirs := tget none (s.dieAt pr.die).prevDigests pr.partner
  match mine, theirs with
  | some a, some b =>
    let s1 := s.modDie d (fun x => { x with pairAbsent := tput x.pairAbsent pr.entry 0 })
    if a = b then
      tryRun (s1.modDie d (fun x => { x with pairEqual := tput x.pairEqual pr.entry (tget 0 x.pairEqual pr.entry + 1) }))
    else pairFault s1 d pr.entry 1 a.toNat b.toNat
  | _, _ =>
    let n := tget 0 (s.dieAt d).pairAbsent pr.entry + 1
    let s1 := s.modDie d (fun x => { x with
      pairAbsent := tput x.pairAbsent pr.entry n, pairEqual := tput x.pairEqual pr.entry 0 })
    if n ≤ cfg s 0xD000 0xA 0 then s1
    else
      let a := match mine with
        | some a => (a.toNat, s1)
        | none => s1.draw 32
      pairFault a.2 d pr.entry 2 a.1 ((theirs.map (·.toNat)).getD 0xFFFFFFFF)

/-- PAIR_DIGEST_COMPARE (R378): once a frame the reeve of die d compares the digests of a pair entry. -/
def execPairDigestCompare (d entry : Nat) (s : State) : Result State :=
  withDie s d (
    match (s.dieAt d).active.pairs.find? (fun p => p.entry == entry) with
    | none => s
    | some pr => given (!(s.dieAt d).pairDone.contains entry && (s.dieAt d).logicOn && !(s.dieAt d).lost) s
      (comparePair (s.modDie d (fun x => { x with pairDone := addOnce x.pairDone entry })) d pr))

/-- RECOVERY_CAUSE_CLEARED (R382): in RECOVERY no cause has held for 100 ms of elapsed time; parish 1 returns to RUN once the
release condition and the start-up tests allow. -/
def execRecoveryCauseCleared (s : State) : Result State :=
  .next (given (decided s 1 == 3 && !recoveryHeld s && decide (s.reeve.heldAt + msTicks 100 ≤ s.ticks)) s
    (tryRun { (s.modPar 1 (fun x => { x with cause := [] })) with reeve := { s.reeve with clear100 := true, clearAt := s.ticks } }))

end Sys2Proof.Machine
end

