-- ==== Sys2Proof/Machine/Flags.lean ====
section
/-! DEFINITION. The results and flags of the tap engines' register instructions (R156 to R158), and the branch conditions
(R161). -/

namespace Sys2Proof.Machine

/-- The flags of a context (R150). -/
structure Flags where
  /-- Result zero. -/
  z : Bool := false
  /-- Bit 31 of the result. -/
  n : Bool := false
  /-- Carry out, no borrow, or the last bit shifted out. -/
  c : Bool := false
  /-- Signed overflow, or saturation. -/
  v : Bool := false
deriving DecidableEq, Repr

/-- A result with Z and N set from it and the other flags as given (R158). -/
def withZN (f : Flags) (r : Word) : Word × Flags := (r, { f with z := decide (r = 0), n := r.msb })

/-- A signed result clamped to 32 bits (R157). -/
def satWord (i : Int) : Word :=
  if 2147483647 < i then 0x7FFFFFFF else if i < -2147483648 then 0x80000000 else BitVec.ofInt 32 i

/-- Whether a signed result was saturated (R158). -/
def wasSat (i : Int) : Bool := decide (2147483647 < i ∨ i < -2147483648)

/-- A saturating result: V is 1 when it was saturated, C is unchanged (R158). -/
def satOp (f : Flags) (i : Int) : Word × Flags := withZN { f with v := wasSat i } (satWord i)

/-- ADD and ADDI: C is the carry out of bit 31, V the signed overflow (R158). -/
def aluAdd (f : Flags) (a b : Word) : Word × Flags :=
  withZN { f with c := decide (2 ^ 32 ≤ a.toNat + b.toNat), v := wasSat (a.toInt + b.toInt) } (a + b)

/-- SUB and CMPI: C is 1 when no borrow occurs, V the signed overflow (R158). -/
def aluSub (f : Flags) (a b : Word) : Word × Flags :=
  withZN { f with c := decide (b.toNat ≤ a.toNat), v := wasSat (a.toInt - b.toInt) } (a - b)

/-- AND, OR, XOR, the multiplies without saturation, and the minima and maxima: Z and N only (R157). -/
def aluPlain (f : Flags) (r : Word) : Word × Flags := withZN f r

/-- A left shift: C is the last bit shifted out, unchanged for a count of 0 (R158). -/
def aluShl (f : Flags) (a : Word) (k : Nat) : Word × Flags :=
  withZN { f with c := if k = 0 then f.c else a.getLsbD (32 - k) } (a <<< k)

/-- A logical right shift (R158). -/
def aluShr (f : Flags) (a : Word) (k : Nat) : Word × Flags :=
  withZN { f with c := if k = 0 then f.c else a.getLsbD (k - 1) } (a >>> k)

/-- An arithmetic right shift (R158). -/
def aluSar (f : Flags) (a : Word) (k : Nat) : Word × Flags :=
  withZN { f with c := if k = 0 then f.c else a.getLsbD (k - 1) } (a.sshiftRight k)

/-- The low word of the product (R157). -/
def mulLow (a b : Word) : Word := a * b

/-- The high word of the signed product (R157). -/
def mulHigh (a b : Word) : Word := BitVec.ofInt 32 (a.toInt * b.toInt / 2 ^ 32)

/-- The high word of the unsigned product (R157). -/
def mulHighU (a b : Word) : Word := BitVec.ofNat 32 (a.toNat * b.toNat / 2 ^ 32)

/-- The Q31 product before saturation: the signed product shifted right by 31, floor (R157). -/
def mulQ (a b : Word) : Int := a.toInt * b.toInt / 2 ^ 31

/-- The signed minimum. -/
def minS (a b : Word) : Word := if a.toInt ≤ b.toInt then a else b
/-- The signed maximum. -/
def maxS (a b : Word) : Word := if b.toInt ≤ a.toInt then a else b
/-- The unsigned minimum. -/
def minU (a b : Word) : Word := if a.toNat ≤ b.toNat then a else b
/-- The unsigned maximum. -/
def maxU (a b : Word) : Word := if b.toNat ≤ a.toNat then a else b

/-- Whether a branch of a condition code is taken (R161); codes 13 to 15 are reserved. -/
def condHolds (f : Flags) (cond : Nat) : Bool :=
  match cond with
  | 0 => true
  | 1 => f.z
  | 2 => !f.z
  | 3 => f.n != f.v
  | 4 => f.n == f.v
  | 5 => !f.c
  | 6 => f.c
  | 7 => !f.z && (f.n == f.v)
  | 8 => f.z || (f.n != f.v)
  | 9 => f.n
  | 10 => !f.n
  | 11 => f.v
  | 12 => !f.v
  | _ => false

end Sys2Proof.Machine
end

