-- ==== Sys2Proof/Machine/Offers.lean ====
section
/-! DEFINITION. Offers to the sieve and the writing of records with the offers they make (R216, R217). -/

namespace Sys2Proof.Machine

/-- An offer to a rule joins its die's queue; one that finds 64 waiting is discarded, counted, and raises SIEVE 0x02, which
is dangerous on a die with rules of parish 1 (R217, R369). -/
def offerTo (s : State) (g : Nat) (value : Int) (stamp : Stamp) : State :=
  let d := ruleDie g
  let x := s.dieAt d
  if 64 ≤ x.offers.length then
    let safety := s.rule.any (fun e => ruleDie e.1 == d && e.2.img.present && ruleOwner s e.1 == some 1)
    raiseFault (s.modDie d (fun y => { y with offerDrops := y.offerDrops + 1 })) d 0x0E 2 0 0 0 safety
  else s.modDie d (fun y => { y with
    offers := y.offers ++ [{ rule := g % 64, value := value, stamp := stamp, arrived := s.ticks }] })

/-- The rules of a die whose source is the given one (R216), in ascending order. -/
def rulesOf (s : State) (d kind num : Nat) : List Nat :=
  (s.rule.filter (fun e => ruleDie e.1 == d && e.2.img.present && e.2.img.srcKind == kind && e.2.img.srcNum == num)).map (·.1)

/-- A source of a die makes an offer to every rule that names it (R216). -/
def offerFrom (s : State) (d kind num : Nat) (value : Int) (stamp : Stamp) : State :=
  (rulesOf s d kind num).foldl (fun x g => offerTo x g value stamp) s

/-- The field of a record that a STREAM rule judges (R216, R226). -/
def recField (m : RuleImg) (r : Rec) : Option Int :=
  if bitOf r.flags 0 || r.words.length ≤ m.field % 16 then none
  else
    let v := (nth 0 r.words (m.field % 16)).toNat / 2 ^ m.fieldLsb % 2 ^ m.fieldWidth
    some (if bitOf m.field 4 then sgn m.fieldWidth v else v)

/-- The offers that a record written to a stream makes; a STALE or short record is counted in SKIPPED instead (R216). -/
def recordOffers (s : State) (k : Nat) (r : Rec) : State :=
  (rulesOf s (streamDie k) 2 (k % 512)).foldl (fun x g =>
    match recField (x.ruleAt g).img r with
    | some v => offerTo x g v r.stamp
    | none => x.modRule g (fun y => { y with skipped := satInc 65535 y.skipped })) s

/-- A record is written to a stream, and makes its offers when it entered the ring (R171, R216, R239). -/
def putRecord (s : State) (k : Nat) (r : Rec) : State :=
  let s1 := ringEnter s k r
  if (s1.streamAt k).records = (s.streamAt k).records then s1 else recordOffers s1 k r

end Sys2Proof.Machine
end

