-- ==== Sys2Proof/Machine/Scratch.lean ====
section
/-! DEFINITION. The byte memories of the tap engines in canonical form, and their reads and writes (R11, R150, R159). -/

namespace Sys2Proof.Machine

/-- What an unlisted scratch byte reads as (R150): zero. -/
def scratchDflt : Byte := 0

/-- The canonical form of a byte memory: addresses rise and no entry equals what an unlisted address reads as. -/
def Memory.wf : Memory → Bool
  | [] => true
  | [(_, b)] => b != scratchDflt
  | (a, b) :: (a', b') :: t => b != scratchDflt && decide (a < a') && Memory.wf ((a', b') :: t)

/-- One byte of a memory. -/
def Memory.read (m : Memory) (a : Nat) : Byte := tget scratchDflt m a

/-- A memory with one byte written; writing what an unlisted address reads as removes the entry. -/
def Memory.write : Memory → Nat → Byte → Memory
  | [], a, v => if v = scratchDflt then [] else [(a, v)]
  | (j, w) :: t, a, v =>
    if a < j then (if v = scratchDflt then (j, w) :: t else (a, v) :: (j, w) :: t)
    else if a = j then (if v = scratchDflt then t else (a, v) :: t)
    else (j, w) :: Memory.write t a v

/-- A memory with bytes written from an address on. -/
def Memory.writeBytes : Memory → Nat → List Byte → Memory
  | m, _, [] => m
  | m, a, b :: t => Memory.writeBytes (Memory.write m a b) (a + 1) t

/-- n bytes from an address. -/
def Memory.readBytes (m : Memory) (a n : Nat) : List Byte := (List.range n).map (fun i => Memory.read m (a + i))

/-- The word at an address, least significant byte first (R11). -/
def Memory.readWord (m : Memory) (a : Nat) : Word := BitVec.ofNat 32 (leNat (Memory.readBytes m a 4))

end Sys2Proof.Machine
end

