-- ==== Sys2Proof/Machine/Slots.lean ====
section
/-! DEFINITION. Contexts, the transaction table and the ends of port operations (R150 to R153, R162, R193): the shared
operations of engines, ports and the rota. -/

namespace Sys2Proof.Machine

/-! ### Contexts (R150) -/

/-- A context of an engine's bench. -/
def Engine.ctxAt (x : Engine) (c : Nat) : Ctx := tget {} x.ctxs c

/-- The machine with a context changed. -/
def State.modCtx (s : State) (e c : Nat) (f : Ctx → Ctx) : State :=
  s.modEng e (fun x => { x with ctxs := tput x.ctxs c (f (x.ctxAt c)) })

/-- A register as a context reads it: w0 is zero, w1 to w7 are the context's, w8 to w15 the engine's (R150). -/
def readReg (x : Engine) (c : Ctx) (r : BitVec 4) : Word :=
  if r = 0 then 0 else if r.toNat < 8 then tget 0 c.regs r.toNat else tget 0 x.shared r.toNat

/-- The machine after a context writes a register; a write of w0 is discarded (R150). -/
def writeReg (s : State) (e c : Nat) (r : BitVec 4) (v : Word) : State :=
  if r = 0 then s
  else if r.toNat < 8 then s.modCtx e c (fun x => { x with regs := tput x.regs r.toNat v })
  else s.modEng e (fun x => { x with shared := tput x.shared r.toNat v })

/-- The flags of a context. -/
def Ctx.flagsOf (c : Ctx) : Flags := { z := c.z, n := c.n, c := c.c, v := c.v }

/-- A context with its flags set. -/
def Ctx.withFlags (c : Ctx) (f : Flags) : Ctx := { c with z := f.z, n := f.n, c := f.c, v := f.v }

/-- Whether an engine is halted or retired. -/
def engHalted (s : State) (e : Nat) : Bool := (s.engAt e).state == 2 || (s.engAt e).state == 3

/-- The index of the die and the parish of an engine. -/
def engParish (s : State) (e : Nat) : Nat := (engOwner s e).getD 0

/-! ### Scratch memory (R150, R159) -/

/-- The machine with bytes written to an engine's scratch memory. -/
def writeScratch (s : State) (e a : Nat) (bs : List Byte) : State :=
  s.modEng e (fun x => { x with scratch := Memory.writeBytes x.scratch a bs })

/-- Whether an access of n bytes is naturally aligned and lies at 0x000 to 0x3FF (R159). -/
def scratchOk (a n : Nat) : Bool := a % n == 0 && a + n ≤ 1024

/-! ### Tickets and slots (R162, R193) -/

/-- A slot of a die's transaction table. -/
def Die.slotAt (x : Die) (k : Nat) : Slot := tget {} x.slots k

/-- The machine with a slot changed. -/
def State.modSlot (s : State) (d k : Nat) (f : Slot → Slot) : State :=
  s.modDie d (fun x => { x with slots := tput x.slots k (f (x.slotAt k)) })

/-- Slots of a die that are held. -/
def Die.held (x : Die) : Nat := (x.slots.filter (fun e => e.2.state != 0)).length

/-- The free slots of a die. -/
def Die.freeSlots (x : Die) : List Nat := (List.range 512).filter (fun k => (x.slotAt k).state == 0)

/-- The ticket of a slot: the slot in bits 8:0 and its generation count in bits 15:9 (R162). -/
def ticketOf (k gen : Nat) : Nat := k % 512 + gen % 128 * 512

/-- A slot retires: it is free, its generation count steps, and a context that still holds its ticket loses it (R162). -/
def retireSlot (s : State) (d k : Nat) : State :=
  let x := (s.dieAt d).slotAt k
  let s1 := s.modSlot d k (fun y => { gen := (y.gen + 1) % 128 })
  s1.modCtx x.engine x.ctx (fun c => { c with tickets := without c.tickets (ticketOf k x.gen) })

/-- Whether a slot belongs to a context that still lives. -/
def slotLive (x : Slot) : Bool := !x.orphan

/-! ### Ends of operations (R85, R86, R130, R153, R166) -/

/-- The machine after the port of an operation leaves its mode for the one that waits behind it (R68, R111). -/
def enterIdleMode (s : State) (n : Nat) : State :=
  let x := s.portAt n
  if x.nextMode.isSome && (x.queue.head?.map (fun k => ((s.dieAt (portDie n)).slotAt k).state != 3)).getD true
  then s.modPort n (fun y => { y with mode := 0, modeAt := s.ticks, pinOe := 0, emSink := false })
  else s

/-- Whether some emitter operation among slots of a die waits or runs (R87). -/
def emitterQueued (x : Die) (ks : List Nat) : Bool := ks.any (fun k => (x.slotAt k).needsGov)

/-- COUNT of an operation that ends without a transfer of its own: TW_STAT[COUNT] as it stands for a two-wire operation, else 0
(R166). -/
def idleCount (s : State) (x : Slot) : Nat := if x.kind = 0 then (s.portAt x.port).twCount else 0

/-- An operation completes with a status and a count (R85, R166): the port's status registers, the flags of the records that
its entry emits later, and the slot, which retires at once when its context has ended. -/
def completeOp (s : State) (d k status count : Nat) : State :=
  let x := (s.dieAt d).slotAt k
  let n := x.port
  let s1 := s.modPort n (fun y => { y with
    opStatus := status, opCount := y.opCount + 1
    failed := if status = 0 then y.failed else satInc 65535 y.failed
    queue := without y.queue k
    emBusy := if x.needsGov then emitterQueued (s.dieAt d) (without y.queue k) else y.emBusy })
  let s2 := s1.modSlot d k (fun y => { y with state := 4, status := status, count := count })
  let s3 := if x.orphan then retireSlot s2 d k
    else s2.modCtx x.engine x.ctx (fun c => { c with
      stale := c.stale || status != 0 || x.waitedCal, patched := c.patched || x.patched, rangeF := c.rangeF || x.rangeF
      defer := c.defer || x.deferred })
  enterIdleMode s3 n

/-- The results of an operation go to scratch, unless its context has ended (R153). -/
def resultBytes (s : State) (d k a : Nat) (bs : List Byte) : State :=
  let x := (s.dieAt d).slotAt k
  if x.orphan then s else writeScratch s x.engine a bs

/-- The elapsed tick of a port's request for a governor slot: that of its operation, or of its calibration item. -/
def govAsked (s : State) (n : Nat) : Nat :=
  let x := s.portAt n
  if x.calItem = 6 then x.calFrom
  else (x.queue.head?.map (fun k => ((s.dieAt (portDie n)).slotAt k).heldAt)).getD 0

/-- Whether port a comes before port b in the governor's order: parish 1, then the earliest request, then the lowest port
(R80). -/
def govBefore (s : State) (a b : Nat) : Bool :=
  let pa := portOwner s a == some 1
  let pb := portOwner s b == some 1
  if pa != pb then pa
  else decide (govAsked s a < govAsked s b ∨ (govAsked s a = govAsked s b ∧ a < b))

/-- The governor's next request among the waiting ports of a die (R80). -/
def govNext (s : State) (d : Nat) : Option Nat :=
  (s.dieAt d).govWait.foldl (fun best n => match best with
    | none => some n
    | some b => if govBefore s n b then some n else some b) none

/-- A port's emitter stops sinking and its governor slot, or its request, is released (R79, R191). -/
def emitterStop (s : State) (n : Nat) : State :=
  let s1 := s.modPort n (fun x => { x with
    emSink := false
    c0 := { x.c0 with gated := x.c0.gated && cfg s (portIdx n 9) 0xC 0 != 1
                      filtered := x.c0.filtered && cfg s (portIdx n 9) 0xC 0 != 1 }
    c1 := { x.c1 with gated := x.c1.gated && cfg s (portIdx n 10) 0xC 0 != 1
                      filtered := x.c1.filtered && cfg s (portIdx n 10) 0xC 0 != 1 }
    win := { x.win with gated := x.win.gated && cfg s (portIdx n 11) 0xC 0 != 1
                        filtered := x.win.filtered && cfg s (portIdx n 11) 0xC 0 != 1 } })
  soRefresh (s1.modDie (portDie n) (fun x => { x with
    govHeld := without x.govHeld n, govWait := without x.govWait n }))

/-- A port's emitter begins to sink (R76, R79). -/
def emitterStart (s : State) (n : Nat) : State :=
  (s.modPort n (fun x => { x with emSink := true, emSince := s.ticks, emBusy := true })).modDie (portDie n)
    (fun x => { x with govHeld := addOnce x.govHeld n, govWait := without x.govWait n })

/-- The emitter side of an operation that ends early (R81, R90, R191): an active one stops sinking, a deferred one gives up its
request, and one behind another operation touches neither. -/
def emitterCancel (s : State) (d k : Nat) : State :=
  let x := (s.dieAt d).slotAt k
  if x.needsGov = false then s
  else if x.state = 3 then emitterStop s x.port
  else if (s.portAt x.port).queue.head? = some k then
    s.modDie d (fun y => { y with govWait := without y.govWait x.port })
  else s

/-- An operation of a port is aborted with a status (R111, R190, R191): an emitter stops, a two-wire transfer after START
starts the bus recovery and completes after it, any other operation completes at once. -/
def abortOp (s : State) (d k status : Nat) (recover : Bool) : State :=
  let x := (s.dieAt d).slotAt k
  if x.state = 0 ∨ x.state = 4 then s
  else
    let s1 := emitterCancel s d k
    if x.state = 3 ∧ x.kind = 0 ∧ recover = true then
      if (s1.portAt x.port).recovering then s1
      else (s1.modPort x.port (fun y => { y with recovering := true, recSlot := some k })).modSlot d k
        (fun y => { y with aborted := true, status := status })
    else completeOp s1 d k status (idleCount s x)

/-! ### The end of a context (R153) -/

/-- The slots that a context's unretired tickets hold. -/
def ctxSlots (s : State) (e c : Nat) : List Nat :=
  let d := s.dieAt (engDie e)
  (d.slots.map (·.1)).filter (fun k =>
    let x := d.slotAt k
    x.state != 0 && !x.orphan && x.engine == e && x.ctx == c)

/-- A context is freed: its registers, flags, PC and CSTAMP are lost (R153). -/
def freeCtx (s : State) (e c : Nat) : State :=
  (s.modEng e (fun x => { x with
    ctxs := tdel x.ctxs c, running := if x.running = some c then none else x.running, ready := without x.ready c })).modDie
    (engDie e) (fun x => { x with slotWaiters := x.slotWaiters.filter (fun w => !(w.1 == e && w.2 == c)) })

/-- A context ends. Operations it did not await are orphaned and counted; with `budget` they are aborted instead, with the
status given (R153). -/
def endCtx (s : State) (e c : Nat) (budget : Option Nat) : State :=
  let ks := ctxSlots s e c
  let d := engDie e
  let s1 := s.modEng e (fun x => { x with orphans := satAdd 65535 x.orphans (if budget.isNone then ks.length else 0) })
  let s2 := ks.foldl (fun x k =>
    let y := x.modSlot d k (fun z => { z with orphan := true })
    if ((x.dieAt d).slotAt k).state = 4 then retireSlot y d k
    else match budget with
      | none => y
      | some st => abortOp y d k st (st == 12)) s1
  freeCtx s2 e c

/-! ### Engine faults (R176, R177) -/

/-- An engine fault is recorded (R177): counted in FAULTS and LAST_FAULT, and written to the die's fault stream at most once in
100 ms for each engine and detail. An OWNERSHIP fault is also counted as a violation of the parish (R290). -/
def engineFault (s : State) (e c detail pc operand : Nat) : State :=
  let x := s.engAt e
  let p := engParish s e
  let word := nth 0 x.prog pc
  let s1 := s.modEng e (fun y => { y with faults := y.faults + 1, lastFault := detail % 256 + pc % 1024 * 256 })
  let s2 := faultRecord s1 (engDie e) 0x01 detail p (faultKey 0x01 detail e)
    (fun sp => [BitVec.ofNat 32 (e % 256 + c % 32 * 256 + pc % 1024 * 65536), word, BitVec.ofNat 32 operand,
                BitVec.ofNat 32 sp])
  if detail = 3 then violationCount s2 p else s2

/-- A fault that ends the context (R176): no other side effect. -/
def faultEnd (s : State) (e c detail operand : Nat) : State :=
  let pc := ((s.engAt e).ctxAt c).pc
  endCtx (engineFault s e c detail (min pc 1023) operand) e c none

/-! ### The running context -/

/-- The machine after the running context of an engine executes an instruction. The premise is that a context runs, its PC
lies in program memory and the word there decodes to the instruction (R152, R156), and that its budget has not expired: an
expiry in the same cycle ends the context first (R153). -/
def onCtx (s : State) (e : Nat) (i : Instr) (f : Engine → Nat → Ctx → State) : Result State :=
  withEngine s e (
    let x := s.engAt e
    match x.running with
    | none => s
    | some c =>
      let y := x.ctxAt c
      given (y.live && y.slotWait == false && decide (s.ticks < y.budgetEnd) && decide (y.pc < 1024) && decodeWord e (nth 0 x.prog y.pc) == some i) s (f x c y))

/-- The PC of a context moves to the next word. -/
def nextPc (s : State) (e c : Nat) : State := s.modCtx e c (fun y => { y with pc := y.pc + 1 })

/-- A context leaves the engine (R152). -/
def leaveEngine (s : State) (e : Nat) : State := s.modEng e (fun x => { x with running := none })

/-- The ready contexts of an engine with one more (R152): behind those that became ready before. Of contexts that return to
the engine in the same cycle the lower number stands first; launches follow in their own order (R187). A cycle is taken as an
elapsed tick (log entry 18). -/
def readyWith (x : Engine) (t c : Nat) : List Nat :=
  if x.ready.contains c then x.ready
  else if !(x.ctxAt c).began then x.ready ++ [c]
  else
    let same (k : Nat) : Bool := (x.ctxAt k).readyAt == t && ((x.ctxAt k).began == false || decide (c < k))
    x.ready.filter (fun k => !same k) ++ [c] ++ x.ready.filter same

/-- A context becomes ready (R152). -/
def makeReady (s : State) (e c : Nat) : State :=
  (s.modEng e (fun x => { x with ready := readyWith x s.ticks c })).modCtx e c (fun y => { y with readyAt := s.ticks })

end Sys2Proof.Machine
end

