-- ==== Sys2Proof/Machine/Ports.lean ====
section
/-! DEFINITION. Sensor ports: supply, emitter and governor, quarantine, and the two-wire, SPI and UART controllers
(chapters 3 and 4). -/

namespace Sys2Proof.Machine

/-! ### Capture points and captures in the past (R57, R58) -/

/-- The number of a capture point of a port: 0 to 3 the pins, 4 EM, 5 the hold switch, 6 to 8 the trip signals. -/
def capPoint (n k : Nat) : Nat := n * 16 + k

/-- The trimmed pad delay of a capture point of a port, in 2^-32 ns: as calibration last trimmed it, else the factory value (R58). -/
def padDelay (s : State) (n k : Nat) : Int :=
  match ((s.dieAt (portDie n)).cal.pads.find? (fun e => e.1 == capPoint n k)).map (·.2) with
  | some ps => ps * 2 ^ 32 / 1000
  | none => Config.padDelay (capPoint n k)

/-- The stamp of an event now at a capture point of a port. -/
def captureAt (s : State) (n k bins : Nat) : Stamp := s.time.capture bins (padDelay s n k)

/-- The stamp of an event so many ticks ago at a capture point of a port. -/
def captureBack (s : State) (n k lag bins : Nat) : Stamp :=
  let f : Int := (s.time.fine : Int) - lag * s.time.increment + (bins % 16 : Nat) * s.time.increment / 16
    - padDelay s n k
  stampOf ((f + 2 ^ 29) / 2 ^ 30).toNat

/-! ### Modes and supply (R68, R71, R74) -/

/-- The index of the mode and supply objects of a port. -/
def padIdx (n : Nat) : Nat := portIdx n 0

/-- PORT_MODE_IDLE_END (R68): the 10 µs (2,500 ticks) in UNCONFIGURED end and the mode that waits is applied. -/
def execPortModeIdleEnd (n : Nat) (s : State) : Result State :=
  withPort s n (
    let x := s.portAt n
    match x.nextMode with
    | none => s
    | some m => given (x.mode == 0 && decide (x.modeAt + 2500 ≤ s.ticks)) s (s.modPort n (fun y => { y with
        mode := m, nextMode := none, modeAt := s.ticks, edgeLatch := [], busBusy := false })))

/-- What a change of the VP switch brings (R71): an off-to-on transition takes VP_SEL and begins without PGOOD, and an open
switch has no PGOOD. -/
def Port.vpSwitch (x y : Port) (sel : Nat) : Port :=
  if y.vpClosed then (if x.vpClosed then y else { y with vpSel := sel, pgood := false, overWins := 0 })
  else { y with pgood := false, overWins := 0 }

/-- A change of a port with what follows at its VP switch (R71). -/
def modVp (s : State) (n : Nat) (f : Port → Port) : State := s.modPort n (fun x => x.vpSwitch (f x) (cfg s (padIdx n) 3 0))

/-- A write of VP_ON (R71, R87). -/
def writeVpOn (s : State) (n : Nat) (on : Bool) : State :=
  modVp s n (fun x => { x with vpOn := on && !vpBarred s n })

/-- VP_ON_WRITE (R71). -/
def execVpOnWrite (n : Nat) (on : Bool) (s : State) : Result State :=
  withPort s n (given (domainOn s n) s (writeVpOn s n on))

/-- PGOOD (R71): VP of a closed switch has reached 90 %. -/
def execPgood (n : Nat) (s : State) : Result State :=
  withPort s n (given (s.portAt n).vpClosed s (s.modPort n (fun x => { x with pgood := true, pgoodAt := s.ticks })))

/-! ### Quarantine (R89 to R91, R481) -/

/-- The operations of a port that enters quarantine (R90): a waiting one completes QUARANTINED, an active emitter operation
stops and completes QUARANTINED, any other active one runs on. -/
def quarantineOps (s : State) (n : Nat) : State :=
  let d := portDie n
  (s.portAt n).queue.foldl (fun x k =>
    let y := (x.dieAt d).slotAt k
    if y.state = 1 ∨ y.state = 2 ∨ (y.state = 3 ∧ y.needsGov = true) then
      completeOp (emitterCancel x d k) d k 9 (idleCount x y)
    else x) s

/-- An emitter under calibration stops sinking, or gives up its request (R90, R431). -/
def stopEmitterItem (s : State) (n : Nat) : State :=
  if (s.portAt n).calItem = 6 then emitterStop (s.modPort n (fun x => { x with emBusy := false })) n else s

/-- The next good input pair of a comparator after the one in use (R135). -/
def Comp.nextPair (c : Comp) : Option Nat :=
  ((List.range 4).map (fun i => (c.pair + 1 + i) % 4)).find? (fun p => p != c.pair && !bitOf c.badPairs p)

/-- Calibration takes a comparator's next pair to trim it while the active one keeps watching, at a tick (R135). -/
def Comp.takeSpare (c : Comp) (t : Nat) : Comp := { c with spare := c.nextPair, agree := some t }

/-- A calibration run restarts from its first item; an item in progress is discarded (R431). -/
def Port.restartCal (x : Port) (t : Nat) : Port :=
  { x with c0 := if x.calRun = 0 then x.c0 else x.c0.takeSpare t, c1 := if x.calRun = 0 then x.c1 else x.c1.takeSpare t
           calItem := 0, calOffline := false, calDone := 0, calFailed := 0, calRanges := 0, calDue := x.calRun
           calRecorded := false }

/-- The probes that a cause ends (R89): that of its own reason, and for an overload those of both reasons, which close one
switch. -/
def probeFails (code : Nat) (r : QuarReason) : QuarReason :=
  if r.code = code ∨ ((code = 3 ∨ code = 4) ∧ (r.code = 3 ∨ r.code = 4)) then { r with probing := false } else r

/-- A reason joins the set of a port (R481). One already held stays, its back-off running on; a probe of it fails. -/
def quarantineAdd (s : State) (n code : Nat) : State :=
  if (s.portAt n).holds code then modVp s n (fun x => { x with quar := x.quar.map (probeFails code) })
  else
    let s1 := stopEmitterItem (quarantineOps s n) n
    let s2 := modVp s1 n (fun x => { x.restartCal s.ticks with
      quar := { code := code, backoff := 10, nextAt := s.ticks + msTicks 10 } :: x.quar.map (probeFails code) })
    raiseFault s2 (portDie n) 0x0D code n 0 0 (portOwner s n == some 1)

/-- A reason leaves the set (R481), with its fault record (R90). -/
def quarantineLeave (s : State) (n code : Nat) : State :=
  if (s.portAt n).holds code then
    faultItem (modVp s n (fun x => { x with quar := x.quar.filter (fun r => r.code != code) })) (portDie n) 0x0D code n 0 0
  else s

/-- The back-off after a probe (R91): doubling to 640 ms, then 1,000 ms. -/
def nextBackoff (b : Nat) : Nat := if 640 ≤ b then 1000 else 2 * b

/-- A probe of a held automatic reason starts; on its own schedule it also sets the next one (R91, R481). That of reason 1 is the
recovery sequence, those of reasons 3 and 4 close the VP switch (R89). -/
def probeStart (s : State) (n code : Nat) (scheduled : Bool) : State :=
  modVp s n (fun x => { x with
    recovering := x.recovering || (code == 1 && x.holds 1)
    quar := x.quar.map (fun r =>
      if r.code = code then
        { r with probing := true, backoff := if scheduled then nextBackoff r.backoff else r.backoff
                 nextAt := if scheduled then r.nextAt + msTicks (nextBackoff r.backoff) else r.nextAt }
      else r) })

/-- The probe of reason 1, a full recovery sequence, ends (R89, R109). -/
def recoveryProbeEnd (s : State) (n : Nat) (isFree : Bool) : State :=
  let s1 := s.modPort n (fun x => { x with
    recovering := false, recoveries := satInc 65535 x.recoveries
    quar := x.quar.map (fun r => if r.code = 1 then { r with probing := false } else r) })
  if isFree then quarantineLeave s1 n 1 else s1

/-- VP_AVERAGE_OVERLOAD (R74): the average has exceeded VP_ILIM in 3 consecutive windows of 1 ms; reason 3. -/
def execVpAverageOverload (n : Nat) (s : State) : Result State :=
  withPort s n (given ((s.portAt n).vpClosed && decide (3 ≤ (s.portAt n).overWins)) s
    (quarantineAdd (s.modPort n (fun x => { x with overload := true, pgood := false })) n 3))

/-- VP_PEAK_OVERLOAD (R74): reason 4. -/
def execVpPeakOverload (n : Nat) (s : State) : Result State :=
  withPort s n (given (s.portAt n).vpClosed s
    (quarantineAdd (s.modPort n (fun x => { x with overload := true, pgood := false })) n 4))

/-- Whether a pin of a port has read a level without a break for so many ticks, since its last edge. -/
def pinSteady (s : State) (n pin : Nat) (level : Bool) (ticks : Nat) : Bool :=
  bitOf (s.portAt n).pinIn.toNat pin == level && decide (tget 0 (s.portAt n).pinAt pin + ticks ≤ s.ticks)

/-- The pin that carries RXD: P1, or P0 in single-wire mode (R67). -/
def rxdPin (s : State) (n : Nat) : Nat := if cfg s (portIdx n 6) 4 0 = 1 then 0 else 1

/-- UART_RX_LOW_TIMEOUT (R89): RXD has been low for RX_LOW_TIMEOUT; reason 2. -/
def execUartRxLowTimeout (n : Nat) (s : State) : Result State :=
  withPort s n (given ((s.portAt n).mode == 3 && domainOn s n
      && pinSteady s n (rxdPin s n) false (msTicks (cfg s (padIdx n) 8 100))) s (quarantineAdd s n 2))

/-- QUARANTINE_PROBE (R91): the back-off of a held automatic reason, an interval in ms, expires. Reason 1 is probed by the recovery sequence, which
BUS_RECOVERY_DONE ends; a probe of the others goes on until QUARANTINE_PROBE_PASSED. Probes pause during a loopback (R451). -/
def execQuarantineProbe (n reason interval : Nat) (s : State) : Result State :=
  withPort s n (given ((s.portAt n).quar.any (fun r => r.code == reason && r.backoff == interval && decide (r.nextAt ≤ s.ticks))
      && 1 ≤ reason && reason ≤ 4 && (s.portAt n).loopDepth == 0) s (probeStart s n reason true))

/-- QUARANTINE_PROBE_PASSED (R89): RXD has been high for 1 ms, or no overload came for 10 ms after PGOOD. -/
def execQuarantineProbePassed (n reason : Nat) (s : State) : Result State :=
  withPort s n (
    let x := s.portAt n
    let passed := if reason = 2 then pinSteady s n (rxdPin s n) true (msTicks 1)
      else x.pgood && decide (x.pgoodAt + msTicks 10 ≤ s.ticks)
    given (x.quar.any (fun r => r.code == reason && r.probing) && 2 ≤ reason && reason ≤ 4 && passed) s
      (quarantineLeave s n reason))

/-- A write of QUAR_CTL (R89, R91, R481). -/
def writeQuarCtl (s : State) (n v : Nat) : State :=
  let s1 := s.modPort n (fun x => { x with quarCtl := v })
  match v with
  | 0 => quarantineLeave s1 n 5
  | 1 => if (s.portAt n).holds 5 then s1 else quarantineAdd s1 n 5
  | _ => [1, 2, 3, 4].foldl (fun x c => if (x.portAt n).holds c then probeStart x n c false else x) s1

/-- A dictionary write of QUAR_CTL: it aborts with 0x0401 while the port's domain is off (R88). -/
def quarCtlWrite (s : State) (n v : Nat) : State :=
  if domainOn s n then withStatus (writeQuarCtl s n v) 0 else withStatus s 0x0401

/-- QUAR_CTL_RELEASE (R481). -/
def execQuarCtlRelease (n : Nat) (s : State) : Result State := .next (given (portCode s n == 0) (withStatus s (portCode s n)) (quarCtlWrite s n 0))
/-- QUAR_CTL_HOLD (R89). -/
def execQuarCtlHold (n : Nat) (s : State) : Result State := .next (given (portCode s n == 0) (withStatus s (portCode s n)) (quarCtlWrite s n 1))
/-- QUAR_CTL_PROBE (R91). -/
def execQuarCtlProbe (n : Nat) (s : State) : Result State := .next (given (portCode s n == 0) (withStatus s (portCode s n)) (quarCtlWrite s n 2))

/-! ### Emitter and governor (R76 to R81) -/

/-- A write of EM_CFG: each field is clamped to its nearest limit, which sets CLAMPED (R76). -/
def writeEmCfg (s : State) (n v : Nat) : State :=
  let i := field v 7 0
  let w := field v 17 8
  let ci := max 10 (min 250 i)
  let cw := max 1 (min 1000 w)
  s.modPort n (fun x => { x with
    emISet := ci, emWidth := cw, emClamped := x.emClamped || ci != i || cw != w })

/-- EM_CFG_WRITE (R76). -/
def execEmCfgWrite (n : Nat) (value : Word) (s : State) : Result State :=
  withPort s n (given (domainOn s n) s (writeEmCfg s n value.toNat))

/-- The slot at the head of a port's queue, in a given state. -/
def headSlot (s : State) (n state : Nat) : Option Nat :=
  match (s.portAt n).queue with
  | [] => none
  | k :: _ => if ((s.dieAt (portDie n)).slotAt k).state = state then some k else none

/-- The operation at the head of a port's queue, when it is active and of a kind. -/
def activeOp (s : State) (n kind : Nat) : Option Nat :=
  (headSlot s n 3).bind (fun k => if ((s.dieAt (portDie n)).slotAt k).kind = kind then some k else none)

/-- An emitter operation starts to sink: its stamp is the start of sinking (R57, R147). -/
def emitterFire (s : State) (n k bins : Nat) (deferred : Bool) : State :=
  (emitterStart s n).modSlot (portDie n) k (fun x => { x with
    state := 3, stamped := true, stamp := captureAt s n 4 bins, deferred := x.deferred || deferred })

/-- An emitter operation requests a governor slot (R79): granted at once, or deferred. -/
def emitterRequest (s : State) (n k bins : Nat) : State :=
  let d := portDie n
  let x := s.dieAt d
  if x.govWait.contains n then s
  else if x.govHeld.length < 4 ∧ x.govWait = [] then emitterFire s n k bins false
  else ((s.modDie d (fun y => { y with govWait := y.govWait ++ [n] })).modSlot d k (fun y => { y with
    heldAt := s.ticks })).modPort n (fun y => { y with emBusy := true })

/-- Whether a port's controller may start an operation: its domain is on, it is not in quarantine or recovery, and no change of
mode holds it in UNCONFIGURED (R68, R90). -/
def portReady (s : State) (n : Nat) : Bool :=
  domainOn s n && !(s.portAt n).inQuarantine && !(s.portAt n).recovering && (s.portAt n).nextMode.isNone

/-- GOVERNOR_GRANT (R80, R81): a free slot goes to the first waiting request, which starts to sink; DEFER_TIME counts its
wait in whole units of 100 ns, rounded down (DESIGN CHOICE, log entry 17). A calibration of the emitter takes a slot in the same
way (R427). -/
def execGovernorGrant (d bins : Nat) (s : State) : Result State :=
  withDie s d (
    match govNext s d with
    | none => s
    | some n =>
      let may := portReady s n && decide ((s.dieAt d).govHeld.length < 4)
      if (s.portAt n).calItem = 6 then given may s (emitterStart s n) else
      match headSlot s n 2 with
      | none => s
      | some k => given may s (
          let wait := (s.ticks - ((s.dieAt d).slotAt k).heldAt) * 4 / 100
          (emitterFire s n k bins true).modPort n (fun x => { x with emDefer := min 65535 wait })))

/-- EMITTER_PULSE_DONE (R78, R165): the pulse is judged, the governor slot released and PULSE completes. -/
def execEmitterPulseDone (n : Nat) (isOpen noreg : Bool) (s : State) : Result State :=
  withPort s n (
    match activeOp s n 4 with
    | none => s
    | some k => completeOp (emitterStop (s.modPort n (fun x => { x with emOpen := isOpen, emNoreg := noreg })) n) (portDie n) k
        (if isOpen || noreg then 10 else 0) 0)

/-! ### Descriptors (R97, R98, R125, R163, R164) -/

/-- TYPE of a two-wire descriptor. -/
def twType (d0 : Word) : Nat := field d0.toNat 19 16

/-- Bytes that a two-wire descriptor writes from WBUF (R97, R98). -/
def twWriteLen (d0 d1 : Word) : Nat :=
  match twType d0 with
  | 4 | 6 | 9 | 10 => field d1.toNat 7 0
  | 8 => 2
  | _ => 0

/-- Bytes that a two-wire descriptor may read to RBUF (R97, R98). -/
def twReadLen (d0 d1 : Word) : Nat :=
  match twType d0 with
  | 3 => 1
  | 5 | 7 | 9 | 11 => field d1.toNat 15 8
  | 8 => 2
  | _ => 0

/-- Whether a buffer at a scratch word offset lies within scratch (R98). -/
def bufOk (word len : Nat) : Bool := word * 4 + len ≤ 1024

/-- Whether a two-wire descriptor passes R98. -/
def twOk (d0 d1 : Word) : Bool :=
  let t := twType d0
  t ≤ 11 && !bitOf d0.toNat 7 && field d0.toNat 31 24 == 0
    && (!(t == 4 || t == 10) || 1 ≤ field d1.toNat 7 0) && (!(t == 5 || t == 11) || 1 ≤ field d1.toNat 15 8)
    && (twWriteLen d0 d1 == 0 || bufOk (field d1.toNat 23 16) (twWriteLen d0 d1))
    && (twReadLen d0 d1 == 0 || bufOk (field d1.toNat 31 24) (twReadLen d0 d1))

/-- LEN of an SPI descriptor: 0 means 256 (R163). -/
def spiLen (d0 : Word) : Nat := if field d0.toNat 7 0 = 0 then 256 else field d0.toNat 7 0

/-- Whether an SPI descriptor passes R163. -/
def spiOk (d0 d1 : Word) : Bool :=
  field d0.toNat 31 9 == 0 && field d1.toNat 31 16 == 0 && bufOk (field d1.toNat 7 0) (spiLen d0)
    && (!bitOf d0.toNat 8 || bufOk (field d1.toNat 15 8) (spiLen d0))

/-- Whether a UART descriptor passes R164. -/
def uartOk (d0 d1 : Word) : Bool :=
  let tx := field d0.toNat 8 0
  let rx := field d0.toNat 17 9
  field d0.toNat 31 18 == 0 && field d1.toNat 31 16 == 0 && tx ≤ 256 && rx ≤ 256
    && (tx == 0 || bufOk (field d1.toNat 7 0) tx) && (rx == 0 || bufOk (field d1.toNat 15 8) rx)

/-! ### Two-wire transfers (R99 to R112) -/

/-- The key of a latched edge: the pin and its polarity (R102). -/
def edgeKey (pin : Nat) (rising : Bool) : Nat := pin * 2 + b2n rising

/-- The edge that a descriptor with DRDY waits for (R98). -/
def drdyKey (d0 : Word) : Nat := edgeKey (2 + b2n (bitOf d0.toNat 22)) (bitOf d0.toNat 23)

/-- The default of a two-wire timing value in 5 ns units, by bus class and row of R105. -/
def twDefault (cls k : Nat) : Nat :=
  let t := match cls with
    | 0 => [1040, 960, 940, 800, 800, 50, 60]
    | 1 => [300, 180, 120, 120, 120, 20, 60]
    | _ => [112, 68, 52, 52, 52, 10, 20]
  nth 0 t k

/-- A two-wire timing value as committed: T_LOW, T_HIGH, T_SU_STA, T_HD_STA, T_SU_STO, T_SU_DAT, T_HD_DAT (R105). -/
def twTime (s : State) (n k : Nat) : Nat :=
  let none_ := if k < 5 then 0xFFFF else 0xFF
  let v := cfg s (portIdx n 4) (2 + k) none_
  if v = none_ then twDefault (cfg s (portIdx n 4) 1 1) k else v

/-- Whether the bus of a port is free (R103): no START of another controller is without its STOP, and both lines have read high for
T_LOW, in ticks of 4 ns, since their last edges and since the port entered TWO_WIRE mode. -/
def busFree (s : State) (n : Nat) : Bool :=
  let t := (twTime s n 0 * 5 + 3) / 4
  !(s.portAt n).busBusy && pinSteady s n 0 true t && pinSteady s n 1 true t && decide ((s.portAt n).modeAt + t ≤ s.ticks)

/-- The bytes that the controller puts on the bus before any PEC, those of an acknowledged transfer (R97). -/
def twPlain (d0 : Word) (wd : List Byte) : List Byte :=
  let aw : Byte := BitVec.ofNat 8 (2 * field d0.toNat 6 0)
  let ar : Byte := BitVec.ofNat 8 (2 * field d0.toNat 6 0 + 1)
  let cmd : Byte := BitVec.ofNat 8 (field d0.toNat 15 8)
  let len : Byte := BitVec.ofNat 8 wd.length
  match twType d0 with
  | 0 => [aw]
  | 1 | 3 | 11 => [ar]
  | 2 => [aw, cmd]
  | 4 => [aw, cmd] ++ wd
  | 5 | 7 => [aw, cmd, ar]
  | 6 => [aw, cmd, len] ++ wd
  | 8 => [aw, cmd] ++ wd ++ [ar]
  | 9 => [aw, cmd, len] ++ wd ++ [ar]
  | _ => aw :: wd

/-- The bytes on the bus that PEC covers: those sent, then those received (R97, R100). -/
def twBusBytes (d0 : Word) (wd rx : List Byte) : List Byte := twPlain d0 wd ++ rx

/-- The bytes that the controller sends: a write with the PEC bit ends with the PEC byte (R97, R100). -/
def twSends (d0 : Word) (wd : List Byte) : List Byte :=
  let t := twType d0
  if bitOf d0.toNat 20 && (t == 2 || t == 4 || t == 6 || t == 10) then twPlain d0 wd ++ [BitVec.ofNat 8 (crc8 (twPlain d0 wd))]
  else twPlain d0 wd

/-- Whether byte k of those sent, from 1, is an address: the first, or that of the repeated START, which is the last (R97). -/
def twAddress (d0 : Word) (wd : List Byte) (k : Nat) : Bool :=
  let t := twType d0
  k == 1 || ((t == 5 || t == 7 || t == 8 || t == 9) && k == (twPlain d0 wd).length)

/-- TW_START (R97, R102, R103): the transfer at the head of the queue finds the bus free and its data-ready edge present, and sends
START. It is stamped by that edge, or by the START. The bytes to write are read from WBUF once, at START, and a retry after a
lost arbitration keeps the edge of the first attempt (DEDUCED, log entry 17). -/
def execTwStart (n bins : Nat) (s : State) : Result State :=
  withPort s n (
    let x := s.portAt n
    let d := portDie n
    match headSlot s n 2 with
    | none => s
    | some k =>
      let y := (s.dieAt d).slotAt k
      let drdy := bitOf y.d0.toNat 21 && !y.edgeTaken
      let edge := (x.edgeLatch.find? (fun e => e.1 == drdyKey y.d0)).map (·.2)
      let wd := Memory.readBytes (s.engAt y.engine).scratch (field y.d1.toNat 23 16 * 4) (twWriteLen y.d0 y.d1)
      given (portReady s n && x.mode == 1 && y.kind == 0 && (!drdy || edge.isSome) && busFree s n) s (
        let st := if drdy then edge.getD 0 else if y.edgeTaken then y.stamp else captureAt s n 1 bins
        (s.modPort n (fun z => { z with
          uartIdle := false, arbLosses := min 3 y.retries, cause := 0, twSent := twSends y.d0 wd
          edgeLatch := if drdy then tdel z.edgeLatch (drdyKey y.d0) else z.edgeLatch })).modSlot d k
          (fun z => { z with
            state := 3, stamped := true, stamp := st, edgeTaken := z.edgeTaken || drdy, wdata := wd })))

/-- ARBITRATION_LOST (R104): the lines are released; the whole transfer is retried, or completes ARBLOST. -/
def execArbitrationLost (n : Nat) (s : State) : Result State :=
  withPort s n (
    let d := portDie n
    match activeOp s n 0 with
    | none => s
    | some k =>
      let y := (s.dieAt d).slotAt k
      let s1 := s.modPort n (fun z => { z with busBusy := true, arbLosses := min 3 (y.retries + 1) })
      if y.aborted then s
      else if y.retries < cfg s (portIdx n 4) 9 3 then
        s1.modSlot d k (fun z => { z with state := 2, stamped := z.edgeTaken, retries := z.retries + 1 })
      else completeOp (s1.modPort n (fun z => { z with cause := 5 })) d k 3 (s.portAt n).twCount)

/-- Whether a two-wire transfer reads a count byte first (R97). -/
def twCounted (t : Nat) : Bool := t == 7 || t == 9

/-- Whether a transfer has a read phase. -/
def twReads (t : Nat) : Bool := t == 3 || t == 5 || t == 7 || t == 8 || t == 9 || t == 11

/-- Whether the bytes received fit the transfer (R97, R99). -/
def twRxOk (d0 d1 : Word) (rx : List Byte) : Bool :=
  if twCounted (twType d0) then
    match rx with
    | [] => false
    | c :: t => if twReadLen d0 d1 < c.toNat then t.isEmpty else t.length == c.toNat
  else rx.length == twReadLen d0 d1

/-- The status and CAUSE of a two-wire transfer (R99 to R101): byte `nak` of those sent, from 1, was not acknowledged, or all were
with `nak` 0. -/
def twJudge (d0 d1 : Word) (wd rx : List Byte) (pec : Byte) (nak : Nat) : Nat × Nat :=
  let t := twType d0
  if nak ≠ 0 then (1, if twAddress d0 wd nak then 1 else 2)
  else if twCounted t && twReadLen d0 d1 < ((rx.head?.map (·.toNat)).getD 0) then (2, 4)
  else if bitOf d0.toNat 20 && twReads t && crc8 (twBusBytes d0 wd rx) != pec.toNat then (2, 3)
  else (0, 0)

/-- TW_TRANSFER_DONE (R99 to R101): the transfer ends with STOP. `nak` is the place, from 1, of the sent byte that was not
acknowledged, at which the transfer ended, or 0; `rx` the bytes received, the count byte first in a counted read; `pec` the PEC
byte received; `rise` the last release-to-high time in ns. -/
def execTwTransferDone (n nak : Nat) (rx : List Byte) (pec : Byte) (rise : Nat) (s : State) : Result State :=
  withPort s n (
    let d := portDie n
    match activeOp s n 0 with
    | none => s
    | some k =>
      let y := (s.dieAt d).slotAt k
      let t := twType y.d0
      given (!y.aborted && decide (nak ≤ (twSends y.d0 y.wdata).length) && (nak != 0 || twRxOk y.d0 y.d1 rx)) s (
        let j := twJudge y.d0 y.d1 y.wdata rx pec nak
        let data := if twCounted t then rx.drop 1 else rx
        let cnt := if nak = 0 ∧ twReads t = true then
            (if twCounted t then ((rx.head?.map (·.toNat)).getD 0) else rx.length) else (s.portAt n).twCount
        let s1 := s.modPort n (fun z => { z with
          twCount := cnt, cause := j.2, sclRise := min 255 (rise / 10)
          twSent := if nak = 0 then z.twSent else z.twSent.take nak
          pecRx := if nak = 0 ∧ j.2 ≠ 4 ∧ bitOf y.d0.toNat 20 = true ∧ twReads t = true then pec.toNat else z.pecRx })
        let s2 := if j.1 = 0 then resultBytes s1 d k (field y.d1.toNat 31 24 * 4) data else s1
        completeOp s2 d k j.1 cnt))

/-- Whether the budget of the context that issued an operation has run out by now (R190). -/
def budgetOver (s : State) (y : Slot) : Bool :=
  !y.orphan && decide (((s.engAt y.engine).ctxAt y.ctx).budgetEnd ≤ s.ticks)

/-- BUS_TIMEOUT (R110, R111): a line has been low beyond its timeout. A transfer in flight completes BUSTIMEOUT and the
recovery sequence starts; where its budget runs out at the same instant it ends by BUDGET with that recovery. Nothing fires in
quarantine (R112), and during recovery only the flag is set. -/
def execBusTimeout (n : Nat) (sda : Bool) (s : State) : Result State :=
  withPort s n (
    let d := portDie n
    let x := s.portAt n
    let limit := msTicks (if sda then cfg s (portIdx n 4) 0xB 25 else cfg s (portIdx n 4) 0xA 25)
    given (x.mode == 1 && domainOn s n && !x.inQuarantine && pinSteady s n (b2n sda) false limit) s (
      let s1 := s.modPort n (fun z => { z with sclTo := z.sclTo || !sda, sdaTo := z.sdaTo || sda })
      if x.recovering then s1
      else match activeOp s n 0 with
        | none => s1.modPort n (fun z => { z with recovering := true, recSlot := none })
        | some k =>
          if budgetOver s ((s.dieAt d).slotAt k) then abortOp s1 d k 12 true
          else (completeOp (s1.modPort n (fun z => { z with cause := if sda then 7 else 6 })) d k 13 x.twCount).modPort n
            (fun z => { z with recovering := true, recSlot := none })))

/-- BUS_RECOVERY_DONE (R109, R112): FREE resumes the port, STUCK places it in quarantine; an operation that its budget ended
completes now. -/
def execBusRecoveryDone (n : Nat) (isFree : Bool) (s : State) : Result State :=
  withPort s n (
    let x := s.portAt n
    given x.recovering s (
      if x.holds 1 then recoveryProbeEnd s n isFree
      else
        let s1 := s.modPort n (fun z => { z with
          recovering := false, recSlot := none, recoveries := satInc 65535 z.recoveries })
        let s2 := match x.recSlot with
          | none => s1
          | some k => let y := (s.dieAt (portDie n)).slotAt k
            completeOp s1 (portDie n) k y.status (idleCount s y)
        if isFree then s2 else quarantineAdd s2 n 1))

/-! ### SPI and UART (R82, R83, R163, R164) -/

/-- SPI_TRANSFER_DONE (R163): the received bytes go to RBUF when RX is set. -/
def execSpiTransferDone (n : Nat) (rx : List Byte) (s : State) : Result State :=
  withPort s n (
    let d := portDie n
    match activeOp s n 1 with
    | none => s
    | some k =>
      let y := (s.dieAt d).slotAt k
      given (rx.length == spiLen y.d0) s (
        let s1 := if bitOf y.d0.toNat 8 then resultBytes s d k (field y.d1.toNat 15 8 * 4) rx else s
        completeOp s1 d k 0 rx.length))

/-- UART_IDLE_GAP (R83): IDLE_BITS bit times without a byte end the reception. -/
def execUartIdleGap (n : Nat) (s : State) : Result State :=
  withPort s n (given (activeOp s n 2).isSome s (s.modPort n (fun x => { x with uartIdle := true })))

/-- Whether a UART reception ends at the end byte (R83). -/
def uartStops (x : Port) (b : Byte) : Bool := x.endEn && b == BitVec.ofNat 8 x.endByte

/-- Whether a UART reception has ended at the last of these bytes: by count, idle gap, end byte or an error (R83). No byte before
the last may have been an end byte, which had ended it there. -/
def uartEnded (x : Port) (rxMax : Nat) (rx : List Byte) (err : Nat) : Bool :=
  (rx.take (min rxMax rx.length - 1)).all (fun b => !uartStops x b)
    && (err != 0 || rxMax ≤ rx.length || x.uartIdle || rx.getLast?.any (uartStops x))

/-- UART_TRANSFER_DONE (R83, R164): `err` is 0, 4 FRAMING, 5 PARITY or 7 BREAK; bytes beyond the buffer complete OVERRUN. A
block that only receives is stamped by the start bit of its first byte, `lag` ticks ago (R57). -/
def execUartTransferDone (n : Nat) (rx : List Byte) (err lag bins : Nat) (s : State) : Result State :=
  withPort s n (
    let d := portDie n
    match activeOp s n 2 with
    | none => s
    | some k =>
      let y := (s.dieAt d).slotAt k
      let rxMax := field y.d0.toNat 17 9
      given (uartEnded (s.portAt n) rxMax rx err && (err == 0 || err == 4 || err == 5 || err == 7)) s (
        let st := if err != 0 then err else if rxMax < rx.length then 6 else 0
        let got := rx.take rxMax
        let s1 := if st = 0 then resultBytes s d k (field y.d1.toNat 15 8 * 4) got else s
        let s2 := if field y.d0.toNat 8 0 = 0 ∧ rx ≠ [] then
            s1.modSlot d k (fun z => { z with stamped := true, stamp := captureBack s n 1 lag bins }) else s1
        completeOp (s2.modPort n (fun z => { z with uartIdle := false })) d k st got.length))

end Sys2Proof.Machine
end

