-- ==== Sys2Proof/Machine/Analogue.lean ====
section
/-! DEFINITION. The analogue front end: conversions with auto-ranging, code bursts and single-slope conversions, comparators
with their trip and latched paths, and the pulse generators (chapter 5); and the start of a port operation (R162). -/

namespace Sys2Proof.Machine

/-! ### Settings (R131, R357) -/

/-- The index of the front-end objects of a port. -/
def afeIdx (n : Nat) : Nat := portIdx n 8

/-- Whether a port works as a transimpedance amplifier. -/
def tiaOn (s : State) (n : Nat) : Bool := cfg s (afeIdx n) 1 0 == 1

/-- The default range limit: 11 in TIA, else 6 (R131). -/
def topRange (s : State) (n : Nat) : Nat := if tiaOn s n then 11 else 6

/-- Whether auto-ranging is on. -/
def arOn (s : State) (n : Nat) : Bool := cfg s (afeIdx n) 3 0 == 1

/-- The key of an input among a port's ranges: INPUT, or 3 for TIA. -/
def inputKey (s : State) (n input : Nat) : Nat := if tiaOn s n then 3 else input

/-- The range in force for an input: RANGE_FIX without auto-ranging and until the first change (R128, R131). -/
def rangeOf (s : State) (n inp : Nat) : Nat :=
  let fix := cfg s (afeIdx n) 4 (topRange s n)
  let r := tget 0 (s.portAt n).range inp
  if arOn s n && r != 0 then r - 1 else fix

/-! ### Analogue descriptors (R125, R126, R147) -/

/-- KIND of an analogue descriptor. -/
def anaKind (d0 : Word) : Nat := field d0.toNat 3 2
/-- INPUT of an analogue descriptor. -/
def anaInput (d0 : Word) : Nat := field d0.toNat 1 0
/-- COUNT of an analogue descriptor: 0 means 256. -/
def anaCount (d0 : Word) : Nat := if field d0.toNat 15 8 = 0 then 256 else field d0.toNat 15 8
/-- INTERVAL of an analogue descriptor. -/
def anaInterval (d0 : Word) : Nat := field d0.toNat 31 16
/-- SPC of an analogue descriptor. -/
def anaSpc (d1 : Word) : Nat := field d1.toNat 10 9

/-- Whether CODE holds exactly 8 ones, the first chip on (R147). -/
def codeOk (code : Nat) : Bool := (bitList 16 code).length == 8 && bitOf code 0

/-- Words that an analogue operation writes, without the two of LASTSTAMP (R127, R138, R148). -/
def anaWords (d0 d1 : Word) : Nat :=
  match anaKind d0 with
  | 0 => anaCount d0
  | 1 => if bitOf d1.toNat 8 then 16 * (anaSpc d1 + 1) else 2
  | _ => 1

/-- Whether an analogue descriptor passes R126 on a port. -/
def anaOk (s : State) (n : Nat) (d0 d1 : Word) : Bool :=
  let a := d0.toNat
  let b := d1.toNat
  let iv := anaInterval d0
  let last := bitOf a 4
  let words := anaWords d0 d1 + (if last then 2 else 0)
  let common := anaInput d0 ≤ 2 && field a 7 5 == 0 && field b 15 11 == 0 && (!tiaOn s n || anaInput d0 == 0)
    && bufOk (field b 7 0) (4 * words)
  common && match anaKind d0 with
    | 0 => 32 ≤ iv && (!last || anaCount d0 != 1) && field b 31 8 == 0
    | 1 =>
      let w := (s.portAt n).emWidth
      !last && field a 15 8 == 0 && 16 ≤ iv && iv ≤ 32767 && cfg s (portIdx n 2) 1 0 == 1 && codeOk (field b 31 16)
        && anaSpc d1 + 1 ≤ w && iv + anaSpc d1 * 32 < w * 32
    | 2 => !last && field a 15 8 == 0 && iv == 0 && field b 31 8 == 0 && cfg s (portIdx n 9) 2 0 == 1
    | _ => false

/-! ### The start of an operation (R162, R193) -/

/-- The bytes that an operation sends from scratch. -/
def sendBytes (s : State) (x : Slot) : List Byte :=
  let m := (s.engAt x.engine).scratch
  match x.kind with
  | 1 => Memory.readBytes m (field x.d1.toNat 7 0 * 4) (spiLen x.d0)
  | 2 => Memory.readBytes m (field x.d1.toNat 7 0 * 4) (field x.d0.toNat 8 0)
  | _ => []

/-- Whether the mode of a port fits an operation's kind (R162). -/
def modeFits (s : State) (n kind : Nat) : Bool :=
  match kind with
  | 0 => (s.portAt n).mode == 1
  | 1 => (s.portAt n).mode == 2
  | 2 => (s.portAt n).mode == 3
  | 3 => (s.portAt n).mode == 4
  | _ => cfg s (portIdx n 2) 1 0 == 1

/-- PORT_OPERATION_START (R57, R162): the operation at the head of a port's queue finds its conditions met and reaches the
pins, converter or emitter. A two-wire transfer starts by TW_START. -/
def execPortOperationStart (n bins : Nat) (s : State) : Result State :=
  withPort s n (
    let d := portDie n
    let x := s.portAt n
    match headSlot s n 2 with
    | none => s
    | some k =>
      let y := (s.dieAt d).slotAt k
      let run (stamped : Bool) (point : Nat) (s : State) : State := s.modSlot d k (fun z => { z with
        state := 3, stamped := stamped, stamp := if stamped then captureAt s n point bins else z.stamp
        wdata := sendBytes s y })
      let chain := !x.calOffline && !x.settling
      given (portReady s n && modeFits s n y.kind) s (
        match y.kind with
        | 1 => run true 3 s
        | 2 => run (field y.d0.toNat 8 0 != 0) 0 (s.modPort n (fun z => { z with uartIdle := false }))
        | 3 => match anaKind y.d0 with
          | 0 => if chain then run true 5 (s.modPort n (fun z => { z with samples := [], stepped := false, patchNext := false }))
                 else s
          | 1 => if chain then emitterRequest (s.modPort n (fun z => { z with
                   samples := [], stepped := false, patchNext := false })) n k bins else s
          | _ => run false 6 (s.modPort n (fun z => { z with
              rampRestarts := z.rampRestarts + 1, rampAt := s.ticks, rampEdge := none }))
        | 4 => emitterRequest s n k bins
        | _ => s))

/-! ### Conversions and auto-ranging (R122 to R131) -/

/-- The rescaled value of a raw code at a range: less the trimmed offset (item 1, in 2^-8 raw LSB), times 2^r and the trimmed
gain ratio of the range (item 3, its deviation from 2^r in units of 2^-24), rounded to the nearest unit (R123, R427). -/
def sampleValue (x : Port) (r : Nat) (raw : Int) : Int :=
  roundDiv ((raw * 256 - tget 0 x.trim 1) * (2 ^ r : Nat) * (2 ^ 24 + tget 0 x.trim (0x30 + r))) (2 ^ 32)

/-- A sample word: VALUE with its flags in bits 27 to 31 (R123). -/
def sampleWord (value : Int) (clip range patched unsettled chipOn : Bool) : Word :=
  BitVec.ofNat 32 (ofInt 27 value + b2n clip * 2 ^ 27 + b2n range * 2 ^ 28 + b2n patched * 2 ^ 29 + b2n unsettled * 2 ^ 30
    + b2n chipOn * 2 ^ 31)

/-- VALUE of a sample word, signed. -/
def wordValue (w : Word) : Int := sgn 27 w.toNat

/-- The value of a conversion; outside the input limits, or outside 27 bits, it is a free value (R121, log entry 7). -/
def convert (s : State) (n r : Nat) (raw : Int) (outside : Bool) : Int × State :=
  let v := sampleValue (s.portAt n) r raw
  if outside || v < -(2 ^ 26) || 2 ^ 26 ≤ v then
    let q := s.draw 27
    (sgn 27 q.1, q.2)
  else (v, s)

/-- The next range and hold count after a settled raw code at range r (R128). -/
def arJudge (s : State) (n r hold : Nat) (raw : Int) (clip : Bool) : Nat × Nat :=
  let i := afeIdx n
  let hi := cfg s i 6 (topRange s n)
  if clip then (hi, 0)
  else if cfg s i 7 29491 ≤ raw.natAbs then (min (r + 1) hi, 0)
  else if raw.natAbs < cfg s i 8 6553 then
    if cfg s i 9 8 ≤ hold + 1 then (max (r - 1) (cfg s i 5 0), 0) else (r, hold + 1)
  else (r, 0)

/-- The range rules applied to a settled raw code of an input: a change switches the gain path at once and starts its settling
(R128). -/
def applyRange (s : State) (n inp : Nat) (raw : Int) (clip : Bool) : State :=
  if arOn s n then
    let r := rangeOf s n inp
    let j := arJudge s n r (tget 0 (s.portAt n).holdCnt inp) raw clip
    if j.1 = r then s.modPort n (fun x => { x with holdCnt := tput x.holdCnt inp j.2 })
    else s.modPort n (fun x => { x with
      range := tput x.range inp (j.1 + 1), holdCnt := tput x.holdCnt inp 0, newRange := tput x.newRange inp true
      stepped := true, settling := true, rangeChanges := x.rangeChanges + 1 })
  else s

/-- The PATCHED word between samples n and n + 2 (R129): the mean rounded toward zero, with CLIP of either. -/
def patchedWord (before after : Word) : Word :=
  sampleWord (Int.tdiv (wordValue before + wordValue after) 2) (before.getLsbD 27 || after.getLsbD 27) false true false false

/-- The samples with the last one, which waits for its patch, interpolated (R129). -/
def patchLast (l : List Sample) (after : Word) : List Sample :=
  match l.reverse with
  | p :: b :: t => ({ p with word := patchedWord b.word after } :: b :: t).reverse
  | [p] => [{ p with word := patchedWord after after }]
  | [] => []

/-- Whether the conversion that is ready is the extra one, which is not delivered (R129). -/
def extraSample (x : Port) (d0 : Word) : Bool := x.patchNext && decide (anaCount d0 ≤ x.samples.length)

/-- The extra conversion of an operation whose last sample is patched: it serves the interpolation alone, so it moves no range and
takes no RANGE flag (R129). -/
def convExtra (s : State) (n : Nat) (d0 : Word) (raw : Int) (outside : Bool) : State :=
  let q := convert s n (rangeOf s n (inputKey s n (anaInput d0))) raw outside
  let w := sampleWord q.1 (outside || raw == 32767 || raw == -32768) false false false false
  q.2.modPort n (fun y => { y with samples := patchLast y.samples w, patchNext := false, stepped := false })

/-- A KIND 0 conversion (R127 to R129). -/
def convSample (s : State) (n : Nat) (d0 : Word) (raw : Int) (outside : Bool) : State :=
  let x := s.portAt n
  let inp := inputKey s n (anaInput d0)
  let clip := outside || raw == 32767 || raw == -32768
  let q := convert s n (rangeOf s n inp) raw outside
  if x.stepped && anaInterval d0 < 48 then
    let patch := cfg s (afeIdx n) 0xA 1 == 1
    let w := if patch then sampleWord 0 false false true false false else sampleWord q.1 clip true false true false
    q.2.modPort n (fun y => { y with
      samples := y.samples ++ [{ word := w, raw := raw, unsettled := true }], stepped := false, patchNext := patch
      newRange := if patch then y.newRange else tput y.newRange inp false })
  else
    let w := sampleWord q.1 clip (tget false x.newRange inp) false false false
    let s1 := q.2.modPort n (fun y => { y with
      samples := (if y.patchNext then patchLast y.samples w else y.samples) ++ [{ word := w, raw := raw }]
      patchNext := false, stepped := false, newRange := tput y.newRange inp false })
    applyRange s1 n inp raw clip

/-- A sample of a code burst, at the range that stays fixed for the burst (R147, R148). -/
def burstSample (s : State) (n : Nat) (d0 d1 : Word) (raw : Int) (outside : Bool) : State :=
  let x := s.portAt n
  let inp := inputKey s n (anaInput d0)
  let clip := outside || raw == 32767 || raw == -32768
  let q := convert s n (rangeOf s n inp) raw outside
  let chip := x.samples.length / (anaSpc d1 + 1)
  let w := sampleWord q.1 clip (tget false x.newRange inp) false false (bitOf d1.toNat (16 + chip))
  q.2.modPort n (fun y => { y with
    samples := y.samples ++ [{ word := w, raw := raw }], newRange := tput y.newRange inp false })

/-- ADC_CONVERSION_DONE (R121 to R129): the raw code of a hold made `lag` ticks ago is ready; `outside` says that the input lay
outside its limits at the hold. -/
def execAdcConversionDone (n : Nat) (raw : Int) (outside : Bool) (lag bins : Nat) (s : State) : Result State :=
  if raw < -32768 ∨ 32767 < raw then .fault (.noSuchOperand "raw code")
  else withPort s n (
    match activeOp s n 3 with
    | none => s
    | some k =>
      let y := (s.dieAt (portDie n)).slotAt k
      let len := (s.portAt n).samples.length
      let s1 := s.modPort n (fun z => { z with lastHold := captureBack s n 5 lag bins, convInput := anaInput y.d0 })
      match anaKind y.d0 with
      | 0 =>
        if extraSample (s.portAt n) y.d0 then convExtra s n y.d0 raw outside
        else given (decide (len < anaCount y.d0)) s (convSample s1 n y.d0 raw outside)
      | 1 => given (decide (len < 16 * (anaSpc y.d1 + 1))) s (burstSample s1 n y.d0 y.d1 raw outside)
      | _ => s)

/-- RANGE_SETTLED (R128): the gain path has settled. -/
def execRangeSettled (n : Nat) (s : State) : Result State :=
  withPort s n (s.modPort n (fun x => { x with settling := false }))

/-- The flags that delivered sample words put on an operation (R130). -/
def markSamples (s : State) (d k : Nat) (ws : List Word) : State :=
  s.modSlot d k (fun z => { z with
    patched := z.patched || ws.any (fun w => w.getLsbD 29)
    rangeF := z.rangeF || ws.any (fun w => w.getLsbD 28 || w.getLsbD 30) })

/-- ANA_OPERATION_DONE (R127): a KIND 0 operation has its samples and writes them, with the stamp of the last hold under
LASTSTAMP. -/
def execAnaOperationDone (n : Nat) (s : State) : Result State :=
  withPort s n (
    let d := portDie n
    let x := s.portAt n
    match activeOp s n 3 with
    | none => s
    | some k =>
      let y := (s.dieAt d).slotAt k
      given (anaKind y.d0 == 0 && x.samples.length == anaCount y.d0 && !x.patchNext) s (
        let ws := x.samples.map (·.word)
        let last := if bitOf y.d0.toNat 4 then
            [x.lastHold.extractLsb' 0 32, (x.lastHold.extractLsb' 32 20).zeroExtend 32] else []
        let s1 := resultBytes (markSamples s d k ws) d k (field y.d1.toNat 7 0 * 4) (wordsBytes (ws ++ last))
        completeOp s1 d k 0 ws.length))

/-- The sum of VALUE over the samples of on, or of off, chips (R148). -/
def chipSum (l : List Sample) (on : Bool) : Int :=
  l.foldl (fun a x => if x.word.getLsbD 31 == on then a + wordValue x.word else a) 0

/-- A correlated result as a sample word; a difference outside 27 bits is a free value (log entry 7). -/
def burstWord (s : State) (v : Int) (clip range : Bool) : Word × State :=
  if v < -(2 ^ 26) ∨ 2 ^ 26 ≤ v then
    let q := s.draw 27
    (sampleWord (sgn 27 q.1) clip range false false false, q.2)
  else (sampleWord v clip range false false false, s)

/-- CODE_BURST_DONE (R78, R148): the governor slot is released, the results are written unless the emitter failed, and the
range rules are applied once with the largest raw code. -/
def execCodeBurstDone (n : Nat) (isOpen noreg : Bool) (s : State) : Result State :=
  withPort s n (
    let d := portDie n
    let x := s.portAt n
    match activeOp s n 3 with
    | none => s
    | some k =>
      let y := (s.dieAt d).slotAt k
      let spc := anaSpc y.d1 + 1
      given (anaKind y.d0 == 1 && x.samples.length == 16 * spc) s (
        let inp := inputKey s n (anaInput y.d0)
        let clip := x.samples.any (fun z => z.word.getLsbD 27)
        let range := x.samples.any (fun z => z.word.getLsbD 28)
        let on := Int.tdiv (chipSum x.samples true) (8 * spc : Nat)
        let off := Int.tdiv (chipSum x.samples false) (8 * spc : Nat)
        let w0 := burstWord s (on - off) clip range
        let w1 := burstWord w0.2 off clip range
        let raw := bitOf y.d1.toNat 8
        let ws := if raw then x.samples.map (·.word) else [w0.1, w1.1]
        let s0 := if raw then s else w1.2
        let big := x.samples.foldl (fun a z => if a.natAbs < z.raw.natAbs then z.raw else a) (0 : Int)
        let s1 := emitterStop (s0.modPort n (fun z => { z with emOpen := isOpen, emNoreg := noreg })) n
        let s2 := (applyRange s1 n inp big clip).modPort n (fun z => { z with stepped := false })
        if isOpen || noreg then completeOp s2 d k 10 0
        else completeOp (resultBytes (markSamples s2 d k ws) d k (field y.d1.toNat 7 0 * 4) (wordsBytes ws)) d k 0 ws.length))

/-! ### Comparators (R132 to R141) -/

/-- The index of a trip signal's objects: 0 C0, 1 C1, 2 WIN. -/
def tripIdx (n j : Nat) : Nat := portIdx n (9 + j)

/-- The time in ticks for which a trip must have been present to pass TRIP_FILT: 80 % of its filter time, below which the filter
removes it (R141). -/
def filterTicks (f : Nat) : Nat := nth 0 [0, 5, 10, 20, 50, 100, 200, 400] f

/-- A trip signal with a new output: gated, and filtered at once without a filter; the end of a trip is never delayed
(R141). -/
def driveComp (s : State) (n j : Nat) (tripped : Bool) (stamp : Stamp) (c : Comp) : Comp :=
  let g := tripped && gateOpen s n j
  let raw := cfg s (tripIdx n j) 0xD 0 == 0
  { c with out := tripped, edge := if tripped && !c.out then stamp else c.edge, since := if tripped && !c.out then s.ticks else c.since
           gated := g, filtered := g && (raw || (c.out && c.filtered)), passedAt := if g && raw then s.ticks else c.passedAt }

/-- Whether the window is tripped, from the outputs of C0 and C1 (R134). -/
def windowOut (s : State) (n : Nat) (x : Port) : Bool :=
  let above0 := x.c0.out == (cfg s (tripIdx n 0) 4 0 == 0)
  let above1 := x.c1.out == (cfg s (tripIdx n 1) 4 0 == 0)
  match cfg s (tripIdx n 2) 0xF 0 with
  | 1 => above0 && !above1
  | 2 => !above0 || above1
  | _ => false

/-- The window follows the outputs of C0 and C1, and WIN_MODE (R134). -/
def windowFollows (s : State) (n : Nat) (st : Stamp) : State :=
  let w := windowOut s n (s.portAt n)
  if w = (s.portAt n).win.out then s else s.modPort n (fun x => { x with win := driveComp s n 2 w st x.win })

/-- Whether a single-slope conversion of a port runs. -/
def slopeRuns (s : State) (n : Nat) : Bool :=
  (activeOp s n 3).any (fun k => anaKind ((s.dieAt (portDie n)).slotAt k).d0 == 2)

/-- The first edge of C0 while a single-slope conversion runs is kept with its time since the ramp's start, in 0.25 ns by the
capture interpolator (R138). -/
def slopeEdge (s : State) (n bins : Nat) (st : Stamp) : State :=
  if slopeRuns s n && (s.portAt n).rampEdge.isNone then
    s.modPort n (fun x => { x with rampEdge := some ((s.ticks - x.rampAt) * 16 + bins % 16), rampStamp := st })
  else s

/-- COMPARATOR_EDGE (R132, R134, R138, R141): comparator 0 or 1 changes state, at which its input pairs agree
anew (R135); the window follows, and the filtered trips reach
the safety outputs. -/
def execComparatorEdge (n j : Nat) (tripped : Bool) (bins : Nat) (s : State) : Result State :=
  if 1 < j then .fault (.noSuchOperand "comparator")
  else withPort s n (given ((s.portAt n).powered && !(s.portAt n).cmpOff && (portComp (s.portAt n) j).out != tripped) s (
    let st := captureAt s n (6 + j) bins
    let s1 := if j = 0 then slopeEdge s n bins st else s
    let s2 := s1.modPort n (fun x => setComp x j (driveComp s n j tripped st
      { portComp x j with agree := (portComp x j).agree.map (fun _ => s.ticks) }))
    soRefresh (windowFollows s2 n st)))

/-- Whether at least MAJ_N of the last MAJ_M samples are tripped (R139). -/
def majorityVote (s : State) (n j : Nat) (hist : List Bool) : Bool :=
  cfg s (tripIdx n j) 0xA 1 ≤ ((hist.take (cfg s (tripIdx n j) 9 1)).filter id).length

/-- The number of a trip signal as a sieve source (R226). -/
def compSource (n j : Nat) : Nat := (n % 12) * 4 + j

/-- MAJORITY_SAMPLE (R139, R140): the filter samples; a latch that is set counts, takes the last raw edge as its stamp and is
offered to the sieve. -/
def execMajoritySample (n j : Nat) (s : State) : Result State :=
  if 2 < j then .fault (.noSuchOperand "trip signal")
  else withPort s n (given (s.portAt n).powered s (
    let c := portComp (s.portAt n) j
    let h := (c.out :: c.hist).take 15
    if majorityVote s n j h && !c.latch then
      offerFrom (s.modPort n (fun x => setComp x j { c with
        hist := h, latch := true, sets := if c.sets = 255 then 255 else c.sets + 1, setStamp := c.edge }))
        (portDie n) 5 (compSource n j) 1 c.edge
    else s.modPort n (fun x => setComp x j { c with hist := h })))

/-- Whether a gated trip has been present without a break for its filter time (R141). -/
def filterDue (s : State) (n j : Nat) : Bool :=
  let c := portComp (s.portAt n) j
  c.out && (gateFrom s n j).any (fun t => decide (max t c.since + filterTicks (cfg s (tripIdx n j) 0xD 0) ≤ s.ticks))

/-- TRIP_FILTER_EXPIRY (R141): a trip has been present behind its open gate for its filter time and passes on. -/
def execTripFilterExpiry (n j : Nat) (s : State) : Result State :=
  if 2 < j then .fault (.noSuchOperand "trip signal")
  else withPort s n (given (filterDue s n j) s (
    soRefresh (s.modPort n (fun x => setComp x j { portComp x j with gated := true, filtered := true, passedAt := s.ticks }))))

/-- A clear of a latch: one that meets a vote still tripped leaves it set; a clear is offered to the sieve (R140, R216). -/
def clearLatch (s : State) (n j : Nat) : State :=
  let c := portComp (s.portAt n) j
  if c.latch && !majorityVote s n j c.hist then
    offerFrom (s.modPort n (fun x => setComp x j { c with latch := false })) (portDie n) 5 (compSource n j) 0 s.nowStamp
  else s

/-- Writes of 1 to latch bits. -/
def clearLatches (s : State) (n mask : Nat) : State :=
  (List.range 3).foldl (fun x j => if bitOf mask j then clearLatch x n j else x) s

/-- CMP_LATCH_CLEAR (R140). -/
def execCmpLatchClear (n mask : Nat) (s : State) : Result State :=
  .next (given (decide (n < usedDies s * 12)) (withStatus s 0x0101) (given (domainOn s n) s (clearLatches s n mask)))

/-- Whether the DAC of a comparator is locked: a trip signal it feeds has TRIP_SO (R136). -/
def dacLocked (s : State) (n j : Nat) : Bool := tripSo s n j || tripSo s n 2

/-- A write of CMP_DAC (R136, R149): each field of an unlocked DAC takes effect, one of a locked DAC is dropped and sets
WR_DROPPED; a 1 in bit 31 clears WR_DROPPED. -/
def writeCmpDac (s : State) (n v : Nat) : State :=
  s.modPort n (fun x => { x with
    dac0 := if dacLocked s n 0 then x.dac0 else field v 9 0
    dac1 := if dacLocked s n 1 then x.dac1 else field v 25 16
    wrDropped := (x.wrDropped && !bitOf v 31) || dacLocked s n 0 || dacLocked s n 1 })

/-- CMP_DAC_WRITE (R136). -/
def execCmpDacWrite (n : Nat) (value : Word) (s : State) : Result State :=
  withPort s n (given (domainOn s n && (s.portAt n).mode == 4) s (writeCmpDac s n value.toNat))

/-! ### Ramp and single-slope conversion (R137, R138) -/

/-- The level of a port's ramp, in units of 2 µV: RAMP_START in 5 mV, moved by RAMP_SLOPE in 0.5 mV/µs since its last restart, and
stopped at 0 V and at 5.115 V (R137). -/
def rampLevel (s : State) (n : Nat) : Int :=
  clampInt 0 2557500 ((cfg s (portIdx n 12) 1 0 * 2500 : Nat) + sgn 16 (cfg s (portIdx n 12) 2 0) * ((s.ticks - (s.portAt n).rampAt : Nat) : Int))

/-- The time from the start of a ramp to its end, in units of 0.25 ns, rounded up to a whole unit (DESIGN CHOICE, log entry 17); with
slope 0 the longest time that VALUE holds (R138). -/
def rampEndAt (s : State) (n : Nat) : Nat :=
  let start := 5 * cfg s (portIdx n 12) 1 0
  let slope := sgn 16 (cfg s (portIdx n 12) 2 0)
  if slope = 0 then 2 ^ 26 - 1
  else ((if 0 < slope then 5115 - start else start) * 8000 + slope.natAbs - 1) / slope.natAbs

/-- SINGLE_SLOPE_END (R138): the conversion ends at the first edge of C0 since its start, or, where none came before it, at the end of
the ramp or at the longest time, with CLIP. VALUE is the time since the ramp's start. The operands name VALUE and the end: the ramp's,
the longest time, or the edge; where they are not what the state gives, this is no event of the part (log entry 2). -/
def execSingleSlopeEnd (n elapsed : Nat) (rampEnd atMax : Bool) (s : State) : Result State :=
  withPort s n (
    let d := portDie n
    let x := s.portAt n
    match activeOp s n 3 with
    | none => s
    | some k =>
      let y := (s.dieAt d).slotAt k
      let last := rampEndAt s n
      let edge := x.rampEdge.filter (fun u => decide (u ≤ last))
      let ended := decide (last ≤ (s.ticks - x.rampAt) * 16)
      let still := sgn 16 (cfg s (portIdx n 12) 2 0) == 0
      given (anaKind y.d0 == 2 && (edge.isSome || ended) && edge.getD last == elapsed
          && rampEnd == (edge.isNone && !still) && atMax == (edge.isNone && still)) s (
        let w := sampleWord (elapsed : Nat) edge.isNone false false false false
        let st := if edge.isSome then x.rampStamp else captureBack s n 6 (s.ticks - x.rampAt - last / 16) (last % 16)
        let s1 := s.modSlot d k (fun z => { z with stamped := true, stamp := st })
        completeOp (resultBytes s1 d k (field y.d1.toNat 7 0 * 4) (wordsBytes [w])) d k 0 1))

/-! ### Pulse generators (R145, R146) -/

/-- The index of a generator's objects. -/
def pgIdx (n g : Nat) : Nat := portIdx n (13 + g)
/-- Generator g of a port. -/
def portPg (x : Port) (g : Nat) : PulseGen := if g = 0 then x.pg0 else x.pg1
/-- A port with a generator changed. -/
def setPg (x : Port) (g : Nat) (p : PulseGen) : Port := if g = 0 then { x with pg0 := p } else { x with pg1 := p }
/-- PG_MODE of a generator. -/
def pgMode (s : State) (n g : Nat) : Nat := cfg s (pgIdx n g) 1 0

/-- Whether the trip that TRIP_SRC names is present. -/
def pgTripped (s : State) (n g : Nat) : Bool :=
  let src := cfg s (pgIdx n g) 6 0
  1 ≤ src && src ≤ 3 && tripPasses s n (src - 1)

/-- TRIP_ACT in force: 0 IGNORE, 1 TRUNCATE, which PEAK always uses, 2 SHUTDOWN (R146). -/
def pgAct (s : State) (n g : Nat) : Nat := if pgMode s n g = 4 then 1 else cfg s (pgIdx n g) 7 0

/-- The effect of a command on one generator of a port. -/
def withPg (s : State) (n g : Nat) (t : State) : Result State :=
  if 1 < g then .fault (.noSuchOperand "pulse generator") else withPort s n t

/-- A start of a generator; ignored while it runs (R145). -/
def pgStart (s : State) (n g : Nat) : State :=
  let p := portPg (s.portAt n) g
  given (domainOn s n && (s.portAt n).mode == 4 && pgMode s n g != 0 && !p.run && !padsHeld s n) s
    (s.modPort n (fun x => setPg x g { p with run := true, done := 0, stopping := false, periodAt := none }))

/-- A stop of a generator, after the pulse in progress (R145). -/
def pgStop (s : State) (n g : Nat) : State :=
  let p := portPg (s.portAt n) g
  given p.run s (s.modPort n (fun x => setPg x g (if p.out then { p with stopping := true } else { p with run := false })))

/-- PG_START (R145). -/
def execPgStart (n g : Nat) (s : State) : Result State := withPg s n g (pgStart s n g)
/-- PG_STOP (R145). -/
def execPgStop (n g : Nat) (s : State) : Result State := withPg s n g (pgStop s n g)

/-- The start of a PG0 period clears the latches that LATCH_CLR gives to it and restarts a ramp that RAMP_SYNC gives to it
(R137, R140). -/
def pg0Period (s : State) (n : Nat) : State :=
  let s1 := (List.range 3).foldl (fun x j => if cfg s (tripIdx n j) 0xB 0 = 1 then clearLatch x n j else x) s
  if cfg s (portIdx n 12) 3 0 = 0 ∧ cfg s (portIdx n 2) 1 0 = 0 then
    s1.modPort n (fun x => { x with rampRestarts := x.rampRestarts + 1, rampAt := s.ticks }) else s1

/-- The elapsed tick at which the next period of a generator begins: at once after its start, then every PERIOD ticks (R145). -/
def nextPeriod (s : State) (n g : Nat) : Nat :=
  match (portPg (s.portAt n) g).periodAt with
  | none => s.ticks
  | some t => t + cfg s (pgIdx n g) 2 0

/-- Whether the pulse of a generator has lasted WIDTH ticks (R145). -/
def pulseOver (s : State) (n g : Nat) : Bool :=
  (portPg (s.portAt n) g).periodAt.all (fun t => decide (t + cfg s (pgIdx n g) 3 0 ≤ s.ticks))

/-- PG_PERIOD_START (R145, R146): a pulse begins unless a trip skips it or SHUTDOWN holds the generator. -/
def execPgPeriodStart (n g : Nat) (s : State) : Result State :=
  withPg s n g (given ((portPg (s.portAt n) g).run && !(portPg (s.portAt n) g).out && decide (nextPeriod s n g ≤ s.ticks)) s (
    let s1 := if g = 0 then pg0Period s n else s
    let p := { portPg (s1.portAt n) g with periodAt := some (nextPeriod s n g) }
    let trip := pgTripped s1 n g && pgAct s1 n g != 0
    let held := p.held && (trip || cfg s (pgIdx n g) 8 0 != 1)
    let q : PulseGen :=
      if held then p
      else if trip then
        if pgAct s1 n g = 1 then { p with held := false, trunc := if p.trunc = 255 then 255 else p.trunc + 1 }
        else { p with held := false }
      else { p with held := false, out := true, startStamp := s.nowStamp }
    s1.modPort n (fun x => setPg x g q)))

/-- A pulse of a generator is over: BURST stops after PCOUNT pulses, ONESHOT after one, and a waiting stop ends any (R145). -/
def pgOver (s : State) (n g : Nat) (p : PulseGen) : PulseGen :=
  let k := p.done + 1
  let last := p.stopping || pgMode s n g == 3 || (pgMode s n g == 2 && cfg s (pgIdx n g) 4 1 ≤ k)
  { p with out := false, done := k % 65536, run := p.run && !last, stopping := false }

/-- PG_PULSE_END (R145): the pulse reaches WIDTH. -/
def execPgPulseEnd (n g : Nat) (s : State) : Result State :=
  withPg s n g (given ((portPg (s.portAt n) g).out && pulseOver s n g) s (
    s.modPort n (fun x => setPg x g (pgOver s n g (portPg x g)))))

/-- PG_TRIP (R146): a trip of TRIP_SRC during a pulse ends it, and SHUTDOWN sets HELD. -/
def execPgTrip (n g : Nat) (s : State) : Result State :=
  withPg s n g (given ((portPg (s.portAt n) g).out && pgTripped s n g && pgAct s n g != 0) s (
    let p := pgOver s n g (portPg (s.portAt n) g)
    s.modPort n (fun x => setPg x g (if pgAct s n g = 1 then { p with trunc := if p.trunc = 255 then 255 else p.trunc + 1 }
      else { p with held := true }))))

/-- A write of 1 to a HELD bit (R146). -/
def pgHeldClear (s : State) (n g : Nat) : State := s.modPort n (fun x => setPg x g { portPg x g with held := false })

/-- PG_HELD_CLEAR (R146). -/
def execPgHeldClear (n g : Nat) (s : State) : Result State := withPg s n g (given (domainOn s n) s (pgHeldClear s n g))

end Sys2Proof.Machine
end

