-- ==== Sys2Proof/Machine/Calib.lean ====
section
/-! DEFINITION. The schedule of a port's calibration items within gaps and forced windows (R186, R194, R427, R428). -/

namespace Sys2Proof.Machine

/-- Offline time of a calibration item in µs (R427). -/
def calMicros (item : Nat) : Nat := nth 0 [0, 20, 30, 15, 0, 40, 50, 30] item

/-- Ranges of the input kind in force (R427): 12 for TIA, else 7. -/
def calRangeCount (s : State) (n : Nat) : Nat := if tiaOn s n then 12 else 7

/-- The range that item 3 takes next: the range in force, then the others in ascending order (R428). -/
def nextCalRange (s : State) (n : Nat) : Option Nat :=
  let x := s.portAt n
  let now := rangeOf s n (inputKey s n x.lastInput)
  (now :: List.range (calRangeCount s n)).find? (fun r => !bitOf x.calRanges r)

/-- Whether an item fits in the offline limit and in the rest of the window (R194, R428). -/
def calFits (s : State) (n item : Nat) : Bool :=
  let x := s.portAt n
  x.calUsed + calMicros item ≤ 200 && s.ticks + calMicros item * 250 ≤ x.calUntil

/-- The next item of a window in code order, with its range: one that is due and fits, the emitter's only in a gap with EMITTER
(R186, R428). -/
def nextCalItem (s : State) (n : Nat) : Option (Nat × Nat) :=
  let x := s.portAt n
  match [1, 2, 3, 5, 6, 7].find? (fun c => bitOf x.calDue c && calFits s n c && (c != 6 || x.gapEmitter)) with
  | none => none
  | some c => some (c, if c = 3 then (nextCalRange s n).getD 0 else 0)

/-- The next item of a port's window starts, with the chain offline; with none left the chain returns. It waits for an analogue
operation that is active, and item 6 takes a governor slot (R127, R427, R428). -/
def startItem (s : State) (n : Nat) : State :=
  let x := s.portAt n
  let isFree := (activeOp s n 3).isNone && domainOn s n && !x.inQuarantine
  match nextCalItem s n with
  | some (c, r) =>
    if !isFree then s
    else
      let s1 := s.modPort n (fun y => { y with
        calItem := c, calRange := r, calOffline := true, calFrom := s.ticks
        calWindows := if y.calUsed = 0 then satInc 255 y.calWindows else y.calWindows })
      let d := portDie n
      if c ≠ 6 then s1
      else if (s.dieAt d).govHeld.length < 4 ∧ (s.dieAt d).govWait = [] then emitterStart s1 n
      else s1.modDie d (fun y => { y with govWait := y.govWait ++ [n] })
  | none => s.modPort n (fun y => { y with calItem := 0, calOffline := false })

/-- A CALGAP window of a port opens (R194). -/
def openGap (s : State) (n : Nat) (emitter : Bool) (endAt : Nat) : State :=
  let s1 := s.modPort n (fun x => { x with
    gapOpen := true, gapEmitter := emitter, calUntil := endAt, calUsed := if x.calOffline then x.calUsed else 0 })
  if (s1.portAt n).calOffline then s1 else startItem s1 n

/-- An item in progress is discarded and stays due; the chain returns, and an emitter under calibration stops (R431). -/
def dropItem (s : State) (n : Nat) : State :=
  (stopEmitterItem s n).modPort n (fun x => { x with calItem := 0, calOffline := false })

/-- A CALGAP window of a port ends (R194). -/
def closeGap (s : State) (n : Nat) : State :=
  dropItem (s.modPort n (fun x => { x with gapOpen := false, gapEmitter := false })) n

end Sys2Proof.Machine
end

