-- ==== Sys2Proof/Machine/IoSpace.lean ====
section
/-! DEFINITION. The engines' I/O space: the registers of the port blocks (R87, R107, R149), the time registers (R40) and the
engine registers (R154). -/

namespace Sys2Proof.Machine

/-! ### Rates in force (R84, R398) -/

/-- The SYS frequency of a die in Hz: the operating points A, B, C and S, or the FRC. -/
def sysHz (x : Die) : Nat :=
  if x.onFrc then 64000000
  else match x.opPoint with
    | 0 => 200000000 | 1 => 100000000 | 2 => 50000000 | _ => 64000000

/-- The frequency that counted intervals assume: at point S that of the fastest FRC (R398). -/
def countHz (x : Die) : Nat := if sysHz x = 64000000 then 65280000 else sysHz x

/-- The SPI clock divider: the highest SCLK that does not exceed the request, DIV from 1 to 4,096 (R84). -/
def spiDiv (sys rate : Nat) : Nat := if rate = 0 then 4096 else max 1 (min 4096 ((sys + 2 * rate - 1) / (2 * rate)))

/-- The UART divider in sixteenths with its OVS: 16, or 8 where 16 cannot reach the rate (R84). -/
def uartDiv (sys baud : Nat) : Nat × Nat :=
  let t (ovs : Nat) := if baud = 0 then 1048575 else (2 * sys * 16 + ovs * baud) / (2 * ovs * baud)
  if 16 ≤ t 16 then (16, min 1048575 (t 16)) else (8, max 16 (t 8))

/-- RATE_EFF (R84, R87): SCLK or baud in force, in Hz, rounded down. -/
def rateEff (s : State) (n : Nat) : Nat :=
  let sys := sysHz (s.dieAt (portDie n))
  let cnt := countHz (s.dieAt (portDie n))
  match (s.portAt n).mode with
  | 2 => sys / (2 * spiDiv cnt (cfg s (portIdx n 5) 1 1000000))
  | 3 => let q := uartDiv cnt (cfg s (portIdx n 6) 1 115200); sys * 16 / (q.1 * q.2)
  | _ => 0

/-! ### Port registers (R87, R107, R149) -/

/-- PSTAT. -/
def regPstat (x : Port) : Nat := x.mode + 16 * b2n x.inQuarantine
/-- VP_MEAS. -/
def regVpMeas (x : Port) : Nat := x.iAvg % 65536 + x.iPeak % 65536 * 65536
/-- EM_STAT. -/
def regEmStat (x : Port) : Nat :=
  b2n x.emBusy + 2 * b2n x.emOpen + 4 * b2n x.emNoreg + 8 * b2n x.emClamped + x.emDefer * 65536
/-- OP_STAT. -/
def regOpStat (s : State) (n : Nat) : Nat :=
  let x := s.portAt n
  x.opStatus + 16 * b2n (headSlot s n 3).isSome + x.opCount.toNat * 65536
/-- ERR_CNT. -/
def regErrCnt (x : Port) : Nat := x.failed + x.recoveries * 65536

/-- QUAR: ACTIVE, REASON the one most recently added, and NEXT_RETRY the ms to the earliest probe of the held reasons, rounded up
(R87, R481; the choice among several reasons and the rounding are DESIGN CHOICE, log entry 17). -/
def regQuar (s : State) (n : Nat) : Nat :=
  let x := s.portAt n
  let auto := x.quar.filter (fun r => r.code != 5)
  let next := auto.foldl (fun a r => min a ((r.nextAt - s.ticks + 249999) / 250000)) 65535
  b2n x.inQuarantine + 2 * ((x.quar.head?.map (·.code)).getD 0) + (if auto.isEmpty then 0 else next) * 65536

/-- The registers of TWO_WIRE mode at offsets 0x30 to 0x3C (R107). -/
def regTwoWire (s : State) (n off : Nat) : Nat :=
  let x := s.portAt n
  match off with
  | 0x30 => twTime s n 0 + twTime s n 1 * 65536
  | 0x34 => twTime s n 2 + twTime s n 3 * 65536
  | 0x38 => twTime s n 4 + twTime s n 5 * 65536 + twTime s n 6 * 16777216
  | _ => x.twCount + x.pecRx * 256 + x.cause * 65536 + 2 ^ 19 * b2n x.sclTo + 2 ^ 20 * b2n x.sdaTo + 2 ^ 21 * b2n x.busBusy
      + 2 ^ 22 * min 3 x.arbLosses + 2 ^ 24 * x.sclRise

/-- The registers of ANALOG mode at offsets 0x30 to 0x3C (R149). -/
def regAnalogue (s : State) (n off : Nat) : Nat :=
  let x := s.portAt n
  match off with
  | 0x30 => rangeOf s n (inputKey s n x.convInput) + 16 * b2n (tiaOn s n) + 32 * b2n (arOn s n) + 64 * b2n x.settling
      + 128 * b2n x.calOffline + 65536 * x.rangeChanges.toNat
  | 0x34 => b2n x.c0.out + 2 * b2n x.c1.out + 4 * b2n x.win.out + 16 * b2n x.c0.latch + 32 * b2n x.c1.latch
      + 64 * b2n x.win.latch + 256 * x.c0.sets.toNat + 65536 * x.c1.sets.toNat + 16777216 * x.win.sets.toNat
  | 0x38 => x.dac0 + 65536 * x.dac1 + 2 ^ 30 * b2n (dacLocked s n 0 || dacLocked s n 1) + 2 ^ 31 * b2n x.wrDropped
  | _ => b2n x.pg0.run + 2 * b2n x.pg1.run + 4 * b2n x.pg0.out + 8 * b2n x.pg1.out + 16 * b2n x.pg0.held
      + 32 * b2n x.pg1.held + 65536 * x.pg0.trunc.toNat + 16777216 * x.pg1.trunc.toNat

/-- XFER_CFG: the fields of the mode in force (R87). -/
def regXfer (x : Port) : Nat :=
  if x.mode = 2 then x.spiMode + 4 * b2n x.lsbFirst
  else if x.mode = 3 then 16 * x.parity + 64 * x.endByte + 2 ^ 14 * b2n x.endEn
  else 0

/-- A register of a port's block (R87); a reserved offset reads zero (R13). -/
def portReg (s : State) (n off : Nat) : Nat :=
  let x := s.portAt n
  match off with
  | 0x00 => regPstat x
  | 0x04 => x.pinIn.toNat
  | 0x08 => x.pinOut.toNat
  | 0x0C => x.pinOe.toNat
  | 0x10 => x.rise.toNat + 16 * x.fall.toNat
  | 0x14 => b2n x.vpOn + 2 * x.vpSel + 4 * b2n x.pgood + 8 * b2n x.overload
  | 0x18 => regVpMeas x
  | 0x1C => x.emISet + 256 * x.emWidth
  | 0x20 => regEmStat x
  | 0x24 => regOpStat s n
  | 0x28 => regErrCnt x
  | 0x2C => regQuar s n
  | _ =>
    if off < 0x30 ∨ 0x3C < off then 0
    else match x.mode with
      | 1 => regTwoWire s n off
      | 4 => regAnalogue s n off
      | 2 | 3 => if off = 0x30 then regXfer x else if off = 0x34 then rateEff s n else 0
      | _ => 0

/-- A write of XFER_CFG: the fields of the mode in force; PARITY code 3 leaves PARITY as it is (R13, R87). -/
def writeXfer (x : Port) (v : Nat) : Port :=
  if x.mode = 2 then { x with spiMode := field v 1 0, lsbFirst := bitOf v 2 }
  else if x.mode = 3 then { x with
    parity := if field v 5 4 = 3 then x.parity else field v 5 4, endByte := field v 13 6, endEn := bitOf v 14 }
  else x

/-- A write of PG_CTL: a RUN bit starts or stops its generator, a 1 in a HELD bit releases it (R145, R146, R149). -/
def writePgCtl (s : State) (n v : Nat) : State :=
  (List.range 2).foldl (fun x g =>
    let x1 := if bitOf v (4 + g) then pgHeldClear x n g else x
    if bitOf v g then pgStart x1 n g else pgStop x1 n g) s

/-- A write of a register of a port's block (R87); a read-only or reserved offset ignores it (R13). -/
def writePortReg (s : State) (n off v : Nat) : State :=
  match off with
  | 0x08 => s.modPort n (fun x => { x with pinOut := BitVec.ofNat 4 v })
  | 0x0C => s.modPort n (fun x => { x with pinOe := BitVec.ofNat 4 v })
  | 0x10 => s.modPort n (fun x => { x with
      rise := x.rise &&& ~~~(BitVec.ofNat 4 v), fall := x.fall &&& ~~~(BitVec.ofNat 4 (v / 16)) })
  | 0x14 => (writeVpOn s n (bitOf v 0)).modPort n (fun x => { x with overload := x.overload && !bitOf v 3 })
  | 0x1C => writeEmCfg s n v
  | 0x20 => s.modPort n (fun x => { x with emClamped := x.emClamped && !bitOf v 3 })
  | 0x30 => s.modPort n (fun x => writeXfer x v)
  | 0x34 => if (s.portAt n).mode = 4 then clearLatches s n (field v 6 4) else s
  | 0x38 => if (s.portAt n).mode = 4 then writeCmpDac s n v else s
  | 0x3C =>
    if (s.portAt n).mode = 4 then writePgCtl s n v
    else if (s.portAt n).mode = 1 then
      s.modPort n (fun x => { x with sclTo := x.sclTo && !bitOf v 19, sdaTo := x.sdaTo && !bitOf v 20 })
    else s
  | _ => s

/-! ### Engine and time registers (R40, R154) -/

/-- A read of TSEC_LO latches the other three time registers of the engine (R40). -/
def latchTime (s : State) (e : Nat) : State :=
  let t := s.time
  s.modEng e (fun x => { x with
    tsecHi := BitVec.ofNat 32 (t.seconds.toNat / 2 ^ 32), tns := BitVec.ofNat 32 t.nanos, tfrac := BitVec.ofNat 32 t.frac })

/-- TSEC_LO: the low word of SECONDS (R40). -/
def tsecLo (s : State) : Word := BitVec.ofNat 32 s.time.seconds.toNat

/-- ENG_ID of an engine as a context reads it (R154). -/
def regEngId (s : State) (e c : Nat) : Nat :=
  e % 256 + e % 24 * 256 + engDie e % 8 * 8192 + c % 32 * 65536 + engParish s e % 16 * 16777216

/-- Whole microseconds left of a context's budget (R154). -/
def budgetLeft (s : State) (y : Ctx) : Nat := min 4095 ((y.budgetEnd - s.ticks) * 4 / 1000)

/-- An engine register at an I/O address from 0x300 on; reserved ones read zero (R13, R40, R154). -/
def engReg (s : State) (e c addr : Nat) : Word :=
  let x := s.engAt e
  let y := x.ctxAt c
  match addr with
  | 0xF00 => tsecLo s
  | 0xF04 => x.tsecHi
  | 0xF08 => x.tns
  | 0xF0C => x.tfrac
  | 0xF10 => BitVec.ofNat 32 (regEngId s e c)
  | 0xF14 => BitVec.ofNat 32 (y.entry % 2048 + y.flags % 256 * 4096)
  | 0xF18 => (s.dieAt (engDie e)).frames
  | 0xF1C => BitVec.ofNat 32 (budgetLeft s y)
  | 0xF24 => BitVec.ofNat 32 (x.dropped + x.orphans * 65536)
  | _ => 0

/-- A word folded into the pair digest of a context in a safety-pair entry; ignored in any other (R175). -/
def foldPair (s : State) (e c : Nat) (v : Word) : State :=
  s.modCtx e c (fun y =>
    if bitOf y.flags 2 then { y with digest := BitVec.ofNat 32 (crc32Fold y.digest.toNat (leBytes 4 v.toNat)) } else y)

/-- A write of an engine register: PAIR_WORD alone takes one (R13, R154). -/
def writeEngReg (s : State) (e c addr : Nat) (v : Word) : State := if addr = 0xF20 then foldPair s e c v else s

end Sys2Proof.Machine
end

