-- ==== Sys2Proof/Machine/Engine.lean ====
section
/-! DEFINITION. The register, scratch, I/O and branch instructions of the tap engines (R155 to R161, R175, R176). -/

namespace Sys2Proof.Machine

/-! ### Register instructions (R156 to R158) -/

/-- The result and flags of a register instruction enter the context, and its PC moves on. -/
def aluEnd (s : State) (e c : Nat) (rd : BitVec 4) (r : Word × Flags) : State :=
  nextPc (writeReg (s.modCtx e c (fun y => y.withFlags r.2)) e c rd r.1) e c

/-- A register instruction with two source registers. -/
def aluR (s : State) (e : Nat) (i : Instr) (rd ra rb : BitVec 4) (f : Flags → Word → Word → Word × Flags) : Result State :=
  onCtx s e i (fun x c y => aluEnd s e c rd (f y.flagsOf (readReg x y ra) (readReg x y rb)))

/-- A register instruction with one source register and a constant. -/
def aluI (s : State) (e : Nat) (i : Instr) (rd ra : BitVec 4) (f : Flags → Word → Word × Flags) : Result State :=
  onCtx s e i (fun x c y => aluEnd s e c rd (f y.flagsOf (readReg x y ra)))

/-- ADD (R157). -/
def execAdd (e : Nat) (rd ra rb : BitVec 4) (s : State) : Result State :=
  aluR s e (.add e rd ra rb) rd ra rb (fun g a b => aluAdd g a b)

/-- SUB (R157). -/
def execSub (e : Nat) (rd ra rb : BitVec 4) (s : State) : Result State :=
  aluR s e (.sub e rd ra rb) rd ra rb (fun g a b => aluSub g a b)

/-- AND (R157). -/
def execAnd (e : Nat) (rd ra rb : BitVec 4) (s : State) : Result State :=
  aluR s e (.and e rd ra rb) rd ra rb (fun g a b => aluPlain g (a &&& b))

/-- OR (R157). -/
def execOr (e : Nat) (rd ra rb : BitVec 4) (s : State) : Result State :=
  aluR s e (.or e rd ra rb) rd ra rb (fun g a b => aluPlain g (a ||| b))

/-- XOR (R157). -/
def execXor (e : Nat) (rd ra rb : BitVec 4) (s : State) : Result State :=
  aluR s e (.xor e rd ra rb) rd ra rb (fun g a b => aluPlain g (a ^^^ b))

/-- SHL (R157). -/
def execShl (e : Nat) (rd ra rb : BitVec 4) (s : State) : Result State :=
  aluR s e (.shl e rd ra rb) rd ra rb (fun g a b => aluShl g a (b.toNat % 32))

/-- SHR (R157). -/
def execShr (e : Nat) (rd ra rb : BitVec 4) (s : State) : Result State :=
  aluR s e (.shr e rd ra rb) rd ra rb (fun g a b => aluShr g a (b.toNat % 32))

/-- SAR (R157). -/
def execSar (e : Nat) (rd ra rb : BitVec 4) (s : State) : Result State :=
  aluR s e (.sar e rd ra rb) rd ra rb (fun g a b => aluSar g a (b.toNat % 32))

/-- ADDS (R157). -/
def execAdds (e : Nat) (rd ra rb : BitVec 4) (s : State) : Result State :=
  aluR s e (.adds e rd ra rb) rd ra rb (fun g a b => satOp g (a.toInt + b.toInt))

/-- SUBS (R157). -/
def execSubs (e : Nat) (rd ra rb : BitVec 4) (s : State) : Result State :=
  aluR s e (.subs e rd ra rb) rd ra rb (fun g a b => satOp g (a.toInt - b.toInt))

/-- MUL (R157). -/
def execMul (e : Nat) (rd ra rb : BitVec 4) (s : State) : Result State :=
  aluR s e (.mul e rd ra rb) rd ra rb (fun g a b => aluPlain g (mulLow a b))

/-- MULH (R157). -/
def execMulh (e : Nat) (rd ra rb : BitVec 4) (s : State) : Result State :=
  aluR s e (.mulh e rd ra rb) rd ra rb (fun g a b => aluPlain g (mulHigh a b))

/-- MULHU (R157). -/
def execMulhu (e : Nat) (rd ra rb : BitVec 4) (s : State) : Result State :=
  aluR s e (.mulhu e rd ra rb) rd ra rb (fun g a b => aluPlain g (mulHighU a b))

/-- MULQ (R157). -/
def execMulq (e : Nat) (rd ra rb : BitVec 4) (s : State) : Result State :=
  aluR s e (.mulq e rd ra rb) rd ra rb (fun g a b => satOp g (mulQ a b))

/-- MIN (R157). -/
def execMin (e : Nat) (rd ra rb : BitVec 4) (s : State) : Result State :=
  aluR s e (.min e rd ra rb) rd ra rb (fun g a b => aluPlain g (minS a b))

/-- MAX (R157). -/
def execMax (e : Nat) (rd ra rb : BitVec 4) (s : State) : Result State :=
  aluR s e (.max e rd ra rb) rd ra rb (fun g a b => aluPlain g (maxS a b))

/-- MINU (R157). -/
def execMinu (e : Nat) (rd ra rb : BitVec 4) (s : State) : Result State :=
  aluR s e (.minu e rd ra rb) rd ra rb (fun g a b => aluPlain g (minU a b))

/-- MAXU (R157). -/
def execMaxu (e : Nat) (rd ra rb : BitVec 4) (s : State) : Result State :=
  aluR s e (.maxu e rd ra rb) rd ra rb (fun g a b => aluPlain g (maxU a b))

/-- ABS (R157): the magnitude, saturated. -/
def execAbs (e : Nat) (rd ra : BitVec 4) (s : State) : Result State :=
  aluI s e (.abs e rd ra) rd ra (fun g a => satOp g a.toInt.natAbs)

/-- An immediate, sign-extended (R155). -/
def sext (imm : BitVec 18) : Word := imm.signExtend 32

/-- An immediate, zero-extended (R156). -/
def zext (imm : BitVec 18) : Word := imm.setWidth 32

/-- ADDI (R156). -/
def execAddi (e : Nat) (rd ra : BitVec 4) (imm : BitVec 18) (s : State) : Result State :=
  aluI s e (.addi e rd ra imm) rd ra (fun g a => aluAdd g a (sext imm))

/-- ANDI (R156). -/
def execAndi (e : Nat) (rd ra : BitVec 4) (imm : BitVec 18) (s : State) : Result State :=
  aluI s e (.andi e rd ra imm) rd ra (fun g a => aluPlain g (a &&& zext imm))

/-- ORI (R156). -/
def execOri (e : Nat) (rd ra : BitVec 4) (imm : BitVec 18) (s : State) : Result State :=
  aluI s e (.ori e rd ra imm) rd ra (fun g a => aluPlain g (a ||| zext imm))

/-- XORI (R156). -/
def execXori (e : Nat) (rd ra : BitVec 4) (imm : BitVec 18) (s : State) : Result State :=
  aluI s e (.xori e rd ra imm) rd ra (fun g a => aluPlain g (a ^^^ zext imm))

/-- ADDSI (R156). -/
def execAddsi (e : Nat) (rd ra : BitVec 4) (imm : BitVec 18) (s : State) : Result State :=
  aluI s e (.addsi e rd ra imm) rd ra (fun g a => satOp g (a.toInt + (sext imm).toInt))

/-- SHLI (R156). -/
def execShli (e : Nat) (rd ra : BitVec 4) (n : BitVec 5) (s : State) : Result State :=
  aluI s e (.shli e rd ra n) rd ra (fun g a => aluShl g a n.toNat)

/-- SHRI (R156). -/
def execShri (e : Nat) (rd ra : BitVec 4) (n : BitVec 5) (s : State) : Result State :=
  aluI s e (.shri e rd ra n) rd ra (fun g a => aluShr g a n.toNat)

/-- SARI (R156). -/
def execSari (e : Nat) (rd ra : BitVec 4) (n : BitVec 5) (s : State) : Result State :=
  aluI s e (.sari e rd ra n) rd ra (fun g a => aluSar g a n.toNat)

/-- LUI (R156): IMM shifted left by 14; no flag changes. -/
def execLui (e : Nat) (rd : BitVec 4) (imm : BitVec 18) (s : State) : Result State :=
  onCtx s e (.lui e rd imm) (fun _ c _ => nextPc (writeReg s e c rd (zext imm <<< 14)) e c)

/-- CMPI (R156): the flags of ra − imm; no register changes. -/
def execCmpi (e : Nat) (ra : BitVec 4) (imm : BitVec 18) (s : State) : Result State :=
  onCtx s e (.cmpi e ra imm) (fun x c y =>
    nextPc (s.modCtx e c (fun z => z.withFlags (aluSub y.flagsOf (readReg x y ra) (sext imm)).2)) e c)

/-! ### Scratch memory (R156, R159) -/

/-- The address of an access: ra + imm, modulo 2^32. -/
def effAddr (x : Engine) (y : Ctx) (ra : BitVec 4) (imm : BitVec 18) : Nat := (readReg x y ra + sext imm).toNat

/-- A load of n bytes; a bad address raises OPERAND (R159). -/
def loadOp (s : State) (e : Nat) (i : Instr) (rd ra : BitVec 4) (imm : BitVec 18) (n : Nat)
    (f : Memory → Nat → Word) : Result State :=
  onCtx s e i (fun x c y =>
    let a := effAddr x y ra imm
    if scratchOk a n then nextPc (writeReg s e c rd (f x.scratch a)) e c else faultEnd s e c 2 a)

/-- LW (R156). -/
def execLw (e : Nat) (rd ra : BitVec 4) (imm : BitVec 18) (s : State) : Result State :=
  loadOp s e (.lw e rd ra imm) rd ra imm 4 Memory.readWord

/-- LH (R156). -/
def execLh (e : Nat) (rd ra : BitVec 4) (imm : BitVec 18) (s : State) : Result State :=
  loadOp s e (.lh e rd ra imm) rd ra imm 2 (fun m a => BitVec.ofInt 32 (sgn 16 (leNat (Memory.readBytes m a 2))))

/-- LHU (R156). -/
def execLhu (e : Nat) (rd ra : BitVec 4) (imm : BitVec 18) (s : State) : Result State :=
  loadOp s e (.lhu e rd ra imm) rd ra imm 2 (fun m a => BitVec.ofNat 32 (leNat (Memory.readBytes m a 2)))

/-- LB (R156). -/
def execLb (e : Nat) (rd ra : BitVec 4) (imm : BitVec 18) (s : State) : Result State :=
  loadOp s e (.lb e rd ra imm) rd ra imm 1 (fun m a => (Memory.read m a).signExtend 32)

/-- LBU (R156). -/
def execLbu (e : Nat) (rd ra : BitVec 4) (imm : BitVec 18) (s : State) : Result State :=
  loadOp s e (.lbu e rd ra imm) rd ra imm 1 (fun m a => (Memory.read m a).setWidth 32)

/-- A store of the low n bytes of rd; a bad address raises OPERAND and writes nothing (R159). -/
def storeOp (s : State) (e : Nat) (i : Instr) (rd ra : BitVec 4) (imm : BitVec 18) (n : Nat) : Result State :=
  onCtx s e i (fun x c y =>
    let a := effAddr x y ra imm
    if scratchOk a n then nextPc (writeScratch s e a (leBytes n (readReg x y rd).toNat)) e c else faultEnd s e c 2 a)

/-- SW (R156). -/
def execSw (e : Nat) (rd ra : BitVec 4) (imm : BitVec 18) (s : State) : Result State :=
  storeOp s e (.sw e rd ra imm) rd ra imm 4
/-- SH (R156). -/
def execSh (e : Nat) (rd ra : BitVec 4) (imm : BitVec 18) (s : State) : Result State :=
  storeOp s e (.sh e rd ra imm) rd ra imm 2
/-- SB (R156). -/
def execSb (e : Nat) (rd ra : BitVec 4) (imm : BitVec 18) (s : State) : Result State :=
  storeOp s e (.sb e rd ra imm) rd ra imm 1

/-! ### The I/O space (R88, R160) -/

/-- Whether a resource's owner is the parish of an engine; a damaged entry owns nothing (R289). -/
def ownsFor (s : State) (e : Nat) (owner : Option Nat) : Bool := owner.isSome && owner == engOwner s e

/-- The port whose block holds an I/O address of an engine (R160). -/
def ioPort (e addr : Nat) : Nat := engDie e * 12 + addr / 64

/-- IN (R160): a bad address raises OPERAND, a foreign port OWNERSHIP; the block of an owned port whose domain is off reads
zero and records OFFBLK, and the context continues. A read of TSEC_LO latches the other time registers (R40). -/
def execIoIn (e : Nat) (rd ra : BitVec 4) (imm : BitVec 18) (s : State) : Result State :=
  onCtx s e (.ioIn e rd ra imm) (fun x c y =>
    let a := effAddr x y ra imm
    if a % 4 ≠ 0 ∨ 0xFFF < a then faultEnd s e c 2 a
    else if a < 0x300 then
      if !ownsFor s e (portOwner s (ioPort e a)) then faultEnd s e c 3 a
      else if !domainOn s (ioPort e a) then nextPc (writeReg (engineFault s e c 4 y.pc a) e c rd 0) e c
      else nextPc (writeReg s e c rd (BitVec.ofNat 32 (portReg s (ioPort e a) (a % 64)))) e c
    else if a = 0xF00 then nextPc (writeReg (latchTime s e) e c rd (tsecLo s)) e c
    else nextPc (writeReg s e c rd (engReg s e c a)) e c)

/-- A write to an I/O register: a port's block, or an engine register (R87, R154). A write to the block of a port whose
domain is off is dropped and counted in ENG_ERR (R88). -/
def ioWrite (s : State) (e c pc addr : Nat) (v : Word) : State :=
  if addr < 0x300 then
    if domainOn s (ioPort e addr) then writePortReg s (ioPort e addr) (addr % 64) v.toNat
    else (engineFault s e c 4 pc addr).modEng e (fun x => { x with dropped := satInc 65535 x.dropped })
  else writeEngReg s e c addr v

/-- OUT (R160). -/
def execIoOut (e : Nat) (rd ra : BitVec 4) (imm : BitVec 18) (s : State) : Result State :=
  onCtx s e (.ioOut e rd ra imm) (fun x c y =>
    let a := effAddr x y ra imm
    if a % 4 ≠ 0 ∨ 0xFFF < a then faultEnd s e c 2 a
    else if a < 0x300 ∧ ownsFor s e (portOwner s (ioPort e a)) = false then faultEnd s e c 3 a
    else nextPc (ioWrite s e c y.pc a (readReg x y rd)) e c)

/-- REGISTER_WRITE (R87): the register effect of a write that the running context of an engine makes. -/
def execRegisterWrite (e addr : Nat) (value : Word) (s : State) : Result State :=
  withEngine s e (
    match (s.engAt e).running with
    | none => s
    | some c => given (addr % 4 == 0 && decide (addr ≤ 0xFFF)
        && (decide (0x300 ≤ addr) || (ownsFor s e (portOwner s (ioPort e addr)) && domainOn s (ioPort e addr)))) s
        (ioWrite s e c ((s.engAt e).ctxAt c).pc addr value))

/-- PAIR_WORD_WRITE (R175): the running context of an engine folds a word into its entry's pair digest. -/
def execPairWordWrite (e : Nat) (value : Word) (s : State) : Result State :=
  withEngine s e (
    match (s.engAt e).running with
    | none => s
    | some c => foldPair s e c value)

/-- TSEC_LO_READ (R40): the engine's other time registers are latched, and the running context's register takes TSEC_LO. -/
def execTsecLoRead (e : Nat) (rd : BitVec 4) (s : State) : Result State :=
  withEngine s e (
    match (s.engAt e).running with
    | none => latchTime s e
    | some c => writeReg (latchTime s e) e c rd (tsecLo s))

/-! ### Branches (R161) -/

/-- The PC of a context takes a program word address. -/
def jumpTo (s : State) (e c pc : Nat) : State := s.modCtx e c (fun y => { y with pc := pc })

/-- B (R161). -/
def execBranch (e : Nat) (cond : BitVec 4) (tgt : BitVec 10) (s : State) : Result State :=
  onCtx s e (.branch e cond tgt) (fun _ c y =>
    if condHolds y.flagsOf cond.toNat then jumpTo s e c tgt.toNat else nextPc s e c)

/-- JAL (R156): rd takes PC + 1. -/
def execJal (e : Nat) (rd : BitVec 4) (tgt : BitVec 10) (s : State) : Result State :=
  onCtx s e (.jal e rd tgt) (fun _ c y => jumpTo (writeReg s e c rd (BitVec.ofNat 32 (y.pc + 1))) e c tgt.toNat)

/-- JR (R161): ra above 0x3FF raises OPERAND. -/
def execJr (e : Nat) (ra : BitVec 4) (s : State) : Result State :=
  onCtx s e (.jr e ra) (fun x c y =>
    let t := (readReg x y ra).toNat
    if t ≤ 0x3FF then jumpTo s e c t else faultEnd s e c 2 t)

/-! ### Words that are no instruction, and the end of program memory (R161, R176) -/

/-- RESERVED_OPCODE (R176): the word at the running context's PC is reserved; ILLEGAL ends the context. -/
def execReservedOpcode (e : Nat) (s : State) : Result State :=
  withEngine s e (
    let x := s.engAt e
    match x.running with
    | none => s
    | some c =>
      let y := x.ctxAt c
      given (y.live && !y.slotWait && decide (s.ticks < y.budgetEnd) && decide (y.pc < 1024) && (decodeWord e (nth 0 x.prog y.pc)).isNone) s
        (faultEnd s e c 1 (nth 0 x.prog y.pc).toNat))

/-- PCEND (R161): the running context's PC has passed 0x3FF. -/
def execPcend (e : Nat) (s : State) : Result State :=
  withEngine s e (
    let x := s.engAt e
    match x.running with
    | none => s
    | some c => given ((x.ctxAt c).live && decide (s.ticks < (x.ctxAt c).budgetEnd) && decide (1024 ≤ (x.ctxAt c).pc)) s (faultEnd s e c 5 1024))

end Sys2Proof.Machine
end

