-- ==== Sys2Proof/Machine/EngineOps.lean ====
section
/-! DEFINITION. The tap engines' port issues, AWAIT, records, offers, lines and the end of a context (R152, R162 to R176). -/

namespace Sys2Proof.Machine

/-! ### Port operations and tickets (R162) -/

/-- A context finds every slot of its die held: it suspends before the issue, until a slot retires (R162, R193). -/
def waitForSlot (s : State) (e c : Nat) : State :=
  (leaveEngine (s.modCtx e c (fun y => { y with slotWait := true })) e).modDie (engDie e) (fun x => { x with
    slotWaits := x.slotWaits + 1, slotWaiters := x.slotWaiters ++ [(e, c)] })

/-- The state that an accepted operation starts in: WAIT_EDGE for a two-wire descriptor with DRDY whose edge is not latched,
QUEUED for any other (R193). -/
def firstState (s : State) (n kind : Nat) (d0 : Word) : Nat :=
  if kind = 0 ∧ bitOf d0.toNat 21 = true ∧ thas (s.portAt n).edgeLatch (drdyKey d0) = false then 1 else 2

/-- Whether an operation needs a governor slot: PULSE and a code burst (R79). -/
def usesGovernor (kind : Nat) (d0 : Word) : Bool := kind == 4 || (kind == 3 && anaKind d0 == 1)

/-- The status with which an operation completes at issue (R85, R90): NOPOWER with the domain off; QUARANTINED on a quarantined
port, whose VP may be held open; else NOPOWER while VP_ON waits for PGOOD. -/
def issueStatus (s : State) (n : Nat) : Option Nat :=
  let x := s.portAt n
  if !domainOn s n then some 8
  else if x.inQuarantine || x.loopDepth != 0 then some 9
  else if x.vpOn && !x.pgood then some 8 else none

/-- An accepted issue takes a free slot of the die's table and writes its ticket to rd (R162). Which free slot it takes is a
free value (log entry 7). A port that is off or in quarantine completes the operation at once. -/
def takeSlot (s : State) (e c : Nat) (rd : BitVec 4) (n kind : Nat) (d0 d1 : Word) : State :=
  let d := engDie e
  let x := s.dieAt d
  let y := (s.engAt e).ctxAt c
  let p := s.portAt n
  let pick := s.draw 9
  let k := nth 0 x.freeSlots (pick.1 % x.freeSlots.length)
  let gen := (x.slotAt k).gen
  let s1 := pick.2.modSlot d k (fun _ => {
    state := firstState s n kind d0, gen := gen, kind := kind, engine := e, ctx := c, entry := y.entry, port := n
    d0 := d0, d1 := d1, needsGov := usesGovernor kind d0
    waitedCal := kind == 3 && p.calOffline && p.calForced })
  let s2 := s1.modDie d (fun z => { z with slotPeak := max z.slotPeak z.held, tele := { z.tele with slotPeak := max z.tele.slotPeak z.held } })
  let s3 := s2.modPort n (fun z => { z with
    queue := z.queue ++ [k], emBusy := z.emBusy || usesGovernor kind d0
    lastInput := if kind = 3 then anaInput d0 else z.lastInput })
  let s4 := s3.modCtx e c (fun z => { z with tickets := z.tickets ++ [ticketOf k gen] })
  let s5 := nextPc (writeReg s4 e c rd (BitVec.ofNat 32 (ticketOf k gen))) e c
  match issueStatus s n with
  | some st => completeOp s5 d k st (if kind = 0 then p.twCount else 0)
  | none => s5

/-- The checks of an issue in the order of R162, with the operation's descriptor words; `ok` judges them (check 5). -/
def issueOp (s : State) (e : Nat) (i : Instr) (kind : Nat) (rd rh : BitVec 4) (desc : Engine → Ctx → Nat × Word × Word)
    (ok : Nat → Nat → Word → Word → Bool) : Result State :=
  onCtx s e i (fun x c y =>
    let h := (readReg x y rh).toNat
    let n := engDie e * 12 + h
    let w := desc x y
    if 11 < h then faultEnd s e c 2 h
    else if !ownsFor s e (portOwner s n) then faultEnd s e c 3 h
    else if (s.dieAt (engDie e)).freeSlots.isEmpty && (!domainOn s n || (modeFits s n kind && ok n w.1 w.2.1 w.2.2
        && decide (y.tickets.length < 8))) then waitForSlot s e c
    else if !domainOn s n then takeSlot (engineFault s e c 4 y.pc h) e c rd n kind w.2.1 w.2.2
    else if !modeFits s n kind then faultEnd s e c 2 h
    else if !ok n w.1 w.2.1 w.2.2 then faultEnd s e c 2 w.1
    else if 8 ≤ y.tickets.length then faultEnd s e c 2 h
    else takeSlot s e c rd n kind w.2.1 w.2.2)

/-- The descriptor at scratch byte address ra + DOFF × 4, with that address (R162). -/
def descAt (ra : BitVec 4) (doff : BitVec 8) (x : Engine) (y : Ctx) : Nat × Word × Word :=
  let a := (readReg x y ra + BitVec.ofNat 32 (doff.toNat * 4)).toNat
  (a, Memory.readWord x.scratch a, Memory.readWord x.scratch (a + 4))

/-- Whether a descriptor of two words lies within scratch, word-aligned (R162). -/
def descIn (a : Nat) : Bool := a % 4 == 0 && decide (a + 8 ≤ 1024)

/-- TW (R98, R162). -/
def execIssueTw (e : Nat) (rd rh ra : BitVec 4) (doff : BitVec 8) (s : State) : Result State :=
  issueOp s e (.issueTw e rd rh ra doff) 0 rd rh (descAt ra doff) (fun _ a d0 d1 => descIn a && twOk d0 d1)
/-- SPI (R162, R163). -/
def execIssueSpi (e : Nat) (rd rh ra : BitVec 4) (doff : BitVec 8) (s : State) : Result State :=
  issueOp s e (.issueSpi e rd rh ra doff) 1 rd rh (descAt ra doff) (fun _ a d0 d1 => descIn a && spiOk d0 d1)
/-- UART (R162, R164). -/
def execIssueUart (e : Nat) (rd rh ra : BitVec 4) (doff : BitVec 8) (s : State) : Result State :=
  issueOp s e (.issueUart e rd rh ra doff) 2 rd rh (descAt ra doff) (fun _ a d0 d1 => descIn a && uartOk d0 d1)
/-- ANA (R125, R126, R162). -/
def execIssueAna (e : Nat) (rd rh ra : BitVec 4) (doff : BitVec 8) (s : State) : Result State :=
  issueOp s e (.issueAna e rd rh ra doff) 3 rd rh (descAt ra doff) (fun n a d0 d1 => descIn a && anaOk s n d0 d1)
/-- PULSE (R162, R165). -/
def execIssuePulse (e : Nat) (rd rh : BitVec 4) (s : State) : Result State :=
  issueOp s e (.issuePulse e rd rh) 4 rd rh (fun _ _ => (0, 0, 0)) (fun _ _ _ _ => true)

/-- TRANSACTION_SLOT_FREE (R162): a slot is free and the context that has waited longest becomes ready to issue. -/
def execTransactionSlotFree (d : Nat) (s : State) : Result State :=
  withDie s d (
    match (s.dieAt d).slotWaiters with
    | [] => s
    | (e, c) :: rest => given (!(s.dieAt d).freeSlots.isEmpty) s
        (makeReady ((s.modDie d (fun x => { x with slotWaiters := rest })).modCtx e c (fun y => { y with slotWait := false })) e c))

/-! ### AWAIT (R166, R167) -/

/-- The completion word of an operation (R166). -/
def completionWord (x : Slot) : Word := BitVec.ofNat 32 (x.status % 16 + 16 * b2n x.stamped + x.count % 512 * 256)

/-- Whether the condition of a wait holds (R167). -/
def awaitHolds (s : State) (e : Nat) (a : Await) : Bool :=
  let d := engDie e
  match a.kind with
  | 0 => ((s.dieAt d).slotAt (a.arg % 512)).state == 4
  | 1 => a.met.isSome
  | 2 => decide (a.due ≤ s.ticks * 4)
  | _ => if a.sub = 0 then (s.colAt (rk d a.arg)).level else a.met.isSome

/-- A wait whose condition holds, with the stamp that it carries (R167). -/
def awaitMeet (s : State) (e : Nat) (a : Await) : Await :=
  { a with done := true, met := if a.kind = 3 ∧ a.sub = 0 then some (s.colAt (rk (engDie e) a.arg)).stamp else a.met }

/-- The return of an AWAIT (R167): rd, Z and CSTAMP, and the PC on the next instruction. An awaited slot retires. -/
def awaitReturn (s : State) (e c : Nat) (a : Await) : State :=
  let d := engDie e
  let fin (v : Word) (z : Bool) (st : Option Stamp) (s : State) : State :=
    nextPc (writeReg (s.modCtx e c (fun y => { y with
      z := z, await := none, cstamp := st.getD y.cstamp })) e c a.rd v) e c
  match a.kind with
  | 0 =>
    let x := (s.dieAt d).slotAt (a.arg % 512)
    fin (completionWord x) (x.status == 0) (if x.stamped then some x.stamp else none) (retireSlot s d (a.arg % 512))
  | 1 => fin 0 true a.met s
  | 2 => fin 0 true none s
  | _ => fin 0 true a.met s

/-- An AWAIT returns at once when its condition holds; otherwise the context suspends and leaves the engine (R152, R167). -/
def awaitStart (s : State) (e c : Nat) (a : Await) : State :=
  if awaitHolds s e a then awaitReturn s e c (awaitMeet s e a)
  else leaveEngine (s.modCtx e c (fun y => { y with await := some a })) e

/-- AWAIT COMP (R167): a ticket that the context does not hold raises OPERAND. -/
def execAwaitComp (e : Nat) (rd ra : BitVec 4) (s : State) : Result State :=
  onCtx s e (.awaitComp e rd ra) (fun x c y =>
    let t := (readReg x y ra).toNat
    if y.tickets.contains t then awaitStart s e c { kind := 0, arg := t, rd := rd } else faultEnd s e c 2 t)

/-- AWAIT EDGE (R167): an edge after the AWAIT, so the context always suspends. -/
def execAwaitEdge (e : Nat) (rd ra : BitVec 4) (pin edge : BitVec 2) (s : State) : Result State :=
  onCtx s e (.awaitEdge e rd ra pin edge) (fun x c y =>
    let h := (readReg x y ra).toNat
    if 11 < h then faultEnd s e c 2 h
    else if !ownsFor s e (portOwner s (engDie e * 12 + h)) then faultEnd s e c 3 h
    else awaitStart s e c { kind := 1, arg := h, sub := pin.toNat + 4 * edge.toNat, rd := rd })

/-- AWAIT TIME (R45, R167): ra + IMM units of 10 ns of elapsed time, at least one. -/
def execAwaitTime (e : Nat) (rd ra : BitVec 4) (units : BitVec 16) (s : State) : Result State :=
  onCtx s e (.awaitTime e rd ra units) (fun x c y =>
    let total := (readReg x y ra).toNat + units.toNat
    awaitStart s e c { kind := 2, arg := total, rd := rd, due := s.ticks * 4 + 10 * max 1 total })

/-- AWAIT LINE (R167, R279): any column of the engine's parish; a column of another parish raises OWNERSHIP. -/
def execAwaitLine (e : Nat) (rd ra : BitVec 4) (rise : Bool) (s : State) : Result State :=
  onCtx s e (.awaitLine e rd ra rise) (fun x c y =>
    let l := (readReg x y ra).toNat
    if 63 < l then faultEnd s e c 2 l
    else if !ownsFor s e (colOwner s (engDie e) l) then faultEnd s e c 3 l
    else awaitStart s e c { kind := 3, arg := l, sub := b2n rise, rd := rd })

/-- AWAIT_RESUME (R152, R167): the condition of a suspended context holds, and the context becomes ready. What the AWAIT
returns is written when the context runs again, so that no register of the engine changes under the context that runs now. -/
def execAwaitResume (e c : Nat) (s : State) : Result State :=
  withEngine s e (
    let y := (s.engAt e).ctxAt c
    match y.await with
    | none => s
    | some a => given (y.live && !a.done && awaitHolds s e a) s
        (makeReady (s.modCtx e c (fun z => { z with await := some (awaitMeet s e a) })) e c))

/-! ### STAMP, EMIT, SIEVE and SIGNAL (R168 to R174) -/

/-- STAMP (R169): CSTAMP[31:0] to rd, then CSTAMP[51:32] to ra. -/
def execStampRead (e : Nat) (rd ra : BitVec 4) (s : State) : Result State :=
  onCtx s e (.stampRead e rd ra) (fun _ c y =>
    nextPc (writeReg (writeReg s e c rd (y.cstamp.setWidth 32)) e c ra ((y.cstamp >>> 32).setWidth 32)) e c)

/-- The flags of a record that an entry emits (R171). -/
def emitFlags (y : Ctx) (stale : Bool) : Nat :=
  b2n (stale || y.stale) + 2 * b2n y.patched + 4 * b2n y.rangeF + 128 * b2n y.defer

/-- EMIT and EMIT.S (R171). -/
def emitOp (s : State) (e : Nat) (i : Instr) (rs ra n : BitVec 4) (stale : Bool) : Result State :=
  onCtx s e i (fun x c y =>
    let st := (readReg x y rs).toNat
    let a := (readReg x y ra).toNat
    let k := engDie e * 512 + st
    if 0x1EF < st then faultEnd s e c 2 st
    else if 0 < n.toNat ∧ ¬(a % 4 = 0 ∧ a + 4 * n.toNat ≤ 1024) then faultEnd s e c 2 a
    else if !ownsFor s e (streamOwner s k) then faultEnd s e c 3 st
    else nextPc (putRecord s k {
      stream := k, stamp := y.cstamp, pcode := engParish s e % 16, flags := emitFlags y stale
      words := (List.range n.toNat).map (fun j => Memory.readWord x.scratch (a + 4 * j)) }) e c)

/-- EMIT (R171). -/
def execEmit (e : Nat) (rs ra n : BitVec 4) (s : State) : Result State := emitOp s e (.emit e rs ra n) rs ra n false
/-- EMIT.S (R171). -/
def execEmitS (e : Nat) (rs ra n : BitVec 4) (s : State) : Result State := emitOp s e (.emitS e rs ra n) rs ra n true

/-- SIEVE (R173): the signed value of ra is offered, stamped CSTAMP. -/
def execSieveOffer (e : Nat) (rr ra : BitVec 4) (s : State) : Result State :=
  onCtx s e (.sieveOffer e rr ra) (fun x c y =>
    let r := (readReg x y rr).toNat
    let g := engDie e * 64 + r
    let m := (s.ruleAt g).img
    if 63 < r then faultEnd s e c 2 r
    else if !ownsFor s e (ruleOwner s g) then faultEnd s e c 3 r
    else if !(m.present && m.srcKind == 1) then faultEnd s e c 2 r
    else nextPc (offerTo s g (readReg x y ra).toInt y.cstamp) e c)

/-- Whether the die's matrix holds a row of kind 8 with index L that belongs to a parish (R174). -/
def lineRow (s : State) (d l : Nat) (owner : Option Nat) : Bool :=
  s.row.any (fun r => r.1 / 256 == d && r.2.src == 0x8000 + l && rowOwner s d (r.1 % 256) == owner)

/-- The checks of a SIGNAL and its effect on the engine's own level (R174). -/
def signalOp (s : State) (e : Nat) (i : Instr) (ra : BitVec 4) (f : Engine → Nat → Engine) : Result State :=
  onCtx s e i (fun x c y =>
    let l := (readReg x y ra).toNat
    if 63 < l then faultEnd s e c 2 l
    else if (engOwner s e).isNone ∨ lineRow s (engDie e) l (engOwner s e) = false then faultEnd s e c 3 l
    else nextPc (s.modEng e (fun z => f z l)) e c)

/-- SIGNAL LOW (R174). -/
def execSignalLow (e : Nat) (ra : BitVec 4) (s : State) : Result State :=
  signalOp s e (.signalLow e ra) ra (fun z l => { z with lines := clrBit z.lines l, pulses := clrBit z.pulses l })
/-- SIGNAL HIGH (R174). -/
def execSignalHigh (e : Nat) (ra : BitVec 4) (s : State) : Result State :=
  signalOp s e (.signalHigh e ra) ra (fun z l => { z with lines := setBit z.lines l, pulses := clrBit z.pulses l })
/-- SIGNAL PULSE (R174): the pulse ends with the row change that the 4 SYS cycles bring. -/
def execSignalPulse (e : Nat) (ra : BitVec 4) (s : State) : Result State :=
  signalOp s e (.signalPulse e ra) ra (fun z l => { z with lines := clrBit z.lines l, pulses := setBit z.pulses l })

/-! ### The end and the start of a context on the engine (R152, R153, R175) -/

/-- The pair digest of a context's entry closes (R175). -/
def closeDigest (s : State) (e c : Nat) : State :=
  let y := (s.engAt e).ctxAt c
  if bitOf y.flags 2 then
    s.modDie (engDie e) (fun x => { x with curDigests := tput x.curDigests y.entry (some (y.digest ^^^ 0xFFFFFFFF)) })
  else s

/-- YIELD (R153, R175). -/
def execYield (e : Nat) (s : State) : Result State :=
  onCtx s e (.yield e) (fun _ c _ => endCtx (closeDigest s e c) e c none)

/-- TRAP (R176): the context ends with fault TRAP. -/
def execTrap (e : Nat) (code : BitVec 8) (s : State) : Result State :=
  onCtx s e (.trap e code) (fun _ c _ => faultEnd s e c 6 code.toNat)

/-- The delay from a stamp to now, in units of 10 ns (R201). -/
def lagSince (s : State) (st : Stamp) : Nat := (stampQ s.nowStamp + stampSpan - stampQ st) % stampSpan / 40

/-- A context takes the engine: an AWAIT that it waited in returns (R167), and its first dispatch counts towards START_LAG_MAX
(R201). -/
def takeEngine (s : State) (e c : Nat) (rest : List Nat) : State :=
  let y := (s.engAt e).ctxAt c
  let s1 := s.modEng e (fun z => { z with running := some c, ready := rest })
  match y.await with
  | some a => awaitReturn s1 e c a
  | none =>
    if y.began then s1
    else (s1.modCtx e c (fun z => { z with began := true })).modDie (engDie e) (fun z => { z with
      startLag := max z.startLag (lagSince s y.launchStamp) })

/-- CONTEXT_DISPATCH (R152): the engine is free and the context that became ready first runs on it, unless its budget has
expired. -/
def execContextDispatch (e : Nat) (s : State) : Result State :=
  withEngine s e (
    let x := s.engAt e
    match x.running, x.ready with
    | none, c :: rest => given (!engHalted s e && decide (s.ticks < (x.ctxAt c).budgetEnd)) s (takeEngine s e c rest)
    | _, _ => s)

end Sys2Proof.Machine
end

