-- ==== Sys2Proof/Machine/Rota.lean ====
section
/-! DEFINITION. The rota: entries, launches, missed entries, stale records and windows (R180 to R196), and the edges of the
port pins (R57, R102, R187). -/

namespace Sys2Proof.Machine

/-! ### Entries (R182 to R184) -/

/-- Frames of an entry's cycle: REPEAT + 1. -/
def RotaEntry.cycle (r : RotaEntry) : Nat := field r.flags 7 4 + 1
/-- DRDY. -/
def RotaEntry.drdy (r : RotaEntry) : Bool := bitOf r.flags 0
/-- CALGAP. -/
def RotaEntry.gap (r : RotaEntry) : Bool := bitOf r.flags 1
/-- PAIR. -/
def RotaEntry.pair (r : RotaEntry) : Bool := bitOf r.flags 2
/-- EMITTER. -/
def RotaEntry.emitter (r : RotaEntry) : Bool := bitOf r.flags 3

/-- The frame selector k of an entry (R184). -/
def entryK (t : Rota) (r : RotaEntry) : Nat := if t.frameLen = 0 then 0 else r.offset / t.frameLen
/-- The in-frame offset of an entry, in 10 ns units (R184). -/
def entryIn (t : Rota) (r : RotaEntry) : Nat := if t.frameLen = 0 then 0 else r.offset % t.frameLen

/-- An entry of the active bank. -/
def Die.entryAt (x : Die) (i : Nat) : Option RotaEntry := x.active.entries[i]?

/-- 10 ns units in units of 2^-32 ns. -/
def tenNs (n : Nat) : Int := (n * 10 * 2 ^ 32 : Nat)

/-- The nominal instant of an entry in the running frame, in units of 2^-32 ns; none when no frame runs or the entry is not
due in it (R184). -/
def nominalAt (x : Die) (r : RotaEntry) : Option Int :=
  match x.frameStart with
  | none => none
  | some fs => if x.frameN % (r.cycle : Int) = entryK x.active r then some (fs + tenNs (entryIn x.active r)) else none

/-- The stamp of a network time in units of 2^-32 ns. -/
def fineStamp (f : Int) : Stamp := stampOf (f / 2 ^ 30).toNat

/-- The rota that the next frame boundary of a die follows: the one that a power transition loaded, if any (R202). -/
def turnRota (x : Die) : Rota := x.bankTurn.getD x.active

/-- Whether the present tick holds a frame instant of a rota (R181). -/
def frameInstant (s : State) (t : Rota) : Bool :=
  let len := tenNs t.frameLen
  0 < len && decide (((s.time.fine : Int) - tenNs t.phase) % len < s.time.increment)

/-- The exact instant of the present tick's frame boundary, in units of 2^-32 ns. -/
def frameInstantAt (s : State) (t : Rota) : Int :=
  (s.time.fine : Int) - ((s.time.fine : Int) - tenNs t.phase) % tenNs t.frameLen

/-- Whether a frame boundary of a die comes now: an instant of its rota, with the running frame complete, while frames are not
paused and its rota has not stopped (R18). A frame in which a step came is complete after FRAME_LEN, in units of 10 ns, of elapsed
ticks of 4 ns (R46). -/
def atBoundary (s : State) (d : Nat) : Bool :=
  let x := s.dieAt d
  x.logicOn && !x.lost && !x.paused && !x.leadLost && !x.stopAtFrame && (turnRota x).valid && frameInstant s (turnRota x)
    && (match x.frameStart with
        | none => true
        | some fs => if x.frameCut then decide (2 * x.frameTick + 5 * x.active.frameLen ≤ 2 * s.ticks)
          else decide (fs + tenNs x.active.frameLen ≤ (s.time.fine : Int)))

/-- Whether entries of a parish launch on a die: in TEST, RUN and RECOVERY (R292). -/
def parishLaunches (s : State) (p d : Nat) : Bool :=
  let st := parStateOn s p d
  st == 1 || st == 2 || st == 3

/-- Whether fixed-frequency switching runs on a die: the window of an entry with EMITTER is open (R186). -/
def fixedFrequency (x : Die) : Bool :=
  x.opens.any (fun w => ((x.entryAt w.entry).map RotaEntry.emitter).getD false)

/-! ### Missed entries (R188, R189) -/

/-- An entry is missed: it is counted by its cause, and a stale record goes to its STALE_STREAM (R188, R189). -/
def missEntry (s : State) (d i cause : Nat) (stamp : Stamp) : State :=
  let s1 := s.modDie d (fun x => { x with
    missed := x.missed + 1, missedBy := tput x.missedBy cause (satInc 65535 (tget 0 x.missedBy cause)) })
  match (s.dieAt d).entryAt i with
  | none => s1
  | some r =>
    if r.stale = 0xFFFF then s1
    else putRecord s1 (d * 512 + r.stale % 512) {
      stream := d * 512 + r.stale % 512, stamp := stamp, flags := 1
      pcode := 16 + engParish s (d * 24 + r.engine) % 16
      words := [BitVec.ofNat 32 (i % 2048 + cause % 16 * 65536)] }

/-! ### Launching (R151, R187, R196) -/

/-- The engine that an entry launches on: its own, or the standby engine that has taken its entries over (R196). -/
def entryEngine (x : Die) (d : Nat) (r : RotaEntry) : Nat :=
  let sb := nth 0xFF x.active.standby r.engine
  d * 24 + (if bitOf x.standbyActive r.engine && sb < 24 then sb else r.engine)

/-- The context that a launch takes: the hinted one when it is free, else the lowest free one (R151). -/
def freeContext (x : Engine) (hint : Nat) : Option Nat :=
  let isFree (c : Nat) : Bool := decide (c < x.bench) && !(x.ctxAt c).live
  if isFree hint then some hint else (List.range x.bench).find? isFree

/-- The window of an entry, once open, has launched a context or is counted as missed. -/
def markWindow (s : State) (d i : Nat) (f : OpenWindow → OpenWindow) : State :=
  s.modDie d (fun x => { x with opens := x.opens.map (fun w => if w.entry = i then f w else w) })

/-- A context of an entry's engine is made ready with its launch stamp; with none free the launch is refused and BENCHFULL
recorded, and on a halted engine the entry is missed (R151, R168, R176, R188). -/
def launchEntry (s : State) (d i : Nat) (r : RotaEntry) (w : OpenWindow) (stamp : Stamp) : State :=
  let e := w.engine
  let x := s.engAt e
  if engHalted s e then missEntry (markWindow s d i (fun v => { v with done := true })) d i 4 w.nominal
  else match freeContext x r.hint with
  | none => missEntry (markWindow (engineFault s e r.hint 7 r.entryPt i) d i (fun v => { v with done := true })) d i 2 w.nominal
  | some c =>
    let y : Ctx := { live := true, pc := r.entryPt, cstamp := stamp, launchStamp := stamp, entry := i, flags := r.flags
                     budgetEnd := w.endAt }
    let s1 := s.modEng e (fun z => { z with
      ctxs := tput z.ctxs c y, launches := z.launches + 1
      peak := max z.peak ((tput z.ctxs c y).filter (fun v => v.2.live)).length })
    markWindow (makeReady s1 e c) d i (fun v => { v with ctx := some c })

/-- Whether an edge of a pin, of a polarity, fits a LAUNCH_PIN byte: bits 3:0 handle, 5:4 pin, 7:6 edge (R199). -/
def launchPinFits (lp h pin : Nat) (rising : Bool) : Bool :=
  field lp 3 0 == h && field lp 5 4 == pin && bitOf lp (if rising then 6 else 7)

/-- The edge, already confirmed, that launches an entry with DRDY: on its engine's launch pin and not before its nominal
instant (R187). -/
def edgeFor (s : State) (d : Nat) (r : RotaEntry) (nominal : Stamp) : Option Stamp :=
  let lp := nth 0 (s.dieAt d).active.launchPin r.engine
  let st := (s.portAt (d * 12 + field lp 3 0)).edgeStamp
  let one (rising : Bool) : Option Stamp :=
    if bitOf lp (if rising then 6 else 7) then
      ((st.find? (fun e => e.1 == edgeKey (field lp 5 4) rising)).map (·.2)).filter (fun t => stampGe t nominal)
    else none
  match one true, one false with
  | some a, some b => some (if stampGe a b then b else a)
  | some a, none => some a
  | none, b => b

/-- The nominal instant of an entry that is due (R187): its window opens; a plain entry launches, an entry with DRDY launches
once its edge has come, and a gap opens the port's chain to calibration. An entry that cannot run is missed (R188). -/
def nominalInstant (s : State) (d i : Nat) (r : RotaEntry) (f : Int) : State :=
  let x := s.dieAt d
  let nom := fineStamp f
  let s1 := s.modDie d (fun z => { z with instants := i :: z.instants })
  let w : OpenWindow := { entry := i, nominal := nom, engine := entryEngine x d r, endAt := s.ticks + r.budget * 250 }
  let opened := s1.modDie d (fun z => { z with opens := z.opens ++ [w] })
  if r.gap then openGap opened (d * 12 + r.engine % 12) (bitOf r.flags 3) w.endAt
  else if !parishLaunches s (engParish s (d * 24 + r.engine)) d || !engNamed s w.engine then s1
  else if x.rotaNone || x.rotaDamaged.contains i then missEntry s1 d i 6 nom
  else if engHalted s w.engine then missEntry s1 d i 4 nom
  else if r.drdy then
    match edgeFor s d r nom with
    | some t => launchEntry opened d i r w t
    | none => opened
  else launchEntry opened d i r w nom

/-- Whether an entry of a die is due now: a frame runs in which it is due, and its nominal instant has come and was not yet
taken. Answers the entry and its nominal instant. -/
def entryDue (s : State) (d i : Nat) : Option (RotaEntry × Int) :=
  let x := s.dieAt d
  if x.lost || !x.logicOn || x.instants.contains i then none
  else match x.entryAt i with
    | none => none
    | some r => match nominalAt x r with
      | none => none
      | some f => if f ≤ s.time.fine then some (r, f) else none

/-- Whether no other entry of a die is due before an entry of the given nominal instant: one of an earlier instant, or of the
same instant and a lower index (R187). -/
def entryFirst (s : State) (d i : Nat) (f : Int) : Bool :=
  (List.range (s.dieAt d).active.entries.length).all (fun j => match entryDue s d j with
    | none => true
    | some (_, g) => decide (f < g ∨ (f = g ∧ i ≤ j)))

/-- ENTRY_NOMINAL_INSTANT (R187). -/
def execEntryNominalInstant (d entry : Nat) (s : State) : Result State :=
  withDie s d (
    match entryDue s d entry with
    | none => s
    | some (r, f) => given (entryFirst s d entry f) s (nominalInstant s d entry r f))

/-- Whether an open window still waits for its edge: not at its end, where DRDY_MISS wins, nor once an entry to a lower power
state has stopped the launches (R188, R406). -/
def windowWaits (s : State) (w : OpenWindow) (r : RotaEntry) : Bool :=
  r.drdy && w.ctx.isNone && !w.done && decide (s.ticks < w.endAt) && s.power.state != 5

/-- CONTEXT_LAUNCH (R151): a due entry without DRDY launches, or an open window whose edge has come does. -/
def execContextLaunch (d entry : Nat) (s : State) : Result State :=
  withDie s d (
    match entryDue s d entry with
    | some (r, f) => given (entryFirst s d entry f && !r.gap && (!r.drdy || (edgeFor s d r (fineStamp f)).isSome)) s
        (nominalInstant s d entry r f)
    | none =>
      match (s.dieAt d).opens.find? (fun w => w.entry == entry), (s.dieAt d).entryAt entry with
      | some w, some r =>
        match edgeFor s d r w.nominal with
        | some t => given (windowWaits s w r) s (launchEntry s d entry r w t)
        | none => s
      | _, _ => s)

/-! ### The end of a window (R190 to R193) -/

/-- The operations that ended contexts of an entry left behind are aborted with BUDGET (R190). -/
def abortOrphans (s : State) (d e i : Nat) : State :=
  let ks := ((s.dieAt d).slots.filter (fun k =>
    k.2.orphan && k.2.engine == e && k.2.entry == i && k.2.state != 0 && k.2.state != 4)).map (·.1)
  ks.foldl (fun x k => abortOp x d k 12 true) s

/-- Whether a window's context still lives. -/
def windowLive (s : State) (w : OpenWindow) : Option Nat :=
  match w.ctx with
  | none => none
  | some c =>
    let y := (s.engAt w.engine).ctxAt c
    if y.live && y.entry == w.entry then some c else none

/-- The window of an entry closes: a live context ends by budget and the entry is missed; an entry with DRDY whose edge never
came is missed; a gap's calibration leaves the chain (R188, R190, R194). -/
def closeWindow (s : State) (d : Nat) (w : OpenWindow) (r : RotaEntry) : State :=
  let s1 := s.modDie d (fun x => { x with opens := x.opens.filter (fun v => v.entry != w.entry) })
  if r.gap then
    closeGap s1 (d * 12 + r.engine % 12)
  else
    let s2 := match windowLive s w with
      | some c =>
        let st := ((s.engAt w.engine).ctxAt c).launchStamp
        missEntry (endCtx s1 w.engine c (some 12)) d w.entry 1 st
      | none => if w.ctx.isNone && !w.done then missEntry s1 d w.entry 3 w.nominal else s1
    abortOrphans s2 d w.engine w.entry

/-- WINDOW_END (R190): BUDGET µs of elapsed time have passed since the nominal instant. -/
def execWindowEnd (d entry : Nat) (s : State) : Result State :=
  withDie s d (
    match (s.dieAt d).opens.find? (fun w => w.entry == entry), (s.dieAt d).entryAt entry with
    | some w, some r => given (decide (w.endAt ≤ s.ticks)) s (closeWindow s d w r)
    | _, _ => s)

/-! ### Pin edges (R57, R87, R102, R167, R187) -/

/-- The first waiting two-wire operation of a port that an edge lets start leaves WAIT_EDGE (R102, R193). -/
def wakeEdgeOp (s : State) (n key : Nat) : State :=
  let d := portDie n
  match (s.portAt n).queue.find? (fun k =>
      ((s.dieAt d).slotAt k).state == 1 && drdyKey ((s.dieAt d).slotAt k).d0 == key) with
  | none => s
  | some k => s.modSlot d k (fun y => { y with state := 2 })

/-- A wait for an edge that this edge meets keeps its stamp (R167). -/
def meetEdge (h pin : Nat) (rising : Bool) (st : Stamp) (y : Ctx) : Ctx :=
  match y.await with
  | none => y
  | some a =>
    if a.kind = 1 ∧ a.met = none ∧ a.arg = h ∧ a.sub % 4 = pin ∧ bitOf a.sub (if rising then 2 else 3) = true
    then { y with await := some { a with met := some st } } else y

/-- Every engine of a die looks at an edge (R167). -/
def meetEdges (s : State) (d h pin : Nat) (rising : Bool) (st : Stamp) : State :=
  { s with engine := s.engine.map (fun e =>
      if engDie e.1 = d then (e.1, { e.2 with ctxs := e.2.ctxs.map (fun c => (c.1, meetEdge h pin rising st c.2)) }) else e) }

/-- A window takes its place among windows in ascending order of their entries. -/
def insertWindow (w : OpenWindow) : List OpenWindow → List OpenWindow
  | [] => [w]
  | v :: t => if w.entry ≤ v.entry then w :: v :: t else v :: insertWindow w t

/-- The open windows that wait for an edge launch on it, in ascending index order (R187). -/
def launchOnEdge (s : State) (d h pin : Nat) (rising : Bool) (st : Stamp) : State :=
  ((s.dieAt d).opens.foldr insertWindow []).foldl (fun x w =>
    match (s.dieAt d).entryAt w.entry with
    | none => x
    | some r =>
      if windowWaits s w r && stampGe st w.nominal
          && launchPinFits (nth 0 (s.dieAt d).active.launchPin r.engine) h pin rising
      then launchEntry x d w.entry r w st else x) s

/-- BUS_BUSY after an edge of SDA while SCL reads high: a fall is the START of another controller and a rise its STOP, unless the
port's own transfer or recovery drives the lines (R103, R107). -/
def busSeen (s : State) (n pin : Nat) (rising : Bool) : Bool :=
  let x := s.portAt n
  if x.mode = 1 ∧ pin = 1 ∧ bitOf x.pinIn.toNat 0 = true ∧ x.recovering = false ∧ (activeOp s n 0).isNone = true then !rising
  else x.busBusy

/-- PIN_EDGE (R57): an edge on a pin is confirmed by its filter and stamped. It is counted in PIN_EDGE, latched for
data-ready use in TWO_WIRE mode, shows the STARTs and STOPs of other controllers, and serves the engines and the entries that
wait for it. -/
def execPinEdge (n pin : Nat) (rising : Bool) (bins : Nat) (s : State) : Result State :=
  withUnit (decide (n < usedDies s * 12 ∧ pin < 4)) "pin" (
    let d := portDie n
    let st := captureAt s n pin bins
    let key := edgeKey pin rising
    let bit : BitVec 4 := BitVec.ofNat 4 (2 ^ pin)
    let s1 := s.modPort n (fun x => { x with
      pinIn := if rising then x.pinIn ||| bit else x.pinIn &&& ~~~bit
      rise := if rising then x.rise ||| bit else x.rise
      fall := if rising then x.fall else x.fall ||| bit
      edgeStamp := tput x.edgeStamp key st, pinAt := tput x.pinAt pin s.ticks, busBusy := busSeen s n pin rising
      edgeLatch := if x.mode = 1 ∧ 2 ≤ pin then tput x.edgeLatch key st else x.edgeLatch })
    let s2 := if (s.portAt n).mode = 1 ∧ 2 ≤ pin then wakeEdgeOp s1 n key else s1
    given (domainOn s n) s (launchOnEdge (meetEdges s2 d (n % 12) pin rising st) d (n % 12) pin rising st))

end Sys2Proof.Machine
end

