-- ==== Sys2Proof/Machine/Mill.lean ====
section
/-! DEFINITION. The mill (R203 to R215): samples, outputs, rounds and release; and the MILL instruction (R172). -/

namespace Sys2Proof.Machine

/-! ### Samples (R204 to R207, R211) -/

/-- A restart: the history and the decimation phase are cleared, and the channel settles again (R211). -/
def MillChan.restart (x : MillChan) : MillChan := { x with history := [], count := 0, since := 0, settled := false }

/-- The exact sum of coefficients and sample values, newest sample first (R204). -/
def millAcc : List Int → List (Word × Stamp) → Int
  | c :: cs, h :: hs => c * wordValue h.1 + millAcc cs hs
  | _, _ => 0

/-- The rounded and shifted sum before clamping (R204). -/
def millY (m : MillImg) (acc : Int) : Int :=
  if m.shift = 0 then acc else (acc + (2 ^ (m.shift - 1) : Nat)) / (2 ^ m.shift : Nat)

/-- The stamp at the group-delay centre, GD_HALF half-samples back from the newest sample (R207). -/
def millStamp (gd : Nat) (h : List (Word × Stamp)) : Stamp :=
  let at' (i : Nat) : Stamp := ((h[i]?).map (·.2)).getD 0
  if gd % 2 = 0 then at' (gd / 2)
  else
    let older := at' ((gd + 1) / 2)
    stampAdd older ((stampQ (at' ((gd - 1) / 2)) + stampSpan - stampQ older) % stampSpan / 2)

/-- The output word of a window of samples (R206). -/
def millWord (m : MillImg) (h : List (Word × Stamp)) (first : Bool) : Word :=
  let win := h.take m.taps
  let y := millY m (millAcc m.coeffs win)
  let v := clampInt (-(2 ^ 26)) (2 ^ 26 - 1) y
  let has (b : Nat) : Bool := win.any (fun e => bitOf e.1.toNat b)
  BitVec.ofNat 32 (ofInt 27 v + b2n (has 27 || v != y) * 2 ^ 27 + b2n (has 28) * 2 ^ 28 + b2n (has 29) * 2 ^ 29
    + b2n first * 2 ^ 30)

/-- The lag that governs an output which becomes due now: D, or a greater old D for the first old-D rounds after a smaller one
took effect (R210, R212). -/
def dueLag (x : Die) : Nat := x.oldLags.foldl (fun a q => max a q.1) x.lag

/-- A sample enters a channel's history; at every DECIM-th one an output becomes due, suppressed while its window holds
a sample from before the last settle cause (R204, R211). -/
def MillChan.accept (x : MillChan) (round lag : Nat) (word : Word) (stamp : Stamp) : MillChan :=
  let h := ((word, stamp) :: x.history).take 512
  let x1 := { x with history := h, count := x.count + 1, since := x.since + 1, lastIn := some stamp }
  if (x.count + 1) % x.img.decim ≠ 0 then x1
  else if x.since + 1 < x.img.taps then { x1 with suppressed := x1.suppressed + 1 }
  else { x1 with
    settled := true
    waiting := x1.waiting ++ [{ word := millWord x.img h (!x.settled), stamp := millStamp x.img.gdHalf h
                                round := round, lag := lag, stream := x.img.outStream }] }

/-- A sample submitted to a channel is accepted, discarded or restarts the channel (R205). -/
def MillChan.submit (x : MillChan) (round lag : Nat) (word : Word) (stamp : Stamp) : MillChan :=
  let drop : MillChan := { x with inDropped := satInc 65535 x.inDropped }
  let late := match x.lastIn with
    | none => false
    | some t => stampGe t stamp
  let gap := match x.lastIn with
    | none => false
    | some t => 3 * x.img.inPeriod * 40 < 2 * ((stampQ stamp + stampSpan - stampQ t) % stampSpan)
  if !x.img.enable || late then drop
  else if bitOf word.toNat 30 then { x.restart with gaps := satInc 65535 x.gaps }
  else if gap then MillChan.accept { x.restart with gaps := satInc 65535 x.gaps } round lag word stamp
  else x.accept round lag word stamp

/-- MILL (R172): the sample word in ra goes to channel rc of the die, stamped CSTAMP + rb × 0.25 ns. -/
def execMillSubmit (e : Nat) (rc ra rb : BitVec 4) (s : State) : Result State :=
  onCtx s e (.millSubmit e rc ra rb) (fun x c y =>
    let k := (readReg x y rc).toNat
    let ch := engDie e * 16 + k
    let d := s.dieAt (engDie e)
    if 15 < k then faultEnd s e c 2 k
    else if !ownsFor s e (millOwner s ch) then faultEnd s e c 3 k
    else nextPc (s.modMill ch (fun z =>
      z.submit d.round (dueLag d) (readReg x y ra) (stampAdd y.cstamp (readReg x y rb).toNat))) e c)

/-! ### Computing and release (R206, R208, R210) -/

/-- The first output of a channel that is not yet computed. -/
def MillChan.todo (x : MillChan) : Option MillOut := x.waiting.find? (fun o => !o.ready)

/-- Marks the first output that is not yet computed. -/
def markReady : List MillOut → List MillOut
  | [] => []
  | o :: t => if o.ready then o :: markReady t else { o with ready := true } :: t

/-- MILL_OUTPUT_COMPUTED (R210): the MAC engine computes due outputs in the order in which they became due, and in channel
order within one round. -/
def execMillOutputComputed (c : Nat) (s : State) : Result State :=
  withMill s c (
    match (s.millAt c).todo with
    | none => s
    | some o => given ((s.dieAt (millDie c)).logicOn && (List.range 16).all (fun k =>
          match (s.millAt (millDie c * 16 + k)).todo with
          | none => true
          | some q => decide (o.round < q.round ∨ (o.round = q.round ∧ c % 16 ≤ k)))) s
        (s.modMill c (fun x => { x with waiting := markReady x.waiting })))

/-- One output leaves the mill: its record, in the stream of the image that it became due under, and its offer to the rules that
take the channel (R206, R210, R213). -/
def releaseOut (s : State) (c : Nat) (o : MillOut) : State :=
  let d := millDie c
  let x := s.millAt c
  let late := decide (o.round + o.lag < (s.dieAt d).round)
  let s1 := s.modMill c (fun y => { y with
    waiting := y.waiting.drop 1, outputs := y.outputs + 1, lateOut := if late then y.lateOut + 1 else y.lateOut
    lastOut := o.word, lastStamp := o.stamp, staleNext := if o.stream = 0xFFFF then y.staleNext else false })
  let k := d * 512 + o.stream % 512
  let w := o.word.toNat
  let s2 := if o.stream = 0xFFFF then s1 else putRecord s1 k {
    stream := k, stamp := o.stamp, pcode := 32 + (millOwner s c).getD 0 % 16
    flags := b2n x.staleNext + 2 * b2n (bitOf w 29) + 4 * b2n (bitOf w 28) + 8 * b2n late + 64 * b2n (bitOf w 30)
    words := [o.word] }
  offerFrom s2 d 3 (c % 16) (wordValue o.word) o.stamp

/-- The outputs of a channel that may leave in the present round, oldest first (R208, R210). -/
def releasable (round : Nat) : List MillOut → List MillOut
  | [] => []
  | o :: t => if o.ready && decide (o.round + o.lag ≤ round) then o :: releasable round t else []

/-- MILL_SLOT (R208): the slot of a channel passes; the outputs that are ready and due for this round leave in due order, one for
each of its 64 SYS cycles. -/
def execMillSlot (c : Nat) (s : State) : Result State :=
  withMill s c (
    let x := s.millAt c
    given ((s.dieAt (millDie c)).logicOn && !x.halted) s
      (((releasable (s.dieAt (millDie c)).round x.waiting).take 64).foldl (fun y o => releaseOut y c o) s))

/-! ### Rounds and new banks (R211, R212) -/

/-- Whether two images differ in the coefficients and SHIFT alone (R211). -/
def coeffSwapOnly (a b : MillImg) : Bool := { a with coeffs := b.coeffs, shift := b.shift } == b

/-- A channel takes its new image: a coefficient swap keeps the history; any other change, and the reload of a stopped channel,
is a channel switch (R211, R421). -/
def MillChan.takeImage (x : MillChan) (m : MillImg) : MillChan :=
  if x.img.enable && m.enable && !x.halted && coeffSwapOnly x.img m then
    { x with img := m, next := none, since := 0, settled := false, halted := false }
  else { x.restart with img := m, next := none, halted := false, lastIn := none }

/-- The channels of a die take the new bank, and the die the new lag (R212). -/
def takeBank (s : State) (d : Nat) : State :=
  let step (e : Nat × MillChan) : Nat × MillChan :=
    if millDie e.1 = d then
      match e.2.next with
      | some m => (e.1, e.2.takeImage m)
      | none => e
    else e
  let s1 := { s with mill := s.mill.map step }
  s1.modDie d (fun x =>
    let kept := (x.oldLags.map (fun q => (q.1, q.2 - 1))).filter (fun q => q.2 != 0)
    match x.lagNext with
    | none => { x with oldLags := kept }
    | some l => { x with
        lag := l, lagNext := none, oldLags := if l < x.lag then kept ++ [(x.lag, x.lag)] else kept })

/-- MILL_ROUND (R208, R212): a round boundary of a die passes. -/
def execMillRound (d : Nat) (s : State) : Result State :=
  withDie s d (given (s.dieAt d).logicOn s ((takeBank s d).modDie d (fun x => { x with round := x.round + 1 })))

end Sys2Proof.Machine
end

