-- ==== Sys2Proof/Machine/Sieve.lean ====
section
/-! DEFINITION. The sieve: rules, timers, silence limits and event records (R216 to R225). -/

namespace Sys2Proof.Machine

/-! ### Event records (R224, R225) -/

/-- The stamp of an instant so many ticks ago. -/
def stampBack (s : State) (lag : Nat) : Stamp := fineStamp ((s.time.fine : Int) - lag * s.time.increment)

/-- The event stream of a die. -/
def eventStream (d : Nat) : Nat := d * 512 + 0x1F1

/-- Undelivered event records of a die's queue, of one parish or of all. -/
def eventsHeld (s : State) (d : Nat) (p : Option Nat) : Nat :=
  ((s.streamAt (eventStream d)).ring.filter (fun r =>
    !r.delivered && r.pcode / 16 == 3 && (p.map (fun q => r.pcode % 16 == q)).getD true)).length

/-- A record is an undelivered event record of a rule. -/
def isEventOf (g : Nat) (r : Rec) : Bool :=
  !r.delivered && r.pcode / 16 == 3 && (nth 0 r.words 0).toNat % 512 == g

/-- An event coalesces into the oldest record of its rule: COUNT steps and LAST takes its stamp (R225). -/
def coalesce (g : Nat) (stamp : Stamp) : List Rec → List Rec
  | [] => []
  | r :: t =>
    if isEventOf g r then
      let w0 := (nth 0 r.words 0).toNat
      { r with words := [BitVec.ofNat 32 (w0 % 65536 + satInc 65535 (w0 / 65536) * 65536), nth 0 r.words 1,
                         stamp.setWidth 32, BitVec.ofNat 32 (stamp.toNat / 2 ^ 32)] } :: t
    else r :: coalesce g stamp t

/-- The payload of an event record (R224). -/
def eventWords (g type : Nat) (out fail timer : Bool) (value : Int) (stamp : Stamp) : List Word :=
  [BitVec.ofNat 32 (g % 512 + type % 8 * 512 + b2n out * 4096 + b2n fail * 8192 + b2n timer * 16384 + 65536),
   BitVec.ofInt 32 value, stamp.setWidth 32, BitVec.ofNat 32 (stamp.toNat / 2 ^ 32)]

/-- An event is placed: coalesced, written as a new record, or discarded (R225). -/
def placeEvent (s0 : State) (g : Nat) (words : List Word) (stamp : Stamp) : State :=
  let s := active s0
  let d := ruleDie g
  let p := (ruleOwner s g).getD 0
  let share := cfg s (0x2001 + 256 * p) 0x10 0
  let all := eventsHeld s d none
  let mine := eventsHeld s d (some p)
  let k := eventStream d
  let bump (f : Die → Die) : State := s.modDie d f
  if (192 < all ∨ share * 75 / 100 < mine) ∧ (s.streamAt k).ring.any (isEventOf g) then
    (bump (fun x => { x with spoilCo := tput x.spoilCo p (satInc 4294967295 (tget 0 x.spoilCo p)) })).modStream k
      (fun x => { x with ring := coalesce g stamp x.ring })
  else if all < 256 ∧ mine < share then
    putRecord (bump (fun x => { x with queuePeak := max x.queuePeak (all + 1) })) k
      { stream := k, stamp := stamp, pcode := 48 + p % 16, words := words }
  else bump (fun x => { x with spoilDrop := tput x.spoilDrop p (satInc 4294967295 (tget 0 x.spoilDrop p)) })

/-! ### Changes of OUT (R219) -/

/-- POL. -/
def RuleImg.pol (m : RuleImg) : Bool := bitOf m.mode 0
/-- EDGE. -/
def RuleImg.edge (m : RuleImg) : Nat := Sys2Proof.Machine.field m.mode 2 1
/-- FAIL_VALUE. -/
def RuleImg.failValue (m : RuleImg) : Bool := bitOf m.mode 3
/-- T in ticks of 4 ns. -/
def RuleImg.tTicks (m : RuleImg) : Nat := m.t * 250

/-- OUT of a rule takes a level: on a change, events under EDGE are counted, recorded and passed to the crier, a line pulse
starts, and verdicts act (R219). -/
def ruleOut (s : State) (g : Nat) (out : Bool) (stamp : Stamp) (value : Int) (timer fail : Bool) : State :=
  let x := s.ruleAt g
  let m := x.img
  if out = x.out then s
  else
    let event := bitOf m.edge (if out then 0 else 1)
    let s1 := s.modRule g (fun y => { y with
      out := out, events := if event then y.events + 1 else y.events
      pulse := y.pulse || (event && bitOf m.outputs 1 && bitOf m.outputs 2) })
    let s2 := if event && bitOf m.outputs 0 then
        placeEvent s1 g (eventWords g m.type out fail timer (if timer || fail then 0 else value) stamp) stamp else s1
    let s3 := if event && bitOf m.outputs 3 then
        (match ruleOwner s g with
         | some p => crierReason s2 p 15 g
         | none => s2) else s2
    if bitOf m.outputs 4 then soRefresh s3 else s3

/-! ### Rule types (R220, R221) -/

/-- The condition c of COUNT and HOLD. -/
def RuleImg.cond (m : RuleImg) (v : Int) : Bool := if m.pol then decide (v ≤ m.a) else decide (m.a ≤ v)

/-- LEVEL on a value: within the hysteresis band OUT stays as it is. -/
def levelOut (m : RuleImg) (out : Bool) (v : Int) : Bool :=
  if m.pol then (if v ≤ m.a then true else if m.b < v then false else out)
  else (if m.a ≤ v then true else if v < m.b then false else out)

/-- The rising transitions of COUNT that lie within the last T. -/
def within (m : RuleImg) (now : Nat) (l : List Nat) : List Nat := l.filter (fun t => decide (now < t + m.tTicks))

/-- The state of a rule and its OUT after an accepted offer of a value (R220, R221). An unprimed rule keeps FAIL_VALUE until
the offer that primes it; SLOPE keeps it until K + 1 offers have come. -/
def judge (x : Rule) (v : Int) (arrived now : Nat) : Rule × Bool :=
  let m := x.img
  match m.type with
  | 0 => ({ x with primed := true }, levelOut m x.out v)
  | 1 => ({ x with primed := true }, if m.pol then decide (v < m.b ∨ m.a < v) else decide (m.b ≤ v ∧ v ≤ m.a))
  | 2 =>
    ({ x with primed := true, hist := (v :: x.hist).take m.n }, match x.hist[m.n - 1]? with
      | some old => levelOut m x.out (v - old)
      | none => x.out)
  | 3 =>
    let c := m.cond v
    let a := if x.primed && c && !x.lastC then (arrived :: x.arrivals).take m.n else x.arrivals
    ({ x with primed := true, lastC := c, arrivals := a }, decide (m.n ≤ (within m now a).length))
  | 4 =>
    let c := m.cond v
    let a := if !c then [] else if x.primed && !x.lastC then [arrived] else x.arrivals
    ({ x with primed := true, lastC := c, arrivals := a }, c && x.primed && x.out)
  | 6 =>
    if !x.primed then ({ x with primed := true, ref := v }, x.out)
    else if m.a < ((v - x.ref).natAbs : Int) then ({ x with ref := v }, !x.out) else (x, x.out)
  | _ => (x, x.out)

/-- COMBINE: AND or OR of the used inputs, each inverted by its INV bit (R220). -/
def combine (s : State) (d : Nat) (m : RuleImg) : Bool :=
  let vals := (List.range 4).filterMap (fun i =>
    let r := nth 0xFF m.ins i
    if r = 0xFF then none else some ((s.ruleAt (d * 64 + r)).out != bitOf m.inv i))
  if bitOf m.mode 4 then vals.any id else vals.all id && !vals.isEmpty

/-- SEQUENCE after changes of its inputs: a rise of IN0 rearms, a rise of IN1 within T sets OUT, its fall clears it (R220). -/
def sequenceEval (x : Rule) (rose fell : List Nat) (now : Nat) : Rule × Bool :=
  let m := x.img
  let i0 := nth 0xFF m.ins 0
  let i1 := nth 0xFF m.ins 1
  let a := if rose.contains i0 then [now] else x.arrivals
  let hit := a.any (fun t => decide (now ≤ t + m.tTicks))
  ({ x with arrivals := a }, if fell.contains i1 then false else if rose.contains i1 && hit then true else x.out)

/-! ### Evaluation (R217) -/

/-- Whether a rule is evaluated: its image is in force and undamaged (R421), and its parish is not in HALT, where rules stay
unprimed (R292); SEQUENCE and COMBINE have no unprimed state and follow their inputs there too (R221). -/
def ruleActs (s : State) (g : Nat) : Bool :=
  let d := ruleDie g
  let m := (s.ruleAt g).img
  m.present && !thas (s.dieAt d).reloadDue (0x8400 + g)
    && (m.type == 5 || m.type == 7 || !((ruleOwner s g).map (fun p => parStateOn s p d == 4)).getD true)

/-- A rule accepts an offer and is evaluated on it. -/
def evalOffer (s : State) (g : Nat) (v : Int) (arrived : Nat) (stamp : Stamp) : State :=
  if !ruleActs s g then s
  else
    let r := judge (s.ruleAt g) v arrived s.ticks
    let s1 := s.modRule g (fun _ => { r.1 with lastValue := v, lastStamp := stamp, heard := arrived })
    ruleOut s1 g r.2 stamp v false false

/-- Whether a rule takes the OUT of a lower-numbered rule of its die. -/
def RuleImg.takes (m : RuleImg) (r : Nat) : Bool :=
  m.present && ((m.srcKind == 6 && m.srcNum == r) || ((m.type == 5 || m.type == 7) && m.ins.contains r))

/-- One rule is evaluated when it takes a changed OUT; the list of changed rules grows when its own OUT changes. -/
def evalTaker (d : Nat) (stamp : Stamp) (acc : State × List Nat) (r : Nat) : State × List Nat :=
  let s := acc.1
  let g := d * 64 + r
  let x := s.ruleAt g
  let srcs := acc.2.filter x.img.takes
  if srcs.isEmpty || !ruleActs s g then acc
  else
    let isOut (q : Nat) : Bool := (s.ruleAt (d * 64 + q)).out
    let s1 :=
      if x.img.type = 5 then
        let e := sequenceEval x (srcs.filter isOut) (srcs.filter (fun q => !isOut q)) s.ticks
        ruleOut (s.modRule g (fun _ => e.1)) g e.2 stamp (b2n e.2) false false
      else if x.img.type = 7 then
        let o := combine s d x.img
        ruleOut s g o stamp (b2n o) false false
      else evalOffer s g (b2n (isOut x.img.srcNum)) s.ticks stamp
    (s1, if (s1.ruleAt g).out != x.out then acc.2 ++ [r] else acc.2)

/-- The rules that take a changed OUT are evaluated next, in ascending local number (R217). -/
def evalTakers (s : State) (g : Nat) (stamp : Stamp) : State :=
  ((List.range 64).foldl (evalTaker (ruleDie g) stamp) (s, [g % 64])).1

/-- What a change of a rule's OUT brings after it: its takers, and a check of the start-up tests (R381). -/
def afterRule (before s : State) (g : Nat) (stamp : Stamp) : State :=
  tryRun (if (s.ruleAt g).out != (before.ruleAt g).out then evalTakers s g stamp else s)

/-! ### Timers and silence (R218, R221) -/

/-- The elapsed tick at which a rule's time window next changes its OUT: the oldest counted rise of COUNT leaves the window,
or T has passed since the rise of HOLD. -/
def timerDue (x : Rule) : Option Nat :=
  let m := x.img
  if m.type = 3 ∧ x.out = true ∧ x.primed = true then (x.arrivals[m.n - 1]?).map (· + m.tTicks)
  else if m.type = 4 ∧ x.out = false ∧ x.primed = true ∧ x.lastC = true then x.arrivals.head?.map (· + m.tTicks)
  else none

/-- The elapsed tick at which the silence limit of a primed rule expires. -/
def silenceDue (x : Rule) : Option Nat :=
  if x.primed && x.img.silence != 0 then some (x.heard + msTicks x.img.silence) else none

/-- Whether the sieve has checked an expiry by an elapsed tick: it checks once per microsecond, here at whole microseconds of
elapsed time (R218; log entry 20). -/
def checkedBy (due now : Nat) : Bool := decide ((due + 249) / 250 * 250 ≤ now)

/-- Whether the sieve of a die has an expiry to evaluate before the next offer (R218, R222). -/
def expiryWaits (s : State) (d : Nat) : Bool :=
  s.rule.any (fun e => ruleDie e.1 == d && ruleActs s e.1
    && ((timerDue e.2).any (fun t => checkedBy t s.ticks) || (silenceDue e.2).any (fun t => checkedBy t s.ticks)))

/-- SIEVE_OFFER_EVAL (R217): the next queued offer of a die is evaluated for its rule, behind the expiries that a check has
found (R222). -/
def execSieveOfferEval (d : Nat) (s : State) : Result State :=
  withDie s d (
    match (s.dieAt d).offers with
    | [] => s
    | o :: rest =>
      let s1 := s.modDie d (fun x => { x with offers := rest })
      let g := d * 64 + o.rule
      given ((s.dieAt d).logicOn && !expiryWaits s d) s
        (afterRule s1 (evalOffer s1 g o.value o.arrived o.stamp) g o.stamp))

/-- SIEVE_TIMER_EXPIRY (R218): at a 1 µs check a rule's time window has expired; the event is stamped by the expiry. -/
def execSieveTimerExpiry (r : Nat) (s : State) : Result State :=
  withRule s r (
    match timerDue (s.ruleAt r) with
    | none => s
    | some t => given (ruleActs s r && checkedBy t s.ticks && (s.dieAt (ruleDie r)).logicOn) s (
        let st := stampBack s (s.ticks - t)
        afterRule s (ruleOut s r ((s.ruleAt r).img.type == 4) st 0 true false) r st))

/-- A rule becomes unprimed: OUT takes FAIL_VALUE and its history is lost (R221). -/
def unprimeRule (s : State) (g : Nat) (stamp : Stamp) (fail : Bool) : State :=
  let m := (s.ruleAt g).img
  let s1 := s.modRule g (fun x => { x with primed := false, lastC := false, hist := [], arrivals := [], ref := 0 })
  if m.type = 5 ∨ m.type = 7 then s else ruleOut s1 g m.failValue stamp 0 false fail

/-- SIEVE_SILENCE_EXPIRY (R221): no offer has been accepted for SILENCE ms; a primed rule becomes unprimed, and SIEVE 0x01 is
recorded. -/
def execSieveSilenceExpiry (r : Nat) (s : State) : Result State :=
  withRule s r (
    match silenceDue (s.ruleAt r) with
    | none => s
    | some due => given (ruleActs s r && checkedBy due s.ticks && (s.dieAt (ruleDie r)).logicOn) s (
        let st := stampBack s (s.ticks - due)
        let s1 := unprimeRule s r st true
        let s2 := s1.modRule r (fun y => { y with fails := satInc 65535 y.fails })
        afterRule s (raiseFault s2 (ruleDie r) 0x0E 1 r 0 0 false) r st))

/-! ### Images in force (R221, R222, R226) -/

/-- The rules of a die whose COMBINE inputs may have changed are evaluated anew after images were applied. -/
def ruleApplied (s : State) (g : Nat) (stamp : Stamp) : State :=
  let d := ruleDie g
  let m := (s.ruleAt g).img
  if m.type = 7 then ruleOut s g (combine s d m) stamp 0 false false else s

/-- A rule's image applies (R222, R226): the rule is unprimed and OUT takes FAIL_VALUE, with an event when it changes; without
an image the rule is removed and OUT is 0. SEQUENCE and COMBINE have no unprimed state. -/
def applyRule (s : State) (g : Nat) (img : RuleImg) : State :=
  let st := s.nowStamp
  let before := s
  if !img.present then
    let s1 := s.modRule g (fun x => { x with img := {}, out := false, primed := false, hist := [], arrivals := [], lastC := false
                                             pulse := false })
    soRefresh s1
  else
    let s1 := s.modRule g (fun x => { x with img := img, heard := s.ticks, hist := [], arrivals := [], lastC := false
                                             primed := img.type == 5 || img.type == 7 })
    let s2 := if img.type = 5 then ruleOut s1 g false st 0 false false
      else if img.type = 7 then ruleApplied s1 g st
      else unprimeRule s1 g st false
    afterRule before (soRefresh s2) g st

end Sys2Proof.Machine
end

