-- ==== Sys2Proof/Machine/Lanes.lean ====
section
/-! DEFINITION. The lanes of the die ring: paths, the frames that each die keeps until the next die acknowledges them, and what
travels in them (R17, R19 to R21, R34). Link l joins die l and the next die of the ring. -/

namespace Sys2Proof.Machine

/-! ### Paths (R19, R20, R22) -/

/-- The dies that a link joins. -/
def linkEnds (s : State) (l : Nat) : Nat × Nat := (l, (l + 1) % s.dies)

/-- Whether a link carries traffic: it is neither lost nor in a loopback (R21, R454). -/
def linkUp (s : State) (l : Nat) : Bool := !s.test.linkDown.contains l && tget 0 s.test.ringLoop l == 0

/-- Whether the n links from die a in the direction of increasing die number all carry traffic. -/
def linksUp (s : State) (a n : Nat) : Bool := (List.range n).all (fun i => linkUp s ((a + i) % s.dies))

/-- The hops from die a to die b in the direction of increasing die number. -/
def hopsUp (s : State) (a b : Nat) : Nat := (b + s.dies - a) % s.dies

/-- Whether die a reaches die b in either direction (R22). -/
def reaches (s : State) (a b : Nat) : Bool := a == b || linksUp s a (hopsUp s a b) || linksUp s b (hopsUp s b a)

/-- Whether a die still reaches die 0 in either direction (R22). -/
def reachesLead (s : State) (d : Nat) : Bool := reaches s d 0

/-- The link by which die a sends towards die b: the shortest path, equal lengths going in the direction of increasing die
number, and the other way when a link of that path is down (R20, R21). -/
def linkOut (s : State) (a b : Nat) : Nat :=
  let up := hopsUp s a b
  let dn := hopsUp s b a
  if (up ≤ dn && linksUp s a up) || !linksUp s b dn then a else (a + s.dies - 1) % s.dies

/-! ### Frames (R19, R21) -/

/-- A frame takes its place among those that a link has still to carry: after every frame of its class or of a higher one. -/
def placeFrame (f : RingFrame) : List RingFrame → List RingFrame
  | [] => [f]
  | g :: t => if f.cls < g.cls then f :: g :: t else g :: placeFrame f t

/-- A die keeps a frame for its link towards the frame's destination until the next die acknowledges it (R21). -/
def keepFrame (s : State) (d : Nat) (f : RingFrame) : State :=
  let l := linkOut s d f.dst
  s.modDie d (fun x => { x with unacked := tput x.unacked l (placeFrame f (tget [] x.unacked l)) })

/-- A frame sets out from a die for another one that the ring reaches; in SH-12 mode the ring carries nothing (R445). -/
def ringSend (s : State) (f : RingFrame) : State :=
  if f.src = f.dst ∨ s.cmpt ∨ reaches s f.src f.dst = false then s else keepFrame s f.src f

/-- The lead steward forwards a dictionary access to the steward of the die that owns the object, in the name of its parish,
and that steward answers (R17, R34). The access and its answer take effect within the command (log entry 26). -/
def forward (s : State) (d p key : Nat) : State :=
  ringSend (ringSend s { src := 0, dst := d, parish := p, key := key }) { src := d, dst := 0, parish := p, key := key }

end Sys2Proof.Machine
end

