-- ==== Sys2Proof/Machine/TimeBase.lean ====
section
/-! DEFINITION. The time base: ticks, alignment frames, rate, offset and steps, the servo and PTP (chapter 2). -/

namespace Sys2Proof.Machine

/-! ### Ticks (R36, R42, R60) -/

/-- Whether the TIME clock of die 0 runs: after start-up, in every power state but DEEP SLEEP and OFF, and not in the return from
DEEP SLEEP, which restores the time (R64, R396). -/
def timeRuns (s : State) : Bool :=
  s.dictReady && s.power.state != 3 && s.power.state != 4 && !(s.power.state == 6 && s.power.target == 3)

/-- The residual of a slew after a step of a given term. -/
def slewAfter (sl : Slew) (term : Int) : Option Slew :=
  if sl.residual - term = 0 then none else some { residual := sl.residual - term }

/-- What one tick adds beyond RATE: the slew term, or the whole remainder once it is smaller than one term (R42). -/
def TimeBase.tickTerm (t : TimeBase) : Int :=
  match t.slew with
  | none => 0
  | some sl => if sl.residual.natAbs < t.slewTerm.natAbs then sl.residual else t.slewTerm

/-- The counter after an increment in units of 2^-32 ns: NANOSECONDS carries into SECONDS at 1,000,000,000 (R36). -/
def TimeBase.advance (t : TimeBase) (inc : Int) : TimeBase :=
  let f := ((t.nanos * 2 ^ 32 + t.frac : Nat) + inc).toNat
  if 1000000000 ≤ f / 2 ^ 32 then
    { t with seconds := t.seconds + 1, nanos := f / 2 ^ 32 - 1000000000, frac := f % 2 ^ 32 }
  else { t with nanos := f / 2 ^ 32, frac := f % 2 ^ 32 }

/-- The time base after one TIME tick (R36, R42, R45). -/
def TimeBase.tick (t : TimeBase) : TimeBase :=
  let term := t.tickTerm
  let t1 := t.advance (t.rateForce + term)
  { t1 with elapsed := t.elapsed + 1, slew := t.slew.bind (fun sl => slewAfter sl term) }

/-- The anchors of a tick that carries SEC16 or SECONDS[19:0] through its wrap (R60). -/
def wrapAnchors (before : TimeBase) (s : State) : State :=
  if before.seconds = s.time.seconds then s
  else
    let sec := s.time.seconds.toNat
    let atWrap := { s with time := { s.time with nanos := 0, frac := 0 } }
    let put (reason : Nat) : State :=
      { anchorAll atWrap reason with time := s.time }
    if sec % 2 ^ 20 = 0 then put 2 else if sec % 65536 = 0 then put 1 else s

/-- TIME_TICK (R36): on an edge of the TIME clock the effective increment is added, with the carry into SECONDS. -/
def execTimeTick (s : State) : Result State :=
  .next (given (timeRuns s) s (everyTick (wrapAnchors s.time { s with time := s.time.tick })))

/-- SLEW_COMPLETE (R42): the remainder, smaller than one tick's slew term, is applied in one tick and the term removed. -/
def execSlewComplete (s : State) : Result State :=
  let due := match s.time.slew with
    | none => false
    | some sl => decide (sl.residual.natAbs < s.time.slewTerm.natAbs)
  .next (given (timeRuns s && due) s (everyTick (wrapAnchors s.time { s with time := { s.time.tick with slew := none } })))

/-! ### Steps and alignment frames (R24, R41, R43, R44) -/

/-- The time base moved by an offset in units of 2^-32 ns, within 2^48 seconds. -/
def TimeBase.moved (t : TimeBase) (off : Int) : TimeBase :=
  let f := (((t.fine : Nat) : Int) + off) % ((2 ^ 48 * 1000000000 * 2 ^ 32 : Nat) : Int)
  let n := f.toNat / 2 ^ 32
  { t with seconds := BitVec.ofNat 48 (n / 1000000000), nanos := n % 1000000000, frac := f.toNat % 2 ^ 32 }

/-- A step (R43): the offset in one tick, any slew cancelled, EPOCH incremented, LAST_STEP stored saturating in units of
2^-16 ns, and a STEP anchor on each die. A running frame ends in elapsed ticks; its start moves with the time (R46). -/
def applyStep (s : State) (off : Int) : State :=
  let t := s.time.moved off
  anchorAll { s with
    die := s.die.map (fun e => (e.1, { e.2 with
      frameStart := e.2.frameStart.map (· + off), frameCut := e.2.frameStart.isSome }))
    time := { t with slew := none, epoch := t.epoch + 1, lastStep := satInt 64 (off / 65536), epochFrom := t.quarters
                     closes := tput t.closes t.epoch.toNat s.time.quarters } } 4

/-- The changes that wait for the alignment frame take effect: a step first, TIME_SET before OFFSET_ADJ, then RATE and
SLEW_LIMIT; a new slew replaces the residual (R41, R42, R44). -/
def applyTimePending (s : State) : State :=
  let t := s.time
  let s1 := match t.setPend, t.offPend with
    | some off, _ => applyStep s off
    | none, some (off, true) => applyStep s (off * 65536)
    | none, some (off, false) =>
      { s with time := { t with slew := if off = 0 then none else some { residual := off * 65536 } } }
    | none, none => s
  { s1 with time := { s1.time with
      rateForce := if t.ratePend then t.rate else t.rateForce, ratePend := false
      slewLimit := t.slewLimitPend.getD t.slewLimit, slewLimitPend := none
      offPend := none, setPend := none } }

/-- One die in a time-alignment frame: re-aligned, or found not to hold the 1 ns agreement, which it reports (R24). -/
def alignDie (held : Nat) (s : State) (d : Nat) : State :=
  let was := (s.dieAt d).aligned
  let s1 := s.modDie d (fun x => { x with aligned := bitOf held d })
  if was && !bitOf held d then raiseFault s1 d 0x0C 6 d 0 0 true else s1

/-- TIME_ALIGN_FRAME (R24, R41): the alignment frame of the lead die goes to every other die over the ring, in the first of its
classes (R19); `held` names the dies that hold the agreement. -/
def execTimeAlignFrame (held : Nat) (s : State) : Result State :=
  .next (given (timeRuns s) s (
    let sent := ((List.range (usedDies s)).drop 1).foldl (fun x d =>
      if (x.dieAt d).logicOn && !(x.dieAt d).lost then ringSend x { cls := 1, src := 0, dst := d } else x) (applyTimePending s)
    (List.range (usedDies s)).foldl (alignDie held) sent))

/-! ### Writes (R37, R41 to R43, R47, R48) -/

/-- SERVO_MODE in force: 1 BUILTIN (R47). -/
def servoBuiltin (s : State) : Bool := cfg s 0x3020 1 1 == 1

/-- Whether a steered RATE differs from 4.0 ns by more than 20 ppm, 343,597 units of 2^-32 ns (R38). -/
def rateFar (v : Nat) : Bool := decide (343597 < ((v : Int) - 0x400000000).natAbs)

/-- The time base with RATE written: it waits for the next alignment frame (R41), and the span in which it lies far from nominal
goes on, begins or ends (R38). -/
def TimeBase.steer (t : TimeBase) (v : Nat) : TimeBase :=
  { t with rate := v, ratePend := true
           farAt := if rateFar v then (if t.farAt.isSome then t.farAt else some t.elapsed) else none }

/-- A write of RATE: 0x0302 outside ±500 ppm, 0x0403 in BUILTIN mode, else pending until the next alignment frame (R37,
R41, R47). A value that is out of range is refused as such in either mode, as R328 checks the range before the state. -/
def writeRate (s : State) (v : Nat) : State :=
  if v < 0x3FF7CED91 ∨ 0x40083126F < v then withStatus s 0x0302
  else if servoBuiltin s then withStatus s 0x0403
  else withStatus { s with time := s.time.steer v } 0

/-- A write of OFFSET_ADJ in units of 2^-16 ns, with the ADJ_MODE that stands at the write (R41, R42). -/
def writeOffset (s : State) (v : Int) : State :=
  if v < -(2 ^ 63) ∨ 2 ^ 63 ≤ v then withStatus s 0x0302
  else if servoBuiltin s then withStatus s 0x0403
  else withStatus { s with time := { s.time with offPend := some (v, s.time.adjMode == 1) } } 0

/-- The time a TIME96 spells, in units of 2^-32 ns (R39). -/
def time96Fine (v : Nat) : Nat := (field v 95 48 * 1000000000 + field v 45 16) * 2 ^ 32 + field v 15 0 * 65536

/-- A write of TIME_SET: a step by the written value less the time of receipt (R43). -/
def writeTimeSet (s : State) (v : Nat) : State :=
  if 1000000000 ≤ field v 45 16 then withStatus s 0x0302
  else if servoBuiltin s then withStatus s 0x0403
  else withStatus { s with time := { s.time with setPend := some ((time96Fine v : Int) - s.time.fine) } } 0

/-- The servo enters ACQUIRING at an elapsed tick (R48); `asked` by a write of REACQUIRE, which lets it step after the first lock
(R49). -/
def Servo.acquire (v : Servo) (at_ : Nat) (asked : Bool) : Servo :=
  { v with status := 1, integral := 0, basePpb := 0, count := 0, valid := 0, meas := [], stepped := false, gm := 0
           heardAt := at_, mayStep := asked }

/-- A write of REACQUIRE: 1 enters ACQUIRING; the servo is idle in HOST mode (R47, R48). -/
def writeReacquire (s : State) (v : Nat) : State :=
  if 1 < v then withStatus s 0x0302
  else if v = 1 ∧ servoBuiltin s = true then withStatus { s with servo := s.servo.acquire s.ticks true } 0
  else withStatus s 0

/-- RATE_WRITE (R37). -/
def execRateWrite (value : Nat) (s : State) : Result State := .next (writeRate s value)
/-- OFFSET_ADJ_WRITE (R42). -/
def execOffsetAdjWrite (value : Int) (s : State) : Result State := .next (writeOffset s value)
/-- TIME_SET_WRITE (R43). -/
def execTimeSetWrite (value : Nat) (s : State) : Result State := .next (writeTimeSet s value)
/-- REACQUIRE_WRITE (R48). -/
def execReacquireWrite (value : Nat) (s : State) : Result State := .next (writeReacquire s value)

/-- A RATE held within the range of R37. -/
def clampRate (v : Int) : Nat := (clampInt 0x3FF7CED91 0x40083126F v).toNat

/-- REF_RETUNE (R38): while LOCKED with the steered RATE more than 20 ppm from nominal for 10 s, REF moves one step toward nominal
and the measured effect of the step is added to RATE for the same alignment frame. The next 10 s begin with the step (DEDUCED, log
entry 16). -/
def execRefRetune (effect : Int) (s : State) : Result State :=
  let dev : Int := (s.time.rate : Int) - 0x400000000
  let tune := if 0 < dev then s.time.refTune + 1 else s.time.refTune - 1
  let tb := ({ s.time with refTune := tune, farAt := none }).steer (clampRate ((s.time.rate : Int) + effect))
  .next (given (s.servo.status == 2 && s.time.farAt.any (fun t => decide (t + msTicks 10000 ≤ s.ticks))) s
    { s with time := tb })

/-! ### The servo (R48 to R50) -/

/-- RATE from the frequency estimate and the loop's correction, clamped (R48): both in 1/256 ppb. The quotient is rounded toward
zero, as every division of the servo (DEDUCED, log entry 16). -/
def servoRate (ppb256 : Int) : Nat := clampRate (0x400000000 + (0x400000000 * ppb256).tdiv 256000000000)

/-- One pass of the proportional-integral loop (R48). -/
def servoLoop (s : State) (off : Int) : State :=
  let i := s.servo.integral + off
  let corr := (cfg s 0x3020 2 1024 : Int) * off + (cfg s 0x3020 3 128 : Int) * i
  { s with servo := { s.servo with integral := i }
           time := s.time.steer (servoRate (s.servo.basePpb * 256 + corr)) }

/-- The count of consecutive measurements within LOCK_THRESHOLD, and LOCKED when it reaches LOCK_COUNT; beyond the threshold
LOCKED falls to TRACKING (R48). -/
def servoLock (s : State) (off : Int) : State :=
  let within_ := decide (off.natAbs ≤ cfg s 0x3020 5 100)
  let n := if within_ then s.servo.count + 1 else 0
  if within_ && cfg s 0x3020 6 8 ≤ n then
    { s with servo := { s.servo with count := n, status := 2, everLocked := true } }
  else if !within_ && s.servo.status == 2 then { s with servo := { s.servo with count := 0, status := 3 } }
  else { s with servo := { s.servo with count := n } }

/-- The deviation of a RATE from nominal in ppb. -/
def ratePpb (r : Nat) : Int := (((r : Int) - 0x400000000) * 1000000000).tdiv 0x400000000

/-- A measurement in ACQUIRING: the first is kept; with the second the frequency is estimated and, beyond STEP_THRESHOLD,
the time base is stepped once (R48), but after the first lock only where REACQUIRE asked for it (R49). -/
def servoAcquire (s : State) (off : Int) : State :=
  match s.servo.meas with
  | [] =>
    if s.servo.stepped then servoLock (servoLoop s off) off
    else { s with servo := { s.servo with meas := [(off, s.ticks)] } }
  | (o1, t1) :: _ =>
    let dt : Int := ((s.ticks - t1) * 4 : Nat)
    let slope : Int := if dt = 0 then 0 else ((off - o1) * 1000000000).tdiv dt
    let s1 := { s with servo := { s.servo with
      basePpb := ratePpb s.time.rateForce + slope, meas := [], stepped := true } }
    if (!s.servo.everLocked || s.servo.mayStep) && decide (cfg s 0x3020 4 1000000 < off.natAbs) then
      { s1 with time := { s1.time with setPend := some (off * 2 ^ 32) } }
    else servoLock (servoLoop s1 off) off

/-- The servo takes one offset measurement, the master's time less the hub's (R48, R49). -/
def servoMeasure (s : State) (off : Int) (gm : Nat) : State :=
  let v := s.servo
  match v.status with
  | 1 => servoAcquire { s with servo := { v with gm := gm } } off
  | 2 | 3 => servoLock (servoLoop s off) off
  | 4 =>
    let n := if v.gm = gm then v.valid + 1 else 1
    if cfg s 0x3020 6 8 ≤ n then { s with servo := { v with status := 3, valid := 0, count := 0, gm := gm } }
    else { s with servo := { v with valid := n, gm := gm } }
  | _ => s

/-- The servo enters HOLDOVER from a state in which it steers: RATE and the integral freeze (R48, R49). -/
def servoHoldover (s : State) : State :=
  if s.servo.status = 1 ∨ s.servo.status = 2 ∨ s.servo.status = 3 then
    { s with servo := { s.servo with status := 4, valid := 0, count := 0, meas := [] } }
  else s

/-! ### PTP (R50 to R54, R56) -/

/-- The index of a port's PTP objects. -/
def ptpIdx (n : Nat) : Nat := 0x3100 + 16 * n

/-- PTP_ENABLE of a port in force (R56). -/
def ptpEnabled (s : State) (n : Nat) : Bool := cfg s (ptpIdx n) 1 (if n = 2 then 1 else 0) == 1

/-- Whether a port is the steering port and its PTP runs (R50, R55). -/
def steerPort (s : State) (n : Nat) : Bool := cfg s 0x3020 0xA 2 == n && ptpEnabled s n

/-- Whether the servo steers by a port (R47, R50). -/
def steers (s : State) (n : Nat) : Bool := servoBuiltin s && steerPort s n

/-- Whether a network port exchanges frames: it is in use, its PHY is on, its link is up and no loopback runs on it (R396, R453);
with both firmware slots failed it exchanges frames as well (R306). -/
def portLive (s : State) (n : Nat) : Bool :=
  (s.dictReady || s.fw.boot) && (s.power.state == 0 || s.power.state == 1) && cfg s (0x0810 + 16 * n) 1 1 == 1
    && (s.netAt n).link && ((s.netAt n).loopDepth == 0 || (s.netAt n).remoteDue)

/-- Whether a PTP message of a domain reaches a port's instance. -/
def ptpHears (s : State) (n domain : Nat) : Bool :=
  s.dictReady && portLive s n && ptpEnabled s n && cfg s (ptpIdx n) 3 0 == domain

/-- A received frame is counted in RX_FRAMES (R341). -/
def countRx (s : State) (n : Nat) : State := s.modNet n (fun x => { x with rxFrames := x.rxFrames + 1 })

/-- The hub's time at the MII in whole nanoseconds, corrected by INGRESS_LATENCY (R53). -/
def ingressNs (s : State) (n : Nat) : Int := ((s.time.fine / 2 ^ 32 : Nat) : Int) - cfg s (ptpIdx n) 8 0

/-- The hub's time at the MII in whole nanoseconds, corrected by EGRESS_LATENCY (R53). -/
def egressNs (s : State) (n : Nat) : Int := ((s.time.fine / 2 ^ 32 : Nat) : Int) + cfg s (ptpIdx n) 9 0

/-- A complete offset measurement of a port: reported, and taken by the servo on the steering port once the first frame has
begun (R48, R50, R55, R443). -/
def ptpOffset (s : State) (n : Nat) (t1 t2 : Int) : State :=
  let x := s.ptpAt n
  let off := t2 - t1 - x.pathDelay
  let s1 := s.modPtp n (fun y => { y with offset := off, syncPair := some (t1, t2), syncIngress := none
                                          state := if y.state = 8 ∨ y.state = 4 then 9 else y.state })
  if steerPort s n then
    let s2 := { s1 with servo := { s1.servo with lastOffset := off, meanPath := x.pathDelay, heardAt := s.ticks } }
    if s.startAnchor = 0 ∨ servoBuiltin s = false then s2 else servoMeasure s2 (-off) x.gm
  else s1

/-- PTP_SYNC_RECEIVE (R48, R51): a Sync from the port's master. A one-step Sync carries the master's time `t1` in ns; a
two-step one leaves it to the Follow_Up. -/
def execPtpSyncReceive (n domain : Nat) (twoStep : Bool) (t1 : Int) (s : State) : Result State :=
  withNet n (given (portLive s n) s (
    let s1 := countRx s n
    if ptpHears s n domain && (s.ptpAt n).state != 6 then
      if twoStep then s1.modPtp n (fun x => { x with syncIngress := some (ingressNs s n) })
      else ptpOffset s1 n t1 (ingressNs s n)
    else s1))

/-- PTP_FOLLOW_UP_RECEIVE (R51): the master's time of the two-step Sync that waits completes the measurement. -/
def execPtpFollowUpReceive (n domain : Nat) (t1 : Int) (s : State) : Result State :=
  withNet n (given (portLive s n) s (
    let s1 := countRx s n
    match (s.ptpAt n).syncIngress with
    | some t2 => if ptpHears s n domain && (s.ptpAt n).state != 6 then ptpOffset s1 n t1 t2 else s1
    | none => s1))

/-- A priority vector as one number, in the order in which IEEE 1588 compares it: priority1, class, accuracy, variance,
priority2, identity. -/
def ptpVector (p1 cls acc var p2 gm : Nat) : Nat := ((((p1 * 256 + cls) * 256 + acc) * 65536 + var) * 256 + p2) * 2 ^ 64 + gm

/-- The hub's clockIdentity: the EUI-64 of its MAC address (PRESUMED, log entry 15). -/
def ownIdentity (s : State) : Nat := s.mac / 2 ^ 24 * 2 ^ 40 + 0xFFFE * 2 ^ 24 + s.mac % 2 ^ 24

/-- The hub's own vector on a port: its PRIORITY1, CLOCK_CLASS and PRIORITY2 (R54), accuracy unknown. -/
def ownVector (s : State) (n : Nat) : Nat :=
  ptpVector (cfg s (ptpIdx n) 0xA 128) (cfg s (ptpIdx n) 0xC 248) 0xFE 0xFFFF (cfg s (ptpIdx n) 0xB 128) (ownIdentity s)

/-- A grandmaster identity on the steering port other than the one that the servo follows puts it into HOLDOVER (R48). -/
def newGrandmaster (s : State) (n gm : Nat) : State :=
  if steers s n && s.servo.gm != 0 && gm != 0 && s.servo.gm != gm then servoHoldover s else s

/-- PTP_ANNOUNCE_RECEIVE (R49, R51, R52): the best master clock algorithm over the Announce's vector and the hub's own; the
grandmaster identity and, on the steering port, UTC_OFFSET are recorded. -/
def execPtpAnnounceReceive (n domain p1 cls acc var p2 gm : Nat) (utc : Int) (s : State) : Result State :=
  withNet n (given (portLive s n) s (
    let s1 := countRx s n
    if !ptpHears s n domain then s1
    else
      let v := ptpVector p1 cls acc var p2 gm
      let role := cfg s (ptpIdx n) 4 2
      let x := s.ptpAt n
      if role = 1 ∨ (role = 2 ∧ ownVector s n ≤ v) then
        if x.gm = gm ∨ x.state = 1 ∨ x.state = 6 ∨ x.gmPrio = 0 then
          s1.modPtp n (fun y => { y with state := 6, gm := ownIdentity s, gmPrio := ownVector s n })
        else s1
      else if x.gm = gm ∨ x.gmPrio = 0 ∨ v ≤ x.gmPrio ∨ x.state = 6 then
        let s2 := newGrandmaster s1 n gm
        let s3 := s2.modPtp n (fun y => { y with gm := gm, gmPrio := v, state := if y.state = 9 then 9 else 8 })
        if steerPort s n then { s3 with time := { s3.time with utcOffset := utc } } else s3
      else s1))

/-- PTP_DELAY_RESPONSE_RECEIVE (R51): with the end-to-end mechanism the mean of the two one-way differences; with the peer
mechanism half the round trip less the responder's turnaround. -/
def execPtpDelayResponseReceive (n domain : Nat) (t4 : Int) (turnaround : Option Int) (s : State) : Result State :=
  withNet n (given (portLive s n) s (
    let s1 := countRx s n
    let x := s.ptpAt n
    if !ptpHears s n domain then s1
    else
      let delay : Option Int := match turnaround, x.reqEgress, x.syncPair with
        | some r, some t3, _ => some ((ingressNs s n - t3 - r).tdiv 2)
        | none, some t3, some (t1, t2) => some (((t2 - t1) + (t4 - t3)).tdiv 2)
        | _, _, _ => none
      match delay with
      | none => s1
      | some q =>
        let v := (clampInt 0 4294967295 q).toNat
        let s2 := s1.modPtp n (fun y => { y with pathDelay := v, reqEgress := none })
        if steerPort s n then { s2 with servo := { s2.servo with meanPath := v } } else s2))

/-- PTP_MESSAGE_DISCARD (R52): a management or unsupported message is discarded without response. -/
def execPtpMessageDiscard (n : Nat) (s : State) : Result State :=
  withNet n (given (portLive s n) s (countRx s n))

/-- A frame joins those that wait at a port for a transmit opportunity (R332). -/
def enqueueFrame (s : State) (n : Nat) (f : Frame) : State := s.modNet n (fun x => { x with waiting := x.waiting ++ [{ f with since := s.ticks }] })

/-- The PTP timestamp of a time in ns: 48 bits of seconds and 32 bits of nanoseconds in network byte order (IEEE 1588). -/
def ptpStamp (ns : Int) : List Byte :=
  (leBytes 4 (ns.toNat % 1000000000)).reverse |> fun lo => (leBytes 6 (ns.toNat / 1000000000)).reverse ++ lo

/-- A PTP message that the hub sends: the model's opcode numbers 16 Sync, 17 Delay_Req, 18 Announce, 19 Delay_Resp,
20 Follow_Up. -/
def ptpFrame (op : Nat) (payload : List Byte) : Frame := { op := op, dst := 0x011B19000000, payload := payload }

/-- PTP_SYNC_SEND (R51, R53, R54): a port in the master role sends a Sync; the time of its transmission is put in when the
MAC begins it (one-step), or goes into the Follow_Up (two-step, FLAGS bit 1). -/
def execPtpSyncSend (n : Nat) (s : State) : Result State :=
  withNet n (given (portLive s n && ptpEnabled s n && (s.ptpAt n).state == 6) s (
    let f := { ptpFrame 16 [] with flags := if cfg s (ptpIdx n) 5 1 = 1 then 0 else 2 }
    (enqueueFrame s n f).modPtp n (fun x => { x with sent := x.sent + 1 })))

/-- PTP_DELAY_REQUEST_SEND (R51): a port that follows a master sends a delay request; with the peer mechanism every port. -/
def execPtpDelayRequestSend (n : Nat) (s : State) : Result State :=
  withNet n (given (portLive s n && ptpEnabled s n
      && ((s.ptpAt n).state == 8 || (s.ptpAt n).state == 9 || cfg s (ptpIdx n) 2 0 == 1)) s
    ((enqueueFrame s n (ptpFrame 17 [])).modPtp n (fun x => { x with sent := x.sent + 1 })))

/-- PTP_ANNOUNCE_SEND (R54): a port in the master role announces the hub as grandmaster with the port's priorities. -/
def execPtpAnnounceSend (n : Nat) (s : State) : Result State :=
  withNet n (given (portLive s n && ptpEnabled s n && (s.ptpAt n).state == 6) s (
    let pl := leBytes 1 (cfg s (ptpIdx n) 0xA 128) ++ leBytes 1 (cfg s (ptpIdx n) 0xC 248)
      ++ leBytes 1 (cfg s (ptpIdx n) 0xB 128) ++ (leBytes 8 (ownIdentity s)).reverse
    (enqueueFrame s n (ptpFrame 18 pl)).modPtp n (fun x => { x with sent := x.sent + 1 })))

/-- PTP_DELAY_REQUEST_RECEIVE (R51): a port in the master role answers with a Delay_Resp that carries the receive time; a
peer delay request is answered in the 802.1AS profile. -/
def execPtpDelayRequestReceive (n domain : Nat) (peer : Bool) (s : State) : Result State :=
  withNet n (given (portLive s n) s (
    let s1 := countRx s n
    if ptpHears s n domain && (if peer then cfg s (ptpIdx n) 2 0 == 1 else (s.ptpAt n).state == 6) then
      enqueueFrame s1 n (ptpFrame 19 (ptpStamp (ingressNs s n)))
    else s1))

/-- The Sync interval of a port in elapsed ticks: 2^LOG_SYNC s, for LOG_SYNC from -7 to 1 (R51, R56). -/
def syncTicks (s : State) (n : Nat) : Nat := 1953125 * 2 ^ (sgn 8 (cfg s (ptpIdx n) 6 0xFD) + 7).toNat

/-- SYNC_TIMEOUT (R48, R49): HOLDOVER_COUNT Sync intervals pass on the steering port without a valid measurement. In HOLDOVER
itself they leave the run of valid measurements that ends it (DEDUCED, log entry 16). -/
def execSyncTimeout (n : Nat) (s : State) : Result State :=
  withNet n (given (steers s n && decide (s.servo.heardAt + cfg s 0x3020 7 4 * syncTicks s n ≤ s.ticks)) s (servoHoldover s))

/-- A port takes the master role: the hub announces itself (R51, R54). -/
def PtpPort.master (x : PtpPort) (id vector : Nat) : PtpPort :=
  { x with state := 6, gm := id, gmPrio := vector, syncIngress := none, reqEgress := none }

/-- A port waits for the Announce of a master: LISTENING. -/
def PtpPort.listen (x : PtpPort) : PtpPort :=
  { x with state := 4, gm := 0, gmPrio := 0, syncIngress := none, syncPair := none, reqEgress := none }

/-- The PTP instance of a port follows PTP_ENABLE and ROLE (R51, R56): DISABLED without PTP; a master-only port takes the master
role; a slave-only port leaves it; any other port that was not running listens for a master. -/
def ptpStart (s : State) (n : Nat) : State :=
  let role := cfg s (ptpIdx n) 4 2
  let st := (s.ptpAt n).state
  if !ptpEnabled s n then s.modPtp n (fun x => { x.listen with state := 3 })
  else if role = 1 then
    if st = 6 then s else s.modPtp n (fun x => x.master (ownIdentity s) (ownVector s n))
  else if st = 1 ∨ st = 3 ∨ (role = 0 ∧ st = 6) then s.modPtp n PtpPort.listen
  else s

/-- ANNOUNCE_RECEIPT_TIMEOUT (R49, R51): a port has lost its master. In the BMCA role, and in the master-only role, it takes the
master role itself; a slave-only port listens for another master. -/
def execAnnounceReceiptTimeout (n : Nat) (s : State) : Result State :=
  withNet n (given (ptpEnabled s n && (s.ptpAt n).state != 6 && (s.ptpAt n).state != 3) s (
    if cfg s (ptpIdx n) 4 2 = 0 then s.modPtp n PtpPort.listen
    else (newGrandmaster s n (ownIdentity s)).modPtp n (fun x => x.master (ownIdentity s) (ownVector s n))))

end Sys2Proof.Machine
end

