-- ==== Sys2Proof/Machine/Records.lean ====
section
/-! DEFINITION. Records in the form in which they are delivered and logged, batches and their frames, and the crier (R229 to
R246, R322 to R324, R446, R447). -/

namespace Sys2Proof.Machine

/-! ### The forms of a record (R229, R230, R446) -/

/-- A record in native form (R229). -/
def recNative (r : Rec) : List Byte :=
  leBytes 8 (r.stream % 4096 * 2 ^ 52 + r.stamp.toNat)
    ++ leBytes 4 (r.pcode % 256 + r.flags % 256 * 256 + r.seq % 4096 * 65536 + r.words.length % 16 * 2 ^ 28)
    ++ wordsBytes r.words

/-- STREAM8 of SH-12 mode (R446). -/
def stream8 (k : Nat) : Nat := if 0x1F0 ≤ k % 512 then k % 512 - 0x100 else k % 256

/-- A record in the v1 form of SH-12 mode (R446). -/
def recV1 (s : State) (r : Rec) : List Byte :=
  leBytes 4 ((stampSeconds s r.stamp * 1000000000 + r.stamp.toNat % 2 ^ 32 / 4) % 2 ^ 32)
    ++ leBytes 4 (stream8 r.stream + r.flags % 256 * 256 + r.seq % 256 * 65536 + r.words.length % 16 * 2 ^ 24)
    ++ wordsBytes r.words

/-- A record as it is delivered (R229, R446). -/
def recOut (s : State) (r : Rec) : List Byte := if s.cmpt then recV1 s r else recNative r

/-- Bytes of a record as it is delivered. -/
def recOutSize (s : State) (r : Rec) : Nat := (if s.cmpt then 8 else 12) + 4 * r.words.length

/-! ### Frames that the hub starts (R312, R314, R323) -/

/-- ADP_MCAST in force (R341). -/
def adpMcast (s : State) : Nat := cfg s 0x0800 3 0x034144500001

/-- The port that serves a port's destinations: itself, or its fallback while it is down (R339). -/
def servingPort (s : State) (n : Nat) : Nat := (s.netAt n).failedOver.getD n

/-- The destination of a parish: address and port (R323). -/
def destOf (s : State) (p : Nat) : Nat × Nat :=
  let i := 0x2003 + 256 * p
  let d :=
    if cfg s i 1 0 = 1 then (cfg s i 2 (adpMcast s), cfg s i 3 2)
    else (s.parAt p).destSrc.getD (adpMcast s, 2)
  (d.1, servingPort s d.2)

/-- A frame that the hub starts joins those that wait at a port: HUB set, and the port's counter as its TRANS_ID (R314,
R315). -/
def hubFrame (s : State) (n : Nat) (f : Frame) : State :=
  (enqueueFrame s n { f with flags := setBit f.flags 0, transId := (s.netAt n).transCtr.toNat }).modNet n (fun x => { x with
    transCtr := x.transCtr + 1 })

/-- Whether some delivery window of a port names a parish (R330, R331). -/
def windowNames (s : State) (n p : Nat) : Bool :=
  windowReg s n 1 0 != 0 && (List.range 8).any (fun k =>
    let w := windowReg s n (3 + k) 0
    field w 39 20 != 0 && bitOf (field w 55 40) p)

/-! ### Recipients (R235, R360, R361) -/

/-- READERS of a stream. -/
def readersOf (s : State) (k : Nat) : Nat := cfg s (0x7000 + k) 7 0

/-- Whether a record of a stream is for a parish (R235): its owner; on the system streams the parishes that R235 names. -/
def recFor (s : State) (p k : Nat) (r : Rec) : Bool :=
  match k % 512 with
  | 0x1F0 => p == 0 || (streamDie k == 0 && cfg s (granIdx p) 4 1 == 1)
  | 0x1F1 => r.pcode % 16 == p
  | 0x1F2 => p == 0 || (nth 0 r.words 0).toNat / 65536 % 16 == p
  | 0x1F3 => true
  | 0x1F4 => p == 0 || bitOf (readersOf s k) p
  | 0x1F5 => p == 0 || r.pcode % 16 == p
  | _ => streamOwner s k == some p

/-- Whether a parish may ask for a stream: its own, or one that lists it as a reader (R322). -/
def mayPull (s : State) (p k : Nat) : Bool := streamOwner s k == some p || bitOf (readersOf s k) p

/-- Whether several parishes receive a stream's records, each from its own batch (log entry 13). -/
def manyReaders (s : State) (k : Nat) : Bool := decide (0x1F0 ≤ k % 512) || readersOf s k != 0

/-- 2^18 s in ticks of 4 ns (R62). -/
def ageLimit : Nat := 2 ^ 18 * 250000000

/-- Whether a record is more than 2^18 s old, in elapsed ticks (R45, R62). -/
def tooOld (s : State) (r : Rec) : Bool := decide (r.entered + ageLimit < s.ticks)

/-- Records of a stream that a parish has not yet taken, oldest first; none that is too old to be delivered (R62). -/
def toTake (s : State) (p k : Nat) (asked : Bool) : List Rec :=
  (s.streamAt k).ring.filter (fun r =>
    !r.sentTo.contains p && !tooOld s r && (!r.delivered || manyReaders s k) && (recFor s p k r || (asked && mayPull s p k)))

/-- The PUSH streams that hold records for a parish, ascending (R241). -/
def pushStreams (s : State) (p : Nat) : List Nat :=
  (s.stream.map (·.1)).filter (fun k => streamDelivery s k == 1 && !(toTake s p k false).isEmpty)

/-! ### Delivery triggers (R241) -/

/-- Whether an undelivered record of a PUSH stream has been in its ring for MAX_AGE (R241). -/
def agedRecord (s : State) (k : Nat) : Bool :=
  let age := if 0x1F0 ≤ k % 512 then 0 else cfg s (0x7000 + k) 5 0
  age != 0 && streamDelivery s k == 1
    && (s.streamAt k).ring.any (fun r => !r.delivered && decide (r.entered + msTicks age ≤ s.ticks))

/-- Whether a PUSH delivery of a parish is due (R241). -/
def pushDue (s : State) (p : Nat) : Bool :=
  let mine := (s.stream.map (·.1)).filter (fun k => streamOwner s k == some p)
  (s.parAt p).deliverAll
    || mine.any (fun k =>
        let wm := if 0x1F0 ≤ k % 512 then 0 else cfg s (0x7000 + k) 3 50
        streamDelivery s k == 1 && wm != 0 && 0 < ringSize s k && decide (wm * (ringSize s k * 256) ≤ 100 * undelivered s k))
    || parishMark s p
    || mine.any (agedRecord s)
    || (cfg s (granIdx p) 3 1 == 1 && (List.range (usedDies s)).any (fun d => !(toTake s p (eventStream d) false).isEmpty))

/-- MAX_AGE_EXPIRY (R241, R244): a record reaches its stream's MAX_AGE; the parish's delivery is due, or, while its host is
asleep, a crier reason arises. -/
def execMaxAgeExpiry (k : Nat) (s : State) : Result State :=
  withStream s k (
    match streamOwner s k with
    | none => s
    | some p => given (agedRecord s k) s (
        if (s.parAt p).hostAsleep then crierReason s p 2 0xFFFF
        else s.modPar p (fun x => { x with deliverAll := true })))

/-! ### Batches (R60, R62, R242, R243, R322, R447) -/

/-- The granary discards every record of a stream that is more than 2^18 s old and could still be delivered, and counts it in LOST
(R62). -/
def discardOld (s : State) (k : Nat) : State :=
  let old (r : Rec) : Bool := tooOld s r && (!r.delivered || manyReaders s k)
  let n := ((s.streamAt k).ring.filter old).length
  if n = 0 then s
  else s.modStream k (fun x => Stream.lose { x with ring := x.ring.filter (fun r => !old r) } k n)

/-- The leading anchor of a batch of an epoch: BATCH at the instant of assembly, or CLOSE at the last tick before the step
that ended the epoch (R60, R62). -/
def leadAnchor (s : State) (epoch : BitVec 8) : Rec :=
  if epoch = s.time.epoch then { anchorRec s 3 with epoch := epoch }
  else
    let q := tget 0 s.time.closes epoch.toNat
    let sec := q / 4000000000
    { stream := 0x1F0, stamp := stampOf q, pcode := 0x40, flags := 0x20, epoch := epoch
      words := [BitVec.ofNat 32 sec, BitVec.ofNat 32 (sec / 2 ^ 32 % 65536 + 5 * 65536 + epoch.toNat * 16777216)] }

/-- The anchor of a 2-second period of SH-12 mode (R447). -/
def periodAnchor (epoch : BitVec 8) (period reason : Nat) : Rec :=
  let sec := 2 * period
  { stream := 0x1F0, stamp := stampOf (sec * 4000000000), pcode := 0x40, flags := 0x20, epoch := epoch
    words := [BitVec.ofNat 32 sec, BitVec.ofNat 32 (sec / 2 ^ 32 % 65536 + reason * 65536 + epoch.toNat * 16777216)] }

/-- Two lists of records merged in stamp order, each keeping its own order (R447); n is at least their total length. -/
def mergeStamps : Nat → List Rec → List Rec → List Rec
  | 0, a, b => a ++ b
  | _ + 1, [], b => b
  | _ + 1, a, [] => a
  | n + 1, x :: a, y :: b =>
    if stampGe y.stamp x.stamp then x :: mergeStamps n a (y :: b) else y :: mergeStamps n (x :: a) b

/-- Records in the order in which a batch carries them after its leading anchor, SH-12 period anchors among them (R447). -/
def v1Order (s : State) (epoch : BitVec 8) (first : Nat) : Option Nat → List Rec → List Rec
  | _, [] => []
  | last, r :: t =>
    let p := stampSeconds s r.stamp / 2
    if last = some p then r :: v1Order s epoch first last t
    else periodAnchor epoch p (if last.isNone then first else 8) :: r :: v1Order s epoch first (some p) t

/-- The records of a batch as they stand in it, its leading anchor first (R242, R447). -/
def batchOrder (s : State) (epoch : BitVec 8) (recs : List Rec) : List Rec :=
  if s.cmpt then
    v1Order s epoch (if epoch = s.time.epoch then 3 else 5) none
      (recs.foldl (fun a r => mergeStamps (a.length + 1) a [r]) [])
  else leadAnchor s epoch :: recs

/-- The records that a batch of a parish takes, in the order of R242: those of the leading record's epoch, up to BATCH_MAX. -/
def takeUpTo (s : State) (room : Nat) : List Rec → List Rec
  | [] => []
  | r :: t => if recOutSize s r ≤ room then r :: takeUpTo s (room - recOutSize s r) t else []

/-- Records of one epoch from the front. -/
def sameEpoch : List Rec → List Rec
  | [] => []
  | r :: t => r :: t.takeWhile (fun x => x.epoch == r.epoch)

/-- Parts of at most so many bytes, no record spanning two (R322). -/
def packParts (s : State) (room : Nat) : List Rec → Nat → List Rec → List (List Rec)
  | cur, _, [] => [cur.reverse]
  | cur, used, r :: t =>
    if used + recOutSize s r ≤ room then packParts s room (r :: cur) (used + recOutSize s r) t
    else cur.reverse :: packParts s room [r] (recOutSize s r) t

/-- The key of a record: its stream, its parish and its place among the records of the stream since reset, which, unlike SEQ,
never comes again. -/
def recKey (r : Rec) : Nat × Nat × Nat := (r.stream, r.pcode % 16, r.place)

/-- Records of the given keys are marked by a function. -/
def markRecs (s : State) (keys : List (Nat × Nat × Nat)) (f : Rec → Rec) : State :=
  { s with stream := s.stream.map (fun e =>
      if keys.any (fun k => k.1 == e.1) then
        (e.1, { e.2 with ring := e.2.ring.map (fun r => if keys.contains (recKey r) then f r else r) })
      else e) }

/-- Records whose batch is handed to the network port become delivered (R243). -/
def deliverKeys (s : State) (keys : List (Nat × Nat × Nat)) : State := markRecs s keys (fun r => { r with delivered := true })

/-- Whether a record is an anchor of a batch, which enters no ring (R233): REASON 3, 5 or 8. -/
def batchAnchor (r : Rec) : Bool :=
  r.pcode == 0x40 && bitOf r.flags 5
    && (let why := (nth 0 r.words 1).toNat / 65536 % 256
        why == 3 || why == 5 || why == 8)

/-- The STREAM frames of a batch (R322): the BATCH number, the part number and the leading anchor stand in every part. -/
def streamFrames (s : State) (p dst batch : Nat) (push windowed : Bool) (order : List Rec) : List Frame :=
  match order with
  | [] => []
  | a :: recs =>
    let lead := recOut s a
    let parts := packParts s (1472 - lead.length) [] 0 recs
    (List.range parts.length).map (fun i =>
      let part := (parts[i]?).getD []
      { op := 7, dst := dst, parish := p, flags := if i + 1 < parts.length then 4 else 0
        objCount := part.length, push := push, windowed := windowed
        takes := (part.filter (fun r => !batchAnchor r)).map recKey
        payload := leBytes 2 batch ++ leBytes 2 i ++ lead ++ part.flatMap (recOut s) })

/-- A batch of a parish from the given streams: records over age are discarded, then whole records up to BATCH_MAX are taken
and the parts wait at the port of the parish's destination. Where no window limits the parish they are handed over at once,
which delivers their records (R62, R242, R243, R331). Those of other dies come to die 0 in the third class of the lanes (R19). -/
def assembleBatch (s : State) (p : Nat) (keys : List Nat) (asked : Bool) : State :=
  let s1 := keys.foldl discardOld s
  let all := sameEpoch (keys.flatMap (fun k => toTake s1 p k asked))
  match all with
  | [] => s1
  | r0 :: _ =>
    let recs := takeUpTo s1 (cfg s (granIdx p) 2 16 * 1024 - (if s.cmpt then 16 else 20)) all
    let dst := destOf s1 p
    let windowed := !asked && windowNames s1 dst.2 p
    let fs := streamFrames s1 p dst.1 (s1.parAt p).batchNo.toNat (!asked) windowed (batchOrder s1 r0.epoch recs)
    let s2 := fs.foldl (fun x f => hubFrame x dst.2 f) (markRecs s1 (recs.map recKey) (fun r => { r with sentTo := addOnce r.sentTo p }))
    let dies := recs.foldl (fun a r => addOnce a (streamDie r.stream)) []
    let s3 := (dies.foldl (fun u d => ringSend u { cls := 3, src := d, dst := 0, parish := p }) s2).modPar p (fun x => { x with
      batches := x.batches + 1, batchNo := x.batchNo + 1 })
    if windowed then s3 else deliverKeys s3 (recs.map recKey)

/-- A number takes its place in an ascending list. -/
def insertAsc (k : Nat) : List Nat → List Nat
  | [] => [k]
  | a :: t => if k ≤ a then k :: a :: t else a :: insertAsc k t

/-- BATCH_ASSEMBLE (R241, R242, R244): the lead steward assembles the next batch of a parish: of the streams that a session
asked for, in ascending order, or, while its host is not asleep, of its PUSH streams once a delivery is due; it then goes on until none holds
undelivered records. -/
def execBatchAssemble (p : Nat) (s : State) : Result State :=
  withParish p (
    let asked := ((s.parAt p).pulls.filter (fun k => !(toTake s p k true).isEmpty)).foldr insertAsc []
    given (s.dictReady && s.power.state < 2) s (
      if !asked.isEmpty then
        let s1 := assembleBatch s p asked true
        s1.modPar p (fun x => { x with pulls := x.pulls.filter (fun k => !(toTake s1 p k true).isEmpty) })
      else if !(s.parAt p).hostAsleep && pushDue s p then
        let s1 := assembleBatch s p (pushStreams s p) false
        s1.modPar p (fun x => { x with deliverAll := !(pushStreams s1 p).isEmpty, pulls := [] })
      else s.modPar p (fun x => { x with pulls := [] })))

/-! ### The crier (R245, R246, R324) -/

/-- A wake of a parish's host: HOST_WAKE is asserted and an EVENT frame names the parish and the reasons (R245, R324). -/
def wakeHost (s : State) (p : Nat) : State :=
  let w := (s.parAt p).wake
  let n := w.wakes + 1
  let dst := destOf s p
  let s1 := hubFrame s dst.2 { op := 8, dst := dst.1, parish := p
                               payload := leBytes 2 w.reasons ++ leBytes 2 w.rule ++ leBytes 4 n.toNat }
  { s1 with power := { s1.power with hostWake := true } }.modPar p (fun x => { x with
    wake := { x.wake with wakes := n, pending := true, asked := false, lastAt := some s.ticks } })

/-- Whether some parish that the crier is waking is neither acknowledged nor past its WAKE_HOLD (R245). -/
def wakeHeld (s : State) : Bool :=
  (List.range 16).any (fun p => (s.parAt p).wake.pending && sinceWake s p (cfg s (granIdx p) 6 1000))

/-- WAKE_HOLD_EXPIRY (R245): WAKE_HOLD has passed for every parish still being woken, and HOST_WAKE is released. -/
def execWakeHoldExpiry (s : State) : Result State :=
  .next (given (!wakeHeld s) s { s with power := { s.power with hostWake := false } })

/-- WAKE_RETRY_EXPIRY (R245): a parish has not acknowledged within WAKE_RETRY while a reason still holds; the wake repeats. -/
def execWakeRetryExpiry (p : Nat) (s : State) : Result State :=
  withParish p (
    let w := (s.parAt p).wake
    given (w.pending && w.reasons != 0 && (s.parAt p).hostAsleep && s.power.state < 3
      && !sinceWake s p (cfg s (granIdx p) 7 10 * 1000)) s (wakeHost s p))

/-- A session of a parish, or a WAKE_NOTICE of its host, acknowledges its wake: its reasons end, and HOST_WAKE is released
once no other parish is being woken (R245, R333). -/
def ackWake (s : State) (p : Nat) : State :=
  let s1 := s.modPar p (fun x => { x with
    hostAsleep := false, wake := { x.wake with reasons := 0, rule := 0xFFFF, pending := false, asked := false } })
  { s1 with power := { s1.power with hostWake := s1.power.hostWake && wakeHeld s1 } }

end Sys2Proof.Machine
end

