-- ==== Sys2Proof/Machine/Images.lean ====
section
/-! DEFINITION. The images of engines, rotas, mill channels and sieve rules: their fields and the checks that a commit makes of
them (R178, R179, R199, R200, R202, R209, R214, R215, R223, R226, R227). Each check reads a state whose settings in force are
the whole set that the commit would put in force. -/

namespace Sys2Proof.Machine

/-- Whether a header of n + 2 bytes carries the CRC-16 of its first n bytes. -/
def headerCrcOk (b : List Byte) (n : Nat) : Bool := n + 2 ≤ b.length && crc16 (b.take n) == getLe b n 2

/-- Whether n bytes from an offset are all zero. -/
def zeroAt (b : List Byte) (off n : Nat) : Bool := getLe b off n == 0

/-- The first check of a list that fails, as its code; none when all pass. -/
def firstFail : List (Nat × Bool) → Option Nat
  | [] => none
  | (c, ok) :: t => if ok then firstFail t else some c

/-! ### Engine program images (R178, R179) -/

/-- The program image of an engine in the settings. -/
def engImg (s : State) (e : Nat) : List Byte := cfgBlob s (0x6000 + 16 * e) 1
/-- BENCH_SIZE. -/
def engBench (b : List Byte) : Nat := getLe b 9 1
/-- PROG_WORDS, 0 without an image. -/
def engWords (b : List Byte) : Nat := getLe b 10 2
/-- INIT_WORDS. -/
def engInits (b : List Byte) : Nat := getLe b 12 2
/-- The program words. -/
def engProg (b : List Byte) : List Word := bytesWords (slice b 32 (4 * engWords b))
/-- The init words. -/
def engInit (b : List Byte) : List Word := bytesWords (slice b (32 + 4 * engWords b) (4 * engInits b))

/-- Sum of BENCH_SIZE over the engines of a parish on a die (R285). -/
def benchSum (s : State) (p d : Nat) : Nat :=
  ((List.range 24).map (fun k => d * 24 + k)).foldl
    (fun a e => if engOwner s e = some p ∧ (engImg s e).length ≠ 0 then a + engBench (engImg s e) else a) 0

/-- Whether a program image passes the checks of a commit (R179, R285). An empty value removes the program. -/
def engImageOk (s : State) (e : Nat) : Bool :=
  let b := engImg s e
  let p := getLe b 8 1
  b.isEmpty ||
    (headerCrcOk b 30 && getLe b 0 4 == 0x54504531 && getLe b 4 2 == 1 && getLe b 6 2 == e
      && 1 ≤ engBench b && engBench b ≤ 32 && 1 ≤ engWords b && engWords b ≤ 1024 && engInits b ≤ 256
      && b.length == 32 + 4 * engWords b + 4 * engInits b && crc32 (b.drop 32) == getLe b 24 4
      && zeroAt b 14 10 && zeroAt b 28 2 && engOwner s e == some p
      && (engProg b).all (fun w => !wordReserved w)
      && decide (benchSum s p (engDie e) ≤ ctxLimit s p (engDie e)))

/-! ### Rota images (R199, R200, R202) -/

/-- A rota entry from its 64-bit word (R182). -/
def entryOfWord (w stale : Nat) : RotaEntry :=
  { offset := field w 63 40, engine := field w 39 35, entryPt := field w 34 25, hint := field w 24 20
    budget := field w 19 8, flags := field w 7 0, stale := stale }

/-- ENTRY_COUNT. -/
def rotaCount (b : List Byte) : Nat := getLe b 16 2
/-- PAIR_COUNT. -/
def rotaPairs (b : List Byte) : Nat := getLe b 18 2
/-- Offset of the pair records in an image. -/
def pairsAt (b : List Byte) : Nat := 80 + 10 * rotaCount b + 2 * (rotaCount b % 2)

/-- The contents of a bank from an image (R199). -/
def rotaOf (b : List Byte) : Rota :=
  let n := rotaCount b
  { valid := !b.isEmpty, kind := getLe b 7 1, frameLen := getLe b 8 4, phase := getLe b 12 4
    entries := (List.range n).map (fun i => entryOfWord (getLe b (80 + 8 * i) 8) (getLe b (80 + 8 * n + 2 * i) 2))
    pairs := (List.range (rotaPairs b)).map (fun i =>
      { entry := getLe b (pairsAt b + 8 * i) 2, partner := getLe b (pairsAt b + 8 * i + 2) 2
        die := getLe b (pairsAt b + 8 * i + 4) 1 })
    standby := (slice b 20 24).map (·.toNat), launchPin := (slice b 44 24).map (·.toNat)
    bodyCrc := getLe b 68 4, image := b }

/-- The 64-bit word that a bank holds for an entry (R182). -/
def wordOfEntry (r : RotaEntry) : Nat :=
  r.offset % 2 ^ 24 * 2 ^ 40 + r.engine % 32 * 2 ^ 35 + r.entryPt % 1024 * 2 ^ 25 + r.hint % 32 * 2 ^ 20
    + r.budget % 4096 * 2 ^ 8 + r.flags % 256

/-- The body of an image as it is read back from a bank (R197, R199). -/
def bankBody (t : Rota) : List Byte :=
  t.entries.flatMap (fun r => leBytes 8 (wordOfEntry r)) ++ t.entries.flatMap (fun r => leBytes 2 r.stale)
    ++ List.replicate (2 * (t.entries.length % 2)) 0
    ++ t.pairs.flatMap (fun p => leBytes 2 p.entry ++ leBytes 2 p.partner ++ leBytes 1 p.die ++ [0, 0, 0])

/-- Frame selector k and in_frame of an entry (R184). -/
def entrySel (t : Rota) (r : RotaEntry) : Nat × Nat :=
  if t.frameLen = 0 then (0, 0) else (r.offset / t.frameLen, r.offset % t.frameLen)

/-- FRAME_LEN and PHASE within R180. -/
def frameOk (t : Rota) : Bool :=
  10000 ≤ t.frameLen && t.frameLen ≤ 16000000 && 100000000 % t.frameLen == 0 && t.phase < t.frameLen

/-- The window margin of R184: in_frame × 10 ns and BUDGET within the frame less one five-hundredth, in whole microseconds. -/
def marginOk (t : Rota) (r : RotaEntry) : Bool :=
  (entrySel t r).2 * 10 + r.budget * 1000 ≤ t.frameLen * 10 * 499 / 500000 * 1000

/-- The index of the first entry whose in_frame lies below that of the entry before it. -/
def notAscending (t : Rota) : Nat → List RotaEntry → Option Nat
  | i, a :: b :: l => if (entrySel t b).2 < (entrySel t a).2 then some (i + 1) else notAscending t (i + 1) (b :: l)
  | _, _ => none

/-- Whether CALGAP is set. -/
def isGap (r : RotaEntry) : Bool := bitOf r.flags 1
/-- Whether PAIR is set. -/
def isPair (r : RotaEntry) : Bool := bitOf r.flags 2
/-- Whether DRDY is set. -/
def isDrdy (r : RotaEntry) : Bool := bitOf r.flags 0

/-- The flag combinations of R183 and the zero fields of a gap. -/
def flagsOk (t : Rota) (r : RotaEntry) : Bool :=
  !(isGap r && (isDrdy r || isPair r)) && !(isPair r && field r.flags 7 4 != 0)
    && !(isDrdy r && nth 0 t.launchPin r.engine / 64 == 0) && !(isGap r && (r.entryPt != 0 || r.hint != 0))

/-- Check 13: the stale stream of an entry. -/
def staleOk (s : State) (d : Nat) (r : RotaEntry) : Bool :=
  if r.stale = 0xFFFF then true
  else !isGap r && r.stale < 0x1F0 && streamOwner s (d * 512 + r.stale) == engOwner s (d * 24 + r.engine)

/-- Check 14: the launch pin of a local engine that has a DRDY entry. -/
def launchPinOk (s : State) (d : Nat) (t : Rota) (k : Nat) : Bool :=
  let v := nth 0 t.launchPin k
  v % 16 < 12 && portOwner s (d * 12 + v % 16) == engOwner s (d * 24 + k)

/-- Check 15: the standby engine of a local engine. -/
def standbyOk (s : State) (d : Nat) (t : Rota) (k : Nat) : Bool :=
  let v := nth 0xFF t.standby k
  v == 0xFF ||
    (v < 24 && v != k && engOwner s (d * 24 + v) == engOwner s (d * 24 + k) && (engImg s (d * 24 + v)).length != 0
      && t.entries.all (fun r => isGap r || r.engine != k || r.entryPt < engWords (engImg s (d * 24 + v))))

/-- Whether a pair record's partner lists the pair in return, on a die of equal frames of at most 4 ms, with both engines of
the safety parish (R195). -/
def partnerOk (s : State) (d : Nat) (t : Rota) (p : PairRec) : Bool :=
  let u := if p.die = d then t else rotaOf (cfgBlob s (0x6C00 + 128 * p.die) 1)
  let eng (d : Nat) (t : Rota) (i : Nat) : Option Nat := (t.entries[i]?).map (fun r => d * 24 + r.engine)
  decide (p.die < usedDies s) && t.frameLen == u.frameLen && t.phase == u.phase && t.frameLen ≤ 400000
    && u.pairs.any (fun q => q.entry == p.partner && q.partner == p.entry && q.die == d)
    && ((u.entries[p.partner]?).map (fun r => isPair r && field r.flags 7 4 == 0)).getD false
    && (eng d t p.entry).any (fun e => engOwner s e == some 1) && (eng p.die u p.partner).any (fun e => engOwner s e == some 1)

/-- Check 16 for the entry at an index: a PAIR entry stands in exactly one record. -/
def pairOnce (t : Rota) (i : Nat) (r : RotaEntry) : Bool :=
  (t.pairs.filter (fun p => p.entry == i)).length == (if isPair r then 1 else 0)

/-- Check 19: the rules of a sentinel rota, and the kind that each object takes (R202). -/
def kindOk (s : State) (d : Nat) (t : Rota) (sentinel : Bool) : Bool :=
  if sentinel then
    let es := (t.entries.map (·.engine)).eraseDups
    d == 0 && t.kind == 1 && es.length ≤ 4 && t.entries.all (fun r => !isPair r && !isGap r)
      && (es.map (fun k => engOwner s k)).eraseDups.length ≤ 1
  else t.kind == 0

/-- The index of the first entry that a test refuses. -/
def badEntry (f : Nat → RotaEntry → Bool) : Nat → List RotaEntry → Option Nat
  | _, [] => none
  | i, r :: t => if f i r then badEntry f (i + 1) t else some i

/-- A check over the entries, with its code. -/
def entryCheck (t : Rota) (code : Nat) (f : Nat → RotaEntry → Bool) : Option (Nat × Nat) :=
  (badEntry f 0 t.entries).map (fun i => (code, i))

/-- Checks 7 to 20 of R200 on the contents of an image; the last reads the bank back. -/
def rotaBody (s : State) (d writer : Nat) (t : Rota) (sentinel : Bool) : Option (Nat × Nat) :=
  let whole (code : Nat) (ok : Bool) : Option (Nat × Nat) := if ok then none else some (code, 0xFFFF)
  let img (k : Nat) := engImg s (d * 24 + k)
  (((((((((((((((notAscending t 0 t.entries).map (fun i => (7, i)))
    <|> entryCheck t 8 (fun _ r => r.engine < (if isGap r then 12 else 24)))
    <|> entryCheck t 9 (fun _ r => flagsOk t r))
    <|> entryCheck t 10 (fun _ r => 1 ≤ r.budget && (!isGap r || 200 ≤ r.budget)))
    <|> entryCheck t 11 (fun _ r => (entrySel t r).1 < field r.flags 7 4 + 1 && marginOk t r))
    <|> entryCheck t 12 (fun _ r => isGap r || ((img r.engine).length != 0 && r.entryPt < engWords (img r.engine))))
    <|> entryCheck t 13 (fun _ r => staleOk s d r))
    <|> entryCheck t 14 (fun _ r => !isDrdy r || launchPinOk s d t r.engine))
    <|> whole 15 ((List.range 24).all (standbyOk s d t)))
    <|> entryCheck t 16 (pairOnce t))
    <|> (t.pairs.find? (fun p => !(((t.entries[p.entry]?).map isPair).getD false && partnerOk s d t p))).map
          (fun p => (16, p.entry)))
    <|> whole 17 (rotaOwner s d == some writer))
    <|> whole 18 (rotaOwner s d == some 1 || !((List.range 12).any (fun k => portOwner s (d * 12 + k) == some 1)
          || (List.range 24).any (fun k => engOwner s (d * 24 + k) == some 1))))
    <|> whole 19 (kindOk s d t sentinel))
    <|> whole 20 (crc32 (bankBody t) == t.bodyCrc)

/-- The first check of R200 that a rota image fails, with the entry or 0xFFFF. -/
def rotaRefuse (s : State) (d writer : Nat) (b : List Byte) (sentinel : Bool) : Option (Nat × Nat) :=
  let t := rotaOf b
  let n := rotaCount b
  match firstFail
    [(1, headerCrcOk b 78), (2, getLe b 0 4 == 0x524F5431 && getLe b 4 2 == 1 && getLe b 7 1 ≤ 1),
     (3, getLe b 6 1 == d && decide (d < usedDies s)),
     (4, n ≤ 2048 && rotaPairs b ≤ n && b.length == pairsAt b + 8 * rotaPairs b && crc32 (b.drop 80) == getLe b 68 4),
     (5, frameOk t),
     (6, zeroAt b 72 6 && (n % 2 == 0 || zeroAt b (80 + 10 * n) 2)
        && (List.range (rotaPairs b)).all (fun i => zeroAt b (pairsAt b + 8 * i + 5) 3))] with
  | some c => some (c, 0xFFFF)
  | none => rotaBody s d writer t sentinel

/-! ### Mill channel images (R209, R210, R214, R215) -/

/-- The image of a mill channel in the settings. -/
def millBytes (s : State) (c : Nat) : List Byte := cfgBlob s (0x8000 + c) 1

/-- The coefficients of a channel as they are read back from a bank (R214, R215). -/
def millBody (m : MillImg) : List Byte :=
  m.coeffs.flatMap (fun c => leBytes 2 (ofInt 16 c)) ++ List.replicate (2 * (m.taps % 2)) 0

/-- The fields of a mill image; an empty value is a channel that is off. -/
def millOf (b : List Byte) : MillImg :=
  let taps := getLe b 10 2
  if b.isEmpty then {}
  else { enable := bitOf (getLe b 9 1) 0, taps := taps, decim := getLe b 12 2, shift := getLe b 14 1, burst := getLe b 15 1
         inPeriod := getLe b 16 4, gdHalf := getLe b 20 2, outStream := getLe b 22 2
         coeffs := (List.range taps).map (fun i => getLeInt b (48 + 2 * i) 2) }

/-- The clock of an operating point in Hz (R209, R398). -/
def pointHz (k : Nat) : Nat := if k = 0 then 200000000 else if k = 1 then 100000000 else 50000000

/-- The operating points that a die is permitted to use: bit 0 A, 1 B, 2 C (OP_PERMIT). -/
def permitted (s : State) (d : Nat) : List Nat := (List.range 3).filter (bitOf (cfg s (0xC010 + d) 2 1))

/-- The channels of a die with their images in the settings. -/
def dieMills (s : State) (d : Nat) : List MillImg :=
  ((List.range 16).map (fun k => millOf (millBytes s (d * 16 + k)))).filter (·.enable)

/-- The sum of output rate × TAPS over enabled channels, in MAC/s as a fraction (R209). -/
def millDemand (l : List MillImg) : Nat × Nat :=
  l.foldl (fun a m => (a.1 * (m.inPeriod * m.decim) + 100000000 * m.taps * a.2, a.2 * (m.inPeriod * m.decim))) (0, 1)

/-- D of the enabled channels (R210). -/
def millLag (l : List MillImg) : Nat := 1 + (l.foldl (fun a m => a + m.burst * m.taps) 0 + 2047) / 2048

/-- Burst fit of a channel at a clock (R209). -/
def burstFits (m : MillImg) (hz : Nat) : Bool := 100000000 * 1024 ≤ m.burst * m.inPeriod * m.decim * hz

/-- The first check of R215 that a mill image fails. An image of length 0 has no header to check. -/
def millRefuseCode (s : State) (c writer : Nat) : Option Nat :=
  let b := millBytes s c
  let m := millOf b
  let p := getLe b 8 1
  let d := millDie c
  let l := dieMills s d
  let q := millDemand l
  let own : Bool := writer == p && millOwner s c == some p
  firstFail
    [(1, !b.isEmpty && headerCrcOk b 46), (2, getLe b 0 4 == 0x4D494C31 && getLe b 4 2 == 1), (3, getLe b 6 2 == c),
     (4, b.length == 48 + 2 * m.taps + 2 * (m.taps % 2) && crc32 (b.drop 48) == getLe b 24 4),
     (5, zeroAt b 28 18 && getLe b 9 1 ≤ 1 && (m.taps % 2 == 0 || zeroAt b (48 + 2 * m.taps) 2)
        && (m.enable || zeroAt b 10 18)),
     (6, !m.enable || (1 ≤ m.taps && m.taps ≤ 512 && 1 ≤ m.decim && m.decim ≤ 1024 && 100 ≤ m.inPeriod
        && m.inPeriod ≤ 100000000 && 1 ≤ m.burst && m.burst ≤ 64)),
     (7, !m.enable || (m.gdHalf ≤ 2 * (m.taps - 1) && m.shift ≤ 31)),
     (8, own && (!m.enable || m.outStream == 0xFFFF
        || (m.outStream < 0x1F0 && streamOwner s (d * 512 + m.outStream) == some p))),
     (9, l.all (fun x => (permitted s d).all (fun k => burstFits x (pointHz k)))),
     (10, (permitted s d).all (fun k => q.1 ≤ 2 * pointHz k * q.2)),
     (11, millLag l ≤ 255), (12, crc32 (millBody m) == getLe b 24 4)]

/-! ### Sieve rule images (R220, R223, R226, R227) -/

/-- The image of a rule in the settings. -/
def ruleBytes (s : State) (g : Nat) : List Byte := cfgBlob s (0x8400 + g) 1

/-- The fields of a rule image; an empty value removes the rule. -/
def ruleOf (b : List Byte) : RuleImg :=
  let u (off n : Nat) := getLe b (16 + off) n
  if b.isEmpty then {}
  else { present := true, parish := getLe b 12 1, type := u 0 1, srcKind := u 1 1, srcNum := u 2 2, field := u 4 1
         fieldLsb := u 5 1, fieldWidth := u 6 1, mode := u 7 1, a := getLeInt b 24 4, b := getLeInt b 28 4, t := u 16 4
         n := u 20 1, inv := u 21 1, ins := [u 22 1, u 23 1, u 24 1, u 25 1], outputs := u 26 1, silence := u 28 2 }

/-- The body of a rule as it is read back from control memory (R226, R227). -/
def ruleBody (m : RuleImg) : List Byte :=
  leBytes 1 m.type ++ leBytes 1 m.srcKind ++ leBytes 2 m.srcNum ++ leBytes 1 m.field ++ leBytes 1 m.fieldLsb
    ++ leBytes 1 m.fieldWidth ++ leBytes 1 m.mode ++ leBytes 4 (ofInt 32 m.a) ++ leBytes 4 (ofInt 32 m.b) ++ leBytes 4 m.t
    ++ leBytes 1 m.n ++ leBytes 1 m.inv ++ m.ins.flatMap (leBytes 1) ++ leBytes 1 m.outputs ++ [0] ++ leBytes 2 m.silence ++ [0, 0]

/-- The rule image of a rule in the settings. -/
def ruleImg (s : State) (g : Nat) : RuleImg := ruleOf (ruleBytes s g)

/-- Local input rules of an image that are used. -/
def usedIns (m : RuleImg) : List Nat := m.ins.filter (· != 0xFF)

/-- Check 5: reserved fields and fields that the type does not use are zero, and unused inputs 0xFF (R13, R226). -/
def ruleReserved (b : List Byte) (m : RuleImg) : Bool :=
  let bits := m.mode
  let val := m.type != 5 && m.type != 7
  zeroAt b 13 1 && zeroAt b 43 1 && zeroAt b 46 2 && bits < 32 && m.outputs < 32 && m.inv < 16 && m.type ≤ 7 && m.srcKind ≤ 6
    && (m.srcKind == 2 || (m.field == 0 && m.fieldLsb == 0 && m.fieldWidth == 0)) && m.field < 32
    && (m.srcKind != 0 && m.srcKind != 1 || m.srcNum == 0) && (m.srcKind != 5 || m.srcNum % 4 < 3)
    && (m.type == 7 || (m.inv == 0 && !bitOf bits 4)) && (m.type == 3 || m.type == 2 || m.n == 0)
    && (m.type == 3 || m.type == 4 || m.type == 5 || m.t == 0)
    && (val || (m.a == 0 && m.b == 0 && !bitOf bits 0))
    && (m.type != 3 && m.type != 4 && m.type != 6 || m.b == 0) && (m.type != 6 || !bitOf bits 0)
    && (if m.type = 7 then true
        else if m.type = 5 then m.ins.drop 2 == [0xFF, 0xFF] else m.ins == [0xFF, 0xFF, 0xFF, 0xFF])

/-- Check 7: the parameter rules of R220, the FIELD range, EDGE 3 on CHANGE and SILENCE 0 on types 5 and 7. -/
def ruleParams (m : RuleImg) : Bool :=
  let hyst := if bitOf m.mode 0 then decide (m.a ≤ m.b) else decide (m.b ≤ m.a)
  (match m.type with
   | 0 => hyst
   | 1 => decide (m.b ≤ m.a)
   | 2 => hyst && 1 ≤ m.n && m.n ≤ 16
   | 3 => 1 ≤ m.n && m.n ≤ 16 && 1 ≤ m.t
   | 4 => 1 ≤ m.t
   | 5 => 1 ≤ m.t && nth 0xFF m.ins 0 != 0xFF && nth 0xFF m.ins 1 != 0xFF
   | 6 => decide (0 ≤ m.a) && m.mode / 2 % 4 == 3
   | _ => !(usedIns m).isEmpty)
    && (m.srcKind != 2 || (m.srcNum < 0x1F0 && m.field % 16 ≤ 14 && 1 ≤ m.fieldWidth && m.fieldLsb + m.fieldWidth ≤ 32))
    && m.t < 2 ^ 24 && m.silence ≤ 60000 && (m.type != 5 && m.type != 7 || m.silence == 0)

/-- Whether a rule's source lies on its die and belongs to a parish (R216). -/
def ruleSourceOk (s : State) (d p : Nat) (m : RuleImg) : Bool :=
  match m.srcKind with
  | 2 => m.srcNum < 0x1F0 && streamOwner s (d * 512 + m.srcNum) == some p
  | 3 => m.srcNum < 16 && millOwner s (d * 16 + m.srcNum) == some p
  | 4 => m.srcNum < 32 && tallyOwner s (d * 8 + m.srcNum / 4) == some p
  | 5 => m.srcNum / 4 < 12 && portOwner s (d * 12 + m.srcNum / 4) == some p
  | _ => true

/-- The local rules that an image takes: its inputs and a source rule. -/
def takenRules (m : RuleImg) : List Nat := usedIns m ++ (if m.srcKind = 6 then [m.srcNum] else [])

/-- Check 9 for one rule: what it takes is lower-numbered, of its parish and present. -/
def takesOk (s : State) (g : Nat) (m : RuleImg) : Bool :=
  let d := ruleDie g
  (takenRules m).all (fun k => k < g % 64 && ruleOwner s (d * 64 + k) == some m.parish && (ruleImg s (d * 64 + k)).present)

/-- Whether a rule meets R223: it is of the safety parish, its FAIL_VALUE is 1, and its SILENCE is 1 to 9 ms, or every input
rule of a SEQUENCE or COMBINE meets the same. Inputs are lower-numbered, so the depth of 65 covers every chain. -/
def verdictOk (s : State) : Nat → Nat → Bool
  | 0, _ => false
  | n + 1, g =>
    let m := ruleImg s g
    m.present && m.parish == 1 && bitOf m.mode 3 &&
      (if m.type = 5 ∨ m.type = 7 then (usedIns m).all (fun k => verdictOk s n (ruleDie g * 64 + k))
       else 1 ≤ m.silence && m.silence ≤ 9)

/-- The first check of R227 that a rule's image fails. Checks 9 and 10 hold for every rule of the die, so that an image does not
leave another one in breach of them. -/
def ruleRefuseCode (s : State) (g writer : Nat) : Option Nat :=
  let b := ruleBytes s g
  let m := ruleImg s g
  let d := ruleDie g
  let others : Bool := ((List.range 64).map (fun k => d * 64 + k)).all (fun j =>
    !(ruleImg s j).present || takesOk s j (ruleImg s j))
  let verdicts : Bool := ((List.range 64).map (fun k => d * 64 + k)).all (fun j =>
    !((ruleImg s j).present && bitOf (ruleImg s j).outputs 4) || verdictOk s 65 j)
  if b.isEmpty then firstFail [(9, others)]
  else firstFail
    [(1, headerCrcOk b 14), (2, getLe b 0 4 == 0x53564531 && getLe b 4 2 == 1), (3, getLe b 6 2 == g),
     (4, b.length == 48 && crc32 (b.drop 16) == getLe b 8 4), (5, ruleReserved b m),
     (6, if m.type = 5 ∨ m.type = 7 then m.srcKind == 0 else 1 ≤ m.srcKind), (7, ruleParams m),
     (8, writer == m.parish && ruleOwner s g == some m.parish && ruleSourceOk s d m.parish m),
     (9, takesOk s g m && others),
     (10, verdicts), (11, crc32 (ruleBody m) == getLe b 8 4)]

end Sys2Proof.Machine
end

