-- ==== Sys2Proof/Machine/NvLog.lean ====
section
/-! DEFINITION. The NV log (R248 to R258): pages, captures, wear, spares and the scan after reset. -/

namespace Sys2Proof.Machine

/-! ### Regions and pages (R248 to R251) -/

/-- A region of a die's NV log. -/
def Die.regionAt (x : Die) (p : Nat) : Region := tget {} x.regions p

/-- The machine with a region changed. -/
def State.modRegion (s : State) (d p : Nat) (f : Region → Region) : State :=
  s.modDie d (fun x => { x with regions := tput x.regions p (f (x.regionAt p)) })

/-- Whether a page of the block map has a page behind it: one retired without a spare has none (R252). -/
def Die.pageThere (x : Die) (k : Nat) : Bool := !x.gonePages.contains k

/-- The pages of a block that a region may write. -/
def Die.blockPages (x : Die) (b : Nat) : List Nat := ((List.range 64).map (b * 64 + ·)).filter x.pageThere

/-- Pages that a region holds: 64 of each of its blocks, less those retired without a spare (R248, R252). -/
def regionSize (x : Die) (g : Region) : Nat :=
  g.blocks.length * 64 - (x.gonePages.filter (fun k => g.blocks.contains (k / 64))).length

/-- PFLAGS[CAPTURE] of a page (R249). -/
def Page.capture (pg : Page) : Bool := bitOf pg.pflags 4

/-- Bytes 0 to 15 of a page (R249). -/
def pageHead (pg : Page) : List Byte :=
  leBytes 4 pg.seq ++ leBytes 1 pg.pflags ++ leBytes 1 pg.fill ++ leBytes 1 pg.recs.length ++ [0]
    ++ leBytes 6 pg.seconds.toNat ++ leBytes 1 pg.epoch.toNat ++ [0]

/-- The 256 bytes that a page is written with (R249). -/
def pageBytes (pg : Page) : List Byte :=
  let head := pageHead pg
  let area := pg.recs.flatMap recNative
  let mark := leBytes 2 0x4C47 ++ leBytes 2 pg.seq ++ slice head 5 1 ++ slice head 6 1
  head ++ area ++ zeros (232 - area.length) ++ mark ++ leBytes 2 (crc16 (head ++ mark))

/-- LOG_SEQ of a page's content. -/
def pageSeq (b : List Byte) : Nat := leNat (b.take 4)

/-- Whether a page's content is committed: MARK, SEQ_LO, FILL_C, REC_C and MCRC hold; any other page is torn (R250). -/
def pageOk (b : List Byte) : Bool :=
  leNat (slice b 248 2) == 0x4C47 && leNat (slice b 250 2) == pageSeq b % 65536 && slice b 252 1 == slice b 5 1
    && slice b 253 1 == slice b 6 1 && leNat (slice b 254 2) == crc16 (b.take 16 ++ slice b 248 6)

/-- The committed pages of a region. -/
def committedPages (g : Region) : List (List Byte) := g.pages.filter pageOk

/-- The highest LOG_SEQ of a region's committed pages (R257). -/
def headSeq (g : Region) : Option Nat :=
  (committedPages g).foldl (fun a b => some (max (a.getD 0) (pageSeq b))) none

/-- PAGE_DATA (R258): the page that PAGE_SEL names, or nothing where the region holds none committed. -/
def pageData (g : Region) : List Byte := ((committedPages g).find? (fun b => pageSeq b == g.pageSel)).getD []

/-! ### Wear and spares (R248, R252, R254) -/

/-- The page of the block map at a position of some blocks, past those that have none behind them. -/
def pageOf (x : Die) : List Nat → Nat → Nat
  | [], _ => 0
  | b :: t, pos =>
    let l := x.blockPages b
    if pos < l.length then nth 0 l pos else pageOf x t (pos - l.length)

/-- The physical page behind the next position of a region, through the block map. -/
def physPage (x : Die) (g : Region) : Nat :=
  let base := pageOf x g.blocks (if regionSize x g = 0 then 0 else g.nextSeq % regionSize x g)
  tget base x.remap base

/-- The first page of the spare pool that serves no retired page and is not itself retired. -/
def freeSpare (x : Die) : Option Nat :=
  (x.spareBlocks.flatMap (fun b => (List.range 64).map (b * 64 + ·))).find? (fun k =>
    !(x.remap.any (fun e => e.2 == k || e.1 == k)))

/-- A physical page is retired (R252): a spare page takes its place and the exchange enters the block map; without one the
region is shortened by that page. Each is recorded, and fewer than 103 spare pages set the reason "NV spares below 10 %". -/
def retirePage (s : State) (d p k : Nat) : State :=
  let x := s.dieAt d
  match freeSpare x with
  | some q =>
    let back := (x.remap.find? (fun e => e.2 == k)).map (·.1)
    let s1 := s.modDie d (fun y => { y with
      pagesRetired := satInc 65535 y.pagesRetired, sparesFree := y.sparesFree - 1
      remap := tput (tput y.remap (back.getD k) q) k q })
    let s2 := faultItem s1 d 0x11 1 p 0 0
    if (s2.dieAt d).sparesFree < 103 then requestReason s2 0 d else s2
  | none =>
    let back := (x.remap.find? (fun e => e.2 == k)).map (·.1)
    faultItem (s.modDie d (fun y => { y with
      pagesRetired := satInc 65535 y.pagesRetired, gonePages := addOnce y.gonePages (back.getD k) })) d 0x11 2 p 0 0

/-- A page write wears its physical page (R248). -/
def wearPage (s : State) (d k : Nat) : State :=
  s.modDie d (fun x => { x with pageWrites := tput x.pageWrites k (tget 0 x.pageWrites k + 1) })

/-- WEAR_MAX: the highest page write count of a die. -/
def wearMax (x : Die) : Nat := x.pageWrites.foldl (fun a e => max a e.2) 0

/-- WEAR_MEAN: the mean page write count of a die's 16,384 pages, rounded down (log entry 12). -/
def wearMean (x : Die) : Nat := (x.pageWrites.foldl (fun a e => a + e.2) 0) / 16384

/-! ### Writing pages (R251 to R253) -/

/-- A capture whose last page is committed is complete (R253): its records are no longer pinned, and the crier has a reason
(R245). -/
def captureDone (s : State) (d p : Nat) : State :=
  let g := (s.dieAt d).regionAt p
  if g.capActive && g.capDrain && !(g.queue.any Page.capture) then
    let s1 := s.modRegion d p (fun g => { g with
      capActive := false, capDrain := false, capFirst := false, captures := satInc 65535 g.captures })
    let s2 := { s1 with stream := s1.stream.map (fun e =>
      if streamDie e.1 == d && streamOwner s e.1 == some p then
        (e.1, { e.2 with ring := e.2.ring.map (fun r => { r with pinned := false }) }) else e) }
    crierReason s2 p 4 0xFFFF
  else s

/-- A region's pages without a torn newest one, whose position the next write takes (R255). -/
def wholePages (g : Region) : List (List Byte) :=
  match g.pages.getLast? with
  | some b => if pageOk b then g.pages else g.pages.dropLast
  | none => []

/-- What stands at the position that the next write of a region of so many pages takes: the torn page, the oldest page of a full
region, or zeros where nothing was ever written (log entry 19). -/
def underPage (size : Nat) (g : Region) : List Byte :=
  if (wholePages g).length < g.pages.length then (g.pages.getLast?).getD (zeros 256)
  else if g.pages.length < size then zeros 256
  else (g.pages.head?).getD (zeros 256)

/-- A page's content joins a region of so many pages as the newest one; the oldest one leaves a full region (R251). -/
def putPage (size : Nat) (g : Region) (b : List Byte) : List (List Byte) :=
  let l := wholePages g ++ [b]
  l.drop (l.length - size)

/-- A page written with its marker becomes the region's newest one (R249, R251). -/
def storePage (size : Nat) (g : Region) (pg : Page) : Region :=
  { g with pages := putPage size g (pageBytes { pg with seq := g.nextSeq }), queue := g.queue.drop 1, nextSeq := g.nextSeq + 1 }

/-- The regions of other parishes do not write while a die writes a page of one region; writes wait for the scan (R251,
R257). -/
def mayWrite (x : Die) (p : Nat) : Bool := x.scanDone && x.logicOn && !x.lost && 0 < regionSize x (x.regionAt p)

/-- NV_PAGE_WRITE_DONE (R251, R252): a die has written the page at the head of a region's queue with so many group rewrites;
without `ok` a group still failed after 3 of them and the page was retired first. -/
def execNvPageWriteDone (d p retries : Nat) (ok : Bool) (s : State) : Result State :=
  withDie s d (
    let x := s.dieAt d
    let g := x.regionAt p
    match g.queue with
    | [] => s
    | pg :: _ => given (mayWrite x p) s (
        let k := physPage x g
        let s1 := s.modDie d (fun y => { y with writeRetries := y.writeRetries + BitVec.ofNat 32 retries })
        let bad := !ok || decide (100000 ≤ tget 0 x.pageWrites k)
        let s2 := if bad then retirePage (if ok then s1 else wearPage s1 d k) d p k else s1
        let s3 := wearPage s2 d (physPage (s2.dieAt d) ((s2.dieAt d).regionAt p))
        captureDone (s3.modRegion d p (fun g => storePage (regionSize (s3.dieAt d) g) g pg)) d p))

/-- LOG_FLUSH_EXPIRY (R253): LOG_FLUSH has passed since the first record of an open CONTINUOUS page, which is committed. -/
def execLogFlushExpiry (d p : Nat) (s : State) : Result State :=
  withDie s d (
    match ((s.dieAt d).regionAt p).openPage.bind (fun pg => pg.recs.head?) with
    | none => s
    | some r => given (decide (r.entered + msTicks (cfg s (granIdx p) 0xC 1000) ≤ s.ticks)) s
        (s.modRegion d p closePage))

/-! ### Captures (R253) -/

/-- A capture of a parish starts on a die. -/
def execCaptureStart (d p : Nat) (s : State) : Result State := withDie s d (captureTrigger s d p)

/-- A write of 1 to LOG_TRIGGER (R253): a capture starts on every die of the parish. -/
def writeLogTrigger (s : State) (p v : Nat) : State :=
  if v = 1 then (List.range (usedDies s)).foldl (fun x d => captureTrigger x d p) s else s

/-- LOG_TRIGGER (R253). -/
def execLogTrigger (p : Nat) (s : State) : Result State :=
  .next (given (parCode p == 0) (withStatus s (parCode p)) (withStatus (writeLogTrigger s p 1) 0))

/-- Records collected into pages of their own: a page closes before a record that it cannot take (R249, R253). -/
def capturePages (s : State) (pflags : Nat) : Option Page → List Rec → List Page
  | none, [] => []
  | some pg, [] => [pg]
  | none, r :: t => capturePages s pflags (some (freshPage s pflags r)) t
  | some pg, r :: t =>
    if pageTakes pg r then capturePages s pflags (some { pg with recs := pg.recs ++ [r] }) t
    else pg :: capturePages s pflags (some (freshPage s pflags r)) t

/-- The records that a capture takes: those of the parish's CAPTURE streams on the die that entered within its span. -/
def captureRecs (s : State) (d p : Nat) (g : Region) : List Rec :=
  (s.stream.filter (fun e => streamDie e.1 == d && streamOwner s e.1 == some p && streamLog s e.1 == 2)).flatMap
    (fun e => e.2.ring.filter (fun r => decide (g.capFrom ≤ r.entered ∧ r.entered ≤ g.capTo)))

/-- CAPTURE_END (R253): LOG_POST has passed since the last trigger; the capture's pages wait to be written, and the capture is
complete once the last of them is committed. -/
def execCaptureEnd (d p : Nat) (s : State) : Result State :=
  withDie s d (
    let g := (s.dieAt d).regionAt p
    given (g.capActive && !g.capDrain && decide (g.capTo ≤ s.ticks)) s (
      let recs := captureRecs s d p g
      let pages := capturePages s (p % 16 + 16) none recs
      let pages' := if g.capFirst then pages else match pages with
        | [] => []
        | pg :: t => { pg with pflags := pg.pflags + 32 } :: t
      captureDone (s.modRegion d p (fun g => { g with
        queue := g.queue ++ pages', capDrain := true, capFirst := g.capFirst || !pages.isEmpty })) d p))

/-! ### Wear levelling (R254) -/

/-- Writes of a physical block's pages. -/
def blockWrites (x : Die) (b : Nat) : Nat :=
  x.pageWrites.foldl (fun a e => if e.1 / 64 = b then a + e.2 else a) 0

/-- Writes per page of a region, times 2^16, rounded down. -/
def regionMean (x : Die) (g : Region) : Nat :=
  if g.blocks.isEmpty then 0 else (g.blocks.foldl (fun a b => a + blockWrites x b) 0) * 65536 / (g.blocks.length * 64)

/-- The element of a list with the greatest value, the first of equals. -/
def argMax (f : Nat → Nat) : List Nat → Option Nat
  | [] => none
  | a :: t => match argMax f t with
    | none => some a
    | some b => if f a < f b then some b else some a

/-- The element of a list with the least value, the first of equals. -/
def argMin (f : Nat → Nat) : List Nat → Option Nat
  | [] => none
  | a :: t => match argMin f t with
    | none => some a
    | some b => if f b < f a then some b else some a

/-- A list with one value replaced. -/
def replaceVal (l : List Nat) (a b : Nat) : List Nat := l.map (fun x => if x = a then b else x)

/-- The pages of a block are written once more by a copy. -/
def copyInto (s : State) (d b : Nat) : State := (List.range 64).foldl (fun x i => wearPage x d (b * 64 + i)) s

/-- WEAR_LEVEL_CHECK (R254): when the means of the most-worn and the least-worn region differ by more than 2,000 writes a page,
one block moves: the most-written block of the worn region to the least-written whole spare block, and the least-written
block of the other region into the freed block; the block thus emptied joins the spare pool. -/
def execWearLevelCheck (d : Nat) (s : State) : Result State :=
  withDie s d (
    let x := s.dieAt d
    let ps := (x.regions.filter (fun e => !e.2.blocks.isEmpty)).map (·.1)
    let mean (p : Nat) : Nat := regionMean x (x.regionAt p)
    let whole := x.spareBlocks.filter (fun b => !x.remap.any (fun e => e.2 / 64 == b))
    match argMax mean ps, argMin mean ps, argMin (blockWrites x) whole with
    | some hi, some lo, some sp =>
      match argMax (blockWrites x) (x.regionAt hi).blocks, argMin (blockWrites x) (x.regionAt lo).blocks with
      | some b, some c => given (decide (mean lo + 2000 * 65536 < mean hi) && x.logicOn) s (
          let s1 := (copyInto s d sp).modRegion d hi (fun g => { g with blocks := replaceVal g.blocks b sp })
          let s2 := (copyInto s1 d b).modRegion d lo (fun g => { g with blocks := replaceVal g.blocks c b })
          s2.modDie d (fun y => { y with spareBlocks := replaceVal y.spareBlocks sp c }))
      | _, _ => s
    | _, _, _ => s)

/-! ### The scan after reset (R255, R257) -/

/-- The head of a region is its committed page with the highest LOG_SEQ, and the next page takes the number after it; a torn page
stays until its position is written again (R255, R257). -/
def scanRegion (g : Region) : Region := { g with nextSeq := ((headSeq g).map (· + 1)).getD 0 }

/-- The records that log writes needed while they waited for the scan are free to leave their rings (R257). -/
def freeLogged (s : State) (d : Nat) : State :=
  { s with stream := s.stream.map (fun e =>
      if streamDie e.1 == d && streamLog s e.1 == 1 then
        (e.1, { e.2 with ring := e.2.ring.map (fun r => { r with pinned := false }) }) else e) }

/-- NV_SCAN_DONE (R257): the scan of a die's region pages ends, after its first rota frame, which a die without a rota does not
wait for. -/
def execNvScanDone (d : Nat) (s : State) : Result State :=
  withDie s d (
    let x := s.dieAt d
    let torn := x.regions.foldl (fun a e => a + (e.2.pages.filter (fun b => !pageOk b)).length) 0
    given (s.dictReady && x.logicOn && !x.scanDone && (x.frames != 0 || !x.active.valid)) s
      (freeLogged (s.modDie d (fun y => { y with
        scanDone := true, tornPages := satAdd 65535 y.tornPages torn
        regions := y.regions.map (fun e => (e.1, scanRegion e.2)) })) d))

/-- Each bit of a byte is new where the mask holds a 1, else old. -/
def mixByte (mask old new_ : Byte) : Byte := (new_ &&& mask) ||| (old &&& ~~~mask)

/-- The content of a page whose write was cut in a group (R255): the groups before it new, that group new in the bits that `mask`
names, bit 0 the lowest of its first byte, and the groups after it old. -/
def cutPage (old new_ : List Byte) (group mask : Nat) : List Byte :=
  new_.take (8 * group)
    ++ (List.range 8).map (fun i =>
      mixByte (BitVec.ofNat 8 (mask / 2 ^ (8 * i))) (nth 0 old (8 * group + i)) (nth 0 new_ (8 * group + i)))
    ++ old.drop (8 * group + 8)

/-- Power fails during the write of the page at the head of a die's queue, in a group of which the bits of `mask` came out new
(R255). A page of which nothing changed stays as it was. -/
def tearPage (s : State) (d group mask : Nat) : State :=
  match (s.dieAt d).regions.find? (fun e => !e.2.queue.isEmpty) with
  | none => s
  | some (p, g) =>
    match g.queue with
    | [] => s
    | pg :: _ =>
      if mayWrite (s.dieAt d) p = false ∨ 31 < group then s
      else s.modRegion d p (fun g =>
        let size := regionSize (s.dieAt d) g
        let old := underPage size g
        let b := cutPage old (pageBytes { pg with seq := g.nextSeq }) group mask
        if b = old then g else { g with pages := putPage size g b, queue := g.queue.drop 1 })

end Sys2Proof.Machine
end

