-- ==== Sys2Proof/Machine/Crypto.lean ====
section
/-! DEFINITION. AES-128 and AES-CMAC, which the spec names for keys and tags (R297 to R299). The algorithms are those of FIPS
197 and RFC 4493 (PRESUMED; log entry 11). -/

namespace Sys2Proof.Machine

/-! ### The field GF(2^8) of AES -/

/-- Multiplication by x modulo x^8 + x^4 + x^3 + x + 1. -/
def xtime (a : Byte) : Byte := if a.msb then (a <<< 1) ^^^ 0x1B else a <<< 1

/-- Multiplication of a by the low n bits of b. -/
def gfMulBits : Nat → Byte → Nat → Byte
  | 0, _, _ => 0
  | n + 1, a, b => (if b % 2 = 1 then a else 0) ^^^ gfMulBits n (xtime a) (b / 2)

/-- Multiplication in the field. -/
def gfMul (a : Byte) (b : Nat) : Byte := gfMulBits 8 a b

/-- The square of an element. -/
def gfSq (a : Byte) : Byte := gfMul a a.toNat

/-- The product of the squares a^2, a^4, and so on, n of them. -/
def gfSquares : Nat → Byte → Byte
  | 0, _ => 1
  | n + 1, a => gfMul (gfSquares n (gfSq a)) (gfSq a).toNat

/-- The inverse a^254, and 0 for 0. -/
def gfInv (a : Byte) : Byte := gfSquares 7 a

/-- The AES substitution of a byte. -/
def subByte (a : Byte) : Byte :=
  let b := gfInv a
  b ^^^ b.rotateLeft 1 ^^^ b.rotateLeft 2 ^^^ b.rotateLeft 3 ^^^ b.rotateLeft 4 ^^^ 0x63

/-- The inverse substitution. -/
def unsubByte (a : Byte) : Byte :=
  gfInv (a.rotateLeft 1 ^^^ a.rotateLeft 3 ^^^ a.rotateLeft 6 ^^^ 0x05)

/-! ### The block cipher -/

/-- Two blocks added byte by byte. -/
def xorBytes (a b : List Byte) : List Byte := List.zipWith (fun x y => x ^^^ y) a b

/-- The bytes of a block in another order. -/
def reorder (l : List Byte) (f : Nat → Nat) : List Byte := (List.range 16).map (fun i => nth 0 l (f i))

/-- ShiftRows on a block, column by column. -/
def shiftRows (l : List Byte) : List Byte := reorder l (fun i => (i / 4 + i % 4) % 4 * 4 + i % 4)

/-- The inverse of ShiftRows. -/
def unshiftRows (l : List Byte) : List Byte := reorder l (fun i => (i / 4 + 4 - i % 4) % 4 * 4 + i % 4)

/-- A column transform with the coefficients of its first row. -/
def mixWith (c0 c1 c2 c3 : Nat) (l : List Byte) : List Byte :=
  (List.range 16).map (fun i =>
    let at_ (k : Nat) : Byte := nth 0 l (i / 4 * 4 + (i % 4 + k) % 4)
    gfMul (at_ 0) c0 ^^^ gfMul (at_ 1) c1 ^^^ gfMul (at_ 2) c2 ^^^ gfMul (at_ 3) c3)

/-- The round key that follows one, with its round constant. -/
def nextRoundKey (k : List Byte) (rcon : Byte) : List Byte :=
  let t := [subByte (nth 0 k 13) ^^^ rcon, subByte (nth 0 k 14), subByte (nth 0 k 15), subByte (nth 0 k 12)]
  let w0 := xorBytes (slice k 0 4) t
  let w1 := xorBytes (slice k 4 4) w0
  let w2 := xorBytes (slice k 8 4) w1
  let w3 := xorBytes (slice k 12 4) w2
  w0 ++ w1 ++ w2 ++ w3

/-- So many round keys from one on. -/
def roundKeys : Nat → List Byte → Byte → List (List Byte)
  | 0, _, _ => []
  | n + 1, k, rcon => k :: roundKeys n (nextRoundKey k rcon) (xtime rcon)

/-- The rounds of the encryption; the last one has no column transform. -/
def encRounds : List (List Byte) → List Byte → List Byte
  | [], b => b
  | [k], b => xorBytes (shiftRows (b.map subByte)) k
  | k :: t, b => encRounds t (xorBytes (mixWith 2 3 1 1 (shiftRows (b.map subByte))) k)

/-- AES-128 of one block. -/
def aesEncrypt (key block : List Byte) : List Byte :=
  match roundKeys 11 key 1 with
  | k :: t => encRounds t (xorBytes block k)
  | [] => block

/-- The rounds of the decryption; the first one has no column transform. -/
def decRounds : List (List Byte) → List Byte → List Byte
  | [], b => b
  | [k], b => xorBytes b k
  | k :: t, b => decRounds t ((unshiftRows (mixWith 14 11 13 9 (xorBytes b k))).map unsubByte)

/-- The inverse of AES-128 on one block. -/
def aesDecrypt (key block : List Byte) : List Byte :=
  match (roundKeys 11 key 1).reverse with
  | k :: t => decRounds t ((unshiftRows (xorBytes block k)).map unsubByte)
  | [] => block

/-! ### CMAC -/

/-- The value of bytes, most significant first. -/
def beNat (l : List Byte) : Nat := leNat l.reverse

/-- The n bytes of a value, most significant first. -/
def beBytes (n v : Nat) : List Byte := (leBytes n v).reverse

/-- A CMAC subkey from the one before. -/
def cmacDouble (l : List Byte) : List Byte :=
  let v := beNat l
  beBytes 16 (if 2 ^ 127 ≤ v then (2 * v % 2 ^ 128) ^^^ 0x87 else 2 * v)

/-- The chain over the message's blocks; the last one carries a subkey. -/
def cmacChain (key k1 k2 : List Byte) : Nat → List Byte → List Byte → List Byte
  | 0, acc, _ => acc
  | n + 1, acc, m =>
    if m.length ≤ 16 then
      let last := if m.length = 16 then xorBytes m k1
        else xorBytes (m ++ [0x80] ++ zeros (15 - m.length)) k2
      aesEncrypt key (xorBytes acc last)
    else cmacChain key k1 k2 n (aesEncrypt key (xorBytes acc (m.take 16))) (m.drop 16)

/-- AES-CMAC of a message (R298, R299). -/
def aesCmac (key msg : List Byte) : List Byte :=
  let k1 := cmacDouble (aesEncrypt key (zeros 16))
  cmacChain key k1 (cmacDouble k1) (msg.length / 16 + 1) (zeros 16) msg

end Sys2Proof.Machine
end

