-- ==== Sys2Proof/Machine/Matrix.lean ====
section
/-! DEFINITION. The tally channels' actions and the routing matrix (chapter 10): starts, stops and resets, the levels of
rows and columns, and what a column does at its sink. -/

namespace Sys2Proof.Machine

/-! ### The settings of a tally channel (R260, R276) -/

/-- WIDTH. -/
def Tally.widthCode (x : Tally) : Nat := field x.cfg 1 0
/-- DIR. -/
def Tally.dir (x : Tally) : Nat := field x.cfg 3 2
/-- CLK: 0 SYS, 1 EDGE, 2 LPRC. -/
def Tally.clk (x : Tally) : Nat := field x.cfg 5 4
/-- Whether the channel is the lower one of a W64 pair. -/
def Tally.wide (x : Tally) : Bool := x.widthCode == 3

/-- COUNT of a channel, of 64 bits in W64 (R260). -/
def tallyCount (s : State) (t : Nat) : Nat :=
  let x := s.tallyAt t
  if x.wide then x.count + 2 ^ 32 * (s.tallyAt (t + 1)).count else x.count

/-- The compare value in force, of 64 bits in W64. -/
def tallyCmp (s : State) (t : Nat) : Nat :=
  let x := s.tallyAt t
  if x.wide then x.cmpAct + 2 ^ 32 * (s.tallyAt (t + 1)).cmpAct else x.cmpAct

/-- TOP in force, fixed in W64 and held within the counter's width. -/
def tallyTop (s : State) (t : Nat) : Nat :=
  let x := s.tallyAt t
  if x.wide then 2 ^ 64 - 1 else if x.widthCode = 1 then min x.topAct 65535 else x.topAct

/-- A channel with COUNT set. -/
def setCount (s : State) (t v : Nat) : State :=
  if (s.tallyAt t).wide then
    (s.modTally t (fun x => { x with count := v % 2 ^ 32 })).modTally (t + 1) (fun x => { x with count := v / 2 ^ 32 % 2 ^ 32 })
  else s.modTally t (fun x => { x with count := v % 2 ^ 32 })

/-- The preloads are copied into TOP_ACT and CMP_ACT (R262). -/
def copyPreloads (s : State) (t : Nat) : State :=
  let c (x : Tally) : Tally := { x with topAct := x.top, cmpAct := x.cmp, copyDue := false }
  if (s.tallyAt t).wide then (s.modTally t c).modTally (t + 1) c else s.modTally t c

/-- Whether a channel holds: it runs from SYS, and its die's SYS runs from the FRC in a DVFS switch or, on die 0, in SLEEP (R265,
R266). STATE of one that is RUNNING then reads HELD. -/
def tallyHeld (s : State) (t : Nat) : Bool := (s.tallyAt t).clk == 0 && (s.dieAt (tallyDie t)).onFrc

/-- The compare output follows COUNT and its change is stamped (R263, R278); that of a stopped channel is frozen (R268) and that of a
held one holds (R265). -/
def compareOut (s : State) (t : Nat) : State :=
  let x := s.tallyAt t
  let l := x.widthCode != 0 && decide (tallyCount s t < tallyCmp s t)
  if x.state = 2 ∨ tallyHeld s t = true ∨ l = x.cmpOut then s
  else s.modTally t (fun y => { y with cmpOut := l, outStamp := s.nowStamp })

/-- A start (R268): from IDLE with PHASE, from STOPPED with COUNT as it stands. A channel of width OFF stays idle. -/
def tallyStart (s : State) (t : Nat) : State :=
  let x := s.tallyAt t
  if x.widthCode = 0 ∨ x.stopped = true ∨ x.state = 1 then s
  else if x.state = 2 then compareOut (s.modTally t (fun y => { y with state := 1 })) t
  else compareOut (setCount (s.modTally t (fun y => { y with
    state := 1, down := x.dir == 2 && bitOf x.cfg 11 })) t x.phase) t

/-- A stop freezes COUNT and the compare output (R268). -/
def tallyStop (s : State) (t : Nat) : State :=
  if (s.tallyAt t).state = 1 then s.modTally t (fun y => { y with state := 2, tickDue := 0 }) else s

/-- A reset (R262, R268): the preloads are copied; a running channel starts over and a stopped one goes to IDLE. -/
def tallyReset (s : State) (t : Nat) : State :=
  let x := s.tallyAt t
  if x.state = 1 then
    let s1 := copyPreloads s t
    compareOut (setCount (s1.modTally t (fun y => { y with down := false })) t (if x.dir = 1 then tallyTop s1 t else 0)) t
  else if x.state = 2 then compareOut (copyPreloads (s.modTally t (fun y => { y with state := 0 })) t) t
  else s

/-- Whether the control bus and the counters of a channel's die work. -/
def tallyLive (s : State) (t : Nat) : Bool := (s.dieAt (tallyDie t)).logicOn && !(s.dieAt (tallyDie t)).lost

/-- A match, wrap or capture producer (bit 0, 1, 2) that some row of the die names begins its 4-cycle pulse; a match and a wrap
are stamped with the time of their SYS edge (R278). -/
def tallyPulse (s : State) (t bit : Nat) : State :=
  let d := tallyDie t
  if s.row.any (fun e => e.1 / 256 == d && e.2.src == (4 + bit) * 4096 + t % 32) && tallyLive s t then
    s.modTally t (fun x => { x with
      pulse := setBit x.pulse bit, matchStamp := if bit = 0 then s.nowStamp else x.matchStamp
      wrapStamp := if bit = 1 then s.nowStamp else x.wrapStamp })
  else s

/-! ### Rows (R277, R278) -/

/-- A cross-die line as die d reads it (R282): low when no column names it or the sender's logic is off, the FAIL level when
the sender is lost, else the sending column's level. -/
def crossLevel (s : State) (line : Nat) : Bool :=
  match lineColumns s line with
  | [] => false
  | (d', c) :: _ =>
    let x := s.colAt (rk d' c)
    if (s.dieAt d').lost then bitOf x.dest 4 else (s.dieAt d').logicOn && x.level

/-- The engines of a row's parish on its die, those that drive its engine lines (R174, R278). -/
def rowEngines (s : State) (d r : Nat) : List Nat :=
  match rowOwner s d r with
  | none => []
  | some p => ((List.range 24).map (fun k => d * 24 + k)).filter (fun e => engOwner s e == some p)

/-- Whether the row's parish is in HALT on the die, where its rows read low (R292). -/
def rowHalted (s : State) (d r : Nat) : Bool :=
  match rowOwner s d r with
  | some p => parStateOn s p d == 4
  | none => false

/-- The level of a row's source; `pulses` counts the 4-cycle pulses in. -/
def rowSource (s : State) (d r : Nat) (pulses : Bool) : Bool :=
  let x := s.rowAt (rk d r)
  let i := x.src % 4096
  let t := s.tallyAt (d * 32 + i)
  if x.failed || rowHalted s d r then false
  else if 64 ≤ r then crossLevel s (r - 64)
  else match x.src / 4096 with
    | 1 => (portComp (s.portAt (d * 12 + i / 3)) (i % 3)).latch
    | 2 => (portPg (s.portAt (d * 12 + i / 2)) (i % 2)).out
    | 3 => t.cmpOut
    | 4 => pulses && bitOf t.pulse 0
    | 5 => pulses && bitOf t.pulse 1
    | 6 => pulses && bitOf t.pulse 2
    | 7 =>
      let u := s.ruleAt (d * 64 + i)
      u.img.present && bitOf u.img.outputs 1 && (if bitOf u.img.outputs 2 then pulses && u.pulse else u.out)
    | 8 => (rowEngines s d r).any (fun e => bitOf (s.engAt e).lines i || (pulses && bitOf (s.engAt e).pulses i))
    | 9 => bitOf (s.portAt (d * 12 + i / 4)).pinIn.toNat (i % 4)
    | _ => false

/-- The stamp that a row carries with a change (R278); none for engine lines and cross-die lines. -/
def rowStamp (s : State) (d r : Nat) : Option Stamp :=
  let x := s.rowAt (rk d r)
  let i := x.src % 4096
  if 64 ≤ r then none
  else match x.src / 4096 with
    | 1 => some (portComp (s.portAt (d * 12 + i / 3)) (i % 3)).setStamp
    | 2 => some (portPg (s.portAt (d * 12 + i / 2)) (i % 2)).startStamp
    | 3 => some (s.tallyAt (d * 32 + i)).outStamp
    | 4 => some (s.tallyAt (d * 32 + i)).matchStamp
    | 5 => some (s.tallyAt (d * 32 + i)).wrapStamp
    | 6 => some (s.tallyAt (d * 32 + i)).capStamp
    | 7 => some (s.ruleAt (d * 64 + i)).lastStamp
    | 8 => none
    | 9 => some (tget 0 (s.portAt (d * 12 + i / 4)).edgeStamp
        (edgeKey (i % 4) (bitOf (s.portAt (d * 12 + i / 4)).pinIn.toNat (i % 4))))
    | _ => none

/-- The 4-cycle pulse of a row's source is over. -/
def endPulse (s : State) (d r : Nat) : State :=
  let x := s.rowAt (rk d r)
  let i := x.src % 4096
  if 64 ≤ r then s
  else match x.src / 4096 with
    | 4 => s.modTally (d * 32 + i) (fun y => { y with pulse := clrBit y.pulse 0 })
    | 5 => s.modTally (d * 32 + i) (fun y => { y with pulse := clrBit y.pulse 1 })
    | 6 => s.modTally (d * 32 + i) (fun y => { y with pulse := clrBit y.pulse 2 })
    | 7 => s.modRule (d * 64 + i) (fun y => { y with pulse := false })
    | 8 => (rowEngines s d r).foldl (fun u e => u.modEng e (fun y => { y with pulses := clrBit y.pulses i })) s
    | _ => s

/-! ### Columns (R277, R279) -/

/-- The level of a column: the OR of the rows enabled into it. One damaged by an uncorrectable error reads low, but for
kinds 6 and 7, which then request their output off (R421). -/
def colSource (s : State) (d c : Nat) : Bool :=
  let x := s.colAt (rk d c)
  if x.failed then x.dest / 4096 == 6 || x.dest / 4096 == 7
  else (List.range 80).any (fun r => bitOf x.rows r && (s.rowAt (rk d r)).level)

/-- The contexts that await a rise of a column since their AWAIT see it, with its stamp (R167). -/
def meetLine (s : State) (d c : Nat) (st : Stamp) : State :=
  let meets (y : Ctx) : Ctx := { y with await := y.await.map (fun a =>
    if a.kind = 3 ∧ a.arg = c ∧ a.sub = 1 ∧ a.met = none then { a with met := some st } else a) }
  { s with engine := s.engine.map (fun e =>
      if engDie e.1 = d then (e.1, { e.2 with ctxs := e.2.ctxs.map (fun q => (q.1, meets q.2)) }) else e) }

/-- Whether some other column of kind 6 still requests output o of a die. -/
def otherTrip (s : State) (d o : Nat) : Bool :=
  s.col.any (fun e => e.1 / 256 == d && e.2.dest / 4096 == 6 && e.2.dest % 4096 % 2 == o && e.2.level)

/-- What a change of a column does at its sink (R279), but for the tally channels: a generator's start and a capture on a rise. An
output's request begins with its confirmation (R27) and ends here. A compare output pin (kind 5) and a cross-die line (kind 8) have
no state of their own: the pin shows the column's level (`pinDrive`), and the line carries it (`crossLevel`). -/
def colActs (s : State) (d c : Nat) (rise : Bool) : State :=
  let x := s.colAt (rk d c)
  let i := x.dest % 4096
  match x.dest / 4096, rise with
  | 1, true => pgStart s (d * 12 + i / 2) (i % 2)
  | 6, false => if otherTrip s d (i % 2) then s
      else soRefresh (s.modDie d (fun y => { y with matrixReq := clrBit y.matrixReq (i % 2) }))
  | 7, _ => soRefresh s
  | 9, true => (match colOwner s d c with
      | some p => captureTrigger s d p
      | none => s)
  | _, _ => s

/-- A column takes a new level; a rise is counted and stamped with the producer's stamp, or with the network time, and met by the
contexts that await it (R167). -/
def turnCol (s : State) (d c : Nat) (st : Option Stamp) : State :=
  if (s.colAt (rk d c)).level then s.modCol (rk d c) (fun y => { y with level := false })
  else
    let at_ := st.getD s.nowStamp
    meetLine (s.modCol (rk d c) (fun y => { y with
      level := true, rises := y.rises + 1, riseAt := y.riseAt + 1, stamp := at_ })) d c at_

/-- The tally channels of die d that columns of one sink kind name. -/
def tallySinks (s : State) (d kind : Nat) (cols : List Nat) : List Nat :=
  (cols.filter (fun c => (s.colAt (rk d c)).dest / 4096 == kind)).map (fun c => d * 32 + (s.colAt (rk d c)).dest % 4096)

/-- What columns that rise together do to tally channels (R270, R279): the resets first, then the starts of the channels that none
of them stops, then the stops. -/
def tallyRises (s : State) (d : Nat) (cols : List Nat) : State :=
  let stops := tallySinks s d 3 cols
  let starts := (tallySinks s d 2 cols).filter (fun t => !stops.contains t)
  stops.foldl tallyStop (starts.foldl tallyStart ((tallySinks s d 4 cols).foldl tallyReset s))

/-- Columns of a die follow their rows together, and act at their sinks. -/
def refreshCols (s : State) (d : Nat) (cols : List Nat) (st : Option Stamp) : State :=
  let moved := cols.filter (fun c => colSource s d c != (s.colAt (rk d c)).level)
  let rose := moved.filter (fun c => !(s.colAt (rk d c)).level)
  let s1 := tallyRises (moved.foldl (fun u c => turnCol u d c st) s) d rose
  moved.foldl (fun u c => colActs u d c (rose.contains c)) s1

/-- A column follows its rows. -/
def refreshCol (s : State) (d c : Nat) (st : Option Stamp) : State := refreshCols s d [c] st

/-- A row takes a level and the columns it is enabled into follow (R281). -/
def setRow (s : State) (d r : Nat) (level : Bool) : State :=
  let st := rowStamp s d r
  let s1 := s.modRow (rk d r) (fun y => { y with level := level, stamp := if level then st.getD 0 else y.stamp })
  refreshCols s1 d ((List.range 64).filter (fun c => bitOf (s.colAt (rk d c)).rows r)) st

/-- Whether a pin of a port has held a level for so many SYS cycles since its last edge (R271). -/
def pinHeld (s : State) (n pin : Nat) (level : Bool) (cycles : Nat) : Bool :=
  pinSteady s n pin level ((cycles * 250000000 + sysHz (s.dieAt (portDie n)) - 1) / sysHz (s.dieAt (portDie n)))

/-- Whether the filter of a row's source lets a level through: 4 samples for a pin (R278). -/
def rowFiltered (s : State) (d r : Nat) (level : Bool) : Bool :=
  let x := s.rowAt (rk d r)
  let i := x.src % 4096
  64 ≤ r || x.failed || rowHalted s d r || x.src / 4096 != 9 || pinHeld s (d * 12 + i / 4) (i % 4) level 4

/-- MATRIX_ROW_CHANGE (R277, R278, R281): a row takes the level of its source, a pin's after its filter. A fall ends the 4-cycle pulse that raised the
row; a change of a cross-die line ends its FAIL reading (R282). -/
def execMatrixRowChange (d r : Nat) (level : Bool) (s : State) : Result State :=
  if usedDies s ≤ d then .fault (.noSuchResource "die")
  else withUnit (decide (r < 80)) "matrix row" (
    let x := s.rowAt (rk d r)
    let live := (s.dieAt d).logicOn && !(s.dieAt d).lost
    given (live && x.level != level && rowSource s d r level == level && rowFiltered s d r level) s (
      let s1 := if level then s else endPulse s d r
      let s2 := if 64 ≤ r then s1.modDie d (fun y => { y with crossFail := clrBit y.crossFail (r - 64) }) else s1
      setRow s2 d r level))

/-- CROSS_DIE_LINE_FAULT (R282): equal levels on the pair, or a lost sender, but not while the sender's logic is off. The die reads the line at its FAIL level and
raises RING 0x05 to its reeve. -/
def execCrossDieLineFault (d line : Nat) (equal : Bool) (s : State) : Result State :=
  if usedDies s ≤ d then .fault (.noSuchResource "die")
  else withUnit (decide (line < 16)) "cross-die line" (
    match lineColumns s line with
    | [] => s
    | (d', c) :: _ =>
      let lost := (s.dieAt d').lost
      given ((lost || (equal && (s.dieAt d').logicOn)) && !(s.dieAt d).lost && !bitOf (s.dieAt d).crossFail line) s (
        let s1 := s.modDie d (fun y => { y with
          crossFail := setBit y.crossFail line, crossFaults := satInc 65535 y.crossFaults })
        let s2 := setRow s1 d (64 + line) (bitOf (s.colAt (rk d' c)).dest 4)
        raiseFault s2 d 0x0C 5 line 0 0 true))

/-! ### Changes of configuration (R270, R283) -/

/-- The settings of a row or column take effect on a die (R283): those that did not change keep their levels; a changed one
takes the level that its new settings give it. -/
def applyMatrix (s : State) (d : Nat) : State :=
  let base := 0xA800 + 256 * d
  let s1 := (List.range 80).foldl (fun u r =>
    let src := if 64 ≤ r then 0xA000 + (r - 64) else cfg u (base + r) 1 0
    let share := cfg u (base + r) 2 0
    let x := u.rowAt (rk d r)
    if x.src = src ∧ x.share = share then u
    else if x.src = src then u.modRow (rk d r) (fun y => { y with share := share })
    else
      let v := u.modRow (rk d r) (fun y => { y with src := src, share := share, failed := false })
      v.modRow (rk d r) (fun y => { y with level := rowSource v d r false })) s
  let s2 := (List.range 64).foldl (fun u c =>
    let dest := cfg u (base + 0x80 + c) 1 0
    let rows := cfg u (base + 0x80 + c) 2 0 + cfg u (base + 0x80 + c) 3 0 * 2 ^ 64
    let x := u.colAt (rk d c)
    if x.dest = dest ∧ x.rows = rows then u
    else
      let w := if x.dest = dest then u else colActs (u.modCol (rk d c) (fun y => { y with level := false })) d c false
      w.modCol (rk d c) (fun y => { y with dest := dest, rows := rows, failed := false })) s1
  refreshCols s2 d (List.range 64) none

/-- The mark of the last edge of a channel's capture source (R271): a pin's by its tick, a column's by its rises and its level. -/
def edgeMark (s : State) (t : Nat) : Nat :=
  let x := s.tallyAt t
  let d := tallyDie t
  let i := x.capSrc % 4096
  match x.capSrc / 4096 with
  | 1 => let p := s.portAt (d * 12 + i / 4); if thas p.pinAt (i % 4) then tget 0 p.pinAt (i % 4) + 1 else 0
  | 2 => 2 * (s.colAt (rk d i)).riseAt + b2n (s.colAt (rk d i)).level
  | _ => 0

/-- The edges that a channel's capture source had before do not count. -/
def dropEdges (s : State) (t : Nat) : State := s.modTally t (fun y => { y with edgeSeen := edgeMark s t })

/-- The settings of a tally channel take effect (R270): a change stops the channel, which goes to IDLE, and AUTOSTART
applies; without a change it runs on. -/
def applyTally (s : State) (t : Nat) : State :=
  let i := 0xA000 + t
  let x := s.tallyAt t
  let c := cfg s i 1 0
  let src := cfg s i 2 0
  let presc := cfg s i 3 1
  let ph := cfg s i 4 0
  if x.cfg = c ∧ x.capSrc = src ∧ x.capPresc = presc ∧ x.phase = ph ∧ x.stopped = false then s
  else
    let s1 := s.modTally t (fun y => { y with
      cfg := c, capSrc := src, capPresc := presc, phase := ph, state := 0, stopped := false, widthCnt := none
      prescCnt := 0, tickDue := 0, link := [] })
    let s2 := compareOut (copyPreloads (dropEdges s1 t) t) t
    if bitOf c 10 then tallyStart s2 t else s2

end Sys2Proof.Machine
end

