-- ==== Sys2Proof/Machine/Tally.lean ====
section
/-! DEFINITION. The tally channels (chapter 10): counting, compares and their actions, starts, stops and resets, preloads, and
captures. -/

namespace Sys2Proof.Machine

/-! ### Counting (R261 to R267) -/

/-- The next COUNT, the next direction and whether the tick is a wrap (R261). A COUNT at or above TOP wraps. -/
def nextCount (dir top count : Nat) (down : Bool) : Nat × Bool × Bool :=
  match dir with
  | 0 => if top ≤ count then (0, false, true) else (count + 1, false, false)
  | 1 => if count = 0 then (top, false, true) else (count - 1, false, false)
  | _ =>
    if (down && count != 0) || (!down && decide (top ≤ count)) then
      (count - 1, decide (1 < count), decide (count ≤ 1))
    else (count + 1, false, false)

/-- The parts of an action code (R269): reset self, stop self, start link, reset link. -/
def actionParts (code : Nat) : Bool × Bool × Bool × Bool :=
  (code == 1 || code == 6, code == 2 || code == 5, code == 3 || code == 5 || code == 6, code == 4)

/-- A linked channel is given an action that takes effect in the next SYS cycle: 3 start, 4 reset (R269). -/
def linkAction (s : State) (t : Nat) (start reset : Bool) : State :=
  let k := t / 4 * 4 + field (s.tallyAt t).cfg 13 12
  s.modTally k (fun x => { x with
    link := x.link ++ (if reset then [4] else []) ++ (if start then [3] else []) })

/-- The action of one code (R269), with its linked channel's from the next SYS cycle. -/
def takeAction (s : State) (t code : Nat) : State :=
  let a := actionParts code
  let s1 := if a.2.2.1 || a.2.2.2 then linkAction s t a.2.2.1 a.2.2.2 else s
  let s2 := if a.1 then tallyReset s1 t else s1
  if a.2.1 then tallyStop s2 t else s2

/-- The actions of a tick (R269, R270): ACT_OVF at a wrap, then ACT_MATCH at a match. Two RESET_SELF leave what one leaves, and a
RESET_SELF after a STOP_SELF brings the channel to IDLE (R268). -/
def tickActions (s : State) (t : Nat) (wrap hit : Bool) : State :=
  let c := (s.tallyAt t).cfg
  let s1 := if wrap then takeAction s t (field c 19 17) else s
  if hit then takeAction s1 t (field c 16 14) else s1

/-- The match of the AON tally is a wake source and its flag holds until return (R267). -/
def aonMatch (s : State) (t : Nat) : State :=
  if t = 3 ∧ (s.tallyAt t).clk = 2 ∧ s.power.state ≠ 0 then s.modTally t (fun x => { x with matched := true }) else s

/-- One counted tick of a running channel. -/
def countTick (s : State) (t : Nat) : State :=
  let s0 := if (s.tallyAt t).copyDue then copyPreloads s t else s
  let x := s0.tallyAt t
  let nx := nextCount x.dir (tallyTop s0 t) (tallyCount s0 t) x.down
  let wrap := nx.2.2
  let s1 := if wrap then copyPreloads s0 t else s0
  let c := if wrap && x.dir == 1 then tallyTop s1 t else nx.1
  let s2 := compareOut (setCount (s1.modTally t (fun y => { y with down := nx.2.1 })) t c) t
  let hit := c == tallyCmp s2 t
  let s3 := if wrap then tallyPulse s2 t 1 else s2
  let s4 := if hit then aonMatch (tallyPulse s3 t 0) t else s3
  tickActions s4 t wrap hit

/-- Whether a channel's tick has come (R264 to R267): of the AON tally in every state but OFF, of any other while its die's logic is
on; of a SYS channel only while it is not held, and of an EDGE channel only for a capture event. -/
def tallyTicks (s : State) (t : Nat) : Bool :=
  let x := s.tallyAt t
  x.widthCode != 0 && !x.stopped &&
    (if x.clk = 2 then t == 3 && s.power.state != 4
     else tallyLive s t && !tallyHeld s t && (x.clk != 1 || x.tickDue != 0))

/-- TALLY_TICK (R261 to R264): a tick of the channel's source, after its prescaler. A running channel counts it, and the hidden
width counter of a paired capture does (R272). -/
def execTallyTick (t : Nat) (s : State) : Result State :=
  withTally s t (given (tallyTicks s t) s (
    let s1 := s.modTally t (fun x => { x with widthCnt := x.widthCnt.map (satInc 0xFFFFFFFF), tickDue := x.tickDue - 1 })
    if (s.tallyAt t).state = 1 then countTick s1 t else s1))

/-- TALLY_LINK_ACTION (R269): the actions that linked channels gave the channel take effect, the reset before the start
(R270). -/
def execTallyLinkAction (t : Nat) (s : State) : Result State :=
  withTally s t (given (tallyLive s t) s (
    let l := (s.tallyAt t).link
    let s1 := s.modTally t (fun x => { x with link := [] })
    let s2 := if l.contains 4 then tallyReset s1 t else s1
    if l.contains 3 then tallyStart s2 t else s2))

/-! ### Starts, stops and resets (R268) -/

/-- A write of CTL: 1 start, 2 stop, 3 reset (R268, R275). -/
def writeTallyCtl (s : State) (t v : Nat) : State :=
  if v = 1 then withStatus (tallyStart s t) 0
  else if v = 2 then withStatus (tallyStop s t) 0
  else if v = 3 then withStatus (tallyReset s t) 0
  else withStatus s 0x0302

/-- TALLY_START (R268). -/
def execTallyStart (t : Nat) (s : State) : Result State :=
  .next (given (tallyCode s t true == 0) (withStatus s (tallyCode s t true)) (writeTallyCtl s t 1))
/-- TALLY_STOP (R268). -/
def execTallyStop (t : Nat) (s : State) : Result State :=
  .next (given (tallyCode s t true == 0) (withStatus s (tallyCode s t true)) (writeTallyCtl s t 2))
/-- TALLY_RESET (R268). -/
def execTallyReset (t : Nat) (s : State) : Result State :=
  .next (given (tallyCode s t true == 0) (withStatus s (tallyCode s t true)) (writeTallyCtl s t 3))

/-- A write of UNIT_CTL: the resets of bits 7:4 first, then the starts of bits 3:0, in one SYS cycle (R268, R275). -/
def writeUnitCtl (s : State) (u v : Nat) : State :=
  let s1 := (List.range 4).foldl (fun x c => if bitOf v (4 + c) then tallyReset x (u * 4 + c) else x) s
  withStatus ((List.range 4).foldl (fun x c => if bitOf v c then tallyStart x (u * 4 + c) else x) s1) 0

/-- UNIT_START (R268): the channels that the mask names start together. -/
def execUnitStart (u mask : Nat) (s : State) : Result State :=
  withTally s (u * 4) (given (tallyLive s (u * 4)) s (writeUnitCtl s u (mask % 16)))

/-- UNIT_RESET (R268): the channels that the mask names are reset together. -/
def execUnitReset (u mask : Nat) (s : State) : Result State :=
  withTally s (u * 4) (given (tallyLive s (u * 4)) s (writeUnitCtl s u (mask % 16 * 16)))

/-- A write of TOP (R262): the preload, copied at once unless the channel runs. -/
def writeTop (s : State) (t v : Nat) : State :=
  if v = 0 ∨ 2 ^ 32 ≤ v then withStatus s 0x0302
  else
    let s1 := s.modTally t (fun x => { x with top := v })
    withStatus (if (s.tallyAt t).state = 1 then s1
      else compareOut (s1.modTally t (fun x => { x with topAct := v })) t) 0

/-- The lower channel of the W64 pair whose upper channel is t. -/
def pairLower (s : State) (t : Nat) : Option Nat :=
  if t % 2 = 1 && (s.tallyAt (t - 1)).wide then some (t - 1) else none

/-- A write of CMP (R262): the preload, copied at once unless the channel runs. In W64 the write of the upper half has both
halves copied, in the next tick when the pair runs. -/
def writeCmp (s : State) (t v : Nat) : State :=
  if 2 ^ 32 ≤ v then withStatus s 0x0302
  else
    let s1 := s.modTally t (fun x => { x with cmp := v })
    withStatus (match pairLower s t with
      | some k =>
        if (s.tallyAt k).state = 1 then s1.modTally k (fun x => { x with copyDue := true })
        else compareOut (copyPreloads s1 k) k
      | none =>
        if (s.tallyAt t).state = 1 then s1
        else compareOut (s1.modTally t (fun x => { x with cmpAct := v })) t) 0

/-- TOP_WRITE (R262). -/
def execTopWrite (t value : Nat) (s : State) : Result State :=
  let code := tallyCode s t (decide (0 < value ∧ value < 2 ^ 32))
  .next (given (code == 0) (withStatus s code) (writeTop s t value))
/-- CMP_WRITE (R262). -/
def execCmpWrite (t value : Nat) (s : State) : Result State :=
  let code := tallyCode s t (decide (value < 2 ^ 32))
  .next (given (code == 0) (withStatus s code) (writeCmp s t value))

/-! ### Captures (R271 to R273) -/

/-- The state of the parish of a channel's unit on its die. -/
def tallyParishState (s : State) (t : Nat) : Nat :=
  match tallyOwner s (t / 4) with
  | some p => parStateOn s p (tallyDie t)
  | none => 4

/-- Whether a channel captures by pairs: it has a CAP_SRC and is no EDGE channel, and its parish is in INIT, TEST or RECOVERY
(R264, R272). -/
def pairedMode (s : State) (t : Nat) : Bool :=
  let p := tallyParishState s t
  (s.tallyAt t).capSrc / 4096 != 0 && (s.tallyAt t).clk != 1 && (p == 0 || p == 1 || p == 3)

/-- Whether a confirmed edge of a channel's capture source has come, one that no earlier command took (R271): a pin has held its new
level for CAP_FILT + 1 SYS cycles; a column needs no filter. -/
def sourceEdge (s : State) (t : Nat) (rising : Bool) : Bool :=
  let x := s.tallyAt t
  let d := tallyDie t
  let i := x.capSrc % 4096
  x.widthCode != 0 && tallyLive s t && x.edgeSeen != edgeMark s t &&
    (match x.capSrc / 4096 with
     | 1 => pinHeld s (d * 12 + i / 4) (i % 4) rising (field x.cfg 25 22 + 1)
     | 2 => (s.colAt (rk d i)).level == rising
     | _ => false)

/-- Whether a confirmed edge counts towards a channel's captures outside paired capture (R264, R271): it has the polarity that
CAP_EDGE selects, and the parish is in RUN or the channel is an EDGE one, whose capture events are its ticks in every state. -/
def countsEdge (s : State) (t : Nat) (rising : Bool) : Bool :=
  let x := s.tallyAt t
  sourceEdge s t rising && bitOf (field x.cfg 21 20) (if rising then 0 else 1) && (x.clk == 1 || tallyParishState s t == 2)

/-- The stamp of a capture: the raw pin edge, or the column's stamp (R271, R272). -/
def captureStamp (s : State) (t : Nat) (rising : Bool) : Stamp :=
  let x := s.tallyAt t
  let d := tallyDie t
  let i := x.capSrc % 4096
  if x.capSrc / 4096 = 1 then tget 0 (s.portAt (d * 12 + i / 4)).edgeStamp (edgeKey (i % 4) rising)
  else if rising then (s.colAt (rk d i)).stamp else s.nowStamp

/-- COUNT is latched, both halves in W64, by the given latch. -/
def latchCount (s : State) (t : Nat) (f : Tally → Nat → Tally) : State :=
  let s1 := s.modTally t (fun x => f x x.count)
  if (s.tallyAt t).wide then s1.modTally (t + 1) (fun x => f x x.count) else s1

/-- A capture is made: it is counted, pulses its producer and offers the captured value to the sieve (R216, R271). -/
def captureMade (s : State) (t value : Nat) (stamp : Stamp) : State :=
  let s1 := tallyPulse (s.modTally t (fun x => { x with capStamp := stamp, captures := x.captures + 1 })) t 2
  offerFrom s1 (tallyDie t) 4 (t % 32) (min value 0x7FFFFFFF : Nat) stamp

/-- TALLY_CAPTURE (R264, R271): a confirmed edge of the polarity that CAP_EDGE selects; every CAP_PRESC-th one is a capture event.
That of an EDGE channel gives it a tick, and no capture; of any other, while the parish is in RUN, it is a capture. With CAP_RESET
the channel is reset after COUNT is taken (R270). -/
def execTallyCapture (t : Nat) (rising : Bool) (s : State) : Result State :=
  withTally s t (
    let x := s.tallyAt t
    given (countsEdge s t rising) s (
      let s0 := dropEdges s t
      if x.prescCnt + 1 < x.capPresc then s0.modTally t (fun y => { y with prescCnt := y.prescCnt + 1 })
      else if x.clk = 1 then s0.modTally t (fun y => { y with
        prescCnt := 0, tickDue := if y.state = 1 then y.tickDue + 1 else y.tickDue })
      else
        let s1 := latchCount (s0.modTally t (fun y => { y with prescCnt := 0 })) t
          (fun y c => { y with capB := y.capA, capA := c })
        let s2 := captureMade s1 t x.count (captureStamp s t rising)
        if bitOf x.cfg 26 then tallyReset s2 t else s2))

/-- TALLY_PAIRED_RISE (R272): COUNT is latched into CAP_A and the hidden width counter starts at 0. -/
def execTallyPairedRise (t : Nat) (s : State) : Result State :=
  withTally s t (given (sourceEdge s t true && pairedMode s t) s (
    (latchCount (dropEdges s t) t (fun y c => { y with capA := c })).modTally t (fun y => { y with
      widthCnt := some 0, riseStamp := captureStamp s t true })))

/-- TALLY_PAIRED_FALL (R272): after a rise, COUNT is latched into CAP_B and the width counter into WIDTH, and the capture is
made with the rise's stamp. -/
def execTallyPairedFall (t : Nat) (s : State) : Result State :=
  withTally s t (
    match (s.tallyAt t).widthCnt with
    | none => s
    | some w => given (sourceEdge s t false && pairedMode s t) s (
        let s1 := (latchCount (dropEdges s t) t (fun y c => { y with capB := c })).modTally t (fun y => { y with
          width := w, widthCnt := none })
        captureMade s1 t w (s.tallyAt t).riseStamp))

/-- A change of the parish's state switches the capture mode of its channels on a die (R273); EDGE channels work on as before
(R264). -/
def switchCaptures (s : State) (d p : Nat) : State :=
  { s with tally := s.tally.map (fun e =>
      if tallyDie e.1 = d ∧ e.2.clk ≠ 1 ∧ tallyOwner s (e.1 / 4) = some p then
        (e.1, { e.2 with widthCnt := none, prescCnt := 0 }) else e) }

end Sys2Proof.Machine
end

