-- ==== Sys2Proof/Machine/Parishes.lean ====
section
/-! DEFINITION. Parish states, keys, the ends of sessions, and the safety arm (chapter 11). -/

namespace Sys2Proof.Machine

/-! ### State requests (R293, R294) -/

/-- Whether a cause of a parish's RECOVERY still holds (R293, R382). -/
def causeHolds (s : State) (p : Nat) : Bool :=
  if p = 1 then recoveryHeld s
  else (s.parAt p).cause.any (fun c =>
    if c = 1 then haltedEngine s p else if c = 2 then lostDieOf s p else false)

/-- The abort code of a write of STATE_REQ, 0 when it is accepted (R292 to R294). -/
def stateReqCode (s : State) (p v : Nat) : Nat :=
  if p = 0 then 0x0403
  else if v = 4 then 0
  else if v ≠ 2 then 0x0302
  else if decided s p = 0 ∨ decided s p = 4 then 0x0403
  else if decided s p = 3 ∧ causeHolds s p = true then 0x0403
  else 0

/-- An accepted STATE_REQ: HALT from any state; RUN from TEST for a parish other than 1, and from RECOVERY, where the reeve
decides for parish 1 once its cause has been absent for 100 ms (R293, R382). -/
def stateReqAct (s : State) (p v : Nat) : State :=
  if v = 4 then decideState s p 4
  else if p = 1 then
    if decided s 1 = 3 ∧ s.reeve.clear100 = true then tryRun { s with reeve := { s.reeve with runAsked := true } } else s
  else if decided s p = 1 ∨ decided s p = 3 then decideState s p 2
  else s

/-- A write of STATE_REQ. -/
def writeStateReq (s : State) (p v : Nat) : State :=
  if stateReqCode s p v = 0 then withStatus (stateReqAct s p v) 0 else withStatus s (stateReqCode s p v)

/-- STATE_REQ_RUN (R293). -/
def execStateReqRun (p : Nat) (s : State) : Result State :=
  .next (given (parCode p == 0) (withStatus s (parCode p)) (writeStateReq s p 2))

/-- STATE_REQ_HALT (R293). -/
def execStateReqHalt (p : Nat) (s : State) : Result State :=
  .next (given (parCode p == 0) (withStatus s (parCode p)) (writeStateReq s p 4))

/-- TEST_TIME_EXPIRY (R293): TEST_TIME has elapsed since a parish other than 1 entered TEST. -/
def execTestTimeExpiry (p : Nat) (s : State) : Result State :=
  withParish p (given (1 < p && (s.parAt p).state == 1 && (s.parAt p).target.isNone
      && decide ((s.parAt p).since + msTicks (cfg s (0x2000 + 256 * p) 3 100) ≤ s.ticks)) s (decideState s p 2))

/-! ### Changes of state (R292, R293) -/

/-- The pads of a parish's ports on a die in HALT: high-Z, VP open, the emitter off, generators stopped (R292). -/
def haltPorts (s : State) (d p : Nat) : State :=
  let ns := (s.port.map (·.1)).filter (fun n => portDie n == d && portOwner s n == some p)
  ns.foldl (fun u n => (writeVpOn (stopEmitterItem u n) n false).modPort n (fun x => { x with
    pinOe := 0, emSink := false, emBusy := false
    pg0 := { x.pg0 with run := false, out := false, stopping := false }
    pg1 := { x.pg1 with run := false, out := false, stopping := false } })) s

/-- Contexts of a parish on a die end as at budget expiry (R153, R292). -/
def haltContexts (s : State) (d p : Nat) : State :=
  ((List.range 24).map (fun k => d * 24 + k)).foldl (fun x e =>
    if engOwner s e = some p then
      ((x.engAt e).ctxs.filter (fun c => c.2.live)).foldl (fun y c => endCtx y e c.1 (some 12)) x
    else x) s

/-- The rows of a parish on a die read low, and its rules are unprimed, which the rules that take them see (R217, R292). -/
def haltOutputs (s : State) (d p : Nat) : State :=
  let s1 := (List.range 80).foldl (fun x r =>
    if rowOwner s d r = some p ∧ (x.rowAt (rk d r)).level = true then setRow x d r false else x) s
  ((List.range 64).map (fun k => d * 64 + k)).foldl (fun x g =>
    if ruleOwner s g = some p ∧ (x.ruleAt g).img.present = true then
      afterRule x (unprimeRule x g x.nowStamp false) g x.nowStamp else x) s1

/-- What a die does when it takes a parish's new state. -/
def enterOnDie (s : State) (d p st : Nat) : State :=
  let s1 := switchCaptures s d p
  if st = 4 then haltOutputs (haltContexts (haltPorts s1 d p) d p) d p else s1

/-- What the reeve clears as parish 1 takes a new state (R381, R383, R385): the tests of a TEST or RECOVERY start again, and
leaving RECOVERY ends the fault reaction. -/
def reeveEnters (s : State) (old st : Nat) : State :=
  let s1 := if st = 1 ∨ st = 3 then
      { s with die := s.die.map (fun e => (e.1, { e.2 with roundPassed := false, roundOk := 0, pairEqual := [] })) } else s
  if old = 3 ∧ st ≠ 3 then
    { s1 with reeve := { s1.reeve with
        reaction := false, firstKey := none, clear100 := false, runAsked := false, causes := [] } }
  else s1

/-- The ownership entries that name a parish are reloaded from the lead steward's shadow at its return to RUN (R289, R421). -/
def reloadOwners (s : State) (p : Nat) : State :=
  let names (q : Nat × Nat) : Bool :=
    let b := cfgBlob s (allocIdx p) q.1
    if q.1 = 4 then pairsName b q.2 else blobBit b q.2
  { s with reeve := { s.reeve with ownDamaged := s.reeve.ownDamaged.filter (fun q => !names q) } }

/-- A loopback result word. -/
def loopWord (st depth err errors : Nat) : BitVec 32 :=
  BitVec.ofNat 32 (st % 4 + depth % 8 * 4 + err % 256 * 256 + min errors 65535 * 65536)

/-- A port's loopback ends with a result: LOOP returns to 0, and the pins to what they were (R451, R452, R455). -/
def Port.endLoop (x : Port) (r : BitVec 32) : Port := { x with loopDepth := 0, loopResult := r, pinOe := x.loopOe }

/-- The loopbacks of a parish's resources end FAIL with FIRST_ERR 6 when it leaves TEST or HALT (R456): those of its ports, and
for parish 1 that of the twin link. -/
def failParishLoops (s : State) (p : Nat) : State :=
  let port (e : Nat × Port) : Nat × Port := if e.2.loopDepth = 0 ∨ portOwner s e.1 ≠ some p then e else
    (e.1, e.2.endLoop (loopWord 3 e.2.loopDepth 6 0))
  let s1 := { s with port := s.port.map port }
  if p = 1 ∧ s.twin.loopDepth ≠ 0 then
    { s1 with twin := { s.twin with loopDepth := 0, loopResult := loopWord 3 s.twin.loopDepth 6 0 } }
  else s1

/-- A parish takes its decided state once every die that holds a resource of it has (R293). -/
def completeState (s : State) (p : Nat) : State :=
  let x := s.parAt p
  match x.target with
  | none => s
  | some st =>
    let failStop (u : State) : State := if (x.state = 1 ∨ x.state = 4) ∧ st ≠ 1 ∧ st ≠ 4 then failParishLoops u p else u
    if (List.range (usedDies s)).all (fun d => x.taken.contains d || !parishOnDie s p d || (s.dieAt d).lost) then
      let s1 := s.modPar p (fun y => { y with
        state := st, target := none, taken := [], since := s.ticks
        cause := if st = 3 then y.cause else [] })
      let s2 := failStop (if st = 2 then reloadOwners s1 p else s1)
      if p = 1 then tryRun (soRefresh (reeveEnters { s2 with power := { s2.power with ran := s2.power.ran || st == 2 } } x.state st))
      else s2
    else s

/-- A die takes a parish's decided state (R293). -/
def takeState (s : State) (d p : Nat) : State :=
  match (s.parAt p).target with
  | none => s
  | some st =>
    if (s.parAt p).taken.contains d then s
    else
      let s1 := s.modPar p (fun y => { y with taken := y.taken ++ [d] })
      completeState (enterOnDie s1 d p st) p

/-! ### The ends of sessions (R297, R298, R320) -/

/-- The session of a number. -/
def findSession (s : State) (n : Nat) : Option Session := s.sessions.find? (fun x => x.num == n)

/-- The machine with one session changed. -/
def modSession (s : State) (n : Nat) (f : Session → Session) : State :=
  { s with sessions := s.sessions.map (fun x => if x.num = n then f x else x) }

/-- The hub's ABORT for a block transfer that it discards (R320, R321); the service port receives none. -/
def abortXfer (s : State) (b : BlockXfer) : State :=
  if 3 ≤ b.port then s
  else hubFrame s (servingPort s b.port)
    { op := 6, dst := b.src, parish := b.parish, session := b.session
      payload := leBytes 4 (b.transIds.head?.getD 0) ++ leBytes 2 0x0406 }

/-- Block transfers that meet a test are no longer open; where one carried a firmware image, FW_STATE leaves WRITING (R320, R362). -/
def closeXfers (s : State) (f : BlockXfer → Bool) : State :=
  { s with net := { s.net with blocks := s.net.blocks.filter (fun b => !f b) }
           fw := if (s.net.blocks.filter f).any (fun b => b.index == 0xF800) then { s.fw with state := 0 } else s.fw }

/-- Open block transfers that meet a test are discarded with an ABORT each (R320). -/
def discardXfers (s : State) (f : BlockXfer → Bool) : State := (s.net.blocks.filter f).foldl abortXfer (closeXfers s f)

/-- A session ends, and its open block transfer with it (R298, R320). -/
def endSession (s : State) (n : Nat) : State :=
  discardXfers { s with sessions := s.sessions.filter (fun x => x.num != n) } (fun b => n != 0 && b.session == n)

/-- Every session of a parish ends. -/
def endSessions (s : State) (p : Nat) : State :=
  ((s.sessions.filter (fun x => x.parish == p)).map (·.num)).foldl endSession s

/-- SESSION_IDLE_EXPIRY (R298): SESSION_IDLE has passed without a valid frame. -/
def execSessionIdleExpiry (n : Nat) (s : State) : Result State :=
  .next (match findSession s n with
    | none => s
    | some x =>
      given (decide (x.lastAt + msTicks (1000 * cfg s (0x2002 + 256 * x.parish) 4 60) ≤ s.ticks)) s (endSession s n))

/-- OPEN_BLOCK_EXPIRY (R301): the second in which OPEN is refused for a parish ends. -/
def execOpenBlockExpiry (p : Nat) (s : State) : Result State :=
  withParish p (given ((s.parAt p).openBlocked && decide ((s.parAt p).openBlockedAt + msTicks 1000 ≤ s.ticks)) s
    (s.modPar p (fun x => { x with openBlocked := false, openFails := [] })))

/-! ### Keys (R297) -/

/-- Whether a session number names an open session of a parish. -/
def openOf (s : State) (p n : Nat) : Bool := n != 0 && (findSession s n).any (fun x => x.isOpen && x.parish == p)

/-- The abort code of a write of KEY: with a key SET, only a session of the parish may change it (R297). -/
def keyCode (s : State) (p session : Nat) (value : List Byte) : Nat :=
  if value.length ≠ 16 then 0x0301
  else if (s.parAt p).key.isSome && !openOf s p session then 0x0505
  else 0

/-- An accepted write of KEY: in plain while EMPTY; otherwise the value is the new key encrypted under the current one, and
the change closes the parish's sessions (R297). -/
def keyAct (s : State) (p : Nat) (value : List Byte) : State :=
  match (s.parAt p).key with
  | none => s.modPar p (fun x => { x with key := some value })
  | some k => endSessions (s.modPar p (fun x => { x with key := some (aesDecrypt k value) })) p

/-- KEY_WRITE (R297): a write of KEY in a session of the given number, 0 for none. -/
def execKeyWrite (p session : Nat) (value : List Byte) (s : State) : Result State :=
  .next (given (parCode p == 0) (withStatus s (parCode p)) (
    if keyCode s p session value = 0 then withStatus (keyAct s p value) 0 else withStatus s (keyCode s p session value)))

/-! ### The safety arm (R302, R303) -/

/-- SECURED of a parish. -/
def secured (s : State) (p : Nat) : Bool := cfg s (0x2002 + 256 * p) 3 0 == 1

/-- The abort code of a write of ARM_REQ (R303): outside a session of parish 1, or untagged while parish 1 is SECURED. -/
def armCode (s : State) (session : Nat) (tagged : Bool) : Nat :=
  if !openOf s 1 session then 0x0504 else if secured s 1 && !tagged then 0x0502 else 0

/-- An ARM violation of a parish (R290, R303). -/
def armViolation (s : State) (p idx sub session : Nat) : State := violation s 0 p 5 idx sub 2 session

/-- An accepted write of ARM_REQ (R302). -/
def armAct (s : State) (session value : Nat) : State :=
  s.modPar 1 (fun x => { x with armed := some (value % 2 ^ 32, session), armExpired := false, armAt := s.ticks })

/-- A write of ARM_REQ; a refused one is an ARM violation (R303). -/
def writeArm (s : State) (session value : Nat) (tagged : Bool) : State :=
  if armCode s session tagged = 0 then withStatus (armAct s session value) 0
  else withStatus (armViolation s 1 0x2102 6 session) (armCode s session tagged)

/-- ARM_REQ_WRITE (R302). -/
def execArmReqWrite (session value : Nat) (tagged : Bool) (s : State) : Result State := .next (writeArm s session value tagged)

/-- ARM_WINDOW_EXPIRY (R302, R303): ARM_WINDOW has passed without the commit. -/
def execArmWindowExpiry (s : State) : Result State :=
  let x := s.parAt 1
  .next (given (x.armed.isSome && decide (x.armAt + msTicks (1000 * cfg s 0x2102 8 10) ≤ s.ticks)) s
    (s.modPar 1 (fun y => { y with armed := none, armExpired := true })))

/-- The code of the arm at a commit that changes parish 1, with the digest that the commit would put in force (R303). -/
def checkArm (s : State) (session digest : Nat) : Nat :=
  match (s.parAt 1).armed with
  | none => if (s.parAt 1).armExpired then 0x0602 else 0x0601
  | some (v, n) => if v ≠ digest then 0x0603 else if session ≠ n ∨ session = 0 then 0x0604 else 0

/-- ARM_STATE returns to IDLE (R302). -/
def disarm (s : State) : State := s.modPar 1 (fun x => { x with armed := none, armExpired := false })

end Sys2Proof.Machine
end

