-- ==== Sys2Proof/Machine/Checks.lean ====
section
/-! DEFINITION. The checks of a commit other than those of images: port settings, safety maps, the routing matrix and the tally
channels, rings, windows and allocations (R73, R84, R105, R131, R134, R142, R238, R264, R284, R287, R303, R308, R330, R364,
R399, R445). They read a state `c` whose settings in force are the whole set that the commit would put in force. -/

namespace Sys2Proof.Machine

/-- One check: the object it names, its abort code, and whether it passes. -/
abbrev Check := Nat × Nat × Bool

/-- The first check of a list that fails, as object key and abort code. -/
def failing : List Check → Option (Nat × Nat)
  | [] => none
  | (k, code, ok) :: t => if ok then failing t else some (k, code)

/-! ### Ports (R73, R77, R84, R105, R131, R132, R134, R139, R142, R145, R357) -/

/-- The PORT_MODE that a set of settings gives a port. -/
def modeOf (c : State) (n : Nat) : Nat := cfg c (portIdx n 0) 1 0

/-- The minimum of a two-wire timing value in ns, by bus class (R105). -/
def twMin (cls k : Nat) : Nat :=
  let t := match cls with
    | 0 => [4700, 4000, 4700, 4000, 4000, 250, 0]
    | 1 => [1300, 600, 600, 600, 600, 100, 0]
    | _ => [500, 260, 260, 260, 260, 50, 0]
  nth 0 t k

/-- Whether a UART rate is within 2 % of the request at a clock (R84). -/
def baudOk (hz baud : Nat) : Bool :=
  let q := uartDiv hz baud
  let got := hz * 16
  let want := baud * q.1 * q.2
  baud != 0 && 50 * (got - want) ≤ want && 50 * (want - got) ≤ want

/-- Whether an SPI rate can be reached without running faster than the request (R84). -/
def spiRateOk (hz rate : Nat) : Bool := hz ≤ rate * 8192

/-- The VP_ILIM sum of the ports that count on a rail of a die (R73). -/
def railSum (c : State) (d rail : Nat) : Nat :=
  ((List.range 12).map (fun k => d * 12 + k)).foldl (fun a n =>
    if (portOwner c n).any (· != 0) && cfg c (portIdx n 0) 3 0 == rail then a + cfg c (portIdx n 0) 4 10 else a) 0

/-- The checks of the two-wire, SPI and UART settings of a port, while their mode is in force. -/
def serialChecks (c : State) (n : Nat) : List Check :=
  let d := portDie n
  let cls := cfg c (portIdx n 4) 1 1
  match modeOf c n with
  | 1 => (List.range 7).map (fun k => (okey (portIdx n 4) (2 + k), 0x0302, decide (twMin cls k ≤ 5 * twTime c n k)))
  | 2 => [(okey (portIdx n 5) 1, 0x0302,
      (permitted c d).all (fun k => spiRateOk (pointHz k) (cfg c (portIdx n 5) 1 1000000)))]
  | 3 => [(okey (portIdx n 6) 1, 0x0302, (permitted c d).all (fun k => baudOk (pointHz k) (cfg c (portIdx n 6) 1 115200)))]
  | _ => []

/-- The checks of the analogue settings of a port in ANALOG mode. -/
def analogueChecks (c : State) (n : Nat) : List Check :=
  if modeOf c n ≠ 4 then []
  else
    let a := portIdx n 8
    let top := topRange c n
    let trip (j k dflt : Nat) := cfg c (portIdx n (9 + j)) k dflt
    let pg (g : Nat) : List Check :=
      let i := portIdx n (13 + g)
      let per := cfg c i 2 0
      let wid := cfg c i 3 0
      [(okey i 2, 0x0304, cfg c i 1 0 == 0 || 10 ≤ per), (okey i 3, 0x0304, cfg c i 1 0 == 0 || (1 ≤ wid && wid + 1 ≤ per))]
    [(okey a 4, 0x0302, decide (cfg c a 4 top ≤ top)),
     (okey a 5, 0x0302, cfg c a 5 0 ≤ top && cfg c a 5 0 ≤ cfg c a 6 top), (okey a 6, 0x0302, decide (cfg c a 6 top ≤ top)),
     (okey a 8, 0x0302, decide (2 * cfg c a 8 6553 < cfg c a 7 29491))]
      ++ (List.range 2).flatMap (fun j =>
        [(okey (portIdx n (9 + j)) 1, 0x0304, trip j 1 0 != 2 || cfg c a 3 0 == 0),
         (okey (portIdx n (9 + j)) 2, 0x0304,
          !(trip j 2 0 == 2 && trip j 1 0 == 2) && !(trip j 2 0 == 1 && cfg c (portIdx n 2) 1 0 == 1))])
      ++ (List.range 3).map (fun j => (okey (portIdx n (9 + j)) 0xA, 0x0304, decide (trip j 0xA 1 ≤ trip j 9 1)))
      ++ [(okey (portIdx n 11) 0xF, 0x0304, trip 2 0xF 0 == 0 || trip 0 1 0 == trip 1 1 0)] ++ pg 0 ++ pg 1

/-- Whether an output map names outputs of the part within SO_USED only (R364). -/
def mapOk (c : State) (m : Nat) : Bool := andNot 16 m (soUsed c) == 0 && m % 65536 < 2 ^ (2 * c.dies)

/-- The checks of TRIP_SO and of the maps of a port (R142, R364). -/
def tripChecks (c : State) (n : Nat) : List Check :=
  (List.range 3).map (fun j => (okey (portIdx n (9 + j)) 0xE, 0x0304, !tripSo c n j || portOwner c n == some 1))
    ++ (List.range 3).map (fun j => (okey (0xD100 + n) (1 + j), 0x0304,
        tripSo c n j == (tripMap c n j != 0) && mapOk c (tripMap c n j)))

/-- The checks of one port. -/
def portChecks (c : State) (n : Nat) : List Check :=
  [(okey (portIdx n 0) 4, 0x0304, railSum c (portDie n) 1 ≤ 200 && railSum c (portDie n) 0 ≤ 125)]
    ++ serialChecks c n ++ analogueChecks c n ++ tripChecks c n

/-- The check of a rule's output map (R364). -/
def verdictChecks (c : State) (g : Nat) : List Check :=
  let m := cfg c (0xD200 + g) 1 0
  [(okey (0xD200 + g) 1, 0x0304,
    ((ruleImg c g).present && bitOf (ruleImg c g).outputs 4) == (m != 0) && mapOk c m)]

/-! ### Tally channels and the matrix (R264, R280, R284) -/

/-- Whether the port's controller uses a pin in its mode (R67). -/
def pinUsed (c : State) (n pin : Nat) : Bool :=
  match modeOf c n with
  | 1 => pin < 2
  | 2 => true
  | 3 =>
    let flow := cfg c (portIdx n 6) 5 0
    pin == 0 || (pin == 1 && cfg c (portIdx n 6) 4 0 == 0) || (pin == 2 && bitOf flow 0) || (pin == 3 && bitOf flow 1)
  | 4 => 2 ≤ pin || cfg c (portIdx n (13 + pin)) 1 0 != 0
  | _ => false

/-- A check of R284 on a tally channel, by code. -/
def tallyCheck (c : State) (t code : Nat) : Bool :=
  let i := 0xA000 + t
  let d := tallyDie t
  let g := cfg c i 1 0
  let w := field g 1 0
  let src := cfg c i 2 0
  let k := src % 4096
  let top := (c.tallyAt t).top
  let own := tallyOwner c (t / 4)
  match code with
  | 2 => w == 0 || w == 3 || (cfg c i 4 0 ≤ top && (w == 2 || top ≤ 65535))
  | 3 => (w != 3 || (t % 2 == 0 && field (cfg c (i + 1) 1 0) 1 0 == 0 && field g 3 2 == 0))
      && (field g 5 4 != 2 || t == 3)
  | 4 =>
    let pts := permitted c d
    field g 5 4 != 0 || w == 0 || (if pts.contains 2 then 2 ≤ field g 9 6 else if pts.contains 1 then 1 ≤ field g 9 6 else true)
  | 5 => if src / 4096 = 1 then portOwner c (d * 12 + k / 4) == own
      else if src / 4096 = 2 then colOwner c d k == own else true
  | 6 => src / 4096 != 1 || !pinUsed c (d * 12 + k / 4) (k % 4)
  | _ => true

/-- The owner of a row's source (R277, R278): engine lines belong to the row's own parish. -/
def srcOwner (c : State) (d r src : Nat) : Option Nat :=
  let k := src % 4096
  match src / 4096 with
  | 1 => portOwner c (d * 12 + k / 3)
  | 2 => portOwner c (d * 12 + k / 2)
  | 3 | 4 | 5 | 6 => tallyOwner c (d * 8 + k / 4)
  | 7 => ruleOwner c (d * 64 + k)
  | 9 => portOwner c (d * 12 + k / 4)
  | _ => rowOwner c d r

/-- A check of R284 on a row, by code. -/
def rowCheck (c : State) (d r code : Nat) : Bool :=
  let src := cfg c (0xA800 + 256 * d + r) 1 0
  let k := src % 4096
  if 64 ≤ r then true
  else match code with
    | 5 => srcOwner c d r src == rowOwner c d r
    | 6 => src / 4096 != 9 || !pinUsed c (d * 12 + k / 4) (k % 4)
    | _ => true

/-- DEST and the enabled rows that the settings give a column. -/
def colDest (c : State) (d j : Nat) : Nat := cfg c (0xA880 + 256 * d + j) 1 0
/-- The enable bits of a column, 80 of them. -/
def colRows (c : State) (d j : Nat) : Nat := cfg c (0xA880 + 256 * d + j) 2 0 + cfg c (0xA880 + 256 * d + j) 3 0 % 65536 * 2 ^ 64

/-- The columns of the part, as die and number, that the settings give a cross-die line. -/
def lineNamers (c : State) (line : Nat) : List (Nat × Nat) :=
  ((List.range (usedDies c)).flatMap (fun d => (List.range 64).map (fun j => (d, j)))).filter
    (fun q => colDest c q.1 q.2 / 4096 == 8 && colDest c q.1 q.2 % 16 == line)

/-- The owner of a row under the settings of a commit; row 64 + n is the owner of the column that names the line. -/
def rowOwnerIn (c : State) (d r : Nat) : Option Nat :=
  if r < 64 then bitOwner c d 9 (d * 64 + r)
  else match lineNamers c (r - 64) with
    | (d', j) :: _ => colOwner c d' j
    | [] => some 0

/-- The SHARE mask of a row under the settings of a commit. -/
def rowShare (c : State) (d r : Nat) : Nat := cfg c (0xA800 + 256 * d + r) 2 0

/-- The owner of a column's sink (R279). -/
def destOwner (c : State) (d j : Nat) : Option Nat :=
  let v := colDest c d j
  let k := v % 4096
  match v / 4096 with
  | 1 => portOwner c (d * 12 + k / 2)
  | 2 | 3 | 4 => tallyOwner c (d * 8 + k / 4)
  | 5 => portOwner c (d * 12 + k / 4)
  | _ => colOwner c d j

/-- The enable rules of R280 for a column. -/
def enablesOk (c : State) (d j : Nat) : Bool :=
  let v := colDest c d j
  let p := colOwner c d j
  let safety := v / 4096 == 6 || v / 4096 == 7
  (!safety || p == some 1) && (List.range 80).all (fun r =>
    !bitOf (colRows c d j) r ||
      ((rowOwnerIn c d r == p || p.any (fun q => bitOf (rowShare c d r) q))
        && (!safety || r < 64 || (lineNamers c (r - 64)).all (fun q => bitOf (colDest c q.1 q.2) 4))))

/-- A check of R284 on a column, by code. -/
def colCheck (c : State) (d j code : Nat) : Bool :=
  let v := colDest c d j
  let k := v % 4096
  match code with
  | 5 => destOwner c d j == colOwner c d j
  | 6 => v / 4096 != 5 || (!pinUsed c (d * 12 + k / 4) (k % 4)
      && (List.range 64).all (fun i => i == j || colDest c d i != v))
  | 7 => enablesOk c d j
  | 8 => v / 4096 != 8 || (lineNamers c (v % 16)).length ≤ 1
  | _ => true

/-- The check of R284 with a code on the object of a key, with the item that ROUTE_REFUSE names and its die; none where the
object is no tally or routing setting. -/
def routeItem (c : State) (key code : Nat) : Option (Nat × Nat × Bool) :=
  match layOf c.dies (key / 256) with
  | some (.tally t) => some (tallyDie t, t % 32, tallyCheck c t code)
  | some (.row d r) => some (d, r, rowCheck c d r code)
  | some (.col d j) => some (d, 0x80 + j, colCheck c d j code)
  | _ => none

/-- Check 9 (R284): the value that control memory gives back for a setting is the committed one. -/
def readsBack (c : State) (key : Nat) : Bool :=
  (c.conf.find? (fun e => e.1 == key)).all (fun e => leBytes e.2.length (cfg c (key / 256) (key % 256) 0) == e.2)

/-- The check of R284 with a code on the object of a key; `s` is the machine before the commit, which changes `mine`. A standing
configuration that the commit does not write is refused where the commit breaks it. -/
def routeFails (s c : State) (mine : List Nat) (key code : Nat) : Option (Nat × Nat × Nat × Nat) :=
  match routeItem c key code, routeItem s key code with
  | some (d, i, ok), before =>
    let bad := if code = 9 then mine.contains key && !readsBack c key
      else !ok && (mine.contains key || before.all (fun x => x.2.2))
    if bad then some (key, code, d, i) else none
  | _, _ => none

/-- The first check of R284 that fails, in the order of the codes, with key, code, die and item: on the settings of the commit, then
on those that stand. -/
def routeRefuse (s c : State) (keys : List Nat) : Option (Nat × Nat × Nat × Nat) :=
  let all := keys ++ (c.conf.map (·.1)).filter (fun k => !keys.contains k)
  (List.range 10).findSome? (fun code => all.findSome? (fun k => routeFails s c keys k code))

/-! ### Streams, windows, power and other objects (R56, R238, R291, R300, R330, R399) -/

/-- Bytes of the rings of a parish on a die that are placed in its banks (R238). -/
def ringBytes (c : State) (p d : Nat) : Nat :=
  ((List.range 0x1F0).map (fun k => d * 512 + k)).foldl
    (fun a k => if streamOwner c k = some p then a + ringSize c k * 256 else a) 0

/-- Bytes of the banks of a parish on a die: 64 KiB each, and of bank 0 what the system rings and the staging area of 8 KiB leave
(R235, R238). -/
def bankBytes (c : State) (p d : Nat) : Nat :=
  ((List.range 32).filter (fun b => bankOwner c d b == some p)).length * 65536 - (if p = 0 then 220 * 256 + 8192 else 0)

/-- Whether the windows of a port end within their cycle and do not overlap (R330). -/
def windowsOk (c : State) (n : Nat) : Bool :=
  let i := 0x0811 + 16 * n
  let cyc := cfg c i 1 0
  let w (k : Nat) := cfg c i (3 + k) 0
  let st (k : Nat) := field (w k) 19 0
  let ln (k : Nat) := field (w k) 39 20
  cyc == 0 || (List.range 8).all (fun a => ln a == 0 || (st a + ln a ≤ cyc &&
    (List.range 8).all (fun b => a == b || ln b == 0 || st b + ln b ≤ st a || st a + ln a ≤ st b)))

/-- Whether the SPI and UART rates of the ports that a sentinel rota's parish owns hold at point S (R398; log entry 12). -/
def sentinelRates (c : State) : Bool :=
  let t := rotaOf (cfgBlob c 0x6C00 0xC)
  match t.entries.head? with
  | none => true
  | some r => (List.range 12).all (fun n =>
      !(portOwner c n == engOwner c r.engine) || !(modeOf c n == 2 && !spiRateOk 65280000 (cfg c (portIdx n 5) 1 1000000)
        || modeOf c n == 3 && !baudOk 65280000 (cfg c (portIdx n 6) 1 115200)))

/-- The checks that a change of PERMITTED asks for (R399): the present point, and the rates and the mill of the die; the
tally channels are checked with the standing configuration (`routeRefuse`). -/
def permitChecks (c : State) (d : Nat) : List Check :=
  let k := okey (0xC010 + d) 2
  let l := dieMills c d
  let q := millDemand l
  [(k, 0x0304, (permitted c d).contains (c.dieAt d).opPoint)]
    ++ ((List.range 12).flatMap (fun n => serialChecks c (d * 12 + n)))
    ++ [(k, 0x0304, (permitted c d).all (fun j => q.1 ≤ 2 * pointHz j * q.2 && l.all (fun x => burstFits x (pointHz j))))]

/-- The checks of the object of a key that are no image, allocation or routing check. -/
def plainChecks (c : State) (key : Nat) : List Check :=
  match layOf c.dies (key / 256) with
  | some (.port n _) => portChecks c n
  | some (.tripMap n) => tripChecks c n
  | some (.verdictMap g) | some (.rule g) => verdictChecks c g
  | some .reeve =>
    (if key % 256 = 4 then
      [(key, 0x0304, decide (soUsed c < 2 ^ (2 * c.dies)))]
        ++ (List.range (usedDies c * 12)).flatMap (tripChecks c)
        ++ (List.range (usedDies c * 64)).flatMap (verdictChecks c)
        ++ [(okey 0xD800 4, 0x0304, mapOk c (cfg c 0xD800 4 0))]
     else [])
  | some .twin =>
    [(okey 0xD800 2, 0x0304, cfg c 0xD800 1 0 == 0 || cfg c 0xD800 2 0 != 0),
     (okey 0xD800 4, 0x0304, mapOk c (cfg c 0xD800 4 0))]
  | some (.ptp n) => [(okey (ptpIdx n) 3, 0x0302, cfg c (ptpIdx n) 2 0 == 0 || cfg c (ptpIdx n) 3 0 == 0)]
  | some (.netWin n) => [(key, 0x0304, windowsOk c n)]
  | some (.stream k) =>
    [(key, 0x0304, (streamOwner c k).all (fun p => decide (ringBytes c p (streamDie k) ≤ bankBytes c p (streamDie k))))]
  | some (.parAlloc p) =>
    if key % 256 = 4 ∨ key % 256 = 5 then (List.range (usedDies c)).map (fun d =>
      (key, 0x0304, decide (ringBytes c p d ≤ bankBytes c p d)))
    else if key % 256 = 1 then (List.range (usedDies c)).map (fun d =>
      (key, 0x0304, decide (railSum c d 1 ≤ 200 && railSum c d 0 ≤ 125))) else []
  | some (.parState p) => [(key, 0x0304, !(p == 1 && key % 256 == 6) || cfg c 0x2100 6 0 == 0)]
  | some (.parKey p) => [(okey (0x2002 + 256 * p) 3, 0x0304, !secured c p || (c.parAt p).key.isSome)]
  | some (.powerDie d) => permitChecks c d
  | _ => []

/-! ### Allocations (R287, R308) -/

/-- The resource kinds that a bitmap allocates: subindex and number per die (R285, R307). -/
def bitKinds : List (Nat × Nat) :=
  [(1, 12), (2, 24), (5, 32), (6, 16), (7, 64), (8, 8), (9, 64), (0xA, 64), (0xC, 1)]

/-- An allocation blob of a parish. -/
def alloc (c : State) (p sub : Nat) : List Byte := cfgBlob c (allocIdx p) sub

/-- The parishes whose bitmap names a resource. -/
def namers (c : State) (sub n : Nat) : List Nat := (List.range 16).filter (fun p => blobBit (alloc c p sub) n)

/-- The parishes whose STREAMS name a stream. -/
def streamNamers (c : State) (k : Nat) : List Nat := (List.range 16).filter (fun p => pairsName (alloc c p 4) k)

/-- A failed check of R308: its number, the parishes whose ALLOC_REFUSE records it, the subindex and the index byte. -/
abbrev AllocFail := Nat × List Nat × Nat × Nat

/-- Check 1: a resource of the part named by two parishes. -/
def allocTwice (c : State) : List AllocFail :=
  (bitKinds.flatMap (fun q => (List.range (usedDies c * q.2)).filterMap (fun n =>
    if 1 < (namers c q.1 n).length then some (1, namers c q.1 n, q.1, n % 256) else none)))
    ++ (List.range (usedDies c * 512)).filterMap (fun k =>
      if 1 < (streamNamers c k).length then some (1, streamNamers c k, 4, k % 256) else none)
    ++ (if 1 < (namers c 0xD 0).length then [(1, namers c 0xD 0, 0xD, 0)] else [])

/-- Whether an image in the settings names a stream: a mill channel's output, a rule's source or an entry's stale stream. -/
def streamNamed (c : State) (k : Nat) : Bool :=
  let d := streamDie k
  (dieMills c d).any (fun m => m.outStream == k % 512)
    || (List.range 64).any (fun g => (ruleImg c (d * 64 + g)).srcKind == 2 && (ruleImg c (d * 64 + g)).srcNum == k % 512)
    || (rotaOf (cfgBlob c (0x6C00 + 128 * d) 1)).entries.any (fun r => r.stale == k % 512)

/-- Whether a resource of a bitmap kind is idle (R287). -/
def bitIdle (c : State) (sub n : Nat) : Bool :=
  let d := n / 64
  match sub with
  | 1 => modeOf c n == 0 && !(c.portAt n).vpOn && (List.range 3).all (fun j => !tripSo c n j)
  | 2 => (engImg c n).isEmpty &&
      (rotaOf (cfgBlob c (0x6C00 + 128 * (n / 24)) 1)).entries.all (fun r => isGap r || r.engine != n % 24)
  | 5 => (List.range 0x1F0).all (fun k =>
      !bitOf (ringBanks c (n / 32 * 512 + k) (ringSize c (n / 32 * 512 + k))) (n % 32))
  | 6 => !(millOf (millBytes c n)).enable
  | 7 => !(ruleImg c n).present
  | 8 => (List.range 4).all (fun k => field (cfg c (0xA000 + 4 * n + k) 1 0) 1 0 == 0)
  | 9 => cfg c (0xA800 + 256 * d + n % 64) 1 0 == 0 && (List.range 64).all (fun j => !bitOf (colRows c d j) (n % 64))
  | 0xA => colDest c d (n % 64) == 0 && colRows c d (n % 64) == 0
  | 0xC => (rotaOf (cfgBlob c (0x6C00 + 128 * n) 1)).entries.isEmpty
  | _ => true

/-- The parish that an allocation bitmap names first, 0 for none. -/
def bitHolder (c : State) (sub n : Nat) : Nat := firstParish (fun p => blobBit (alloc c p sub) n)

/-- The parish that holds a stream, 0 for none. -/
def streamHolder (c : State) (k : Nat) : Nat := firstParish (fun p => pairsName (alloc c p 4) k)

/-- Check 2: a resource that changes owner while it is idle neither before nor with the commit's other changes (R287). -/
def allocBusy (s c : State) : List AllocFail :=
  (bitKinds.flatMap (fun q => (List.range (usedDies c * q.2)).filterMap (fun n =>
    let a := bitHolder s q.1 n
    let b := bitHolder c q.1 n
    if a = b ∨ (q.1 = 5 ∧ n % 32 = 0) ∨ bitIdle s q.1 n = true ∨ bitIdle c q.1 n = true then none
    else some (2, [b], q.1, n % 256))))
    ++ (List.range (usedDies c * 512)).filterMap (fun k =>
      let a := streamHolder s k
      let b := streamHolder c k
      if a = b ∨ 0x1F0 ≤ k % 512 ∨ (cfg s (0x7000 + k) 1 0 = 0 ∧ streamNamed s k = false)
          ∨ (cfg c (0x7000 + k) 1 0 = 0 ∧ streamNamed c k = false) then none
      else some (2, [b], 4, k % 256))
    ++ (List.range 16).flatMap (fun p => (List.range (usedDies c)).filterMap (fun d =>
      let g := (s.dieAt d).regionAt p
      let cap := logBlocks c p d * 64 - (g.blocks.length * 64 - regionSize (s.dieAt d) g)
      if logBlocks c p d < g.blocks.length ∧ cap < g.pages.length then some (2, [p], 0xB, d) else none))

/-- The pairs of U16 values of a blob, the unused ones left out. -/
def pairList : List Byte → List (Nat × Nat)
  | a :: b :: c :: d :: t =>
    if leNat [a, b] = 0xFFFF then pairList t else (leNat [a, b], leNat [c, d]) :: pairList t
  | _ => []

/-- A sum over the parishes. -/
def parSum (f : Nat → Nat) : Nat := (List.range 16).foldl (fun a p => a + f p) 0

/-- Check 3: sums beyond their limits, resources beyond the part, and pairs whose first value exceeds their last. -/
def allocBeyond (c : State) : List AllocFail :=
  let num (p sub dflt : Nat) := cfg c (allocIdx p) sub dflt
  let up := parSum (fun p => num p 0xF (if p = 0 then 5 else 0))
  (if 100 < up ∨ num 0 0xF 5 < 5 then [(3, [0], 0xF, 0)] else [])
    ++ (if 256 < parSum (fun p => num p 0x10 0) then [(3, [0], 0x10, 0)] else [])
    ++ (List.range 8).filterMap (fun d => if 768 < parSum (fun p => ctxLimit c p d) then some (3, [0], 3, d) else none)
    ++ (List.range 8).filterMap (fun d => if 240 < parSum (fun p => logBlocks c p d) then some (3, [0], 0xB, d) else none)
    ++ (List.range 16).flatMap (fun p =>
      bitKinds.flatMap (fun q => ((List.range (8 * q.2)).drop (usedDies c * q.2)).filterMap (fun n =>
        if blobBit (alloc c p q.1) n then some (3, [p], q.1, n % 256) else none))
      ++ ((List.range 8).drop (usedDies c)).flatMap (fun d =>
        (if ctxLimit c p d = 0 then [] else [(3, [p], 3, d)]) ++ (if logBlocks c p d = 0 then [] else [(3, [p], 0xB, d)]))
      ++ (pairList (alloc c p 4)).filterMap (fun x =>
        if x.2 < x.1 ∨ usedDies c * 512 ≤ x.2 then some (3, [p], 4, x.1 % 256) else none)
      ++ (pairList (alloc c p 0xE)).filterMap (fun x => if x.2 < x.1 then some (3, [p], 0xE, x.1 % 256) else none))

/-- Check 4: bank 0 or a system stream given away (R286). -/
def allocSystem (c : State) : List AllocFail :=
  ((List.range 16).drop 1).flatMap (fun p =>
    (List.range (usedDies c)).filterMap (fun d => if blobBit (alloc c p 5) (d * 32) then some (4, [p], 5, d * 32) else none)
      ++ (pairList (alloc c p 4)).filterMap (fun x =>
        if (List.range (usedDies c)).any (fun d => x.1 < d * 512 + 512 && d * 512 + 0x1F0 ≤ x.2) then some (4, [p], 4, x.1 % 256)
        else none))

/-- Whether the settings give parish 1 a safety function (R303). -/
def hasSafety (c : State) : Bool :=
  (List.range (usedDies c * 12)).any (fun n => portOwner c n == some 1 && (List.range 3).any (tripSo c n))
    || (List.range (usedDies c * 64)).any (fun g =>
        ruleOwner c g == some 1 && (ruleImg c g).present && bitOf (ruleImg c g).outputs 4)
    || (List.range (usedDies c)).any (fun d => (List.range 64).any (fun j =>
        colDest c d j / 4096 == 6 || colDest c d j / 4096 == 7))

/-- Whether a value's bits name a parish from 3 to 15. -/
def namesBeyond (v : Nat) : Bool := 8 ≤ v % 65536

/-- Whether a setting of a commit names a parish from 3 to 15, or a stream beyond those of SH-12 mode (R445). -/
def beyondSh12 (c : State) (key : Nat) : Bool :=
  let i := key / 256
  let sub := key % 256
  match layOf c.dies i with
  | some (.parAlloc p) => 3 ≤ p || (sub == 4 && (pairList (alloc c p 4)).any (fun x => 0xF0 ≤ x.2))
  | some (.parState p) => 3 ≤ p || (sub == 4 && namesBeyond (cfg c i 4 0))
  | some (.parKey p) | some (.parDest p) | some (.parUser p) | some (.granPar p) => 3 ≤ p
  | some (.stream k) => (0xF0 ≤ k && k < 0x1F0) || (sub == 7 && namesBeyond (cfg c i 7 0))
  | some .netGen => sub == 6 && namesBeyond (cfg c i 6 0)
  | some (.netWin _) => 3 ≤ sub && namesBeyond (field (cfg c i sub 0) 55 40)
  | some (.row _ _) => sub == 2 && namesBeyond (cfg c i 2 0)
  | _ => false

end Sys2Proof.Machine
end

