-- ==== Sys2Proof/Machine/Apply.lean ====
section
/-! DEFINITION. Putting committed settings in force: package objects, the objects of a die, and the beginning of a rota frame
with its bank swaps (R46, R60, R68, R87, R179, R181, R196 to R198, R212, R240, R270, R283, R293, R351, R353, R442). -/

namespace Sys2Proof.Machine

/-! ### Objects by key -/

/-- The layout of an object key. -/
def keyLay (s : State) (key : Nat) : Option Lay := layOf s.dies (key / 256)

/-- The parish that owns an object (R15). -/
def keyOwner (s : State) (key : Nat) : Option Nat :=
  match keyLay s key with
  | none => none
  | some l => match findRow l (key % 256) with
    | none => none
    | some r => rowOwnerOf s l r

/-- The die on which an object's settings apply; none for a package object. -/
def layDie : Lay → Option Nat
  | .port n _ | .tripMap n | .calPort n | .portLoop n => some (portDie n)
  | .eng e | .engScratch e => some (engDie e)
  | .rota d | .millDie d | .sieveDie d | .granDie d | .nvDie d | .nvRegion d _ | .routeDie d | .reeveDie d | .powerDie d
  | .bgDie d | .row d _ | .col d _ => some d
  | .stream k => some (streamDie k)
  | .mill c => some (millDie c)
  | .rule g | .verdictMap g => some (ruleDie g)
  | .tally t => some (tallyDie t)
  | .tallyUnit u => some (u / 8)
  | _ => none

/-- The die of an object key. -/
def keyDie (s : State) (key : Nat) : Option Nat := (keyLay s key).bind layDie

/-- The value in force of an RWP object. -/
def valueOf (s : State) (key : Nat) : List Byte :=
  match (s.conf.find? (fun e => e.1 == key)).map (·.2), keyLay s key with
  | some b, _ => b
  | none, some l => match findRow l (key % 256) with
    | some r => objDefault s l r
    | none => []
  | none, none => []

/-- The pending values of so many objects take force. -/
def moveKeys (s : State) (keys : List Nat) : State :=
  { s with conf := keys.foldl (fun t k => match s.pend.find? (fun e => e.1 == k) with
      | some e => tput t k e.2
      | none => t) s.conf }

/-- Whether a port operation or a loopback keeps a port's settings waiting (R353, R456). -/
def portBusy (s : State) (n : Nat) : Bool :=
  (s.portAt n).loopDepth != 0 || (headSlot s n 3).isSome

/-! ### Ports (R68, R71, R76, R87, R128, R132, R136, R145, R431) -/

/-- A change of PORT_MODE: the port goes to UNCONFIGURED with its pins released and EM off, and the new mode waits 10 µs (R68). A
pulse that waits for the governor gives up its request until the new mode is in force. The register PIN_OE is cleared with the
pins (DESIGN CHOICE, log entry 17: R68 speaks of the pins alone). A calibration run restarts (R431). A port that no allocation
names stays in UNCONFIGURED (R286). -/
def applyMode (s : State) (n : Nat) : State :=
  let m := if portNamed s n then modeOf s n else 0
  let stop (g : PulseGen) : PulseGen := { g with run := false, out := false, stopping := false }
  if m = (s.portAt n).nextMode.getD (s.portAt n).mode then s
  else
    let s1 := (stopEmitterItem s n).modDie (portDie n) (fun x => { x with govWait := without x.govWait n })
    s1.modPort n (fun x => { x.restartCal s.ticks with
      mode := 0, modeAt := s.ticks, nextMode := some m, pinOe := 0, emSink := false
      emBusy := emitterQueued (s1.dieAt (portDie n)) x.queue, settling := false, pg0 := stop x.pg0, pg1 := stop x.pg1 })

/-- The settings of the front end start anew: ranges at RANGE_FIX, hold counts cleared, FE on P2 (R131, R132). -/
def applyFront (x : Port) : Port := { x with range := [], holdCnt := [], newRange := [], lastInput := 0 }

/-- The DAC codes and comparator modes of the settings take effect (R133, R136). -/
def applyComps (s : State) (n : Nat) (x : Port) : Port :=
  { x with
    dac0 := cfg s (portIdx n 9) 3 0, dac1 := cfg s (portIdx n 10) 3 0
    cmpMode := cfg s (portIdx n 9) 6 0 % 4 + cfg s (portIdx n 10) 6 0 % 4 * 4, lastInput := 0 }

/-- A generator whose PG_MODE is now OFF stops (R145). -/
def applyPg (s : State) (n g : Nat) (p : PulseGen) : PulseGen :=
  if pgMode s n g = 0 then { p with run := false, out := false, stopping := false, done := 0 } else p

/-- A port's settings apply; `keys` are the objects and `old` the settings before (R68, R87). -/
def applyPort (old s : State) (n : Nat) (keys : List Nat) : State :=
  let hit (o : Nat) : Bool := keys.any (fun k => k / 256 == portIdx n o)
  if !(List.range 15).any hit then s
  else
    let init := cfg s (padIdx n) 5 0
    let s1 := if !(s.portAt n).vpInitTaken || cfg old (padIdx n) 5 0 != init then
      (writeVpOn s n (init == 1)).modPort n (fun x => { x with
        vpInitTaken := true, cmpOff := false, vpSel := if x.vpInitTaken then x.vpSel else cfg s (padIdx n) 3 0 }) else s
    let s2 := s1.modPort n (fun x =>
      let x1 := if hit 2 then { x with emISet := cfg s (portIdx n 2) 2 10, emWidth := cfg s (portIdx n 2) 3 1 } else x
      let x2 := if hit 5 then
        { x1 with spiMode := cfg s (portIdx n 5) 2 0, lsbFirst := cfg s (portIdx n 5) 3 0 == 1 } else x1
      let x3 := if hit 6 then
        { x2 with parity := cfg s (portIdx n 6) 2 0, endByte := cfg s (portIdx n 6) 7 0, endEn := cfg s (portIdx n 6) 8 0 == 1 }
        else x2
      let x4 := if hit 8 then applyFront x3 else x3
      let x5 := if hit 9 || hit 10 then applyComps s n x4 else x4
      let x6 := if hit 11 || hit 12 || hit 13 || hit 14 then { x5 with lastInput := 0 } else x5
      { x6 with pg0 := applyPg s n 0 x6.pg0, pg1 := applyPg s n 1 x6.pg1 })
    applyMode (if hit 9 || hit 10 || hit 11 then windowFollows s2 n s2.nowStamp else s2) n

/-! ### Images and tables (R153, R174, R179, R212, R422) -/

/-- A program image applies (R179): live contexts end, the program and the init words are loaded, shared registers and
engine lines return to zero. A retired engine stays retired (R380). -/
def applyEngine (s : State) (e : Nat) : State :=
  let b := engImg s e
  let s1 := ((s.engAt e).ctxs.filter (fun q => q.2.live)).foldl (fun y q => endCtx y e q.1 (some 12)) s
  let s2 := s1.modEng e (fun x => { x with
    state := if x.state = 3 then 3 else if b.isEmpty then 0 else 1
    prog := engProg b, init := engInit b, scratch := Memory.writeBytes [] 0 (wordsBytes (engInit b)), shared := []
    bench := engBench b, ctxs := [], running := none, ready := [], lines := 0, pulses := 0, tsecHi := 0, tns := 0, tfrac := 0
    activeCrc := getLe b 24 4, reloaded := false })
  s2.modDie (engDie e) (fun x => { x with slotWaiters := x.slotWaiters.filter (fun w => w.1 != e) })

/-- The images of a die's mill channels apply: a changed one waits for the next round boundary, with D and the demand of the
die (R209, R210, R212). -/
def applyMills (s : State) (d : Nat) (chans : List Nat) : State :=
  let s1 := chans.foldl (fun u c =>
    let m := millOf (millBytes u c)
    if (u.millAt c).img = m ∧ (u.millAt c).halted = false then u.modMill c (fun x => { x with next := none })
    else u.modMill c (fun x => { x with next := some m })) s
  let l := dieMills s1 d
  let q := millDemand l
  if chans.isEmpty then s1
  else s1.modDie d (fun x => { x with lagNext := some (millLag l), demand := if q.2 = 0 then 0 else q.1 / q.2 / 1000 })

/-- A stream's ring is cleared at an apply that changes its size, policy or banks, and SEQ starts anew (R240). -/
def clearStream (s : State) (k : Nat) : State :=
  s.modStream k (fun x => { x.clear k with seqs := [] })

/-- The rotas of a die as NEXT_IMAGE takes force: the next bank becomes the active one and the banks change places (R197). -/
def swapRota (s : State) (d : Nat) : State :=
  s.modDie d (fun y => { y with
    active := y.next, next := y.active, rotaState := 0, swapStamp := s.nowStamp, bankTurn := none
    rotaDamaged := [], rotaNone := false, failover := false, frameStart := none, instants := [] })

/-- ROTA_STATE of the dies whose NEXT_IMAGE stands among keys (R197). -/
def setRotas (state : Nat) (keys : List Nat) (s : State) : State :=
  keys.foldl (fun u k => match keyLay u k, k % 256 with
    | some (.rota d), 1 => u.modDie d (fun x => { x with rotaState := state })
    | _, _ => u) s

/-- The bank that a power transition loaded becomes the active one, as at a swap (R202). -/
def turnBank (s : State) (d : Nat) : State :=
  match (s.dieAt d).bankTurn with
  | none => s
  | some t => s.modDie d (fun y => { y with
      active := t, next := if y.rotaState = 3 then y.next else y.active, bankTurn := none, swapStamp := s.nowStamp
      rotaDamaged := [] })

/-- The structures of so many objects that hold a reload copy, by index (R422). -/
def reloadable (s : State) (keys : List Nat) : List Nat :=
  keys.foldl (fun a k => match keyLay s k with
    | some (.eng _) | some (.rota _) | some (.mill _) | some (.rule _) | some (.tally _) | some (.row _ _) | some (.col _ _) =>
      addOnce a (k / 256)
    | _ => a) []

/-- The numbers of the objects of one kind among keys, ascending and once each. -/
def picked (s : State) (keys : List Nat) (f : Lay → Option Nat) : List Nat :=
  keys.foldl (fun a k => match (keyLay s k).bind f with
    | some n => addOnce a n
    | none => a) []

/-- The objects `keys` of die d, whose values stand in the settings of `s`, take effect; `old` holds the settings before. -/
def applyDieKeys (old s : State) (d : Nat) (keys : List Nat) : State :=
  let engs := picked s (keys.filter (fun k => k % 256 = 1)) (fun l => match l with | .eng e => some e | _ => none)
  let mills := picked s keys (fun l => match l with | .mill c => some c | _ => none)
  let rules := picked s keys (fun l => match l with | .rule g => some g | _ => none)
  let tallies := picked s keys (fun l => match l with | .tally t => some t | _ => none)
  let streams := picked s keys (fun l => match l with | .stream k => some k | _ => none)
  let ports := picked s keys (fun l => match l with | .port n _ => some n | _ => none)
  let lines := picked s keys (fun l => match l with | .row _ r => some r | .col _ c => some (128 + c) | _ => none)
  let s1 := engs.foldl applyEngine s
  let s2 := applyMills s1 d mills
  let s3 := rules.foldl (fun u g =>
    if (u.ruleAt g).img = ruleImg u g ∧ thas (u.dieAt d).reloadDue (0x8400 + g) = false then u
    else applyRule u g (ruleImg u g)) s2
  let s4 := tallies.foldl applyTally s3
  let s5 := if lines.isEmpty then s4 else
    applyMatrix (lines.foldl (fun u j => if j < 128 then u.modRow (rk d j) (fun x => { x with failed := false })
      else u.modCol (rk d (j - 128)) (fun x => { x with failed := false })) s4) d
  let s6 := streams.foldl (fun u k =>
    if ringSize old k = ringSize u k ∧ streamPolicy old k = streamPolicy u k then u else clearStream u k) s5
  let s7 := ports.foldl (fun u n => applyPort old u n keys) s6
  let s8 := if keys.contains (okey (0x6C00 + 128 * d) 1) then swapRota s7 d else s7
  let todo := reloadable s keys
  soRefresh (s8.modDie d (fun x => { x with
    reloadTodo := todo.foldl addOnce x.reloadTodo, reloadDue := x.reloadDue.filter (fun e => !todo.contains e.1)
    reloadFailed := x.reloadFailed.filter (fun i => !todo.contains i) }))

/-! ### Package objects (R41, R47, R48, R50, R248, R287, R293, R389, R392) -/

/-- The servo follows its mode and steering port (R47, R48, R50). From HOST mode it enters ACQUIRING, where after the first lock
it does not step (R49; DEDUCED, log entry 16). A steering port with another grandmaster puts it into HOLDOVER. -/
def applyServo (s : State) : State :=
  if !servoBuiltin s then { s with servo := { s.servo with status := 5 } }
  else match (List.range 3).find? (steers s) with
    | none => { s with servo := { s.servo with
        status := if s.servo.everLocked then 4 else 0, valid := 0, count := 0, meas := [] } }
    | some n =>
      if s.servo.status = 0 ∨ s.servo.status = 5 then { s with servo := s.servo.acquire s.ticks false }
      else newGrandmaster s n (s.ptpAt n).gm

/-- TWIN_EN takes effect: SEEKING, or ALONE after 3 DETACH words (R389, R392). -/
def applyTwin (old s : State) : State :=
  let was := cfg old 0xD800 1 0
  let now := cfg s 0xD800 1 0
  if now = was then s
  else if now = 1 then { s with twin := { s.twin with state := 1, matched := 0 } }
  else { s with twin := { s.twin with state := 0, matched := 0, testPhase := 0, todo := s.twin.todo ++ [3, 3, 3] } }

/-- The blocks of one region follow LOG_BLOCKS: a smaller region gives up its last blocks (R248, R287). -/
def shrinkRegion (s : State) (d p : Nat) : State :=
  s.modRegion d p (fun g => { g with blocks := g.blocks.take (logBlocks s p d) })

/-- A larger region takes the lowest free blocks of the log area. -/
def growRegion (s : State) (d p : Nat) : State :=
  let x := s.dieAt d
  let have_ := (x.regionAt p).blocks
  let isFree (b : Nat) : Bool := !x.regions.any (fun e => e.2.blocks.contains b) && !x.spareBlocks.contains b
  s.modRegion d p (fun g => { g with
    blocks := g.blocks ++ (((List.range 256).filter isFree).take (logBlocks s p d - have_.length)) })

/-- The log regions of a die follow its allocations. -/
def applyLogBlocks (s : State) (d : Nat) : State :=
  let ps := (List.range 16).filter (fun p => ((s.dieAt d).regionAt p).blocks.length != logBlocks s p d)
  ps.foldl (fun v p => growRegion v d p) (ps.foldl (fun v p => shrinkRegion v d p) s)

/-- The parishes that a change of settings configures: those that own a changed RWP object, or whose allocation changed
(R293). -/
def configured (old s : State) (keys : List Nat) : List Nat :=
  (List.range 16).filter (fun p => p != 0 && keys.any (fun k =>
    (keyOwner s k == some p || k / 256 == allocIdx p) && valueOf old k != valueOf s k))

/-- A configured parish moves to TEST from INIT and HALT, and parish 1 from RUN and RECOVERY too (R293). -/
def enterTest (s : State) (p : Nat) : State :=
  let st := decided s p
  if st = 0 ∨ st = 4 ∨ (p = 1 ∧ (st = 2 ∨ st = 3)) then
    s.modPar p (fun x => { x with target := some 1, taken := [], cause := [] })
  else s

/-- Ports of a die that change owner take VP_INIT anew at their next apply (R87). -/
def ownerMoves (old s : State) (d : Nat) : State :=
  { s with port := s.port.map (fun e =>
      if portDie e.1 ≠ d ∨ portOwner old e.1 = portOwner s e.1 then e else (e.1, { e.2 with vpInitTaken := false })) }

/-- Rings of a die whose parish's banks on it changed are cleared (R240). -/
def bankMoves (old s : State) (d : Nat) : State :=
  let moved (k : Nat) : Bool := match streamOwner s k with
    | none => false
    | some p => (List.range 32).any (fun b =>
        (bankOwner old (streamDie k) b == some p) != (bankOwner s (streamDie k) b == some p))
  ((s.stream.map (·.1)).filter (fun k => streamDie k == d && decide (k % 512 < 0x1F0) && moved k)).foldl clearStream s

/-- Ports of a die that an allocation now names, or names no longer, take their settings or go idle; rings of streams likewise
(R286). -/
def nameMoves (old s : State) (d : Nat) : State :=
  let ports := (s.port.map (·.1)).filter (fun n => portDie n == d && portNamed old n != portNamed s n)
  let s1 := ports.foldl (fun u n => applyPort old (if portNamed u n then u else writeVpOn u n false) n
    ((List.range 15).map (fun o => okey (portIdx n o) 1))) s
  ((s1.stream.map (·.1)).filter (fun k => streamDie k == d && ringSize old k != ringSize s1 k)).foldl clearStream s1

/-- The ownership entries of a die follow the allocation objects in force, with what a change of owner does to ports, rings and
log regions (R34, R87, R240, R248); `old` holds the entries before. -/
def takeOwnership (old s : State) (d : Nat) : State :=
  applyLogBlocks (bankMoves old (ownerMoves old s d) d) d

/-! ### Power records (R415) -/

/-- A power record on a die's stream 0x1F3; `us` is DURATION in µs. -/
def powerRecord (s : State) (d w0 dies us : Nat) : State :=
  ringEnter s (d * 512 + 0x1F3)
    { stamp := s.nowStamp, pcode := 0x60
      words := [BitVec.ofNat 32 w0, BitVec.ofNat 32 (dies % 256 + min us 16777215 * 256)] }

/-- W0 of a power record. -/
def powerW0 (event from_ to_ cause : Nat) : Nat := event + 16 * from_ + 256 * to_ + 65536 * cause

/-! ### The sleep vote's frames (R312, R333, R334) -/

/-- A SLEEP_VOTE of the hub goes to ADP_MCAST on every enabled port whose link is up. -/
def voteFrames (s : State) (state commitIn : Nat) : State :=
  (List.range 3).foldl (fun u n =>
    if cfg u (0x0810 + 16 * n) 1 1 = 1 ∧ portLive u n = true then
      hubFrame u n { op := 9, dst := adpMcast u
                     payload := leBytes 1 state ++ leBytes 1 u.net.voteTarget ++ leBytes 2 u.net.voteRound.toNat
                       ++ leBytes 4 commitIn }
    else u) s

/-- A cause of cancellation arises (R334): an agreement is cancelled, and none forms again for SLEEP_GRACE. -/
def cancelVote (s : State) : State :=
  let s1 := { s with net := { s.net with graceAt := some s.ticks } }
  if s.net.voteState = 1 then
    powerRecord (voteFrames { s1 with net := { s1.net with voteState := 0 } } 3 0) 0
      (powerW0 3 s.power.state (s.net.voteTarget + 1) 0) 0 0
  else s1

/-- The delivery-window settings of a port that a commit changes take effect at the first DW_CYCLE boundary after T, of the cycle in
force, or of the new one where there was none (R341). -/
def holdWindows (old s : State) (keys : List Nat) (n : Nat) : State :=
  let i := 0x0811 + 16 * n
  let c := (if windowReg old n 1 0 = 0 then cfg s i 1 0 else windowReg old n 1 0) * 1000 * 2 ^ 32
  let last := if c = 0 then s.time.fine else s.time.fine / c * c
  if keys.all (fun k => k / 256 != i) || c = 0 || stampGe (stampOf (last / 2 ^ 30)) s.commit.t then s
  else s.modNet n (fun x => { x with
    dwHeld := (List.range 11).map (fun sub => windowReg old n sub (if sub = 2 then 20 else 0)), dwAt := last + c })

/-- The settings of a network port that a commit changes take effect as its link drops; a port that is not in use has none (R341). -/
def dropLink (s : State) (keys : List Nat) (n : Nat) : State :=
  if keys.any (fun k => k / 256 == 0x0810 + 16 * n) ∨ cfg s (0x0810 + 16 * n) 1 1 = 0 then
    s.modNet n (fun x => { x with link := false, onWire := none, plcaActive := false })
  else s

/-- The package objects among `keys`, whose values stand in the settings of `s`, take effect. A change of SLEEP_VOTERS cancels
an agreement (R335), and the network ports follow R341. -/
def applyPackageKeys (old s : State) (keys : List Nat) : State :=
  let s1 := if keys.contains (okey 0x3011 4) then
    { s with time := { s.time with slewLimitPend := some (cfg s 0x3011 4 100) } } else s
  let s2 := if keys.any (fun k => k / 256 == 0x3020 || (0x3100 ≤ k / 256 && k / 256 < 0x3130)) then applyServo ((List.range 3).foldl ptpStart s1) else s1
  let s3 := if cfg old 0x0800 6 0 ≠ cfg s 0x0800 6 0 ∧ s2.net.voteState = 1 then cancelVote s2 else s2
  let s4 := (List.range 3).foldl (fun u n => holdWindows old (dropLink u keys n) keys n) s3
  soRefresh (applyTwin old s4)

/-! ### A commit's applies (R351 to R353) -/

/-- The value that stands for the package objects in a commit's list of what has not yet applied. -/
def packageMark : Nat := 255

/-- Whether a network time has reached the completion instant T of the commit. -/
def atT (s : State) : Bool := stampGe s.nowStamp s.commit.t

/-- Whether an entry of a commit's list can still apply: its die is neither lost nor without its lead (R18, R353). -/
def todoLive (s : State) (m : Nat) : Bool :=
  let d := if 256 ≤ m then portDie (m - 256) else m
  m == packageMark || !((s.dieAt d).lost || (s.dieAt d).leadLost)

/-- A die's ownership entries follow the allocation objects in force. -/
def releaseOwn (s : State) (d : Nat) : State :=
  if (s.dieAt d).ownHeld.isNone then s else s.modDie d (fun x => { x with ownHeld := none })

/-- A commit that has applied everywhere goes on to PERSISTING, or is DONE and its writes are no longer pending (R351). A die that
could not apply it holds no entries of its own any more. -/
def commitSettle (s : State) : State :=
  if s.commit.state = 2 ∧ s.commit.todo.all (fun m => !todoLive s m) = true then
    let s1 := (List.range (usedDies s)).foldl releaseOwn s
    if s.commit.persist then { s1 with commit := { s1.commit with state := 3, todo := [] } }
    else { s1 with commit := { s1.commit with state := 4, todo := [] }
                   pend := s1.pend.filter (fun e => !s1.commit.keys.contains e.1) }
  else s

/-- The allocation objects among the settings, as the ownership entries that they give. -/
def ownEntries (s : State) : Tbl (List Byte) := s.conf.filter (fun e => e.1 / 256 % 256 == 1 && e.1 / 65536 == 0x20 + e.1 / 65536 % 16)

/-- Each die that has still to apply the commit keeps its ownership entries (R34, R351). -/
def holdOwn (s : State) : State :=
  if s.commit.keys.any (fun k => match keyLay s k with
      | some (.parAlloc _) => true
      | _ => false) then
    (s.commit.todo.filter (· < usedDies s)).foldl (fun u d => u.modDie d (fun x => { x with ownHeld := some (ownEntries s) })) s
  else s

/-- Whether a loopback of a network port or of the twin link keeps the commit's settings for it waiting, for at most 200 ms from T
(R456). -/
def loopHolds (s : State) : Bool :=
  let looped (k : Nat) : Bool := match keyLay s k with
    | some (.netPort n) | some (.netWin n) | some (.ptp n) => (s.netAt n).loopDepth != 0
    | some .twin => s.twin.loopDepth != 0
    | _ => false
  s.commit.keys.any looped && !stampGe (fineStamp ((s.time.fine : Int) - 200000000 * 2 ^ 32)) s.commit.t

/-- The package objects of a commit apply, with the first die at or after T (log entry 12). -/
def packageApply (s : State) : State :=
  if s.commit.todo.contains packageMark && !loopHolds s then
    let keys := s.commit.keys.filter (fun k => (keyDie s k).isNone)
    let cand := moveKeys s s.commit.keys
    let s1 := applyPackageKeys s (moveKeys (holdOwn s) keys) keys
    let s2 := (configured s cand s.commit.keys).foldl enterTest s1
    { s2 with commit := { s2.commit with todo := without s2.commit.todo packageMark } }
  else s

/-- The settings of ports whose operation was in flight apply once it has completed (R353). -/
def portsApply (s : State) (d : Nat) : State :=
  (s.commit.todo.filter (fun m => 256 ≤ m && portDie (m - 256) == d)).foldl (fun u m =>
    let n := m - 256
    if portBusy u n then u
    else
      let keys := u.commit.keys.filter (fun k => keyLay u k == some (.port n (k / 256 - portIdx n 0)))
      let v := applyPort u (moveKeys u keys) n keys
      { v with commit := { v.commit with todo := without v.commit.todo m } }) s

/-- A die applies the writes of the commit for its own resources (R351); the settings of a busy port wait. -/
def dieApply (s : State) (d : Nat) : State :=
  let s0 := packageApply s
  let s1 := if s0.commit.todo.contains d then
      let keys := s0.commit.keys.filter (fun k => keyDie s0 k == some d)
      let waits (k : Nat) : Bool := match keyLay s0 k with
        | some (.port n _) => portBusy s0 n
        | _ => false
      let now := keys.filter (fun k => !waits k)
      let later := picked s0 (keys.filter waits) (fun l => match l with | .port n _ => some (256 + n) | _ => none)
      let own := if (s0.dieAt d).ownHeld.isSome then nameMoves s0 (takeOwnership s0 (releaseOwn s0 d) d) d else s0
      let u := applyDieKeys s0 (moveKeys own now) d now
      { u with commit := { u.commit with todo := without u.commit.todo d ++ later } }
    else s0
  commitSettle (portsApply s1 d)

/-- Whether a commit has something to apply on a die now. -/
def diePends (s : State) (d : Nat) : Bool :=
  s.commit.state == 2 && atT s
    && (s.commit.todo.contains d || s.commit.todo.contains packageMark
        || s.commit.todo.any (fun m => 256 ≤ m && portDie (m - 256) == d))

/-- The POINT record that a die owes since its operating-point switch, with the paused interval (R401). -/
def pointRecord (s : State) (d : Nat) : State :=
  match (s.dieAt d).pointDue with
  | none => s
  | some w0 => powerRecord (s.modDie d (fun x => { x with pointDue := none })) d w0 (2 ^ d)
      ((s.ticks - (s.dieAt d).pauseAt) / 250)

/-! ### Frame boundaries (R46, R181) -/

/-- COMMIT_DIE_APPLY (R351): a die applies at its frame boundary at or after T, or at T without a rota. -/
def execCommitDieApply (d : Nat) (s : State) : Result State :=
  withDie s d (
    let free_ := !(s.dieAt d).active.valid || !(s.dieAt d).logicOn || atBoundary s d
    if todoLive s d then
      given (diePends s d) s (if free_ then dieApply s d else commitSettle (portsApply (packageApply s) d))
    else given (s.commit.state == 2 && atT s) s (commitSettle (packageApply s)))

/-! ### The configuration loaded at start (R441, R442) -/

/-- Whether the image of an object that start-up loaded passes its checks (R441). -/
def bootImageOk (s : State) (key : Nat) : Bool :=
  let p := (keyOwner s key).getD 0
  match keyLay s key with
  | some (.eng e) => key % 256 != 1 || engImageOk s e
  | some (.rota d) => (rotaRefuse s d p (valueOf s key) (key % 256 == 0xC)).isNone
  | some (.mill c) => (millRefuseCode s c p).isNone
  | some (.rule g) => (ruleRefuseCode s g p).isNone
  | _ => true

/-- An object whose loaded image fails its check reads as refused, with the cause (R441). -/
def bootRefuse (s : State) (key : Nat) : State :=
  let p := (keyOwner s key).getD 0
  match keyLay s key with
  | some (.rota d) => (match rotaRefuse s d p (valueOf s key) (key % 256 == 0xC) with
      | some (c, e) => s.modDie d (fun x => { x with rotaState := 4, refuseCause := c, refuseEntry := e })
      | none => s)
  | some (.mill c) => s.modDie (millDie c) (fun x => { x with
      millRefuse := (millRefuseCode s c p).getD 0 + c * 65536 })
  | some (.rule g) => s.modDie (ruleDie g) (fun x => { x with sieveRefuse := (ruleRefuseCode s g p).getD 0 + g * 65536 })
  | _ => s

/-- The loaded settings of a die apply at its first frame, or at start without a rota (R442). Its rota already stands in the
active bank. -/
def bootDie (s : State) (d : Nat) : State :=
  let mine := (s.conf.map (·.1)).filter (fun k => keyDie s k == some d)
  let rota := okey (0x6C00 + 128 * d) 1
  let bad := mine.filter (fun k => !bootImageOk s k)
  let good := mine.filter (fun k => bootImageOk s k && k != rota)
  applyDieKeys { s with conf := [] } (bad.foldl bootRefuse s) d good

/-- The parishes with a persisted configuration (R442). -/
def bootParishes (s : State) : List Nat :=
  configured { s with conf := [] } s (s.conf.map (·.1))

/-- The persisted rota of a die stands in its active bank, unless its image fails a check (R441). -/
def loadRota (s : State) (d : Nat) : State :=
  let b := cfgBlob s (0x6C00 + 128 * d) 1
  if b.isEmpty || (rotaRefuse s d ((rotaOwner s d).getD 0) b false).isSome then s
  else s.modDie d (fun x => { x with active := rotaOf b })

/-- The starting NANOSECONDS: the first aligned frame of the reference rota, the RUN rota of the lowest-numbered die that
holds one, lies 100 µs after the start; 0 without a rota (R440). -/
def startNs (s : State) : Nat :=
  match (List.range (usedDies s)).find? (fun d => (s.dieAt d).active.valid) with
  | none => 0
  | some d =>
    let t := (s.dieAt d).active
    (((t.phase * 10 : Nat) - 100000 : Int) % ((t.frameLen * 10 : Nat) : Int)).toNat

/-- Steps 8 to 10 of start-up (R440 to R442): rotas are loaded, the time base starts, package objects take effect, parishes with
a configuration enter TEST, and dies without a rota apply their settings at once. -/
def bootPackage (s : State) : State :=
  if !s.dictReady then s
  else
    let dies := List.range (usedDies s)
    let s1 := dies.foldl loadRota s
    let s2 := { s1 with time := { s1.time with
      seconds := 0, nanos := startNs s1, frac := 0, slewLimit := cfg s1 0x3011 4 100 } }
    let keys := (s2.conf.map (·.1)).filter (fun k =>
      (keyDie s2 k).isNone && !(decide (0x3000 ≤ k / 256 ∧ k / 256 < 0x4000)))
    let s3 := applyPackageKeys { s2 with conf := [] } s2 keys
    let s3 := dies.foldl (fun u d => u.modDie d (fun x => { x with hbAt := s.ticks })) s3
    let s3 := dies.foldl (fun u d => takeOwnership { s2 with conf := [] } u d) s3
    let s4 := (List.range 3).foldl ptpStart ((bootParishes s3).foldl enterTest s3)
    let bare := dies.filter (fun d => !(s4.dieAt d).active.valid)
    let s5 := bare.foldl (fun u d => (bootDie u d).modDie d (fun x => { x with booted := true })) s4
    soRefresh (if bare.length = dies.length then applyServo s5 else s5)

/-- The hub starts (R438, R439): it runs the start-up sequence from step 2, unless a thermal shutdown holds it. -/
def restart (s : State) : State := if s.power.thermDown || !s.power.vinOk then s else bootPackage (startUp s)

/-! ### FRAME_BEGIN -/

/-- The standby engines that serve the entries of halted engines from this boundary on (R196). -/
def standbyNow (s : State) (d : Nat) : Nat :=
  (List.range 24).foldl (fun a k =>
    if engHalted s (d * 24 + k) && nth 0xFF (s.dieAt d).active.standby k < 24 then a + 2 ^ k else a) 0

/-- The failover of R423: the reload copy, checked in the next bank, becomes the active rota. -/
def failoverSwap (s : State) (d : Nat) : State :=
  if (s.dieAt d).failover && (s.dieAt d).rotaState != 3 then
    s.modDie d (fun x => { x with
      active := x.next, next := x.active, failover := false, rotaDamaged := [], swapStamp := s.nowStamp })
  else s

/-- The first frame of a die after reset: its loaded configuration applies, and its START anchor is stamped by the frame's start
(R60, R442). The built-in servo starts with the first frame of all (R440). -/
def startAnchor (s : State) (d : Nat) : State :=
  if bitOf s.startAnchor d then s
  else
    let s0 := if s.startAnchor = 0 then applyServo s else s
    let s1 := if (s0.dieAt d).booted then s0 else (bootDie s0 d).modDie d (fun x => { x with booted := true })
    ringEnter { s1 with startAnchor := setBit s1.startAnchor d } (d * 512 + 0x1F0)
      { anchorRec s 7 with stamp := fineStamp (frameInstantAt s (s.dieAt d).active) }

/-- The die's part of a frame boundary, before the new frame: the digests of the frame that ends, the commit's writes, a
failover, the states of parishes and the standby engines. -/
def boundary (s : State) (d : Nat) : State :=
  let s0 := s.modDie d (fun x => { x with prevDigests := x.curDigests, curDigests := [], pairDone := [] })
  let s1 := startAnchor (turnBank s0 d) d
  let s2 := if diePends s1 d then dieApply s1 d else s1
  let s3 := failoverSwap s2 d
  let s4 := (List.range 16).foldl (fun u p => if (u.parAt p).target.isSome then takeState u d p else u) s3
  s4.modDie d (fun x => { x with standbyActive := standbyNow s4 d })

/-- A new frame starts where the instant meets the alignment of the rota in force; else frames wait for it (R181, R197). -/
def beginFrame (s : State) (d : Nat) : State :=
  let t := (s.dieAt d).active
  if t.valid && frameInstant s t then
    let at_ := frameInstantAt s t
    s.modDie d (fun x => { x with
      frames := x.frames + 1, frameN := (at_ - tenNs t.phase) / tenNs t.frameLen, frameStart := some at_, instants := []
      frameTick := s.ticks, frameCut := false })
  else s.modDie d (fun x => { x with frameStart := none, instants := [] })

end Sys2Proof.Machine
end

