-- ==== Sys2Proof/Machine/Twin.lean ====
section
/-! DEFINITION. The configuration digests (R352, R387), the twin's words and pairing (R388 to R392), and the writes of
LATCH_RESET and RETIRE (R380, R384). -/

namespace Sys2Proof.Machine

/-! ### Digests (R175, R352, R387) -/

/-- The entry of an object in a digest: INDEX, SUB, LENGTH and the value. -/
def digestEntry (key : Nat) (v : List Byte) : List Byte :=
  leBytes 2 (key / 256) ++ leBytes 1 (key % 256) ++ leBytes 2 v.length ++ v

/-- The keys of the objects of the part whose rows meet a test, in ascending index and subindex order. -/
def keysWhere (s : State) (f : Lay → ObjRow → Bool) : List Nat :=
  (List.range 65536).flatMap (fun i => match layOf s.dies i with
    | none => []
    | some l => ((layRows l).filter (f l)).map (fun r => okey i r.sub))

/-- The keys of every RWP object of the part. -/
def rwpKeys (s : State) : List Nat := keysWhere s (fun _ r => r.acc == .rwp)

/-- CONFIG_CRC: over the values of the current persisted copy (R352). -/
def configCrc (s : State) : Nat :=
  let c := { s with conf := s.persisted }
  crc32 ((rwpKeys s).flatMap (fun k => digestEntry k (valueOf c k)))

/-- Whether an object enters the safety digest (R387). -/
def digested (s : State) (key : Nat) : Bool :=
  let i := key / 256
  (i == 0x2101 && decide (1 ≤ key % 256 ∧ key % 256 ≤ 0x10))
    || (keyOwner s key == some 1 && i != 0x2102 && !decide (0xD800 ≤ i ∧ i ≤ 0xDFFF))

/-- The entry of an object in the safety digest: the active image stands in place of a rota's NEXT_IMAGE, unless one is
pending (R387, log entry 12). -/
def safetyEntry (s : State) (pending : Bool) (key : Nat) : List Byte :=
  match keyLay s key, key % 256 with
  | some (.rota d), 1 =>
    digestEntry (okey (key / 256) 2)
      (if pending && s.pend.any (fun e => e.1 == key) then valueOf s key else (s.dieAt d).active.image)
  | _, _ => digestEntry key (valueOf s key)

/-- SAFETY_DIGEST (R387). -/
def safetyDigest (s : State) : Nat :=
  crc32 (((rwpKeys s).filter (digested s)).flatMap (safetyEntry s false))

/-- PENDING_DIGEST (R387): with the pending writes in place. -/
def pendingDigest (s : State) : Nat :=
  let c := moveKeys s (s.pend.map (·.1))
  crc32 (((rwpKeys c).filter (digested c)).flatMap (safetyEntry c true))

/-- The digest of what a commit of the given objects would put in force (R302). -/
def commitDigest (s : State) (keys : List Nat) : Nat :=
  let c := moveKeys { s with pend := s.pend.filter (fun e => keys.contains e.1) } keys
  crc32 (((rwpKeys c).filter (digested c)).flatMap (safetyEntry c true))

/-! ### Halted and retired engines (R174, R176, R293, R380) -/

/-- An engine halts: its contexts end, its engine lines return low, and its parish goes to RECOVERY (R174, R176, R293). -/
def haltEngine (s : State) (e : Nat) (retired : Bool) : State :=
  let s1 := ((s.engAt e).ctxs.filter (fun q => q.2.live)).foldl (fun y q => endCtx y e q.1 none) s
  let s2 := s1.modEng e (fun x => { x with
    state := if retired then 3 else 2, ctxs := [], running := none, ready := [], lines := 0, pulses := 0 })
  match engOwner s e with
  | some p => parishRecover s2 p 1
  | none => s2

/-- An engine of parish 1 is retired (R380): RQ_REASON bit 2. -/
def retireEngine (s : State) (e : Nat) : State := requestReason (haltEngine s e true) 2 (engDie e)

/-- The abort code of a write of RETIRE: a number that is no engine of parish 1 is out of range (log entry 12). -/
def retireCode (s : State) (value : Nat) : Nat :=
  if value < usedDies s * 24 ∧ engOwner s value = some 1 then 0 else 0x0302

/-- A write of RETIRE. -/
def writeRetire (s : State) (value : Nat) : State :=
  if retireCode s value ≠ 0 then withStatus s (retireCode s value) else withStatus (retireEngine s value) 0

/-- RETIRE (R380). -/
def execRetireEngine (value : Nat) (s : State) : Result State := .next (writeRetire s value)

/-! ### LATCHED SAFE (R384) -/

/-- The abort code of a write of LATCH_RESET (R384); outside LATCHED SAFE the write has no state to leave. -/
def latchCode (s : State) (value : Nat) : Nat :=
  if value ≠ safetyDigest s then 0x0603 else if !s.reeve.latched || recoveryHeld s then 0x0403 else 0

/-- An accepted write of LATCH_RESET: parish 1 enters TEST. -/
def latchAct (s : State) : State :=
  let s1 := { s with reeve := { s.reeve with latched := false, firstKey := none, causes := [] } }
  soRefresh (if decided s1 1 = 3 then s1.modPar 1 (fun x => { x with target := some 1, taken := [], cause := [] }) else s1)

/-- A write of LATCH_RESET; a wrong digest is an ARM violation. -/
def writeLatchReset (s : State) (value session : Nat) : State :=
  let code := latchCode s value
  if code = 0 then withStatus (latchAct s) 0
  else withStatus (if code = 0x0603 then armViolation s 1 0xD000 0xF session else s) code

/-- LATCH_RESET (R384). -/
def execLatchReset (value : Nat) (s : State) : Result State := .next (writeLatchReset s value 0)

/-! ### The twin's words (R388) -/

/-- Whether the twin link carries words: in RUN and IDLE, and during an entry for the REST words still to send, with no loopback on
it (R392, R396, R455). -/
def twinLive (s : State) : Bool :=
  s.dictReady && (s.power.state == 0 || s.power.state == 1 || (s.power.state == 5 && !s.twin.todo.isEmpty)) && s.twin.loopDepth == 0

/-- REQ_OFF: the outputs that this hub's own trip signals and verdicts request off, in the layout of MAP[15:0]. -/
def ownReqOff (s : State) : Nat :=
  (tripMapReq s ++ verdictMapReq s).foldl (fun a m => a + andNot 16 m a) 0

/-- The bytes of the word of a TYPE that the hub sends now. -/
def twinWordBytes (s : State) (type : Nat) : List Byte :=
  let b := leBytes 1 type ++ leBytes 1 (s.twin.state % 16 + s.dies % 16 * 16) ++ leBytes 1 (safetyState s)
    ++ leBytes 1 (b2n s.reeve.twtripOut + 2 * b2n s.reeve.twtripIn) ++ leBytes 2 s.twin.txSeq.toNat
    ++ leBytes 2 (ownReqOff s) ++ leBytes 4 (safetyDigest s)
    ++ leBytes 4 (if type = 1 then cfg s 0xD800 2 0 else 0) ++ leBytes 8 s.serial
  b ++ leBytes 2 (crc16 b)

/-- The TYPE of the next word: a DETACH or REST still to send, VERDICT while PAIRED, HELLO while it looks for its twin;
ALONE, with nothing left to send, none (log entry 12). -/
def nextWordType (s : State) : Option Nat :=
  match s.twin.todo with
  | t :: _ => some t
  | [] => if s.twin.state = 0 then none else if s.twin.state = 2 then some 2 else some 1

/-- TWIN_WORD_SEND (R388): every 500 µs. -/
def execTwinWordSend (s : State) : Result State :=
  .next (given (twinLive s && s.twin.txAt.all (fun t => decide (t + 125000 ≤ s.ticks))) s (
    match nextWordType s with
    | none => s
    | some t => { s with twin := { s.twin with
        lastSent := twinWordBytes s t, txSeq := s.twin.txSeq + 1, txAt := some s.ticks, todo := s.twin.todo.drop 1 } }))

/-- Whether a received word is invalid: its SEQ does not follow the last one, or a reserved bit of WIRES is set (R388). -/
def wordInvalid (s : State) (w : TwinWord) : Bool :=
  4 ≤ w.wires || (s.twin.rxSeq.map (fun n => decide (w.seq ≠ (n + 1) % 65536))).getD false

/-- An invalid word is discarded and counted. The next SEQ is judged against this word's (log entry 12). -/
def badWord (s : State) (seq : Option Nat) : State :=
  { s with twin := { s.twin with
      wordsBad := s.twin.wordsBad + 1, rxSeq := if seq.isSome then seq else s.twin.rxSeq } }

/-- A valid word is compared with this hub's own state while PAIRED (R390). -/
def compareWord (s : State) (w : TwinWord) : State :=
  let v := s.twin
  if v.state ≠ 2 then s
  else
    let req := w.reqOff != ownReqOff s
    let wire := bitOf w.wires 0 != s.reeve.twtripIn
    let rr := if req then v.reqRun + 1 else 0
    let wr := if wire then v.wireRun + 1 else 0
    let s1 := { s with twin := { v with
      reqRun := rr, wireRun := wr, disagreements := if req || wire then v.disagreements + 1 else v.disagreements } }
    let s2 := if rr = cfg s 0xD800 5 4 + 1 then raiseFault s1 0 0x0F 2 0 0 0 true else s1
    if wr = 2 then raiseFault s2 0 0x0F 3 0 0 0 true else s2

/-- A word from the twin: an invalid one is discarded, a valid one is compared and then has its own effect. -/
def takeWord (s : State) (w : TwinWord) (act : State → State) : State :=
  given (twinLive s) s (
    if wordInvalid s w then badWord s (some (w.seq % 65536))
    else act (compareWord { s with twin := { s.twin with rxSeq := some (w.seq % 65536), heardAt := s.ticks } } w))

/-- Whether a HELLO word matches this hub (R389). -/
def helloMatches (s : State) (w : TwinWord) : Bool :=
  w.digest == safetyDigest s && w.code == cfg s 0xD800 2 0 && w.states / 16 == s.dies && w.serial != s.serial

/-- A HELLO word (R389, R391): the third match in a row pairs the hubs; a match ends DEGRADED; a failed match raises TWIN 0x04
at most once per second. -/
def helloWord (s : State) (w : TwinWord) : State :=
  let v := s.twin
  if v.state = 0 then s
  else if helloMatches s w then
    let s1 := { s with twin := { v with partner := w.serial, matched := v.matched + 1 } }
    if v.state = 2 then s1
    else if v.state = 1 ∧ 3 ≤ v.matched + 1 then
      tryRun (soRefresh { s1 with twin := { s1.twin with
        state := 2, reqRun := 0, wireRun := 0, testPhase := if s.serial < w.serial then 0 else 1 } })
    else if v.state = 3 then soRefresh { s1 with twin := { s1.twin with state := 1, matched := 1, testPhase := 0 } }
    else s1
  else
    let s1 := { s with twin := { v with matched := 0 } }
    if v.refusedAt.any (fun t => decide (s.ticks < t + msTicks 1000)) then s1
    else raiseFault { s1 with twin := { s1.twin with refusedAt := some s.ticks } } 0 0x0F 4 0 0 0 false

/-- HELLO (R389). -/
def execTwinHello (w : TwinWord) (s : State) : Result State := .next (takeWord s w (fun u => helloWord u w))

/-- VERDICT (R390). -/
def execTwinVerdict (w : TwinWord) (s : State) : Result State := .next (takeWord s w id)

/-- The pairing state changes to ALONE or SEEKING. -/
def unpair (s : State) (st : Nat) : State :=
  soRefresh { s with twin := { s.twin with state := st, matched := 0, testPhase := 0, reqRun := 0, wireRun := 0 } }

/-- DETACH (R392). -/
def execTwinDetach (w : TwinWord) (s : State) : Result State := .next (takeWord s w (fun u => unpair u 0))

/-- REST (R392): SEEKING, while TWIN_EN is 1. -/
def execTwinRest (w : TwinWord) (s : State) : Result State :=
  .next (takeWord s w (fun u => if cfg u 0xD800 1 0 = 1 then unpair u 1 else u))

/-- TWIN_WORD_INVALID (R388): a word with a wrong CRC. -/
def execTwinWordInvalid (s : State) : Result State := .next (given (twinLive s) s (badWord s none))

/-- TWIN_LOST (R389, R391): no valid word for 1.5 ms while PAIRED. -/
def execTwinLost (s : State) : Result State :=
  .next (given (s.twin.state == 2 && decide (s.twin.heardAt + 375000 ≤ s.ticks)) s (
    let s1 := { s with twin := { s.twin with
      state := 3, matched := 0, reqRun := 0, wireRun := 0, losses := s.twin.losses + 1, lostAt := s.ticks, rxSeq := none } }
    raiseFault (soRefresh s1) 0 0x0F 1 0 0 0 false))

/-- LOST_RQ_TIME_EXPIRY (R391). -/
def execLostRqTimeExpiry (s : State) : Result State :=
  .next (given (s.twin.state == 3 && decide (s.twin.lostAt + msTicks (1000 * cfg s 0xD800 6 60) ≤ s.ticks)) s
    (requestReason s 4 0))

end Sys2Proof.Machine
end

