-- ==== Sys2Proof/Machine/Power.lean ====
section
/-! DEFINITION. Power states, wakes, returns and operating points (chapter 15), with the cancellation of a sleep agreement
(R334) and the end of loopbacks at a transition (R456). -/

namespace Sys2Proof.Machine

/-! ### Loopback results (R455, R456) -/

/-- Every loopback that runs ends FAIL with FIRST_ERR 6 (R456). -/
def failLoops (s : State) : State :=
  let port (x : Port) : Port := if x.loopDepth = 0 then x else x.endLoop (loopWord 3 x.loopDepth 6 0)
  let net (x : NetPort) : NetPort := if x.loopDepth = 0 then x else
    { x with loopDepth := 0, remoteDue := false, loopResult := loopWord 3 x.loopDepth 6 0 }
  { s with
    port := s.port.map (fun e => (e.1, port e.2)), netPorts := s.netPorts.map (fun e => (e.1, net e.2))
    twin := if s.twin.loopDepth = 0 then s.twin else
      { s.twin with loopDepth := 0, loopResult := loopWord 3 s.twin.loopDepth 6 0 }
    test := { s.test with
      ringLoop := [], ringResult := s.test.ringLoop.foldl (fun t e => tput t e.1 (loopWord 3 e.2 6 0).toNat) s.test.ringResult } }

/-! ### Waiting and running transitions (R411) -/

/-- Whether an entry, a return or an operating-point switch runs. -/
def inTransition (s : State) : Bool := s.power.state == 5 || s.power.state == 6 || s.power.opBusy

/-- Bit mask of the dies in use. -/
def usedMask (s : State) : Nat := dieMask (usedDies s)

/-! ### Entries (R386, R392, R406, R407) -/

/-- Every die stops launching rota entries. -/
def stopFrames (s : State) : State :=
  { s with die := s.die.map (fun e => (e.1, { e.2 with paused := true, frameStart := none, instants := [] })) }

/-- Every die holds an entry of its own in the table, so that a change of all dies reaches each. -/
def allDies (s : State) : State := (List.range (usedDies s)).foldl (fun u d => u.modDie d id) s

/-- Calibration items in progress are discarded and stay due (R431). -/
def dropItems (s : State) : State :=
  ((s.port.filter (fun e => e.2.calItem != 0 || e.2.calOffline)).map (·.1)).foldl dropItem s

/-- The open CONTINUOUS page of every region waits to be committed (R247). -/
def closePages (s : State) : State :=
  { s with die := s.die.map (fun e => (e.1, { e.2 with regions := e.2.regions.map (fun g => (g.1, closePage g.2)) })) }

/-- Whether every region's pages are committed, on the dies that can write them (R247). -/
def pagesCommitted (s : State) : Bool :=
  s.die.all (fun e => !(e.2.scanDone && e.2.logicOn && !e.2.lost) || e.2.regions.all (fun g => g.2.openPage.isNone && g.2.queue.isEmpty))

/-- Step 1 and step 2 of an entry (R406): the commit point. -/
def beginEntry (s : State) (target cause : Nat) : State :=
  let from_ := s.power.state
  let s1 := { s with power := { s.power with
    state := 5, target := target, entryCause := cause, prevState := from_, drained := false, enteredAt := s.ticks
    lprcEnd := 0, pendReq := if s.power.pendReq = 1 then 0 else s.power.pendReq }
                     reeve := { s.reeve with powerCause := true } }
  let s2 := powerRecord s1 0 (powerW0 1 from_ target cause) (usedMask s) 0
  let s3 := if s2.twin.state = 0 ∨ 2 ≤ from_ then s2 else
    { s2 with twin := { s2.twin with todo := s2.twin.todo ++ [4, 4, 4] } }
  let s4 := soRefresh (parishRecover s3 1 5)
  let s5 := dropItems (failLoops (stopFrames (allDies s4)))
  if target = 2 then s5
  else
    let s6 := closePages s5
    let s7 := (List.range 16).foldl endSessions s6
    { s7 with pend := [] }

/-- A request for a state (R405, R411): RUN, or an entry, at once or when the transition that runs is over. -/
def requestState (s : State) (target cause : Nat) : State :=
  if s.power.state = 5 then
    if target = 0 then { s with power := { s.power with wakeLatched := setBit s.power.wakeLatched 6, pendReq := 0 } }
    else { s with power := { s.power with pendReq := 1, pendState := target, pendCause := cause } }
  else if inTransition s then
    { s with power := { s.power with pendReq := if target = 0 then 0 else 1, pendState := target, pendCause := cause } }
  else if target = 0 then { s with power := { s.power with state := if s.power.state = 1 then 0 else s.power.state, pendReq := 0 } }
  else if target ≤ s.power.state then s
  else beginEntry { s with net := { s.net with voteState := if s.net.voteState = 1 then 0 else s.net.voteState } } target cause

/-- The abort code of a write of POWER_CMD. -/
def powerCmdCode (v : Nat) : Nat := if v = 0 ∨ v = 2 ∨ v = 3 ∨ v = 4 then 0 else 0x0302

/-- Whether start-up is not over for a parish 1 that is to run: it is in TEST, or on its way there from its persisted
configuration, and has not been in RUN since reset (R442, R443; log entry 12). -/
def starting (s : State) : Bool :=
  !s.power.ran && (decided s 1 == 1
    || (decided s 1 == 0 && s.conf.any (fun e => keyOwner s e.1 == some 1) && s.die.any (fun e => e.2.up && !e.2.booted && !e.2.lost)))

/-- A request by POWER_CMD: during start-up it waits (R411, R443). -/
def commandState (s : State) (target : Nat) : State :=
  if starting s then { s with power := { s.power with pendReq := if target = 0 then 0 else 1, pendState := target, pendCause := 256 } }
  else requestState s target 256

/-- A write of POWER_CMD (R405): cause bit 8. -/
def writePowerCmd (s : State) (v : Nat) : State :=
  if powerCmdCode v = 0 then withStatus (commandState s v) 0 else withStatus s (powerCmdCode v)

/-- POWER_CMD_RUN (R405). -/
def execPowerCmdRun (s : State) : Result State := .next (writePowerCmd s 0)
/-- POWER_CMD_SLEEP (R405). -/
def execPowerCmdSleep (s : State) : Result State := .next (writePowerCmd s 2)
/-- POWER_CMD_DEEP_SLEEP (R405). -/
def execPowerCmdDeepSleep (s : State) : Result State := .next (writePowerCmd s 3)
/-- POWER_CMD_OFF (R405). -/
def execPowerCmdOff (s : State) : Result State := .next (writePowerCmd s 4)

/-- IDLE_TIME_EXPIRY (R405): the lead steward has served no request for IDLE_TIME, in units of 0.1 ms (25,000 ticks). -/
def execIdleTimeExpiry (s : State) : Result State :=
  let t := cfg s 0xC000 2 10
  .next (given (s.dictReady && s.power.state == 0 && t != 0 && s.net.waiting.isEmpty && decide (25000 * t ≤ s.timers.idleRun)) s
    { s with power := { s.power with state := 1 }, timers := { s.timers with sleepRun := 0 } })

/-- A request ends IDLE, and IDLE_TIME starts anew (R405). -/
def wakeIdle (s : State) : State :=
  { s with
    power := if s.power.state = 1 then { s.power with state := 0 } else s.power, timers := { s.timers with idleRun := 0 } }

/-- SLEEP_TIME_EXPIRY (R405): SLEEP_TIME has counted without activity. -/
def execSleepTimeExpiry (s : State) : Result State :=
  let t := cfg s 0xC000 3 0
  .next (given (s.power.state == 1 && t != 0 && idleCounts s && decide (msTicks (1000 * t) ≤ s.timers.sleepRun)) s
    (requestState s 2 512))

/-- LPRC cycles in so many seconds, by the nominal 32.768 kHz that the timers count by in SLEEP and DEEP SLEEP (R405). -/
def lprcSeconds (t : Nat) : Nat := 32768 * t

/-- DEEP_TIME_EXPIRY (R405): DEEP_TIME has passed in SLEEP. -/
def execDeepTimeExpiry (s : State) : Result State :=
  let t := cfg s 0xC000 4 0
  .next (given (s.power.state == 2 && t != 0 && idleCounts s && decide (s.power.lprcAt + lprcSeconds t ≤ s.power.lprc)) s
    (requestState s 3 512))

/-- STORAGE_TIME_EXPIRY (R405): STORAGE_TIME, in hours, has passed in DEEP SLEEP. -/
def execStorageTimeExpiry (s : State) : Result State :=
  let t := cfg s 0xC000 5 0
  .next (given (s.power.state == 3 && t != 0 && decide (s.power.lprcAt + lprcSeconds (3600 * t) ≤ s.power.lprc)) s
    (requestState s 4 2048))

/-- A context that the drain ends: its entry is missed with cause POWER (R407). -/
def drainCtx (s : State) (e c : Nat) : State :=
  let d := engDie e
  let y := (s.engAt e).ctxAt c
  let due := (s.dieAt d).opens.any (fun w => w.ctx == some c && w.engine == e && w.entry == y.entry)
  let ports := ((ctxSlots s e c).filter (fun k => ((s.dieAt d).slotAt k).state != 4)).map (fun k => ((s.dieAt d).slotAt k).port)
  let s1 := endCtx s e c (some 11)
  let s2 := if due then missEntry s1 d y.entry 5 y.launchStamp else s1
  (ports.foldl addOnce []).foldl (fun u n => faultItem u d 0x12 1 n 0 0) s2

/-- The windows of a die that stand open when its launches have ended (R188, R194, R407): a gap closes, and an entry that still
waits for its edge is missed, with the cause that the end of its window would give (log entry 18). -/
def endWindows (s : State) (d : Nat) : State :=
  let close (u : State) (w : OpenWindow) : State := match (s.dieAt d).entryAt w.entry with
    | none => u
    | some r =>
      if r.gap then closeGap u (d * 12 + r.engine % 12)
      else if w.ctx.isNone && !w.done then missEntry u d w.entry 3 w.nominal else u
  ((s.dieAt d).opens.foldl close s).modDie d (fun x => { x with opens := [] })

/-- DRAIN_EXPIRY (R407): 200 µs after the entry began, every remaining context ends and its unfinished operations complete
ABORTED_BY_POWER, those of contexts that ended before included. -/
def execDrainExpiry (s : State) : Result State :=
  .next (given (s.power.state == 5 && !s.power.drained && decide (s.power.enteredAt + 50000 ≤ s.ticks)) s (
    let live := s.engine.flatMap (fun e => (e.2.ctxs.filter (fun q => q.2.live)).map (fun q => (e.1, q.1)))
    let s1 := live.foldl (fun u q => drainCtx u q.1 q.2) s
    let left := s1.die.flatMap (fun e => (e.2.slots.filter (fun k => k.2.state != 0 && k.2.state != 4)).map (fun k => (e.1, k.1)))
    let s2 := left.foldl (fun u q => abortOp u q.1 q.2 11 false) s1
    let s3 := (s2.die.map (·.1)).foldl endWindows s2
    let s4 := if s3.power.target = 2 then s3 else closePages s3
    { s4 with power := { s4.power with drained := true } }))

/-! ### What the states keep (R93, R133, R247, R265, R397) -/

/-- SLEEP_KEEP of a port. -/
def sleepKeep (s : State) (n : Nat) : Nat := cfg s (padIdx n) 6 0

/-- Whether a port is a wake source (R409): WAKE_PORTS names it and its comparators are kept. -/
def wakePort (s : State) (n : Nat) : Bool := blobBit (cfgBlob s 0xC000 9) n && bitOf (sleepKeep s n) 3

/-- The rota that SENTINEL_IMAGE holds (R202). -/
def sentinelRota (s : State) : Rota := rotaOf (cfgBlob s 0x6C00 0xC)

/-- Whether the sentinel rota uses a port: a die-0 port of the parish that owns its engines (R93, R202). -/
def sentinelPort (s : State) (n : Nat) : Bool :=
  match (sentinelRota s).entries.head? with
  | some r => decide (n < 12) && portOwner s n == engOwner s r.engine
  | none => false

/-- Whether a port may keep items that SLEEP_KEEP names: wake ports, and in SLEEP those of the sentinel rota (R93). -/
def mayKeep (s : State) (deep : Bool) (n : Nat) : Bool := wakePort s n || (!deep && sentinelPort s n)

/-- Whether an item of SLEEP_KEEP is kept in the power state: 0 pins, 1 pulls, 2 VP, 3 comparators (R93). -/
def keepsItem (s : State) (deep : Bool) (n item : Nat) : Bool := mayKeep s deep n && bitOf (sleepKeep s n) item

/-- The ports take their kept states: only sentinel ports, in SLEEP, and wake ports keep their domain on. VP stays closed and the
comparators stay in use, in the mode of the state, where SLEEP_KEEP names them (R93, R133). -/
def keepPorts (s : State) (deep : Bool) : State :=
  (List.range (usedDies s * 12)).foldl (fun u n =>
    let low := if deep then 15 else cfg s (portIdx n 9) 7 3 % 4 + cfg s (portIdx n 10) 7 3 % 4 * 4
    modVp u n (fun x => { x with
      powered := x.powered && mayKeep s deep n, vpSleep := !keepsItem s deep n 2
      cmpOff := !keepsItem s deep n 3, cmpMode := if keepsItem s deep n 3 then low else x.cmpMode
      emSink := false, emBusy := false, pg0 := { x.pg0 with run := false, out := false }
      pg1 := { x.pg1 with run := false, out := false } })) s

/-- Whether a ring lies wholly in banks that DEEP SLEEP keeps (R247, R397). -/
def ringKept (s : State) (k : Nat) : Bool :=
  let kept := getLe (cfgBlob s 0xC000 0xA) (4 * streamDie k) 4
  let at_ := ringBanks s k (ringSize s k)
  at_ &&& kept == at_

/-- A die loses its core logic: its rows and columns read low (R277, R397). -/
def logicOff (s : State) (d : Nat) : State :=
  { s.modDie d (fun x => { x with logicOn := false, opens := [] }) with
    row := s.row.map (fun e => if e.1 / 256 = d then (e.1, { e.2 with level := false }) else e)
    col := s.col.map (fun e => if e.1 / 256 = d then (e.1, { e.2 with level := false }) else e) }

/-- The SYS channels of a die hold while its SYS runs from the FRC (`tallyHeld`); the hold is counted (R265). -/
def holdTallies (s : State) (d : Nat) : State := s.modDie d (fun x => { x with tallyHolds := x.tallyHolds + 1 })

/-- The channels of a die hold no longer: the compare outputs follow COUNT again (R265). -/
def freeTallies (s : State) (d : Nat) : State :=
  ((s.tally.map (·.1)).filter (fun t => tallyDie t == d)).foldl compareOut s

/-- The network ports and the service port go down with their logic (R119, R397). -/
def quietPorts (s : State) : State :=
  { s with netPorts := s.netPorts.map (fun e => (e.1, { e.2 with link := false, onWire := none }))
           svc := { s.svc with awake := false, wokenAt := none } }

/-- The ring stops with the dies' logic: no frame waits for its acknowledgement, and link numbers start anew (R21, R396). -/
def quietRing (s : State) : State :=
  { s with die := s.die.map (fun e => (e.1, { e.2 with unacked := [], rxSeq := [], acks := [] })) }

/-- The SLEEP state: die 0 runs the sentinel rota at point S, the other dies are off (R202, R396). -/
def enterSleep (s : State) : State :=
  let t := sentinelRota s
  let s1 := ((List.range (usedDies s)).drop 1).foldl logicOff (keepPorts (quietPorts (quietRing s)) false)
  let s2 := holdTallies s1 0
  s2.modDie 0 (fun x =>
    if t.valid then { x with onFrc := true, paused := false, sentinelHeld := x.active, bankTurn := some t
                             next := if x.rotaState = 3 then x.next else t, frameStart := none, instants := [] }
    else { x with onFrc := true })

/-- The RUN rota returns to die 0 the way the sentinel rota came (R202, R406): into the next bank, to swap at its first aligned
frame instant. Without a RUN rota, or before the sentinel rota has swapped in, the active bank has it at once. -/
def leaveSentinel (s : State) : State :=
  s.modDie 0 (fun x =>
    if x.active.kind = 1 then
      if x.sentinelHeld.valid then { x with
        bankTurn := some x.sentinelHeld, next := if x.rotaState = 3 then x.next else x.sentinelHeld, sentinelHeld := {} }
      else { x with active := {}, next := if x.rotaState = 3 then x.next else x.active, bankTurn := none }
    else { x with sentinelHeld := {}, bankTurn := none })

/-- The DEEP SLEEP state: the logic of every die is off, and rings outside the kept banks are cleared (R247). -/
def enterDeep (s : State) : State :=
  let s1 := (List.range (usedDies s)).foldl logicOff (keepPorts (quietPorts s) true)
  let gone := (s1.stream.map (·.1)).filter (fun k => !ringKept s1 k)
  gone.foldl (fun u k => u.modStream k (fun x => x.clear k)) s1

/-- The OFF state: everything but non-volatile memory is lost (R396, R397). -/
def enterOff (s : State) : State :=
  let s1 := resetPart s 0
  { s1 with power := { s1.power with state := 4 }, svc := { s1.svc with awake := false, wokenAt := none } }

/-- A return starts (R410). -/
def startReturn (s : State) : State := { s with power := { s.power with state := 6 } }

/-- Whether an entry has done its work and only its final LPRC cycles are left (R406): the drain is over or nothing was left to drain. -/
def entryDrained (s : State) : Bool := s.power.drained || s.engine.all (fun e => e.2.ctxs.all (fun q => !q.2.live))

/-- Whether an entry has waited for its page commits: all done, or 2.1 ms past (R247). SLEEP has none. -/
def commitsWaited (s : State) : Bool :=
  s.power.target == 2 || pagesCommitted s || decide (s.power.enteredAt + 525000 ≤ s.ticks)

/-- Whether the last four LPRC cycles of an entry run (R406, R408). -/
def inFinal (s : State) : Bool := s.power.state == 5 && commitsWaited s && entryDrained s

/-- One cycle of LPRC, which is what the block does with no command waiting while it sleeps or in the last four cycles of an entry
(R64, R405, R408; DESIGN CHOICE, log entry 4): the always-on logic counts it. -/
def idle (s : State) : State :=
  if s.power.state = 2 ∨ s.power.state = 3 then { s with power := { s.power with lprc := s.power.lprc + 1 } }
  else if inFinal s then { s with power := { s.power with lprcEnd := min 4 (s.power.lprcEnd + 1) } }
  else s

/-- The level-type wake events that stand in the state at the end of an entry (R408, R409): a kept trip signal of a wake port that is
tripped, and the match of the AON tally. -/
def levelWakes (s : State) : Nat :=
  (if s.port.any (fun e => wakePort s e.1 && !e.2.cmpOff && (e.2.c0.out || e.2.c1.out || e.2.win.out)) then 4 else 0)
    + (if (s.tallyAt 3).matched then 8 else 0)

/-- The always-on logic starts to count as the hub reaches SLEEP or DEEP SLEEP; the time asleep begins where it leaves RUN or IDLE. For
DEEP SLEEP the network time is kept, and the LPRC period as the steward measured it, a free value within 1 % of 32.768 kHz (R64,
R405, log entry 7). -/
def sleepClocks (s : State) : State :=
  let q := s.power
  let woke := decide (q.prevState ≤ 1)
  let d := s.draw 42
  let s1 := { s with power := { q with
    reachedAt := if woke then s.ticks else q.reachedAt, lprc := if woke then 0 else q.lprc, lprcAt := if woke then 0 else q.lprc
    sleepFine := s.time.fine } }
  if q.target = 3 then { s1 with free := d.2.free, power := { s1.power with lprcPeriod := 30216 * 2 ^ 32 + d.1 % (609 * 2 ^ 32) } } else s1

/-- POWER_STATE_REACHED (R406, R408): the entry is over; a wake latched during it, or a level-type event that stands, starts the
return at once. -/
def execPowerStateReached (s : State) : Result State :=
  .next (given (inFinal s && 4 ≤ s.power.lprcEnd) s (
    if s.power.target = 4 then enterOff s
    else
      let s0 := sleepClocks ((s.die.map (·.1)).foldl endWindows s)
      let s1 := if s.power.target = 2 then enterSleep s0 else enterDeep s0
      let s2 := { s1 with power := { s1.power with state := s.power.target, wakeLatched := s1.power.wakeLatched ||| levelWakes s1 }
                          net := { s1.net with voteState := 0 } }
      if s2.power.wakeLatched ≠ 0 then startReturn s2
      else if s2.power.pendReq = 1 then requestState { s2 with power := { s2.power with pendReq := 0 } } s2.power.pendState s2.power.pendCause
      else s2))

/-! ### Wakes (R408, R409) -/

/-- A wake with a CAUSE bit (R409, R411): asleep it starts the return, during an entry it is latched, and in RUN it cancels an
agreement (R334). -/
def wake (s : State) (bit : Nat) : State :=
  let latch (u : State) : State := { u with power := { u.power with wakeLatched := setBit u.power.wakeLatched bit } }
  if s.power.state = 2 ∨ s.power.state = 3 then startReturn (latch s)
  else if s.power.state = 5 ∧ s.power.target ≠ 4 then latch s
  else if s.power.state ≤ 1 then cancelVote s
  else s

/-- A wake by an edge: in the last four LPRC cycles of an entry it is lost (R408). -/
def wakeEdge (s : State) (bit : Nat) : State := if inFinal s then s else wake s bit

/-- WAKE_PIN_LEVEL (R409). -/
def execWakePinLevel (s : State) : Result State := .next (given (cfg s 0xC000 7 1 == 1) s (wake s 1))
/-- WAKE_PIN_EDGE (R409). -/
def execWakePinEdge (s : State) : Result State := .next (given (cfg s 0xC000 7 1 == 2) s (wakeEdge s 1))

/-- COMPARATOR_WAKE (R409). -/
def execComparatorWake (n : Nat) (s : State) : Result State := withPort s n (given (wakePort s n) s (wake s 2))

/-- AON_TALLY_WAKE (R267, R409): the match flag of channel 0.3 is set. -/
def execAonTallyWake (s : State) : Result State := .next (given (s.tallyAt 3).matched s (wake s 3))

/-- TWIN_WAKE (R409). -/
def execTwinWake (s : State) : Result State := .next (given (cfg s 0xC000 8 0 == 1) s (wake s 4))

/-- SENTINEL_CRIER_WAKE (R246, R409): a crier request of a sentinel rule wakes its parish's host and the hub. -/
def execSentinelCrierWake (r : Nat) (s : State) : Result State :=
  withRule s r (given (s.power.state == 2 && decide (ruleDie r = 0)) s (
    match ruleOwner s r with
    | none => s
    | some p =>
      let s1 := crierReason s p 15 r
      wake { s1 with power := { s1.power with hostWake := true } } 6))

/-- WAKE_AFTER_EXPIRY (R405, R409): the hub has been asleep for WAKE_AFTER seconds. -/
def execWakeAfterExpiry (s : State) : Result State :=
  let t := cfg s 0xC000 6 0
  .next (given ((s.power.state == 2 || s.power.state == 3) && t != 0 && decide (lprcSeconds t ≤ s.power.lprc)) s (wake s 6))

/-- NETWORK_WAKE_ACTIVITY (R336). -/
def execNetworkWakeActivity (n : Nat) (s : State) : Result State :=
  withNet n (given (cfg s (0x0810 + 16 * n) 1 1 == 1 && cfg s (0x0810 + 16 * n) 0xA 2 == 1 && 2 ≤ s.power.state) s (wakeEdge s 0))

/-- NETWORK_WAKE_PATTERN (R336). -/
def execNetworkWakePattern (n : Nat) (s : State) : Result State :=
  withNet n (given (cfg s (0x0810 + 16 * n) 1 1 == 1 && cfg s (0x0810 + 16 * n) 0xA 2 == 2 && 2 ≤ s.power.state) s (wake s 0))

/-- SVC_ADDRESS_WAKE (R119): the service-port address is recognised asleep and not acknowledged. The first one starts the wake and
the 200 µs after which the hub acknowledges; a later one restarts nothing. -/
def execSvcAddressWake (s : State) : Result State :=
  .next (given (!s.svc.awake && s.svc.wokenAt.isNone && 2 ≤ s.power.state && s.power.state != 4 && !inFinal s) s
    { wake s 5 with svc := { s.svc with acked := false, wokenAt := some s.ticks } })

/-! ### Operating points (R398 to R403) -/

/-- The point that a value of OP_SET names for a die, 3 for no change. -/
def opField (v d : Nat) : Nat := v / 4 ^ d % 4

/-- The abort code of a write of OP_SET (R399, R402, R404). -/
def opSetCode (s : State) (v : Nat) : Nat :=
  let named := (List.range (usedDies s)).filter (fun d => opField v d != 3)
  if named.any (fun d => !(permitted s d).contains (opField v d)) then 0x0302
  else if parishState s 1 = 2 ∧ named.any (fun d => parishOnDie s 1 d) = true then 0x0403
  else if s.power.stepDown && named.any (fun d => decide (opField v d < (s.dieAt d).opPoint)) then 0x0403
  else 0

/-- Core voltage that the present SYS source of a die needs (R398, R400). -/
def sourceMv (x : Die) : Nat := pointMv (if x.onFrc then 3 else x.opPoint)

/-- The regulator of a die takes a core setpoint, unless it lies below what the present SYS source needs: that order is refused and
recorded (R400). -/
def orderCore (s : State) (d mv : Nat) : State :=
  if mv < sourceMv (s.dieAt d) then faultItem s d 0x12 5 d 0 0
  else s.modDie d (fun x => { x with coreSet := mv, voltAt := if mv = x.coreSet then x.voltAt else s.ticks })

/-- A switch of the named dies begins (R401): T_OP is 100 µs away, and a higher voltage must be confirmed first. -/
def startOp (s : State) (v cause : Nat) : State :=
  let moves := (List.range (usedDies s)).filter (fun d =>
    opField v d != 3 && opField v d != (s.dieAt d).opPoint && !(s.dieAt d).lost && (s.dieAt d).logicOn)
  let s1 := moves.foldl (fun u d =>
    let t := opField v d
    let up := decide (pointMv (u.dieAt d).opPoint < pointMv t)
    (if up then orderCore u d (pointMv t) else u).modDie d (fun x => { x with
      opTarget := some t, opCause := cause, relocks := 0, voltOk := !up })) s
  if moves.isEmpty then s else { s1 with power := { s1.power with opBusy := true, opAt := s.ticks + 25000 } }

/-- A value of OP_SET is taken up, at once or when the transition that runs is over (R411). -/
def requestOp (s : State) (v cause : Nat) : State :=
  if inTransition s then { s with power := { s.power with pendReq := 2, pendOp := v, pendCause := cause } }
  else if 2 ≤ s.power.state then s
  else startOp s v cause

/-- A write of OP_SET: cause bit 12. -/
def writeOpSet (s : State) (v : Nat) : State :=
  if opSetCode s v = 0 then withStatus (requestOp s v 4096) 0 else withStatus s (opSetCode s v)

/-- OP_SET (R401). -/
def execOpSet (value : Nat) (s : State) : Result State := .next (writeOpSet s value)

/-- VOLTAGE_CONFIRMED (R400, R401): the supply monitor has read the setpoint within 2 % for 5 µs. -/
def execVoltageConfirmed (d : Nat) (s : State) : Result State :=
  withDie s d (given ((s.dieAt d).coreMv != (s.dieAt d).coreSet && decide ((s.dieAt d).voltAt + 1250 ≤ s.ticks)) s
    (s.modDie d (fun x => { x with voltOk := true, coreMv := x.coreSet })))

/-- OP_SWITCH_PAUSE (R401): no frame begins; a PAUSE record is written and SYS moves to the FRC. -/
def execOpSwitchPause (d : Nat) (s : State) : Result State :=
  withDie s d (
    let x := s.dieAt d
    match x.opTarget with
    | none => s
    | some t => given (x.voltOk && !x.onFrc && decide (s.power.opAt ≤ s.ticks) && (!x.active.valid || atBoundary s d)) s (
        let s1 := failLoops (s.modDie d (fun y => { y with
          paused := true, pauseAt := s.ticks, relockAt := s.ticks, onFrc := true, frameStart := none, instants := [] }))
        powerRecord (holdTallies s1 d) d (powerW0 5 x.opPoint t 0) (2 ^ d) 0))

/-- Whether some die still switches. -/
def opsLeft (s : State) : Bool := (List.range (usedDies s)).any (fun d => (s.dieAt d).opTarget.isSome)

/-- A waiting request is evaluated again (R411). -/
def servePending (s : State) : State :=
  let q := s.power
  let s1 := { s with power := { q with pendReq := 0 } }
  if inTransition s then s
  else if q.pendReq = 1 then requestState s1 q.pendState q.pendCause
  else if q.pendReq = 2 then
    if q.pendCause = 4096 ∧ opSetCode s1 q.pendOp ≠ 0 then s1 else requestOp s1 q.pendOp q.pendCause
  else s

/-- The last switch is over (R404, R411): a derating's POWER cause ends, and a waiting request is evaluated. -/
def opDone (s : State) : State :=
  if s.power.opBusy && !opsLeft s then
    let s1 := { s with power := { s.power with opBusy := false } }
    let s2 := if s.power.state ≤ 1 then { s1 with reeve := { s1.reeve with powerCause := false } } else s1
    servePending s2
  else s

/-- SYS_PLL_CHECKED (R400, R401): the PLL has agreed with REF over 10 µs (2,500 ticks), within the 200 µs of R403. SYS switches to it,
unless the confirmed core voltage is too low, which is refused and recorded; the new point takes effect and frames resume at the next
aligned instant, with the POINT record; without a rota the record is written at once. -/
def execSysPllChecked (d : Nat) (s : State) : Result State :=
  withDie s d (
    let x := s.dieAt d
    match x.opTarget with
    | none => s
    | some t => given (x.onFrc && decide (x.relockAt + 2500 ≤ s.ticks) && decide (s.ticks ≤ x.relockAt + 50000)) s (
        if x.coreMv < pointMv t then faultItem s d 0x12 5 d 0 0
        else
          let w0 := powerW0 4 x.opPoint t x.opCause
          let s1 := freeTallies (s.modDie d (fun y => { y with
            opPoint := t, opTarget := none, onFrc := false, paused := false, relocks := 0, switches := y.switches + 1
            pointDue := some w0 })) d
          let skips := inTransition { s with power := { s.power with opBusy := false } } || s.power.pendReq == 1
          let s2 := if skips then s1 else orderCore s1 d (pointMv t)
          opDone (if x.active.valid then s2 else pointRecord s2 d)))

/-! ### Derating (R404) -/

/-- The lowest permitted point of each die, as a value of OP_SET. -/
def lowestPoints (s : State) : Nat :=
  (List.range (usedDies s)).foldl (fun a d => a + ((permitted s d).getLast?.getD 3) * 4 ^ d) 0

/-- Steps 3 and 4 of R404: parish 1 goes to RECOVERY with cause POWER, and every die to its lowest point; the derating takes
the place of a waiting OP_SET. With nothing to switch the cause ends at once. -/
def derate (s : State) (cause : Nat) : State :=
  let held := (List.range (usedDies s)).any (parishOnDie s 1)
  let s1 := { s with power := { s.power with stepDown := true, pendReq := if s.power.pendReq = 2 then 0 else s.power.pendReq } }
  let s2 := if held then soRefresh (parishRecover { s1 with reeve := { s1.reeve with powerCause := true } } 1 5) else s1
  let s3 := requestOp s2 (lowestPoints s2) cause
  if inTransition s3 then s3 else { s3 with reeve := { s3.reeve with powerCause := false } }

/-- A temperature of 125 °C or more is reported: the 10 s after which a derating clears begin anew (R404). -/
def hotNow (s : State) : State := { s with power := { s.power with hotAt := s.ticks } }

/-- CONVERTER_DERATE (R404): detail 3 a phase fault, 4 the converter at 140 °C, 6 a thermal warning of a die, with the ITEM of
its record and the converter's temperature. -/
def execConverterDerate (detail item : Nat) (temp : Int) (s : State) : Result State :=
  withUnit (decide (detail = 3 ∨ detail = 4 ∨ detail = 6)) "derating" (
    given (detail != 4 || decide (1400 ≤ temp)) s (
    let s0 := if detail = 4 ∨ detail = 6 then hotNow s else s
    let s1 := { s0 with power := { s0.power with
      phaseFault := s.power.phaseFault || detail == 3, convHot := s.power.convHot || detail == 4
      thermHot := s.power.thermHot || detail == 6, convTemp := if detail = 6 then s.power.convTemp else temp } }
    let s2 := faultItem s1 0 0x12 detail (if detail = 4 then 0 else item) 0 0
    let s3 := if detail = 6 then s2 else requestReason s2 6 0
    derate s3 (if detail = 3 then 8192 else 16384)))

/-- THERMAL_WARNING (R374, R404): a die reaches 135 °C; THERMAL 0x01 is recorded and the dies step down. -/
def execThermalWarning (d : Nat) (temp : Int) (s : State) : Result State :=
  withDie s d (given (1350 ≤ temp) s (
    let s1 := raiseFault ((hotNow s).modDie d (fun x => { x with temp := temp })) d 7 1 0 (ofInt 32 temp) 0 false
    let s2 := faultItem { s1 with power := { s1.power with thermHot := true } } d 0x12 6 d 0 0
    derate s2 16384))

/-- DERATE_CLEAR (R404): the temperature has stayed below 125 °C for 10 s; a phase fault holds until reset. -/
def execDerateClear (s : State) : Result State :=
  .next (given ((s.power.convHot || s.power.thermHot) && decide (s.power.hotAt + msTicks 10000 ≤ s.ticks)
      && (!s.power.thermHot || (List.range (usedDies s)).all (fun d => decide ((s.dieAt d).temp < 1250)))) s
    { s with power := { s.power with convHot := false, thermHot := false, stepDown := s.power.phaseFault } })

/-! ### The return (R64, R266, R325, R410) -/

/-- A tally channel after its die's logic was off (R266): IDLE with its committed configuration, and AUTOSTART. -/
def returnTally (s : State) (t : Nat) : State :=
  let x := s.tallyAt t
  if x.clk = 2 then s
  else
    let s1 := s.modTally t (fun y =>
      { cfg := y.cfg, capSrc := y.capSrc, capPresc := y.capPresc, phase := y.phase, stopped := y.stopped })
    let s2 := dropEdges s1 t
    if bitOf x.cfg 10 then tallyStart s2 t else s2

/-- A die whose logic was off comes back: mills restart, rules are unprimed, tally channels and engines stand as after an
apply (R150, R211, R221, R266, R397). -/
def returnDie (s : State) (d : Nat) : State :=
  if (s.dieAt d).logicOn || (s.dieAt d).lost then s
  else
    let s1 := s.modDie d (fun x => { x with logicOn := true, hbAt := s.ticks, unacked := [], offers := [], slots := [], slotWaiters := []
                                            govHeld := [], govWait := [], wdSince := s.ticks, wdServed := false })
    let mill (e : Nat × MillChan) : Nat × MillChan :=
      if millDie e.1 = d then (e.1, { e.2.restart with lastIn := none, waiting := [] }) else e
    let eng (e : Nat × Engine) : Nat × Engine :=
      if engDie e.1 = d then
        (e.1, { e.2 with scratch := Memory.writeBytes [] 0 (wordsBytes e.2.init), shared := [], ctxs := [], running := none
                         ready := [], lines := 0, pulses := 0 })
      else e
    let port (e : Nat × Port) : Nat × Port := if portDie e.1 = d then (e.1, { e.2 with queue := [], recSlot := none }) else e
    let s2 := { s1 with mill := s1.mill.map mill, engine := s1.engine.map eng, port := s1.port.map port }
    let s3 := ((s2.rule.map (·.1)).filter (fun g => ruleDie g == d && (s2.ruleAt g).img.present)).foldl
      (fun u g => applyRule u g (u.ruleAt g).img) s2
    ((s3.tally.map (·.1)).filter (fun t => tallyDie t == d)).foldl returnTally s3

/-- Time in DEEP SLEEP by the LPRC cycles counted there and their measured period, in 2^-32 ns (R64). -/
def deepFine (s : State) : Nat := (s.power.lprc - s.power.lprcAt) * s.power.lprcPeriod

/-- The time restored after DEEP SLEEP (R64): the entry time plus the counted cycles times the measured period, as a step, with a
RESUME anchor; elapsed time counts the same. The servo enters HOLDOVER or stays in UNSET; in HOST mode TIME_STATUS stays HOST (DESIGN
CHOICE, log entry 16). -/
def restoreTime (s : State) : State :=
  let off : Int := ((s.power.sleepFine + deepFine s : Nat) : Int) - (s.time.fine : Nat)
  let s1 := applyStep { s with time := { s.time with elapsed := s.time.elapsed + deepFine s / 2 ^ 34 } } off
  let s2 := anchorAll s1 6
  if s2.servo.status = 5 then s2
  else { s2 with servo := { s2.servo with status := if s2.servo.everLocked then 4 else 0, valid := 0, count := 0, meas := [] } }

/-- The ports' domains are powered again, with their comparators in the RUN modes (R93, R133). -/
def restorePorts (s : State) : State :=
  (List.range (usedDies s * 12)).foldl (fun u n => modVp u n (fun x => { x with
    powered := !(s.dieAt (portDie n)).lost, vpSleep := false, cmpOff := !x.vpInitTaken
    cmpMode := cfg s (portIdx n 9) 6 0 % 4 + cfg s (portIdx n 10) 6 0 % 4 * 4 })) s

/-- RETURN_COMPLETE (R410): the hub is in RUN again, from a state `origin`. The time asleep is the elapsed time since it reached the first state below IDLE. -/
def execReturnComplete (origin : Nat) (s : State) : Result State :=
  .next (given (s.power.state == 6 && s.power.target == origin) s (
    let from_ := s.power.target
    let cause := s.power.wakeLatched
    let s0 := (restorePorts s).modDie 0 (fun x => { x with onFrc := false })
    let s1 := (List.range (usedDies s)).foldl returnDie (freeTallies (leaveSentinel s0) 0)
    let s2 := if from_ = 3 then restoreTime s1 else s1
    let ns := 4 * (s2.ticks - s.power.reachedAt)
    let ports := (List.range 3).filter (fun n => cfg s2 (0x0810 + 16 * n) 1 1 == 1)
    let s3 := { s2 with
      die := s2.die.map (fun e => (e.1, { e.2 with
        paused := false, frameStart := if from_ = 2 ∧ e.1 = 0 then e.2.frameStart else none
        instants := if from_ = 2 ∧ e.1 = 0 then e.2.instants else [] }))
      svc := { s2.svc with awake := true, wokenAt := none }
      reeve := { s2.reeve with powerCause := false }, timers := {}
      tally := s2.tally.map (fun e => (e.1, { e.2 with matched := false }))
      power := { s2.power with
        state := 0, wakeLatched := 0, lastWake := cause, asleepMs := min (ns / 1000000) (2 ^ 32 - 1)
        noticeCause := cause, noticeFrom := from_ - 1, noticeOwed := ports.foldl (fun a n => a + 2 ^ n) 0 } }
    servePending (powerRecord (soRefresh s3) 0 (powerW0 2 from_ 0 cause) (usedMask s) (ns / 1000))))

end Sys2Proof.Machine
end

