-- ==== Sys2Proof/Machine/Background.lean ====
section
/-! DEFINITION. Background work (chapter 16): the scrub and what an uncorrectable error does, reload copies and the rota
failover, calibration runs, and telemetry. -/

namespace Sys2Proof.Machine

/-! ### The scrub (R418 to R420, R425) -/

/-- TIME ticks of one interval of the scrub port: 80 ns at points A, B and C, and on the FRC 6 cycles of its fastest, 65.28 MHz
(R398, R418). -/
def scrubTicks (s : State) (d : Nat) : Nat := if (s.dieAt d).onFrc then 22 else 20

/-- Whether the interval since the last word read is over. -/
def scrubDue (s : State) (d : Nat) : Bool := (s.dieAt d).scrub.wordAt.all (fun t => decide (t + scrubTicks s d ≤ s.ticks))

/-- 24 h in ticks of 4 ns. -/
def dayTicks : Nat := msTicks 86400000

/-- The scrub port moves to its next word; behind the last one a pass ends (R418). -/
def scrubNext (s : State) (d : Nat) : State :=
  s.modDie d (fun x => { x with scrub :=
    if x.scrub.scrubAt + 1 < 65536 then { x.scrub with wordAt := some s.ticks, scrubAt := x.scrub.scrubAt + 1 }
    else { x.scrub with wordAt := some s.ticks, scrubAt := 0, passes := x.scrub.passes + 1, correctedPrev := x.scrub.corrected, corrected := [] } })

/-- A single-bit error of the word at the scrub port is corrected and counted (R419); more than CE_LIMIT within 24 h write MEMORY
0x01 and set the reason, and a word corrected in two successive passes counts in HARD_BITS (R420). -/
def corrected (s : State) (d : Nat) : State :=
  let q := (s.dieAt d).scrub
  let day := s.ticks :: q.ceDay.filter (fun t => s.ticks < t + dayTicks)
  let s1 := s.modDie d (fun x => { x with scrub := { q with
    ceCount := q.ceCount + 1, ceDay := day, corrected := addOnce q.corrected q.scrubAt
    hardBits := if q.correctedPrev.contains q.scrubAt then satInc 65535 q.hardBits else q.hardBits } })
  if cfg s 0xE000 2 64 < day.length then requestReason (faultItem s1 d 0x08 1 d 0 0) 5 d else s1

/-! ### Uncorrectable errors (R289, R421, R424) -/

/-- A damaged structure waits for its reload (R422). -/
def reloadWaits (s : State) (d idx : Nat) : State :=
  s.modDie d (fun x => { x with reloadDue := tput x.reloadDue idx s.ticks })

/-- A MEMORY fault (R369, R424). -/
def memoryFault (s : State) (d detail item : Nat) (parish1 : Bool) : State := raiseFault s d 0x08 detail item 0 0 parish1

/-- An error in the program of an engine (R176, R380, R421): the engine halts and waits for its reload; after one, it stays halted,
and an engine of parish 1 is retired. -/
def programDamaged (s : State) (d e pc : Nat) : State :=
  let x := s.engAt e
  let safety := engOwner s e == some 1
  let s1 := engineFault s e (x.running.getD 0) 8 pc 0
  let s2 := if !x.reloaded then reloadWaits (haltEngine s1 e false) d (0x6000 + 16 * e)
    else if safety then retireEngine s1 e else haltEngine s1 e false
  if safety then dangerReaction s2 (1, 8, d, e) else s2

/-- An error in the next rota bank (R198, R421): while ARMED no die of the commit swaps and the commit is REFUSED with cause 21;
otherwise the bank is cleared. -/
def nextRotaDamaged (s : State) (d : Nat) : State :=
  if (s.dieAt d).rotaState = 3 then
    let f (e : Nat × Die) : Nat × Die := if e.2.rotaState = 3 then
      (e.1, { e.2 with rotaState := 4, refuseCause := 21, refuseEntry := 0xFFFF, next := {} }) else e
    { s with die := s.die.map f
             commit := { s.commit with state := 5, result := 0x0304, failAt := okey (0x6C00 + 128 * d) 1, todo := [] } }
  else s.modDie d (fun x => { x with next := {}, rotaState := 0, failover := false })

/-- An error in the ownership entry of a resource (R289): no parish owns it, and the parish that held it goes to RECOVERY. -/
def ownershipDamaged (s : State) (sub n : Nat) : State :=
  let p := if sub = 4 then streamHolder s n else bitHolder s sub n
  let q := s.reeve
  parishRecover { s with reeve := { q with
    ownDamaged := if q.ownDamaged.contains (sub, n) then q.ownDamaged else q.ownDamaged ++ [(sub, n)] } } p 3

/-- An error in a sieve rule: the rule is unprimed and OUT takes FAIL_VALUE, which the rules that take it see (R217, R221,
R421). -/
def ruleDamaged (s : State) (g : Nat) : State :=
  let m := (s.ruleAt g).img
  if m.present = false then s
  else afterRule s (if m.type = 5 ∨ m.type = 7 then ruleOut s g m.failValue s.nowStamp 0 false true
    else unprimeRule s g s.nowStamp true) g s.nowStamp

/-- An error in the next bank of a mill channel (R215, code 13). Before its die has applied, the commit is REFUSED and no image of
it applies, as R198 gives for a rota; after that the channel keeps its image. An empty bank holds nothing to lose. -/
def nextMillDamaged (s : State) (d c : Nat) : State :=
  let key := okey (0x8000 + c) 1
  let mark (u : State) : State := u.modDie d (fun x => { x with millRefuse := 13 + c * 65536 })
  if s.commit.state = 2 ∧ s.commit.keys.contains key = true ∧ s.commit.todo.contains d = true then
    let u := mark (setRotas 4 s.commit.keys s)
    { u with commit := { u.commit with state := 5, result := 0x0304, failAt := key, todo := [] } }
  else if (s.millAt c).next.isSome then mark (s.modMill c (fun x => { x with next := none }))
  else s

/-- An error in a row or column (R421): a row reads low; a column of kind 6 requests its output off, one of kind 7 is taken as
high, any other reads low. -/
def lineDamaged (s : State) (d j : Nat) : State :=
  if j < 128 then setRow (s.modRow (rk d j) (fun x => { x with failed := true })) d j false
  else
    let c := j - 128
    let s1 := refreshCol (s.modCol (rk d c) (fun x => { x with failed := true })) d c none
    let dest := (s1.colAt (rk d c)).dest
    if dest / 4096 = 6 then
      soRefresh (s1.modDie d (fun x => { x with matrixReq := setBit x.matrixReq (dest % 2) }))
    else soRefresh s1

/-- What an uncorrectable error does, by the memory that holds it: 1 the program of engine `item` at word `sub`, 5 the ownership
entry of resource `item` of subindex `sub`, otherwise the detail code of R424 with its ITEM, where `sub` 1 is the next bank of a
mill channel; any other code is memory without a structure (R421). -/
def uncorrectable (s : State) (d kind item sub : Nat) : State :=
  match kind with
  | 1 => programDamaged s d item sub
  | 2 => memoryFault (reloadWaits (haltEngine s item false) d (0x6000 + 16 * item)) d 2 item (engOwner s item == some 1)
  | 3 => memoryFault (s.modDie d (fun x => { x with rotaDamaged := addOnce x.rotaDamaged item })) d 3 item
      (rotaOwner s d == some 1)
  | 4 => memoryFault (nextRotaDamaged s d) d 4 d (rotaOwner s d == some 1)
  | 5 => memoryFault (ownershipDamaged s sub item) d 5 sub true
  | 6 | 7 => memoryFault (if sub = 1 then nextMillDamaged s d item
      else reloadWaits (s.modMill item (fun x => { x with halted := true, staleNext := true })) d (0x8000 + item))
      d kind item (millOwner s item == some 1)
  | 8 => memoryFault (soRefresh (reloadWaits (ruleDamaged s item) d (0x8400 + item))) d 8 item (ruleOwner s item == some 1)
  | 9 => memoryFault (reloadWaits (lineDamaged s d (item % 256)) d (0xA800 + d * 256 + item % 256)) d 9 item
      ((if item % 256 < 128 then rowOwner s d (item % 256) else colOwner s d (item % 256 - 128)) == some 1)
  | 10 =>
    let s1 := (List.range 4).foldl (fun u k =>
      reloadWaits (u.modTally (4 * item + k) (fun x => { x with stopped := true })) d (0xA000 + 4 * item + k)) s
    memoryFault s1 d 10 item (tallyOwner s item == some 1)
  | 11 => memoryFault (s.modDie 0 (fun x => { x with shadowBad := addOnce x.shadowBad item })) d 11 item
      (((layOf s.dies item).bind (layOwner s)) == some 1)
  | 12 => memoryFault { s with fw := { s.fw with badSlots := setBit s.fw.badSlots s.fw.slot } } d 12 s.fw.slot true
  | _ => s

/-- Whether the structure that an error names lies on the die (R6). -/
def onDie (s : State) (d kind item sub : Nat) : Bool :=
  match kind with
  | 1 | 2 => engDie item == d
  | 6 | 7 => millDie item == d
  | 8 => ruleDie item == d
  | 9 => item / 256 == d && (item % 256 < 80 || (128 ≤ item % 256 && item % 256 < 192))
  | 10 => item / 8 == d
  | 5 => decide (1 ≤ sub ∧ sub ≤ 0xD)
  | 11 => (layOf s.dies item).isSome
  | _ => true

/-- SCRUB_WORD (R418 to R421, R425): the scrub port of a die reads its next word, which holds no error (`err` 0), a single-bit
error (1), an uncorrectable one (2), or an uncorrectable one that a foreground write replaces in the same cycle (3, R419). -/
def execScrubWord (d err kind item sub : Nat) (s : State) : Result State :=
  if usedDies s ≤ d then .fault (.noSuchResource "die")
  else if 4 ≤ err then .fault (.noSuchOperand "error")
  else withUnit (err != 2 || onDie s d kind item sub) "control-memory structure" (
    given ((s.dieAt d).logicOn && !(s.dieAt d).lost && scrubDue s d) s (
      let ue (u : State) : State := u.modDie d (fun x => { x with scrub := { x.scrub with ueCount := x.scrub.ueCount + 1 } })
      scrubNext (if err = 0 then s else if err = 1 then corrected s d else if err = 3 then ue s
        else uncorrectable (ue s) d kind item sub) d))

/-! ### Reload copies (R422, R434, R436) -/

/-- The settings of a structure's object. -/
def structureKeys (s : State) (idx : Nat) : List Nat :=
  match layOf s.dies idx with
  | some l => ((layRows l).filter (fun r => r.acc == .rwp)).map (fun r => okey idx r.sub)
  | none => []

/-- The parish of a structure's object. -/
def structureOwner (s : State) (idx : Nat) : Option Nat := (layOf s.dies idx).bind (layOwner s)

/-- Firmware NV of a die is written, and its highest sector count becomes `erases`; at 20,000 the die records LOG 0x03 (R434). -/
def fwErased (s : State) (d erases : Nat) : State :=
  let before := (s.dieAt d).fwErases
  let s1 := s.modDie d (fun y => { y with fwErases := max y.fwErases erases })
  if before < 20000 ∧ 20000 ≤ erases then faultItem s1 d 0x11 3 0xFF 0 0 else s1

/-- RELOAD_COPY_WRITE (R422, R434, R436): a die finishes the reload copy of an applied structure; `erases` is the highest count of
its firmware NV sectors. Copies pause during PERSISTING, and from 20,000 erases on only those of parish 1 are written. -/
def execReloadCopyWrite (d idx erases : Nat) (s : State) : Result State :=
  withDie s d (
    let x := s.dieAt d
    given (x.reloadTodo.contains idx && s.commit.state != 3 && x.logicOn
        && (decide (x.fwErases < 20000) || structureOwner s idx == some 1)) s (
      let copy := (structureKeys s idx).foldl (fun t k => tput t k (valueOf s k)) x.reload
      let crc := crc32 ((structureKeys s idx).flatMap (tget [] copy))
      fwErased (s.modDie d (fun y => { y with
        reload := copy, reloadCrc := tput y.reloadCrc idx crc, reloadTodo := without y.reloadTodo idx })) d erases))

/-- Whether the reload copy of a structure is complete (R422). -/
def copyComplete (s : State) (d idx : Nat) : Bool :=
  !(s.dieAt d).reloadTodo.contains idx && (structureKeys s idx).any (thas (s.dieAt d).reload)

/-- The reload copy of a structure as it is read, its objects one after the other. -/
def copyRead (s : State) (d idx : Nat) (bad : List (Nat × Nat)) : List Byte :=
  nvRead ((structureKeys s idx).flatMap (tget [] (s.dieAt d).reload)) bad

/-- Whether the reload copy of a structure is complete and passes its check as it is read (R12, R422). -/
def copyGood (s : State) (d idx : Nat) (bad : List (Nat × Nat)) : Bool :=
  copyComplete s d idx && crc32 (copyRead s d idx bad) == tget 0 (s.dieAt d).reloadCrc idx

/-- ITEM of a structure's MEMORY records (R424). -/
def structureItem (s : State) (idx : Nat) : Nat :=
  match layOf s.dies idx with
  | some (.eng e) => e
  | some (.mill c) => c
  | some (.rule g) => g
  | some (.row d r) => d * 256 + r
  | some (.col d c) => d * 256 + 128 + c
  | some (.tally t) => t / 4
  | _ => 0

/-- A damaged structure is applied again from its reload copy (R422). The copy does not have to be written again; an engine that
PROGECC had halted notes its reload (R421). -/
def reapply (s : State) (d idx : Nat) : State :=
  let s1 := applyDieKeys s s d (structureKeys s idx)
  let s2 := s1.modDie d (fun x => { x with reloadTodo := (s.dieAt d).reloadTodo })
  match layOf s.dies idx with
  | some (.eng e) => s2.modEng e (fun x => { x with
      reloaded := (s.engAt e).reloaded || decide ((s.engAt e).lastFault % 256 = 8) })
  | _ => s2

/-- RELOAD_APPLY (R421, R422): at the first frame boundary at least 2 ms after detection the die applies a damaged structure
again; `bad` lists the bytes of its reload copy that are read wrong. Without a copy that passes its check MEMORY 0x0D is written and the structure stays
failed. A damaged dictionary shadow is reloaded from the persisted set. -/
def execReloadApply (d idx : Nat) (bad : List (Nat × Nat)) (s : State) : Result State :=
  withDie s d (
    let x := s.dieAt d
    if d = 0 ∧ x.shadowBad.contains idx = true then
      let s1 := s.modDie 0 (fun y => { y with shadowBad := without y.shadowBad idx })
      { s1 with conf := (s.persisted.filter (fun e => e.1 / 256 == idx)).foldl (fun t e => tput t e.1 e.2)
                          (s.conf.filter (fun e => e.1 / 256 != idx)) }
    else match (x.reloadDue.find? (fun e => e.1 == idx)).map (·.2) with
      | none => s
      | some t => given (decide (t + msTicks 2 ≤ s.ticks) && (!x.active.valid || atBoundary s d) && !x.reloadFailed.contains idx) s (
          if copyGood s d idx bad then reapply s d idx
          else faultItem (s.modDie d (fun y => { y with reloadFailed := y.reloadFailed ++ [idx] })) d 0x08 0x0D
            (structureItem s idx) 0 0))

/-- The image of the active rota as its reload copy is read: that of SENTINEL_IMAGE while the sentinel rota runs (R422, R423). -/
def rotaCopy (s : State) (d : Nat) (bad : List (Nat × Nat)) : List Byte :=
  let idx := 0x6C00 + 128 * d
  let key := okey idx (if (s.dieAt d).active.kind = 1 then 0xC else 1)
  let before := ((structureKeys s idx).takeWhile (· != key)).flatMap (tget [] (s.dieAt d).reload)
  ((copyRead s d idx bad).drop before.length).take (tget [] (s.dieAt d).reload key).length

/-- ROTA_FAILOVER (R423): the reload copy of the active rota, `bad` as in RELOAD_APPLY, goes into the next bank and is checked; the banks swap at the next
frame boundary. While a commit's rota is CHECKING or ARMED none runs; when it fails the die launches no further entries. -/
def execRotaFailover (d : Nat) (bad : List (Nat × Nat)) (s : State) : Result State :=
  withDie s d (
    let x := s.dieAt d
    let copy := rotaCopy s d bad
    given (!x.rotaDamaged.isEmpty && x.rotaState != 2 && x.rotaState != 3 && !x.failover && !x.rotaNone) s (
      if copyGood s d (0x6C00 + 128 * d) bad && (rotaRefuse s d ((rotaOwner s d).getD 0) copy (x.active.kind == 1)).isNone then
        s.modDie d (fun y => { y with next := rotaOf copy, failover := true })
      else faultItem (s.modDie d (fun y => { y with rotaNone := true })) d 0x08 0x0D (x.rotaDamaged.headD 0) 0 0))

/-! ### Calibration runs (R426, R430, R431) -/

/-- DELTA_T_CAL in units of 0.1 °C. -/
def deltaCal (s : State) : Nat := 10 * cfg s 0xE000 1 8

/-- Items of a run of a port (R427): item 6 with EM enabled and a gap with EMITTER. -/
def runItems (s : State) (n : Nat) : Nat :=
  let gap := (s.dieAt (portDie n)).active.entries.any (fun r => r.gap && r.emitter && r.engine == n % 12)
  190 + (if cfg s (portIdx n 2) 1 0 = 1 ∧ gap = true then 64 else 0)

/-- Calibration of a port becomes due: a run begins at the present temperature, unless one is under way (R426, R431). -/
def calBegin (s : State) (n : Nat) : State :=
  if (s.portAt n).calRun ≠ 0 then s
  else
    let items := runItems s n
    let s1 := s.modPort n (fun x => { x with
      calRun := items, calDue := items, calDone := 0, calFailed := 0, calRanges := 0, calWindows := 0, calForced := false
      calSpareTaken := false, calSpareLast := false, calRecorded := false, calRunTemp := (s.dieAt (portDie n)).temp
      c0 := x.c0.takeSpare s.ticks, c1 := x.c1.takeSpare s.ticks })
    if (s1.portAt n).gapOpen then startItem s1 n else s1

/-- A write of 1 to CAL_REQ (R426). -/
def writeCalReq (s : State) (n v : Nat) : State := if v = 1 then withStatus (calBegin s n) 0 else withStatus s 0

/-- CAL_REQ (R426). -/
def execCalReq (n : Nat) (s : State) : Result State :=
  .next (given (portCode s n == 0) (withStatus s (portCode s n)) (writeCalReq s n 1))

/-- TEMPERATURE_CHECK (R426): the die temperature is measured, in 0.1 °C, every 10 ms; ports and die-level items whose CAL_TEMP is more than
DELTA_T_CAL away become due. -/
def execTemperatureCheck (d : Nat) (temp : Int) (s : State) : Result State :=
  withDie s d (given ((s.dieAt d).logicOn && !(s.dieAt d).lost
      && (s.dieAt d).cal.lastAt.all (fun t => decide (t + msTicks 10 ≤ s.ticks))) s (
    let lim := deltaCal s
    let s1 := (if 1250 ≤ temp then hotNow s else s).modDie d (fun x => { x with
      temp := temp
      cal := if lim < (temp - x.cal.temp).natAbs ∧ x.cal.due = 0 then
          { x.cal with due := 1792, done := 0, failed := 0, spare := false, runTemp := temp, lastAt := some s.ticks }
        else { x.cal with lastAt := some s.ticks } })
    ((List.range 12).map (fun k => d * 12 + k)).foldl (fun u n =>
      if lim < (temp - (u.portAt n).calTemp).natAbs then calBegin u n else u) s1))

/-- A CALIBRATION record (R433). -/
def calFault (s : State) (d detail item code : Nat) : State := faultItem s d 0x13 detail item code 0

/-- The record of a run on stream 0x1F5 (R432). -/
def calRecord (s : State) (d par port done failed windows : Nat) (temp : Int) (forced taken last : Bool) : State :=
  ringEnter s (d * 512 + 0x1F5)
    { stamp := s.nowStamp, pcode := 0x80 + par % 16
      words := [BitVec.ofNat 32 (port % 128 + d % 8 * 256 + done % 65536 * 65536),
                BitVec.ofNat 32 (ofInt 16 temp + failed % 65536 * 65536),
                BitVec.ofNat 32 (windows % 256 + 256 * b2n forced + 512 * b2n taken + 1024 * b2n last)] }

/-- A run of a port writes its record. -/
def portRunRecord (s : State) (n : Nat) : State :=
  let x := s.portAt n
  let d := portDie n
  let s1 := calRecord s d ((portOwner s n).getD 0) (n % 12) x.calDone x.calFailed x.calWindows x.calRunTemp x.calForced
    x.calSpareTaken x.calSpareLast
  (s1.modDie d (fun y => { y with tele := { y.tele with runs := satInc 255 y.tele.runs } })).modPort n (fun y => { y with
    calRecorded := true })

/-- The end of a run (R426, R430, R432): complete once every item has ended; a forced one, in which item 6 takes no part, writes its
record once the others have. -/
def settleRun (s : State) (n : Nat) : State :=
  let x := s.portAt n
  if x.calRun = 0 then s
  else if x.calDue = 0 then
    (if x.calRecorded then s else portRunRecord s n).modPort n (fun y => { y with
      calRun := 0, calForced := false, calTemp := y.calRunTemp, calStamp := s.nowStamp })
  else if x.calForced = true ∧ x.calDue = 64 then
    (portRunRecord s n).modPort n (fun y => { y with calForced := false })
  else s

/-- FORCED_CAL_WINDOW (R430): at 2 × DELTA_T_CAL with the run incomplete, and no analogue operation active, the port goes offline
for up to 200 µs, at least 10 ms after the last such window. -/
def execForcedCalWindow (n : Nat) (s : State) : Result State :=
  withPort s n (
    let x := s.portAt n
    let d := portDie n
    let hot := 2 * deltaCal s ≤ ((s.dieAt d).temp - x.calTemp).natAbs
    let apart := (x.calForcedAt.map (fun t => decide (t + msTicks 10 ≤ s.ticks))).getD true
    given (hot && apart && x.calRun != 0 && x.calDue &&& 174 != 0 && !x.calOffline && (activeOp s n 3).isNone
        && domainOn s n && !x.inQuarantine) s (
      let s1 := if x.calForced then s else calFault s d 4 n 0
      let s2 := s1.modPort n (fun y => { y with
        calForced := true, calForcedAt := some s.ticks, calUntil := s.ticks + 50000, calUsed := 0, gapEmitter := false })
      let s3 := x.queue.foldl (fun u k => u.modSlot d k (fun z => { z with
        waitedCal := z.waitedCal || (z.kind == 3 && (z.state == 1 || z.state == 2)) })) s2
      startItem s3 n))

/-! ### Calibration results (R427, R429) -/

/-- The limits of an item's result and of its change, in the unit of the result: raw LSB / 256 for item 1, 2^-24 of the ratio for
item 3, µV for item 4, ppm for items 2, 5, 6 and 7, ppb/°C for item 9 (R427, log entry 12). -/
def calLimits (item : Nat) : Option Nat × Option Nat :=
  match item with
  | 1 => (some 16384, some 4096)
  | 2 => (some 20000, some 2000)
  | 3 => (some 167772, some 16777)
  | 4 => (some 15000, none)
  | 5 => (some 20000, none)
  | 6 => (some 150000, none)
  | 7 => (some 100000, none)
  | 9 => (none, some 2000)
  | _ => (none, none)

/-- Whether a result lies within its limits, given the last accepted one. -/
def plausible (item : Nat) (last : Option Int) (v : Int) : Bool :=
  let l := calLimits item
  l.1.all (fun m => decide (v.natAbs ≤ m)) && l.2.all (fun m => last.all (fun w => decide ((v - w).natAbs ≤ m)))

/-- The accepted result of a key. -/
def lastTrim (t : Tbl Int) (k : Nat) : Option Int := (t.find? (fun e => e.1 == k)).map (·.2)

/-- The key of a result among a port's trims: the item, a range from 0x30, a comparator from 0x40. -/
def trimKey (item range j : Nat) : Nat := if item = 3 then 0x30 + range else if item = 4 then 0x40 + j else item

/-- How many of the four low bits are set. -/
def bitCount (m : Nat) : Nat := ((List.range 4).filter (bitOf m)).length

/-- The pairs of a comparator that have failed, those of a result included. -/
def Comp.failing (c : Comp) (bad : Nat) : Nat := c.badPairs ||| bad % 16

/-- Item 4 ends for a comparator (R135, R429): failed pairs are given up, and the spare pair, trimmed to a result within its limit, takes
over. -/
def Comp.endPairs (c : Comp) (bad : Nat) (v : Option Int) : Comp :=
  let m := c.failing bad
  match c.spare, v with
  | some p, some v =>
    { c with badPairs := m, spare := none, agree := none, pair := if !bitOf m p && plausible 4 none v then p else c.pair }
  | _, _ => { c with badPairs := m, spare := none, agree := none }

/-- Whether both input pairs of a comparator have agreed for 1 µs, 250 ticks (R135). -/
def Comp.agreed (c : Comp) (t : Nat) : Bool := c.agree.all (fun a => decide (a + 250 ≤ t))

/-- Redundant elements of a port fail their checks: spare capacitor bits come into use for item 2; for item 4 the sets of
the pairs of C0 and C1 that have failed leave so many good ones (R429). -/
def sparesAfter (spares item : Nat) (bad : List Nat) : Nat :=
  let c0 := field spares 2 0
  let c1 := field spares 5 3
  let used := field spares 7 6
  if item = 2 then c0 + 8 * c1 + 64 * min 2 (used + bad.headD 0)
  else if item = 4 then (4 - bitCount (bad.headD 0)) + 8 * (4 - bitCount (nth 0 bad 1)) + 64 * used
  else spares

/-- Spares that an item brings into use: CALIBRATION 0x02, and for the last of a set 0x03 with the reason (R429). -/
def takeSpares (s : State) (d item code : Nat) (last : Bool) : State :=
  let s1 := calFault s d 2 item code
  if last then requestReason (calFault s1 d 3 item code) 3 d else s1

/-- The results of an item of a port are judged: implausible ones are discarded and counted (R429). -/
def judgeItem (s : State) (n item : Nat) (values : List Int) : State :=
  let r := (s.portAt n).calRange
  (List.range values.length).foldl (fun u j =>
    let k := trimKey item r j
    let v := nth 0 values j
    if plausible item (lastTrim (u.portAt n).trim k) v then u.modPort n (fun x => { x with trim := tput x.trim k v })
    else (calFault u (portDie n) 1 n item).modPort n (fun x => { x with
      calFails := satInc 65535 x.calFails, calFailed := setBit x.calFailed item })) s

/-- An item of a port has ended: item 3 once every range has (R427, R428). -/
def endItem (s : State) (n item : Nat) : State :=
  s.modPort n (fun x =>
    let ranges := if item = 3 then setBit x.calRanges x.calRange else x.calRanges
    let whole := item != 3 || (List.range (calRangeCount s n)).all (bitOf ranges)
    { x with
      calRanges := ranges
      calDue := if whole then clrBit x.calDue item else x.calDue
      calDone := if whole then setBit x.calDone item else x.calDone })

/-- The end of an item of a port: results, spares, then the next item of the window (R427 to R429). -/
def portItemDone (s : State) (n item : Nat) (values : List Int) (bad : List Nat) : State :=
  let x := s.portAt n
  let s1 := judgeItem s n item values
  let masks := if item = 4 then [x.c0.failing (bad.headD 0), x.c1.failing (nth 0 bad 1)] else bad
  let sp := sparesAfter x.spares item masks
  let took := sp != x.spares
  let last := took && lastSpare sp item
  let s2 := s1.modPort n (fun y => { y with
    spares := sp, calSpareTaken := y.calSpareTaken || took, calSpareLast := y.calSpareLast || last
    c0 := if item = 4 then y.c0.endPairs (bad.headD 0) values[0]? else y.c0
    c1 := if item = 4 then y.c1.endPairs (nth 0 bad 1) values[1]? else y.c1 })
  let s3 := endItem (if took then takeSpares s2 (portDie n) n item last else s2) n item
  if item = 4 then settleRun s3 n
  else
    let s4 := if item = 6 then emitterStop (s3.modPort n (fun y => { y with emBusy := false })) n else s3
    let used := max (calMicros item) ((s.ticks - x.calFrom + 249) / 250)
    settleRun (startItem (s4.modPort n (fun y => { y with calUsed := y.calUsed + used })) n) n

/-- The median of three. -/
def median3 (a b c : Int) : Int := max (min a b) (min (max a b) c)

/-- The bandgap cells, bit per cell, more than 0.5 % from the median (R427). -/
def farCells (values : List Int) : Nat :=
  let m := median3 (nth 0 values 0) (nth 0 values 1) (nth 0 values 2)
  (List.range 3).foldl (fun a j => if m.natAbs < 200 * (nth 0 values j - m).natAbs then a + 2 ^ j else a) 0

/-- A run of the die-level items is complete (R426, R432). -/
def settleDieRun (s : State) (d : Nat) : State :=
  let c := (s.dieAt d).cal
  if c.due ≠ 0 then s
  else
    let s1 := calRecord s d 0 0x7F c.done c.failed 0 c.runTemp false c.spare c.spare
    s1.modDie d (fun x => { x with
      cal := { x.cal with temp := x.cal.runTemp }, tele := { x.tele with runs := satInc 255 x.tele.runs } })

/-- The trims of item 8 (R58, R427): the 16 bin widths in ps, and after them the pad delays of the die's capture points in ps, nine for
each port. -/
def trimStamps (d : Nat) (values : List Int) (c : DieCal) : DieCal :=
  { c with
    bins := values.take 16
    pads := (List.range (values.drop 16).length).foldl
      (fun t i => tput t (capPoint (d * 12 + i / 9) (i % 9)) (nth 0 (values.drop 16) i)) c.pads }

/-- The end of a die-level item (R427, R429): 8 with the bins and pad delays in ps, 9 the temperature coefficient, 10 the three cells. -/
def dieItemDone (s : State) (d item : Nat) (values : List Int) : State :=
  let c := (s.dieAt d).cal
  let fine := if item = 8 then (values.take 16).all (fun v => decide (100 ≤ v ∧ v ≤ 500))
    else item == 10 || values.all (plausible item (lastTrim c.trim item))
  let cells := if item = 10 then farCells values else 0
  let fresh := andNot 3 cells c.cells != 0
  let s1 := if fine then s else calFault s d 1 0xFFFF item
  let s2 := if fresh then takeSpares s1 d 0xFFFF item true else s1
  settleDieRun (s2.modDie d (fun x => { x with cal := { (if item = 8 && fine then trimStamps d values x.cal else x.cal) with
    due := clrBit c.due item, done := setBit c.done item, failed := if fine then c.failed else setBit c.failed item
    spare := c.spare || fresh, cells := c.cells ||| cells
    trim := if fine then tput c.trim item (values.headD 0) else c.trim } })) d

/-- CAL_ITEM_DONE (R427 to R429): an item ends with its results; for items 1 to 7 `n` is the port and `bad` the redundant elements
that fail their checks, for item 4 the sets of failed pairs of C0 and C1, for items 8 to 10 it is the die. Item 9 runs while the servo is LOCKED. -/
def execCalItemDone (n item : Nat) (values : List Int) (bad : List Nat) (s : State) : Result State :=
  if item = 0 ∨ 10 < item then .fault (.noSuchOperand "calibration item")
  else if item ≤ 7 then
    let x := s.portAt n
    withPort s n (given (bitOf x.calDue item && (if item = 4 then x.c0.agreed s.ticks && x.c1.agreed s.ticks else x.calItem == item)) s
      (portItemDone s n item values bad))
  else withDie s n (given (bitOf (s.dieAt n).cal.due item && (item != 9 || s.servo.status == 2)) s (dieItemDone s n item values))

/-! ### Telemetry (R435) -/

/-- TELEM_PERIOD in units of 2^-32 ns. -/
def telemPeriod (s : State) : Nat := cfg s 0xE000 3 1000 * 1000000 * 2 ^ 32

/-- A count since the last record, saturating at 16 bits. -/
def since16 (now before : BitVec 32) : Nat := min 65535 (now - before).toNat

/-- The sum of SLOT_EDGE over the network ports. -/
def slotEdges (s : State) : BitVec 32 := (List.range 3).foldl (fun a n => a + (s.netAt n).slotEdge) 0

/-- The telemetry record of a die, stamped with its instant. -/
def teleRecord (s : State) (stamp : Stamp) (d : Nat) : State :=
  let x := s.dieAt d
  let ports := s.port.filter (fun e => portDie e.1 == d)
  let recs := ports.foldl (fun a e => a + e.2.recoveries) 0
  let quar := (ports.filter (fun e => e.2.inQuarantine)).length
  let links := (List.range 3).foldl (fun a n => if (s.netAt n).link then a + 2 ^ n else a) 0
  let zero (v : Nat) : Nat := if d = 0 then v else 0
  let words := [
    BitVec.ofNat 32 (ofInt 16 x.temp + x.coreMv % 65536 * 65536),
    BitVec.ofNat 32 (x.rail5 % 65536 + x.rail33 % 65536 * 65536),
    BitVec.ofNat 32 (zero (min 65535 (s.power.vinMv / 10) + min 65535 (s.power.pkgMw / 10) * 65536)),
    BitVec.ofNat 32 (since16 x.scrub.ceCount x.tele.ce + since16 x.scrub.ueCount x.tele.ue * 65536),
    BitVec.ofNat 32 (since16 x.missed x.tele.missed + min 65535 (max x.held x.tele.slotPeak) * 65536),
    BitVec.ofNat 32 (x.sparesFree % 65536 + min 65535 (wearMax x / 1000) * 65536),
    BitVec.ofNat 32 (min 65535 (recs - x.tele.recs) + quar % 256 * 65536 + min 255 x.tele.runs * 2 ^ 24),
    BitVec.ofNat 32 (zero (since16 (slotEdges s) x.tele.edge + links * 65536))]
  (ringEnter s (d * 512 + 0x1F4) { stamp := stamp, pcode := 0x70, words := words }).modDie d (fun y => { y with
    tele := { missed := x.missed, ce := x.scrub.ceCount, ue := x.scrub.ueCount, recs := recs, edge := slotEdges s, runs := 0
              slotPeak := x.held, lastAt := some s.ticks } })

/-- TELEMETRY_INSTANT (R435): at each aligned instant every die writes one record; all carry the instant as their stamp. -/
def execTelemetryInstant (s : State) : Result State :=
  let past : Nat := s.time.fine % telemPeriod s
  .next (given (s.dictReady && telemPeriod s != 0 && decide ((past : Int) < s.time.increment)
      && (s.dieAt 0).tele.lastAt != some s.ticks) s (
    ((List.range (usedDies s)).filter (fun d => (s.dieAt d).logicOn && !(s.dieAt d).lost)).foldl
      (fun u d => teleRecord u (fineStamp ((s.time.fine : Int) - past)) d) s))

end Sys2Proof.Machine
end

