-- ==== Sys2Proof/Machine/NetPorts.lean ====
section
/-! DEFINITION. The network ports: links and failover, delivery windows and transmission, PLCA, the hub's announcements, the
sleep agreement and the crier's wakes (R245, R246, R295, R311, R312, R325, R330 to R340). -/

namespace Sys2Proof.Machine

/-! ### Frames of the hub's own (R312, R325) -/

/-- The number of the part: 820, 840 or 880. -/
def partNumber (s : State) : Nat := if s.dies = 2 then 820 else if s.dies = 4 then 840 else 880

/-- The payload of ANNOUNCE (R325). -/
def announcePayload (s : State) : List Byte :=
  beBytes 6 s.mac ++ leBytes 2 (partNumber s) ++ leBytes 1 0xB2 ++ leBytes 1 s.power.state ++ leBytes 1 s.servo.status
    ++ leBytes 1 s.twin.state ++ leBytes 4 s.fw.version ++ leBytes 8 s.serial ++ leBytes 1 (b2n (s.reeve.rqReason != 0))
    ++ leBytes 1 (b2n s.cmpt) ++ zeros 6

/-- ANNOUNCE on a port. -/
def announce (s : State) (n : Nat) : State :=
  (hubFrame s n { op := 12, dst := adpMcast s, payload := announcePayload s }).modNet n (fun x => { x with announceAt := s.ticks })

/-- The WAKE_NOTICE that a port owes since a return (R325). -/
def wakeNotice (s : State) (n : Nat) : State :=
  if !bitOf s.power.noticeOwed n then s
  else
    let s1 := hubFrame s n { op := 10, dst := adpMcast s
                             payload := leBytes 1 s.power.noticeFrom ++ leBytes 1 0 ++ leBytes 2 s.power.noticeCause
                               ++ leBytes 4 s.power.asleepMs }
    { s1 with power := { s1.power with noticeOwed := clrBit s1.power.noticeOwed n } }

/-- ANNOUNCE_PERIOD_EXPIRY (R325). -/
def execAnnouncePeriodExpiry (n : Nat) (s : State) : Result State :=
  withNet n (
    let period := cfg s 0x0800 4 10
    given (portLive s n && period != 0 && decide ((s.netAt n).announceAt + msTicks (1000 * period) ≤ s.ticks)) s (announce s n))

/-! ### Received frames that are not for the hub (R312) -/

/-- ETH_FRAME_OTHER (R312). -/
def execEthFrameOther (n : Nat) (s : State) : Result State :=
  withNet n (given (portLive s n) s (
    let s1 := countRx s n
    { s1 with net := { s1.net with rxOther := s1.net.rxOther + 1 } }))

/-! ### PLCA (R311) -/

/-- PLCA_EN of a T1S port. -/
def plcaOn (s : State) (n : Nat) : Bool := n < 2 && cfg s (0x0810 + 16 * n) 3 0 == 1

/-- PLCA_CYCLE (R311): node 0 sends a BEACON at the start of every cycle; another node, which receives it, runs PLCA. -/
def execPlcaCycle (n : Nat) (s : State) : Result State :=
  withNet n (given (plcaOn s n && portLive s n) s (s.modNet n (fun x => { x with
    plcaActive := true, beacons := if cfg s (0x0810 + 16 * n) 4 1 = 0 then x.beacons + 1 else x.beacons })))

/-- PLCA_INACTIVE (R311): a port other than node 0 uses CSMA/CD until beacons return. -/
def execPlcaInactive (n : Nat) (s : State) : Result State :=
  withNet n (given (plcaOn s n && cfg s (0x0810 + 16 * n) 4 1 != 0) s (s.modNet n (fun x => { x with plcaActive := false })))

/-! ### Delivery windows (R330, R331) -/

/-- The word of window k of a port. -/
def windowWord (s : State) (n k : Nat) : Nat := windowReg s n (3 + k) 0

/-- DW_CYCLE of a port, µs. -/
def windowCycle (s : State) (n : Nat) : Nat := windowReg s n 1 0

/-- Whether window k of a port is open now (R330). -/
def windowIsOpen (s : State) (n k : Nat) : Bool :=
  let w := windowWord s n k
  let at_ := s.time.nanos / 1000 % windowCycle s n
  windowCycle s n != 0 && field w 39 20 != 0 && field w 19 0 ≤ at_ && decide (at_ < field w 19 0 + field w 39 20)

/-- The window of a port that is open now. -/
def openWindow (s : State) (n : Nat) : Option Nat := (List.range 8).find? (windowIsOpen s n)

/-- Nanoseconds from now to the end of window k of a port. -/
def windowLeft (s : State) (n k : Nat) : Nat :=
  let w := windowWord s n k
  (field w 19 0 + field w 39 20) * 1000 - s.time.nanos % (windowCycle s n * 1000)

/-- The bit times of a frame on the wire (R331): the Ethernet frame with its FCS, and 8 bytes more. -/
def frameBits (f : Frame) : Nat := (max 60 (38 + f.payload.length) + 4 + 8) * 8

/-- T_TX of a frame on a port, ns (R331). -/
def frameNs (n : Nat) (f : Frame) : Nat := frameBits f * (if n < 2 then 100 else 10)

/-- Whether a window-bound frame may begin now: a window of its parish is open, and the frame ends by the window's end less
DW_GUARD (R331). -/
def mayBegin (s : State) (n : Nat) (f : Frame) : Bool :=
  match openWindow s n with
  | none => false
  | some k =>
    bitOf (field (windowWord s n k) 55 40) f.parish
      && decide (frameNs n f + windowReg s n 2 20 * 1000 ≤ windowLeft s n k)

/-- Frames that are handed to the MAC deliver their records (R243, R331). -/
def deliverFrames (s : State) (fs : List Frame) : State := deliverKeys s (fs.flatMap (·.takes))

/-- DELIVERY_WINDOW_OPEN (R331): the waiting frames of the window's parishes pass to the MAC in batch order. -/
def execDeliveryWindowOpen (n k : Nat) (s : State) : Result State :=
  if 8 ≤ k then .fault (.noSuchOperand "window")
  else withNet n (given (portLive s n && windowIsOpen s n k) s (
    let mine (f : Frame) : Bool := f.windowed && bitOf (field (windowWord s n k) 55 40) f.parish
    let go := (s.netAt n).waiting.filter mine
    deliverFrames (s.modNet n (fun x => { x with
      mac := x.mac ++ go, waiting := x.waiting.filter (fun f => !mine f) })) go))

/-! ### Links and failover (R338 to R340) -/

/-- Whether a port is in use and its link is up. -/
def netUp (s : State) (n : Nat) : Bool := n < 3 && cfg s (0x0810 + 16 * n) 1 1 == 1 && (s.netAt n).link

/-- FALLBACK of a port. -/
def fallbackOf (s : State) (n : Nat) : Nat := cfg s (0x0810 + 16 * n) 0xB (if n = 0 then 1 else if n = 1 then 0 else 255)

/-- The frames of a port move to another, whose windows they follow (R339); frames that no window limits there are handed over. -/
def moveFrames (s : State) (n m : Nat) : State :=
  let fs := ((s.netAt n).mac ++ (s.netAt n).waiting).map (fun f => { f with windowed := f.push && windowNames s m f.parish })
  deliverFrames ((s.modNet n (fun x => { x with waiting := [], mac := [] })).modNet m (fun x => { x with
    waiting := x.waiting ++ fs })) (fs.filter (fun f => !f.windowed))

/-- The ports that a port serves after their failover. -/
def servedBy (s : State) (n : Nat) : List Nat := (List.range 3).filter (fun m => (s.netAt m).failedOver == some n)

/-- Failover (R339, R340): a port that is down moves to its FALLBACK where that is up, with ANNOUNCE there; the ports it served return
to their own links where those are up. -/
def failover (s : State) (n : Nat) : State :=
  let f := fallbackOf s n
  let back := (servedBy s n).filter (netUp s)
  let s1 := back.foldl (fun u m => u.modNet m (fun x => { x with failedOver := none })) s
  if f ≠ n ∧ netUp s f = true then announce (moveFrames (s1.modNet n (fun x => { x with failedOver := some f })) n f) f
  else match back with
    | m :: _ => moveFrames s1 n m
    | [] => s1

/-! ### Transmission (R295, R331, R332) -/

/-- UPLINK_SHARE of a parish in percent. -/
def uplinkShare (s : State) (p : Nat) : Nat := cfg s (allocIdx p) 0xF (if p = 0 then 5 else 0)

/-- The place of a frame among those of its parish (R332): PTP, EVENT, SLEEP_VOTE and WAKE_NOTICE, RESPONSE and ABORT, STREAM.
ANNOUNCE, which the order does not name, goes with WAKE_NOTICE (log entry 12). -/
def frameRank (f : Frame) : Nat :=
  match f.op with
  | 8 => 1
  | 9 | 10 | 12 => 2
  | 5 | 6 => 3
  | 7 => 4
  | _ => 0

/-- The frame of the lowest rank, the first of equals. -/
def firstRank : List Frame → Option Frame
  | [] => none
  | f :: t => match firstRank t with
    | none => some f
    | some g => if frameRank g < frameRank f then some g else some f

/-- Whether a parish comes before another at a port (R295): less time granted for its share in the present 10 ms; a parish with a
share of 0 follows one with a share. -/
def servedBefore (s : State) (x : NetPort) (a b : Nat) : Bool :=
  let ga := tget 0 x.granted a
  let gb := tget 0 x.granted b
  let sa := uplinkShare s a
  let sb := uplinkShare s b
  if sa = 0 ∧ sb = 0 then ga < gb else if sa = 0 then false else if sb = 0 then true else ga * sb < gb * sa

/-- The parish whose frame is next, among those of some frames (R295); equal ones in ascending order of number. -/
def nextParish (s : State) (x : NetPort) (fs : List Frame) : Option Nat :=
  ((List.range 16).filter (fun p => fs.any (fun f => f.parish == p))).foldl
    (fun a p => match a with
      | none => some p
      | some q => if servedBefore s x p q then some p else some q) none

/-- The frames that may go at an opportunity: those tied to no window, and those handed to the MAC. -/
def readyFrames (x : NetPort) : List Frame := x.waiting.filter (fun f => !f.windowed) ++ x.mac

/-- The next frame of a port (R295, R332). -/
def nextFrame (s : State) (n : Nat) : Option Frame :=
  let x := s.netAt n
  let fs := readyFrames x
  (nextParish s x fs).bind (fun p => firstRank (fs.filter (fun f => f.parish == p)))

/-- A frame is withheld (R331): it is counted, LATE is set, and it waits with the rest of its parish's frames for the parish's next
window. -/
def withhold (s : State) (n : Nat) (f : Frame) : State :=
  s.modNet n (fun x =>
    let rest := (x.mac.erase f).filter (fun g => g.parish == f.parish)
    { x with slotEdge := x.slotEdge + 1
             mac := x.mac.filter (fun g => g.parish != f.parish)
             waiting := { f with withheld := true, flags := setBit f.flags 4 } :: rest ++ x.waiting })

/-- The MAC begins a frame: a one-step Sync takes its time now, a two-step one is followed by its Follow_Up, and the time of a
delay request is kept (R51, R53). -/
def beginSend (s : State) (n : Nat) (f : Frame) : State :=
  let at_ := egressNs s n
  let f1 := if f.op = 16 ∧ f.flags = 0 then { f with payload := ptpStamp at_ } else f
  let s1 := s.modNet n (fun x =>
    let fresh := decide (x.shareFrom + msTicks 10 ≤ s.ticks)
    let g := if fresh then [] else x.granted
    { x with
      waiting := if x.waiting.contains f then x.waiting.erase f else x.waiting
      mac := if x.waiting.contains f then x.mac else x.mac.erase f
      onWire := some f1, txFrames := x.txFrames + 1
      shareFrom := if fresh then s.ticks else x.shareFrom
      granted := tput g f.parish (tget 0 g f.parish + frameBits f) })
  let s2 := if f.op = 16 ∧ f.flags = 2 then enqueueFrame s1 n (ptpFrame 20 (ptpStamp at_)) else s1
  if f.op = 17 then s2.modPtp n (fun x => { x with reqEgress := some at_ }) else s2

/-- A REMOTE loopback that waits begins once the RESPONSE to its write is sent; failover follows R339 (R453). -/
def remoteBegins (s : State) (n : Nat) (f : Frame) : State :=
  if (s.netAt n).remoteDue && f.op == 5 && !(s.netAt n).waiting.any (fun g => g.op == 5) then
    failover (s.modNet n (fun x => { x with remoteDue := false, loopAt := s.ticks })) n
  else s

/-- TRANSMIT_OPPORTUNITY (R331, R332): the next frame begins; a window-bound frame that cannot end in time is withheld, and the
opportunity passes unused. -/
def execTransmitOpportunity (n : Nat) (s : State) : Result State :=
  withNet n (given (portLive s n) s (
    match nextFrame s n with
    | none => s
    | some f => if f.windowed && !mayBegin s n f then withhold s n f else remoteBegins (beginSend s n f) n f))

/-! ### Link events (R338 to R340) -/

/-- LINK_DOWN (R338): the loss is counted and recorded, a frame on the wire is lost, and traffic moves (R339, R340). -/
def execLinkDown (n : Nat) (s : State) : Result State :=
  withNet n (given (s.netAt n).link s (
    let s1 := s.modNet n (fun x => { x with
      link := false, linkDowns := x.linkDowns + 1, onWire := none, plcaActive := false
      downAt := if n < 2 then some s.ticks else none })
    failover (faultItem s1 0 0x10 1 n 0 0) n))

/-- LINK_UP (R325, R338): a T1S port that went DOWN waits 1 s. ANNOUNCE is sent, and the WAKE_NOTICE of a return. Where the fallback that served the port is down, its
traffic moves back (R340). -/
def execLinkUp (n : Nat) (s : State) : Result State :=
  withNet n (given ((s.dictReady || s.fw.boot) && s.power.state < 2 && cfg s (0x0810 + 16 * n) 1 1 == 1 && !(s.netAt n).link
      && (s.netAt n).loopDepth == 0 && (s.netAt n).downAt.all (fun t => decide (t + msTicks 1000 ≤ s.ticks))) s (
    let s1 := s.modNet n (fun x => { x with link := true, upAt := s.ticks, downAt := none })
    let s2 := match (s.netAt n).failedOver with
      | none => s1
      | some f => if netUp s1 f then s1 else moveFrames (s1.modNet n (fun x => { x with failedOver := none })) f n
    wakeNotice (announce s2 n) n))

/-- FAILBACK (R339): destinations return to a port that has been up for FAILBACK_TIME. -/
def execFailback (n : Nat) (s : State) : Result State :=
  withNet n (
    let t := cfg s (0x0810 + 16 * n) 0xC 5
    given ((s.netAt n).failedOver.isSome && netUp s n && t != 0 && decide ((s.netAt n).upAt + msTicks (1000 * t) ≤ s.ticks)) s
      (s.modNet n (fun x => { x with failedOver := none })))

/-- TX_DISCARD_TIMEOUT (R340): with a port and its fallback down, frames that have waited 1 s are discarded and counted. -/
def execTxDiscardTimeout (n : Nat) (s : State) : Result State :=
  withNet n (given (!(s.netAt n).link && !netUp s (fallbackOf s n)) s (s.modNet n (fun x =>
    let old (f : Frame) : Bool := f.since + msTicks 1000 ≤ s.ticks
    { x with
      txDiscards := x.txDiscards + BitVec.ofNat 32 ((x.waiting ++ x.mac).filter old).length
      waiting := x.waiting.filter (fun f => !old f), mac := x.mac.filter (fun f => !old f) })))

/-! ### The sleep agreement (R333 to R335) -/

/-- The parishes whose hosts vote (R333). -/
def voters (s : State) : List Nat := bitList 16 (cfg s 0x0800 6 0)

/-- SLEEP_GRACE, ms. -/
def sleepGrace (s : State) : Nat := cfg s 0x0800 7 2

/-- Whether a cause of cancellation holds, or ended less than SLEEP_GRACE ago (R334). -/
def voteBlocked (s : State) : Bool :=
  (voters s).any (fun p => (s.parAt p).wake.pending || (s.parAt p).wake.reasons != 0)
    || s.net.graceAt.any (fun t => decide (s.ticks < t + msTicks (sleepGrace s)))

/-- SLEEP_AGREEMENT (R334): the agreed state is the shallowest TARGET among the voters, and AGREED is sent. -/
def execSleepAgreement (s : State) : Result State :=
  .next (given (s.dictReady && s.power.state < 2 && s.net.voteState == 0 && !(voters s).isEmpty
      && (voters s).all (fun p => (s.parAt p).hostAsleep) && !voteBlocked s) s (
    let target := (voters s).foldl (fun a p => min a (s.parAt p).voteTarget) 2
    voteFrames { s with net := { s.net with
      voteState := 1, voteTarget := target, voteRound := s.net.voteRound + 1, voteAt := s.ticks } } 2 (sleepGrace s * 1000)))

/-- SLEEP_COMMIT_POINT (R334, R406): SLEEP_GRACE after the agreement the entry starts, with the vote as its cause. -/
def execSleepCommitPoint (s : State) : Result State :=
  .next (given (s.net.voteState == 1 && decide (s.net.voteAt + msTicks (sleepGrace s) ≤ s.ticks)) s (
    if voteBlocked s then cancelVote s
    else requestState { s with net := { s.net with voteState := 2 } } (s.net.voteTarget + 1) 1024))

/-- A cause of cancellation that comes from a parish: it counts where the parish votes (R334). -/
def voterActs (s : State) (p : Nat) : State := if (voters s).contains p then cancelVote s else s

/-- CRIER_WAKE (R245, R246, R334): a request for a sleeping parish, which did not join its last wake, wakes its host. -/
def execCrierWake (p : Nat) (s : State) : Result State :=
  withParish p (
    let w := (s.parAt p).wake
    given ((s.parAt p).hostAsleep && w.asked && s.power.state < 3) s (voterActs (wakeHost s p) p))

end Sys2Proof.Machine
end

