-- ==== Sys2Proof/Machine/Reads.lean ====
section
/-! DEFINITION. What a read of each object of the dictionary returns (R347 to R362 and the object tables of every chapter). -/

namespace Sys2Proof.Machine

/-! ### Identity, network and parishes (R307, R341, R347 to R350, R354, R362) -/

/-- Bits of the dies that run, as DIES_UP reads (R347). -/
def diesUp (s : State) : Nat :=
  (List.range s.dies).foldl (fun a d => if (s.dieAt d).up && !(s.dieAt d).lost then a + 2 ^ d else a) 0

/-- PENDING: the parishes with pending writes (R350). -/
def pendingMask (s : State) : Nat :=
  (List.range 16).foldl (fun a p => if s.pend.any (fun e => keyOwner s e.1 == some p) then a + 2 ^ p else a) 0

/-- The identity, status, request, commit, compatibility and firmware values. -/
def liveGeneral (s : State) (l : Lay) (sub : Nat) : Int :=
  match l, sub with
  | .identity, 2 => partNumber s
  | .identity, 3 => s.dies
  | .identity, 4 => 0xB2
  | .identity, 5 => 0x45
  | .identity, 6 => s.serial
  | .identity, 7 => s.fw.version
  | .identity, 8 => s.fw.slot
  | .identity, 9 => s.fw.security
  | .identity, 0xA => 1
  | .status, 1 => s.power.state
  | .status, 2 => (s.ticks / 250000 : Nat)
  | .status, 3 => s.resetCause
  | .status, 4 => diesUp s
  | .status, 5 => s.reeve.faults.toNat
  | .status, 6 => s.reeve.lastFault
  | .status, 7 => s.reeve.lastFaultStamp.toNat
  | .status, 8 => configCrc s
  | .request, 1 => b2n (s.reeve.rqReason != 0)
  | .request, 2 => s.reeve.rqReason
  | .request, 3 => s.reeve.rqFirst.toNat
  | .request, 4 => s.reeve.rqDies
  | .commit, 2 => s.commit.state
  | .commit, 3 => s.commit.result
  | .commit, 4 => s.commit.failAt
  | .commit, 5 => s.commit.t.toNat
  | .commit, 6 => pendingMask s
  | .commit, 7 => s.commit.commits.toNat
  | .compat, 2 => b2n s.cmptStrap
  | .compat, 3 => b2n s.cmpt
  | .firmware, 2 => s.fw.state
  | _, _ => 0

/-- The values of the network objects. -/
def liveNet (s : State) (l : Lay) (sub : Nat) : Int :=
  match l, sub with
  | .netGen, 1 => s.mac
  | .netGen, 8 => s.net.voteState
  | .netGen, 9 => s.net.hdrCrcFails.toNat
  | .netGen, 0xA => s.net.versionFails.toNat
  | .netGen, 0xB => s.net.rxOther.toNat
  | .netGen, 0xC => s.net.rxBusy.toNat
  | .netPort n, 2 => b2n (s.netAt n).link
  | .netPort n, 0xD => (s.netAt n).linkDowns.toNat
  | .netPort n, 0xE => (s.netAt n).slotEdge.toNat
  | .netPort n, 0xF => (s.netAt n).txFrames.toNat
  | .netPort n, 0x10 => (s.netAt n).rxFrames.toNat
  | .netPort n, 0x11 => (s.netAt n).rxFcs.toNat
  | .netPort n, 0x12 => (s.netAt n).txDiscards.toNat
  | .parDest p, 4 => b2n (s.parAt p).hostAsleep
  | .parDest p, 5 => (s.parAt p).batches.toNat
  | _, _ => 0

/-- The values of the parish objects. -/
def liveParish (s : State) (l : Lay) (sub : Nat) : Int :=
  match l, sub with
  | .parState p, 1 => parishState s p
  | .parState p, 5 => (s.parAt p).violations.toNat
  | .parAlloc p, 0x11 => (s.parAt p).allocRefuse
  | .parKey p, 2 => b2n (s.parAt p).key.isSome
  | .parKey p, 5 => (s.parAt p).tagFails.toNat
  | .parKey p, 7 => b2n (p == 1 && (s.parAt p).armed.isSome)
  | _, _ => 0

/-! ### The time base (R39, R55, R56) -/

/-- TIME_NOW: SECONDS, NANOSECONDS and the upper half of FRACTION from one clock edge (R39). -/
def timeNow (t : TimeBase) : Nat := t.seconds.toNat * 2 ^ 48 + t.nanos * 2 ^ 16 + t.frac / 65536

/-- The values of the time objects; RATE_PPB takes the effective increment, slew included. -/
def liveTime (s : State) (l : Lay) (sub : Nat) : Int :=
  match l, sub with
  | .timeNow, 1 => timeNow s.time
  | .timeNow, 2 => s.servo.status
  | .timeNow, 3 => s.time.epoch.toNat
  | .timeNow, 4 => s.time.lastStep
  | .timeNow, 5 => s.time.utcOffset
  | .timeRate, 1 => s.time.rate
  | .timeRate, 2 => roundDiv ((s.time.increment - 0x400000000) * 1000000000) 0x400000000
  | .timeAdj, 3 => s.time.adjMode
  | .timeAdj, 5 => match s.time.slew with
    | some sl => satInt 64 (sl.residual / 65536)
    | none => 0
  | .servo, 8 => s.servo.lastOffset
  | .servo, 9 => s.servo.meanPath
  | .ptp n, 0xD => (s.ptpAt n).state
  | .ptp n, 0xE => (s.ptpAt n).gm
  | .ptp n, 0xF => (s.ptpAt n).offset
  | .ptp n, 0x10 => (s.ptpAt n).pathDelay
  | _, _ => 0

/-! ### Ports, engines, rotas and streams (R201, R357, R359 to R361) -/

/-- The values of a port's objects: the status block holds copies of the registers of R87. -/
def livePort (s : State) (n off sub : Nat) : Int :=
  let x := s.portAt n
  match off, sub with
  | 0, 7 => x.quarCtl
  | 1, 1 => regPstat x
  | 1, 2 => regQuar s n
  | 1, 3 => regVpMeas x
  | 1, 4 => regEmStat x
  | 1, 5 => regOpStat s n
  | 1, 6 => regErrCnt x
  | 1, 7 => rateEff s n
  | _, _ => 0

/-- The values of an engine's objects. -/
def liveEngine (s : State) (e sub : Nat) : Int :=
  let x := s.engAt e
  match sub with
  | 2 => x.state
  | 3 => x.activeCrc
  | 4 => (x.ctxs.filter (fun c => c.2.live)).length
  | 5 => x.peak
  | 6 => x.launches.toNat
  | 7 => x.faults.toNat
  | 8 => (x.dropped + x.orphans * 65536 : Nat)
  | 9 => x.lastFault
  | _ => 0

/-- The values of a die's rota objects. -/
def liveRota (s : State) (d sub : Nat) : Int :=
  let x := s.dieAt d
  match sub with
  | 3 => x.rotaState
  | 4 => x.refuseCause
  | 5 => x.refuseEntry
  | 6 => x.active.bodyCrc
  | 7 => x.swapStamp.toNat
  | 8 => x.missed.toNat
  | 9 => (tget 0 x.missedBy 1 + tget 0 x.missedBy 2 * 2 ^ 16 + tget 0 x.missedBy 3 * 2 ^ 32 + tget 0 x.missedBy 4 * 2 ^ 48 : Nat)
  | 0xA => x.startLag
  | 0xB => (x.held + x.slotPeak * 2 ^ 16 + x.slotWaits * 2 ^ 32 : Nat)
  | 0xD => x.standbyActive
  | 0xE => (tget 0 x.missedBy 5 + tget 0 x.missedBy 6 * 2 ^ 16 : Nat)
  | _ => 0

/-- The values of a stream's objects; a reserved local stream reads zero at every subindex (R361). -/
def liveStream (s : State) (k sub : Nat) : Int :=
  let x := s.streamAt k
  if 0x1F6 ≤ k % 512 then 0
  else match sub with
    | 1 => sysRing (k % 512)
    | 4 => 1
    | 8 => x.lost.toNat
    | 9 => x.records.toNat
    | 0xA => undelivered s k
    | 0xB => x.lastStamp.toNat
    | 0xC => (b2n (s.dieAt (streamDie k)).lost + 2 * b2n x.ovrDue : Nat)
    | _ => 0

/-! ### Mill, sieve, granary and log (R228, R259) -/

/-- CHAN_STATE: OFF without an enabled image, HALTED, RUNNING once an output has settled, else SETTLING (R211, R213, R228). -/
def chanState (x : MillChan) : Nat := if x.halted then 3 else if !x.img.enable then 0 else if x.settled then 2 else 1

/-- BANKS_USED of a die: bank 0, and those that hold a ring (R259). -/
def banksUsed (s : State) (d : Nat) : Nat :=
  ((List.range 0x1F0).map (fun k => d * 512 + k)).foldl
    (fun a k => a ||| ringBanks s k (ringSize s k)) 1

/-- A sum over the streams of a die that hold anything. -/
def streamSum (s : State) (d : Nat) (f : Nat × Stream → Nat) : Nat :=
  (s.stream.filter (fun e => streamDie e.1 == d)).foldl (fun a e => a + f e) 0

/-- The values of the mill and sieve objects. -/
def liveMillSieve (s : State) (l : Lay) (sub : Nat) : Int :=
  match l, sub with
  | .mill c, 2 => chanState (s.millAt c)
  | .mill c, 3 => (s.millAt c).outputs.toNat
  | .mill c, 4 => (s.millAt c).suppressed.toNat
  | .mill c, 5 => (s.millAt c).lateOut.toNat
  | .mill c, 6 => (s.millAt c).gaps
  | .mill c, 7 => (s.millAt c).inDropped
  | .mill c, 8 => (s.millAt c).lastOut.toNat
  | .mill c, 9 => (s.millAt c).lastStamp.toNat
  | .millDie d, 1 => (s.dieAt d).demand
  | .millDie d, 2 => (s.dieAt d).lag
  | .millDie d, 3 => (s.dieAt d).millRefuse
  | .rule g, 2 => b2n (s.ruleAt g).out
  | .rule g, 3 => if !(s.ruleAt g).img.present then 0 else if (s.ruleAt g).primed then 2 else 1
  | .rule g, 4 => (s.ruleAt g).events.toNat
  | .rule g, 5 => (s.ruleAt g).lastValue
  | .rule g, 6 => (s.ruleAt g).lastStamp.toNat
  | .rule g, 7 => (s.ruleAt g).skipped
  | .rule g, 8 => (s.ruleAt g).fails
  | .sieveDie d, 1 => eventsHeld s d none
  | .sieveDie d, 2 => (s.dieAt d).queuePeak
  | .sieveDie d, 3 => (s.dieAt d).offerDrops.toNat
  | .sieveDie d, 4 => (s.dieAt d).sieveRefuse
  | .sieveDie d, k => (tget 0 (s.dieAt d).spoilCo (k - 0x10) + tget 0 (s.dieAt d).spoilDrop (k - 0x10) * 2 ^ 32 : Nat)
  | _, _ => 0

/-- The values of the granary and NV log objects. -/
def liveGranary (s : State) (l : Lay) (sub : Nat) : Int :=
  match l, sub with
  | .granDie d, 1 => banksUsed s d
  | .granDie d, 2 => streamSum s d (fun e => undelivered s e.1)
  | .granDie d, 3 => streamSum s d (fun e => e.2.lost.toNat)
  | .granPar p, 9 => (s.parAt p).wake.wakes.toNat
  | .nvDie d, 1 => (s.dieAt d).sparesFree
  | .nvDie d, 2 => (s.dieAt d).pagesRetired
  | .nvDie d, 3 => (s.dieAt d).writeRetries.toNat
  | .nvDie d, 4 => wearMax (s.dieAt d)
  | .nvDie d, 5 => wearMean (s.dieAt d)
  | .nvDie d, 6 => (s.dieAt d).tornPages
  | .nvDie d, 7 => b2n (s.dieAt d).scanDone
  | .nvRegion d p, 1 => ((s.dieAt d).regionAt p).blocks.length
  | .nvRegion d p, 2 => ((headSeq ((s.dieAt d).regionAt p)).getD 0 : Nat)
  | .nvRegion d p, 3 => (((committedPages ((s.dieAt d).regionAt p)).head?.map pageSeq).getD 0 : Nat)
  | .nvRegion d p, 4 => ((s.dieAt d).regionAt p).pageSel
  | .nvRegion d p, 6 => ((s.dieAt d).regionAt p).captures
  | .nvRegion d p, 7 => b2n ((s.dieAt d).regionAt p).capActive
  | _, _ => 0

/-! ### Tally and routing (R275, R283) -/

/-- The values of the tally and routing objects; row 64 + n reads the code of cross-die line n. -/
def liveRoute (s : State) (l : Lay) (sub : Nat) : Int :=
  match l, sub with
  | .tally t, 5 => (s.tallyAt t).top
  | .tally t, 6 => (s.tallyAt t).cmp
  | .tally t, 8 => if (s.tallyAt t).state = 1 ∧ tallyHeld s t = true then 3 else (s.tallyAt t).state
  | .tally t, 9 => (s.tallyAt t).count
  | .tally t, 0xA => (s.tallyAt t).topAct
  | .tally t, 0xB => (s.tallyAt t).cmpAct
  | .tally t, 0xC => (s.tallyAt t).capA
  | .tally t, 0xD => (s.tallyAt t).capB
  | .tally t, 0xE => (s.tallyAt t).width
  | .tally t, 0xF => (s.tallyAt t).capStamp.toNat
  | .tally t, 0x10 => (s.tallyAt t).captures.toNat
  | .tally t, 0x11 => b2n (pairedMode s t)
  | .row _ r, 1 => (0xA000 + (r - 64) : Nat)
  | .row d r, 3 => b2n (s.rowAt (rk d r)).level
  | .col d c, 4 => b2n (s.colAt (rk d c)).level
  | .col d c, 5 => (s.colAt (rk d c)).rises.toNat
  | .routeDie d, 1 => (s.dieAt d).routeRefuse
  | .routeDie d, 2 => (s.dieAt d).tallyHolds.toNat
  | .routeDie d, 3 => (s.dieAt d).crossFaults
  | _, _ => 0

/-! ### Reeve, twin, power, background and test (R394, R395, R417, R437, R460) -/

/-- A bitmap over the outputs of the dies in use, in the layout of MAP[15:0]. -/
def outputBits (s : State) (f : Nat → Nat → Bool) : Nat :=
  (List.range (usedDies s)).foldl (fun a d => a + b2n (f d 0) * 2 ^ (2 * d) + b2n (f d 1) * 2 ^ (2 * d + 1)) 0

/-- The values of the reeve and twin objects. -/
def liveSafety (s : State) (l : Lay) (sub : Nat) : Int :=
  match l, sub with
  | .reeve, 1 => safetyState s
  | .reeve, 2 => safetyDigest s
  | .reeve, 3 => pendingDigest s
  | .reeve, 5 => outputBits s (fun d o => bitOf (s.dieAt d).soOut o)
  | .reeve, 6 => outputBits s (soRequested s)
  | .reeve, 0xB => safetyLevel s
  | .reeve, 0xC => s.reeve.firstFault
  | .reeve, 0xD => s.reeve.firstStamp.toNat
  | .reeve, 0xE => s.reeve.secondFault
  | .reeve, 0x11 => s.reeve.dangerous.toNat
  | .reeve, 0x12 => s.reeve.testRounds.toNat
  | .reeveDie d, 1 => (s.dieAt d).soPin
  | .reeveDie d, 2 => (s.dieAt d).testFails
  | .reeveDie d, 3 => (s.dieAt d).pairFaults
  | .twin, 7 => s.twin.state
  | .twin, 8 => s.twin.partner
  | .twin, 9 => s.twin.wordsBad.toNat
  | .twin, 0xA => s.twin.disagreements.toNat
  | .twin, 0xB => s.twin.losses.toNat
  | .twin, 0xC => s.twin.testPhase
  | _, _ => 0

/-- TRANSITION (R417). -/
def transition (s : State) : Nat :=
  if s.power.state = 5 then 1 else if s.power.state = 6 then 2 else if s.power.opBusy then 3 else 0

/-- The values of the power, background and test objects. -/
def livePower (s : State) (l : Lay) (sub : Nat) : Int :=
  match l, sub with
  | .power, 0xC => s.power.lastWake
  | .power, 0xD => s.power.asleepMs
  | .power, 0xE => transition s
  | .power, 0xF => s.power.pendReq
  | .powerDie d, 1 => (s.dieAt d).opPoint
  | .powerDie d, 3 => (s.dieAt d).coreMv
  | .powerDie d, 4 => (s.dieAt d).sysKhz
  | .powerDie d, 5 => (s.dieAt d).switches.toNat
  | .powerDie d, 6 => (s.dieAt d).relockFails
  | .powerDie d, 7 => (s.dieAt d).temp
  | .powerPkg, 1 => s.power.vinMv
  | .powerPkg, 2 => s.power.pkgMw
  | .powerPkg, 3 => (b2n s.power.phaseFault + 2 * b2n s.power.convHot + 4 * b2n s.power.stepDown : Nat)
  | .powerPkg, 4 => s.power.convTemp
  | .bgDie d, 1 => (s.dieAt d).scrub.ceCount.toNat
  | .bgDie d, 2 => (s.dieAt d).scrub.ueCount.toNat
  | .bgDie d, 3 => (s.dieAt d).scrub.hardBits
  | .bgDie d, 4 => (s.dieAt d).scrub.passes.toNat
  | .bgDie d, 5 => (s.dieAt d).cal.temp
  | .bgDie d, 6 => (s.dieAt d).fwErases
  | .calPort n, 2 => (s.portAt n).calTemp
  | .calPort n, 3 => (s.portAt n).calStamp.toNat
  | .calPort n, 4 => (s.portAt n).calDue
  | .calPort n, 5 => (s.portAt n).spares
  | .calPort n, 6 => (s.portAt n).calFails
  | .test, 3 =>
    (s.test.selfRun + (List.range s.dies).foldl (fun a d => a + b2n (s.dieAt d).selfFailed * 2 ^ (8 + d)) 0 : Nat)
  | .test, 4 => b2n s.test.prodMode
  | .portLoop n, 1 => (s.portAt n).loopDepth
  | .portLoop n, 2 => (s.portAt n).loopResult.toNat
  | .netLoop n, 1 => (s.netAt n).loopDepth
  | .netLoop n, 2 => (s.netAt n).loopResult.toNat
  | .twinLoop, 1 => s.twin.loopDepth
  | .twinLoop, 2 => s.twin.loopResult.toNat
  | .ringLoop l, 1 => (tget 0 s.test.ringLoop l : Nat)
  | .ringLoop l, 2 => (tget 0 s.test.ringResult l : Nat)
  | _, _ => 0

/-! ### The value of an object -/

/-- The number that an object which is no setting holds now. -/
def liveNum (s : State) (l : Lay) (sub : Nat) : Int :=
  match l with
  | .identity | .status | .request | .commit | .compat | .firmware => liveGeneral s l sub
  | .netGen | .netPort _ | .netWin _ | .parDest _ => liveNet s l sub
  | .parState _ | .parAlloc _ | .parKey _ | .parUser _ => liveParish s l sub
  | .timeNow | .timeRate | .timeAdj | .servo | .ptp _ => liveTime s l sub
  | .port n off => livePort s n off sub
  | .eng e | .engScratch e => liveEngine s e sub
  | .rota d => liveRota s d sub
  | .stream k => liveStream s k sub
  | .mill _ | .millDie _ | .rule _ | .sieveDie _ => liveMillSieve s l sub
  | .granDie _ | .granPar _ | .nvDie _ | .nvRegion _ _ => liveGranary s l sub
  | .tally _ | .tallyUnit _ | .row _ _ | .col _ _ | .routeDie _ => liveRoute s l sub
  | .reeve | .reeveDie _ | .tripMap _ | .verdictMap _ | .twin => liveSafety s l sub
  | .power | .powerDie _ | .powerPkg | .bg | .bgDie _ | .calPort _ | .test | .portLoop _ | .netLoop _ | .twinLoop
  | .ringLoop _ => livePower s l sub

/-- The ASCII bytes of VENDOR (R347): "THOWICK" and a zero byte. -/
def vendorBytes : List Byte := [0x54, 0x48, 0x4F, 0x57, 0x49, 0x43, 0x4B, 0]

/-- The bytes of an object that is no setting: opaque values by name, numbers in their type. -/
def liveBytes (s : State) (l : Lay) (r : ObjRow) : List Byte :=
  match l, r.sub with
  | .identity, 1 => vendorBytes
  | .engScratch e, 1 => Memory.readBytes (s.engAt e).scratch 0 1024
  | .rota d, 2 => (s.dieAt d).active.image
  | .nvRegion d p, 5 => pageData ((s.dieAt d).regionAt p)
  | _, _ => leBytes r.ty.size (ofInt (8 * r.ty.size) (liveNum s l r.sub))

/-- The value that a read of an object returns: HIGHEST_SUB at subindex 0 (R342), the last value written of a setting, pending or
in force (R351), else the value now. -/
def readBytes (s : State) (l : Lay) (r : ObjRow) : List Byte :=
  if r.sub = 0 then leBytes 1 (highestSub l)
  else if r.acc = .rwp then
    match storedIn s.pend (layIndex l) r.sub with
    | some b => b
    | none => valueOf s (okey (layIndex l) r.sub)
  else liveBytes s l r

end Sys2Proof.Machine
end

