-- ==== Sys2Proof/Machine/Commits.lean ====
section
/-! DEFINITION. Commits: their checks, the fixing of T, persisting and discarding (R197, R302, R303, R308, R350 to R353, R383,
R434). -/

namespace Sys2Proof.Machine

/-- Who makes a dictionary access: the parish, its open session (0 for none), the port (3 the service port), whether the frame
carried a good tag, and the opcode (R288, R290, R303). -/
structure Who where
  parish : Nat := 0
  session : Nat := 0
  via : Nat := 2
  tagged : Bool := false
  op : Nat := 2
deriving DecidableEq, Repr

/-- What a refused commit leaves beside its result: the cause that its unit's objects name (R197, R215, R227, R284, R308). -/
inductive RefusalMark where
  | none
  | rota (d cause entry : Nat)
  | mill (d code : Nat)
  | sieve (d code : Nat)
  | route (d code : Nat)
  | alloc (check idx : Nat) (parishes : List Nat)
  | arm
deriving DecidableEq, Repr

/-- A refused commit: the abort code, the key of the first failing object, and what it leaves. -/
structure CommitFail where
  code : Nat := 0
  key : Nat := 0
  mark : RefusalMark := .none
deriving DecidableEq, Repr

/-! ### The objects of a commit (R350, R351) -/

/-- The pending objects of the parishes in a mask, ascending. -/
def commitKeys (s : State) (mask : Nat) : List Nat :=
  (s.pend.map (·.1)).filter (fun k => (keyOwner s k).any (fun p => bitOf mask p))

/-- Whether a commit runs (R353). -/
def commitBusy (s : State) : Bool := 1 ≤ s.commit.state && s.commit.state ≤ 3

/-- Whether a writer may set bit q of the mask: its own; any for parish 0; bit 0 for the session of parish 1 that holds the arm
(R350). -/
def mayMask (s : State) (w : Who) (q : Nat) : Bool :=
  w.parish == 0 || q == w.parish
    || (q == 0 && w.parish == 1 && w.session != 0 && (s.parAt 1).armed.any (fun a => a.2 == w.session))

/-- Whether some key is an allocation object. -/
def allocWrites (s : State) (keys : List Nat) : Bool :=
  keys.any (fun k => match keyLay s k with
    | some (.parAlloc _) => k % 256 != 0x11
    | _ => false)

/-! ### The checks (R308, R351) -/

/-- A failed allocation check as a refused commit. -/
def allocFail (f : AllocFail) : CommitFail :=
  { code := 0x0304, key := okey (allocIdx (f.2.1.head?.getD 0)) f.2.2.1, mark := .alloc f.1 f.2.2.2 f.2.1 }

/-- Checks 1 to 4 of R308, in order. -/
def allocChecks (s c : State) : Option CommitFail :=
  (match allocTwice c with
   | f :: _ => some f
   | [] => match allocBusy s c with
     | f :: _ => some f
     | [] => match allocBeyond c with
       | f :: _ => some f
       | [] => (allocSystem c).head?).map allocFail

/-- Check 5: a change of parish 1 needs the arm (R302, R303), and is refused while LATCHED SAFE is in force (R384). -/
def armCheck (s c : State) (session : Nat) (keys : List Nat) : Option CommitFail :=
  if !(configured s c keys).contains 1 then none
  else if s.reeve.latched then some { code := 0x0403 }
  else
    let code := checkArm s session (commitDigest s keys)
    if code = 0 then none else some { code := code, key := okey 0x2102 6, mark := .arm }

/-- Check 6: a safety function of parish 1 without a secured key (R303). -/
def safetyCheck (c : State) : Option CommitFail :=
  if hasSafety c && !((c.parAt 1).key.isSome && secured c 1) then
    some { code := 0x0304, key := okey 0x2102 3, mark := .alloc 6 0 [1] }
  else none

/-- Check 7: what SH-12 mode does not have (R445). -/
def sh12Check (c : State) (keys : List Nat) : Option CommitFail :=
  if !c.cmpt then none
  else (keys.find? (beyondSh12 c)).map (fun k =>
    { code := 0x0304, key := k
      mark := .alloc 7 0 [match keyLay c k with
        | some (.parAlloc p) => p
        | _ => (keyOwner c k).getD 0] })

/-- The check of the image that an object holds. -/
def imageCheck (s c : State) (k : Nat) : Option CommitFail :=
  let p := (keyOwner s k).getD 0
  match keyLay c k, k % 256 with
  | some (.eng e), 1 => if engImageOk c e then none else some { code := 0x0304, key := k }
  | some (.rota d), sub =>
    (match rotaRefuse c d p (valueOf c k) (sub == 0xC) with
     | some (cause, entry) => some { code := 0x0304, key := k, mark := .rota d cause entry }
     | none => if sub = 0xC ∧ sentinelRates c = false then some { code := 0x0304, key := k } else none)
  | some (.mill ch), _ => (millRefuseCode c ch p).map (fun x =>
      { code := 0x0304, key := k, mark := .mill (millDie ch) (x + ch * 65536) })
  | some (.rule g), _ => (ruleRefuseCode c g p).map (fun x =>
      { code := 0x0304, key := k, mark := .sieve (ruleDie g) (x + g * 65536) })
  | _, _ => none

/-- The routing and tally checks of R284. -/
def routeCheck (s c : State) (keys : List Nat) : Option CommitFail :=
  (routeRefuse s c keys).map (fun x => { code := 0x0304, key := x.1, mark := .route x.2.2.1 (x.2.1 + x.2.2.2 * 65536) })

/-- A commit of a port of die 0, or of the allocation, under which the standing sentinel rota could not keep its rates at point S
(R398; log entry 12). -/
def sentinelCheck (c : State) (keys : List Nat) : Option CommitFail :=
  let bears (k : Nat) : Bool := match keyLay c k with
    | some (.port n _) => decide (n < 12)
    | some (.parAlloc _) => true
    | _ => false
  if sentinelRates c then none else (keys.find? bears).map (fun k => { code := 0x0304, key := k })

/-- The first check of a commit that fails, with the whole set in place (R351). -/
def commitFails (s : State) (session : Nat) (keys : List Nat) : Option CommitFail :=
  let c := moveKeys s keys
  (if allocWrites s keys then allocChecks s c else none)
    <|> armCheck s c session keys
    <|> safetyCheck c
    <|> sh12Check c keys
    <|> keys.findSome? (imageCheck s c)
    <|> sentinelCheck c keys
    <|> routeCheck s c keys
    <|> (failing (keys.flatMap (plainChecks c))).map (fun x => { code := x.2, key := x.1 })

/-! ### A refused commit -/

/-- What the checks leave in the objects of their units. -/
def applyMark (s : State) (w : Who) (m : RefusalMark) : State :=
  match m with
  | .none => s
  | .rota d cause entry => s.modDie d (fun x => { x with rotaState := 4, refuseCause := cause, refuseEntry := entry })
  | .mill d code => s.modDie d (fun x => { x with millRefuse := code })
  | .sieve d code => s.modDie d (fun x => { x with sieveRefuse := code })
  | .route d code => s.modDie d (fun x => { x with routeRefuse := code })
  | .alloc check idx ps =>
    ps.foldl (fun u p => u.modPar p (fun x => { x with allocRefuse := check + idx % 256 * 65536 })) s
  | .arm => armViolation (s.modPar 1 (fun x => { x with allocRefuse := 5 })) w.parish 0x50 1 w.session

/-- ALLOC_REFUSE of every parish is set to 0 at the start of the checks of a commit with allocation writes (R308). -/
def clearRefuse (s : State) : State := { s with parish := s.parish.map (fun e => (e.1, { e.2 with allocRefuse := 0 })) }

/-- A refused commit (R351): REFUSED with the code and the object; the writes stay pending and the arm is spent (R302). Every
rota of the commit is REFUSED with it (R197), and the one whose check failed names the check. -/
def commitRefused (s : State) (w : Who) (mask : Nat) (f : CommitFail) : State :=
  let keys := commitKeys s mask
  let s1 := setRotas 4 keys (if allocWrites s keys then clearRefuse s else s)
  disarm { applyMark s1 w f.mark with commit := { s.commit with state := 5, result := f.code, failAt := f.key } }

/-! ### An accepted commit (R197, R351) -/

/-- A rota image goes into its die's next bank, from which it is read back: CHECKING (R197). -/
def writeBank (s : State) (k : Nat) : State :=
  match keyLay s k, k % 256 with
  | some (.rota d), 1 =>
    s.modDie d (fun x => { x with next := rotaOf ((storedIn s.pend (k / 256) 1).getD []), rotaState := 2 })
  | _, _ => s

/-- An accepted commit: its rotas stand in the next banks, CHECKING and then ARMED, and it is APPLYING with T fixed 100 µs from
now (R197). -/
def commitAccepted (s : State) (mask : Nat) (persist : Bool) (keys : List Nat) : State :=
  let s1 := if allocWrites s keys then clearRefuse s else s
  disarm { setRotas 3 keys (keys.foldl writeBank s1) with commit := { s.commit with
    state := 2, result := 0, failAt := 0, t := stampAdd s.nowStamp 400000, commits := s.commit.commits + 1, mask := mask
    persist := persist, keys := keys
    todo := (List.range (usedDies s)).filter (fun d => allocWrites s keys || keys.any (fun k => keyDie s k == some d))
      ++ [packageMark] } }

/-- A commit with nothing pending in its mask completes at once (R351). -/
def commitEmpty (s : State) : State :=
  disarm { s with commit := { s.commit with state := 4, result := 0, failAt := 0, commits := s.commit.commits + 1 } }

/-- GENERATION of an object goes one on (R329). -/
def bumpGen (s : State) (key : Nat) : State := { s with gens := tput s.gens key ((tget 0 s.gens key + 1) % 65536) }

/-- Action 3 drops the pending writes of the mask; each object then reads its value in force again (R351). A NEXT_IMAGE that is
dropped leaves its rota EMPTY. -/
def discardMask (s : State) (mask : Nat) : State :=
  let keys := commitKeys s mask
  let changed := keys.filter (fun k => storedIn s.pend (k / 256) (k % 256) != some (valueOf s k))
  let s1 := changed.foldl bumpGen { s with pend := s.pend.filter (fun e => !keys.contains e.1) }
  setRotas 0 keys s1

/-- The abort code that a COMMIT word meets before the checks: rights, the action and the mask, a commit that runs, and a rota
bank that is being rebuilt (R198, R350, R353). -/
def commitWordCode (s : State) (w : Who) (v : Nat) : Nat :=
  let mask := field v 31 16
  if !(bitList 16 mask).all (mayMask s w) then 0x0201
  else if mask = 0 ∨ v % 4 = 0 then 0x0302
  else if commitBusy s then 0x0402
  else if v % 4 ≠ 3 ∧ (commitKeys s mask).any (fun k => match keyLay s k, k % 256 with
      | some (.rota d), 1 => (s.dieAt d).rotaState == 2 || (s.dieAt d).rotaState == 3
      | _, _ => false) = true then 0x0402
  else 0

/-- The refused commit that a COMMIT word would be; none where it passes. -/
def commitFailOf (s : State) (w : Who) (v : Nat) : Option CommitFail :=
  if v % 4 = 3 then none
  else
    let keys := commitKeys s (field v 31 16)
    if keys.isEmpty then none else commitFails s w.session keys

/-- The abort code of a write of COMMIT (R319, R350). -/
def commitCode (s : State) (w : Who) (v : Nat) : Nat :=
  let code := commitWordCode s w v
  if code ≠ 0 then code else ((commitFailOf s w v).map (·.code)).getD 0

/-- A write of COMMIT that passes. -/
def commitAct (s : State) (v : Nat) : State :=
  let mask := field v 31 16
  let keys := commitKeys s mask
  if v % 4 = 3 then discardMask s mask
  else if keys.isEmpty then commitEmpty s
  else commitAccepted s mask (v % 4 == 1) keys

/-- What a refused write of COMMIT leaves: a WRITE violation for a mask bit that the writer may not set, or the refused commit
as the checks on `seen` find it. -/
def commitLeaves (s seen : State) (w : Who) (v : Nat) : State :=
  let code := commitWordCode seen w v
  if code = 0x0201 then violation s 0 w.parish 2 0x50 1 w.op w.session
  else if code ≠ 0 then s
  else match commitFailOf seen w v with
    | some f => commitRefused s w (field v 31 16) f
    | none => s

/-- A write of COMMIT. -/
def writeCommit (s : State) (w : Who) (v : Nat) : State :=
  let code := commitCode s w v
  withStatus (if code = 0 then commitAct s v else commitLeaves s s w v) code

/-- The sender of a COMMIT command: a parish with its session, or none. -/
def commitBy (s : State) (p session : Nat) : Who := { parish := p, session := if openOf s p session then session else 0 }

/-- COMMIT (R351): action 1. -/
def execCommitPending (mask p session : Nat) (s : State) : Result State :=
  withParish p (writeCommit s (commitBy s p session) (1 + mask % 65536 * 65536))

/-- APPLY (R351): action 2. -/
def execApplyPending (mask p session : Nat) (s : State) : Result State :=
  withParish p (writeCommit s (commitBy s p session) (2 + mask % 65536 * 65536))

/-- DISCARD (R351): action 3. -/
def execDiscardPending (mask p : Nat) (s : State) : Result State :=
  withParish p (writeCommit s (commitBy s p 0) (3 + mask % 65536 * 65536))

/-! ### Persisting (R352, R434) -/

/-- The set that the current copy holds: the other copy where the current one failed its CRC, nothing where both did (R441). -/
def currentSet (s : State) : Tbl (List Byte) :=
  if setGood s 0 then s.persisted else if setGood s 1 then s.persistedOther else []

/-- The persisted set after a commit of the parishes in a mask: their values in force, and the earlier values of the others. -/
def persistSet (s : State) (mask : Nat) : Tbl (List Byte) :=
  let mine (k : Nat) : Bool := (keyOwner s k).any (fun p => bitOf mask p)
  (s.conf.filter (fun e => mine e.1)).foldl (fun t e => tput t e.1 e.2) ((currentSet s).filter (fun e => !mine e.1))

/-- Which copy stays beside the one that a persisting writes: the one that was loaded, else the failed current one (R352, R441). -/
def keptCopy (s : State) : Nat := if !setGood s 0 && setGood s 1 then 1 else 0

/-- PERSIST_DONE (R351, R352, R434): the whole set is written into the other copy, which becomes current, and the commit is DONE;
`erases` is the highest erase count of a sector of die 0's firmware NV. -/
def execPersistDone (erases : Nat) (s : State) : Result State :=
  .next (given (s.commit.state == 3) s (
    fwErased { s with
      persisted := persistSet s s.commit.mask, persistedBad := false
      persistedOther := if keptCopy s = 0 then s.persisted else s.persistedOther
      fw := { s.fw with
        setCrc := crc32 (setBytes (persistSet s s.commit.mask)), otherCrc := if keptCopy s = 0 then s.fw.setCrc else s.fw.otherCrc
        nvBad := (s.fw.nvBad.filter (fun e => e.1 == keptCopy s)).map (fun e => (1, e.2)) }
      pend := s.pend.filter (fun e => !s.commit.keys.contains e.1)
      commit := { s.commit with state := 4 } } 0 erases))

end Sys2Proof.Machine
end

