-- ==== Sys2Proof/Machine/Ring.lean ====
section
/-! DEFINITION. The die ring: heartbeats, link frames, lost links and dies, and the trip sideband (chapter 1). Link l joins
die l and the next die of the ring (R19). -/

namespace Sys2Proof.Machine

/-! ### Heartbeats (R18) -/

/-- TIME ticks of the 100 µs in which a die expects a lead heartbeat (R18). -/
def heartbeatTicks : Nat := 25000

/-- Lead heartbeats that a die has missed since the last one it received (R18). -/
def hbMissed (s : State) (d : Nat) : Nat := (s.ticks - (s.dieAt d).hbAt) / heartbeatTicks

/-- LEAD_HEARTBEAT (R18): a non-lead die receives the heartbeat and restarts its count. -/
def execLeadHeartbeat (d : Nat) (s : State) : Result State :=
  withDie s d (given (d != 0 && !(s.dieAt d).lost) s (s.modDie d (fun x => { x with hbAt := s.ticks })))

/-- LEAD_HEARTBEAT_SEND (R18): every 100 µs die 0 sends a heartbeat to each other die in use, as a control frame (R19). -/
def execLeadHeartbeatSend (s : State) : Result State :=
  .next (given ((s.dieAt 0).hbSentAt.all (fun t => decide (t + heartbeatTicks ≤ s.ticks))) s (
    ((List.range (usedDies s)).drop 1).foldl (fun x d => if (x.dieAt d).lost then x else ringSend x { src := 0, dst := d })
      (s.modDie 0 (fun x => { x with hbSentAt := some s.ticks }))))

/-- LEAD_LOST (R18): after 5 missed heartbeats the die stops its rota at the frame boundary and drives its outputs off until
reset; RING 0x03 is its fault. -/
def execLeadLost (d : Nat) (s : State) : Result State :=
  withDie s d (given (d != 0 && (s.dieAt d).logicOn && !(s.dieAt d).lost && !(s.dieAt d).leadLost && decide (5 ≤ hbMissed s d)) s (
    let s1 := s.modDie d (fun x => { x with leadLost := true, stopAtFrame := true })
    raiseFault (soRefresh s1) d 0x0C 3 d 0 0 true))

/-! ### Link frames (R21) -/

/-- The die at the other end of a link. -/
def linkPeer (s : State) (l d : Nat) : Nat := if (linkEnds s l).1 = d then (linkEnds s l).2 else (linkEnds s l).1

/-- What a die does with an accepted frame: it keeps one for itself, and sends another on towards its destination (R20). -/
def takeFrame (s : State) (d : Nat) (f : RingFrame) : State :=
  if f.dst = d then s.modDie d (fun x => { x with delivered := x.delivered + 1 }) else keepFrame s d f

/-- RING_FRAME_RECEIVE (R19, R21): the next frame that a link carries, the oldest of the highest class its sender keeps, arrives
with the next link sequence number. The receiver checks the CRC: a bad frame stays with its sender, which sends it again. A good
one is acknowledged, so that its sender drops it, and accepted; one whose number has been accepted before is acknowledged and
discarded. -/
def execRingFrameReceive (d link seq cls : Nat) (crcOk : Bool) (s : State) : Result State :=
  if usedDies s ≤ d then .fault (.noSuchResource "die")
  else withUnit (decide (link < s.dies)) "ring link" (
    let e := linkEnds s link
    let src := linkPeer s link d
    let last := tget 0 (s.dieAt d).rxSeq link
    given (crcOk && (e.1 == d || e.2 == d) && linkUp s link && !(s.dieAt d).lost) s (
      if seq ≤ last then s.modDie src (fun x => { x with acks := tput x.acks link (max seq (tget 0 x.acks link)) })
      else match tget [] (s.dieAt src).unacked link with
        | [] => s
        | f :: rest => given (decide (seq = last + 1) && f.cls == cls) s (
            let s1 := s.modDie src (fun x => { x with acks := tput x.acks link seq, unacked := tput x.unacked link rest })
            takeFrame (s1.modDie d (fun x => { x with rxSeq := tput x.rxSeq link seq })) d f)))

/-- The frames that a die keeps for a lost link go the other way round, each in its place among those of the other link; they
take that link's sequence numbers (R21). -/
def resend (s : State) (d link other : Nat) : State :=
  s.modDie d (fun x => { x with
    unacked := tput (tput x.unacked other ((tget [] x.unacked link).foldl (fun l f => placeFrame f l) (tget [] x.unacked other)))
      link [] })

/-- Whether a die in use is cut off: both its links are lost, or it reaches die 0 in neither direction (R22). -/
def cutOff (s : State) (d : Nat) : Bool :=
  (!linkUp s d && !linkUp s ((d + s.dies - 1) % s.dies)) || !reachesLead s d

/-- RING_LINK_LOST (R21, R22): the link is declared lost, its unacknowledged frames are sent the other way round, RING 0x01
is recorded and the replacement reason set; a die that is cut off is lost, the lead die last. During a ring loopback of the
link its loss is neither a fault nor a reason (R454). -/
def execRingLinkLost (link : Nat) (s : State) : Result State :=
  withUnit (decide (link < s.dies)) "ring link" (given (!s.test.linkDown.contains link) s (
    let e := linkEnds s link
    let s1 := { s with test := { s.test with linkDown := addOnce s.test.linkDown link } }
    let s2 := resend (resend s1 e.1 link ((link + s.dies - 1) % s.dies)) e.2 link ((link + 1) % s.dies)
    if tget 0 s.test.ringLoop link ≠ 0 then s2
    else
      let s3 := requestReason (raiseFault s2 0 0x0C 1 link 0 0 false) 1 e.1
      if usedDies s = 1 then s3
      else ((List.range (usedDies s)).drop 1 ++ [0]).foldl (fun x d => if cutOff x d then loseDie x d else x) s3))

/-! ### Trips on the sideband and the matrix route (R23, R27) -/

/-- A direct or sideband request reaches, or leaves, the outputs of a die (R27). -/
def directRequest (s : State) (d outputs : Nat) (on : Bool) : State :=
  soRefresh (s.modDie d (fun x => { x with
    directReq := (List.range 2).foldl (fun a o => if bitOf outputs o then putBit a o on else a) x.directReq }))

/-- SIDEBAND_PAIR_FAULT (R23): equal levels on a pair act as a trip of its outputs and raise RING 0x04 to the die's reeve. -/
def execSidebandPairFault (d outputs : Nat) (s : State) : Result State :=
  withDie s d (raiseFault (directRequest s d outputs true) d 0x0C 4 d 0 0 true)

/-- SAFETY_OUTPUT_TRIP_REQUEST (R27): a request of the direct or sideband route acts as soon as it arrives; `on` false is the
end of the request. -/
def execSafetyOutputTripRequest (d outputs : Nat) (on : Bool) (s : State) : Result State :=
  withDie s d (directRequest s d outputs on)

/-- MATRIX_TRIP_CONFIRMED (R27): a column of kind 6 has requested an output for 3 consecutive SYS cycles. -/
def execMatrixTripConfirmed (d c : Nat) (s : State) : Result State :=
  withDie s d (
    let x := s.colAt (rk d c)
    given (x.level && x.dest / 4096 == 6) s (soRefresh (s.modDie d (fun y => { y with
      matrixReq := setBit y.matrixReq (x.dest % 2) }))))

end Sys2Proof.Machine
end

