-- ==== Sys2Proof/Machine/StartUp.lean ====
section
/-! DEFINITION. Resets and starts, faults that reset the part, the self-test and the loopbacks (R373, R403, R409, R438, R439,
R451 to R458). -/

namespace Sys2Proof.Machine

/-! ### Starts and resets (R409, R438, R439) -/

/-- The page writes in progress on some dies are cut, each with its group and the bits of it that came out new (R255). -/
def tearPages (s : State) (cut : List (Nat × Nat × Nat)) : State :=
  cut.foldl (fun u q => tearPage u q.1 q.2.1 q.2.2) s

/-- VIN_VALID (R438, R439): VIN has become valid, from below 2 V where `low` holds. The pins CMPT, SVC_ADDR and TESTEN are sampled;
`nvBad` lists the bytes of the copies of the persisted set that read wrong, each with its copy, its place and the bits that differ, and
`fwBad` names the firmware slots that fail their checks. -/
def execVinValid (vinMv : Nat) (low strap : Bool) (svcAddr : Nat) (testen : Bool) (nvBad : List (Nat × Nat × Nat)) (fwBad : Nat) (s : State) :
    Result State :=
  .next (given (!s.power.vinOk && 8800 < vinMv) s (
    restart { s with
      cmptStrap := strap, testen := testen, svc := { s.svc with straps := svcAddr % 8, addr := 0x58 + svcAddr % 8 }
      resetCause := if low then 0 else s.resetCause
      fw := { s.fw with nvBad := nvBad, badSlots := fwBad }
      power := { s.power with vinOk := true, vinMv := vinMv } }))

/-- VIN_DIP (R255, R438): the supply fails and the hub resets; `torn` names the dies whose page write it cuts, each with the group in
progress, and `masks` for each of them the bits of that group that came out new. The start follows when VIN is valid again. -/
def execVinDip (torn : List (Nat × Nat)) (masks : List Nat) (s : State) : Result State :=
  .next (given s.power.vinOk s (
    let s1 := resetPart (tearPages s ((torn.zip masks).map (fun q => (q.1.1, q.1.2, q.2)))) 1
    { s1 with power := { s1.power with vinOk := false } }))

/-- A reset that a fault of the part brings about runs the start-up sequence (R438). -/
def rebooted (before after : State) : State := if before.dictReady && !after.dictReady then restart after else after

/-- A write of RESET (R438): 0x0000_5A5A resets the part; another value is out of range. -/
def writeReset (s : State) (v : Nat) : State :=
  if v = 0x5A5A then restart (resetPart s 4) else withStatus s 0x0302

/-- RESET (R438). -/
def execResetWrite (value : Nat) (s : State) : Result State := .next (writeReset s value)

/-- THERMAL_SHUTDOWN (R256, R374, R438): a die reaches 150 °C; the outputs go safe and the part resets, and starts again once it has
cooled. `torn` names the dies with a page write in progress and `groups` the group of each, which the die completes (R256). -/
def execThermalShutdown (d : Nat) (temp : Int) (torn groups : List Nat) (s : State) : Result State :=
  withDie s d (given (1500 ≤ temp) s (
    let s1 := raiseFault (s.modDie d (fun x => { x with temp := temp })) d 7 2 0 (ofInt 32 temp) 0 true
    let s2 := resetPart (tearPages s1 ((torn.zip groups).map (fun q => (q.1, q.2, 2 ^ 64 - 1)))) 2
    { s2 with power := { s2.power with thermDown := true } }))

/-- THERMAL_RESTART (R438): every die reads below 125 °C; `temps` are the temperatures in 0.1 °C. -/
def execThermalRestart (temps : List Int) (s : State) : Result State :=
  .next (given (s.power.thermDown && temps.length == s.dies && temps.all (fun t => decide (t < 1250))) s (
    let s1 := (List.range s.dies).foldl (fun u d => u.modDie d (fun x => { x with temp := nth 0 temps d })) s
    restart { s1 with power := { s1.power with thermDown := false } }))

/-- WAKE_PIN_START (R409): the WAKE pin, held high for 10 ms, starts the hub from OFF. -/
def execWakePinStart (s : State) : Result State :=
  .next (given (s.power.state == 4) s (restart { s with power := { s.power with state := 0 } }))

/-- A request that start-up held back is looked at again once start-up is over (R443). -/
def startOver (before after : State) : State := if starting before && !starting after then servePending after else after

/-- FRAME_BEGIN (R181). -/
def execFrameBegin (d : Nat) (s : State) : Result State :=
  withDie s d (given (atBoundary s d) s (startOver s (beginFrame (boundary (pointRecord s d) d) d)))

/-- PARISH_STATE_CHANGE (R293): a die takes a decided change at its frame boundary, or at once where it has no rota. A parish
without a resource on any die takes its state with it. -/
def execParishStateChange (d p : Nat) (s : State) : Result State :=
  if usedDies s ≤ d then .fault (.noSuchResource "die")
  else
    let x := s.dieAt d
    withParish p (given (!x.active.valid || !x.logicOn || x.lost || x.leadLost || atBoundary s d) s (startOver s (takeState s d p)))

/-- DIE_STARTUP_TIMEOUT (R439): a die that has not completed step 7 is a lost die; the others go on. -/
def execDieStartupTimeout (d : Nat) (s : State) : Result State :=
  withDie s d (given (d != 0 && s.dictReady && !(s.dieAt d).lost && (s.dieAt d).frames == 0) s (loseDie s d))

/-! ### Faults with the DIE reaction (R371, R373, R403) -/

/-- LOCKSTEP_MISMATCH (R373). -/
def execLockstepMismatch (d : Nat) (s : State) : Result State :=
  withDie s d (given (!(s.dieAt d).lost && (s.dieAt d).logicOn) s (rebooted s (dieReaction s d 0x03 1 0)))

/-- WATCHDOG_SERVICE (R373): accepted from 0.75 ms to 1.25 ms after the previous one; any other is a WATCHDOG fault. -/
def execWatchdogService (d : Nat) (s : State) : Result State :=
  withDie s d (given (!(s.dieAt d).lost && (s.dieAt d).logicOn) s (
    let since := (s.dieAt d).wdSince
    let s1 := s.modDie d (fun x => { x with wdSince := s.ticks, wdServed := true })
    if !(s.dieAt d).wdServed then s1
    else if s.ticks < since + 187500 then rebooted s (dieReaction s1 d 0x04 1 0)
    else if since + 312500 < s.ticks then rebooted s (dieReaction s1 d 0x04 2 0)
    else s1))

/-- WATCHDOG_TIMEOUT (R373): no service by 1.25 ms. -/
def execWatchdogTimeout (d : Nat) (s : State) : Result State :=
  withDie s d (given (!(s.dieAt d).lost && (s.dieAt d).logicOn && decide ((s.dieAt d).wdSince + 312500 ≤ s.ticks)) s (
    rebooted s (dieReaction s d 0x04 2 0)))

/-- RELOCK_TIMEOUT (R403): the die repeats the relock once; a second failure is CLOCK 0x01 and the die is treated as lost, on
die 0 the part resets. -/
def execRelockTimeout (d : Nat) (s : State) : Result State :=
  withDie s d (
    let x := s.dieAt d
    given (x.onFrc && x.opTarget.isSome && decide (x.relockAt + 50000 ≤ s.ticks)) s (
      let s1 := s.modDie d (fun y => { y with relocks := y.relocks + 1, relockAt := s.ticks, relockFails := satInc 65535 y.relockFails })
      if x.relocks = 0 then faultItem s1 d 0x12 2 d 0 0
      else
        let s2 := raiseFault (s1.modDie d (fun y => { y with opTarget := none })) d 5 1 0 0 0 true
        if d = 0 then rebooted s (resetPart s2 3) else opDone (loseDie s2 d)))

/-! ### The self-test (R458) -/

/-- The abort code of a write of SELFTEST. -/
def selfTestCode (s : State) (v : Nat) : Nat := if 1 < v then 0x0302 else if s.test.prodMode then 0 else 0x0403

/-- An accepted write of SELFTEST: 1 starts the self-test. -/
def selfTestAct (s : State) (v : Nat) : State := if v = 1 then { s with test := { s.test with selfRun := 1 } } else s

/-- A write of SELFTEST. -/
def writeSelfTest (s : State) (v : Nat) : State :=
  if selfTestCode s v = 0 then withStatus (selfTestAct s v) 0 else withStatus s (selfTestCode s v)

/-- SELFTEST (R458). -/
def execSelfTest (value : Nat) (s : State) : Result State := .next (writeSelfTest s value)

/-- SELFTEST_DONE (R458): the result of each die is reported; the march test has cleared the granary, and undelivered records count as
lost (R234). -/
def execSelfTestDone (failed : Nat) (s : State) : Result State :=
  .next (given (s.test.selfRun == 1) s (
    let s1 := (List.range (usedDies s)).foldl (fun u d => u.modDie d (fun x => { x with selfFailed := bitOf failed d })) s
    { s1 with
      test := { s1.test with selfRun := if failed % 2 ^ usedDies s = 0 then 2 else 3 }
      stream := s1.stream.map (fun e => (e.1, e.2.clear e.1)) }))

/-! ### Conditions of the loopbacks (R451) -/

/-- Whether a resource of a parish may run a loopback: its parish is in TEST or HALT, or the hub is in production mode. -/
def mayLoop (s : State) (p : Option Nat) : Bool :=
  s.test.prodMode || (match p with
    | some q => parishState s q == 1 || parishState s q == 4
    | none => false)

/-! ### Port loopbacks (R452) -/

/-- The abort code of a write of PORT_LOOP (R451, R456). -/
def portLoopCode (s : State) (n depth : Nat) : Nat :=
  if 4 < depth then 0x0302
  else if (s.portAt n).loopDepth ≠ 0 then 0x0402
  else if depth = 0 then 0
  else if !mayLoop s (portOwner s n) || (portOwner s n == some 1 && parishState s 1 == 2) then 0x0403
  else 0

/-- An accepted write of PORT_LOOP: operations that wait complete QUARANTINED, and the pins go high-Z in L0 and L2 or are driven in
L1 and L3. -/
def portLoopAct (s : State) (n depth : Nat) : State :=
  if depth = 0 then s
  else (quarantineOps s n).modPort n (fun x => { x with
    loopDepth := depth, loopResult := loopWord 1 depth 0 0, loopOe := x.pinOe, pinOe := if depth % 2 = 1 then 0 else 15 })

/-- A write of PORT_LOOP. -/
def writePortLoop (s : State) (n depth : Nat) : State :=
  if portLoopCode s n depth = 0 then withStatus (portLoopAct s n depth) 0 else withStatus s (portLoopCode s n depth)

/-- PORT_LOOP_L0 (R452). -/
def execPortLoopL0 (n : Nat) (s : State) : Result State :=
  .next (given (portCode s n == 0) (withStatus s (portCode s n)) (writePortLoop s n 1))
/-- PORT_LOOP_L1 (R452). -/
def execPortLoopL1 (n : Nat) (s : State) : Result State :=
  .next (given (portCode s n == 0) (withStatus s (portCode s n)) (writePortLoop s n 2))
/-- PORT_LOOP_L2 (R452). -/
def execPortLoopL2 (n : Nat) (s : State) : Result State :=
  .next (given (portCode s n == 0) (withStatus s (portCode s n)) (writePortLoop s n 3))
/-- PORT_LOOP_L3 (R452). -/
def execPortLoopL3 (n : Nat) (s : State) : Result State :=
  .next (given (portCode s n == 0) (withStatus s (portCode s n)) (writePortLoop s n 4))

/-! ### Network loopbacks (R453) -/

/-- The abort code of a write of NET_LOOP of a port that comes by port `via` (3 the service port): depths 1 to 3 not by the port
itself, and 0 only for a REMOTE loopback, by another port. -/
def netLoopCode (s : State) (n depth via : Nat) : Nat :=
  let x := s.netAt n
  if 4 < depth then 0x0302
  else if x.loopDepth = 4 ∧ depth = 0 then (if via = n then 0x0403 else 0)
  else if x.loopDepth ≠ 0 then 0x0402
  else if depth = 0 then 0
  else if !mayLoop s (some 0) || (via == n && depth < 4) then 0x0403
  else 0

/-- A REMOTE loopback ends, with its port's traffic as before; its run counts as passed (log entry 12). -/
def endRemote (s : State) (n : Nat) : State :=
  s.modNet n (fun x => { x with loopDepth := 0, remoteDue := false, loopResult := loopWord 2 4 0 0, upAt := s.ticks })

/-- An accepted write of NET_LOOP: in depths 1 to 3 the link goes down and failover follows R339; REMOTE begins at once, or, where
`waits` holds, after the RESPONSE to its write. -/
def netLoopAct (s : State) (n depth : Nat) (waits : Bool) : State :=
  if depth = 0 then if (s.netAt n).loopDepth = 4 then endRemote s n else s
  else
    let s1 := s.modNet n (fun x => { x with
      loopDepth := depth, loopResult := loopWord 1 depth 0 0, loopAt := s.ticks, remoteDue := waits && depth == 4
      link := x.link && depth == 4, onWire := if depth = 4 then x.onWire else none })
    if waits && depth == 4 then s1 else failover s1 n

/-- A write of NET_LOOP that needs no RESPONSE of its own. -/
def writeNetLoop (s : State) (n depth via : Nat) : State :=
  if netLoopCode s n depth via = 0 then withStatus (netLoopAct s n depth false) 0
  else withStatus s (netLoopCode s n depth via)

/-- NET_LOOP_MAC (R453). -/
def execNetLoopMac (n via : Nat) (s : State) : Result State :=
  .next (given (netCode n == 0) (withStatus s (netCode n)) (writeNetLoop s n 1 via))
/-- NET_LOOP_PCS (R453). -/
def execNetLoopPcs (n via : Nat) (s : State) : Result State :=
  .next (given (netCode n == 0) (withStatus s (netCode n)) (writeNetLoop s n 2 via))
/-- NET_LOOP_PMA (R453). -/
def execNetLoopPma (n via : Nat) (s : State) : Result State :=
  .next (given (netCode n == 0) (withStatus s (netCode n)) (writeNetLoop s n 3 via))
/-- NET_LOOP_REMOTE (R453). -/
def execNetLoopRemote (n via : Nat) (s : State) : Result State :=
  .next (given (netCode n == 0) (withStatus s (netCode n)) (writeNetLoop s n 4 via))
/-- NET_LOOP_STOP (R453). -/
def execNetLoopStop (n via : Nat) (s : State) : Result State :=
  .next (given (netCode n == 0) (withStatus s (netCode n)) (writeNetLoop s n 0 via))

/-- Whether a port reflects what it receives. -/
def reflects (s : State) (n : Nat) : Bool :=
  s.dictReady && (s.netAt n).link && (s.netAt n).loopDepth == 4 && !(s.netAt n).remoteDue

/-- REMOTE_FRAME_REFLECT (R453): the bytes of a received frame go back with its addresses exchanged. -/
def execRemoteFrameReflect (n : Nat) (raw : List Byte) (s : State) : Result State :=
  withNet n (given (reflects s n) s (s.modNet n (fun x => { x with
    rxFrames := x.rxFrames + 1, txFrames := x.txFrames + 1
    onWire := some { op := 21, payload := slice raw 6 6 ++ slice raw 0 6 ++ raw.drop 12 } })))

/-- LOOP_TIMEOUT_EXPIRY (R453). -/
def execLoopTimeoutExpiry (n : Nat) (s : State) : Result State :=
  withNet n (given (reflects s n && decide ((s.netAt n).loopAt + msTicks (1000 * cfg s 0xF000 5 10) ≤ s.ticks)) s (endRemote s n))

/-! ### Twin and ring loopbacks (R454) -/

/-- The abort code of a write of TWIN_LOOP. -/
def twinLoopCode (s : State) (depth : Nat) : Nat :=
  if 2 < depth then 0x0302
  else if s.twin.loopDepth ≠ 0 then 0x0402
  else if depth = 0 then 0
  else if !mayLoop s (some 1) || parishState s 1 == 2 then 0x0403
  else 0

/-- An accepted write of TWIN_LOOP. -/
def twinLoopAct (s : State) (depth : Nat) : State :=
  if depth = 0 then s else { s with twin := { s.twin with loopDepth := depth, loopResult := loopWord 1 depth 0 0 } }

/-- A write of TWIN_LOOP. -/
def writeTwinLoop (s : State) (depth : Nat) : State :=
  if twinLoopCode s depth = 0 then withStatus (twinLoopAct s depth) 0 else withStatus s (twinLoopCode s depth)

/-- TWIN_LOOP_NEAR (R454). -/
def execTwinLoopNear (s : State) : Result State := .next (writeTwinLoop s 1)
/-- TWIN_LOOP_FAR (R454). -/
def execTwinLoopFar (s : State) : Result State := .next (writeTwinLoop s 2)

/-- The machine with a loopback on a ring link. -/
def withRingLoop (s : State) (l depth : Nat) : State :=
  { s with test := { s.test with ringLoop := tput s.test.ringLoop l depth } }

/-- The abort code of a write of RING_LOOP: no other ring loopback runs, and no die becomes unreachable. -/
def ringLoopCode (s : State) (l depth : Nat) : Nat :=
  let u := withRingLoop s l 1
  if 1 < depth then 0x0302
  else if tget 0 s.test.ringLoop l ≠ 0 then 0x0402
  else if depth = 0 then 0
  else if !mayLoop s (some 0) || s.test.ringLoop.any (fun e => e.2 != 0)
      || !(List.range (usedDies s)).all (fun d => (s.dieAt d).lost || reachesLead u d) then 0x0403
  else 0

/-- An accepted write of RING_LOOP. -/
def ringLoopAct (s : State) (l depth : Nat) : State :=
  if depth = 0 then s
  else
    let u := withRingLoop s l depth
    { u with test := { u.test with ringResult := tput u.test.ringResult l (loopWord 1 depth 0 0).toNat } }

/-- A write of RING_LOOP. -/
def writeRingLoop (s : State) (l depth : Nat) : State :=
  if ringLoopCode s l depth = 0 then withStatus (ringLoopAct s l depth) 0 else withStatus s (ringLoopCode s l depth)

/-- RING_LOOP (R454). -/
def execRingLoop (l : Nat) (s : State) : Result State :=
  .next (given (decide (l < s.dies)) (withStatus s 0x0101) (writeRingLoop s l 1))

/-! ### The end of a loopback (R455) -/

/-- The result of a run that ends. -/
def loopDone (depth firstErr errors : Nat) : BitVec 32 := loopWord (if firstErr = 0 ∧ errors = 0 then 2 else 3) depth firstErr errors

/-- LOOPBACK_DONE (R455): the loopback of a port (kind 0), a network port (1, depths 1 to 3), the twin link (2) or a ring link (3)
ends with its first error and its count of failures. -/
def execLoopbackDone (kind n firstErr errors : Nat) (s : State) : Result State :=
  if 3 < kind ∨ 6 < firstErr then .fault (.noSuchOperand "loopback result")
  else if kind = 0 then
    withPort s n (given ((s.portAt n).loopDepth != 0) s
      (s.modPort n (fun x => x.endLoop (loopDone x.loopDepth firstErr errors))))
  else if kind = 1 then
    withNet n (given ((s.netAt n).loopDepth != 0 && (s.netAt n).loopDepth != 4) s (s.modNet n (fun x => { x with
      loopDepth := 0, loopResult := loopDone x.loopDepth firstErr errors })))
  else if kind = 2 then
    .next (given (s.twin.loopDepth != 0) s
      { s with twin := { s.twin with loopDepth := 0, loopResult := loopDone s.twin.loopDepth firstErr errors } })
  else withUnit (decide (n < s.dies)) "ring link" (
    let depth := tget 0 s.test.ringLoop n
    given (depth != 0) s
      { s with test := { s.test with
          ringLoop := tput s.test.ringLoop n 0
          ringResult := tput s.test.ringResult n (loopDone depth firstErr errors).toNat } })

end Sys2Proof.Machine
end

