-- ==== Sys2Proof/Machine/Dictionary.lean ====
section
/-! DEFINITION. Dictionary accesses: existence, rights, access codes, ranges and states of an entry, the effect of each write, and
the reads (R288 to R290, R300, R319, R328, R329, R342 to R345, R353, R412, R445, R449, R480). -/

namespace Sys2Proof.Machine

/-! ### Existence (R342, R445, R449) -/

/-- The native index of an SH-12 alias; any other index as it stands (R449). -/
def nativeIndex (s : State) (i : Nat) : Nat :=
  if !s.cmpt then i
  else if 0x1000 ≤ i ∧ i < 0x100C then portIdx (i - 0x1000) 0
  else if 0x1010 ≤ i ∧ i < 0x101C then portIdx (i - 0x1010) 8
  else if 0x1020 ≤ i ∧ i < 0x102C then portIdx (i - 0x1020) 9
  else if 0x1030 ≤ i ∧ i < 0x1048 then 0x6000 + 16 * (i - 0x1030)
  else if 0x1100 ≤ i ∧ i < 0x11F0 then 0x7000 + (i - 0x1100)
  else if i = 0x1200 then 0x50
  else i

/-- The object of an index and subindex; none where no table defines it, or its die is beyond those in use. -/
def findObj (s : State) (i sub : Nat) : Option (Lay × ObjRow) :=
  (layOf s.dies i).bind (fun l =>
    if (layDie l).all (fun d => decide (d < usedDies s)) then
      if sub = 0 then some (l, coRow 0 (.nat 1)) else (findRow l sub).map (fun r => (l, r))
    else none)

/-! ### Rights (R288, R289, R345, R360) -/

/-- The parish that an object's Owner column names; HIGHEST_SUB goes with its resource. -/
def objOwner (s : State) (l : Lay) (r : ObjRow) : Option Nat := if r.sub = 0 then layOwner s l else rowOwnerOf s l r

/-- Whether one of a parish's WRITE_RANGES holds an index (R288, R307). -/
def inRanges (s : State) (p i : Nat) : Bool := pairsName (valueOf s (okey (allocIdx p) 0xE)) i

/-- The die that refuses a write for want of rights; none where the writer has them. The lead steward checks the ranges, and the
resource's die the owner (R34). -/
def writeBarred (s : State) (w : Who) (i : Nat) (l : Lay) (r : ObjRow) : Option Nat :=
  if r.own = .any then none
  else if !inRanges s w.parish i then some 0
  else if objOwner s l r = some w.parish then none
  else some ((layDie l).getD 0)

/-- Who may read the objects of a layout beside their owner and parish 0 (R55, R56, R201, R228, R259, R283, R307, R341, R345, R359,
R394, R395, R417, R437, R460). -/
def layReaders : Lay → Nat → Rd
  | .identity, _ | .status, _ | .request, _ | .commit, _ | .compat, _ | .netGen, _ | .netPort _, _ | .netWin _, _
  | .parAlloc _, _ | .timeNow, _ | .timeRate, _ | .timeAdj, _ | .servo, _ | .ptp _, _ | .rota _, _ | .millDie _, _
  | .sieveDie _, _ | .granDie _, _ | .nvDie _, _ | .routeDie _, _ | .reeveDie _, _ | .tripMap _, _ | .verdictMap _, _
  | .power, _ | .powerDie _, _ | .powerPkg, _ | .bg, _ | .bgDie _, _ | .calPort _, _ => .all
  | .reeve, k => if k = 4 ∨ k = 7 ∨ k = 8 ∨ k = 9 ∨ k = 0xA ∨ k = 0xF ∨ k = 0x10 then .safety else .all
  | .twin, k => if k = 2 then .safety else .all
  | .test, k => if k = 3 then .all else .owner
  | .portLoop _, k | .netLoop _, k | .twinLoop, k | .ringLoop _, k => if k = 2 then .all else .owner
  | .engScratch _, _ | .parKey _, _ | .parDest _, _ => .ownerOnly
  | _, _ => .owner

/-- Whether a parish is named as a reader by an owner's READ_GRANT, or by a stream's READERS (R288, R360). -/
def granted (s : State) (p o : Nat) (l : Lay) : Bool :=
  bitOf (cfg s (0x2000 + 256 * o) 4 0) p || (match l with
    | .stream k => bitOf (readersOf s k) p
    | _ => false)

/-- Whether a parish may read an object (R288); a damaged ownership entry bars every parish (R289). -/
def mayRead (s : State) (p : Nat) (l : Lay) (r : ObjRow) : Bool :=
  r.sub = 0 || r.own = .any || (match objOwner s l r with
    | none => false
    | some o => p == 0 || p == o || (match layReaders l r.sub with
      | .all => true
      | .safety => p == 1
      | .ownerOnly => false
      | .owner => granted s p o l))

/-- Whether a read needs a session because it goes through the grant of another, SECURED parish (R300). -/
def grantSession (s : State) (p : Nat) (l : Lay) (r : ObjRow) : Bool :=
  r.sub != 0 && p != 0 && layReaders l r.sub == .owner && (objOwner s l r).any (fun o => o != p && secured s o)

/-! ### Blocks that are off (R88, R412) -/

/-- Whether the block that holds an object is off: its die lost or its logic off, or its port's domain off. -/
def blockOff (s : State) (l : Lay) : Bool :=
  (layDie l).any (fun d => (s.dieAt d).lost || !(s.dieAt d).logicOn) || (match l with
    | .port n _ => !domainOn s n
    | _ => false)

/-! ### Reads (R328, R329) -/

/-- The status of a read of one object (R328). -/
def readCode (s : State) (w : Who) (i sub : Nat) : Nat :=
  match findObj s i sub with
  | none => 0x0101
  | some (l, r) =>
    if !mayRead s w.parish l r then 0x0202
    else if grantSession s w.parish l r && w.session == 0 then 0x0504
    else if r.acc = .wo then 0x0204
    else if blockOff s l then 0x0401
    else if (s.dieAt 0).shadowBad.contains i then 0x0402
    else 0

/-- The value of an object that may be read. -/
def readValue (s : State) (i sub : Nat) : List Byte :=
  match findObj s i sub with
  | none => []
  | some (l, r) => readBytes s l r

/-- What a refused read leaves: a READ violation where rights lack (R290). -/
def readLeaves (s : State) (w : Who) (i sub code : Nat) : State :=
  if code = 0x0202 then
    violation s (((findObj s i sub).bind (fun x => layDie x.1)).getD 0) w.parish 3 i sub w.op w.session
  else s

/-! ### Writes: the check of one entry (R319, R328) -/

/-- The effect of a write on an object that acts at once, with its status in `lastStatus`: each write as its own rule gives it. -/
def directWrite (s : State) (w : Who) (l : Lay) (sub : Nat) (r : ObjRow) (b : List Byte) : State :=
  let v := leNat b
  match l, sub with
  | .commit, _ => writeCommit s w v
  | .firmware, 1 => withStatus { s with fw := { s.fw with image := b, state := 2 } } 0
  | .firmware, _ =>
    if s.fw.state ≠ 3 then withStatus s 0x0403
    else withStatus { s with fw := { s.fw with nextSlot := if v = 1 then some (1 - s.fw.slot) else s.fw.nextSlot } } 0
  | .parState p, _ => writeStateReq s p v
  | .parKey p, 1 =>
    if keyCode s p w.session b = 0 then withStatus (keyAct s p b) 0 else withStatus s (keyCode s p w.session b)
  | .parKey _, _ => writeArm s w.session v w.tagged
  | .timeRate, _ => writeRate s v
  | .timeAdj, 1 => writeOffset s (objInt r.ty b)
  | .timeAdj, 2 => writeTimeSet s v
  | .timeAdj, _ => withStatus { s with time := { s.time with adjMode := v } } 0
  | .servo, _ => writeReacquire s v
  | .port n _, _ => withStatus (writeQuarCtl s n v) 0
  | .granPar p, _ => withStatus (writeLogTrigger s p v) 0
  | .nvRegion d p, _ => withStatus (s.modRegion d p (fun g => { g with pageSel := v })) 0
  | .tally t, 5 => writeTop s t v
  | .tally t, 6 => writeCmp s t v
  | .tally t, _ => writeTallyCtl s t v
  | .tallyUnit u, _ => writeUnitCtl s u v
  | .reeve, 9 => writeRelease s v
  | .reeve, 0xF => writeLatchReset s v w.session
  | .reeve, _ => writeRetire s v
  | .power, 1 => writePowerCmd s v
  | .power, _ => writeOpSet s v
  | .calPort n, _ => writeCalReq s n v
  | .test, 1 => writeReset s v
  | .test, _ => writeSelfTest s v
  | .portLoop n, _ => writePortLoop s n v
  | .netLoop n, _ =>
    if netLoopCode s n v w.via = 0 then withStatus (netLoopAct s n v (w.via == n)) 0
    else withStatus s (netLoopCode s n v w.via)
  | .twinLoop, _ => writeTwinLoop s v
  | .ringLoop k, _ => writeRingLoop s k v
  | _, _ => withStatus s 0

/-- Whether the running commit holds an object: an RWP object of a parish in its mask (R353), or a rota bank that is checked or
armed (R198). -/
def heldByCommit (s : State) (l : Lay) (r : ObjRow) : Bool :=
  r.acc = .rwp && ((commitBusy s && (objOwner s l r).any (fun p => bitOf s.commit.mask p)) || (match l with
    | .rota d => r.sub == 1 && ((s.dieAt d).rotaState == 2 || (s.dieAt d).rotaState == 3)
    | _ => false))

/-- Whether a value passes the check of its range at the write; any value of STATE_REQ of parish 0 meets 0x0403 (R292, R480). -/
def rangePasses (l : Lay) (r : ObjRow) (b : List Byte) : Bool :=
  valOk r b || (match l with
    | .parState p => p == 0 && r.sub == 2
    | _ => false)

/-- The status of a write of one object (R328). -/
def entryCode (s : State) (w : Who) (i sub : Nat) (b : List Byte) : Nat :=
  match findObj s i sub with
  | none => 0x0101
  | some (l, r) =>
    if (writeBarred s w i l r).isSome then 0x0201
    else if r.acc = .co ∨ r.acc = .ro then 0x0203
    else if !r.ty.lenOk b.length then 0x0301
    else if !rangePasses l r b then 0x0302
    else if blockOff s l then 0x0401
    else if heldByCommit s l r then 0x0402
    else if r.acc = .rwp then 0
    else (directWrite s w l sub r b).net.lastStatus

/-! ### Writes: the effect of one entry (R329, R351) -/

/-- A setting becomes pending; a written NEXT_IMAGE leaves its rota WRITTEN (R197, R351). What is written to a reserved field is
ignored (R13). -/
def pendWrite (s : State) (l : Lay) (r : ObjRow) (b : List Byte) : State :=
  if r.mask = some 0 then s
  else
    let s1 := { s with pend := tput s.pend (okey (layIndex l) r.sub) (maskVal r b) }
    match l, r.sub with
    | .rota d, 1 => s1.modDie d (fun x => { x with rotaState := 1 })
    | _, _ => s1

/-- GENERATION follows a change of the value that a read of the object returns. -/
def followGen (before after : State) (l : Lay) (r : ObjRow) : State :=
  if (r.acc = .rwp ∨ r.acc = .rw) ∧ readBytes before l r ≠ readBytes after l r then
    bumpGen after (okey (layIndex l) r.sub)
  else after

/-- The effect of a write that passes its check. -/
def entryAct (s : State) (w : Who) (i sub : Nat) (b : List Byte) : State :=
  match findObj s i sub with
  | none => s
  | some (l, r) =>
    followGen s (if r.acc = .rwp then pendWrite s l r b else directWrite s w l sub r b) l r

/-- What a refused write leaves on the machine `s`, with its code from a check on `seen`: the violations of R290, and the marks of a
refused commit (R351). -/
def entryLeaves (s seen : State) (w : Who) (i sub : Nat) (b : List Byte) (code : Nat) : State :=
  match findObj s i sub with
  | none => s
  | some (l, r) =>
    match writeBarred seen w i l r with
    | some d => violation s d w.parish 2 i sub w.op w.session
    | none => match l, sub with
      | .parKey _, 6 => if code = 0x0504 ∨ code = 0x0502 then armViolation s w.parish i sub w.session else s
      | .reeve, 0xF => if code = 0x0603 then armViolation s w.parish i sub w.session else s
      | .commit, 1 => if b.length = 4 then commitLeaves s seen w (leNat b) else s
      | _, _ => s

/-- One write of a WRITE: index, subindex and value. -/
abbrev WriteEntry := Nat × Nat × List Byte

/-- The entries of a WRITE judged in order, each with the earlier ones in effect (R319): the machine with every entry that passes,
the machine with what the refused ones leave, and the codes. -/
def judgeEntries (w : Who) : State → State → List WriteEntry → State × State × List Nat
  | good, left, [] => (good, left, [])
  | good, left, (i0, sub, b) :: t =>
    let i := nativeIndex good i0
    let code := entryCode good w i sub b
    let rest := if code = 0 then judgeEntries w (entryAct good w i sub b) left t
      else judgeEntries w good (entryLeaves left good w i sub b code) t
    (rest.1, rest.2.1, code :: rest.2.2)

/-- An access to an object of another die goes to that die's steward over the ring (R17, R34). -/
def forwardFor (s : State) (w : Who) (i sub : Nat) : State :=
  match keyDie s (okey i sub) with
  | some d => if d = 0 ∨ (s.dieAt d).lost = true ∨ (s.dieAt d).logicOn = false then s else forward s d w.parish (okey i sub)
  | none => s

/-- A WRITE as a whole or not at all (R319): the machine after it, and the status of each entry. -/
def writeEntries (s : State) (w : Who) (es : List WriteEntry) : State × List Nat :=
  let s0 := es.foldl (fun u e => forwardFor u w (nativeIndex u e.1) e.2.1) s
  let j := judgeEntries w s0 s0 es
  if j.2.2.all (· == 0) then (j.1, j.2.2) else (j.2.1, j.2.2.map (fun c => if c = 0 then 0x0405 else c))

/-- The first status of a WRITE that is not 0. -/
def worstCode (cs : List Nat) : Nat := (cs.find? (· != 0)).getD 0

/-- The sender of a dictionary command of a parish in a session. -/
def sender (s : State) (p session : Nat) (tagged : Bool) : Who :=
  { parish := p, session := if openOf s p session then session else 0, tagged := tagged }

/-- A dictionary write by one parish outside any frame, with its status. -/
def writeOne (s : State) (w : Who) (i sub : Nat) (b : List Byte) : State :=
  let x := writeEntries s w [(i, sub, b)]
  withStatus x.1 (worstCode x.2)

/-- NEXT_IMAGE_WRITE (R197): a rota image is written to NEXT_IMAGE of a die, and ROTA_STATE becomes WRITTEN. -/
def execNextImageWrite (d p session : Nat) (image : List Byte) (s : State) : Result State :=
  withParish p (given (decide (d < usedDies s)) (withStatus s 0x0101)
    (writeOne s (sender s p session true) (0x6C00 + 128 * d) 1 image))

end Sys2Proof.Machine
end

