-- ==== Sys2Proof/Machine/Adp.lean ====
section
/-! DEFINITION. The Ahnup Dictionary Protocol: frames and their checks, sessions and tags, and the service of each request
(R298 to R301, R306, R312 to R327, R333). -/

namespace Sys2Proof.Machine

/-! ### Headers and tags (R298, R299, R314, R316) -/

/-- Header bytes 0 to 15, the header CRC among them (R314, R316). -/
def adpHeader (op flags parish session trans len count : Nat) : List Byte :=
  let h := leBytes 1 (16 + op) ++ leBytes 1 flags ++ leBytes 1 parish ++ leBytes 1 session ++ leBytes 4 trans ++ leBytes 2 len
    ++ leBytes 2 count
  h ++ leBytes 2 (crc16 (h ++ zeros 2)) ++ zeros 2

/-- The tag of a frame under a session key (R299). -/
def tagOf (ks header payload : List Byte) : List Byte := (aesCmac ks (header ++ payload)).take 8

/-- TAGGED of a host's frame. -/
def isTagged (f : HostFrame) : Bool := bitOf f.flags.toNat 1

/-- The tag that a host's frame must carry under a session key. -/
def frameTag (ks : List Byte) (op : Nat) (f : HostFrame) : List Byte :=
  tagOf ks (adpHeader op f.flags.toNat f.parish f.session f.transId f.payload.length f.objCount) f.payload

/-- The session key Ks (R298). -/
def sessionKey (kp : List Byte) (p n : Nat) (nonceH nonceD : List Byte) : List Byte :=
  aesCmac kp ([0x01, 0x41, 0x44, 0x50] ++ leBytes 1 p ++ leBytes 1 n ++ nonceH ++ nonceD)

/-! ### The form of a request (R316 to R318, R320 to R322, R325, R326, R333) -/

/-- The entries of a READ: index and subindex; none where a reserved byte is not zero or bytes are left over. -/
def parseReads : List Byte → Option (List (Nat × Nat))
  | [] => some []
  | a :: b :: c :: r :: t => if r = 0 then (parseReads t).map (fun l => (leNat [a, b], c.toNat) :: l) else none
  | _ => none

/-- The n entries of a WRITE; none where the payload does not hold just those, or a reserved or pad byte is not zero. -/
def parseWrites : Nat → List Byte → Option (List WriteEntry)
  | 0, pl => if pl.isEmpty then some [] else none
  | n + 1, pl =>
    let len := getLe pl 4 2
    let room := 8 + (len + 3) / 4 * 4
    if pl.length < room ∨ nth 0 pl 3 ≠ 0 ∨ getLe pl 6 2 ≠ 0 ∨ leNat (slice pl (8 + len) (room - 8 - len)) ≠ 0 then none
    else (parseWrites n (pl.drop room)).map (fun l => (getLe pl 0 2, (nth 0 pl 2).toNat, slice pl 8 len) :: l)

/-- Whether a host may send an opcode (R317). -/
def hostOp (op : Nat) : Bool := op ≤ 4 || op == 6 || op == 7 || op == 9 || op == 10 || op == 11

/-- Whether OBJ_COUNT and the payload agree, with every reserved byte zero (R316). -/
def shapeOk (op count : Nat) (pl : List Byte) : Bool :=
  let n := pl.length
  match op with
  | 0 => count == 0 && n ≤ 64
  | 1 => decide (1 ≤ count ∧ count ≤ 64 ∧ n = 4 * count) && (parseReads pl).isSome
  | 2 => decide (1 ≤ count ∧ count ≤ 64) && (parseWrites count pl).isSome
  | 3 => count == 1 && n == 12 && getLe pl 3 1 == 0 && getLe pl 10 2 == 0 && decide (1 ≤ getLe pl 8 2 ∧ getLe pl 8 2 ≤ 1464)
  | 4 => count == 1 && decide (16 ≤ n) && getLe pl 3 1 == 0 && getLe pl 14 2 == 0
      && decide (1 ≤ getLe pl 12 2 ∧ getLe pl 12 2 ≤ 1460 ∧ n = 16 + getLe pl 12 2)
  | 6 => count == 0 && n == 6 && getLe pl 4 2 == 0
  | 7 => n == 4 * count && (List.range count).all (fun k => getLe pl (4 * k + 2) 2 == 0)
  | 9 => count == 0 && n == 4 && getLe pl 2 2 == 0
  | 10 => count == 0 && n == 0
  | 11 => count == 0 && n == 12 && getLe pl 1 3 == 0
      && (getLe pl 0 1 == 1 || ((getLe pl 0 1 == 2 || getLe pl 0 1 == 3) && getLe pl 4 8 == 0))
  | _ => false

/-- Checks 5 and 6 of R316: HUB and the reserved bits clear, no tag without TAGGED, a payload of the opcode's form, and an opcode
that a host may send. A PARISH above 15 fails here too (log entry 12). -/
def formOk (op : Nat) (f : HostFrame) : Bool :=
  !bitOf f.flags.toNat 0 && field f.flags.toNat 7 5 == 0 && (isTagged f || leNat f.tag == 0) && decide (f.parish < 16)
    && decide (f.payload.length ≤ 1476) && hostOp op && shapeOk op f.objCount f.payload

/-! ### Responses (R312, R315, R317, R327) -/

/-- What the service of a request gives: the machine after it, the RESPONSE's payload and ERR, its SESSION byte, and whether the
request is answered at all. -/
structure Answer where
  state : State
  payload : List Byte := []
  err : Bool := false
  session : Nat := 0
  silent : Bool := false

/-- A status word of a RESPONSE. -/
def statusBytes (code : Nat) : List Byte := leBytes 2 code ++ zeros 2

/-- An answer of status words. -/
def statusAnswer (s : State) (f : HostFrame) (codes : List Nat) : Answer :=
  { state := s, payload := codes.flatMap statusBytes, err := codes.any (· != 0), session := f.session }

/-- The answer to a frame that one of checks 5 to 7 refuses: its code in the status of every entry of a READ, WRITE or STREAM, in one
status word otherwise, with the fields of an OPEN's RESPONSE after it zero (log entry 12). -/
def refusal (s : State) (op : Nat) (f : HostFrame) (code : Nat) : Answer :=
  let n := if (op = 1 ∨ op = 2 ∨ op = 7) ∧ 1 ≤ f.objCount ∧ f.objCount ≤ 369 then f.objCount else 1
  let a := statusAnswer s f (List.replicate n code)
  if op = 11 ∧ getLe f.payload 0 1 = 1 then { a with payload := statusBytes code ++ zeros 8 } else a

/-- The RESPONSE to a request on the port by which it came; with a key it is tagged (R300, R312). On the service port it is held
until it has been read (R116). -/
def respond (s : State) (f : HostFrame) (key : Option (List Byte)) (a : Answer) : State :=
  let flags := 1 + (if key.isSome then 2 else 0) + (if a.err then 8 else 0)
  let p := if f.parish < 16 then f.parish else 0
  let header := adpHeader 5 flags p a.session f.transId a.payload.length f.objCount
  let tag := match key with
    | some k => tagOf k header a.payload
    | none => []
  if 3 ≤ f.port then
    { s with svc := { s.svc with
        response := header ++ (if tag.isEmpty then zeros 8 else tag) ++ a.payload, ready := true, busy := false } }
  else enqueueFrame s (servingPort s f.port)
    { op := 5, dst := f.src, flags := flags, parish := p, session := a.session, transId := f.transId, objCount := f.objCount
      tag := tag, payload := a.payload }

/-- A request that is not answered. -/
def dropRequest (s : State) (f : HostFrame) : State :=
  if 3 ≤ f.port then { s with svc := { s.svc with busy := false } } else s

/-- The RESPONSE to a command that starts an entry is sent before it (R406). -/
def sendBefore (s : State) (f : HostFrame) : State :=
  if 3 ≤ f.port then s
  else match (s.netAt (servingPort s f.port)).waiting.getLast? with
    | some g => beginSend s (servingPort s f.port) g
    | none => s

/-! ### Sessions, tags and transaction IDs: check 7 (R298 to R301, R317, R326) -/

/-- Whether a request always needs a session of its parish: STREAM, WAKE_NOTICE and CLOSE. -/
def needsSession (op : Nat) : Bool := op == 7 || op == 10 || op == 11

/-- Whether a request of a SECURED parish must be tagged (R300). -/
def needsTag (op : Nat) : Bool := op == 2 || op == 4 || op == 6 || op == 9 || op == 11

/-- The object that a refused frame's violation names: its first entry's. -/
def firstObject (op : Nat) (f : HostFrame) : Nat × Nat :=
  if op = 1 ∨ op = 2 ∨ op = 3 ∨ op = 4 then (getLe f.payload 0 2, getLe f.payload 2 1) else (0, 0)

/-- A frame refused for its tag or its transaction ID (R301): counted in TAG_FAILS, recorded as a TAG violation, and the eighth in a
row closes the session. -/
def tagRefused (s : State) (op : Nat) (f : HostFrame) : State :=
  let o := firstObject op f
  let named := (findSession s f.session).any (fun x => x.parish == f.parish)
  let s1 := violation (s.modPar f.parish (fun x => { x with tagFails := x.tagFails + 1 })) 0 f.parish 4 o.1 o.2 op
    (if named then f.session else 0)
  let s2 := if named = true then modSession s1 f.session (fun x => { x with refusedRun := x.refusedRun + 1 }) else s1
  let closes : Bool := (findSession s2 f.session).any (fun x => x.parish == f.parish && decide (8 ≤ x.refusedRun))
  if closes = true then endSession s2 f.session else s2

/-- A valid frame of a session (R298, R299, R301). -/
def validFrame (s : State) (f : HostFrame) : State :=
  modSession s f.session (fun x => { x with
    lastAt := s.ticks, refusedRun := 0
    lastTrans := if isTagged f && !s.net.waiting.any (fun q => q.frame.session == f.session) then (f.transId : Int) else x.lastTrans })

/-- Check 7 of R316 for a request other than OPEN and CONFIRM: the machine after it, its code, and the open session that the frame
names. -/
def gate (s : State) (op : Nat) (f : HostFrame) : State × Nat × Option Session :=
  let x := if openOf s f.parish f.session then findSession s f.session else none
  if f.session ≠ 0 ∧ (findSession s f.session).any (fun y => y.parish != f.parish) = true then (s, 0x0501, none)
  else if isTagged f then
    match x, x.bind (·.key) with
    | some y, some k =>
      if f.tag ≠ frameTag k op f then (tagRefused s op f, 0x0502, none)
      else if (f.transId : Int) ≤ y.lastTrans then (tagRefused s op f, 0x0503, none)
      else (validFrame s f, 0, x)
    | _, _ => (tagRefused s op f, 0x0502, none)
  else match x with
    | none =>
      if needsSession op || (op != 0 && (secured s f.parish || f.session != 0)) then (s, 0x0504, none) else (s, 0, none)
    | some _ =>
      if secured s f.parish && needsTag op then (tagRefused s op f, 0x0502, none) else (validFrame s f, 0, x)

/-! ### SESSION (R298, R301, R323, R326) -/

/-- The lowest session number that no session holds. -/
def freeSession (s : State) : Nat := (((List.range 256).drop 1).find? (fun n => (findSession s n).isNone)).getD 0

/-- OPEN: a number and a nonce are allocated, within 16 sessions and 4 of the parish (R298, R301). -/
def openSession (s : State) (f : HostFrame) : Answer :=
  let mine := (s.sessions.filter (fun x => x.parish == f.parish)).length
  if f.session ≠ 0 then refusal s 11 f 0x0102
  else if isTagged f then refusal (tagRefused s 11 f) 11 f 0x0502
  else if (s.parAt f.parish).openBlocked ∨ 16 ≤ s.sessions.length ∨ 4 ≤ mine then
    refusal s 11 f 0x0504
  else
    let n := freeSession s
    let d := s.draw 64
    let nonceD := leBytes 8 d.1
    let s1 := { d.2 with sessions := s.sessions ++ [{
      num := n, parish := f.parish, nonceH := slice f.payload 4 8, nonceD := nonceD, src := f.src, port := f.port, lastAt := s.ticks }] }
    { state := s1, payload := leBytes 2 0 ++ leBytes 1 n ++ zeros 1 ++ nonceD, session := n }

/-- A failed CONFIRM step: the eighth within one second has OPEN refused for the next (R301). -/
def confirmFailed (s : State) (p : Nat) : State :=
  s.modPar p (fun x =>
    let recent := s.ticks :: x.openFails.filter (fun t => s.ticks < t + msTicks 1000)
    if 8 ≤ recent.length then { x with openFails := [], openBlocked := true, openBlockedAt := s.ticks } else { x with openFails := recent })

/-- Whether a CONFIRM carries the tag that its session asks for: under Ks, or zero where the parish's key is EMPTY (R298). -/
def confirmOk (s : State) (x : Session) (f : HostFrame) : Bool :=
  match (s.parAt x.parish).key with
  | none => !isTagged f
  | some kp => isTagged f && f.tag == frameTag (sessionKey kp x.parish x.num x.nonceH x.nonceD) 11 f

/-- CONFIRM: the session opens, with the key that its RESPONSE is tagged under (R298, R300, R301, R323). -/
def confirmSession (s : State) (f : HostFrame) : Answer × Option (List Byte) :=
  match findSession s f.session with
  | none => (statusAnswer (confirmFailed s f.parish) f [0x0504], none)
  | some x =>
    if x.parish ≠ f.parish then (statusAnswer s f [0x0501], none)
    else if x.isOpen then (statusAnswer (confirmFailed s f.parish) f [0x0504], none)
    else if !confirmOk s x f then (statusAnswer (tagRefused (confirmFailed s f.parish) 11 f) f [0x0502], none)
    else
      let ks := (s.parAt x.parish).key.map (fun kp => sessionKey kp x.parish x.num x.nonceH x.nonceD)
      let s1 := modSession s x.num (fun y => { y with
        isOpen := true, key := ks, lastAt := s.ticks, refusedRun := 0
        lastTrans := if isTagged f then (f.transId : Int) else y.lastTrans })
      let s2 := s1.modPar x.parish (fun y => { y with destSrc := if x.port < 3 then some (x.src, x.port) else y.destSrc })
      (statusAnswer s2 f [0], ks)

/-! ### READ and WRITE (R318, R319) -/

/-- Bytes padded with zeros to a multiple of 4. -/
def pad4 (b : List Byte) : List Byte := b ++ zeros ((4 - b.length % 4) % 4)

/-- The entries of a READ taken in order, with the bytes used so far; once a value does not fit, it and every later entry carry
0x0103 (R318, R329). Room is kept for the status of each later entry. -/
def readEntries (w : Who) : Nat → Bool → State → List (Nat × Nat) → State × List Byte × Bool
  | _, _, s, [] => (s, [], false)
  | used, full, s, (i0, sub) :: t =>
    let i := nativeIndex s i0
    let code := readCode s w i sub
    let v := if code = 0 then readValue s i sub else []
    if full ∨ 1476 < used + 4 + (pad4 v).length + 4 * t.length then
      let r := readEntries w (used + 4) true s t
      (r.1, statusBytes 0x0103 ++ r.2.1, true)
    else
      let r := readEntries w (used + 4 + (pad4 v).length) false (readLeaves (forwardFor s w i sub) w i sub code) t
      (r.1, leBytes 2 code ++ leBytes 2 v.length ++ pad4 v ++ r.2.1, code != 0 || r.2.2)

/-- READ (R318). -/
def serveRead (s : State) (w : Who) (f : HostFrame) : Answer :=
  let r := readEntries w 0 false s ((parseReads f.payload).getD [])
  { state := r.1, payload := r.2.1, err := r.2.2, session := f.session }

/-- Whether an entry asks for a reset. -/
def isReset (e : WriteEntry) : Bool := e.1 == 0xF000 && e.2.1 == 1

/-- WRITE (R319). A reset leaves nothing to answer with (R438). -/
def serveWrite (s : State) (w : Who) (f : HostFrame) : Answer :=
  let es := (parseWrites f.objCount f.payload).getD []
  let r := writeEntries s w es
  { statusAnswer r.1 f r.2 with silent := r.2.all (· == 0) && es.any isReset }

/-! ### Blocks (R320, R321, R329) -/

/-- The size of an object in bytes. -/
def objSize (t : ObjType) : Nat :=
  match t with
  | .str m => m
  | .blob m _ => m
  | _ => t.size

/-- GENERATION of an object that the hub itself changes follows the value last returned (log entry 12). -/
def followRead (s : State) (key : Nat) (v : List Byte) : State :=
  let s1 := match s.seen.find? (fun e => e.1 == key) with
    | some e => if e.2 = v then s else bumpGen s key
    | none => s
  { s1 with seen := tput s1.seen key v }

/-- READ_BLOCK (R320). -/
def serveReadBlock (s0 : State) (w : Who) (f : HostFrame) : Answer :=
  let pl := f.payload
  let i := nativeIndex s0 (getLe pl 0 2)
  let sub := getLe pl 2 1
  let s := forwardFor s0 w i sub
  let off := getLe pl 4 4
  let code := readCode s w i sub
  if code ≠ 0 then
    { state := readLeaves s w i sub code, payload := leBytes 2 code ++ zeros 6 ++ leBytes 4 off, err := true, session := f.session }
  else
    let v := readValue s i sub
    let stored := (findObj s i sub).any (fun x => x.2.acc == .rwp)
    let s1 := if stored then s else followRead s (okey i sub) v
    { state := s1, session := f.session
      payload := leBytes 2 0 ++ leBytes 2 (tget 0 s1.gens (okey i sub)) ++ leBytes 4 v.length ++ leBytes 4 off
        ++ slice v off (getLe pl 8 2) }

/-- Whether a block transfer belongs to the sender of a frame: its session, or outside a session its source (R320). -/
def sameSource (b : BlockXfer) (f : HostFrame) : Bool :=
  b.session == f.session && (f.session != 0
    || (b.parish == f.parish && (if 3 ≤ f.port then decide (3 ≤ b.port) else decide (b.port < 3) && b.src == f.src)))

/-- The code of a WRITE_BLOCK segment before its value is complete (R320, R328). -/
def segmentCode (s : State) (w : Who) (f : HostFrame) : Nat :=
  let pl := f.payload
  let i := nativeIndex s (getLe pl 0 2)
  let sub := getLe pl 2 1
  let off := getLe pl 4 4
  let total := getLe pl 8 4
  let names (b : BlockXfer) : Bool := b.index == i && b.sub == sub
  match findObj s i sub with
  | none => 0x0101
  | some (l, r) =>
    if (writeBarred s w i l r).isSome then 0x0201
    else if r.acc = .co ∨ r.acc = .ro then 0x0203
    else if objSize r.ty < total then 0x0301
    else if s.net.blocks.any (fun b => names b && !sameSource b f) then 0x0404
    else if total < off + getLe pl 12 2 then 0x0303
    else match s.net.blocks.find? (fun b => sameSource b f) with
      | none => if off = 0 then 0 else 0x0303
      | some b =>
        if !names b then if off = 0 then 0x0404 else 0x0303
        else if off = 0 ∨ (off = b.data.length ∧ total = b.total) then 0 else 0x0303

/-- What a refused segment leaves: a WRITE violation, or the end of the transfer that it breaks (R290, R320). -/
def segmentLeaves (s : State) (w : Who) (f : HostFrame) (code : Nat) : State :=
  let i := nativeIndex s (getLe f.payload 0 2)
  let sub := getLe f.payload 2 1
  if code = 0x0201 then entryLeaves s s w i sub [] code
  else if code = 0x0303 then closeXfers s (fun b => sameSource b f && b.index == i && b.sub == sub)
  else s

/-- WRITE_BLOCK (R320): the segment opens a transfer or continues it, and the one that reaches TOTAL writes the whole value. -/
def serveWriteBlock (s : State) (w : Who) (f : HostFrame) : Answer :=
  let pl := f.payload
  let i := nativeIndex s (getLe pl 0 2)
  let sub := getLe pl 2 1
  let off := getLe pl 4 4
  let total := getLe pl 8 4
  let code := segmentCode s w f
  if code ≠ 0 then statusAnswer (segmentLeaves s w f code) f [code]
  else
    let mine (b : BlockXfer) : Bool := sameSource b f && b.index == i && b.sub == sub
    let before := if off = 0 then none else s.net.blocks.find? mine
    let data := (before.map (·.data)).getD [] ++ pl.drop 16
    let s1 := closeXfers s mine
    if data.length = total then
      let r := writeEntries s1 w [(i, sub, data)]
      { statusAnswer r.1 f r.2 with silent := r.2.all (· == 0) && isReset (i, sub, data) }
    else
      let b : BlockXfer := {
        session := f.session, parish := f.parish, port := f.port, src := f.src, index := i, sub := sub, total := total, data := data
        transIds := f.transId :: (before.map (·.transIds)).getD [], lastAt := s.ticks }
      statusAnswer { s1 with net := { s1.net with blocks := s1.net.blocks ++ [b] }
                             fw := if i = 0xF800 then { s1.fw with state := 1 } else s1.fw } f [0]

/-- Whether a waiting request belongs to the sender of a frame (R321). -/
def sameSender (q : Request) (f : HostFrame) : Bool :=
  q.frame.session == f.session && (f.session != 0
    || (q.frame.parish == f.parish && (if 3 ≤ f.port then decide (3 ≤ q.frame.port) else decide (q.frame.port < 3) && q.frame.src == f.src)))

/-- The waiting request that a host's ABORT names. -/
def abortedRequest (s : State) (f : HostFrame) : Option Request :=
  s.net.waiting.find? (fun q => q.frame.transId == getLe f.payload 0 4 && sameSender q f)

/-- ABORT of a host (R321). -/
def serveAbort (s : State) (f : HostFrame) : Answer :=
  let mine (b : BlockXfer) : Bool := sameSource b f && b.transIds.contains (getLe f.payload 0 4)
  match abortedRequest s f with
  | some q => statusAnswer (dropRequest { s with net := { s.net with waiting := s.net.waiting.erase q } } q.frame) f [0]
  | none => if s.net.blocks.any mine then statusAnswer (closeXfers s mine) f [0] else statusAnswer s f [0x0104]

/-! ### STREAM, SLEEP_VOTE, WAKE_NOTICE (R322, R325, R333) -/

/-- The status of a stream that a request names (R322). -/
def streamCode (s : State) (p k : Nat) : Nat :=
  if usedDies s * 512 ≤ k then 0x0101
  else if !mayPull s p k then 0x0202
  else if streamDelivery s k = 1 ∨ streamDelivery s k = 2 then 0
  else 0x0403

/-- A host's STREAM request (R241, R322). -/
def serveStream (s : State) (f : HostFrame) : Answer :=
  let ks := (List.range f.objCount).map (fun j => getLe f.payload (4 * j) 2)
  let good := ks.filter (fun k => streamCode s f.parish k = 0)
  statusAnswer (s.modPar f.parish (fun x => { x with
    deliverAll := x.deliverAll || ks.isEmpty, pulls := good.foldl addOnce x.pulls })) f (ks.map (streamCode s f.parish))

/-- A host's SLEEP_VOTE (R333): SLEEP sets HOST_ASLEEP with its TARGET; STAY clears it and cancels an agreement. -/
def serveVote (s : State) (f : HostFrame) : Answer :=
  let vote := getLe f.payload 0 1
  let target := getLe f.payload 1 1
  if 1 < vote ∨ (vote = 1 ∧ target ≠ 1 ∧ target ≠ 2) then statusAnswer s f [0x0302]
  else if vote = 1 then statusAnswer (s.modPar f.parish (fun x => { x with hostAsleep := true, voteTarget := target })) f [0]
  else statusAnswer (voterActs (ackWake s f.parish) f.parish) f [0]

/-! ### Service of a request (R306, R316, R327, R333, R334) -/

/-- What a request of a session does before its own effect: it cancels an agreement of its parish's vote, and a READ, WRITE, block or
STREAM request acknowledges the crier's wake (R245, R333, R334). -/
def sessionActs (s : State) (op : Nat) (f : HostFrame) (x : Option Session) : State :=
  if x.isNone then s
  else
    let s1 := voterActs s f.parish
    if (1 ≤ op ∧ op ≤ 4) ∨ op = 7 then ackWake s1 f.parish else s1

/-- The effect of a request that has passed check 7. -/
def serveOp (s : State) (op : Nat) (f : HostFrame) (x : Option Session) : Answer :=
  let w : Who := { parish := f.parish, session := if x.isSome then f.session else 0, via := f.port, tagged := isTagged f, op := op }
  match op with
  | 0 => { state := s, payload := f.payload, session := f.session }
  | 1 => serveRead s w f
  | 2 => serveWrite s w f
  | 3 => serveReadBlock s w f
  | 4 => serveWriteBlock s w f
  | 6 => serveAbort s f
  | 7 => serveStream s f
  | 9 => serveVote s f
  | 10 => statusAnswer (ackWake s f.parish) f [0]
  | _ => statusAnswer s f [0]

/-- Whether the hub answers a request with both firmware slots failed: PING, and firmware writes to the vendor range (R306). -/
def bootServes (op : Nat) (f : HostFrame) : Bool :=
  op == 0 || (op == 2 && ((parseWrites f.objCount f.payload).getD []).all (fun e => e.1 == 0xF800))
    || (op == 4 && getLe f.payload 0 2 == 0xF800)

/-- A request is served and answered (R316, R327). -/
def serveRequest (s0 : State) (op : Nat) (f : HostFrame) : State :=
  let s := wakeIdle s0
  if !formOk op f then respond s f none (refusal s op f 0x0102)
  else if s.fw.boot && !bootServes op f then dropRequest s f
  else if op = 11 ∧ getLe f.payload 0 1 = 1 then
    let a := openSession s f
    respond a.state f none a
  else if op = 11 ∧ getLe f.payload 0 1 = 2 then
    let a := confirmSession s f
    respond a.1.state f a.2 a.1
  else
    let g := gate s op f
    if g.2.1 ≠ 0 then respond g.1 f none (refusal g.1 op f g.2.1)
    else
      let a := serveOp (sessionActs g.1 op f g.2.2) op f g.2.2
      let key := if isTagged f then g.2.2.bind (·.key) else none
      if a.silent then dropRequest a.state f
      else
        let s1 := respond a.state f key a
        let s2 := if s.power.state < 2 ∧ a.state.power.state = 5 then sendBefore s1 f else s1
        if op = 11 then endSession s2 f.session else s2

/-! ### Receipt (R312, R316, R327) -/

/-- A request joins those that wait, with the abort code that is to answer it, 0 for none; beyond 32 it is discarded and counted in RX_BUSY (R327). -/
def holdRequest (s : State) (op : Nat) (f : HostFrame) (code : Nat) : State :=
  if 32 ≤ s.net.waiting.length then { s with net := { s.net with rxBusy := s.net.rxBusy + 1 } }
  else { s with net := { s.net with waiting := s.net.waiting ++ [{ op := op, frame := f, code := code }] } }

/-- A well-formed ADP frame arrives at a network port: it is served at once unless others wait before it; an ABORT of a waiting
request acts at once (log entry 10). -/
def receiveAdp (s : State) (op : Nat) (f : HostFrame) : State :=
  let s1 := active (countRx s f.port)
  if s.net.waiting.isEmpty ∨ (op = 6 ∧ (abortedRequest s f).isSome = true) then serveRequest s1 op f else holdRequest s1 op f 0

/-- The effect of a host's frame with an opcode. -/
def hostFrame (op : Nat) (f : HostFrame) (s : State) : Result State :=
  withNet f.port (given (portLive s f.port) s (receiveAdp s op f))

/-- STEWARD_SERVE_REQUEST (R116, R119, R327): the lead steward takes the next waiting request. -/
def execStewardServeRequest (s : State) : Result State :=
  .next (match s.net.waiting with
    | [] => s
    | q :: t => given ((s.dictReady || s.fw.boot) && (s.power.state < 2 || 5 ≤ s.power.state)) s
        (let s1 := { s with net := { s.net with waiting := t } }
         if q.code = 0 then serveRequest s1 q.op q.frame
         else respond (wakeIdle s1) q.frame none (refusal (wakeIdle s1) q.op q.frame q.code)))

/-- ADP_PING (R317). -/
def execAdpPing (f : HostFrame) (s : State) : Result State := hostFrame 0 f s
/-- ADP_READ (R318). -/
def execAdpRead (f : HostFrame) (s : State) : Result State := hostFrame 1 f s
/-- ADP_WRITE (R319). -/
def execAdpWrite (f : HostFrame) (s : State) : Result State := hostFrame 2 f s
/-- ADP_READ_BLOCK (R320). -/
def execAdpReadBlock (f : HostFrame) (s : State) : Result State := hostFrame 3 f s
/-- ADP_WRITE_BLOCK (R320). -/
def execAdpWriteBlock (f : HostFrame) (s : State) : Result State := hostFrame 4 f s
/-- ADP_ABORT (R321). -/
def execAdpAbort (f : HostFrame) (s : State) : Result State := hostFrame 6 f s
/-- ADP_STREAM_REQUEST (R322). -/
def execAdpStreamRequest (f : HostFrame) (s : State) : Result State := hostFrame 7 f s
/-- ADP_WAKE_NOTICE (R325). -/
def execAdpWakeNotice (f : HostFrame) (s : State) : Result State := hostFrame 10 f s

/-- A host's frame with the first byte of its payload set: the SUBOP of a SESSION frame, or the VOTE of a SLEEP_VOTE. -/
def withFirst (b : Byte) (f : HostFrame) : HostFrame := { f with payload := b :: f.payload.drop 1 }

/-- SESSION_OPEN (R298). -/
def execSessionOpen (f : HostFrame) (s : State) : Result State := hostFrame 11 (withFirst 1 f) s
/-- SESSION_CONFIRM (R298). -/
def execSessionConfirm (f : HostFrame) (s : State) : Result State := hostFrame 11 (withFirst 2 f) s
/-- SESSION_CLOSE (R298). -/
def execSessionClose (f : HostFrame) (s : State) : Result State := hostFrame 11 (withFirst 3 f) s
/-- SLEEP_VOTE_SLEEP (R333). -/
def execSleepVoteSleep (f : HostFrame) (s : State) : Result State := hostFrame 9 (withFirst 1 f) s
/-- SLEEP_VOTE_STAY (R333). -/
def execSleepVoteStay (f : HostFrame) (s : State) : Result State := hostFrame 9 (withFirst 0 f) s

/-- ADP_HUB_OPCODE_RECEIVED (R317): an opcode of the hub or a reserved one, answered 0x0102. -/
def execAdpHubOpcodeReceived (op : Nat) (f : HostFrame) (s : State) : Result State :=
  if 16 ≤ op ∨ hostOp op = true then .fault (.noSuchOperand "opcode") else hostFrame op f s

/-! ### Frames that fail a check (R316) -/

/-- A host's frame from the 24 bytes of its header and the payload bytes after them. -/
def parseFrame (port src : Nat) (b : List Byte) : HostFrame :=
  { port := port, src := src, flags := nth 0 b 1, parish := getLe b 2 1, session := getLe b 3 1, transId := getLe b 4 4
    objCount := getLe b 10 2, tag := slice b 16 8, payload := slice b 24 (getLe b 8 2) }

/-- Whether the header CRC of a frame holds (R316). -/
def headerOk (b : List Byte) : Bool := 24 ≤ b.length && crc16 (b.take 12 ++ slice b 14 2) == getLe b 12 2

/-- Whether PAYLOAD_LEN lies within the frame and the reserved bytes are zero (R316). -/
def lengthOk (b : List Byte) : Bool := decide (24 + getLe b 8 2 ≤ b.length) && getLe b 14 2 == 0

/-- A frame that fails its version or its header CRC is discarded and counted. -/
def countBad (s : State) (b : List Byte) : State :=
  if 1 ≤ b.length ∧ getLe b 0 1 / 16 ≠ 1 then { s with net := { s.net with versionFails := s.net.versionFails + 1 } }
  else { s with net := { s.net with hdrCrcFails := s.net.hdrCrcFails + 1 } }

/-- ADP_FRAME_REJECT (R316): a received Ethernet frame, without its FCS, that fails one of checks 1 to 6. -/
def execAdpFrameReject (n : Nat) (fcsOk : Bool) (raw : List Byte) (s : State) : Result State :=
  let dst := beNat (raw.take 6)
  let b := raw.drop 14
  let f := parseFrame n (beNat (slice raw 6 6)) b
  let op := getLe b 0 1 % 16
  let s1 := countRx s n
  withNet n (given (portLive s n) s (
    if !fcsOk then s.modNet n (fun x => { x with rxFcs := x.rxFcs + 1 })
    else if !(dst == s.mac || dst == adpMcast s || dst == 2 ^ 48 - 1) || beNat (slice raw 12 2) != cfg s 0x0800 2 0x88B5 then
      { s1 with net := { s1.net with rxOther := s1.net.rxOther + 1 } }
    else if getLe b 0 1 / 16 ≠ 1 ∨ headerOk b = false then countBad (active s1) b
    else if !lengthOk b || !formOk op f then respond (wakeIdle (active s1)) f none (refusal s1 op f 0x0102)
    else s))

/-! ### Time-outs and firmware (R305, R306, R320, R362) -/

/-- BLOCK_TIMEOUT_EXPIRY (R320): the k-th open transfer has received no segment for BLOCK_TIMEOUT. -/
def execBlockTimeoutExpiry (k : Nat) (s : State) : Result State :=
  .next (match s.net.blocks[k]? with
    | none => s
    | some b => given (decide (b.lastAt + msTicks (cfg s 0x0800 5 1000) ≤ s.ticks)) s (discardXfers s (fun c => c == b)))

/-- FW_IMAGE_WRITE (R306, R362): parish p writes a whole image into the inactive slot, which is then checked. -/
def execFwImageWrite (p session : Nat) (image : List Byte) (s : State) : Result State :=
  withParish p (given (s.dictReady || s.fw.boot) s (writeOne s { sender s p session true with op := 4 } 0xF800 1 image))

/-- FW_CHECK_DONE (R305, R306, R362): the check of the written slot ends. -/
def execFwCheckDone (s : State) : Result State :=
  let x := s.fw
  let k := 1 - x.slot
  .next (given (x.state == 2) s (
    if Config.signatureOk x.image && decide (x.security ≤ Config.imageSecurity x.image) then
      { s with fw := { x with
          state := 3, badSlots := clrBit x.badSlots k
          slotVersion := tput (tput x.slotVersion x.slot x.version) k (Config.imageVersion x.image)
          slotSecurity := tput (tput x.slotSecurity x.slot (tget x.security x.slotSecurity x.slot)) k (Config.imageSecurity x.image) } }
    else { s with fw := { x with state := 4 } }))

/-- FW_SWITCH (R362): parish p chooses the READY slot for the next reset. -/
def execFwSwitch (p session value : Nat) (s : State) : Result State :=
  withParish p (given (s.dictReady || s.fw.boot) s (writeOne s (sender s p session true) 0xF800 3 (leBytes 1 value)))

end Sys2Proof.Machine
end

