-- ==== Sys2Proof/Machine/Service.lean ====
section
/-! DEFINITION. The service port: its block commands with their PEC, requests, responses and record chunks (R113 to R118, R120,
R241, R243, R446). -/

namespace Sys2Proof.Machine

/-! ### Transfers (R114, R115, R119) -/

/-- Whether the interface acknowledges its address: awake, or from 200 µs (50,000 ticks) after the first address that it did not
acknowledge (R119). -/
def svcAwake (s : State) : Bool := s.svc.awake || s.svc.wokenAt.any (fun t => decide (t + 50000 ≤ s.ticks))

/-- A command that finds the interface asleep: its address is not acknowledged (R119). -/
def svcSilent (s : State) : State := { active s with svc := { s.svc with acked := false } }

/-- A transfer that the hub discards is counted (R115 to R117). -/
def svcDiscard (s : State) (acked : Bool) : State :=
  { active s with svc := { s.svc with acked := acked, discarded := satInc 255 s.svc.discarded } }

/-- The PEC of a block write: over the address, the command, the count and the data. -/
def svcPec (s : State) (cmd : Nat) (data : List Byte) : Byte :=
  BitVec.ofNat 8 (crc8 (leBytes 1 (2 * s.svc.addr) ++ leBytes 1 cmd ++ leBytes 1 data.length ++ data))

/-- A block write: with no PEC, a wrong one, or before its count is complete it is discarded and counted (R115). -/
def svcWrite (s : State) (cmd : Nat) (data : List Byte) (pec : Option Byte) (t : State → State) : State :=
  if !svcAwake s then svcSilent s
  else if 255 < data.length ∨ pec ≠ some (svcPec s cmd data) then svcDiscard s false
  else t { active s with svc := { s.svc with acked := true } }

/-- A block read: the count, the data and the PEC that the hub computes (R114, R115). -/
def svcAnswer (s : State) (cmd : Nat) (data : List Byte) : State :=
  let sent := leBytes 1 data.length ++ data
  let pec := crc8 (leBytes 1 (2 * s.svc.addr) ++ leBytes 1 cmd ++ leBytes 1 (2 * s.svc.addr + 1) ++ sent)
  { active s with svc := { s.svc with acked := true, lastRead := sent ++ leBytes 1 pec } }

/-! ### Requests and responses (R114, R116, R119) -/

/-- An ADP frame under a command that carries the given opcodes. While a request is unanswered, or a response not wholly read, it
is acknowledged, discarded and counted (R116); a header that fails its check is counted as on the network (R316). An accepted one
waits for the lead steward (R116, R119); an opcode that does not match the command is then answered 0x0101 (R114). -/
def svcRequest (ops : List Nat) (data : List Byte) (s : State) : State :=
  if s.svc.busy || s.svc.ready then svcDiscard s true
  else if data.length < 24 ∨ getLe data 0 1 / 16 ≠ 1 ∨ headerOk data = false then svcDiscard (countBad s data) true
  else
    let op := getLe data 0 1 % 16
    let f := parseFrame 3 0 data
    let s1 := { s with svc := { s.svc with response := [], busy := true } }
    let code := if !ops.contains op then 0x0101 else if !lengthOk data then 0x0102 else 0
    if 32 ≤ s.net.waiting.length then svcDiscard { holdRequest s1 op f code with svc := s.svc } true
    else holdRequest s1 op f code

/-- SVC_OBJ_READ (R114). -/
def execSvcObjRead (data : List Byte) (pec : Option Byte) (s : State) : Result State :=
  .next (svcWrite s 0x10 data pec (svcRequest [1, 3] data))

/-- SVC_OBJ_WRITE (R114). -/
def execSvcObjWrite (data : List Byte) (pec : Option Byte) (s : State) : Result State :=
  .next (svcWrite s 0x11 data pec (svcRequest [2, 4] data))

/-- SVC_SESSION (R114). -/
def execSvcSession (data : List Byte) (pec : Option Byte) (s : State) : Result State :=
  .next (svcWrite s 0x12 data pec (svcRequest [11] data))

/-- SVC_RESULT (R114, R116): the next part of the response, or count 0 while it is not ready. -/
def execSvcResult (s : State) : Result State :=
  .next (
    if !svcAwake s then svcSilent s
    else
      let part := if s.svc.ready then s.svc.response.take 255 else []
      let rest := s.svc.response.drop part.length
      svcAnswer { s with svc := { s.svc with response := rest, ready := s.svc.ready && !rest.isEmpty } } 0x02 part)

/-- SVC_UNKNOWN_COMMAND (R114). -/
def execSvcUnknownCommand (s : State) : Result State := .next (svcSilent s)

/-- SVC_SCL_TIMEOUT (R113, R115): the interface resets; a request that it was taking is discarded and counted. -/
def execSvcSclTimeout (midRequest : Bool) (s : State) : Result State :=
  .next (given (svcAwake s) s (if midRequest then svcDiscard s false else svcSilent s))

/-! ### Record chunks (R117, R241 to R243, R446, R447) -/

/-- The streams of a parish with service-port delivery that hold records for it, ascending (R241). -/
def serviceStreams (s : State) (p : Nat) : List Nat :=
  (s.stream.map (·.1)).filter (fun k => streamDelivery s k == 3 && streamOwner s k == some p && !(toTake s p k false).isEmpty)

/-- The lowest parish with records for the service port. -/
def serviceParish (s : State) : Option Nat := (List.range 16).find? (fun p => !(serviceStreams s p).isEmpty)

/-- The next batch of the service port is assembled as one of the network is (R117, R242). -/
def serviceBatch (s : State) : State :=
  match serviceParish s with
  | none => s
  | some p =>
    let ks := serviceStreams s p
    let s1 := ks.foldl discardOld s
    match sameEpoch (ks.flatMap (fun k => toTake s1 p k false)) with
    | [] => s1
    | r0 :: t =>
      let recs := takeUpTo s1 (cfg s (granIdx p) 2 16 * 1024 - (if s.cmpt then 16 else 20)) (r0 :: t)
      let s2 := markRecs s1 (recs.map recKey) (fun r => { r with sentTo := addOnce r.sentTo p })
      let item (r : Rec) : List Byte × List (Nat × Nat × Nat) := (recOut s1 r, if batchAnchor r then [] else [recKey r])
      { s2 with svc := { s2.svc with batchRest := (batchOrder s1 r0.epoch recs).map item } }

/-- The whole records at the front of a batch that fit in so many bytes, and those after them. -/
def chunkTake (room : Nat) :
    List (List Byte × List (Nat × Nat × Nat)) → List (List Byte × List (Nat × Nat × Nat)) × List (List Byte × List (Nat × Nat × Nat))
  | [] => ([], [])
  | e :: t =>
    if e.1.length ≤ room then
      let r := chunkTake (room - e.1.length) t
      (e :: r.1, r.2)
    else ([], e :: t)

/-- The next chunk is formed, of the batch being delivered or of a new one (R117). -/
def formChunk (s : State) : State :=
  if s.svc.chunk.isSome then s
  else
    let s1 := if s.svc.batchRest.isEmpty then serviceBatch s else s
    if s1.svc.batchRest.isEmpty then s1
    else
      let c := chunkTake 253 s1.svc.batchRest
      { s1 with svc := { s1.svc with
          chunk := some ([BitVec.ofNat 8 s1.svc.chunkSeq.toNat, if c.2.isEmpty then 0 else 1] ++ c.1.flatMap (·.1))
          chunkTake := c.1.flatMap (·.2), batchRest := c.2 } }

/-- Whether the steward can form chunks. -/
def chunksRun (s : State) : Bool := s.dictReady && (s.power.state < 2 || 5 ≤ s.power.state)

/-- SVC_RECORDS (R117): the current chunk, or count 0 where none is to be had. -/
def execSvcRecords (s : State) : Result State :=
  .next (
    if !svcAwake s then svcSilent s
    else
      let s1 := if chunksRun s then formChunk s else s
      svcAnswer s1 0x20 (s1.svc.chunk.getD []))

/-- SVC_RECORDS_ACK (R117, R243): the chunk that is named is freed, which delivers its records, and the next is formed; another
number is discarded and counted. -/
def execSvcRecordsAck (seq : Byte) (pec : Option Byte) (s : State) : Result State :=
  .next (svcWrite s 0x21 [seq] pec (fun u =>
    if u.svc.chunk.isSome && u.svc.chunkSeq == seq then
      let u1 := deliverKeys u u.svc.chunkTake
      let u2 := { u1 with svc := { u1.svc with chunk := none, chunkTake := [], chunkSeq := u1.svc.chunkSeq + 1 } }
      if chunksRun u2 then formChunk u2 else u2
    else svcDiscard u true))

/-! ### STATUS (R118) -/

/-- Bytes of records that await delivery by the service port. -/
def serviceBytes (s : State) : Nat :=
  (s.stream.filter (fun e => streamDelivery s e.1 == 3)).foldl
    (fun a e => a + (e.2.ring.filter (fun r => !r.delivered)).foldl (fun b r => b + recOutSize s r) 0) 0

/-- The STATUS block (R118). -/
def statusBlock (s : State) : List Byte :=
  let v := s.svc
  let waits := v.chunk.isSome || !v.batchRest.isEmpty || (serviceParish s).isSome
  leBytes 1 (b2n v.ready + 2 * b2n v.busy + 4 * b2n waits + 8 * b2n s.dictReady) ++ leBytes 1 v.discarded
    ++ leBytes 2 (min 65535 v.response.length) ++ leBytes 4 (serviceBytes s)

/-- SVC_STATUS (R114, R118). -/
def execSvcStatus (s : State) : Result State :=
  .next (if !svcAwake s then svcSilent s else svcAnswer s 0x01 (statusBlock s))

end Sys2Proof.Machine
end

