-- ==== Sys2Proof/Machine/Dispatch.lean ====
section
/-! DEFINITION. One arm for each command: its meaning, or its refusal by name. -/

namespace Sys2Proof.Machine

/-- The effect of a command on everything but the queue. -/
def exec (i : Instr) (s : State) : Host.Outcome State Fault Refusal :=
  match i with
  | .leadHeartbeat d => Sys2Proof.Machine.execLeadHeartbeat d s
  | .leadLost d => Sys2Proof.Machine.execLeadLost d s
  | .ringFrameReceive d link seq cls crcOk => Sys2Proof.Machine.execRingFrameReceive d link seq cls crcOk s
  | .ringLinkLost link => Sys2Proof.Machine.execRingLinkLost link s
  | .sidebandPairFault d outputs => Sys2Proof.Machine.execSidebandPairFault d outputs s
  | .safetyOutputTripRequest d outputs on => Sys2Proof.Machine.execSafetyOutputTripRequest d outputs on s
  | .matrixTripConfirmed d c => Sys2Proof.Machine.execMatrixTripConfirmed d c s
  | .timeAlignFrame held => Sys2Proof.Machine.execTimeAlignFrame held s
  | .timeTick => Sys2Proof.Machine.execTimeTick s
  | .slewComplete => Sys2Proof.Machine.execSlewComplete s
  | .rateWrite value => Sys2Proof.Machine.execRateWrite value s
  | .offsetAdjWrite value => Sys2Proof.Machine.execOffsetAdjWrite value s
  | .timeSetWrite value => Sys2Proof.Machine.execTimeSetWrite value s
  | .reacquireWrite value => Sys2Proof.Machine.execReacquireWrite value s
  | .refRetune effect => Sys2Proof.Machine.execRefRetune effect s
  | .tsecLoRead e rd => Sys2Proof.Machine.execTsecLoRead e rd s
  | .ptpSyncReceive n domain twoStep t1 => Sys2Proof.Machine.execPtpSyncReceive n domain twoStep t1 s
  | .ptpAnnounceReceive n domain p1 cls acc var p2 gm utc => Sys2Proof.Machine.execPtpAnnounceReceive n domain p1 cls acc var p2 gm utc s
  | .ptpDelayResponseReceive n domain t4 turnaround => Sys2Proof.Machine.execPtpDelayResponseReceive n domain t4 turnaround s
  | .ptpMessageDiscard n => Sys2Proof.Machine.execPtpMessageDiscard n s
  | .ptpSyncSend n => Sys2Proof.Machine.execPtpSyncSend n s
  | .ptpDelayRequestSend n => Sys2Proof.Machine.execPtpDelayRequestSend n s
  | .ptpAnnounceSend n => Sys2Proof.Machine.execPtpAnnounceSend n s
  | .syncTimeout n => Sys2Proof.Machine.execSyncTimeout n s
  | .portModeIdleEnd n => Sys2Proof.Machine.execPortModeIdleEnd n s
  | .vpOnWrite n on => Sys2Proof.Machine.execVpOnWrite n on s
  | .pgood n => Sys2Proof.Machine.execPgood n s
  | .vpAverageOverload n => Sys2Proof.Machine.execVpAverageOverload n s
  | .vpPeakOverload n => Sys2Proof.Machine.execVpPeakOverload n s
  | .emCfgWrite n value => Sys2Proof.Machine.execEmCfgWrite n value s
  | .governorGrant d bins => Sys2Proof.Machine.execGovernorGrant d bins s
  | .emitterPulseDone n isOpen noreg => Sys2Proof.Machine.execEmitterPulseDone n isOpen noreg s
  | .quarantineProbe n reason interval => Sys2Proof.Machine.execQuarantineProbe n reason interval s
  | .quarCtlRelease n => Sys2Proof.Machine.execQuarCtlRelease n s
  | .quarCtlHold n => Sys2Proof.Machine.execQuarCtlHold n s
  | .quarCtlProbe n => Sys2Proof.Machine.execQuarCtlProbe n s
  | .uartRxLowTimeout n => Sys2Proof.Machine.execUartRxLowTimeout n s
  | .pinEdge n pin rising bins => Sys2Proof.Machine.execPinEdge n pin rising bins s
  | .portOperationStart n bins => Sys2Proof.Machine.execPortOperationStart n bins s
  | .twStart n bins => Sys2Proof.Machine.execTwStart n bins s
  | .arbitrationLost n => Sys2Proof.Machine.execArbitrationLost n s
  | .twTransferDone n nak rx pec rise => Sys2Proof.Machine.execTwTransferDone n nak rx pec rise s
  | .busTimeout n sda => Sys2Proof.Machine.execBusTimeout n sda s
  | .busRecoveryDone n isFree => Sys2Proof.Machine.execBusRecoveryDone n isFree s
  | .spiTransferDone n rx => Sys2Proof.Machine.execSpiTransferDone n rx s
  | .uartIdleGap n => Sys2Proof.Machine.execUartIdleGap n s
  | .uartTransferDone n rx err lag bins => Sys2Proof.Machine.execUartTransferDone n rx err lag bins s
  | .svcStatus => Sys2Proof.Machine.execSvcStatus s
  | .svcResult => Sys2Proof.Machine.execSvcResult s
  | .svcObjRead data pec => Sys2Proof.Machine.execSvcObjRead data pec s
  | .svcObjWrite data pec => Sys2Proof.Machine.execSvcObjWrite data pec s
  | .svcSession data pec => Sys2Proof.Machine.execSvcSession data pec s
  | .svcRecords => Sys2Proof.Machine.execSvcRecords s
  | .svcRecordsAck seq pec => Sys2Proof.Machine.execSvcRecordsAck seq pec s
  | .svcUnknownCommand => Sys2Proof.Machine.execSvcUnknownCommand s
  | .svcSclTimeout midRequest => Sys2Proof.Machine.execSvcSclTimeout midRequest s
  | .svcAddressWake => Sys2Proof.Machine.execSvcAddressWake s
  | .stewardServeRequest => Sys2Proof.Machine.execStewardServeRequest s
  | .adcConversionDone n raw outside lag bins => Sys2Proof.Machine.execAdcConversionDone n raw outside lag bins s
  | .rangeSettled n => Sys2Proof.Machine.execRangeSettled n s
  | .anaOperationDone n => Sys2Proof.Machine.execAnaOperationDone n s
  | .codeBurstDone n isOpen noreg => Sys2Proof.Machine.execCodeBurstDone n isOpen noreg s
  | .singleSlopeEnd n elapsed rampEnd atMax => Sys2Proof.Machine.execSingleSlopeEnd n elapsed rampEnd atMax s
  | .comparatorEdge n j tripped bins => Sys2Proof.Machine.execComparatorEdge n j tripped bins s
  | .majoritySample n j => Sys2Proof.Machine.execMajoritySample n j s
  | .tripFilterExpiry n j => Sys2Proof.Machine.execTripFilterExpiry n j s
  | .cmpLatchClear n mask => Sys2Proof.Machine.execCmpLatchClear n mask s
  | .cmpDacWrite n value => Sys2Proof.Machine.execCmpDacWrite n value s
  | .pgStart n g => Sys2Proof.Machine.execPgStart n g s
  | .pgStop n g => Sys2Proof.Machine.execPgStop n g s
  | .pgPeriodStart n g => Sys2Proof.Machine.execPgPeriodStart n g s
  | .pgPulseEnd n g => Sys2Proof.Machine.execPgPulseEnd n g s
  | .pgTrip n g => Sys2Proof.Machine.execPgTrip n g s
  | .pgHeldClear n g => Sys2Proof.Machine.execPgHeldClear n g s
  | .contextLaunch d entry => Sys2Proof.Machine.execContextLaunch d entry s
  | .contextDispatch e => Sys2Proof.Machine.execContextDispatch e s
  | .add e rd ra rb => Sys2Proof.Machine.execAdd e rd ra rb s
  | .sub e rd ra rb => Sys2Proof.Machine.execSub e rd ra rb s
  | .and e rd ra rb => Sys2Proof.Machine.execAnd e rd ra rb s
  | .or e rd ra rb => Sys2Proof.Machine.execOr e rd ra rb s
  | .xor e rd ra rb => Sys2Proof.Machine.execXor e rd ra rb s
  | .shl e rd ra rb => Sys2Proof.Machine.execShl e rd ra rb s
  | .shr e rd ra rb => Sys2Proof.Machine.execShr e rd ra rb s
  | .sar e rd ra rb => Sys2Proof.Machine.execSar e rd ra rb s
  | .adds e rd ra rb => Sys2Proof.Machine.execAdds e rd ra rb s
  | .subs e rd ra rb => Sys2Proof.Machine.execSubs e rd ra rb s
  | .mul e rd ra rb => Sys2Proof.Machine.execMul e rd ra rb s
  | .mulh e rd ra rb => Sys2Proof.Machine.execMulh e rd ra rb s
  | .mulhu e rd ra rb => Sys2Proof.Machine.execMulhu e rd ra rb s
  | .mulq e rd ra rb => Sys2Proof.Machine.execMulq e rd ra rb s
  | .min e rd ra rb => Sys2Proof.Machine.execMin e rd ra rb s
  | .max e rd ra rb => Sys2Proof.Machine.execMax e rd ra rb s
  | .minu e rd ra rb => Sys2Proof.Machine.execMinu e rd ra rb s
  | .maxu e rd ra rb => Sys2Proof.Machine.execMaxu e rd ra rb s
  | .abs e rd ra => Sys2Proof.Machine.execAbs e rd ra s
  | .addi e rd ra imm => Sys2Proof.Machine.execAddi e rd ra imm s
  | .andi e rd ra imm => Sys2Proof.Machine.execAndi e rd ra imm s
  | .ori e rd ra imm => Sys2Proof.Machine.execOri e rd ra imm s
  | .xori e rd ra imm => Sys2Proof.Machine.execXori e rd ra imm s
  | .shli e rd ra n => Sys2Proof.Machine.execShli e rd ra n s
  | .shri e rd ra n => Sys2Proof.Machine.execShri e rd ra n s
  | .sari e rd ra n => Sys2Proof.Machine.execSari e rd ra n s
  | .lui e rd imm => Sys2Proof.Machine.execLui e rd imm s
  | .cmpi e ra imm => Sys2Proof.Machine.execCmpi e ra imm s
  | .addsi e rd ra imm => Sys2Proof.Machine.execAddsi e rd ra imm s
  | .lw e rd ra imm => Sys2Proof.Machine.execLw e rd ra imm s
  | .lh e rd ra imm => Sys2Proof.Machine.execLh e rd ra imm s
  | .lhu e rd ra imm => Sys2Proof.Machine.execLhu e rd ra imm s
  | .lb e rd ra imm => Sys2Proof.Machine.execLb e rd ra imm s
  | .lbu e rd ra imm => Sys2Proof.Machine.execLbu e rd ra imm s
  | .sw e rd ra imm => Sys2Proof.Machine.execSw e rd ra imm s
  | .sh e rd ra imm => Sys2Proof.Machine.execSh e rd ra imm s
  | .sb e rd ra imm => Sys2Proof.Machine.execSb e rd ra imm s
  | .ioIn e rd ra imm => Sys2Proof.Machine.execIoIn e rd ra imm s
  | .ioOut e rd ra imm => Sys2Proof.Machine.execIoOut e rd ra imm s
  | .pairWordWrite e value => Sys2Proof.Machine.execPairWordWrite e value s
  | .registerWrite e addr value => Sys2Proof.Machine.execRegisterWrite e addr value s
  | .branch e cond tgt => Sys2Proof.Machine.execBranch e cond tgt s
  | .jal e rd tgt => Sys2Proof.Machine.execJal e rd tgt s
  | .jr e ra => Sys2Proof.Machine.execJr e ra s
  | .issueTw e rd rh ra doff => Sys2Proof.Machine.execIssueTw e rd rh ra doff s
  | .issueSpi e rd rh ra doff => Sys2Proof.Machine.execIssueSpi e rd rh ra doff s
  | .issueUart e rd rh ra doff => Sys2Proof.Machine.execIssueUart e rd rh ra doff s
  | .issueAna e rd rh ra doff => Sys2Proof.Machine.execIssueAna e rd rh ra doff s
  | .issuePulse e rd rh => Sys2Proof.Machine.execIssuePulse e rd rh s
  | .transactionSlotFree d => Sys2Proof.Machine.execTransactionSlotFree d s
  | .stampRead e rd ra => Sys2Proof.Machine.execStampRead e rd ra s
  | .emit e rs ra n => Sys2Proof.Machine.execEmit e rs ra n s
  | .emitS e rs ra n => Sys2Proof.Machine.execEmitS e rs ra n s
  | .millSubmit e rc ra rb => Sys2Proof.Machine.execMillSubmit e rc ra rb s
  | .sieveOffer e rr ra => Sys2Proof.Machine.execSieveOffer e rr ra s
  | .signalLow e ra => Sys2Proof.Machine.execSignalLow e ra s
  | .signalHigh e ra => Sys2Proof.Machine.execSignalHigh e ra s
  | .signalPulse e ra => Sys2Proof.Machine.execSignalPulse e ra s
  | .awaitComp e rd ra => Sys2Proof.Machine.execAwaitComp e rd ra s
  | .awaitEdge e rd ra pin edge => Sys2Proof.Machine.execAwaitEdge e rd ra pin edge s
  | .awaitTime e rd ra units => Sys2Proof.Machine.execAwaitTime e rd ra units s
  | .awaitLine e rd ra rise => Sys2Proof.Machine.execAwaitLine e rd ra rise s
  | .awaitResume e c => Sys2Proof.Machine.execAwaitResume e c s
  | .yield e => Sys2Proof.Machine.execYield e s
  | .trap e code => Sys2Proof.Machine.execTrap e code s
  | .reservedOpcode e => Sys2Proof.Machine.execReservedOpcode e s
  | .pcend e => Sys2Proof.Machine.execPcend e s
  | .frameBegin d => Sys2Proof.Machine.execFrameBegin d s
  | .entryNominalInstant d entry => Sys2Proof.Machine.execEntryNominalInstant d entry s
  | .windowEnd d entry => Sys2Proof.Machine.execWindowEnd d entry s
  | .nextImageWrite d p session image => Sys2Proof.Machine.execNextImageWrite d p session image s
  | .millOutputComputed c => Sys2Proof.Machine.execMillOutputComputed c s
  | .millSlot c => Sys2Proof.Machine.execMillSlot c s
  | .millRound d => Sys2Proof.Machine.execMillRound d s
  | .sieveOfferEval d => Sys2Proof.Machine.execSieveOfferEval d s
  | .sieveTimerExpiry r => Sys2Proof.Machine.execSieveTimerExpiry r s
  | .sieveSilenceExpiry r => Sys2Proof.Machine.execSieveSilenceExpiry r s
  | .maxAgeExpiry k => Sys2Proof.Machine.execMaxAgeExpiry k s
  | .batchAssemble p => Sys2Proof.Machine.execBatchAssemble p s
  | .crierWake p => Sys2Proof.Machine.execCrierWake p s
  | .wakeHoldExpiry => Sys2Proof.Machine.execWakeHoldExpiry s
  | .wakeRetryExpiry p => Sys2Proof.Machine.execWakeRetryExpiry p s
  | .logFlushExpiry d p => Sys2Proof.Machine.execLogFlushExpiry d p s
  | .nvPageWriteDone d p retries ok => Sys2Proof.Machine.execNvPageWriteDone d p retries ok s
  | .logTrigger p => Sys2Proof.Machine.execLogTrigger p s
  | .captureStart d p => Sys2Proof.Machine.execCaptureStart d p s
  | .captureEnd d p => Sys2Proof.Machine.execCaptureEnd d p s
  | .wearLevelCheck d => Sys2Proof.Machine.execWearLevelCheck d s
  | .nvScanDone d => Sys2Proof.Machine.execNvScanDone d s
  | .tallyTick t => Sys2Proof.Machine.execTallyTick t s
  | .tallyLinkAction t => Sys2Proof.Machine.execTallyLinkAction t s
  | .tallyStart t => Sys2Proof.Machine.execTallyStart t s
  | .tallyStop t => Sys2Proof.Machine.execTallyStop t s
  | .tallyReset t => Sys2Proof.Machine.execTallyReset t s
  | .unitStart u mask => Sys2Proof.Machine.execUnitStart u mask s
  | .unitReset u mask => Sys2Proof.Machine.execUnitReset u mask s
  | .topWrite t value => Sys2Proof.Machine.execTopWrite t value s
  | .cmpWrite t value => Sys2Proof.Machine.execCmpWrite t value s
  | .tallyCapture t rising => Sys2Proof.Machine.execTallyCapture t rising s
  | .tallyPairedRise t => Sys2Proof.Machine.execTallyPairedRise t s
  | .tallyPairedFall t => Sys2Proof.Machine.execTallyPairedFall t s
  | .matrixRowChange d r level => Sys2Proof.Machine.execMatrixRowChange d r level s
  | .crossDieLineFault d line equal => Sys2Proof.Machine.execCrossDieLineFault d line equal s
  | .stateReqRun p => Sys2Proof.Machine.execStateReqRun p s
  | .stateReqHalt p => Sys2Proof.Machine.execStateReqHalt p s
  | .parishStateChange d p => Sys2Proof.Machine.execParishStateChange d p s
  | .testTimeExpiry p => Sys2Proof.Machine.execTestTimeExpiry p s
  | .keyWrite p session value => Sys2Proof.Machine.execKeyWrite p session value s
  | .sessionOpen f => Sys2Proof.Machine.execSessionOpen f s
  | .sessionConfirm f => Sys2Proof.Machine.execSessionConfirm f s
  | .sessionClose f => Sys2Proof.Machine.execSessionClose f s
  | .sessionIdleExpiry n => Sys2Proof.Machine.execSessionIdleExpiry n s
  | .openBlockExpiry p => Sys2Proof.Machine.execOpenBlockExpiry p s
  | .armReqWrite session value tagged => Sys2Proof.Machine.execArmReqWrite session value tagged s
  | .armWindowExpiry => Sys2Proof.Machine.execArmWindowExpiry s
  | .fwImageWrite p session image => Sys2Proof.Machine.execFwImageWrite p session image s
  | .fwCheckDone => Sys2Proof.Machine.execFwCheckDone s
  | .fwSwitch p session value => Sys2Proof.Machine.execFwSwitch p session value s
  | .ethFrameOther n => Sys2Proof.Machine.execEthFrameOther n s
  | .adpFrameReject n fcsOk raw => Sys2Proof.Machine.execAdpFrameReject n fcsOk raw s
  | .adpPing f => Sys2Proof.Machine.execAdpPing f s
  | .adpRead f => Sys2Proof.Machine.execAdpRead f s
  | .adpWrite f => Sys2Proof.Machine.execAdpWrite f s
  | .adpReadBlock f => Sys2Proof.Machine.execAdpReadBlock f s
  | .adpWriteBlock f => Sys2Proof.Machine.execAdpWriteBlock f s
  | .blockTimeoutExpiry k => Sys2Proof.Machine.execBlockTimeoutExpiry k s
  | .adpAbort f => Sys2Proof.Machine.execAdpAbort f s
  | .adpStreamRequest f => Sys2Proof.Machine.execAdpStreamRequest f s
  | .sleepVoteSleep f => Sys2Proof.Machine.execSleepVoteSleep f s
  | .sleepVoteStay f => Sys2Proof.Machine.execSleepVoteStay f s
  | .adpWakeNotice f => Sys2Proof.Machine.execAdpWakeNotice f s
  | .adpHubOpcodeReceived op f => Sys2Proof.Machine.execAdpHubOpcodeReceived op f s
  | .deliveryWindowOpen n k => Sys2Proof.Machine.execDeliveryWindowOpen n k s
  | .announcePeriodExpiry n => Sys2Proof.Machine.execAnnouncePeriodExpiry n s
  | .plcaCycle n => Sys2Proof.Machine.execPlcaCycle n s
  | .plcaInactive n => Sys2Proof.Machine.execPlcaInactive n s
  | .linkDown n => Sys2Proof.Machine.execLinkDown n s
  | .linkUp n => Sys2Proof.Machine.execLinkUp n s
  | .failback n => Sys2Proof.Machine.execFailback n s
  | .txDiscardTimeout n => Sys2Proof.Machine.execTxDiscardTimeout n s
  | .sleepAgreement => Sys2Proof.Machine.execSleepAgreement s
  | .sleepCommitPoint => Sys2Proof.Machine.execSleepCommitPoint s
  | .networkWakeActivity n => Sys2Proof.Machine.execNetworkWakeActivity n s
  | .networkWakePattern n => Sys2Proof.Machine.execNetworkWakePattern n s
  | .commitPending mask p session => Sys2Proof.Machine.execCommitPending mask p session s
  | .applyPending mask p session => Sys2Proof.Machine.execApplyPending mask p session s
  | .discardPending mask p => Sys2Proof.Machine.execDiscardPending mask p s
  | .commitDieApply d => Sys2Proof.Machine.execCommitDieApply d s
  | .persistDone erases => Sys2Proof.Machine.execPersistDone erases s
  | .soRelease value => Sys2Proof.Machine.execSoRelease value s
  | .restartDelayExpiry d o => Sys2Proof.Machine.execRestartDelayExpiry d o s
  | .twtripInTrip => Sys2Proof.Machine.execTwtripInTrip s
  | .lockstepMismatch d => Sys2Proof.Machine.execLockstepMismatch d s
  | .watchdogService d => Sys2Proof.Machine.execWatchdogService d s
  | .watchdogTimeout d => Sys2Proof.Machine.execWatchdogTimeout d s
  | .clockMonitorFault d detail measured => Sys2Proof.Machine.execClockMonitorFault d detail measured s
  | .supplyMonitorFault d detail measured => Sys2Proof.Machine.execSupplyMonitorFault d detail measured s
  | .thermalWarning d temp => Sys2Proof.Machine.execThermalWarning d temp s
  | .thermalShutdown d temp torn groups => Sys2Proof.Machine.execThermalShutdown d temp torn groups s
  | .tripTestPulseStart d o => Sys2Proof.Machine.execTripTestPulseStart d o s
  | .tripTestDeadline d kind ok src => Sys2Proof.Machine.execTripTestDeadline d kind ok src s
  | .tripTestPulseEnd d => Sys2Proof.Machine.execTripTestPulseEnd d s
  | .outputReadbackFault d o high => Sys2Proof.Machine.execOutputReadbackFault d o high s
  | .soCurrentLimitExpiry d o => Sys2Proof.Machine.execSoCurrentLimitExpiry d o s
  | .pairDigestCompare d entry => Sys2Proof.Machine.execPairDigestCompare d entry s
  | .retireEngine value => Sys2Proof.Machine.execRetireEngine value s
  | .recoveryCauseCleared => Sys2Proof.Machine.execRecoveryCauseCleared s
  | .latchReset value => Sys2Proof.Machine.execLatchReset value s
  | .twinWordSend => Sys2Proof.Machine.execTwinWordSend s
  | .twinHello w => Sys2Proof.Machine.execTwinHello w s
  | .twinVerdict w => Sys2Proof.Machine.execTwinVerdict w s
  | .twinDetach w => Sys2Proof.Machine.execTwinDetach w s
  | .twinRest w => Sys2Proof.Machine.execTwinRest w s
  | .twinWordInvalid => Sys2Proof.Machine.execTwinWordInvalid s
  | .twinLost => Sys2Proof.Machine.execTwinLost s
  | .lostRqTimeExpiry => Sys2Proof.Machine.execLostRqTimeExpiry s
  | .powerCmdRun => Sys2Proof.Machine.execPowerCmdRun s
  | .powerCmdSleep => Sys2Proof.Machine.execPowerCmdSleep s
  | .powerCmdDeepSleep => Sys2Proof.Machine.execPowerCmdDeepSleep s
  | .powerCmdOff => Sys2Proof.Machine.execPowerCmdOff s
  | .idleTimeExpiry => Sys2Proof.Machine.execIdleTimeExpiry s
  | .sleepTimeExpiry => Sys2Proof.Machine.execSleepTimeExpiry s
  | .deepTimeExpiry => Sys2Proof.Machine.execDeepTimeExpiry s
  | .storageTimeExpiry => Sys2Proof.Machine.execStorageTimeExpiry s
  | .drainExpiry => Sys2Proof.Machine.execDrainExpiry s
  | .powerStateReached => Sys2Proof.Machine.execPowerStateReached s
  | .wakePinLevel => Sys2Proof.Machine.execWakePinLevel s
  | .wakePinEdge => Sys2Proof.Machine.execWakePinEdge s
  | .wakePinStart => Sys2Proof.Machine.execWakePinStart s
  | .comparatorWake n => Sys2Proof.Machine.execComparatorWake n s
  | .aonTallyWake => Sys2Proof.Machine.execAonTallyWake s
  | .twinWake => Sys2Proof.Machine.execTwinWake s
  | .sentinelCrierWake r => Sys2Proof.Machine.execSentinelCrierWake r s
  | .wakeAfterExpiry => Sys2Proof.Machine.execWakeAfterExpiry s
  | .returnComplete origin => Sys2Proof.Machine.execReturnComplete origin s
  | .opSet value => Sys2Proof.Machine.execOpSet value s
  | .voltageConfirmed d => Sys2Proof.Machine.execVoltageConfirmed d s
  | .opSwitchPause d => Sys2Proof.Machine.execOpSwitchPause d s
  | .sysPllChecked d => Sys2Proof.Machine.execSysPllChecked d s
  | .relockTimeout d => Sys2Proof.Machine.execRelockTimeout d s
  | .converterDerate detail item temp => Sys2Proof.Machine.execConverterDerate detail item temp s
  | .derateClear => Sys2Proof.Machine.execDerateClear s
  | .scrubWord d err kind item sub => Sys2Proof.Machine.execScrubWord d err kind item sub s
  | .reloadCopyWrite d idx erases => Sys2Proof.Machine.execReloadCopyWrite d idx erases s
  | .reloadApply d idx bad => Sys2Proof.Machine.execReloadApply d idx bad s
  | .rotaFailover d bad => Sys2Proof.Machine.execRotaFailover d bad s
  | .temperatureCheck d temp => Sys2Proof.Machine.execTemperatureCheck d temp s
  | .calReq n => Sys2Proof.Machine.execCalReq n s
  | .calItemDone n item values bad => Sys2Proof.Machine.execCalItemDone n item values bad s
  | .forcedCalWindow n => Sys2Proof.Machine.execForcedCalWindow n s
  | .telemetryInstant => Sys2Proof.Machine.execTelemetryInstant s
  | .vinValid vinMv low strap svcAddr testen nvBad fwBad => Sys2Proof.Machine.execVinValid vinMv low strap svcAddr testen nvBad fwBad s
  | .vinDip torn masks => Sys2Proof.Machine.execVinDip torn masks s
  | .resetWrite value => Sys2Proof.Machine.execResetWrite value s
  | .dieStartupTimeout d => Sys2Proof.Machine.execDieStartupTimeout d s
  | .thermalRestart temps => Sys2Proof.Machine.execThermalRestart temps s
  | .selfTest value => Sys2Proof.Machine.execSelfTest value s
  | .selfTestDone failed => Sys2Proof.Machine.execSelfTestDone failed s
  | .portLoopL0 n => Sys2Proof.Machine.execPortLoopL0 n s
  | .portLoopL1 n => Sys2Proof.Machine.execPortLoopL1 n s
  | .portLoopL2 n => Sys2Proof.Machine.execPortLoopL2 n s
  | .portLoopL3 n => Sys2Proof.Machine.execPortLoopL3 n s
  | .netLoopMac n via => Sys2Proof.Machine.execNetLoopMac n via s
  | .netLoopPcs n via => Sys2Proof.Machine.execNetLoopPcs n via s
  | .netLoopPma n via => Sys2Proof.Machine.execNetLoopPma n via s
  | .netLoopRemote n via => Sys2Proof.Machine.execNetLoopRemote n via s
  | .remoteFrameReflect n raw => Sys2Proof.Machine.execRemoteFrameReflect n raw s
  | .loopTimeoutExpiry n => Sys2Proof.Machine.execLoopTimeoutExpiry n s
  | .twinLoopNear => Sys2Proof.Machine.execTwinLoopNear s
  | .twinLoopFar => Sys2Proof.Machine.execTwinLoopFar s
  | .ringLoop l => Sys2Proof.Machine.execRingLoop l s
  | .loopbackDone kind n firstErr errors => Sys2Proof.Machine.execLoopbackDone kind n firstErr errors s
  | .leadHeartbeatSend => Sys2Proof.Machine.execLeadHeartbeatSend s
  | .ptpFollowUpReceive n domain t1 => Sys2Proof.Machine.execPtpFollowUpReceive n domain t1 s
  | .ptpDelayRequestReceive n domain peer => Sys2Proof.Machine.execPtpDelayRequestReceive n domain peer s
  | .announceReceiptTimeout n => Sys2Proof.Machine.execAnnounceReceiptTimeout n s
  | .quarantineProbePassed n reason => Sys2Proof.Machine.execQuarantineProbePassed n reason s
  | .transmitOpportunity n => Sys2Proof.Machine.execTransmitOpportunity n s
  | .netLoopStop n via => Sys2Proof.Machine.execNetLoopStop n via s
  | .twtripInRelease => Sys2Proof.Machine.execTwtripInRelease s
  | .monitorReturnToBand d cls detail => Sys2Proof.Machine.execMonitorReturnToBand d cls detail s
  | .soCurrentLimitHoldoffEnd d o => Sys2Proof.Machine.execSoCurrentLimitHoldoffEnd d o s

end Sys2Proof.Machine
end

