-- ==== Sys2Proof/Machine/Pads.lean ====
section
/-! DEFINITION. What the hub shows at its balls: the drive and the pull of P0 to P3, EM and VP of a port (R67 to R71, R93, R145,
R279), and the outputs of the part (R413). Each is read from the state. -/

namespace Sys2Proof.Machine

/-- What drives a signal pin: nothing, a level, or the protocol controller, whose waveform is that of its transfer. -/
inductive PinDrive where
  | highZ
  | level (high : Bool)
  | controller
deriving DecidableEq, Repr

/-- Whether the hub sleeps deeply, or a port's item is not kept while it sleeps (R93). -/
def itemOff (s : State) (n item : Nat) : Bool :=
  if s.power.state = 2 then !keepsItem s false n item
  else s.power.state == 3 || s.power.state == 4

/-- Whether a port works its pins: its domain is on, it has left UNCONFIGURED, and in SLEEP it keeps them (R68, R93); its parish is neither in
INIT nor in HALT (R292). -/
def pinsWork (s : State) (n : Nat) : Bool :=
  (s.portAt n).powered && !(s.dieAt (portDie n)).lost && (s.portAt n).mode != 0 && !itemOff s n 0 && !padsHeld s n

/-- The column of kind 5 that drives a pin as a compare output (R279). -/
def compareColumn (s : State) (n pin : Nat) : Option Col :=
  (s.col.find? (fun e => e.1 / 256 == portDie n && e.2.dest == 5 * 4096 + (n % 12) * 4 + pin)).map (·.2)

/-- What drives pin P0 to P3 of a port (R67): a pulse generator whose mode is not OFF (R145), the controller, a compare output, or
GPIO by PIN_OE and PIN_OUT. A quarantined port releases its two-wire lines and holds TXD at idle high (R90). The analogue inputs
are not driven. -/
def pinDrive (s : State) (n pin : Nat) : PinDrive :=
  let x := s.portAt n
  if !pinsWork s n then .highZ
  else if x.mode = 4 ∧ pin < 2 ∧ pgMode s n pin ≠ 0 then
    .level ((portPg x pin).out != (cfg s (pgIdx n pin) 5 0 == 1))
  else if pinUsed s n pin then
    if x.mode = 4 then .highZ
    else if x.inQuarantine && !x.recovering then (if x.mode = 3 ∧ pin = 0 then .level true else if x.mode = 1 then .highZ else .controller)
    else .controller
  else match compareColumn s n pin with
    | some c => .level c.level
    | none => if bitOf x.pinOe.toNat pin then .level (bitOf x.pinOut.toNat pin) else .highZ

/-- The code of R69 for the pull in force at a pin: PIN_PULL while the port works, off in UNCONFIGURED, asleep where it is not kept, and
in DEEP SLEEP a kept 47 kΩ only (R68, R93). -/
def pinPull (s : State) (n pin : Nat) : Nat :=
  let x := s.portAt n
  let code := field (cfg s (padIdx n) 2 0) (4 * pin + 3) (4 * pin)
  if !x.powered || (s.dieAt (portDie n)).lost || x.mode == 0 || padsHeld s n then 0
  else if s.power.state = 3 then (if keepsItem s true n 1 ∧ (code = 3 ∨ code = 4) then code else 0)
  else if itemOff s n 1 then 0 else code

/-- Whether EM of a port sinks current now (R76, R147). -/
def emDrive (s : State) (n : Nat) : Bool := (sinkSince s n).isSome

/-- The state of a port's VP ball (R71, R93): closed to the rail that VP_SEL names, open and discharged while the domain is on, or
open and floating. -/
inductive VpDrive where
  | rail (sel : Nat)
  | discharged
  | floating
deriving DecidableEq, Repr

/-- VP of a port. -/
def vpDrive (s : State) (n : Nat) : VpDrive :=
  let x := s.portAt n
  if x.vpClosed then .rail x.vpSel
  else if x.powered && !x.vpOn && x.vpInitTaken && !(s.dieAt (portDie n)).lost then .discharged
  else .floating

/-! ### The outputs of the part (R413) -/

/-- What an output of the part shows: a level that it drives, or nothing. -/
inductive OutDrive where
  | floating
  | driven (high : Bool)
deriving DecidableEq, Repr

/-- Whether the hub is without supply or in OFF. -/
def partOff (s : State) : Bool := !s.power.vinOk || s.power.state == 4

/-- TWTRIP_OUT (R367, R413): as the reeve drives it, low in SLEEP, floating in DEEP SLEEP and OFF. -/
def twtripDrive (s : State) : OutDrive :=
  if partOff s || s.power.state == 3 then .floating else .driven (s.reeve.twtripOut && s.power.state != 2)

/-- HOST_WAKE (R245, R413). -/
def hostWakeDrive (s : State) : OutDrive := if partOff s then .floating else .driven s.power.hostWake

/-- RQ_N, an open-drain output that is low while it is asserted (R306, R349, R413). -/
def rqDrive (s : State) : OutDrive :=
  if partOff s then .floating else if s.reeve.rqReason != 0 || s.fw.boot then .driven false else .floating

/-- Whether the driver of a safety output conducts (R363, R413): in RUN and IDLE, and while an entry or a return runs, as the reeve has it;
in the lower states never. -/
def safetyDrive (s : State) (d o : Nat) : Bool :=
  !partOff s && s.power.state != 2 && s.power.state != 3 && bitOf (s.dieAt d).soOut o

/-- Whether the network lines are driven (R413). -/
def networkDriven (s : State) : Bool := !partOff s && s.dictReady && s.power.state != 2 && s.power.state != 3

end Sys2Proof.Machine
end

