-- ==== Sys2Proof/Safety.lean ====
section
/-! DEFINITION. The terms in which claims speak: the pieces of the machine that an effect may change, the effect on one unit of
a table alone, and the conditions that a sound state of the part meets. -/

namespace Sys2Proof.Machine

/-- The pieces of the machine, one name for each field of State. -/
inductive Piece where
  | pending
  | dies
  | serial
  | mac
  | cmptStrap
  | cmpt
  | resetCause
  | dictReady
  | testen
  | startAnchor
  | time
  | servo
  | ptp
  | net
  | netPorts
  | sessions
  | svc
  | die
  | port
  | engine
  | stream
  | mill
  | rule
  | tally
  | row
  | col
  | parish
  | conf
  | pend
  | persisted
  | persistedOther
  | persistedBad
  | gens
  | seen
  | commit
  | reeve
  | timers
  | twin
  | power
  | fw
  | test
  | free
deriving DecidableEq, Repr

/-- Two machines hold the same in one piece. -/
def Piece.same (s t : State) : Piece → Prop
  | .pending => t.pending = s.pending
  | .dies => t.dies = s.dies
  | .serial => t.serial = s.serial
  | .mac => t.mac = s.mac
  | .cmptStrap => t.cmptStrap = s.cmptStrap
  | .cmpt => t.cmpt = s.cmpt
  | .resetCause => t.resetCause = s.resetCause
  | .dictReady => t.dictReady = s.dictReady
  | .testen => t.testen = s.testen
  | .startAnchor => t.startAnchor = s.startAnchor
  | .time => t.time = s.time
  | .servo => t.servo = s.servo
  | .ptp => t.ptp = s.ptp
  | .net => t.net = s.net
  | .netPorts => t.netPorts = s.netPorts
  | .sessions => t.sessions = s.sessions
  | .svc => t.svc = s.svc
  | .die => t.die = s.die
  | .port => t.port = s.port
  | .engine => t.engine = s.engine
  | .stream => t.stream = s.stream
  | .mill => t.mill = s.mill
  | .rule => t.rule = s.rule
  | .tally => t.tally = s.tally
  | .row => t.row = s.row
  | .col => t.col = s.col
  | .parish => t.parish = s.parish
  | .conf => t.conf = s.conf
  | .pend => t.pend = s.pend
  | .persisted => t.persisted = s.persisted
  | .persistedOther => t.persistedOther = s.persistedOther
  | .persistedBad => t.persistedBad = s.persistedBad
  | .gens => t.gens = s.gens
  | .seen => t.seen = s.seen
  | .commit => t.commit = s.commit
  | .reeve => t.reeve = s.reeve
  | .timers => t.timers = s.timers
  | .twin => t.twin = s.twin
  | .power => t.power = s.power
  | .fw => t.fw = s.fw
  | .test => t.test = s.test
  | .free => t.free = s.free

/-- The pieces that serving a request of a host may change. -/
def Piece.served : List Piece :=
  [.cmpt, .resetCause, .dictReady, .startAnchor, .time, .servo, .ptp, .net, .netPorts, .sessions, .svc, .die, .port, .engine, .stream] ++
  [.mill, .rule, .tally, .row, .col, .parish, .conf, .pend, .persisted, .persistedOther, .persistedBad, .gens, .seen, .commit] ++
  [.reeve, .timers, .twin, .power, .fw, .test, .free]

/-- The pieces that a reset may change. -/
def Piece.restarted : List Piece :=
  [.cmpt, .resetCause, .dictReady, .time, .servo, .ptp, .net, .netPorts, .svc, .die, .port, .engine, .stream] ++
  [.mill, .rule, .tally, .row, .col, .parish, .conf, .persisted, .persistedOther, .persistedBad, .reeve, .timers, .twin, .power, .fw, .test]

/-- From s to t nothing changes but the pieces listed. -/
def Changes (l : List Piece) (s t : State) : Prop := ∀ f, l.contains f = false → f.same s t

/-- Whatever next state a command answers from s differs from s in the listed pieces at most. -/
def ChangesOnly (l : List Piece) (s : State) (r : Result State) : Prop := ∀ t, r = .next t → Changes l s t

/-- The factory values that R1, R341 and R347 fix: the part has 2, 4 or 8 dies, a serial number of 32 bits and a MAC address of
48 bits. -/
abbrev Genuine (s : State) : Prop := (s.dies = 2 ∨ s.dies = 4 ∨ s.dies = 8) ∧ s.serial < 2 ^ 32 ∧ s.mac < 2 ^ 48

/-- Every scratch memory is in canonical form: addresses rising, no entry that reads as an unlisted one. -/
abbrev ScratchSound (s : State) : Prop := ∀ e ∈ s.engine, Memory.wf e.2.scratch = true

/-- Bytes of the records that a stream's ring holds. -/
def ringHeld (s : State) (k : Nat) : Nat := recBytes (s.streamAt k).ring

/-! ### Contexts of the tap engines -/

/-- A context of an engine. -/
def ctxOf (s : State) (e c : Nat) : Ctx := (s.engAt e).ctxAt c

/-- A register as a context reads it: w0 reads zero, w1 to w7 are the context's, w8 to w15 the engine's (R150). -/
def regOf (s : State) (e c : Nat) (r : BitVec 4) : Word := readReg (s.engAt e) (ctxOf s e c) r

/-- Context c runs on engine e within its budget, its PC lies in program memory, and the word there spells the instruction (R152, R156). -/
abbrev Runs (s : State) (e c : Nat) (i : Instr) : Prop :=
  e < 24 * usedDies s ∧ (s.engAt e).running = some c ∧ (ctxOf s e c).live = true ∧ (ctxOf s e c).slotWait = false ∧
    s.ticks < (ctxOf s e c).budgetEnd ∧ (ctxOf s e c).pc < 1024 ∧ decodeWord e (nth 0 (s.engAt e).prog (ctxOf s e c).pc) = some i

/-- From s to t context c of engine e changes to y, which may differ from it in the fields that y states, and registers may be
written; nothing else of the machine changes. -/
def CtxStep (s t : State) (e c : Nat) (y : Ctx) : Prop :=
  Changes [.engine] s t ∧ (∀ j, j ≠ e → t.engAt j = s.engAt j) ∧
    t.engAt e = { s.engAt e with ctxs := (t.engAt e).ctxs, shared := (t.engAt e).shared } ∧
    (∀ k, k ≠ c → ctxOf t e k = ctxOf s e k) ∧ ctxOf t e c = { y with regs := (ctxOf t e c).regs }

/-- Register rd holds v, but w0 reads zero always; every other register reads as before. -/
def WroteReg (s t : State) (e c : Nat) (rd : BitVec 4) (v : Word) : Prop :=
  ∀ r, regOf t e c r = if r = rd ∧ r ≠ 0 then v else regOf s e c r

/-- The effect of a register instruction: v to rd, the flags, the PC on the next word, and nothing else. -/
def Computes (s t : State) (e c : Nat) (rd : BitVec 4) (v : Word) (f : Flags) : Prop :=
  CtxStep s t e c { ctxOf s e c with z := f.z, n := f.n, c := f.c, v := f.v, pc := (ctxOf s e c).pc + 1 } ∧
    WroteReg s t e c rd v

/-- The flags of a sum (R158): C is the carry out of bit 31, V the signed overflow. -/
def sumFlags (a b : Word) : Flags :=
  { z := decide (a + b = 0), n := (a + b).getLsbD 31, c := decide (2 ^ 32 ≤ a.toNat + b.toNat)
    v := decide ((a + b).toInt ≠ a.toInt + b.toInt) }

/-- The flags of a difference (R158): C is 1 when no borrow occurs, V the signed overflow. -/
def diffFlags (a b : Word) : Flags :=
  { z := decide (a - b = 0), n := (a - b).getLsbD 31, c := decide (b.toNat ≤ a.toNat)
    v := decide ((a - b).toInt ≠ a.toInt - b.toInt) }

/-- A signed value clamped to 32 bits (R157). -/
def clamped (i : Int) : Word := BitVec.ofInt 32 (max (-2147483648) (min 2147483647 i))

/-- The flags that context c of engine e holds. -/
def flagsOf (s : State) (e c : Nat) : Flags := (ctxOf s e c).flagsOf

/-- The address of a scratch or I/O access: ra + IMM sign-extended, modulo 2^32 (R155, R156). -/
def addrOf (s : State) (e c : Nat) (ra : BitVec 4) (imm : BitVec 18) : Nat := (regOf s e c ra + imm.signExtend 32).toNat

/-- Context c of engine e ends in a fault of a detail code (R153, R176): the context is free, the engine is free, the fault is
counted and named with its PC, and neither the engine's registers, scratch and lines nor any other context or engine change. -/
def EndsInFault (s t : State) (e c detail : Nat) : Prop :=
  (t.engAt e).running = none ∧ thas (t.engAt e).ctxs c = false ∧ (t.engAt e).ready.contains c = false ∧
    (t.engAt e).faults = (s.engAt e).faults + 1 ∧ (t.engAt e).lastFault = detail + 256 * (ctxOf s e c).pc ∧
    (t.engAt e).scratch = (s.engAt e).scratch ∧ (t.engAt e).shared = (s.engAt e).shared ∧
    (t.engAt e).lines = (s.engAt e).lines ∧ (t.engAt e).prog = (s.engAt e).prog ∧
    (∀ k, k ≠ c → ctxOf t e k = ctxOf s e k) ∧ (∀ j, j ≠ e → t.engAt j = s.engAt j) ∧
    Changes [.die, .port, .engine, .stream, .parish, .reeve, .timers] s t

/-- The parish of engine e owns the resource with the given owner (R285, R289): neither entry is damaged and they agree. -/
abbrev Owns (s : State) (e : Nat) (owner : Option Nat) : Prop := owner.isSome = true ∧ owner = engOwner s e

/-! ### Time -/

/-- A RATE within ±500 ppm of 4 ns (R37), in units of 2^-32 ns. -/
abbrev rateInRange (r : Nat) : Prop := 0x3FF7CED91 ≤ r ∧ r ≤ 0x40083126F

/-- A time base within its fields: NANOSECONDS below 1,000,000,000, FRACTION below 2^32, RATE as written and in force within
R37, and SLEW_LIMIT at most 1,000 ppm. -/
abbrev TimeSound (t : TimeBase) : Prop :=
  t.nanos < 1000000000 ∧ t.frac < 2 ^ 32 ∧ rateInRange t.rate ∧ rateInRange t.rateForce ∧ t.slewLimit ≤ 1000

/-- Network time in units of 2^-32 ns since SECONDS was 0. -/
def fineOf (t : TimeBase) : Nat := (t.seconds.toNat * 1000000000 + t.nanos) * 2 ^ 32 + t.frac

/-- The span in which network time wraps, in units of 2^-32 ns: SECONDS has 48 bits (R35). -/
def timeSpan : Nat := 2 ^ 48 * 1000000000 * 2 ^ 32

/-- The machine with the status of a dictionary access in its RESPONSE (R328). -/
def answered (s : State) (code : Nat) : State := { s with net := { s.net with lastStatus := code } }

/-! ### Port operations and faults -/

/-- A count one further that stays at its greatest value. -/
def counted (m n : Nat) : Nat := if n < m then n + 1 else m

/-- Slot k of the die of port n. -/
def slotOf (s : State) (n k : Nat) : Slot := (s.dieAt (n / 12)).slotAt k

/-- Port n alone changes among the ports, and the machine in the listed pieces at most. -/
def PortOnly (l : List Piece) (s t : State) (n : Nat) : Prop := (∀ j, j ≠ n → t.portAt j = s.portAt j) ∧ Changes l s t

/-- The operation in slot k at the head of port n's queue is in a state and of a kind, and belongs to the port. -/
abbrev HeadOp (s : State) (n k state kind : Nat) : Prop :=
  (s.portAt n).queue.head? = some k ∧ (slotOf s n k).state = state ∧ (slotOf s n k).kind = kind ∧ (slotOf s n k).port = n

/-- From s to t the operation in slot k of port n completes with a status and a count (R85, R153, R166): the port's status
registers, the queue without it, and the slot, which is free with its generation one further when its context has ended. -/
def OpCompleted (s t : State) (n k status count : Nat) : Prop :=
  (t.portAt n).opStatus = status ∧ (t.portAt n).opCount = (s.portAt n).opCount + 1 ∧
    (t.portAt n).failed = (if status = 0 then (s.portAt n).failed else counted 65535 (s.portAt n).failed) ∧
    (t.portAt n).queue = without (s.portAt n).queue k ∧
    if (slotOf s n k).orphan then slotOf t n k = { gen := ((slotOf s n k).gen + 1) % 128 }
    else (slotOf t n k).state = 4 ∧ (slotOf t n k).status = status ∧ (slotOf t n k).count = count ∧
      (slotOf t n k).gen = (slotOf s n k).gen

/-- From s to t the scratch of engine e takes bytes from address a on; every other byte reads as before. -/
def ScratchTook (s t : State) (e a : Nat) (bs : List Byte) : Prop :=
  ∀ b, Memory.read (t.engAt e).scratch b =
    if a ≤ b ∧ b < a + bs.length then nth 0 bs (b - a) else Memory.read (s.engAt e).scratch b

/-- The record of a fault is due: none of its class, detail and item was written on the die within 100 ms (R370). -/
abbrev FaultDue (s : State) (d cls detail item : Nat) : Prop :=
  ∀ e ∈ (s.dieAt d).faultAt, e.1 = (cls * 256 + detail) * 65536 + item % 65536 → e.2 + 25000000 ≤ s.time.elapsed

/-- From s to t a fault of a class, a detail and an item is recorded on die d when its record is due: FAULTS counts it and
LAST_FAULT is its FW word with the parish that it concerns (R236, R347, R370). -/
def FaultTold (s t : State) (d cls detail item parish : Nat) : Prop :=
  FaultDue s d cls detail item →
    t.reeve.faults = s.reeve.faults + 1 ∧ t.reeve.lastFault = detail % 256 + cls % 256 * 256 + parish % 16 * 65536

/-- From s to t the SAFE reaction to a dangerous fault is taken (R369, R371): with safety outputs in use and parish 1 in TEST, RUN
or RECOVERY the reaction is in force, the fault counts in DANGEROUS and is a cause, and every output is off. -/
def SafeTaken (s t : State) (key : Nat × Nat × Nat × Nat) : Prop :=
  cfg s 0xD000 4 0 ≠ 0 → decided s 1 = 1 ∨ decided s 1 = 2 ∨ decided s 1 = 3 →
    t.reeve.reaction = true ∧ t.reeve.dangerous = s.reeve.dangerous + 1 ∧ key ∈ t.reeve.causes ∧
      ∀ d, d < usedDies s → (t.dieAt d).soOut = 0

/-- From s to t die d becomes a lost die (R22): it stops, but for the logic of the lead die, which goes on as lead steward; its outputs and the pads of its ports float, and the replacement request
holds reason 1. -/
def DieLost (s t : State) (d : Nat) : Prop :=
  (t.dieAt d).lost = true ∧ (t.dieAt d).logicOn = (decide (d = 0) && (s.dieAt d).logicOn) ∧ (t.dieAt d).soOut = 0 ∧ (t.dieAt d).opens = [] ∧
    (∀ n, n / 12 = d → (t.portAt n).powered = false ∧ (t.portAt n).pinOe = 0 ∧ (t.portAt n).vpOn = false) ∧
    (∀ n, n / 12 ≠ d → t.portAt n = s.portAt n) ∧ bitOf t.reeve.rqReason 1 = true ∧
    Changes [.die, .port, .stream, .parish, .reeve, .timers] s t

/-- From s to t the part has lost what a reset loses and kept what it keeps, with a cause (R438): no time base but the start of one,
no record, session or setting in force, and the persisted set, the keys and the committed pages of the NV log as they were. -/
def WasReset (s t : State) (cause : Nat) : Prop :=
  t.resetCause = cause ∧ t.time = {} ∧ t.stream = [] ∧ t.sessions = [] ∧ t.pend = [] ∧ t.conf = [] ∧ t.engine = [] ∧
    t.dictReady = false ∧ t.persisted = s.persisted ∧ t.persistedOther = s.persistedOther ∧
    (∀ p, t.parAt p = { key := (s.parAt p).key }) ∧
    (∀ d p, (tget {} (t.dieAt d).regions p).openPage = none ∧ (tget {} (t.dieAt d).regions p).queue = []) ∧
    Changes (Piece.served) s t

/-! ### Requests of hosts -/

/-- A host's frame is served as soon as it arrives: its port is live, no request waits, and a firmware slot runs (R316, R327). -/
abbrev ServedAtOnce (s : State) (f : HostFrame) : Prop :=
  f.port < 3 ∧ portLive s f.port = true ∧ s.net.waiting = [] ∧ s.fw.boot = false

/-- An untagged frame with no flag set, of a parish that exists. -/
abbrev PlainFrame (f : HostFrame) : Prop := f.flags = 0 ∧ leNat f.tag = 0 ∧ f.parish < 16

/-- An open session of the frame's parish, whose number the frame carries. -/
abbrev InSession (s : State) (f : HostFrame) (x : Session) : Prop :=
  findSession s f.session = some x ∧ f.session ≠ 0 ∧ x.isOpen = true ∧ x.parish = f.parish

/-- The machine once a frame has been received at a port: RX_FRAMES counts it, and the measure of SLEEP_TIME begins again (R341, R405). -/
def received (s : State) (n : Nat) : State :=
  let u := s.modNet n (fun x => { x with rxFrames := x.rxFrames + 1 })
  { u with timers := { u.timers with sleepRun := 0 } }

/-- The machine once a frame has been received that is served at once: IDLE ends, and the measure of IDLE_TIME begins again (R405). -/
def arrived (s : State) (f : HostFrame) : State :=
  let u := received s f.port
  { u with power := { u.power with state := if u.power.state = 1 then 0 else u.power.state }, timers := { u.timers with idleRun := 0 } }

/-- In t an untagged RESPONSE to a frame waits last at the port that serves the frame's port, with its flags, session byte and
payload (R312, R317). -/
def Responded (s t : State) (f : HostFrame) (flags session : Nat) (payload : List Byte) : Prop :=
  ∃ g, (t.netAt (servingPort s f.port)).waiting.getLast? = some g ∧ g.op = 5 ∧ g.dst = f.src ∧ g.flags = flags ∧
    g.parish = f.parish ∧ g.session = session ∧ g.transId = f.transId ∧ g.objCount = f.objCount ∧ g.tag = [] ∧ g.payload = payload

/-- Every safety output of the part is energised exactly when R363 lets it be. -/
abbrev OutputsFollow (t : State) : Prop :=
  ∀ d o, d < usedDies t → o < 2 → bitOf (t.dieAt d).soOut o = soEnergise t d o (soRequested t d o)

/-- What every step keeps: the factory identity of a genuine part, every scratch memory in canonical form, RATE as written and in
force within R37, and a fraction of a nanosecond below one. -/
abbrev Sound (s : State) : Prop :=
  Genuine s ∧ ScratchSound s ∧ rateInRange s.time.rate ∧ rateInRange s.time.rateForce ∧ s.time.frac < 2 ^ 32

/-- Port n exists among the dies in use (R6). -/
abbrev hasPort (s : State) (n : Nat) : Prop := n < usedDies s * 12

end Sys2Proof.Machine
end

