-- ==== Sys2Proof/WellFormed.lean ====
section
/-! DEFINITION. Which commands name units and operands that a part with so many dies has (R6, R9, R17, R161, R167). -/

namespace Sys2Proof

/-- Whether a command is well formed on a part with so many dies in use: every unit it names exists, and every coded operand lies
within its field's codes. -/
def Instr.wfFor (dies : Nat) : Instr → Bool
  | .leadHeartbeat d => d < dies
  | .leadLost d => d < dies
  | .ringFrameReceive d link _ _ _ => d < dies && link < dies
  | .ringLinkLost link => link < dies
  | .sidebandPairFault d _ => d < dies
  | .safetyOutputTripRequest d _ _ => d < dies
  | .matrixTripConfirmed d _ => d < dies
  | .timeAlignFrame _ => true
  | .timeTick => true
  | .slewComplete => true
  | .rateWrite _ => true
  | .offsetAdjWrite _ => true
  | .timeSetWrite _ => true
  | .reacquireWrite _ => true
  | .refRetune _ => true
  | .tsecLoRead e _ => e < 24 * dies
  | .ptpSyncReceive n _ _ _ => n < 3
  | .ptpAnnounceReceive n _ _ _ _ _ _ _ _ => n < 3
  | .ptpDelayResponseReceive n _ _ _ => n < 3
  | .ptpMessageDiscard n => n < 3
  | .ptpSyncSend n => n < 3
  | .ptpDelayRequestSend n => n < 3
  | .ptpAnnounceSend n => n < 3
  | .syncTimeout n => n < 3
  | .portModeIdleEnd n => n < 12 * dies
  | .vpOnWrite n _ => n < 12 * dies
  | .pgood n => n < 12 * dies
  | .vpAverageOverload n => n < 12 * dies
  | .vpPeakOverload n => n < 12 * dies
  | .emCfgWrite n _ => n < 12 * dies
  | .governorGrant d _ => d < dies
  | .emitterPulseDone n _ _ => n < 12 * dies
  | .quarantineProbe n _ _ => n < 12 * dies
  | .quarCtlRelease n => n < 12 * dies
  | .quarCtlHold n => n < 12 * dies
  | .quarCtlProbe n => n < 12 * dies
  | .uartRxLowTimeout n => n < 12 * dies
  | .pinEdge n pin _ _ => n < 12 * dies && pin < 4
  | .portOperationStart n _ => n < 12 * dies
  | .twStart n _ => n < 12 * dies
  | .arbitrationLost n => n < 12 * dies
  | .twTransferDone n _ _ _ _ => n < 12 * dies
  | .busTimeout n _ => n < 12 * dies
  | .busRecoveryDone n _ => n < 12 * dies
  | .spiTransferDone n _ => n < 12 * dies
  | .uartIdleGap n => n < 12 * dies
  | .uartTransferDone n _ _ _ _ => n < 12 * dies
  | .svcStatus => true
  | .svcResult => true
  | .svcObjRead data _ => data.length ≤ 255
  | .svcObjWrite data _ => data.length ≤ 255
  | .svcSession data _ => data.length ≤ 255
  | .svcRecords => true
  | .svcRecordsAck _ _ => true
  | .svcUnknownCommand => true
  | .svcSclTimeout _ => true
  | .svcAddressWake => true
  | .stewardServeRequest => true
  | .adcConversionDone n raw _ _ _ => n < 12 * dies && decide (-32768 ≤ raw ∧ raw ≤ 32767)
  | .rangeSettled n => n < 12 * dies
  | .anaOperationDone n => n < 12 * dies
  | .codeBurstDone n _ _ => n < 12 * dies
  | .singleSlopeEnd n _ _ _ => n < 12 * dies
  | .comparatorEdge n j _ _ => n < 12 * dies && j ≤ 1
  | .majoritySample n j => n < 12 * dies && j ≤ 2
  | .tripFilterExpiry n j => n < 12 * dies && j ≤ 2
  | .cmpLatchClear n _ => n < 12 * dies
  | .cmpDacWrite n _ => n < 12 * dies
  | .pgStart n g => n < 12 * dies && g ≤ 1
  | .pgStop n g => n < 12 * dies && g ≤ 1
  | .pgPeriodStart n g => n < 12 * dies && g ≤ 1
  | .pgPulseEnd n g => n < 12 * dies && g ≤ 1
  | .pgTrip n g => n < 12 * dies && g ≤ 1
  | .pgHeldClear n g => n < 12 * dies && g ≤ 1
  | .contextLaunch d _ => d < dies
  | .contextDispatch e => e < 24 * dies
  | .add e _ _ _ => e < 24 * dies
  | .sub e _ _ _ => e < 24 * dies
  | .and e _ _ _ => e < 24 * dies
  | .or e _ _ _ => e < 24 * dies
  | .xor e _ _ _ => e < 24 * dies
  | .shl e _ _ _ => e < 24 * dies
  | .shr e _ _ _ => e < 24 * dies
  | .sar e _ _ _ => e < 24 * dies
  | .adds e _ _ _ => e < 24 * dies
  | .subs e _ _ _ => e < 24 * dies
  | .mul e _ _ _ => e < 24 * dies
  | .mulh e _ _ _ => e < 24 * dies
  | .mulhu e _ _ _ => e < 24 * dies
  | .mulq e _ _ _ => e < 24 * dies
  | .min e _ _ _ => e < 24 * dies
  | .max e _ _ _ => e < 24 * dies
  | .minu e _ _ _ => e < 24 * dies
  | .maxu e _ _ _ => e < 24 * dies
  | .abs e _ _ => e < 24 * dies
  | .addi e _ _ _ => e < 24 * dies
  | .andi e _ _ _ => e < 24 * dies
  | .ori e _ _ _ => e < 24 * dies
  | .xori e _ _ _ => e < 24 * dies
  | .shli e _ _ _ => e < 24 * dies
  | .shri e _ _ _ => e < 24 * dies
  | .sari e _ _ _ => e < 24 * dies
  | .lui e _ _ => e < 24 * dies
  | .cmpi e _ _ => e < 24 * dies
  | .addsi e _ _ _ => e < 24 * dies
  | .lw e _ _ _ => e < 24 * dies
  | .lh e _ _ _ => e < 24 * dies
  | .lhu e _ _ _ => e < 24 * dies
  | .lb e _ _ _ => e < 24 * dies
  | .lbu e _ _ _ => e < 24 * dies
  | .sw e _ _ _ => e < 24 * dies
  | .sh e _ _ _ => e < 24 * dies
  | .sb e _ _ _ => e < 24 * dies
  | .ioIn e _ _ _ => e < 24 * dies
  | .ioOut e _ _ _ => e < 24 * dies
  | .pairWordWrite e _ => e < 24 * dies
  | .registerWrite e _ _ => e < 24 * dies
  | .branch e cond _ => e < 24 * dies && cond.toNat ≤ 12
  | .jal e _ _ => e < 24 * dies
  | .jr e _ => e < 24 * dies
  | .issueTw e _ _ _ _ => e < 24 * dies
  | .issueSpi e _ _ _ _ => e < 24 * dies
  | .issueUart e _ _ _ _ => e < 24 * dies
  | .issueAna e _ _ _ _ => e < 24 * dies
  | .issuePulse e _ _ => e < 24 * dies
  | .transactionSlotFree d => d < dies
  | .stampRead e _ _ => e < 24 * dies
  | .emit e _ _ _ => e < 24 * dies
  | .emitS e _ _ _ => e < 24 * dies
  | .millSubmit e _ _ _ => e < 24 * dies
  | .sieveOffer e _ _ => e < 24 * dies
  | .signalLow e _ => e < 24 * dies
  | .signalHigh e _ => e < 24 * dies
  | .signalPulse e _ => e < 24 * dies
  | .awaitComp e _ _ => e < 24 * dies
  | .awaitEdge e _ _ _ edge => e < 24 * dies && edge != 0
  | .awaitTime e _ _ _ => e < 24 * dies
  | .awaitLine e _ _ _ => e < 24 * dies
  | .awaitResume e _ => e < 24 * dies
  | .yield e => e < 24 * dies
  | .trap e _ => e < 24 * dies
  | .reservedOpcode e => e < 24 * dies
  | .pcend e => e < 24 * dies
  | .frameBegin d => d < dies
  | .entryNominalInstant d _ => d < dies
  | .windowEnd d _ => d < dies
  | .nextImageWrite d p _ _ => d < dies && p < 16
  | .millOutputComputed c => c < 16 * dies
  | .millSlot c => c < 16 * dies
  | .millRound d => d < dies
  | .sieveOfferEval d => d < dies
  | .sieveTimerExpiry r => r < 64 * dies
  | .sieveSilenceExpiry r => r < 64 * dies
  | .maxAgeExpiry k => k < 512 * dies
  | .batchAssemble p => p < 16
  | .crierWake p => p < 16
  | .wakeHoldExpiry => true
  | .wakeRetryExpiry p => p < 16
  | .logFlushExpiry d _ => d < dies
  | .nvPageWriteDone d _ _ _ => d < dies
  | .logTrigger p => p < 16
  | .captureStart d _ => d < dies
  | .captureEnd d _ => d < dies
  | .wearLevelCheck d => d < dies
  | .nvScanDone d => d < dies
  | .tallyTick t => t < 32 * dies
  | .tallyLinkAction t => t < 32 * dies
  | .tallyStart t => t < 32 * dies
  | .tallyStop t => t < 32 * dies
  | .tallyReset t => t < 32 * dies
  | .unitStart u _ => u < 8 * dies
  | .unitReset u _ => u < 8 * dies
  | .topWrite t _ => t < 32 * dies
  | .cmpWrite t _ => t < 32 * dies
  | .tallyCapture t _ => t < 32 * dies
  | .tallyPairedRise t => t < 32 * dies
  | .tallyPairedFall t => t < 32 * dies
  | .matrixRowChange d r _ => d < dies && r < 80
  | .crossDieLineFault d line _ => d < dies && line < 16
  | .stateReqRun p => p < 16
  | .stateReqHalt p => p < 16
  | .parishStateChange d p => d < dies && p < 16
  | .testTimeExpiry p => p < 16
  | .keyWrite p _ _ => p < 16
  | .sessionOpen f => f.port < 3
  | .sessionConfirm f => f.port < 3
  | .sessionClose f => f.port < 3
  | .sessionIdleExpiry _ => true
  | .openBlockExpiry p => p < 16
  | .armReqWrite _ _ _ => true
  | .armWindowExpiry => true
  | .fwImageWrite p _ _ => p < 16
  | .fwCheckDone => true
  | .fwSwitch p _ _ => p < 16
  | .ethFrameOther n => n < 3
  | .adpFrameReject n _ _ => n < 3
  | .adpPing f => f.port < 3
  | .adpRead f => f.port < 3
  | .adpWrite f => f.port < 3
  | .adpReadBlock f => f.port < 3
  | .adpWriteBlock f => f.port < 3
  | .blockTimeoutExpiry _ => true
  | .adpAbort f => f.port < 3
  | .adpStreamRequest f => f.port < 3
  | .sleepVoteSleep f => f.port < 3
  | .sleepVoteStay f => f.port < 3
  | .adpWakeNotice f => f.port < 3
  | .adpHubOpcodeReceived op f => f.port < 3 && op < 16 && (op == 5 || op == 8 || 12 ≤ op)
  | .deliveryWindowOpen n k => n < 3 && k < 8
  | .announcePeriodExpiry n => n < 3
  | .plcaCycle n => n < 3
  | .plcaInactive n => n < 3
  | .linkDown n => n < 3
  | .linkUp n => n < 3
  | .failback n => n < 3
  | .txDiscardTimeout n => n < 3
  | .sleepAgreement => true
  | .sleepCommitPoint => true
  | .networkWakeActivity n => n < 3
  | .networkWakePattern n => n < 3
  | .commitPending _ p _ => p < 16
  | .applyPending _ p _ => p < 16
  | .discardPending _ p => p < 16
  | .commitDieApply d => d < dies
  | .persistDone _ => true
  | .soRelease value => value < 65536
  | .restartDelayExpiry d o => d < dies && o < 2
  | .twtripInTrip => true
  | .lockstepMismatch d => d < dies
  | .watchdogService d => d < dies
  | .watchdogTimeout d => d < dies
  | .clockMonitorFault d detail _ => d < dies && 1 ≤ detail && detail ≤ 6
  | .supplyMonitorFault d detail _ => d < dies && 1 ≤ detail && detail ≤ 5
  | .thermalWarning d _ => d < dies
  | .thermalShutdown d _ _ _ => d < dies
  | .tripTestPulseStart d o => d < dies && o < 2
  | .tripTestDeadline d kind _ _ => d < dies && 1 ≤ kind && kind ≤ 3
  | .tripTestPulseEnd d => d < dies
  | .outputReadbackFault d o _ => d < dies && o < 2
  | .soCurrentLimitExpiry d o => d < dies && o < 2
  | .pairDigestCompare d _ => d < dies
  | .retireEngine _ => true
  | .recoveryCauseCleared => true
  | .latchReset _ => true
  | .twinWordSend => true
  | .twinHello _ => true
  | .twinVerdict _ => true
  | .twinDetach _ => true
  | .twinRest _ => true
  | .twinWordInvalid => true
  | .twinLost => true
  | .lostRqTimeExpiry => true
  | .powerCmdRun => true
  | .powerCmdSleep => true
  | .powerCmdDeepSleep => true
  | .powerCmdOff => true
  | .idleTimeExpiry => true
  | .sleepTimeExpiry => true
  | .deepTimeExpiry => true
  | .storageTimeExpiry => true
  | .drainExpiry => true
  | .powerStateReached => true
  | .wakePinLevel => true
  | .wakePinEdge => true
  | .wakePinStart => true
  | .comparatorWake n => n < 12 * dies
  | .aonTallyWake => true
  | .twinWake => true
  | .sentinelCrierWake r => r < 64 * dies
  | .wakeAfterExpiry => true
  | .returnComplete _ => true
  | .opSet _ => true
  | .voltageConfirmed d => d < dies
  | .opSwitchPause d => d < dies
  | .sysPllChecked d => d < dies
  | .relockTimeout d => d < dies
  | .converterDerate detail _ _ => detail == 3 || detail == 4 || detail == 6
  | .derateClear => true
  | .scrubWord d err _ _ _ => d < dies && err < 4
  | .reloadCopyWrite d _ _ => d < dies
  | .reloadApply d _ _ => d < dies
  | .rotaFailover d _ => d < dies
  | .temperatureCheck d _ => d < dies
  | .calReq n => n < 12 * dies
  | .calItemDone n item _ _ => 1 ≤ item && item ≤ 10 && (if item ≤ 7 then n < 12 * dies else n < dies)
  | .forcedCalWindow n => n < 12 * dies
  | .telemetryInstant => true
  | .vinValid _ _ _ _ _ _ _ => true
  | .vinDip _ _ => true
  | .resetWrite _ => true
  | .dieStartupTimeout d => d < dies
  | .thermalRestart _ => true
  | .selfTest _ => true
  | .selfTestDone _ => true
  | .portLoopL0 n => n < 12 * dies
  | .portLoopL1 n => n < 12 * dies
  | .portLoopL2 n => n < 12 * dies
  | .portLoopL3 n => n < 12 * dies
  | .netLoopMac n _ => n < 3
  | .netLoopPcs n _ => n < 3
  | .netLoopPma n _ => n < 3
  | .netLoopRemote n _ => n < 3
  | .remoteFrameReflect n _ => n < 3
  | .loopTimeoutExpiry n => n < 3
  | .twinLoopNear => true
  | .twinLoopFar => true
  | .ringLoop l => l < dies
  | .loopbackDone kind n firstErr _ => kind ≤ 3 && firstErr ≤ 6 && (if kind = 0 then n < 12 * dies else if kind = 1 then n < 3 else true)
  | .leadHeartbeatSend => true
  | .ptpFollowUpReceive n _ _ => n < 3
  | .ptpDelayRequestReceive n _ _ => n < 3
  | .announceReceiptTimeout n => n < 3
  | .quarantineProbePassed n _ => n < 12 * dies
  | .transmitOpportunity n => n < 3
  | .netLoopStop n _ => n < 3
  | .twtripInRelease => true
  | .monitorReturnToBand d _ _ => d < dies
  | .soCurrentLimitHoldoffEnd d o => d < dies && o < 2

/-- Whether a command is well formed on some part: an SCN-880 has the most units (R17). -/
def Instr.wf (i : Instr) : Bool := i.wfFor 8

end Sys2Proof
end

