-- ==== Sys2Proof/Certificates/Slice0/Obligations.lean ====
section
/-! DEFINITION. The statements for the provers: what the commands of each family do, what they leave unchanged, and what every step
keeps. -/

open Sys2Proof Sys2Proof.Machine

/-- R156 to R158: ADD, SUB, ADDI and CMPI write the 32-bit sum or difference and set Z, N, C and V; CMPI writes no register. Nothing
else of the machine changes. R156 to R158: the shift count is rb[4:0] or IMM[4:0]; C is the last bit shifted out and unchanged for a count of 0. -/
def Obligations.SumsDifferencesAndShiftsSetFlags : Prop :=
  (∀ (s : State) (e c : Nat) (rd ra rb : BitVec 4) (imm : BitVec 18),
    let a := regOf s e c ra
    let b := regOf s e c rb
    let k : Word := imm.signExtend 32
    (Runs s e c (.add e rd ra rb) → ∃ t, exec (.add e rd ra rb) s = .next t ∧ Computes s t e c rd (a + b) (sumFlags a b)) ∧
    (Runs s e c (.sub e rd ra rb) → ∃ t, exec (.sub e rd ra rb) s = .next t ∧ Computes s t e c rd (a - b) (diffFlags a b)) ∧
    (Runs s e c (.addi e rd ra imm) →
      ∃ t, exec (.addi e rd ra imm) s = .next t ∧ Computes s t e c rd (a + k) (sumFlags a k)) ∧
    (Runs s e c (.cmpi e ra imm) → ∃ t, exec (.cmpi e ra imm) s = .next t ∧ Computes s t e c 0 0 (diffFlags a k))) ∧
  (∀ (s : State) (e c : Nat) (rd ra rb : BitVec 4) (n : BitVec 5) (i : Instr) (v : Word) (k bit : Nat),
    let y := ctxOf s e c
    let a := regOf s e c ra
    let m := (regOf s e c rb).toNat % 32
    (i, v, k, bit) ∈ [(.shl e rd ra rb, a <<< m, m, 32 - m), (.shr e rd ra rb, a >>> m, m, m - 1),
        (.sar e rd ra rb, a.sshiftRight m, m, m - 1), (.shli e rd ra n, a <<< n.toNat, n.toNat, 32 - n.toNat),
        (.shri e rd ra n, a >>> n.toNat, n.toNat, n.toNat - 1), (.sari e rd ra n, a.sshiftRight n.toNat, n.toNat, n.toNat - 1)] →
      Runs s e c i →
      ∃ t, exec i s = .next t ∧ Computes s t e c rd v
        { z := decide (v = 0), n := v.getLsbD 31, c := if k = 0 then y.c else a.getLsbD bit, v := y.v })

/-- R156 to R158: the logic instructions, the products without saturation, the minima and the maxima set Z and N from the result and
leave C and V; LUI sets no flag. R156 to R158: the saturating instructions compute the exact signed result, clamp it, set V when it was clamped, and leave C. -/
def Obligations.LogicProductsExtremaAndSaturation : Prop :=
  (∀ (s : State) (e c : Nat) (rd ra rb : BitVec 4) (imm : BitVec 18) (i : Instr) (v : Word),
    let y := ctxOf s e c
    let a := regOf s e c ra
    let b := regOf s e c rb
    let k : Word := imm.setWidth 32
    ((i, v) ∈ [(.and e rd ra rb, a &&& b), (.or e rd ra rb, a ||| b), (.xor e rd ra rb, a ^^^ b), (.andi e rd ra imm, a &&& k),
        (.ori e rd ra imm, a ||| k), (.xori e rd ra imm, a ^^^ k), (.mul e rd ra rb, a * b),
        (.mulh e rd ra rb, (a.signExtend 64 * b.signExtend 64).extractLsb' 32 32),
        (.mulhu e rd ra rb, (a.setWidth 64 * b.setWidth 64).extractLsb' 32 32),
        (.min e rd ra rb, if a.slt b then a else b), (.max e rd ra rb, if a.slt b then b else a),
        (.minu e rd ra rb, if a < b then a else b), (.maxu e rd ra rb, if a < b then b else a)] →
      Runs s e c i →
      ∃ t, exec i s = .next t ∧ Computes s t e c rd v { z := decide (v = 0), n := v.getLsbD 31, c := y.c, v := y.v }) ∧
    (Runs s e c (.lui e rd imm) →
      ∃ t, exec (.lui e rd imm) s = .next t ∧ Computes s t e c rd (k <<< 14) { z := y.z, n := y.n, c := y.c, v := y.v })) ∧
  (∀ (s : State) (e c : Nat) (rd ra rb : BitVec 4) (imm : BitVec 18) (i : Instr) (x : Int),
    let a := (regOf s e c ra).toInt
    let b := (regOf s e c rb).toInt
    let v := clamped x
    (i, x) ∈ [(.adds e rd ra rb, a + b), (.subs e rd ra rb, a - b), (.addsi e rd ra imm, a + imm.toInt),
        (.mulq e rd ra rb, a * b / 2 ^ 31), (.abs e rd ra, |a|)] →
      Runs s e c i →
      ∃ t, exec i s = .next t ∧ Computes s t e c rd v
        { z := decide (v = 0), n := v.getLsbD 31, c := (ctxOf s e c).c, v := decide (v.toInt ≠ x) })

/-- R155, R156, R159: a load reads naturally aligned scratch bytes, least significant first; any other address ends the context
with OPERAND. R155, R156, R159: a store writes the low bytes of rd, least significant first, at the address that addrOf computes, and no
other byte; any other address ends the context with OPERAND and writes nothing. -/
def Obligations.LoadsAndStoresReachAlignedScratch : Prop :=
  (∀ (s : State) (e c : Nat) (rd ra : BitVec 4) (imm : BitVec 18) (i : Instr) (n : Nat) (v : Word),
    let a := addrOf s e c ra imm
    let m : Nat → Byte := fun j => Memory.read (s.engAt e).scratch (a + j)
    (i, n, v) ∈ [(.lw e rd ra imm, 4, m 3 ++ m 2 ++ m 1 ++ m 0), (.lh e rd ra imm, 2, (m 1 ++ m 0).signExtend 32),
        (.lhu e rd ra imm, 2, (m 1 ++ m 0).setWidth 32), (.lb e rd ra imm, 1, (m 0).signExtend 32),
        (.lbu e rd ra imm, 1, (m 0).setWidth 32)] →
      Runs s e c i →
      if a % n = 0 ∧ a + n ≤ 1024 then ∃ t, exec i s = .next t ∧ Computes s t e c rd v (flagsOf s e c)
      else ∃ t, exec i s = .next t ∧ EndsInFault s t e c 2) ∧
  (∀ (s : State) (e c : Nat) (rd ra : BitVec 4) (imm : BitVec 18) (i : Instr) (n : Nat),
    let a := addrOf s e c ra imm
    (i, n) ∈ [(.sw e rd ra imm, 4), (.sh e rd ra imm, 2), (.sb e rd ra imm, 1)] →
      Runs s e c i → ScratchSound s →
      if a % n = 0 ∧ a + n ≤ 1024 then
        ∃ t, exec i s = .next t ∧
          (∀ j, j < n → Memory.read (t.engAt e).scratch (a + j) = (regOf s e c rd).extractLsb' (8 * j) 8) ∧
          (∀ b, b < a ∨ a + n ≤ b → Memory.read (t.engAt e).scratch b = Memory.read (s.engAt e).scratch b) ∧
          t.engAt e = { s.engAt e with scratch := (t.engAt e).scratch, ctxs := (t.engAt e).ctxs } ∧
          ctxOf t e c = { ctxOf s e c with pc := (ctxOf s e c).pc + 1 } ∧ (∀ k, k ≠ c → ctxOf t e k = ctxOf s e k) ∧
          (∀ j, j ≠ e → t.engAt j = s.engAt j) ∧ Changes [.engine] s t
      else ∃ t, exec i s = .next t ∧ EndsInFault s t e c 2)

/-- R40, R88, R154, R160: what IN answers for each kind of address. R87, R88, R160, R175: what OUT does for each kind of address. R40, R87, R175: the register effects as commands of their own; the PC does not move (DEDUCED, log entry 9). -/
def Obligations.InAndOutReachTheIoSpace : Prop :=
  (∀ (s : State) (e c : Nat) (rd ra : BitVec 4) (imm : BitVec 18), Runs s e c (.ioIn e rd ra imm) →
    let a := addrOf s e c ra imm
    let x := s.engAt e
    let y := ctxOf s e c
    let n := e / 24 * 12 + a / 64
    let reads (v : Word) := ∃ t, exec (.ioIn e rd ra imm) s = .next t ∧ Computes s t e c rd v (flagsOf s e c)
    (a % 4 ≠ 0 ∨ 0xFFF < a → ∃ t, exec (.ioIn e rd ra imm) s = .next t ∧ EndsInFault s t e c 2) ∧
    (a % 4 = 0 → a < 0x300 → ¬Owns s e (portOwner s n) →
      ∃ t, exec (.ioIn e rd ra imm) s = .next t ∧ EndsInFault s t e c 3) ∧
    (a % 4 = 0 → a < 0x300 → Owns s e (portOwner s n) → domainOn s n = false →
      ∃ t, exec (.ioIn e rd ra imm) s = .next t ∧ WroteReg s t e c rd 0 ∧ (ctxOf t e c).pc = y.pc + 1 ∧
        (t.engAt e).running = some c ∧ (t.engAt e).faults = x.faults + 1 ∧ (t.engAt e).lastFault = 4 + 256 * y.pc ∧
        (t.engAt e).scratch = x.scratch ∧ Changes [.die, .engine, .stream, .parish, .reeve, .timers] s t) ∧
    (a % 4 = 0 → a < 0x300 → Owns s e (portOwner s n) → domainOn s n = true → reads (BitVec.ofNat 32 (portReg s n (a % 64)))) ∧
    (a = 0xF00 → ∃ t, exec (.ioIn e rd ra imm) s = .next t ∧ WroteReg s t e c rd (s.time.seconds.setWidth 32) ∧
      ctxOf t e c = { y with pc := y.pc + 1, regs := (ctxOf t e c).regs } ∧
      (t.engAt e).tsecHi = (s.time.seconds >>> 32).setWidth 32 ∧ (t.engAt e).tns = BitVec.ofNat 32 s.time.nanos ∧
      (t.engAt e).tfrac = BitVec.ofNat 32 s.time.frac ∧ (t.engAt e).scratch = x.scratch ∧ Changes [.engine] s t) ∧
    (a = 0xF04 → reads x.tsecHi) ∧ (a = 0xF08 → reads x.tns) ∧ (a = 0xF0C → reads x.tfrac) ∧
    (a = 0xF10 → reads (BitVec.ofNat 32 (e % 256 + e % 24 * 2 ^ 8 + e / 24 % 8 * 2 ^ 13 + c % 32 * 2 ^ 16 +
      (engOwner s e).getD 0 % 16 * 2 ^ 24))) ∧
    (a = 0xF14 → reads (BitVec.ofNat 32 (y.entry % 2048 + y.flags % 256 * 2 ^ 12))) ∧
    (a = 0xF18 → reads (s.dieAt (e / 24)).frames) ∧
    (a = 0xF24 → reads (BitVec.ofNat 32 (x.dropped + x.orphans * 2 ^ 16))) ∧
    (a % 4 = 0 → 0x300 ≤ a → a < 0xF00 ∨ 0xF28 ≤ a → a ≤ 0xFFF → reads 0)) ∧
  (∀ (s : State) (e c : Nat) (rd ra : BitVec 4) (imm : BitVec 18), Runs s e c (.ioOut e rd ra imm) →
    let a := addrOf s e c ra imm
    let v := regOf s e c rd
    let x := s.engAt e
    let y := ctxOf s e c
    let n := e / 24 * 12 + a / 64
    let go := exec (.ioOut e rd ra imm) s
    let pins (g : Port → Port) := ∃ t, go = .next t ∧ t.portAt n = g (s.portAt n) ∧ (∀ j, j ≠ n → t.portAt j = s.portAt j) ∧
      (∀ r, regOf t e c r = regOf s e c r) ∧ ctxOf t e c = { y with pc := y.pc + 1 } ∧ Changes [.port, .engine] s t
    (a % 4 ≠ 0 ∨ 0xFFF < a → ∃ t, go = .next t ∧ EndsInFault s t e c 2) ∧
    (a % 4 = 0 → a < 0x300 → ¬Owns s e (portOwner s n) → ∃ t, go = .next t ∧ EndsInFault s t e c 3) ∧
    (a % 4 = 0 → a < 0x300 → Owns s e (portOwner s n) → domainOn s n = false →
      ∃ t, go = .next t ∧ (t.engAt e).dropped = (if x.dropped < 65535 then x.dropped + 1 else 65535) ∧
        (t.engAt e).faults = x.faults + 1 ∧ (t.engAt e).lastFault = 4 + 256 * y.pc ∧ ctxOf t e c = { y with pc := y.pc + 1 } ∧
        (t.engAt e).scratch = x.scratch ∧ Changes [.die, .engine, .stream, .parish, .reeve, .timers] s t) ∧
    (a < 0x300 → a % 64 = 0x08 → Owns s e (portOwner s n) → domainOn s n = true →
      pins (fun p => { p with pinOut := v.setWidth 4 })) ∧
    (a < 0x300 → a % 64 = 0x0C → Owns s e (portOwner s n) → domainOn s n = true →
      pins (fun p => { p with pinOe := v.setWidth 4 })) ∧
    (a < 0x300 → a % 64 = 0x10 → Owns s e (portOwner s n) → domainOn s n = true →
      pins (fun p => { p with rise := p.rise &&& ~~~v.setWidth 4, fall := p.fall &&& ~~~v.extractLsb' 4 4 })) ∧
    (a = 0xF20 → ∃ t, go = .next t ∧ CtxStep s t e c { y with
      pc := y.pc + 1
      digest := if bitOf y.flags 2 then BitVec.ofNat 32 (crc32Fold y.digest.toNat (leBytes 4 v.toNat)) else y.digest } ∧
      WroteReg s t e c 0 0) ∧
    (a % 4 = 0 → 0x300 ≤ a → a ≤ 0xFFF → a ≠ 0xF20 → ∃ t, go = .next t ∧ Computes s t e c 0 0 (flagsOf s e c))) ∧
  (∀ (s : State) (e c : Nat), e < 24 * usedDies s → (s.engAt e).running = some c →
    let y := ctxOf s e c
    let fold (v : Word) : BitVec 32 :=
      if bitOf y.flags 2 then BitVec.ofNat 32 (crc32Fold y.digest.toNat (leBytes 4 v.toNat)) else y.digest
    (∀ v, ∃ t, exec (.pairWordWrite e v) s = .next t ∧ CtxStep s t e c { y with digest := fold v } ∧ WroteReg s t e c 0 0) ∧
    (∀ v, ∃ t, exec (.registerWrite e 0xF20 v) s = .next t ∧ CtxStep s t e c { y with digest := fold v } ∧
      WroteReg s t e c 0 0) ∧
    (∀ h v, h < 12 → Owns s e (portOwner s (e / 24 * 12 + h)) → domainOn s (e / 24 * 12 + h) = true →
      exec (.registerWrite e (64 * h + 0x08) v) s =
        .next (s.modPort (e / 24 * 12 + h) (fun p => { p with pinOut := v.setWidth 4 }))) ∧
    (∀ rd, ∃ t, exec (.tsecLoRead e rd) s = .next t ∧ WroteReg s t e c rd (s.time.seconds.setWidth 32) ∧
      ctxOf t e c = { y with regs := (ctxOf t e c).regs } ∧ (t.engAt e).tsecHi = (s.time.seconds >>> 32).setWidth 32 ∧
      (t.engAt e).tns = BitVec.ofNat 32 s.time.nanos ∧ (t.engAt e).tfrac = BitVec.ofNat 32 s.time.frac ∧
      (∀ j, j ≠ e → t.engAt j = s.engAt j) ∧ Changes [.engine] s t))

/-- R156, R161: the branch conditions and the jumps; each condition code is written out. R153, R161, R176: the faults that end a context; LAST_FAULT holds PC modulo 1,024, and for PCEND the last address 0x3FF. -/
def Obligations.BranchesJumpsAndFaults : Prop :=
  (∀ (s : State) (e c : Nat) (rd ra : BitVec 4) (tgt : BitVec 10),
    let y := ctxOf s e c
    let v := regOf s e c ra
    let goes (i : Instr) (r : BitVec 4) (w : Word) (pc : Nat) :=
      ∃ t, exec i s = .next t ∧ CtxStep s t e c { y with pc := pc } ∧ WroteReg s t e c r w
    (∀ cond q, (cond, q) ∈ [(0, true), (1, y.z), (2, !y.z), (3, y.n != y.v), (4, y.n == y.v), (5, !y.c), (6, y.c),
        (7, !y.z && y.n == y.v), (8, y.z || y.n != y.v), (9, y.n), (10, !y.n), (11, y.v), (12, !y.v)] →
      Runs s e c (.branch e (BitVec.ofNat 4 cond) tgt) →
      goes (.branch e (BitVec.ofNat 4 cond) tgt) 0 0 (if q then tgt.toNat else y.pc + 1)) ∧
    (Runs s e c (.jal e rd tgt) → goes (.jal e rd tgt) rd (BitVec.ofNat 32 (y.pc + 1)) tgt.toNat) ∧
    (Runs s e c (.jr e ra) → v.toNat ≤ 0x3FF → goes (.jr e ra) 0 0 v.toNat) ∧
    (Runs s e c (.jr e ra) → 0x3FF < v.toNat → ∃ t, exec (.jr e ra) s = .next t ∧ EndsInFault s t e c 2)) ∧
  (∀ (s : State) (e c : Nat) (code : BitVec 8), (s.engAt e).running = some c → e < 24 * usedDies s →
    let y := ctxOf s e c
    (Runs s e c (.trap e code) → ∃ t, exec (.trap e code) s = .next t ∧ EndsInFault s t e c 6) ∧
    (y.live = true → y.slotWait = false → s.ticks < y.budgetEnd → y.pc < 1024 → decodeWord e (nth 0 (s.engAt e).prog y.pc) = none →
      ∃ t, exec (.reservedOpcode e) s = .next t ∧ EndsInFault s t e c 1) ∧
    (y.live = true → s.ticks < y.budgetEnd → y.pc = 1024 → ∃ t, exec (.pcend e) s = .next t ∧ (t.engAt e).running = none ∧
      thas (t.engAt e).ctxs c = false ∧ (t.engAt e).faults = (s.engAt e).faults + 1 ∧
      (t.engAt e).lastFault = 5 + 256 * 1023 ∧ (t.engAt e).scratch = (s.engAt e).scratch ∧
      Changes [.die, .port, .engine, .stream, .parish, .reeve, .timers] s t))

/-- R162: the issue of a port operation. Which free slot is taken is a free value (log entry 7): the statement holds for every one. -/
def Obligations.PortOperationsTakeASlotAndATicket : Prop :=
  ∀ (s : State) (e c : Nat) (rd rh ra : BitVec 4) (doff : BitVec 8) (i : Instr) (kind : Nat) (ok : Word → Word → Bool),
    let x := s.engAt e
    let y := ctxOf s e c
    let h := (regOf s e c rh).toNat
    let n := e / 24 * 12 + h
    let d := e / 24
    let a := (regOf s e c ra + BitVec.ofNat 32 (doff.toNat * 4)).toNat
    let w0 := if kind = 4 then 0 else Memory.readWord x.scratch a
    let w1 := if kind = 4 then 0 else Memory.readWord x.scratch (a + 4)
    let fits := modeFits s n kind = true ∧ (kind = 4 ∨ (a % 4 = 0 ∧ a + 8 ≤ 1024 ∧ ok w0 w1 = true)) ∧ y.tickets.length < 8
    let free := (s.dieAt d).freeSlots
    (i, kind) ∈ [(.issueTw e rd rh ra doff, 0), (.issueSpi e rd rh ra doff, 1), (.issueUart e rd rh ra doff, 2),
        (.issueAna e rd rh ra doff, 3), (.issuePulse e rd rh, 4)] →
      (kind = 0 → ok = twOk) → (kind = 1 → ok = spiOk) → (kind = 2 → ok = uartOk) → (kind = 3 → ok = anaOk s n) →
      Runs s e c i →
      (11 < h → ∃ t, exec i s = .next t ∧ EndsInFault s t e c 2) ∧
      (h ≤ 11 → ¬Owns s e (portOwner s n) → ∃ t, exec i s = .next t ∧ EndsInFault s t e c 3) ∧
      (h ≤ 11 → Owns s e (portOwner s n) → domainOn s n = true → ¬fits → ∃ t, exec i s = .next t ∧ EndsInFault s t e c 2) ∧
      (h ≤ 11 → Owns s e (portOwner s n) → domainOn s n = true → fits → free ≠ [] →
        ∃ t k, exec i s = .next t ∧ k ∈ free ∧
          let sl := (t.dieAt d).slotAt k
          sl.state ≠ 0 ∧ sl.port = n ∧ sl.kind = kind ∧ sl.engine = e ∧ sl.ctx = c ∧ sl.entry = y.entry ∧ sl.d0 = w0 ∧ sl.d1 = w1 ∧
          (∀ r, regOf t e c r = if r = rd ∧ r ≠ 0 then BitVec.ofNat 32 (k + ((s.dieAt d).slotAt k).gen % 128 * 512)
            else regOf s e c r) ∧
          (ctxOf t e c).tickets = y.tickets ++ [k + ((s.dieAt d).slotAt k).gen % 128 * 512] ∧ (ctxOf t e c).pc = y.pc + 1 ∧
          (t.engAt e).scratch = x.scratch ∧ Changes [.die, .port, .engine, .free] s t) ∧
      (h ≤ 11 → Owns s e (portOwner s n) → domainOn s n = true → fits → free = [] →
        ∃ t, exec i s = .next t ∧ (t.engAt e).running = none ∧ ctxOf t e c = { y with slotWait := true } ∧
          (t.dieAt d).slotWaiters = (s.dieAt d).slotWaiters ++ [(e, c)] ∧ (t.dieAt d).slots = (s.dieAt d).slots ∧
          Changes [.die, .engine] s t) ∧
      (h ≤ 11 → Owns s e (portOwner s n) → domainOn s n = false → free ≠ [] →
        ∃ t, exec i s = .next t ∧ (t.engAt e).faults = x.faults + 1 ∧ (t.engAt e).lastFault = 4 + 256 * y.pc ∧
          (∃ k, k ∈ free ∧ ((t.dieAt d).slotAt k).state = 4 ∧ ((t.dieAt d).slotAt k).status = 8) ∧
          (t.portAt n).opStatus = 8 ∧ (ctxOf t e c).pc = y.pc + 1)

/-- R45, R152, R166, R167: AWAIT of each kind. R152, R162, R167: how a suspended context returns. An instant is an elapsed tick (the model's choice, log entry 18). -/
def Obligations.AwaitReturnsSuspendsAndResumes : Prop :=
  (∀ (s : State) (e c : Nat) (rd ra : BitVec 4) (pin edge : BitVec 2) (units : BitVec 16) (rise : Bool),
    let y := ctxOf s e c
    let d := e / 24
    let v := (regOf s e c ra).toNat
    let suspends (i : Instr) (a : Await) := ∃ t, exec i s = .next t ∧ ctxOf t e c = { y with await := some a } ∧
      t.engAt e = { s.engAt e with running := none, ctxs := (t.engAt e).ctxs } ∧ (∀ k, k ≠ c → ctxOf t e k = ctxOf s e k) ∧
      (∀ j, j ≠ e → t.engAt j = s.engAt j) ∧ Changes [.engine] s t
    let sl := (s.dieAt d).slotAt (v % 512)
    (Runs s e c (.awaitComp e rd ra) → y.tickets.contains v = false →
      ∃ t, exec (.awaitComp e rd ra) s = .next t ∧ EndsInFault s t e c 2) ∧
    (Runs s e c (.awaitComp e rd ra) → y.tickets.contains v = true → sl.state ≠ 4 →
      suspends (.awaitComp e rd ra) { kind := 0, arg := v, rd := rd }) ∧
    (Runs s e c (.awaitComp e rd ra) → y.tickets.contains v = true → sl.state = 4 → sl.engine = e → sl.ctx = c →
      v = v % 512 + sl.gen % 128 * 512 →
      ∃ t, exec (.awaitComp e rd ra) s = .next t ∧
        WroteReg s t e c rd (BitVec.ofNat 32 (sl.status % 16 + 16 * b2n sl.stamped + 256 * (sl.count % 512))) ∧
        ctxOf t e c = { y with
          regs := (ctxOf t e c).regs, z := decide (sl.status = 0), await := none
          cstamp := if sl.stamped then sl.stamp else y.cstamp, pc := y.pc + 1, tickets := without y.tickets v } ∧
        (t.dieAt d).slotAt (v % 512) = { gen := (sl.gen + 1) % 128 } ∧ (t.engAt e).running = some c ∧
        (t.engAt e).scratch = (s.engAt e).scratch ∧ Changes [.die, .engine] s t) ∧
    (Runs s e c (.awaitEdge e rd ra pin edge) → 11 < v →
      ∃ t, exec (.awaitEdge e rd ra pin edge) s = .next t ∧ EndsInFault s t e c 2) ∧
    (Runs s e c (.awaitEdge e rd ra pin edge) → v ≤ 11 → ¬Owns s e (portOwner s (d * 12 + v)) →
      ∃ t, exec (.awaitEdge e rd ra pin edge) s = .next t ∧ EndsInFault s t e c 3) ∧
    (Runs s e c (.awaitEdge e rd ra pin edge) → v ≤ 11 → Owns s e (portOwner s (d * 12 + v)) →
      suspends (.awaitEdge e rd ra pin edge) { kind := 1, arg := v, sub := pin.toNat + 4 * edge.toNat, rd := rd }) ∧
    (Runs s e c (.awaitTime e rd ra units) →
      suspends (.awaitTime e rd ra units)
        { kind := 2, arg := v + units.toNat, rd := rd, due := 4 * s.time.elapsed + 10 * max 1 (v + units.toNat) }) ∧
    (Runs s e c (.awaitLine e rd ra rise) → 63 < v →
      ∃ t, exec (.awaitLine e rd ra rise) s = .next t ∧ EndsInFault s t e c 2) ∧
    (Runs s e c (.awaitLine e rd ra rise) → v ≤ 63 → ¬Owns s e (colOwner s d v) →
      ∃ t, exec (.awaitLine e rd ra rise) s = .next t ∧ EndsInFault s t e c 3) ∧
    (Runs s e c (.awaitLine e rd ra rise) → v ≤ 63 → Owns s e (colOwner s d v) →
      if rise = false ∧ (s.colAt (d * 256 + v)).level = true then
        ∃ t, exec (.awaitLine e rd ra rise) s = .next t ∧ WroteReg s t e c rd 0 ∧ CtxStep s t e c { y with
          z := true, await := none, cstamp := (s.colAt (d * 256 + v)).stamp, pc := y.pc + 1 }
      else suspends (.awaitLine e rd ra rise) { kind := 3, arg := v, sub := b2n rise, rd := rd })) ∧
  (∀ (s : State) (e c : Nat), e < 24 * usedDies s →
    let y := ctxOf s e c
    let d := e / 24
    let q := (s.engAt e).ready
    let line (a : Await) := a.kind = 3 ∧ a.sub = 0
    let met (a : Await) := (a.kind = 0 ∧ ((s.dieAt d).slotAt (a.arg % 512)).state = 4) ∨ (a.kind = 1 ∧ a.met.isSome = true) ∨
      (a.kind = 2 ∧ a.due ≤ 4 * s.time.elapsed) ∨ (line a ∧ (s.colAt (d * 256 + a.arg)).level = true) ∨
      (a.kind = 3 ∧ a.sub = 1 ∧ a.met.isSome = true)
    (∀ a, y.await = some a → y.live = true → a.done = false → met a → q.contains c = false →
      ∃ t, exec (.awaitResume e c) s = .next t ∧
        ctxOf t e c = { y with
          await := some { a with done := true, met := if line a then some (s.colAt (d * 256 + a.arg)).stamp else a.met }
          readyAt := s.time.elapsed } ∧
        ((∀ k ∈ q, (ctxOf s e k).readyAt ≠ s.time.elapsed) → (t.engAt e).ready = q ++ [c]) ∧
        (∀ k, q = [k] → (ctxOf s e k).readyAt = s.time.elapsed → (ctxOf s e k).began = true → y.began = true →
          (t.engAt e).ready = if c < k then [c, k] else [k, c]) ∧
        (∀ r, regOf t e c r = regOf s e c r) ∧ (t.engAt e).running = (s.engAt e).running ∧
        (∀ j, j ≠ e → t.engAt j = s.engAt j) ∧ Changes [.engine] s t) ∧
    (∀ rest, (s.dieAt d).slotWaiters = (e, c) :: rest → (s.dieAt d).freeSlots ≠ [] → q.contains c = false →
      (∀ k ∈ q, (ctxOf s e k).readyAt ≠ s.time.elapsed) →
      ∃ t, exec (.transactionSlotFree d) s = .next t ∧ (t.dieAt d).slotWaiters = rest ∧
        ctxOf t e c = { y with slotWait := false, readyAt := s.time.elapsed } ∧ (t.engAt e).ready = q ++ [c] ∧
        (t.dieAt d).slots = (s.dieAt d).slots ∧ Changes [.die, .engine] s t) ∧
    (∀ rest, (s.engAt e).running = none → q = c :: rest → (s.engAt e).state ≠ 2 → (s.engAt e).state ≠ 3 →
      s.time.elapsed < y.budgetEnd →
      ∃ t, exec (.contextDispatch e) s = .next t ∧ (t.engAt e).running = some c ∧ (t.engAt e).ready = rest ∧
        (∀ k, k ≠ c → ctxOf t e k = ctxOf s e k) ∧ (t.engAt e).scratch = (s.engAt e).scratch ∧
        (∀ j, j ≠ e → t.engAt j = s.engAt j) ∧ Changes [.die, .engine] s t ∧
        (y.await = none → ctxOf t e c = { y with began := true } ∧ (t.engAt e).shared = (s.engAt e).shared) ∧
        (∀ a, y.await = some a → 0 < a.kind →
          WroteReg s t e c a.rd 0 ∧ t.die = s.die ∧ ctxOf t e c = { y with
            regs := (ctxOf t e c).regs, z := true, await := none
            cstamp := if a.kind = 2 then y.cstamp else a.met.getD y.cstamp, pc := y.pc + 1 }) ∧
        (∀ a, y.await = some a → a.kind = 0 →
          let sl := (s.dieAt d).slotAt (a.arg % 512)
          sl.engine = e → sl.ctx = c →
          WroteReg s t e c a.rd (BitVec.ofNat 32 (sl.status % 16 + 16 * b2n sl.stamped + 256 * (sl.count % 512))) ∧
            (t.dieAt d).slotAt (a.arg % 512) = { gen := (sl.gen + 1) % 128 } ∧ ctxOf t e c = { y with
              regs := (ctxOf t e c).regs, z := decide (sl.status = 0), await := none
              cstamp := if sl.stamped then sl.stamp else y.cstamp, pc := y.pc + 1
              tickets := without y.tickets (a.arg % 512 + sl.gen % 128 * 512) })))

/-- R169: STAMP copies CSTAMP[31:0] to rd and CSTAMP[51:32], zero-extended, to the register that RA names. -/
def Obligations.StampCopiesTheContextStamp : Prop :=
  ∀ (s : State) (e c : Nat) (rd ra : BitVec 4), Runs s e c (.stampRead e rd ra) →
    let st := (ctxOf s e c).cstamp
    ∃ t, exec (.stampRead e rd ra) s = .next t ∧
      CtxStep s t e c { ctxOf s e c with pc := (ctxOf s e c).pc + 1 } ∧
      ∀ r, regOf t e c r = if r = 0 then 0 else if r = ra then (st.extractLsb' 32 20).setWidth 32
        else if r = rd then st.extractLsb' 0 32 else regOf s e c r

/-- R170, R171, R237, R239: the record of EMIT and EMIT.S. R152, R153, R175: YIELD. -/
def Obligations.EmitAndYield : Prop :=
  (∀ (s : State) (e c : Nat) (rs ra n : BitVec 4) (i : Instr) (stale : Bool),
    let x := s.engAt e
    let y := ctxOf s e c
    let st := (regOf s e c rs).toNat
    let a := (regOf s e c ra).toNat
    let k := e / 24 * 512 + st
    let payload := (List.range n.toNat).map (fun j => Memory.readWord x.scratch (a + 4 * j))
    let okPay := n = 0 ∨ (a % 4 = 0 ∧ a + 4 * n.toNat ≤ 1024)
    (i, stale) ∈ [(.emit e rs ra n, false), (.emitS e rs ra n, true)] → Runs s e c i →
      (0x1EF < st ∨ ¬okPay → ∃ t, exec i s = .next t ∧ EndsInFault s t e c 2) ∧
      (st ≤ 0x1EF → okPay → ¬Owns s e (streamOwner s k) → ∃ t, exec i s = .next t ∧ EndsInFault s t e c 3) ∧
      (st ≤ 0x1EF → okPay → Owns s e (streamOwner s k) →
        ∃ t, exec i s = .next t ∧ CtxStep { s with stream := t.stream, die := t.die, rule := t.rule, parish := t.parish, reeve := t.reeve, timers := t.timers }
            t e c { y with pc := y.pc + 1 } ∧
          (∀ r, regOf t e c r = regOf s e c r) ∧
          ((s.dieAt (e / 24)).logicOn = true → 0 < ringSize s k → recBytes (s.streamAt k).ring + (12 + 4 * n.toNat) ≤ 256 * ringSize s k →
            ∃ r, (t.streamAt k).ring = (s.streamAt k).ring ++ [r] ∧ (t.streamAt k).records = (s.streamAt k).records + 1 ∧
              r.stream = k ∧ r.stamp = y.cstamp ∧ r.words = payload ∧ r.pcode = (engOwner s e).getD 0 % 16 ∧
              r.epoch = stampEpoch s.time y.cstamp ∧ bitOf r.flags 0 = (stale || y.stale) ∧ bitOf r.flags 1 = y.patched ∧
              bitOf r.flags 2 = y.rangeF ∧ bitOf r.flags 7 = y.defer) ∧
          (ringSize s k = 0 → (t.streamAt k).ring = (s.streamAt k).ring ∧
            (t.streamAt k).lost = (s.streamAt k).lost + 1 ∧ (t.streamAt k).records = (s.streamAt k).records))) ∧
  (∀ (s : State) (e c : Nat), Runs s e c (.yield e) →
    let x := s.engAt e
    let y := ctxOf s e c
    ∃ t, exec (.yield e) s = .next t ∧ (t.engAt e).running = none ∧ thas (t.engAt e).ctxs c = false ∧
      (t.engAt e).orphans = min 65535 (x.orphans + (ctxSlots s e c).length) ∧ (t.engAt e).scratch = x.scratch ∧
      (t.engAt e).shared = x.shared ∧ (t.engAt e).lines = x.lines ∧ (t.engAt e).faults = x.faults ∧
      (∀ k, k ≠ c → ctxOf t e k = ctxOf s e k) ∧ (∀ j, j ≠ e → t.engAt j = s.engAt j) ∧
      (bitOf y.flags 2 = true → tget none (t.dieAt (e / 24)).curDigests y.entry = some (y.digest ^^^ 0xFFFFFFFF)) ∧
      (bitOf y.flags 2 = false → (t.dieAt (e / 24)).curDigests = (s.dieAt (e / 24)).curDigests) ∧
      Changes [.die, .port, .engine, .stream, .reeve] s t)

/-- R172 to R174, R205, R217: the instructions that offer, submit and signal. -/
def Obligations.SieveMillAndSignalInstructions : Prop :=
  ∀ (s : State) (e c : Nat) (rd ra rb : BitVec 4),
    let x := s.engAt e
    let y := ctxOf s e c
    let d := e / 24
    let q := (regOf s e c rd).toNat
    let l := (regOf s e c ra).toNat
    let v := regOf s e c ra
    let fails (i : Instr) (f : Nat) := ∃ t, exec i s = .next t ∧ EndsInFault s t e c f
    let g := d * 64 + q
    let m := (s.ruleAt g).img
    let ch := d * 16 + q
    let rows := s.row.any (fun r => r.1 / 256 == d && r.2.src == 0x8000 + l && rowOwner s d (r.1 % 256) == engOwner s e)
    let signals (i : Instr) (lines pulses : Nat) := ∃ t, exec i s = .next t ∧
      t.engAt e = { x with lines := lines, pulses := pulses, ctxs := (t.engAt e).ctxs } ∧
      ctxOf t e c = { y with pc := y.pc + 1 } ∧ (∀ k, k ≠ c → ctxOf t e k = ctxOf s e k) ∧
      (∀ j, j ≠ e → t.engAt j = s.engAt j) ∧ Changes [.engine] s t
    (Runs s e c (.sieveOffer e rd ra) →
      (63 < q → fails (.sieveOffer e rd ra) 2) ∧
      (q ≤ 63 → ¬Owns s e (ruleOwner s g) → fails (.sieveOffer e rd ra) 3) ∧
      (q ≤ 63 → Owns s e (ruleOwner s g) → ¬(m.present = true ∧ m.srcKind = 1) → fails (.sieveOffer e rd ra) 2) ∧
      (q ≤ 63 → Owns s e (ruleOwner s g) → m.present = true → m.srcKind = 1 →
        ∃ t, exec (.sieveOffer e rd ra) s = .next t ∧ ctxOf t e c = { y with pc := y.pc + 1 } ∧
          (t.engAt e).scratch = x.scratch ∧
          if 64 ≤ (s.dieAt d).offers.length then
            (t.dieAt d).offers = (s.dieAt d).offers ∧ (t.dieAt d).offerDrops = (s.dieAt d).offerDrops + 1
          else (t.dieAt d).offers = (s.dieAt d).offers ++
              [{ rule := q, value := v.toInt, stamp := y.cstamp, arrived := s.time.elapsed }] ∧ Changes [.die, .engine] s t)) ∧
    (Runs s e c (.millSubmit e rd ra rb) →
      (15 < q → fails (.millSubmit e rd ra rb) 2) ∧
      (q ≤ 15 → ¬Owns s e (millOwner s ch) → fails (.millSubmit e rd ra rb) 3) ∧
      (q ≤ 15 → Owns s e (millOwner s ch) →
        ∃ t, exec (.millSubmit e rd ra rb) s = .next t ∧ ctxOf t e c = { y with pc := y.pc + 1 } ∧
          (∀ j, j ≠ ch → t.millAt j = s.millAt j) ∧ Changes [.engine, .mill] s t ∧
          ((s.millAt ch).img.enable = false → t.millAt ch = { s.millAt ch with
            inDropped := if (s.millAt ch).inDropped < 65535 then (s.millAt ch).inDropped + 1 else 65535 }) ∧
          ((s.millAt ch).img.enable = true → (s.millAt ch).lastIn = none → v.getLsbD 30 = false →
            (t.millAt ch).lastIn = some (stampAdd y.cstamp (regOf s e c rb).toNat) ∧
            (t.millAt ch).count = (s.millAt ch).count + 1 ∧ (t.millAt ch).history =
              ((v, stampAdd y.cstamp (regOf s e c rb).toNat) :: (s.millAt ch).history).take 512))) ∧
    (∀ i lines pulses, (i, lines, pulses) ∈ [(.signalLow e ra, clrBit x.lines l, clrBit x.pulses l),
        (.signalHigh e ra, setBit x.lines l, clrBit x.pulses l), (.signalPulse e ra, clrBit x.lines l, setBit x.pulses l)] →
      Runs s e c i →
      (63 < l → fails i 2) ∧
      (l ≤ 63 → ¬((engOwner s e).isSome = true ∧ rows = true) → fails i 3) ∧
      (l ≤ 63 → (engOwner s e).isSome = true → rows = true → signals i lines pulses))

/-- R68, R71, R76, R83: the simple register effects of a sensor port. -/
def Obligations.PortModeSupplyAndEmitterRegisters : Prop :=
  ∀ (s : State) (n : Nat), hasPort s n →
    let x := s.portAt n
    let sw (z : Port) : Port := if z.vpClosed then
        (if x.vpClosed then z else { z with vpSel := cfg s (0x4000 + 64 * n) 3 0, pgood := false, overWins := 0 })
      else { z with pgood := false, overWins := 0 }
    (∀ m, x.nextMode = some m → x.mode = 0 → x.modeAt + 2500 ≤ s.time.elapsed → exec (.portModeIdleEnd n) s =
      .next (s.modPort n (fun y => { y with
        mode := m, nextMode := none, modeAt := s.time.elapsed, edgeLatch := [], busBusy := false }))) ∧
    (∀ on, domainOn s n = true → exec (.vpOnWrite n on) s =
      .next (s.modPort n (fun _ => sw { x with vpOn := on && !vpBarred s n }))) ∧
    (x.vpClosed = true →
      exec (.pgood n) s = .next (s.modPort n (fun y => { y with pgood := true, pgoodAt := s.time.elapsed }))) ∧
    (∀ v : Word, domainOn s n = true →
      let i := (v.extractLsb' 0 8).toNat
      let w := (v.extractLsb' 8 10).toNat
      exec (.emCfgWrite n v) s = .next (s.modPort n (fun y => { y with
        emISet := max 10 (min 250 i), emWidth := max 1 (min 1000 w)
        emClamped := y.emClamped || decide (i < 10 ∨ 250 < i ∨ w < 1 ∨ 1000 < w) }))) ∧
    (∀ k, HeadOp s n k 3 2 → exec (.uartIdleGap n) s = .next (s.modPort n (fun y => { y with uartIdle := true })))

/-- R74, R88 to R91, R481: the causes of quarantine. R71, R88, R89, R91, R109, R481: how quarantine ends. -/
def Obligations.QuarantineIsEnteredProbedAndLeft : Prop :=
  (∀ (s : State) (n : Nat) (i : Instr) (code : Nat), hasPort s n →
    let x := s.portAt n
    (domainOn s n = false ∨ dieOff s (n / 12) = true → exec (.quarCtlHold n) s = .next (answered s 0x0401)) ∧
    ((i, code) ∈ [(.vpAverageOverload n, 3), (.vpPeakOverload n, 4), (.uartRxLowTimeout n, 2), (.quarCtlHold n, 5)] →
      (code = 3 ∨ code = 4 → x.vpClosed = true) → (code = 3 → 3 ≤ x.overWins) → (code = 5 → domainOn s n = true ∧ dieOff s (n / 12) = false) →
      (code = 2 → x.mode = 3 ∧ domainOn s n = true ∧
        pinSteady s n (rxdPin s n) false (250000 * cfg s (0x4000 + 64 * n) 8 100) = true) →
      x.holds code = false → (∀ k ∈ x.queue, (slotOf s n k).port = n) →
      ∃ t, exec i s = .next t ∧
        (t.portAt n).quar = { code := code, backoff := 10, nextAt := s.time.elapsed + 2500000 } ::
          x.quar.map (fun r => if (code = 3 ∨ code = 4) ∧ (r.code = 3 ∨ r.code = 4) then { r with probing := false } else r) ∧
        (code = 3 ∨ code = 4 → (t.portAt n).overload = true ∧ (t.portAt n).pgood = false) ∧
        (code = 5 → (t.portAt n).quarCtl = 1) ∧
        (∀ k ∈ x.queue, (slotOf s n k).state = 1 ∨ (slotOf s n k).state = 2 → (slotOf s n k).orphan = false →
          (slotOf t n k).state = 4 ∧ (slotOf t n k).status = 9) ∧
        PortOnly [.net, .die, .port, .engine, .stream, .parish, .reeve, .timers] s t n)) ∧
  (∀ (s : State) (n : Nat), hasPort s n →
    let x := s.portAt n
    let sw (z : Port) : Port := if z.vpClosed then
        (if x.vpClosed then z else { z with vpSel := cfg s (0x4000 + 64 * n) 3 0, pgood := false, overWins := 0 })
      else { z with pgood := false, overWins := 0 }
    let next (r : QuarReason) := if 640 ≤ r.backoff then 1000 else 2 * r.backoff
    let later (r : QuarReason) : QuarReason :=
      { r with probing := true, backoff := next r, nextAt := r.nextAt + 250000 * next r }
    let tells (t : State) := PortOnly [.die, .port, .stream, .parish, .reeve, .timers] s t n
    (∀ reason interval, (∃ r ∈ x.quar, r.code = reason ∧ r.backoff = interval ∧ r.nextAt ≤ s.time.elapsed) → 1 ≤ reason → reason ≤ 4 →
      x.loopDepth = 0 → exec (.quarantineProbe n reason interval) s = .next (s.modPort n (fun _ => sw { x with
        recovering := x.recovering || decide (reason = 1)
        quar := x.quar.map (fun r => if r.code = reason then later r else r) }))) ∧
    (x.recovering = true → x.holds 1 = true →
      exec (.busRecoveryDone n false) s = .next (s.modPort n (fun y => { y with
        recovering := false, recoveries := counted 65535 y.recoveries
        quar := y.quar.map (fun r => if r.code = 1 then { r with probing := false } else r) })) ∧
      ∃ t, exec (.busRecoveryDone n true) s = .next t ∧ tells t ∧ t.portAt n =
        sw { x with recovering := false, recoveries := counted 65535 x.recoveries, quar := x.quar.filter (·.code ≠ 1) }) ∧
    (∀ reason, (∃ r ∈ x.quar, r.code = reason ∧ r.probing = true) → 2 ≤ reason → reason ≤ 4 →
      (reason = 2 → pinSteady s n (rxdPin s n) true 250000 = true) →
      (reason ≠ 2 → x.pgood = true ∧ x.pgoodAt + 2500000 ≤ s.time.elapsed) →
      ∃ t, exec (.quarantineProbePassed n reason) s = .next t ∧ tells t ∧
        t.portAt n = sw { x with quar := x.quar.filter (·.code ≠ reason) }) ∧
    (domainOn s n = true → dieOff s (n / 12) = false → ∃ t, exec (.quarCtlRelease n) s = .next t ∧ t.net.lastStatus = 0 ∧
      PortOnly [.net, .die, .port, .stream, .parish, .reeve, .timers] s t n ∧
      t.portAt n = if x.holds 5 then sw { x with quarCtl := 0, quar := x.quar.filter (·.code ≠ 5) }
        else { x with quarCtl := 0 }) ∧
    (domainOn s n = true → dieOff s (n / 12) = false → x.holds 1 = true ∨ x.holds 2 = true ∨ x.holds 3 = true ∨ x.holds 4 = true →
      ∃ t, exec (.quarCtlProbe n) s = .next t ∧ PortOnly [.net, .port] s t n ∧ t.portAt n = sw { x with
        quarCtl := 2, recovering := x.recovering || x.holds 1
        quar := x.quar.map (fun r => if 1 ≤ r.code ∧ r.code ≤ 4 then { r with probing := true } else r) }) ∧
    (domainOn s n = false ∨ dieOff s (n / 12) = true → exec (.quarCtlRelease n) s = .next (answered s 0x0401) ∧
      exec (.quarCtlProbe n) s = .next (answered s 0x0401)))

/-- R79 to R81, R165: the governor's grant and the end of a pulse. -/
def Obligations.EmitterPulsesHoldGovernorSlots : Prop :=
  (∀ (s : State) (d bins n k : Nat), d < usedDies s → n / 12 = d →
    let w := (s.dieAt d).govWait
    let y := slotOf s n k
    let one (j : Nat) := portOwner s j = some 1
    n ∈ w → (∀ j ∈ w, j ≠ n → (one n ∧ ¬one j) ∨ ((one n ↔ one j) ∧
        (govAsked s n < govAsked s j ∨ (govAsked s n = govAsked s j ∧ n < j)))) →
      (s.dieAt d).govHeld.length < 4 → portReady s n = true → (s.portAt n).calItem ≠ 6 →
      (s.portAt n).queue.head? = some k → y.state = 2 →
      ∃ t, exec (.governorGrant d bins) s = .next t ∧ (t.portAt n).emSink = true ∧ (t.portAt n).emSince = s.time.elapsed ∧
        (t.portAt n).emDefer = min 65535 ((s.time.elapsed - y.heldAt) * 4 / 100) ∧
        (t.dieAt d).govWait = w.filter (· ≠ n) ∧ n ∈ (t.dieAt d).govHeld ∧
        slotOf t n k = { y with state := 3, stamped := true, stamp := s.time.capture bins (padDelay s n 4), deferred := true } ∧
        (y.kind = 4 → emDrive t n = true) ∧ PortOnly [.die, .port] s t n) ∧
  (∀ (s : State) (n k : Nat) (isOpen noreg : Bool), hasPort s n → HeadOp s n k 3 4 →
    ∃ t, exec (.emitterPulseDone n isOpen noreg) s = .next t ∧
      OpCompleted s t n k (if isOpen = true ∨ noreg = true then 10 else 0) 0 ∧ (t.portAt n).emSink = false ∧
      emDrive t n = false ∧ (t.portAt n).emOpen = isOpen ∧ (t.portAt n).emNoreg = noreg ∧
      ((slotOf s n k).needsGov = true →
        (t.portAt n).emBusy = (without (s.portAt n).queue k).any (fun j => (slotOf s n j).needsGov)) ∧
      n ∉ (t.dieAt (n / 12)).govHeld ∧ PortOnly [.die, .port, .engine, .stream, .reeve] s t n)

/-- R97 to R104: start, end and arbitration loss of a two-wire transfer. R108 to R112: bus timeout and recovery. Reason 1 held: QuarantineIsEnteredProbedAndLeft. -/
def Obligations.TwoWireTransfersTimeOutAndRecover : Prop :=
  (∀ (s : State) (n k : Nat), hasPort s n →
    let x := s.portAt n
    let y := slotOf s n k
    let limit := field y.d1.toNat 15 8
    let rbuf := 4 * field y.d1.toNat 31 24
    let wd := Memory.readBytes (s.engAt y.engine).scratch (4 * field y.d1.toNat 23 16) (twWriteLen y.d0 y.d1)
    (∀ bins, HeadOp s n k 2 0 → portReady s n = true → x.mode = 1 → busFree s n = true →
      (bitOf y.d0.toNat 21 = false → y.edgeTaken = false → ∃ t, exec (.twStart n bins) s = .next t ∧
        (slotOf t n k).state = 3 ∧ (slotOf t n k).stamped = true ∧ (slotOf t n k).stamp = s.time.capture bins (padDelay s n 1) ∧
        (t.portAt n).twSent = twSends y.d0 wd ∧ (slotOf t n k).wdata = wd ∧
        (t.portAt n).edgeLatch = x.edgeLatch ∧ PortOnly [.die, .port] s t n) ∧
      (∀ st, bitOf y.d0.toNat 21 = true → y.edgeTaken = false →
        x.edgeLatch.find? (fun e => e.1 == drdyKey y.d0) = some (drdyKey y.d0, st) →
        ∃ t, exec (.twStart n bins) s = .next t ∧ (slotOf t n k).state = 3 ∧ (slotOf t n k).stamp = st ∧ (t.portAt n).twSent = twSends y.d0 wd ∧
          (t.portAt n).edgeLatch = x.edgeLatch.filter (·.1 ≠ drdyKey y.d0) ∧ PortOnly [.die, .port] s t n)) ∧
    (HeadOp s n k 3 0 → y.aborted = false →
      (∀ nak rx pec rise, 1 ≤ nak → nak ≤ (twSends y.d0 y.wdata).length →
        ∃ t, exec (.twTransferDone n nak rx pec rise) s = .next t ∧ OpCompleted s t n k 1 x.twCount ∧
          (t.portAt n).cause = (if twAddress y.d0 y.wdata nak then 1 else 2) ∧ (t.portAt n).twSent = x.twSent.take nak ∧
          PortOnly [.die, .port, .engine] s t n) ∧
      (∀ rx pec rise, twType y.d0 = 5 ∨ twType y.d0 = 11 → rx.length = limit →
        let bad := bitOf y.d0.toNat 20 = true ∧ crc8 (twBusBytes y.d0 y.wdata rx) ≠ pec.toNat
        ∃ t, exec (.twTransferDone n 0 rx pec rise) s = .next t ∧ PortOnly [.die, .port, .engine] s t n ∧
          (bad → OpCompleted s t n k 2 limit ∧ (t.portAt n).cause = 3 ∧ ∀ e, (t.engAt e).scratch = (s.engAt e).scratch) ∧
          (¬bad → OpCompleted s t n k 0 limit ∧ (t.portAt n).cause = 0 ∧
            (y.orphan = false → ScratchSound s → ScratchTook s t y.engine rbuf rx) ∧
            (y.orphan = true → ∀ e, (t.engAt e).scratch = (s.engAt e).scratch))) ∧
      (∀ c pec rise, twType y.d0 = 7 → limit < c.toNat → ∃ t, exec (.twTransferDone n 0 [c] pec rise) s = .next t ∧
        OpCompleted s t n k 2 c.toNat ∧ (t.portAt n).cause = 4 ∧ PortOnly [.die, .port, .engine] s t n) ∧
      (y.retries < cfg s (0x4000 + 64 * n + 4) 9 3 → ∃ t, exec (.arbitrationLost n) s = .next t ∧
        (slotOf t n k).state = 2 ∧ (slotOf t n k).retries = y.retries + 1 ∧ (t.portAt n).busBusy = true ∧
        (t.portAt n).queue = x.queue ∧ PortOnly [.die, .port] s t n) ∧
      (cfg s (0x4000 + 64 * n + 4) 9 3 ≤ y.retries → ∃ t, exec (.arbitrationLost n) s = .next t ∧
        OpCompleted s t n k 3 x.twCount ∧ (t.portAt n).cause = 5 ∧ PortOnly [.die, .port, .engine] s t n))) ∧
  (∀ (s : State) (n : Nat), hasPort s n →
    let x := s.portAt n
    let late (y : Slot) := y.orphan = false ∧ ((s.engAt y.engine).ctxAt y.ctx).budgetEnd ≤ s.time.elapsed
    (∀ sda, x.mode = 1 → domainOn s n = true → x.quar = [] →
      pinSteady s n (if sda then 1 else 0) false (250000 * cfg s (0x4000 + 64 * n + 4) (if sda then 0xB else 0xA) 25) = true →
      (x.recovering = true → exec (.busTimeout n sda) s =
        .next (s.modPort n (fun y => { y with sclTo := y.sclTo || !sda, sdaTo := y.sdaTo || sda }))) ∧
      (x.recovering = false → ∃ t, exec (.busTimeout n sda) s = .next t ∧ (t.portAt n).recovering = true ∧
        (t.portAt n).sclTo = (x.sclTo || !sda) ∧ (t.portAt n).sdaTo = (x.sdaTo || sda) ∧
        (∀ k, HeadOp s n k 3 0 → ¬late (slotOf s n k) →
          OpCompleted s t n k 13 x.twCount ∧ (t.portAt n).cause = if sda then 7 else 6) ∧
        (∀ k, HeadOp s n k 3 0 → late (slotOf s n k) → (slotOf s n k).needsGov = false →
          (t.portAt n).recSlot = some k ∧ (t.portAt n).queue = x.queue ∧ (slotOf t n k).state = 3 ∧
          (slotOf t n k).aborted = true ∧ (slotOf t n k).status = 12) ∧
        ((∀ k ∈ x.queue, (slotOf s n k).port = n) → PortOnly [.die, .port, .engine, .stream, .reeve] s t n))) ∧
    (∀ k, x.recovering = true → x.holds 1 = false → x.recSlot = some k → (slotOf s n k).port = n →
      ∃ t, exec (.busRecoveryDone n true) s = .next t ∧ (t.portAt n).recovering = false ∧
        OpCompleted s t n k (slotOf s n k).status (if (slotOf s n k).kind = 0 then x.twCount else 0) ∧
        PortOnly [.die, .port, .engine] s t n) ∧
    (x.recovering = true → x.holds 1 = false → x.recSlot = none →
      exec (.busRecoveryDone n true) s = .next (s.modPort n (fun y => { y with
        recovering := false, recSlot := none, recoveries := counted 65535 y.recoveries })) ∧
      ((∀ k ∈ x.queue, (slotOf s n k).port = n) → ∃ t, exec (.busRecoveryDone n false) s = .next t ∧
        (t.portAt n).recovering = false ∧ (t.portAt n).recoveries = counted 65535 x.recoveries ∧
        (t.portAt n).quar = { code := 1, backoff := 10, nextAt := s.time.elapsed + 2500000 } :: x.quar ∧
        PortOnly [.die, .port, .engine, .stream, .parish, .reeve, .timers] s t n)))

/-- R83, R163, R164: the ends of SPI and UART operations. -/
def Obligations.SpiAndUartTransfersEnd : Prop :=
  ∀ (s : State) (n k : Nat), hasPort s n → ScratchSound s →
    let y := slotOf s n k
    let rbuf := 4 * field y.d1.toNat 15 8
    let len := if field y.d0.toNat 7 0 = 0 then 256 else field y.d0.toNat 7 0
    let max := field y.d0.toNat 17 9
    let same (t : State) := ∀ e, (t.engAt e).scratch = (s.engAt e).scratch
    (∀ rx, HeadOp s n k 3 1 → rx.length = len → ∃ t, exec (.spiTransferDone n rx) s = .next t ∧
      OpCompleted s t n k 0 len ∧ PortOnly [.die, .port, .engine] s t n ∧
      (bitOf y.d0.toNat 8 = true → y.orphan = false → ScratchTook s t y.engine rbuf rx) ∧
      (bitOf y.d0.toNat 8 = false ∨ y.orphan = true → same t)) ∧
    (∀ rx err lag bins, HeadOp s n k 3 2 → uartEnded (s.portAt n) max rx err = true → err = 0 ∨ err = 4 ∨ err = 5 ∨ err = 7 →
      ∃ t, exec (.uartTransferDone n rx err lag bins) s = .next t ∧ (t.portAt n).uartIdle = false ∧
        PortOnly [.die, .port, .engine] s t n ∧
        (err = 0 → rx.length ≤ max → OpCompleted s t n k 0 rx.length ∧
          (y.orphan = false → ScratchTook s t y.engine rbuf rx) ∧ (y.orphan = true → same t)) ∧
        (err = 0 → max < rx.length → OpCompleted s t n k 6 max ∧ same t) ∧
        (err ≠ 0 → OpCompleted s t n k err (min max rx.length) ∧ same t))

/-- R22, R67, R68, R71, R87, R279: what a port shows at its balls. -/
def Obligations.BallsShowWhatAPortDrives : Prop :=
  (∀ (s : State) (e c h pin : Nat) (v : Word), e < 24 * usedDies s → (s.engAt e).running = some c → h < 12 → pin < 4 →
    let n := e / 24 * 12 + h
    Owns s e (portOwner s n) → domainOn s n = true → pinsWork s n = true → (s.portAt n).mode = 5 → modeOf s n = 5 →
    ∃ t, exec (.registerWrite e (64 * h + 0x08) v) s = .next t ∧ pinDrive t n pin =
      match s.col.find? (fun q => q.1 / 256 == n / 12 && q.2.dest == 0x5000 + h * 4 + pin) with
      | some q => .level q.2.level
      | none => if (s.portAt n).pinOe.getLsbD pin then .level (v.getLsbD pin) else .highZ) ∧
  (∀ (s : State) (n : Nat),
    ((s.portAt n).mode = 0 ∨ (s.dieAt (n / 12)).lost = true → ∀ pin, pinDrive s n pin = .highZ ∧ pinPull s n pin = 0) ∧
    ((s.portAt n).vpClosed = true → vpDrive s n = .rail (s.portAt n).vpSel))

/-- R57, R79, R162, R165: the start of a port operation. -/
def Obligations.PortOperationsReachThePins : Prop :=
  ∀ (s : State) (n k bins : Nat), hasPort s n → portReady s n = true →
    let x := s.portAt n
    let y := slotOf s n k
    let d := s.dieAt (n / 12)
    let m := (s.engAt y.engine).scratch
    let starts (y' : Slot) (l : List Piece) := ∃ t, exec (.portOperationStart n bins) s = .next t ∧ slotOf t n k = y' ∧
      (t.portAt n).queue = x.queue ∧ (∀ j, j ≠ k → slotOf t n j = slotOf s n j) ∧ PortOnly l s t n
    (HeadOp s n k 2 1 → x.mode = 2 → starts { y with
      state := 3, stamped := true, stamp := s.time.capture bins (padDelay s n 3)
      wdata := Memory.readBytes m (4 * field y.d1.toNat 7 0) (if field y.d0.toNat 7 0 = 0 then 256 else field y.d0.toNat 7 0) }
      [.die]) ∧
    (HeadOp s n k 2 2 → x.mode = 3 → starts { y with
      state := 3, stamped := field y.d0.toNat 8 0 != 0
      stamp := if field y.d0.toNat 8 0 = 0 then y.stamp else s.time.capture bins (padDelay s n 0)
      wdata := Memory.readBytes m (4 * field y.d1.toNat 7 0) (field y.d0.toNat 8 0) } [.die, .port]) ∧
    (HeadOp s n k 2 3 → x.mode = 4 → field y.d0.toNat 3 2 = 0 → x.calOffline = false → x.settling = false →
      starts { y with state := 3, stamped := true, stamp := s.time.capture bins (padDelay s n 5), wdata := [] } [.die, .port]) ∧
    (HeadOp s n k 2 3 → x.mode = 4 → field y.d0.toNat 3 2 = 2 → ∃ t, exec (.portOperationStart n bins) s = .next t ∧
      slotOf t n k = { y with state := 3, stamped := false, wdata := [] } ∧
      t.portAt n = { x with rampRestarts := x.rampRestarts + 1, rampAt := s.time.elapsed, rampEdge := none } ∧ PortOnly [.die, .port] s t n) ∧
    (HeadOp s n k 2 4 → modeFits s n 4 = true → d.govWait = [] → d.govHeld.length < 4 →
      ∃ t, exec (.portOperationStart n bins) s = .next t ∧ (t.portAt n).emSink = true ∧ n ∈ (t.dieAt (n / 12)).govHeld ∧
        slotOf t n k = { y with state := 3, stamped := true, stamp := s.time.capture bins (padDelay s n 4) } ∧
        PortOnly [.die, .port] s t n) ∧
    (HeadOp s n k 2 4 → modeFits s n 4 = true → n ∉ d.govWait → d.govWait ≠ [] ∨ 4 ≤ d.govHeld.length →
      ∃ t, exec (.portOperationStart n bins) s = .next t ∧ (t.dieAt (n / 12)).govWait = d.govWait ++ [n] ∧
        slotOf t n k = { y with heldAt := s.time.elapsed } ∧ t.portAt n = { x with emBusy := true } ∧
        PortOnly [.die, .port] s t n)

/-- R121 to R128: one conversion without auto-ranging. Trims and ranges enter through sampleValue. R78, R127, R138, R148: the ends of the analogue operations. -/
def Obligations.ConversionsAndAnalogueOperations : Prop :=
  (∀ (s : State) (n k lag bins : Nat) (raw : Int), hasPort s n →
    let x := s.portAt n
    let y := slotOf s n k
    let inp := if cfg s (0x4000 + 64 * n + 8) 1 0 = 1 then 3 else field y.d0.toNat 1 0
    let v := sampleValue x (rangeOf s n inp) raw
    exec (.rangeSettled n) s = .next (s.modPort n (fun z => { z with settling := false })) ∧
    (raw < -32768 ∨ 32767 < raw → ∀ out, exec (.adcConversionDone n raw out lag bins) s = .fault (.noSuchOperand "raw code")) ∧
    (HeadOp s n k 3 3 → field y.d0.toNat 3 2 = 0 → -32768 ≤ raw → raw ≤ 32767 → cfg s (0x4000 + 64 * n + 8) 3 0 = 0 →
      x.stepped = false → x.patchNext = false → x.samples.length < anaCount y.d0 → -(2 ^ 26) ≤ v → v < 2 ^ 26 →
      ∃ t w, exec (.adcConversionDone n raw false lag bins) s = .next t ∧
        (t.portAt n).samples = x.samples ++ [{ word := w, raw := raw }] ∧ (w.extractLsb' 0 27).toInt = v ∧
        w.getLsbD 27 = decide (raw = 32767 ∨ raw = -32768) ∧ w.getLsbD 28 = tget false x.newRange inp ∧
        w.extractLsb' 29 3 = 0 ∧ (t.portAt n).queue = x.queue ∧ PortOnly [.port] s t n)) ∧
  (∀ (s : State) (n k : Nat), hasPort s n → HeadOp s n k 3 3 → ScratchSound s →
    let x := s.portAt n
    let y := slotOf s n k
    let buf := 4 * field y.d1.toNat 7 0
    let same (t : State) := ∀ e, (t.engAt e).scratch = (s.engAt e).scratch
    (field y.d0.toNat 3 2 = 0 → x.samples.length = anaCount y.d0 → x.patchNext = false →
      let ws := x.samples.map (·.word) ++
        if bitOf y.d0.toNat 4 then [x.lastHold.extractLsb' 0 32, (x.lastHold.extractLsb' 32 20).setWidth 32] else []
      ∃ t, exec (.anaOperationDone n) s = .next t ∧ OpCompleted s t n k 0 x.samples.length ∧
        (y.orphan = false → ScratchTook s t y.engine buf (ws.flatMap (fun w => leBytes 4 w.toNat))) ∧
        (y.orphan = true → same t) ∧ PortOnly [.die, .port, .engine] s t n) ∧
    (field y.d0.toNat 3 2 = 1 → x.samples.length = 16 * (field y.d1.toNat 10 9 + 1) →
      ∀ isOpen noreg, isOpen = true ∨ noreg = true → ∃ t, exec (.codeBurstDone n isOpen noreg) s = .next t ∧
        OpCompleted s t n k 10 0 ∧ (t.portAt n).emSink = false ∧ n ∉ (t.dieAt (n / 12)).govHeld ∧ same t ∧
        (∀ j, j ≠ n → t.portAt j = s.portAt j)) ∧
    (field y.d0.toNat 3 2 = 1 → x.samples.length = 16 * (field y.d1.toNat 10 9 + 1) →
      ∃ t, exec (.codeBurstDone n false false) s = .next t ∧
        OpCompleted s t n k 0 (if bitOf y.d1.toNat 8 then x.samples.length else 2) ∧ (t.portAt n).emSink = false ∧
        n ∉ (t.dieAt (n / 12)).govHeld ∧
        (bitOf y.d1.toNat 8 = true → y.orphan = false →
          ScratchTook s t y.engine buf (x.samples.flatMap (fun z => leBytes 4 z.word.toNat))) ∧
        (y.orphan = true → same t) ∧ (∀ j, j ≠ n → t.portAt j = s.portAt j)) ∧
    (field y.d0.toNat 3 2 = 2 →
      let still : Bool := decide (sgn 16 (cfg s (0x4000 + 64 * n + 12) 2 0) = 0)
      let gives (v w : Nat) (edge : Bool) := ∃ t, exec (.singleSlopeEnd n v (!edge && !still) (!edge && still)) s = .next t ∧ OpCompleted s t n k 0 1 ∧
        (y.orphan = false → ScratchTook s t y.engine buf (leBytes 4 w) ∧ (slotOf t n k).stamped = true ∧
          (edge = true → (slotOf t n k).stamp = x.rampStamp)) ∧
        (y.orphan = true → same t) ∧ PortOnly [.die, .port, .engine] s t n
      (∀ u, x.rampEdge = some u → u ≤ rampEndAt s n → u < 2 ^ 26 → gives u u true) ∧
      (x.rampEdge = none → rampEndAt s n < 2 ^ 26 → rampEndAt s n ≤ 16 * (s.time.elapsed - x.rampAt) →
        gives (rampEndAt s n) (rampEndAt s n + 2 ^ 27) false) ∧
      (cfg s (0x4000 + 64 * n + 12) 2 0 = 0 → rampEndAt s n = 2 ^ 26 - 1)))

/-- R132 to R141: the comparators' state, latches and DACs. -/
def Obligations.ComparatorsTripLatchAndClear : Prop :=
  ∀ (s : State) (n j : Nat), hasPort s n → j ≤ 2 →
    let x := s.portAt n
    let c := if j = 0 then x.c0 else if j = 1 then x.c1 else x.win
    let after (t : State) := if j = 0 then (t.portAt n).c0 else if j = 1 then (t.portAt n).c1 else (t.portAt n).win
    let m := cfg s (0x4000 + 64 * n + 9 + j) 9 1
    let votes (h : List Bool) := cfg s (0x4000 + 64 * n + 9 + j) 0xA 1 ≤ ((h.take m).filter id).length
    (∀ tripped bins, j ≤ 1 → x.powered = true → x.cmpOff = false → c.out = !tripped → ∃ t, exec (.comparatorEdge n j tripped bins) s = .next t ∧
      (after t).out = tripped ∧ (after t).latch = c.latch ∧
      (after t).edge = (if tripped = true then s.time.capture bins (padDelay s n (6 + j)) else c.edge) ∧
      (tripped = false → (after t).gated = false ∧ (after t).filtered = false) ∧
      (tripped = true → cfg s (0x4000 + 64 * n + 9 + j) 0xC 0 = 0 → cfg s (0x4000 + 64 * n + 9 + j) 0xD 0 = 0 →
        (after t).filtered = true) ∧ PortOnly [.die, .port, .stream, .reeve] s t n) ∧
    (x.powered = true →
      let h := (c.out :: c.hist).take 15
      ∃ t, exec (.majoritySample n j) s = .next t ∧ (after t).hist = h ∧ (∀ i, i ≠ n → t.portAt i = s.portAt i) ∧
        (after t).latch = (c.latch || decide (votes h)) ∧
        (votes h → c.latch = false → (after t).setStamp = c.edge ∧ (after t).sets = if c.sets = 255 then 255 else c.sets + 1) ∧
        (¬votes h → t = s.modPort n (fun p => setComp p j { c with hist := h }))) ∧
    (c.out = true → cfg s (0x4000 + 64 * n + 9 + j) 0xC 0 = 0 →
      c.since + filterTicks (cfg s (0x4000 + 64 * n + 9 + j) 0xD 0) ≤ s.time.elapsed → ∃ t, exec (.tripFilterExpiry n j) s = .next t ∧
      after t = { c with gated := true, filtered := true, passedAt := s.time.elapsed } ∧ PortOnly [.die, .port, .stream, .reeve] s t n) ∧
    (domainOn s n = true → ∃ t, exec (.cmpLatchClear n (2 ^ j)) s = .next t ∧
      (after t).latch = (c.latch && decide (votes c.hist)) ∧ (∀ i, i ≠ n → t.portAt i = s.portAt i) ∧
      Changes [.die, .port, .stream, .parish, .reeve, .timers] s t) ∧
    (∀ v : Word, domainOn s n = true → x.mode = 4 →
      let locked (i : Nat) : Bool := cfg s (0x4000 + 64 * n + 9 + i) 0xE 0 == 1 || cfg s (0x4000 + 64 * n + 11) 0xE 0 == 1
      exec (.cmpDacWrite n v) s = .next (s.modPort n (fun p => { p with
        dac0 := if locked 0 then p.dac0 else (v.extractLsb' 0 10).toNat
        dac1 := if locked 1 then p.dac1 else (v.extractLsb' 16 10).toNat
        wrDropped := (p.wrDropped && !v.getLsbD 31) || locked 0 || locked 1 })))

/-- R145, R146: the pulse generators. -/
def Obligations.PulseGeneratorsRunStopAndTrip : Prop :=
  ∀ (s : State) (n g : Nat), hasPort s n → g ≤ 1 →
    let x := s.portAt n
    let p := portPg x g
    let idx := 0x4000 + 64 * n + 13 + g
    let mode := cfg s idx 1 0
    let puts (i : Instr) (q : PulseGen) := exec i s = .next (s.modPort n (fun z => setPg z g q))
    let last : Bool := p.stopping || mode == 3 || (mode == 2 && decide (cfg s idx 4 1 ≤ p.done + 1))
    let due := match p.periodAt with | none => s.time.elapsed | some a => a + cfg s idx 2 0
    let started : PulseGen := { p with periodAt := some due, held := false, out := true, startStamp := s.nowStamp }
    let lapsed := ∀ a, p.periodAt = some a → a + cfg s idx 3 0 ≤ s.time.elapsed
    let ended : PulseGen := { p with out := false, done := (p.done + 1) % 65536, run := p.run && !last, stopping := false }
    (domainOn s n = true → x.mode = 4 → mode ≠ 0 → p.run = false → padsHeld s n = false →
      puts (.pgStart n g) { p with run := true, done := 0, stopping := false, periodAt := none }) ∧
    (p.run = true → puts (.pgStop n g) (if p.out then { p with stopping := true } else { p with run := false })) ∧
    (g = 1 → p.run = true → p.out = false → p.held = false → pgTripped s n g = false → due ≤ s.time.elapsed →
      puts (.pgPeriodStart n g) started) ∧
    (g = 1 → p.run = true → p.out = false → p.held = true → cfg s idx 8 0 ≠ 1 → due ≤ s.time.elapsed →
      puts (.pgPeriodStart n g) { p with periodAt := some due }) ∧
    (g = 0 → p.run = true → p.out = false → p.held = false → cfg s idx 6 0 = 0 → due ≤ s.time.elapsed →
      ∃ t, exec (.pgPeriodStart n g) s = .next t ∧ (t.portAt n).pg0 = started ∧ (t.portAt n).pg1 = x.pg1 ∧ ∀ i, i ≠ n → t.portAt i = s.portAt i) ∧
    (p.out = true → lapsed → puts (.pgPulseEnd n g) ended) ∧
    (p.out = true → pgTripped s n g = true → pgAct s n g = 1 →
      puts (.pgTrip n g) { ended with trunc := if p.trunc = 255 then 255 else p.trunc + 1 }) ∧
    (p.out = true → pgTripped s n g = true → pgAct s n g = 2 → puts (.pgTrip n g) { ended with held := true }) ∧
    (domainOn s n = true → puts (.pgHeldClear n g) { p with held := false })

/-- R36: every edge of the TIME clock adds the effective increment, with the carry into SECONDS, which wraps. -/
def Obligations.TimeTickAddsTheEffectiveIncrement : Prop :=
  ∀ (s : State), timeRuns s = true → TimeSound s.time →
    let t0 := s.time
    let lim : Int := (t0.slewLimit * (4 * 2 ^ 32) / 1000000 : Nat)
    let term : Int := match t0.slew with
      | none => 0
      | some sl => if (sl.residual.natAbs : Int) < lim then sl.residual else if sl.residual < 0 then -lim else lim
    ∃ t, exec .timeTick s = .next t ∧ (fineOf t.time : Int) = (fineOf t0 + (t0.rateForce + term)) % timeSpan ∧
      t.time.nanos < 1000000000 ∧ t.time.frac < 2 ^ 32 ∧ t.time.elapsed = t0.elapsed + 1 ∧
      t.time.slew.map (·.residual) = t0.slew.bind (fun sl => if sl.residual = term then none else some (sl.residual - term)) ∧
      t.time = { t0 with
        seconds := t.time.seconds, nanos := t.time.nanos, frac := t.time.frac, elapsed := t.time.elapsed, slew := t.time.slew } ∧
      Changes [.time, .die, .port, .stream, .parish, .reeve, .timers] s t ∧
      (t.time.seconds = t0.seconds → Changes [.time, .port, .reeve, .timers] s t) ∧
      (t.time.elapsed % 250000 ≠ 0 → t.port = s.port) ∧ (decided s 1 ≠ 3 → t.reeve = s.reeve) ∧
      (s.power.state = 0 →
        t.timers.idleRun = if s.net.waiting = [] then s.timers.idleRun + 1 else 0)

/-- R37, R38, R41 to R43, R47, R48: the writes of the time base. -/
def Obligations.TimeWritesWaitForTheAlignmentFrame : Prop :=
  ∀ (s : State),
    let builtin := cfg s 0x3020 1 1 = 1
    (∀ v, exec (.rateWrite v) s = .next (if ¬rateInRange v then answered s 0x0302 else if builtin then answered s 0x0403
      else answered { s with time := { s.time with
        rate := v, ratePend := true
        farAt := if 343597 < ((v : Int) - 0x400000000).natAbs then some (s.time.farAt.getD s.time.elapsed) else none } } 0)) ∧
    (∀ v : Int, exec (.offsetAdjWrite v) s = .next (
      if v < -(2 ^ 63) ∨ 2 ^ 63 ≤ v then answered s 0x0302 else if builtin then answered s 0x0403
      else answered { s with time := { s.time with offPend := some (v, decide (s.time.adjMode = 1)) } } 0)) ∧
    (∀ v, exec (.timeSetWrite v) s = .next (
      let secs := v / 2 ^ 48 % 2 ^ 48
      let ns := v / 2 ^ 16 % 2 ^ 30
      if 1000000000 ≤ ns then answered s 0x0302 else if builtin then answered s 0x0403
      else answered { s with time := { s.time with
        setPend := some ((((secs * 1000000000 + ns) * 2 ^ 32 + v % 2 ^ 16 * 2 ^ 16 : Nat) : Int) - fineOf s.time) } } 0)) ∧
    (∀ v, exec (.reacquireWrite v) s = .next (if 1 < v then answered s 0x0302
      else if v = 1 ∧ builtin then answered { s with servo := { s.servo with
        status := 1, integral := 0, basePpb := 0, count := 0, valid := 0, meas := [], stepped := false, gm := 0
        heardAt := s.time.elapsed, mayStep := true } } 0
      else answered s 0)) ∧
    (∀ (effect : Int) (since : Nat), s.servo.status = 2 → s.time.farAt = some since → since + 2500000000 ≤ s.time.elapsed →
      ∃ t, exec (.refRetune effect) s = .next t ∧ Changes [.time] s t ∧ t.time.ratePend = true ∧
        t.time.refTune = s.time.refTune + (if 0x400000000 < s.time.rate then 1 else -1) ∧
        (t.time.rate : Int) = max 0x3FF7CED91 (min 0x40083126F (s.time.rate + effect)))

/-- R24, R41 to R44: what a time-alignment frame applies. R42: the remainder of a slew is applied in one tick and the term removed. -/
def Obligations.AlignmentFramesAndSlews : Prop :=
  (∀ (s : State) (held : Nat), timeRuns s = true →
    let a := s.time
    ∃ t, exec (.timeAlignFrame held) s = .next t ∧ Changes [.time, .die, .stream, .parish, .reeve, .timers] s t ∧
      (∀ d, d < usedDies s → (t.dieAt d).aligned = bitOf held d) ∧
      t.time.rateForce = (if a.ratePend then a.rate else a.rateForce) ∧ t.time.rate = a.rate ∧ t.time.ratePend = false ∧
      t.time.slewLimit = a.slewLimitPend.getD a.slewLimit ∧ t.time.slewLimitPend = none ∧ t.time.offPend = none ∧
      t.time.setPend = none ∧ t.time.elapsed = a.elapsed ∧
      (∀ off, (a.setPend = some off ∨ (a.setPend = none ∧ ∃ o, a.offPend = some (o, true) ∧ off = o * 65536)) →
        (fineOf t.time : Int) = (fineOf a + off) % timeSpan ∧ t.time.epoch = a.epoch + 1 ∧ t.time.slew = none ∧
        t.time.lastStep = max (-(2 ^ 63)) (min (2 ^ 63 - 1) (off / 65536))) ∧
      (∀ o, a.setPend = none → a.offPend = some (o, false) → fineOf t.time = fineOf a ∧ t.time.epoch = a.epoch ∧
        t.time.slew = if o = 0 then none else some { residual := o * 65536 }) ∧
      (a.setPend = none → a.offPend = none → fineOf t.time = fineOf a ∧ t.time.epoch = a.epoch ∧ t.time.slew = a.slew)) ∧
  (∀ (s : State) (sl : Slew), timeRuns s = true → TimeSound s.time →
    s.time.slew = some sl → sl.residual.natAbs < s.time.slewLimit * (4 * 2 ^ 32) / 1000000 →
    ∃ t, exec .slewComplete s = .next t ∧
      (fineOf t.time : Int) = (fineOf s.time + (s.time.rateForce + sl.residual)) % timeSpan ∧ t.time.slew = none ∧
      t.time.elapsed = s.time.elapsed + 1 ∧ t.time.rate = s.time.rate ∧ t.time.epoch = s.time.epoch ∧
      Changes [.time, .die, .port, .stream, .parish, .reeve, .timers] s t)

/-- R50 to R53: PTP messages received. R48, R49, R51, R54: PTP messages sent, and the timeouts. -/
def Obligations.PtpMessagesAreTakenAndSent : Prop :=
  (∀ (s : State) (n domain : Nat), n < 3 → portLive s n = true →
    let x := s.ptpAt n
    let now : Int := ((fineOf s.time / 2 ^ 32 : Nat) : Int) - cfg s (0x3100 + 16 * n) 8 0
    let counts (t : State) := (t.netAt n).rxFrames = (s.netAt n).rxFrames + 1 ∧ (∀ j, j ≠ n → t.netAt j = s.netAt j)
    let measured (t : State) (t1 t2 : Int) := (t.ptpAt n).offset = t2 - t1 - x.pathDelay ∧ (t.ptpAt n).syncIngress = none ∧
      (t.ptpAt n).syncPair = some (t1, t2) ∧ (∀ j, j ≠ n → t.ptpAt j = s.ptpAt j) ∧ counts t ∧
      (steerPort s n = false → Changes [.ptp, .netPorts] s t) ∧
      (steerPort s n = true → t.servo.lastOffset = t2 - t1 - x.pathDelay ∧ t.servo.meanPath = x.pathDelay ∧
        Changes [.time, .servo, .ptp, .netPorts] s t) ∧
      (steers s n = false → t.time = s.time)
    (∃ t, exec (.ptpMessageDiscard n) s = .next t ∧ counts t ∧ Changes [.netPorts] s t) ∧
    (ptpHears s n domain = true → x.state ≠ 6 → ∀ t1, ∃ t, exec (.ptpSyncReceive n domain false t1) s = .next t ∧
      measured t t1 now) ∧
    (ptpHears s n domain = true → x.state ≠ 6 → ∀ t1, ∃ t, exec (.ptpSyncReceive n domain true t1) s = .next t ∧
      t.ptpAt n = { x with syncIngress := some now } ∧ counts t ∧ Changes [.ptp, .netPorts] s t) ∧
    (∀ t1 t2, ptpHears s n domain = true → x.state ≠ 6 → x.syncIngress = some t2 →
      ∃ t, exec (.ptpFollowUpReceive n domain t1) s = .next t ∧ measured t t1 t2) ∧
    (∀ t1 t2 t3 t4, ptpHears s n domain = true → x.syncPair = some (t1, t2) → x.reqEgress = some t3 →
      ∃ t, exec (.ptpDelayResponseReceive n domain t4 none) s = .next t ∧ counts t ∧
        ((t.ptpAt n).pathDelay : Int) = max 0 (min 4294967295 (((t2 - t1) + (t4 - t3)) / 2)) ∧ (t.ptpAt n).reqEgress = none) ∧
    (∀ t3 t4 r, ptpHears s n domain = true → x.reqEgress = some t3 →
      ∃ t, exec (.ptpDelayResponseReceive n domain t4 (some r)) s = .next t ∧ counts t ∧
        ((t.ptpAt n).pathDelay : Int) = max 0 (min 4294967295 ((now - t3 - r) / 2)) ∧ (t.ptpAt n).reqEgress = none) ∧
    (∀ peer, ptpHears s n domain = true → (if peer then cfg s (0x3100 + 16 * n) 2 0 = 1 else x.state = 6) →
      ∃ t, exec (.ptpDelayRequestReceive n domain peer) s = .next t ∧ (t.netAt n).rxFrames = (s.netAt n).rxFrames + 1 ∧
        (t.netAt n).waiting.length = (s.netAt n).waiting.length + 1 ∧ Changes [.netPorts] s t) ∧
    (∀ p1 cls acc var p2 gm utc, ptpHears s n domain = true → cfg s (0x3100 + 16 * n) 4 2 = 0 → x.gmPrio = 0 → x.gm = 0 →
      ∃ t, exec (.ptpAnnounceReceive n domain p1 cls acc var p2 gm utc) s = .next t ∧ counts t ∧ (t.ptpAt n).gm = gm ∧
        (t.ptpAt n).state = (if x.state = 9 then 9 else 8) ∧ (steerPort s n = true → t.time.utcOffset = utc) ∧
        (steerPort s n = false → t.time = s.time))) ∧
  (∀ (s : State) (n : Nat), n < 3 →
    let x := s.ptpAt n
    let sends (i : Instr) (op : Nat) := ∃ t f, exec i s = .next t ∧ (t.netAt n).waiting = (s.netAt n).waiting ++ [f] ∧
      f.op = op ∧ f.since = s.time.elapsed ∧ t.ptpAt n = { x with sent := x.sent + 1 } ∧
      (∀ j, j ≠ n → t.netAt j = s.netAt j ∧ t.ptpAt j = s.ptpAt j) ∧ Changes [.ptp, .netPorts] s t
    (portLive s n = true → ptpEnabled s n = true → x.state = 6 → sends (.ptpSyncSend n) 16) ∧
    (portLive s n = true → ptpEnabled s n = true → x.state = 8 ∨ x.state = 9 → sends (.ptpDelayRequestSend n) 17) ∧
    (portLive s n = true → ptpEnabled s n = true → x.state = 6 → sends (.ptpAnnounceSend n) 18) ∧
    (steers s n = true → s.servo.status = 1 ∨ s.servo.status = 2 ∨ s.servo.status = 3 →
      s.servo.heardAt + cfg s 0x3020 7 4 * syncTicks s n ≤ s.time.elapsed → exec (.syncTimeout n) s =
      .next { s with servo := { s.servo with status := 4, valid := 0, count := 0, meas := [] } }) ∧
    (ptpEnabled s n = true → cfg s (0x3100 + 16 * n) 4 2 = 0 → x.state ≠ 6 → x.state ≠ 3 → exec (.announceReceiptTimeout n) s =
      .next (s.modPtp n (fun y => { y with
        state := 4, gm := 0, gmPrio := 0, syncIngress := none, syncPair := none, reqEgress := none }))) ∧
    (ptpEnabled s n = true → cfg s (0x3100 + 16 * n) 4 2 ≠ 0 → x.state ≠ 6 → x.state ≠ 3 → ∃ t, exec (.announceReceiptTimeout n) s = .next t ∧
      (t.ptpAt n).state = 6 ∧ (t.ptpAt n).gm = s.mac / 2 ^ 24 * 2 ^ 40 + 0xFFFE * 2 ^ 24 + s.mac % 2 ^ 24 ∧
      (∀ j, j ≠ n → t.ptpAt j = s.ptpAt j) ∧ Changes [.servo, .ptp] s t))

/-- R405, R406 (step 1), R411, R443: requests for a power state. The timers count nominal LPRC cycles (the model's choice, log entry
4). R64, R247, R396, R397, R406 to R408, R410: the drain, the end of an entry and the return. -/
def Obligations.PowerEntriesBeginDrainAndReturn : Prop :=
  (∀ (s : State),
    let p := s.power
    let enters (i : Instr) (target cause : Nat) := ∃ t, exec i s = .next t ∧
      t.power = { p with
        state := 5, target := target, entryCause := cause, prevState := p.state, drained := false, enteredAt := s.time.elapsed
        lprcEnd := 0, pendReq := if p.pendReq = 1 then 0 else p.pendReq } ∧
      (target ≠ 2 → t.pend = []) ∧ t.reeve.powerCause = true ∧
      Changes [.net, .netPorts, .sessions, .die, .port, .stream, .parish, .pend, .reeve, .timers, .twin, .power, .fw, .test] s t
    (∀ i target, (i, target) ∈ [(.powerCmdSleep, 2), (.powerCmdDeepSleep, 3), (.powerCmdOff, 4)] →
      (starting s = true → exec i s = .next
        (answered { s with power := { p with pendReq := 1, pendState := target, pendCause := 256 } } 0)) ∧
      (starting s = false → p.state < target → p.opBusy = false → enters i target 256) ∧
      (starting s = false → target ≤ p.state → p.state ≤ 4 → p.opBusy = false → exec i s = .next (answered s 0)) ∧
      (p.state = 5 ∨ p.state = 6 ∨ p.opBusy = true → exec i s = .next
        (answered { s with power := { p with pendReq := 1, pendState := target, pendCause := 256 } } 0))) ∧
    (starting s = false → p.state = 5 → exec .powerCmdRun s = .next
      (answered { s with power := { p with wakeLatched := setBit p.wakeLatched 6, pendReq := 0 } } 0)) ∧
    (starting s = false → p.state ≤ 4 → p.opBusy = false → exec .powerCmdRun s = .next
      (answered { s with power := { p with state := if p.state = 1 then 0 else p.state, pendReq := 0 } } 0)) ∧
    (p.state = 0 → s.dictReady = true → cfg s 0xC000 2 10 ≠ 0 → s.net.waiting = [] →
      25000 * cfg s 0xC000 2 10 ≤ s.timers.idleRun →
      exec .idleTimeExpiry s = .next { s with power := { p with state := 1 }, timers := { s.timers with sleepRun := 0 } }) ∧
    (parishState s 1 ≠ 2 → cfg s 0x0800 6 0 = 0 → p.opBusy = false →
      (p.state = 1 → cfg s 0xC000 3 0 ≠ 0 → 250000000 * cfg s 0xC000 3 0 ≤ s.timers.sleepRun → enters .sleepTimeExpiry 2 512) ∧
      (p.state = 2 → cfg s 0xC000 4 0 ≠ 0 → p.lprcAt + 32768 * cfg s 0xC000 4 0 ≤ p.lprc → enters .deepTimeExpiry 3 512)) ∧
    (p.state = 3 → cfg s 0xC000 5 0 ≠ 0 → p.opBusy = false → p.lprcAt + 32768 * (3600 * cfg s 0xC000 5 0) ≤ p.lprc →
      enters .storageTimeExpiry 4 2048)) ∧
  (∀ (s : State),
    let p := s.power
    let asleep := (p.lprc - p.lprcAt) * p.lprcPeriod
    (p.state = 5 → p.drained = false → p.enteredAt + 50000 ≤ s.time.elapsed → ∃ t, exec .drainExpiry s = .next t ∧
      t.power = { p with drained := true } ∧ (∀ e c, (ctxOf t e c).live = false) ∧ (∀ d, (t.dieAt d).opens = []) ∧
      Changes [.die, .port, .engine, .stream, .rule, .parish, .reeve, .timers, .power] s t) ∧
    (inFinal s = true → 4 ≤ p.lprcEnd → p.target = 4 → exec .powerStateReached s = .next { resetPart s 0 with
      power := { (resetPart s 0).power with state := 4 }, svc := { (resetPart s 0).svc with awake := false, wokenAt := none } }) ∧
    (inFinal s = true → 4 ≤ p.lprcEnd → p.target = 2 ∨ p.target = 3 → p.pendReq ≠ 1 → (∀ d, (s.dieAt d).opens = []) →
      ∃ t, exec .powerStateReached s = .next t ∧ t.power.wakeLatched = p.wakeLatched ||| levelWakes t ∧
      t.power = { p with
        state := if t.power.wakeLatched = 0 then p.target else 6, wakeLatched := t.power.wakeLatched
        reachedAt := if p.prevState ≤ 1 then s.time.elapsed else p.reachedAt, lprc := if p.prevState ≤ 1 then 0 else p.lprc
        lprcAt := if p.prevState ≤ 1 then 0 else p.lprc, sleepFine := fineOf s.time, lprcPeriod := t.power.lprcPeriod } ∧
      (p.target = 2 → t.power.lprcPeriod = p.lprcPeriod) ∧
      (p.target = 3 → 30216 * 2 ^ 32 ≤ t.power.lprcPeriod ∧ t.power.lprcPeriod < 30825 * 2 ^ 32) ∧
      t.svc.awake = false ∧ (∀ n, (t.netAt n).link = false) ∧
      (∀ d, d < usedDies s → (t.dieAt d).logicOn = if p.target = 2 ∧ d = 0 then (s.dieAt 0).logicOn else false) ∧
      (p.target = 3 → ∀ k, (t.streamAt k).ring = if ringKept s k then (s.streamAt k).ring else []) ∧
      (p.target = 2 → t.stream = s.stream) ∧
      Changes [.net, .netPorts, .svc, .die, .port, .stream, .row, .col, .power, .free] s t) ∧
    (p.state = 6 → p.pendReq = 0 → ∃ t, exec (.returnComplete p.target) s = .next t ∧
      t.power = { p with
        state := 0, wakeLatched := 0, lastWake := p.wakeLatched, noticeCause := p.wakeLatched, noticeFrom := p.target - 1
        asleepMs := min (4 * (t.time.elapsed - p.reachedAt) / 1000000) (2 ^ 32 - 1), noticeOwed := t.power.noticeOwed } ∧
      t.svc.awake = true ∧ t.reeve.powerCause = false ∧ (∀ k, (t.tallyAt k).matched = false) ∧ t.timers = {} ∧
      (p.target ≠ 3 → t.time = s.time ∧ t.servo = s.servo) ∧
      (p.target = 3 → t.time.elapsed = s.time.elapsed + asleep / 2 ^ 34 ∧ t.time.epoch = s.time.epoch + 1 ∧ t.time.slew = none ∧
        fineOf t.time = (p.sleepFine + asleep) % timeSpan ∧
        (s.servo.status ≠ 5 → t.servo.status = if s.servo.everLocked then 4 else 0)) ∧
      Changes [.time, .servo, .svc, .die, .port, .engine, .stream, .mill, .rule, .tally, .parish, .reeve, .timers, .power] s t))

/-- R119, R246, R267, R336, R408, R409: the wake sources. -/
def Obligations.WakesStartTheReturnOrAreLatched : Prop :=
  ∀ (s : State),
    let p := s.power
    let woken (bit : Nat) : State :=
      if p.state = 2 ∨ p.state = 3 then { s with power := { p with state := 6, wakeLatched := setBit p.wakeLatched bit } }
      else if p.state = 5 ∧ p.target ≠ 4 then { s with power := { p with wakeLatched := setBit p.wakeLatched bit } }
      else s
    let wakes (i : Instr) (bit : Nat) := exec i s = .next (woken bit)
    let edge (i : Instr) (bit : Nat) := exec i s = .next (if inFinal s then s else woken bit)
    2 ≤ p.state →
    (cfg s 0xC000 7 1 = 1 → wakes .wakePinLevel 1) ∧ (cfg s 0xC000 7 1 = 2 → edge .wakePinEdge 1) ∧
    (∀ n, hasPort s n → wakePort s n = true → wakes (.comparatorWake n) 2) ∧
    ((s.tallyAt 3).matched = true → wakes .aonTallyWake 3) ∧ (cfg s 0xC000 8 0 = 1 → wakes .twinWake 4) ∧
    (cfg s 0xC000 6 0 ≠ 0 → p.state = 2 ∨ p.state = 3 → 32768 * cfg s 0xC000 6 0 ≤ p.lprc → wakes .wakeAfterExpiry 6) ∧
    (∀ n, n < 3 → cfg s (0x0810 + 16 * n) 1 1 = 1 →
      (cfg s (0x0810 + 16 * n) 0xA 2 = 1 → edge (.networkWakeActivity n) 0) ∧
      (cfg s (0x0810 + 16 * n) 0xA 2 = 2 → wakes (.networkWakePattern n) 0)) ∧
    (s.svc.awake = false → s.svc.wokenAt = none → p.state ≠ 4 → inFinal s = false → exec .svcAddressWake s =
      .next { woken 5 with svc := { s.svc with acked := false, wokenAt := some s.time.elapsed } }) ∧
    (∀ r q, r < 64 → r < usedDies s * 64 → p.state = 2 → ruleOwner s r = some q → ∃ t, exec (.sentinelCrierWake r) s = .next t ∧
      t.power = { p with hostWake := true, state := 6, wakeLatched := setBit p.wakeLatched 6 } ∧
      ((s.parAt q).hostAsleep = true → sinceWake s q (cfg s (granIdx q) 8 100) = false →
        (t.parAt q).wake.reasons = setBit (s.parAt q).wake.reasons 15) ∧
      Changes [.parish, .timers, .power] s t)

/-- R398 to R402: operating-point switches. R404: derating and its end. -/
def Obligations.OperatingPointsSwitchAndDerate : Prop :=
  (∀ (s : State),
    let p := s.power
    let point (v d : Nat) := v / 4 ^ d % 4
    let named (v d : Nat) := d < usedDies s ∧ point v d ≠ 3
    let allowed (v : Nat) := ∀ d, named v d → bitOf (cfg s (0xC010 + d) 2 1) (point v d) = true
    let safety (v : Nat) := parishState s 1 = 2 ∧ ∃ d, named v d ∧ parishOnDie s 1 d = true
    let moves (v d : Nat) := named v d ∧ point v d ≠ (s.dieAt d).opPoint ∧ (s.dieAt d).lost = false ∧ (s.dieAt d).logicOn = true
    (∀ v, ¬allowed v → exec (.opSet v) s = .next (answered s 0x0302)) ∧
    (∀ v, allowed v → safety v ∨ (p.stepDown = true ∧ ∃ d, named v d ∧ point v d < (s.dieAt d).opPoint) →
      exec (.opSet v) s = .next (answered s 0x0403)) ∧
    (∀ v, allowed v → ¬safety v → p.stepDown = false →
      (p.state = 5 ∨ p.state = 6 ∨ p.opBusy = true → exec (.opSet v) s = .next
        (answered { s with power := { p with pendReq := 2, pendOp := v, pendCause := 4096 } } 0)) ∧
      (p.state ≤ 1 → p.opBusy = false → (∀ d, (s.dieAt d).onFrc = false) → ∃ t, exec (.opSet v) s = .next t ∧ t.net.lastStatus = 0 ∧ Changes [.net, .die, .power] s t ∧
        (∀ d, moves v d →
          let x := s.dieAt d
          let mv := pointMv (point v d)
          t.dieAt d = { x with
            opTarget := some (point v d), opCause := 4096, relocks := 0, voltOk := decide (mv ≤ pointMv x.opPoint)
            coreSet := if pointMv x.opPoint < mv then mv else x.coreSet
            voltAt := if pointMv x.opPoint < mv ∧ mv ≠ x.coreSet then s.time.elapsed else x.voltAt }) ∧
        (∀ d, ¬moves v d → t.dieAt d = s.dieAt d) ∧
        ((∃ d, moves v d) → t.power = { p with opBusy := true, opAt := s.time.elapsed + 25000 }) ∧
        ((∀ d, ¬moves v d) → t.power = p))) ∧
    (∀ d, d < usedDies s →
      let x := s.dieAt d
      (x.coreMv ≠ x.coreSet → x.voltAt + 1250 ≤ s.time.elapsed → exec (.voltageConfirmed d) s =
        .next (s.modDie d (fun y => { y with voltOk := true, coreMv := y.coreSet }))) ∧
      (∀ k, x.opTarget = some k → x.voltOk = true → x.onFrc = false → p.opAt ≤ s.time.elapsed →
        x.active.valid = false ∨ atBoundary s d = true →
        ∃ t, exec (.opSwitchPause d) s = .next t ∧ (t.dieAt d).paused = true ∧ (t.dieAt d).onFrc = true ∧
          (t.dieAt d).pauseAt = s.time.elapsed ∧ (t.dieAt d).relockAt = s.time.elapsed ∧ (t.dieAt d).opTarget = some k ∧
          (t.dieAt d).tallyHolds = x.tallyHolds + 1 ∧
          (∀ j, j / 32 = d → (s.tallyAt j).clk = 0 → tallyHeld t j = true) ∧ (∀ n, (t.portAt n).loopDepth = 0) ∧
          Changes [.netPorts, .die, .port, .stream, .parish, .timers, .twin, .test] s t) ∧
      (∀ k, x.opTarget = some k → x.onFrc = true → x.relockAt + 2500 ≤ s.time.elapsed → s.time.elapsed ≤ x.relockAt + 50000 →
        p.pendReq = 0 → x.active.valid = false →
        (pointMv k ≤ x.coreMv → ∃ t, exec (.sysPllChecked d) s = .next t ∧ (t.dieAt d).opPoint = k ∧
          (t.dieAt d).opTarget = none ∧ (t.dieAt d).onFrc = false ∧ (t.dieAt d).paused = false ∧
          (t.dieAt d).switches = x.switches + 1 ∧ (p.state ≤ 1 → (t.dieAt d).coreSet = pointMv k) ∧
          (∀ j, j / 32 = d → tallyHeld t j = false) ∧
          ((∃ j, j < usedDies s ∧ j ≠ d ∧ (s.dieAt j).opTarget.isSome = true) → t.power = p) ∧
          ((∀ j, j < usedDies s → j ≠ d → (s.dieAt j).opTarget = none) → t.power = { p with opBusy := false }) ∧
          Changes [.die, .stream, .tally, .parish, .reeve, .timers, .power] s t) ∧
        (x.coreMv < pointMv k → ∃ t, exec (.sysPllChecked d) s = .next t ∧ FaultTold s t d 0x12 5 d 0 ∧
          (t.dieAt d).opTarget = some k ∧ (t.dieAt d).onFrc = true ∧ Changes [.die, .stream, .parish, .reeve, .timers] s t)))) ∧
  (∀ (s : State),
    let p := s.power
    let lowest (d : Nat) := let m := cfg s (0xC010 + d) 2 1
      if bitOf m 2 then 2 else if bitOf m 1 then 1 else if bitOf m 0 then 0 else 3
    let derated (t : State) := t.power.stepDown = true ∧
      (decided s 1 = 2 → (∃ d, d < usedDies s ∧ parishOnDie s 1 d = true) → decided t 1 = 3) ∧
      (p.state ≤ 1 → p.opBusy = false → ∀ d, d < usedDies s → lowest d ≠ 3 → lowest d ≠ (s.dieAt d).opPoint →
        (s.dieAt d).lost = false → (s.dieAt d).logicOn = true → (t.dieAt d).opTarget = some (lowest d) ∧ t.power.opBusy = true) ∧
      Changes [.die, .stream, .parish, .reeve, .timers, .power] s t
    (∀ detail item temp, detail = 3 ∨ detail = 4 ∨ detail = 6 → (detail = 4 → 1400 ≤ temp) → ∃ t, exec (.converterDerate detail item temp) s = .next t ∧
      derated t ∧ (detail ≠ 3 → t.power.hotAt = s.time.elapsed) ∧ t.power.phaseFault = (p.phaseFault || detail == 3) ∧ t.power.convHot = (p.convHot || detail == 4) ∧
      t.power.thermHot = (p.thermHot || detail == 6) ∧ t.power.convTemp = if detail = 6 then p.convTemp else temp) ∧
    (∀ d temp, d < usedDies s → 1350 ≤ temp → ∃ t, exec (.thermalWarning d temp) s = .next t ∧ derated t ∧ t.power.thermHot = true ∧
      (t.dieAt d).temp = temp ∧ t.power.hotAt = s.time.elapsed) ∧
    (p.convHot = true ∨ p.thermHot = true → p.hotAt + 2500000000 ≤ s.time.elapsed →
      (p.thermHot = true → ∀ d, d < usedDies s → (s.dieAt d).temp < 1250) → exec .derateClear s =
      .next { s with power := { p with convHot := false, thermHot := false, stepDown := p.phaseFault } }))

/-- R306, R409, R438, R439, R457: what a reset loses and keeps, and what a start does. -/
def Obligations.ResetsLoseAndKeep : Prop :=
  ∀ (s : State),
    let passes (fw : Fw) := ∃ k, (k = fw.nextSlot.getD fw.slot ∨ k = 1 - fw.nextSlot.getD fw.slot) ∧
      bitOf fw.badSlots k = false ∧ fw.security ≤ tget fw.security fw.slotSecurity k
    let started (t : State) (testen : Bool) (fw : Fw) (cause : Nat) :=
      t.resetCause = (if testen then 5 else cause) ∧ t.test.prodMode = testen ∧
      (testen = true → t.persisted = [] ∧ t.persistedOther = []) ∧
      (testen = false → t.persisted = s.persisted ∧ t.persistedOther = s.persistedOther) ∧
      (passes fw → t.dictReady = true ∧ t.power.state = 0 ∧ t.svc.awake = true ∧ t.fw.boot = false) ∧
      (¬passes fw → t.fw.boot = true ∧ bitOf t.reeve.rqReason 7 = true)
    (s.power.vinOk = true → ∃ t, exec (.vinDip [] []) s = .next t ∧ WasReset s t 1 ∧ t.power.vinOk = false ∧
      (∀ d p, (tget {} (t.dieAt d).regions p).pages = (tget {} (s.dieAt d).regions p).pages)) ∧
    (∀ d temp, d < usedDies s → 1500 ≤ temp → ∃ t, exec (.thermalShutdown d temp [] []) s = .next t ∧ t.resetCause = 2 ∧ t.power.thermDown = true ∧
      (t.dieAt d).temp = temp ∧ t.time = {} ∧ t.stream = [] ∧ t.sessions = [] ∧ t.pend = [] ∧ t.conf = [] ∧ t.dictReady = false ∧
      t.persisted = s.persisted ∧ t.persistedOther = s.persistedOther ∧ (∀ p, (t.parAt p).key = (s.parAt p).key)) ∧
    (∀ v, v ≠ 0x5A5A → exec (.resetWrite v) s = .next (answered s 0x0302)) ∧
    (s.power.vinOk = true → s.power.thermDown = false → ∃ t, exec (.resetWrite 0x5A5A) s = .next t ∧
      started t s.testen s.fw 4 ∧ t.sessions = [] ∧ t.pend = []) ∧
    (∀ vin low strap addr testen nv bad, s.power.vinOk = false → s.power.thermDown = false → 8800 < vin →
      ∃ t, exec (.vinValid vin low strap addr testen nv bad) s = .next t ∧
        started t testen { s.fw with nvBad := nv, badSlots := bad } (if low then 0 else s.resetCause) ∧
        t.power.vinOk = true ∧ t.power.vinMv = vin ∧ t.cmptStrap = strap ∧ t.testen = testen ∧ t.svc.addr = 0x58 + addr % 8) ∧
    (∀ temps, s.power.thermDown = true → s.power.vinOk = true → temps.length = s.dies → (∀ c ∈ temps, c < 1250) →
      ∃ t, exec (.thermalRestart temps) s = .next t ∧ started t s.testen s.fw s.resetCause ∧ t.power.thermDown = false) ∧
    (s.power.state = 4 → s.power.vinOk = true → s.power.thermDown = false → ∃ t, exec .wakePinStart s = .next t ∧
      started t s.testen s.fw s.resetCause)

/-- R371, R373, R403, R439: faults that stop a die. -/
def Obligations.DieFaultsLoseOrResetTheDie : Prop :=
  ∀ (s : State) (d : Nat), d < usedDies s → (s.dieAt d).lost = false → (s.dieAt d).logicOn = true →
    let x := s.dieAt d
    let reacts (i : Instr) (cls detail : Nat) :=
      (cfg s 0xD000 4 0 = 0 → ∃ t, exec i s = .next t ∧ FaultTold s t d cls detail 0 0 ∧ (t.dieAt d).lost = false ∧
        Changes [.die, .stream, .parish, .reeve, .timers] s t) ∧
      (cfg s 0xD000 4 0 ≠ 0 → d ≠ 0 → ∃ t, exec i s = .next t ∧ DieLost s t d) ∧
      (cfg s 0xD000 4 0 ≠ 0 → d = 0 → ∃ t, exec i s = .next t ∧ t.sessions = [] ∧ t.pend = [] ∧
        (s.testen = false → t.resetCause = 3 ∧ t.persisted = s.persisted))
    reacts (.lockstepMismatch d) 3 1 ∧
    (x.wdSince + 312500 ≤ s.time.elapsed → reacts (.watchdogTimeout d) 4 2) ∧
    (x.wdServed = false ∨ (x.wdSince + 187500 ≤ s.time.elapsed ∧ s.time.elapsed ≤ x.wdSince + 312500) →
      exec (.watchdogService d) s = .next (s.modDie d (fun y => { y with wdSince := s.time.elapsed, wdServed := true }))) ∧
    (x.wdServed = true → s.time.elapsed < x.wdSince + 187500 → reacts (.watchdogService d) 4 1) ∧
    (x.wdServed = true → x.wdSince + 312500 < s.time.elapsed → reacts (.watchdogService d) 4 2) ∧
    (x.onFrc = true → x.opTarget.isSome = true → x.relockAt + 50000 ≤ s.time.elapsed → x.relocks = 0 → ∃ t, exec (.relockTimeout d) s = .next t ∧
      (t.dieAt d).relocks = 1 ∧ (t.dieAt d).relockAt = s.time.elapsed ∧ (t.dieAt d).relockFails = counted 65535 x.relockFails ∧ (t.dieAt d).opTarget = x.opTarget ∧
      FaultTold s t d 0x12 2 d 0 ∧ Changes [.die, .stream, .parish, .reeve, .timers] s t) ∧
    (x.onFrc = true → x.opTarget.isSome = true → x.relockAt + 50000 ≤ s.time.elapsed → x.relocks ≠ 0 → d ≠ 0 → s.power.pendReq = 0 →
      ∃ t, exec (.relockTimeout d) s = .next t ∧ (t.dieAt d).lost = true ∧ (t.dieAt d).opTarget = none ∧
        (t.dieAt d).relockFails = counted 65535 x.relockFails) ∧
    (d ≠ 0 → s.dictReady = true → x.frames = 0 → ∃ t, exec (.dieStartupTimeout d) s = .next t ∧ DieLost s t d)

/-- R451 to R453, R455: loopbacks of sensor and network ports. R451, R454, R455, R458: loopbacks of the twin and ring links, and the self-test. -/
def Obligations.LoopbacksAndSelfTestsRun : Prop :=
  (∀ (s : State) (n via : Nat),
    let word (st depth err errors : Nat) := BitVec.ofNat 32 (st + 4 * depth + 256 * err + 65536 * min errors 65535)
    let x := s.portAt n
    let y := s.netAt n
    (hasPort s n → ∀ i depth, (i, depth) ∈ [(.portLoopL0 n, 1), (.portLoopL1 n, 2), (.portLoopL2 n, 3), (.portLoopL3 n, 4)] →
      let mine := ∃ p, portOwner s n = some p ∧ (parishState s p = 1 ∨ parishState s p = 4)
      (dieOff s (n / 12) = true → exec i s = .next (answered s 0x0401)) ∧
      (dieOff s (n / 12) = false → x.loopDepth ≠ 0 → exec i s = .next (answered s 0x0402)) ∧
      (dieOff s (n / 12) = false → x.loopDepth = 0 → s.test.prodMode = false → ¬mine → exec i s = .next (answered s 0x0403)) ∧
      (dieOff s (n / 12) = false → x.loopDepth = 0 → mine ∨ (s.test.prodMode = true ∧ portOwner s n ≠ some 1) → (∀ k ∈ x.queue, (slotOf s n k).port = n) →
        ∃ t, exec i s = .next t ∧ t.net.lastStatus = 0 ∧ (t.portAt n).loopDepth = depth ∧ (t.portAt n).loopResult = word 1 depth 0 0 ∧
          (t.portAt n).loopOe = x.pinOe ∧ (t.portAt n).pinOe = (if depth = 1 ∨ depth = 3 then 0 else 15) ∧
          (∀ k ∈ x.queue, (slotOf s n k).state = 1 ∨ (slotOf s n k).state = 2 → (slotOf s n k).orphan = false →
            (slotOf t n k).state = 4 ∧ (slotOf t n k).status = 9) ∧
          PortOnly [.net, .die, .port, .engine, .stream, .reeve] s t n)) ∧
    (n < 3 → ∀ i depth, (i, depth) ∈ [(.netLoopMac n via, 1), (.netLoopPcs n via, 2), (.netLoopPma n via, 3), (.netLoopRemote n via, 4)] →
      (y.loopDepth ≠ 0 → exec i s = .next (answered s 0x0402)) ∧
      (y.loopDepth = 0 → s.test.prodMode = false ∨ (via = n ∧ depth ≠ 4) → exec i s = .next (answered s 0x0403)) ∧
      (y.loopDepth = 0 → s.test.prodMode = true → via ≠ n ∨ depth = 4 → ∃ t, exec i s = .next t ∧ t.net.lastStatus = 0 ∧
        (t.netAt n).loopDepth = depth ∧ (t.netAt n).loopResult = word 1 depth 0 0 ∧ (t.netAt n).loopAt = s.time.elapsed ∧
        (t.netAt n).link = (y.link && depth == 4) ∧ Changes [.net, .netPorts, .stream] s t)) ∧
    (n < 3 → (y.loopDepth = 4 → via ≠ n → exec (.netLoopStop n via) s = .next (answered (s.modNet n (fun z => { z with
        loopDepth := 0, remoteDue := false, loopResult := word 2 4 0 0, upAt := s.time.elapsed })) 0)) ∧
      (y.loopDepth = 4 → via = n → exec (.netLoopStop n via) s = .next (answered s 0x0403)) ∧
      (y.loopDepth ≠ 0 → y.loopDepth ≠ 4 → exec (.netLoopStop n via) s = .next (answered s 0x0402)) ∧
      (y.loopDepth = 0 → exec (.netLoopStop n via) s = .next (answered s 0))) ∧
    (n < 3 → s.dictReady = true → y.link = true → y.loopDepth = 4 → y.remoteDue = false →
      (∀ dst src rest, dst.length = 6 → src.length = 6 → exec (.remoteFrameReflect n (dst ++ src ++ rest)) s =
        .next (s.modNet n (fun z => { z with
          rxFrames := z.rxFrames + 1, txFrames := z.txFrames + 1, onWire := some { op := 21, payload := src ++ dst ++ rest } }))) ∧
      (y.loopAt + 250000000 * cfg s 0xF000 5 10 ≤ s.time.elapsed → exec (.loopTimeoutExpiry n) s =
        .next (s.modNet n (fun z => { z with
          loopDepth := 0, remoteDue := false, loopResult := word 2 4 0 0, upAt := s.time.elapsed })))) ∧
    (∀ err errors, err ≤ 6 →
      let st := if err = 0 ∧ errors = 0 then 2 else 3
      (hasPort s n → x.loopDepth ≠ 0 → x.loopDepth ≤ 4 → exec (.loopbackDone 0 n err errors) s = .next (s.modPort n (fun z => { z with
        loopDepth := 0, loopResult := word st z.loopDepth err errors, pinOe := z.loopOe }))) ∧
      (n < 3 → 1 ≤ y.loopDepth → y.loopDepth ≤ 3 → exec (.loopbackDone 1 n err errors) s = .next (s.modNet n (fun z => { z with
        loopDepth := 0, loopResult := word st z.loopDepth err errors }))))) ∧
  (∀ (s : State) (l : Nat),
    let word (st depth err errors : Nat) := BitVec.ofNat 32 (st + 4 * depth + 256 * err + 65536 * min errors 65535)
    let mayTwin := parishState s 1 ≠ 2 ∧ (s.test.prodMode = true ∨ parishState s 1 = 1 ∨ parishState s 1 = 4)
    let linkLoop := tget 0 s.test.ringLoop l
    let reach := ∀ d, d < usedDies s → (s.dieAt d).lost = false →
      reachesLead { s with test := { s.test with ringLoop := tput s.test.ringLoop l 1 } } d = true
    (∀ i depth, (i, depth) ∈ [(.twinLoopNear, 1), (.twinLoopFar, 2)] →
      (s.twin.loopDepth ≠ 0 → exec i s = .next (answered s 0x0402)) ∧
      (s.twin.loopDepth = 0 → ¬mayTwin → exec i s = .next (answered s 0x0403)) ∧
      (s.twin.loopDepth = 0 → mayTwin → exec i s = .next (answered { s with twin := { s.twin with
        loopDepth := depth, loopResult := word 1 depth 0 0 } } 0))) ∧
    (l < s.dies →
      (linkLoop ≠ 0 → exec (.ringLoop l) s = .next (answered s 0x0402)) ∧
      (linkLoop = 0 → s.test.prodMode = false ∨ (∃ e ∈ s.test.ringLoop, e.2 ≠ 0) ∨ ¬reach →
        exec (.ringLoop l) s = .next (answered s 0x0403)) ∧
      (linkLoop = 0 → s.test.prodMode = true → (∀ e ∈ s.test.ringLoop, e.2 = 0) → reach → exec (.ringLoop l) s =
        .next (answered { s with test := { s.test with
          ringLoop := tput s.test.ringLoop l 1, ringResult := tput s.test.ringResult l (word 1 1 0 0).toNat } } 0))) ∧
    (∀ err errors, err ≤ 6 →
      let st := if err = 0 ∧ errors = 0 then 2 else 3
      (s.twin.loopDepth ≠ 0 → s.twin.loopDepth ≤ 2 → exec (.loopbackDone 2 l err errors) s = .next { s with
        twin := { s.twin with loopDepth := 0, loopResult := word st s.twin.loopDepth err errors } }) ∧
      (l < s.dies → linkLoop = 1 → exec (.loopbackDone 3 l err errors) s = .next { s with test := { s.test with
        ringLoop := tput s.test.ringLoop l 0, ringResult := tput s.test.ringResult l (word st 1 err errors).toNat } })) ∧
    (∀ v, exec (.selfTest v) s = .next (
      if 1 < v then answered s 0x0302 else if s.test.prodMode = false then answered s 0x0403
      else answered (if v = 1 then { s with test := { s.test with selfRun := 1 } } else s) 0)) ∧
    (∀ failed, s.test.selfRun = 1 → ∃ t, exec (.selfTestDone failed) s = .next t ∧
      t.test = { s.test with selfRun := if failed % 2 ^ usedDies s = 0 then 2 else 3 } ∧ (∀ k, (t.streamAt k).ring = []) ∧
      (∀ d, d < usedDies s → t.dieAt d = { s.dieAt d with selfFailed := bitOf failed d }) ∧ Changes [.die, .stream, .test] s t))

/-- R312, R316, R317, R327: how requests arrive. -/
def Obligations.RequestsArriveWaitOrAreRejected : Prop :=
  (∀ (s : State) (f : HostFrame), ServedAtOnce s f → f.parish < 16 →
    (PlainFrame f → f.session = 0 → f.objCount = 0 → f.payload.length ≤ 64 → ∃ t, exec (.adpPing f) s = .next t ∧
      Responded s t f 1 0 f.payload ∧ t.power = (arrived s f).power ∧ Changes [.netPorts, .power, .timers] s t) ∧
    (∀ op, op = 5 ∨ op = 8 ∨ (12 ≤ op ∧ op < 16) → ∃ t, exec (.adpHubOpcodeReceived op f) s = .next t ∧
      Responded s t f 9 f.session [0x02, 0x01, 0, 0] ∧ t.power = (arrived s f).power ∧ Changes [.netPorts, .power, .timers] s t)) ∧
  (∀ (s : State) (f : HostFrame), f.port < 3 → portLive s f.port = true → s.net.waiting ≠ [] →
    let u := received s f.port
    let starts (b : Byte) := { f with payload := b :: f.payload.drop 1 }
    ∀ i op g, (i, op, g) ∈ [(.adpPing f, 0, f), (.adpRead f, 1, f), (.adpWrite f, 2, f), (.adpReadBlock f, 3, f), (.adpWriteBlock f, 4, f),
        (.adpStreamRequest f, 7, f), (.adpWakeNotice f, 10, f), (.sessionOpen f, 11, starts 1), (.sessionConfirm f, 11, starts 2),
        (.sessionClose f, 11, starts 3), (.sleepVoteSleep f, 9, starts 1), (.sleepVoteStay f, 9, starts 0)] →
      exec i s = .next { u with net := if 32 ≤ s.net.waiting.length then { u.net with rxBusy := u.net.rxBusy + 1 }
        else { u.net with waiting := u.net.waiting ++ [{ op := op, frame := g }] } }) ∧
  (∀ (s : State) (f : HostFrame) (rest : List Request), s.net.waiting = { op := 0, frame := f } :: rest → s.dictReady = true →
    s.power.state < 2 → s.fw.boot = false → PlainFrame f → f.port < 3 → f.session = 0 → f.objCount = 0 → f.payload.length ≤ 64 →
    ∃ t, exec .stewardServeRequest s = .next t ∧ Responded s t f 1 0 f.payload ∧ t.net = { s.net with waiting := rest } ∧
      t.power.state = 0 ∧ Changes [.net, .netPorts, .power, .timers] s t) ∧
  (∀ (s : State) (n : Nat) (raw : List Byte), n < 3 → portLive s n = true →
    let u := s.modNet n (fun x => { x with rxFrames := x.rxFrames + 1 })
    let mine := beNat (raw.take 6) = s.mac ∨ beNat (raw.take 6) = adpMcast s ∨ beNat (raw.take 6) = 2 ^ 48 - 1
    let ours := mine ∧ beNat ((raw.drop 12).take 2) = cfg s 0x0800 2 0x88B5
    let b := raw.drop 14
    exec (.adpFrameReject n false raw) s = .next (s.modNet n (fun x => { x with rxFcs := x.rxFcs + 1 })) ∧
    (¬ours → exec (.adpFrameReject n true raw) s = .next { u with net := { u.net with rxOther := u.net.rxOther + 1 } }) ∧
    (ours → b ≠ [] → getLe b 0 1 / 16 ≠ 1 → exec (.adpFrameReject n true raw) s =
      .next { received s n with net := { s.net with versionFails := s.net.versionFails + 1 } }) ∧
    (ours → 24 ≤ b.length → getLe b 0 1 / 16 = 1 → crc16 (b.take 12 ++ [nth 0 b 14, nth 0 b 15]) ≠ getLe b 12 2 →
      exec (.adpFrameReject n true raw) s =
        .next { received s n with net := { s.net with hdrCrcFails := s.net.hdrCrcFails + 1 } }))

/-- R298, R301, R322, R323, R325, R326, R333: sessions and the requests that need one. -/
def Obligations.SessionsOpenConfirmAndClose : Prop :=
  ∀ (s : State) (f : HostFrame), ServedAtOnce s f → f.parish < 16 → f.objCount = 0 →
    let p := f.parish
    let dest (x : Session) (y : Parish) := if x.port < 3 then some (x.src, x.port) else y.destSrc
    let opened (key : Option (List Byte)) (y : Session) : Session :=
      { y with isOpen := true, key := key, lastAt := s.time.elapsed, refusedRun := 0
               lastTrans := if key.isSome then (f.transId : Int) else y.lastTrans }
    (PlainFrame f → f.session = 0 → f.payload.length = 12 → getLe f.payload 1 3 = 0 → (s.parAt p).openBlocked = false →
      s.sessions.length < 16 → (s.sessions.filter (fun x => x.parish == p)).length < 4 → ∃ t n nonce, exec (.sessionOpen f) s = .next t ∧
        1 ≤ n ∧ n ≤ 16 ∧ (∀ x ∈ s.sessions, x.num ≠ n) ∧ (∀ m, 1 ≤ m → m < n → ∃ x ∈ s.sessions, x.num = m) ∧ nonce.length = 8 ∧
        t.sessions = s.sessions ++ [{
          num := n, parish := p, nonceH := (f.payload.drop 4).take 8, nonceD := nonce, src := f.src, port := f.port
          lastAt := s.time.elapsed }] ∧
        Responded s t f 1 n ([0, 0, BitVec.ofNat 8 n, 0] ++ nonce) ∧ Changes [.netPorts, .sessions, .power, .timers, .free] s t) ∧
    (∀ x, f.payload.length = 12 → getLe f.payload 1 3 = 0 → getLe f.payload 4 8 = 0 →
      findSession s f.session = some x → x.parish = p → x.isOpen = false →
      (PlainFrame f → (s.parAt p).key = none → ∃ t, exec (.sessionConfirm f) s = .next t ∧
        t.sessions = s.sessions.map (fun y => if y.num = f.session then opened none y else y) ∧
        t.parAt p = { s.parAt p with destSrc := dest x (s.parAt p) } ∧ Responded s t f 1 f.session [0, 0, 0, 0] ∧
        Changes [.netPorts, .sessions, .parish, .power, .timers] s t) ∧
      (∀ kp, f.flags = 2 → (s.parAt p).key = some kp →
        let ks := sessionKey kp p f.session x.nonceH x.nonceD
        f.tag = frameTag ks 11 { f with payload := 2 :: f.payload.drop 1 } → ∃ t, exec (.sessionConfirm f) s = .next t ∧
          t.sessions = s.sessions.map (fun y => if y.num = f.session then opened (some ks) y else y) ∧
          t.parAt p = { s.parAt p with destSrc := dest x (s.parAt p) } ∧ Changes [.netPorts, .sessions, .parish, .power, .timers] s t)) ∧
    (∀ x, PlainFrame f → InSession s f x → secured s p = false →
      (f.payload.length = 12 → getLe f.payload 1 3 = 0 → getLe f.payload 4 8 = 0 → s.net.blocks = [] →
        ∃ t, exec (.sessionClose f) s = .next t ∧ t.sessions = s.sessions.filter (fun y => y.num != f.session) ∧
          Responded s t f 1 f.session [0, 0, 0, 0] ∧
          Changes [.net, .netPorts, .sessions, .die, .stream, .parish, .power, .timers, .fw] s t) ∧
      (f.payload = [] → ∃ t, exec (.adpStreamRequest f) s = .next t ∧ (t.parAt p).deliverAll = true ∧
        Responded s t f 1 f.session [] ∧ Changes [.net, .netPorts, .sessions, .die, .stream, .parish, .power, .timers] s t) ∧
      (f.payload = [] → ∃ t, exec (.adpWakeNotice f) s = .next t ∧ (t.parAt p).hostAsleep = false ∧
        (t.parAt p).wake.pending = false ∧ (t.parAt p).wake.reasons = 0 ∧ Responded s t f 1 f.session [0, 0, 0, 0] ∧
        Changes [.net, .netPorts, .sessions, .die, .stream, .parish, .power, .timers] s t)) ∧
    (∀ x a b, PlainFrame { f with objCount := 1 } → InSession s f x → secured s p = false →
      let k := a.toNat + 256 * b.toNat
      k < usedDies s * 512 → streamOwner s k = some p → streamDelivery s k = 1 ∨ streamDelivery s k = 2 →
      ∃ t, exec (.adpStreamRequest { f with objCount := 1, payload := [a, b, 0, 0] }) s = .next t ∧
        (t.parAt p).pulls = addOnce (s.parAt p).pulls k ∧ (t.parAt p).deliverAll = (s.parAt p).deliverAll ∧
        Changes [.net, .netPorts, .sessions, .die, .stream, .parish, .power, .timers] s t) ∧
    (∀ a target, PlainFrame f → f.session = 0 → secured s p = false → target = 1 ∨ target = 2 → f.payload = [a, target, 0, 0] →
      (∃ t, exec (.sleepVoteSleep f) s = .next t ∧
        t.parAt p = { s.parAt p with hostAsleep := true, voteTarget := target.toNat } ∧ Responded s t f 1 0 [0, 0, 0, 0] ∧
        Changes [.netPorts, .parish, .power, .timers] s t) ∧
      (∃ t, exec (.sleepVoteStay f) s = .next t ∧ (t.parAt p).hostAsleep = false ∧ Responded s t f 1 0 [0, 0, 0, 0] ∧
        Changes [.net, .netPorts, .die, .stream, .parish, .power, .timers] s t))

/-- R305, R306, R318 to R321, R362: dictionary requests, block transfers and firmware. -/
def Obligations.ReadsWritesBlocksAndFirmware : Prop :=
  (∀ (s : State) (f : HostFrame), ServedAtOnce s f → PlainFrame f → f.session = 0 → secured s f.parish = false →
    let u := arrived s f
    let w (op : Nat) : Who := { parish := f.parish, session := 0, via := f.port, tagged := false, op := op }
    (∀ a b sub, f.objCount = 1 → f.payload = [a, b, sub, 0] →
      let i := nativeIndex u (a.toNat + 256 * b.toNat)
      let code := readCode u (w 1) i sub.toNat
      let v := if code = 0 then readValue u i sub.toNat else []
      let data := v ++ List.replicate ((4 - v.length % 4) % 4) 0
      4 + data.length ≤ 1476 → ∃ t, exec (.adpRead f) s = .next t ∧
        Responded s t f (if code = 0 then 1 else 9) 0 (leBytes 2 code ++ leBytes 2 v.length ++ data) ∧
        (code ≠ 0x0202 → Changes [.netPorts, .die, .power, .timers] s t ∧ ∀ d,
          keyDie u (256 * i + sub.toNat) = none ∨ keyDie u (256 * i + sub.toNat) = some 0 → t.dieAt d = s.dieAt d)) ∧
    (∀ e, f.objCount = 1 → f.payload.length ≤ 1476 → parseWrites 1 f.payload = some [e] → e.1 ≠ 0xF000 →
      let r := writeEntries u (w 2) [e]
      let code := worstCode r.2
      r.1.power.state ≠ 5 → ∃ t, exec (.adpWrite f) s = .next t ∧ Changes [.netPorts] r.1 t ∧
        (r.1.netPorts = u.netPorts → Responded s t f (if code = 0 then 1 else 9) 0 (leBytes 2 code ++ [0, 0]))) ∧
    (∀ a b sub o0 o1 o2 o3 n0 n1, f.objCount = 1 → f.payload = [a, b, sub, 0, o0, o1, o2, o3, n0, n1, 0, 0] →
      let i := nativeIndex u (a.toNat + 256 * b.toNat)
      let v := readValue u i sub.toNat
      let off := leNat [o0, o1, o2, o3]
      1 ≤ leNat [n0, n1] → leNat [n0, n1] ≤ 1464 → readCode u (w 3) i sub.toNat = 0 →
      ∃ t, exec (.adpReadBlock f) s = .next t ∧ Changes [.netPorts, .die, .power, .timers, .gens, .seen] s t ∧
        Responded s t f 1 0 (leBytes 2 0 ++ leBytes 2 (tget 0 t.gens (256 * i + sub.toNat)) ++ leBytes 4 v.length ++ leBytes 4 off
          ++ (v.drop off).take (leNat [n0, n1]))) ∧
    (∀ (head data : List Byte), f.objCount = 1 → f.payload = head ++ data → head.length = 16 → getLe head 3 1 = 0 →
      getLe head 14 2 = 0 → getLe head 12 2 = data.length → 1 ≤ data.length → data.length ≤ 1460 → getLe head 4 4 = 0 →
      data.length < getLe head 8 4 → s.net.blocks = [] → segmentCode u (w 4) f = 0 → nativeIndex u (getLe head 0 2) ≠ 0xF800 →
      ∃ t, exec (.adpWriteBlock f) s = .next t ∧ Responded s t f 1 0 [0, 0, 0, 0] ∧ Changes [.net, .netPorts, .power, .timers] s t ∧
        t.net = { s.net with blocks := [{
          session := 0, parish := f.parish, port := f.port, src := f.src, index := nativeIndex u (getLe head 0 2), sub := getLe head 2 1
          total := getLe head 8 4, data := data, transIds := [f.transId], lastAt := s.time.elapsed }] }) ∧
    (∀ b, f.objCount = 0 → f.payload.length = 6 → getLe f.payload 4 2 = 0 → s.net.blocks = [b] → b.index ≠ 0xF800 →
      let mine := b.session = 0 ∧ b.parish = f.parish ∧ b.port < 3 ∧ b.src = f.src ∧ getLe f.payload 0 4 ∈ b.transIds
      ∃ t, exec (.adpAbort f) s = .next t ∧ Changes [.net, .netPorts, .power, .timers] s t ∧
        (mine → t.net.blocks = [] ∧ Responded s t f 1 0 [0, 0, 0, 0]) ∧
        (¬mine → t.net.blocks = [b] ∧ Responded s t f 9 0 [0x04, 0x01, 0, 0]))) ∧
  (∀ (s : State),
    (∀ b, s.net.blocks = [b] → b.lastAt + 250000 * cfg s 0x0800 5 1000 ≤ s.time.elapsed →
      ∃ t, exec (.blockTimeoutExpiry 0) s = .next t ∧ t.net = { s.net with blocks := [] } ∧
        t.fw = (if b.index = 0xF800 then { s.fw with state := 0 } else s.fw) ∧ Changes [.net, .netPorts, .fw] s t ∧
        (b.port < 3 → ∃ g, (t.netAt (servingPort s b.port)).waiting.getLast? = some g ∧ g.op = 6 ∧ g.dst = b.src ∧ g.parish = b.parish ∧
          g.session = b.session ∧ g.payload = leBytes 4 (b.transIds.head?.getD 0) ++ [0x06, 0x04])) ∧
    (∀ session image, s.dictReady = true ∨ s.fw.boot = true → inRanges s 0 0xF800 = true → image.length ≤ 524288 →
      exec (.fwImageWrite 0 session image) s = .next (answered { s with fw := { s.fw with image := image, state := 2 } } 0)) ∧
    (s.fw.state = 2 →
      let k := 1 - s.fw.slot
      let good := Config.signatureOk s.fw.image = true ∧ s.fw.security ≤ Config.imageSecurity s.fw.image
      (¬good → exec .fwCheckDone s = .next { s with fw := { s.fw with state := 4 } }) ∧
      (good → ∃ t, exec .fwCheckDone s = .next t ∧ t.fw.state = 3 ∧ bitOf t.fw.badSlots k = false ∧ t.fw.slot = s.fw.slot ∧
        tget 0 t.fw.slotVersion k = Config.imageVersion s.fw.image ∧ tget 0 t.fw.slotSecurity k = Config.imageSecurity s.fw.image ∧
        Changes [.fw] s t)) ∧
    (∀ session value, s.dictReady = true ∨ s.fw.boot = true → inRanges s 0 0xF800 = true → value ≤ 1 →
      exec (.fwSwitch 0 session value) s = .next (if s.fw.state = 3 then answered { s with fw := { s.fw with
          nextSlot := if value = 1 then some (1 - s.fw.slot) else s.fw.nextSlot } } 0
        else answered s 0x0403)))

/-- R261 to R263, R268, R269: the tally channels. R271, R272, R277, R278, R281, R282: captures and the routing matrix. -/
def Obligations.TallyChannelsAndTheMatrix : Prop :=
  ((∀ (s : State) (k v : Nat) (i : Instr), k < usedDies s * 32 → tallyLive s k = false → 0 < v → v < 2 ^ 32 →
    i ∈ [.tallyStart k, .tallyStop k, .tallyReset k, .topWrite k v, .cmpWrite k v] → exec i s = .next (answered s 0x0401)) ∧
  ∀ (s : State) (k : Nat), k < usedDies s * 32 → tallyLive s k = true →
    let x := s.tallyAt k
    let becomes (i : Instr) (y : Tally) := ∃ t, exec i s = .next t ∧ t.tallyAt k = y ∧ t.net.lastStatus = 0 ∧
      (∀ j, j ≠ k → t.tallyAt j = s.tallyAt j) ∧ Changes [.net, .tally] s t
    let limit (v : Nat) := if x.widthCode = 1 then min v 65535 else v
    let held (y : Tally) : Bool := y.clk == 0 && (s.dieAt (k / 32)).onFrc
    let compared (y : Tally) : Tally := if y.state = 2 ∨ held y = true ∨ decide (y.count < y.cmpAct) = y.cmpOut then y
      else { y with cmpOut := decide (y.count < y.cmpAct), outStamp := s.nowStamp }
    let start (y : Tally) : Tally := if y.state = 1 then y
      else if y.state = 2 then compared { y with state := 1 }
      else compared { y with state := 1, down := y.dir == 2 && bitOf y.cfg 11, count := y.phase % 2 ^ 32 }
    let stop (y : Tally) : Tally := if y.state = 1 then { y with state := 2, tickDue := 0 } else y
    let copied (y : Tally) : Tally := { y with topAct := y.top, cmpAct := y.cmp, copyDue := false }
    let reset (y : Tally) : Tally :=
      if y.state = 1 then compared { copied y with down := false, count := if y.dir = 1 then limit y.top % 2 ^ 32 else 0 }
      else if y.state = 2 then compared { copied y with state := 0 } else y
    (∀ v, v = 0 ∨ 2 ^ 32 ≤ v → exec (.topWrite k v) s = .next (answered s 0x0302)) ∧
    (∀ v, 2 ^ 32 ≤ v → exec (.cmpWrite k v) s = .next (answered s 0x0302)) ∧
    (x.widthCode = 1 ∨ x.widthCode = 2 → x.stopped = false →
      becomes (.tallyStart k) (start x) ∧ becomes (.tallyStop k) (stop x) ∧ becomes (.tallyReset k) (reset x) ∧
      (x.link.contains 4 = false → x.link.contains 3 = true → ∃ t, exec (.tallyLinkAction k) s = .next t ∧
        t.tallyAt k = start { x with link := [] } ∧ (∀ j, j ≠ k → t.tallyAt j = s.tallyAt j) ∧ Changes [.tally] s t) ∧
      (∀ v, v ≠ 0 → v < 2 ^ 32 → becomes (.topWrite k v) (if x.state = 1 then { x with top := v }
        else compared { x with top := v, topAct := v })) ∧
      (∀ v, v < 2 ^ 32 → k % 2 = 0 ∨ (s.tallyAt (k - 1)).wide = false → becomes (.cmpWrite k v) (if x.state = 1 then { x with cmp := v }
        else compared { x with cmp := v, cmpAct := v })) ∧
      (x.state = 1 → x.copyDue = false → x.clk ≠ 2 → held x = false → (x.clk = 1 → x.tickDue ≠ 0) → field x.cfg 19 14 = 0 → x.count < 2 ^ 32 →
        x.topAct < 2 ^ 32 → x.top < 2 ^ 32 →
        let top := limit x.topAct
        let falls := (x.down = true ∧ x.count ≠ 0) ∨ (x.down = false ∧ top ≤ x.count)
        let wrap := if x.dir = 0 then top ≤ x.count else if x.dir = 1 then x.count = 0 else falls ∧ x.count ≤ 1
        ∃ t, exec (.tallyTick k) s = .next t ∧ (∀ j, j ≠ k → t.tallyAt j = s.tallyAt j) ∧ Changes [.tally] s t ∧
          (t.tallyAt k).state = 1 ∧
          (x.dir = 0 → (t.tallyAt k).count = if top ≤ x.count then 0 else x.count + 1) ∧
          (x.dir = 1 → (t.tallyAt k).count = if x.count = 0 then limit x.top else x.count - 1) ∧
          (2 ≤ x.dir → x.count + 1 < 2 ^ 32 → (falls → (t.tallyAt k).count = x.count - 1) ∧ (¬falls → (t.tallyAt k).count = x.count + 1)) ∧
          (wrap → (t.tallyAt k).topAct = x.top ∧ (t.tallyAt k).cmpAct = x.cmp) ∧
          (¬wrap → (t.tallyAt k).topAct = x.topAct ∧ (t.tallyAt k).cmpAct = x.cmpAct) ∧
          (t.tallyAt k).cmpOut = decide ((t.tallyAt k).count < (t.tallyAt k).cmpAct))) ∧
    (∀ u mask, k = 4 * u → (∀ c, c < 4 → (s.tallyAt (k + c)).widthCode ≠ 3 ∧ (s.tallyAt (k + c)).stopped = false) →
      (∃ t, exec (.unitStart u mask) s = .next t ∧ t.net.lastStatus = 0 ∧ Changes [.net, .tally] s t ∧
        ∀ j, t.tallyAt j = if k ≤ j ∧ j < k + 4 ∧ bitOf mask (j - k) = true ∧ (s.tallyAt j).widthCode ≠ 0 then start (s.tallyAt j)
          else s.tallyAt j) ∧
      (∃ t, exec (.unitReset u mask) s = .next t ∧ t.net.lastStatus = 0 ∧ Changes [.net, .tally] s t ∧
        (∀ j, j < k ∨ k + 4 ≤ j ∨ bitOf mask (j - k) = false → t.tallyAt j = s.tallyAt j) ∧
        (∀ c, c < 4 → bitOf mask c = true → (s.tallyAt (k + c)).widthCode = 2 → t.tallyAt (k + c) = reset (s.tallyAt (k + c)))))) ∧
  ((∀ (s : State) (k i p : Nat) (rising : Bool), k < usedDies s * 32 → tallyLive s k = true →
    let x := s.tallyAt k
    let pin := s.portAt (k / 32 * 12 + i / 4)
    let stamp := tget 0 pin.edgeStamp (edgeKey (i % 4) rising)
    let mode := parStateOn s p (k / 32)
    let mark := edgeMark s k
    let others (t : State) := (∀ j, j ≠ k → t.tallyAt j = s.tallyAt j) ∧ Changes [.die, .stream, .tally, .parish, .reeve, .timers] s t
    let selected := bitOf x.cfg (if rising then 20 else 21) = true
    x.widthCode = 1 ∨ x.widthCode = 2 → x.capSrc = 4096 + i → i < 4096 → x.edgeSeen ≠ mark →
    pinHeld s (k / 32 * 12 + i / 4) (i % 4) rising (field x.cfg 25 22 + 1) = true → tallyOwner s (k / 4) = some p →
    (selected → x.clk = 1 ∨ mode = 2 →
      (x.prescCnt + 1 < x.capPresc → ∃ t, exec (.tallyCapture k rising) s = .next t ∧ others t ∧
        t.tallyAt k = { x with edgeSeen := mark, prescCnt := x.prescCnt + 1 }) ∧
      (x.clk = 1 → x.capPresc ≤ x.prescCnt + 1 → ∃ t, exec (.tallyCapture k rising) s = .next t ∧ others t ∧
        t.tallyAt k = { x with edgeSeen := mark, prescCnt := 0, tickDue := if x.state = 1 then x.tickDue + 1 else x.tickDue }) ∧
      (x.clk ≠ 1 → x.capPresc ≤ x.prescCnt + 1 → bitOf x.cfg 26 = false → ∃ t, exec (.tallyCapture k rising) s = .next t ∧ others t ∧
        t.tallyAt k = { x with
          edgeSeen := mark, prescCnt := 0, capB := x.capA, capA := x.count, capStamp := stamp, captures := x.captures + 1
          pulse := (t.tallyAt k).pulse })) ∧
    (x.clk ≠ 1 → mode = 0 ∨ mode = 1 ∨ mode = 3 →
      (rising = true → ∃ t, exec (.tallyPairedRise k) s = .next t ∧ others t ∧
        t.tallyAt k = { x with edgeSeen := mark, capA := x.count, widthCnt := some 0, riseStamp := stamp }) ∧
      (∀ w, rising = false → x.widthCnt = some w → ∃ t, exec (.tallyPairedFall k) s = .next t ∧ others t ∧
        t.tallyAt k = { x with
          edgeSeen := mark, capB := x.count, width := w, widthCnt := none, capStamp := x.riseStamp, captures := x.captures + 1
          pulse := (t.tallyAt k).pulse }))) ∧
  (∀ (s : State) (d r : Nat) (level : Bool), d < usedDies s → r < 80 → (s.dieAt d).logicOn = true → (s.dieAt d).lost = false →
    (s.rowAt (256 * d + r)).level ≠ level → rowSource s d r level = level → rowFiltered s d r level = true →
    ∃ t, exec (.matrixRowChange d r level) s = .next t ∧ (t.rowAt (256 * d + r)).level = level ∧
      (level = true → (t.rowAt (256 * d + r)).stamp = (rowStamp s d r).getD 0) ∧
      (∀ j, j ≠ 256 * d + r → t.rowAt j = s.rowAt j) ∧
      (∀ c, c < 64 →
        let x := s.colAt (256 * d + c)
        let y := t.colAt (256 * d + c)
        (bitOf x.rows r = false → y = x) ∧
        (bitOf x.rows r = true → x.failed = false →
          y.level = (List.range 80).any (fun j => bitOf x.rows j && (t.rowAt (256 * d + j)).level) ∧
          y.rises = if x.level = false ∧ y.level = true then x.rises + 1 else x.rises)) ∧
      Changes [.die, .port, .engine, .stream, .rule, .tally, .row, .col, .reeve] s t) ∧
  (∀ (s : State) (d line e c : Nat) (rest : List (Nat × Nat)), d < usedDies s → line < 16 → lineColumns s line = (e, c) :: rest →
    (s.dieAt d).lost = false → (s.dieAt e).lost = true ∨ (s.dieAt e).logicOn = true → bitOf (s.dieAt d).crossFail line = false → ∃ t, exec (.crossDieLineFault d line true) s = .next t ∧
      bitOf (t.dieAt d).crossFail line = true ∧ (t.dieAt d).crossFaults = counted 65535 (s.dieAt d).crossFaults ∧
      (t.rowAt (256 * d + 64 + line)).level = bitOf (s.colAt (256 * e + c)).dest 4 ∧ FaultTold s t d 0x0C 5 line 0 ∧
      SafeTaken s t (0x0C, 5, d, line) ∧ Changes [.die, .port, .engine, .stream, .tally, .row, .col, .parish, .reeve, .timers] s t))

/-- R363, R366, R367, R374, R376, R382, R477: the safety outputs and their monitors. -/
def Obligations.SafetyOutputsAreReleasedAndRequested : Prop :=
  ∀ (s : State),
    let auto := cfg s 0xD000 7 0 = 1
    let frame (t : State) := Changes [.net, .die, .stream, .parish, .reeve, .timers] s t
    (∀ v, v < 65536 → auto → exec (.soRelease v) s = .next (answered s 0)) ∧
    (∀ v, v < 65536 → ¬auto → ∃ t, exec (.soRelease v) s = .next t ∧ t.net.lastStatus = 0 ∧ OutputsFollow t ∧ frame t ∧
      ∀ d o, d < usedDies s → o < 2 → bitOf v (2 * d + o) = true → soRequested s d o = false → outputsHeld s = false →
        bitOf (t.dieAt d).soReleased o = true ∧ bitOf (t.dieAt d).curOff o = false) ∧
    (∀ b, exec (if b then .twtripInRelease else .twtripInTrip) s = .next (soRefresh { s with reeve := { s.reeve with twtripIn := b } }) ∧
      ∃ t, exec (if b then .twtripInRelease else .twtripInTrip) s = .next t ∧ t.reeve.twtripIn = b ∧ OutputsFollow t ∧ frame t) ∧
    (∀ d, d < usedDies s →
      let x := s.dieAt d
      let awake := x.logicOn = true ∧ x.lost = false
      (∀ detail measured, awake → 1 ≤ detail → detail ≤ 6 → ∃ t, exec (.clockMonitorFault d detail measured) s = .next t ∧
        FaultTold s t d 5 detail 0 0 ∧ SafeTaken s t (5, detail, d, 0) ∧ frame t) ∧
      (∀ detail measured, awake → 1 ≤ detail → detail ≤ 5 → ∃ t, exec (.supplyMonitorFault d detail measured) s = .next t ∧
        FaultTold s t d 6 detail 0 0 ∧ SafeTaken s t (6, detail, d, 0) ∧ frame t) ∧
      (∀ cls detail, cls = 5 ∨ cls = 6 → exec (.monitorReturnToBand d cls detail) s = .next { s with
        reeve := { s.reeve with causes := s.reeve.causes.filter (fun k => k != (cls, detail, d, 0)) } }) ∧
      (∀ o, o < 2 →
        (auto → decided s 1 ≠ 3 → thas x.soFree o = true → tget 0 x.soFree o + 250000 * cfg s 0xD000 8 500 ≤ s.time.elapsed →
          ∃ t, exec (.restartDelayExpiry d o) s = .next t ∧ OutputsFollow t ∧ frame t ∧
          (soRequested s d o = false → outputsHeld s = false → bitOf (t.dieAt d).soReleased o = true)) ∧
        (∀ high, (∀ p, x.test = some p → p.output ≠ o ∨ p.ended = true) → high ≠ bitOf x.soOut o → tget 0 x.soAt o + 25000 < s.time.elapsed →
          ∃ t, exec (.outputReadbackFault d o high) s = .next t ∧ bitOf (t.dieAt d).soPin o = high ∧
            FaultTold s t d 0x0A (if high then 1 else 2) (2 * d + o) 0 ∧ frame t ∧
            (high = true → SafeTaken s t (0x0A, 1, d, 2 * d + o))) ∧
        (bitOf x.soOut o = true → tget 0 x.soAt o + 250000 < s.time.elapsed → ∃ t, exec (.soCurrentLimitExpiry d o) s = .next t ∧ bitOf (t.dieAt d).soOut o = false ∧
          bitOf (t.dieAt d).curOff o = true ∧ bitOf (t.dieAt d).curHold o = true ∧ FaultTold s t d 0x0A 2 (2 * d + o) 0 ∧ frame t) ∧
        (bitOf x.curHold o = true → tget 0 x.curAt o + 2500000 ≤ s.time.elapsed → ∃ t, exec (.soCurrentLimitHoldoffEnd d o) s = .next t ∧ (t.dieAt d).curHold = clrBit x.curHold o ∧ OutputsFollow t ∧ frame t)))

/-- R375, R378, R382, R385: trip-path tests, safety pairs and the end of a cause. -/
def Obligations.TripTestsPairsAndRecovery : Prop :=
  (∀ (s : State) (d : Nat), d < usedDies s →
    let x := s.dieAt d
    let frame (t : State) := Changes [.die, .stream, .parish, .reeve, .timers, .free] s t
    let st := parishState s 1
    (∀ o, o < 2 → st = 1 ∨ st = 2 ∨ st = 3 → pulseDue s o = true → x.paused = false → s.power.opBusy = false → x.lost = false →
      x.logicOn = true → (∀ p, x.test = some p → p.ended = true) →
      ∃ t, exec (.tripTestPulseStart d o) s = .next t ∧
        (t.dieAt d).test = some { output := o, real := soRequested s d o || outputsHeld s, at_ := s.time.elapsed } ∧
        (t.dieAt d).roundOk = (if o = 0 then 0 else x.roundOk) ∧ bitOf (t.dieAt d).soOut o = false ∧ frame t) ∧
    (∀ p src, x.test = some p → p.output < 2 →
      let fails (i : Instr) (detail : Nat) := ∃ t, exec i s = .next t ∧ (t.dieAt d).testFails = counted 65535 x.testFails ∧
        FaultTold s t d 9 detail (2 * d + p.output) 0 ∧ frame t ∧ (detail ≠ 3 → SafeTaken s t (9, detail, d, 2 * d + p.output))
      let since (n : Nat) : Prop := p.at_ + n ≤ s.time.elapsed
      (p.ended = false →
        (since 50 → exec (.tripTestDeadline d 1 true src) s = .next (s.modDie d (fun y => { y with
          test := some { p with tapDone := true, tapsOk := true } })) ∧ fails (.tripTestDeadline d 1 false src) 1) ∧
        (since 250 → exec (.tripTestDeadline d 2 true src) s =
          .next (s.modDie d (fun y => { y with test := some { p with pinOk := true } }))) ∧
        (since 250 → p.real = false → soEnergise (s.modDie d (fun y => { y with test := none })) d p.output (soRequested s d p.output) = true →
          fails (.tripTestDeadline d 2 false src) 2) ∧
        (since 500 → ∃ t, exec (.tripTestPulseEnd d) s = .next t ∧ frame t ∧
          let off := bitOf (t.dieAt d).soOut p.output = false
          (¬off → p.tapsOk = true → p.pinOk = true → (t.dieAt d).test = some { p with ended := true, at_ := s.time.elapsed }) ∧
          (off ∨ p.tapsOk = false ∨ p.pinOk = false → (t.dieAt d).test = none) ∧
          (off → p.tapsOk = true → p.pinOk = true → setBit x.roundOk p.output = 3 →
            (t.dieAt d).roundPassed = true ∧ t.reeve.testRounds = s.reeve.testRounds + 1) ∧
          (p.tapsOk = false ∨ p.pinOk = false → (t.dieAt d).roundOk = x.roundOk ∧ t.reeve.testRounds = s.reeve.testRounds))) ∧
      (p.ended = true → since 2500 → fails (.tripTestDeadline d 3 false src) 3 ∧
        ∃ t, exec (.tripTestDeadline d 3 true src) s = .next t ∧ (t.dieAt d).test = none ∧ frame t ∧
          (t.dieAt d).roundOk = (if setBit x.roundOk p.output = 3 then 0 else setBit x.roundOk p.output) ∧
          (setBit x.roundOk p.output = 3 → (t.dieAt d).roundPassed = true ∧ t.reeve.testRounds = s.reeve.testRounds + 1))) ∧
    (∀ entry pr, x.active.pairs.find? (fun p => p.entry == entry) = some pr → x.pairDone.contains entry = false → x.logicOn = true → x.lost = false →
      let mine := tget none x.prevDigests entry
      let theirs := tget none (s.dieAt pr.die).prevDigests pr.partner
      let n := tget 0 x.pairAbsent entry + 1
      let fault (t : State) (detail : Nat) := (t.dieAt d).pairFaults = counted 65535 x.pairFaults ∧
        tget 0 (t.dieAt d).pairEqual entry = 0 ∧ FaultTold s t d 0x0B detail entry 1 ∧ SafeTaken s t (0x0B, detail, d, entry)
      ∃ t, exec (.pairDigestCompare d entry) s = .next t ∧ frame t ∧
        (∀ a, mine = some a → theirs = some a → tget 0 (t.dieAt d).pairAbsent entry = 0 ∧
          tget 0 (t.dieAt d).pairEqual entry = tget 0 x.pairEqual entry + 1) ∧
        (∀ a b, mine = some a → theirs = some b → a ≠ b → tget 0 (t.dieAt d).pairAbsent entry = 0 ∧ fault t 1) ∧
        (mine = none ∨ theirs = none → tget 0 (t.dieAt d).pairAbsent entry = n ∧ tget 0 (t.dieAt d).pairEqual entry = 0 ∧
          (cfg s 0xD000 0xA 0 < n → fault t 2)))) ∧
  (∀ (s : State), decided s 1 = 3 → recoveryHeld s = false → s.reeve.heldAt + 25000000 ≤ s.time.elapsed → ∃ t, exec .recoveryCauseCleared s = .next t ∧
    t.reeve = { s.reeve with clear100 := true, clearAt := s.time.elapsed } ∧ (t.parAt 1).cause = [] ∧ (∀ p, p ≠ 1 → t.parAt p = s.parAt p) ∧
    Changes [.parish, .reeve] s t)

/-- R388 to R392: the twin's words. -/
def Obligations.TwinWordsPairAndCompare : Prop :=
  (∀ (s : State) (w : TwinWord), twinLive s = true →
    let v := s.twin
    let frame (t : State) := Changes [.die, .stream, .parish, .reeve, .timers, .twin] s t
    let follows := w.wires < 4 ∧ ∀ n, v.rxSeq = some n → w.seq = (n + 1) % 65536
    let heard := { v with rxSeq := some (w.seq % 65536), heardAt := s.time.elapsed }
    let hit := w.digest = safetyDigest s ∧ w.code = cfg s 0xD800 2 0 ∧ w.states / 16 = s.dies ∧ w.serial ≠ s.serial
    (v.todo = [] → v.state = 0 → exec .twinWordSend s = .next s) ∧
    (∀ type, v.todo.head? = some type ∨ (v.todo = [] ∧ v.state = 2 ∧ type = 2) ∨ (v.todo = [] ∧ v.state ≠ 0 ∧ v.state ≠ 2 ∧ type = 1) →
      (∀ n, v.txAt = some n → n + 125000 ≤ s.time.elapsed) →
      ∃ b, exec .twinWordSend s = .next { s with twin := { v with
          lastSent := b ++ leBytes 2 (crc16 b), txSeq := v.txSeq + 1, txAt := some s.time.elapsed, todo := v.todo.drop 1 } } ∧ b.length = 24 ∧
        b.take 1 = [BitVec.ofNat 8 type] ∧ (b.drop 4).take 2 = leBytes 2 v.txSeq.toNat ∧ b.drop 16 = leBytes 8 s.serial) ∧
    exec .twinWordInvalid s = .next { s with twin := { v with wordsBad := v.wordsBad + 1 } } ∧
    (¬follows → ∀ i, i ∈ [Instr.twinHello w, .twinVerdict w, .twinDetach w, .twinRest w] →
      exec i s = .next { s with twin := { v with wordsBad := v.wordsBad + 1, rxSeq := some (w.seq % 65536) } }) ∧
    (follows → v.state = 1 →
      (hit → v.matched + 1 < 3 → exec (.twinHello w) s = .next { s with twin := { heard with
        partner := w.serial, matched := v.matched + 1 } }) ∧
      (hit → 3 ≤ v.matched + 1 → ∃ t, exec (.twinHello w) s = .next t ∧ frame t ∧ t.twin = { heard with
        partner := w.serial, matched := v.matched + 1, state := 2, reqRun := 0, wireRun := 0
        testPhase := if s.serial < w.serial then 0 else 1 }) ∧
      (¬hit → (∀ n, v.refusedAt = some n → n + 250000000 ≤ s.time.elapsed) → ∃ t, exec (.twinHello w) s = .next t ∧ frame t ∧
        t.twin = { heard with matched := 0, refusedAt := some s.time.elapsed } ∧ FaultTold s t 0 0x0F 4 0 0)) ∧
    (follows → v.state = 2 →
      let req := w.reqOff = ownReqOff s
      let wire := bitOf w.wires 0 = s.reeve.twtripIn
      (req → wire → exec (.twinVerdict w) s = .next { s with twin := { heard with reqRun := 0, wireRun := 0 } }) ∧
      (¬req → wire → v.reqRun = cfg s 0xD800 5 4 → ∃ t, exec (.twinVerdict w) s = .next t ∧ frame t ∧
        t.twin = { heard with reqRun := v.reqRun + 1, wireRun := 0, disagreements := v.disagreements + 1 } ∧
        FaultTold s t 0 0x0F 2 0 0 ∧ SafeTaken s t (0x0F, 2, 0, 0))) ∧
    (follows → (∃ t, exec (.twinDetach w) s = .next t ∧ t.twin.state = 0 ∧ t.twin.matched = 0 ∧ frame t) ∧
      (cfg s 0xD800 1 0 = 1 → ∃ t, exec (.twinRest w) s = .next t ∧ t.twin.state = 1 ∧ t.twin.matched = 0 ∧ frame t))) ∧
  (∀ (s : State),
    (s.twin.state = 2 → s.twin.heardAt + 375000 ≤ s.time.elapsed → ∃ t, exec .twinLost s = .next t ∧
      t.twin = { s.twin with
        state := 3, matched := 0, reqRun := 0, wireRun := 0, losses := s.twin.losses + 1, lostAt := s.time.elapsed, rxSeq := none } ∧
      FaultTold s t 0 0x0F 1 0 0 ∧ Changes [.die, .stream, .parish, .reeve, .timers, .twin] s t) ∧
    (s.twin.state = 3 → s.twin.lostAt + 250000000 * cfg s 0xD800 6 60 ≤ s.time.elapsed → ∃ t, exec .lostRqTimeExpiry s = .next t ∧
      bitOf t.reeve.rqReason 4 = true ∧ Changes [.die, .stream, .parish, .reeve, .timers] s t))

/-- R302, R303, R380, R384: retired engines, the latch and the arm. -/
def Obligations.EnginesAreRetiredAndTheLatchReset : Prop :=
  ∀ (s : State),
    (∀ e, ¬(e < usedDies s * 24 ∧ engOwner s e = some 1) → exec (.retireEngine e) s = .next (answered s 0x0302)) ∧
    (∀ e, e < usedDies s * 24 → engOwner s e = some 1 → ∃ t, exec (.retireEngine e) s = .next t ∧ t.net.lastStatus = 0 ∧
      (t.engAt e).state = 3 ∧ (t.engAt e).ctxs = [] ∧ (t.engAt e).running = none ∧ (t.engAt e).lines = 0 ∧
      (t.engAt e).prog = (s.engAt e).prog ∧ (t.engAt e).scratch = (s.engAt e).scratch ∧ (∀ j, j ≠ e → t.engAt j = s.engAt j) ∧
      bitOf t.reeve.rqReason 2 = true ∧ (decided s 1 = 2 → decided t 1 = 3) ∧
      Changes [.net, .die, .port, .engine, .stream, .parish, .reeve, .timers] s t) ∧
    (∀ v, v ≠ safetyDigest s → ∃ t, exec (.latchReset v) s = .next t ∧ t.net.lastStatus = 0x0603 ∧
      (t.parAt 1).violations = (s.parAt 1).violations + 1 ∧ t.reeve.latched = s.reeve.latched ∧
      Changes [.net, .die, .stream, .parish, .reeve, .timers] s t) ∧
    (s.reeve.latched = false ∨ recoveryHeld s = true → exec (.latchReset (safetyDigest s)) s = .next (answered s 0x0403)) ∧
    (s.reeve.latched = true → recoveryHeld s = false → ∃ t, exec (.latchReset (safetyDigest s)) s = .next t ∧
      t.net.lastStatus = 0 ∧ t.reeve.latched = false ∧ t.reeve.causes = [] ∧ t.reeve.firstKey = none ∧
      (decided s 1 = 3 → decided t 1 = 1) ∧ OutputsFollow t ∧ Changes [.net, .die, .stream, .parish, .reeve, .timers] s t) ∧
    (∀ session v tagged,
      let ours := ∃ x, findSession s session = some x ∧ session ≠ 0 ∧ x.isOpen = true ∧ x.parish = 1
      let bare := cfg s 0x2102 3 0 = 1 ∧ tagged = false
      (¬ours ∨ bare → ∃ t, exec (.armReqWrite session v tagged) s = .next t ∧
        t.net.lastStatus = (if ours then 0x0502 else 0x0504) ∧ (t.parAt 1).violations = (s.parAt 1).violations + 1 ∧
        (t.parAt 1).armed = (s.parAt 1).armed ∧ Changes [.net, .die, .stream, .parish, .reeve, .timers] s t) ∧
      (ours → ¬bare → exec (.armReqWrite session v tagged) s = .next (answered (s.modPar 1 (fun x => { x with
        armed := some (v % 2 ^ 32, session), armExpired := false, armAt := s.time.elapsed })) 0))) ∧
    (∀ a, (s.parAt 1).armed = some a → (s.parAt 1).armAt + 250000000 * cfg s 0x2102 8 10 ≤ s.time.elapsed →
      exec .armWindowExpiry s = .next (s.modPar 1 (fun x => { x with armed := none, armExpired := true })))

/-- R295, R311, R312, R325, R331, R332, R338 to R340: the network ports. -/
def Obligations.LinksFailOverAndFramesAreSent : Prop :=
  ∀ (s : State) (n : Nat), n < 3 →
    let x := s.netAt n
    let base := 0x0810 + 16 * n
    let up (m : Nat) := m < 3 ∧ cfg s (0x0810 + 16 * m) 1 1 = 1 ∧ (s.netAt m).link = true
    let back := cfg s base 0xB (if n = 0 then 1 else if n = 1 then 0 else 255)
    let only (t : State) := ∀ j, j ≠ n → t.netAt j = s.netAt j
    let rank (op : Nat) := if op = 8 then 1 else if op = 9 ∨ op = 10 ∨ op = 12 then 2 else if op = 5 ∨ op = 6 then 3
      else if op = 7 then 4 else 0
    (portLive s n = true → cfg s 0x0800 4 10 ≠ 0 → x.announceAt + 250000000 * cfg s 0x0800 4 10 ≤ s.time.elapsed →
      ∃ t g, exec (.announcePeriodExpiry n) s = .next t ∧ only t ∧ Changes [.netPorts] s t ∧
        t.netAt n = { x with waiting := x.waiting ++ [g], transCtr := x.transCtr + 1, announceAt := s.time.elapsed } ∧
        g.op = 12 ∧ g.payload.length = 32 ∧ g.payload.take 6 = beBytes 6 s.mac ∧ (g.payload.drop 16).take 8 = leBytes 8 s.serial) ∧
    (portLive s n = true → exec (.ethFrameOther n) s = .next { s.modNet n (fun y => { y with rxFrames := y.rxFrames + 1 }) with
      net := { s.net with rxOther := s.net.rxOther + 1 } }) ∧
    (n < 2 → cfg s base 3 0 = 1 →
      (portLive s n = true → exec (.plcaCycle n) s = .next (s.modNet n (fun y => { y with
        plcaActive := true, beacons := if cfg s base 4 1 = 0 then y.beacons + 1 else y.beacons }))) ∧
      (cfg s base 4 1 ≠ 0 → exec (.plcaInactive n) s = .next (s.modNet n (fun y => { y with plcaActive := false })))) ∧
    (∀ k, k < 8 → portLive s n = true → windowIsOpen s n k = true →
      let mine (f : Frame) : Bool := f.windowed && bitOf (field (windowWord s n k) 55 40) f.parish
      ∃ t, exec (.deliveryWindowOpen n k) s = .next t ∧ only t ∧ Changes [.netPorts, .stream] s t ∧
        t.netAt n = { x with mac := x.mac ++ x.waiting.filter mine, waiting := x.waiting.filter (fun f => !mine f) } ∧
        ∀ f ∈ x.waiting, mine f = true → ∀ key ∈ f.takes, ∀ r ∈ (t.streamAt key.1).ring,
          recKey r = key → r.delivered = true) ∧
    (portLive s n = true → x.remoteDue = false → readyFrames x = [] → exec (.transmitOpportunity n) s = .next s) ∧
    (portLive s n = true → x.remoteDue = false → readyFrames x ≠ [] → (∀ f ∈ readyFrames x, f.parish < 16) →
      ∃ t f, exec (.transmitOpportunity n) s = .next t ∧ f ∈ readyFrames x ∧ only t ∧ Changes [.ptp, .netPorts] s t ∧
        (∀ g ∈ readyFrames x, g.parish = f.parish → rank f.op ≤ rank g.op) ∧
        (f.windowed = true ∧ mayBegin s n f = false → (t.netAt n).slotEdge = x.slotEdge + 1 ∧ (t.netAt n).txFrames = x.txFrames ∧
          (t.netAt n).onWire = x.onWire) ∧
        (f.windowed = false ∨ mayBegin s n f = true → (t.netAt n).txFrames = x.txFrames + 1 ∧ (t.netAt n).slotEdge = x.slotEdge ∧
          (f.op ≠ 16 → (t.netAt n).onWire = some f) ∧ (f.op = 17 → ((t.ptpAt n).reqEgress).isSome = true))) ∧
    (x.link = true → ∃ t, exec (.linkDown n) s = .next t ∧ (t.netAt n).link = false ∧ (t.netAt n).linkDowns = x.linkDowns + 1 ∧
      (t.netAt n).onWire = none ∧ (t.netAt n).plcaActive = false ∧
      (t.netAt n).downAt = (if n < 2 then some s.time.elapsed else none) ∧ FaultTold s t 0 0x10 1 n 0 ∧
      (back ≠ n → up back → (t.netAt n).failedOver = some back ∧ (t.netAt n).waiting = [] ∧ (t.netAt n).mac = []) ∧
      Changes [.netPorts, .die, .stream, .parish, .reeve, .timers] s t) ∧
    (s.dictReady = true → s.power.state < 2 → cfg s base 1 1 = 1 → x.link = false → x.loopDepth = 0 → x.failedOver = none →
      (∀ a, x.downAt = some a → a + 250000000 ≤ s.time.elapsed) →
      ∃ t g h, exec (.linkUp n) s = .next t ∧ only t ∧ (t.netAt n).link = true ∧ (t.netAt n).upAt = s.time.elapsed ∧ g.op = 12 ∧
        (bitOf s.power.noticeOwed n = false → (t.netAt n).waiting = x.waiting ++ [g] ∧ t.power = s.power) ∧
        (bitOf s.power.noticeOwed n = true → h.op = 10 ∧ (t.netAt n).waiting = x.waiting ++ [g, h] ∧
          t.power = { s.power with noticeOwed := clrBit s.power.noticeOwed n }) ∧ Changes [.netPorts, .power] s t) ∧
    (x.failedOver.isSome = true → up n → cfg s base 0xC 5 ≠ 0 → x.upAt + 250000000 * cfg s base 0xC 5 ≤ s.time.elapsed →
      exec (.failback n) s = .next (s.modNet n (fun y => { y with failedOver := none }))) ∧
    (x.link = false → ¬up back →
      let old (f : Frame) : Bool := decide (f.since + 250000000 ≤ s.time.elapsed)
      exec (.txDiscardTimeout n) s = .next (s.modNet n (fun y => { y with
        txDiscards := y.txDiscards + BitVec.ofNat 32 ((y.waiting ++ y.mac).filter old).length
        waiting := y.waiting.filter (fun f => !old f), mac := y.mac.filter (fun f => !old f) })))

/-- R241 to R245, R322, R324, R334: the agreement, the crier and the batches. -/
def Obligations.VotesWakesAndBatches : Prop :=
  (∀ (s : State),
    let p := s.power
    let votes (q : Nat) := q < 16 ∧ bitOf (cfg s 0x0800 6 0) q = true
    let grace := 250000 * cfg s 0x0800 7 2
    (s.dictReady = true → p.state < 2 → s.net.voteState = 0 → (∃ q, votes q) → (∀ q, votes q → (s.parAt q).hostAsleep = true) →
      voteBlocked s = false → ∃ t target, exec .sleepAgreement s = .next t ∧
        t.net = { s.net with voteState := 1, voteTarget := target, voteRound := s.net.voteRound + 1, voteAt := s.time.elapsed } ∧
        target ≤ 2 ∧ (∀ q, votes q → target ≤ (s.parAt q).voteTarget) ∧ (target = 2 ∨ ∃ q, votes q ∧ target = (s.parAt q).voteTarget) ∧
        (∀ n, n < 3 → portLive s n = true → ∃ g, (t.netAt n).waiting = (s.netAt n).waiting ++ [g] ∧ g.op = 9) ∧
        Changes [.net, .netPorts] s t) ∧
    (s.net.voteState = 1 → s.net.voteAt + grace ≤ s.time.elapsed → p.state < 2 →
      (voteBlocked s = true → ∃ t, exec .sleepCommitPoint s = .next t ∧ t.net.voteState = 0 ∧ t.net.graceAt = some s.time.elapsed ∧
        t.power = p ∧ Changes [.net, .netPorts, .die, .stream, .parish, .timers] s t) ∧
      (voteBlocked s = false → p.opBusy = false → 1 ≤ s.net.voteTarget → s.net.voteTarget ≤ 2 → ∃ t, exec .sleepCommitPoint s = .next t ∧
        t.net.voteState = 2 ∧ t.power.state = 5 ∧ t.power.target = s.net.voteTarget + 1 ∧ t.power.entryCause = 1024)) ∧
    (wakeHeld s = false → exec .wakeHoldExpiry s = .next { s with power := { p with hostWake := false } }) ∧
    (∀ i q, i = .crierWake q ∨ i = .wakeRetryExpiry q → q < 16 →
      let w := (s.parAt q).wake
      (s.parAt q).hostAsleep = true → p.state < 3 → (i = .crierWake q → w.asked = true) →
      (i = .wakeRetryExpiry q → w.pending = true ∧ w.reasons ≠ 0 ∧
        ∀ at_, w.lastAt = some at_ → at_ + 250000000 * cfg s (0x9100 + 16 * q) 7 10 ≤ s.time.elapsed) →
      ∃ t, exec i s = .next t ∧ t.power.hostWake = true ∧ (t.parAt q).wake.pending = true ∧ (t.parAt q).wake.wakes = w.wakes + 1 ∧
        (i = .crierWake q → votes q → t.net.graceAt = some s.time.elapsed) ∧
        (i = .wakeRetryExpiry q ∨ ¬votes q → ∃ g, t.power = { p with hostWake := true } ∧
          (t.parAt q).wake = { w with wakes := w.wakes + 1, pending := true, asked := false, lastAt := some s.time.elapsed } ∧
          (t.netAt (destOf s q).2).waiting = (s.netAt (destOf s q).2).waiting ++ [g] ∧ g.op = 8 ∧ g.parish = q ∧ g.dst = (destOf s q).1 ∧
          g.payload = leBytes 2 w.reasons ++ leBytes 2 w.rule ++ leBytes 4 (w.wakes + 1).toNat ∧
          Changes [.netPorts, .parish, .power] s t)) ∧
    (∀ k q, k < usedDies s * 512 → streamOwner s k = some q → agedRecord s k = true →
      ((s.parAt q).hostAsleep = false → exec (.maxAgeExpiry k) s = .next (s.modPar q (fun x => { x with deliverAll := true }))) ∧
      ((s.parAt q).hostAsleep = true → bitOf (cfg s (0x9100 + 16 * q) 5 10) 2 = true →
        let near := sinceWake s q (cfg s (0x9100 + 16 * q) 8 100)
        (near = true → (s.parAt q).wake.pending = false → exec (.maxAgeExpiry k) s = .next s) ∧
        (near = false ∨ (s.parAt q).wake.pending = true → ∃ t, exec (.maxAgeExpiry k) s = .next t ∧
          (t.parAt q).wake = { (s.parAt q).wake with
            reasons := setBit (s.parAt q).wake.reasons 2, asked := (s.parAt q).wake.asked || !near } ∧
          Changes [.parish, .timers] s t)))) ∧
  (∀ (s : State) (q : Nat), q < 16 → s.dictReady = true → s.power.state < 2 → (s.parAt q).pulls = [] →
    ((s.parAt q).hostAsleep = true ∨ pushDue s q = false → exec (.batchAssemble q) s = .next (s.modPar q (fun x => { x with pulls := [] }))) ∧
    (∀ k r, s.cmpt = false → (s.parAt q).hostAsleep = false → pushDue s q = true → pushStreams s q = [k] → toTake s q k false = [r] →
      r.stream = k → r.epoch = s.time.epoch → (∀ y ∈ (s.streamAt k).ring, s.time.elapsed ≤ y.entered + 2 ^ 18 * 250000000) →
      recOutSize s r ≤ 1400 → 1420 ≤ cfg s (0x9100 + 16 * q) 2 16 * 1024 → windowNames s (destOf s q).2 q = false →
      ∃ t g, exec (.batchAssemble q) s = .next t ∧ (t.parAt q).batches = (s.parAt q).batches + 1 ∧
        (t.parAt q).batchNo = (s.parAt q).batchNo + 1 ∧
        (t.netAt (destOf s q).2).waiting = (s.netAt (destOf s q).2).waiting ++ [g] ∧ g.op = 7 ∧ g.parish = q ∧ g.dst = (destOf s q).1 ∧
        g.objCount = 1 ∧
        g.payload = leBytes 2 (s.parAt q).batchNo.toNat ++ [0, 0] ++ recOut s (leadAnchor s r.epoch) ++ recOut s r ∧
        (∀ y ∈ (t.streamAt k).ring, recKey y = recKey r → y.delivered = true ∧ q ∈ y.sentTo) ∧
        (streamDie k = 0 → t.die = s.die) ∧ Changes [.netPorts, .die, .stream, .parish] s t))

/-- R426 to R430: when calibration runs begin and how their items end. The units of the limits are log entry 12's. -/
def Obligations.TemperatureStartsCalibrationRuns : Prop :=
  ∀ (s : State),
    let lim := 10 * cfg s 0xE000 1 8
    let begun (n : Nat) (temp : Int) (x : Port) : Port := { x with
      calRun := runItems s n, calDue := runItems s n, calDone := 0, calFailed := 0, calRanges := 0, calWindows := 0
      calForced := false, calSpareTaken := false, calSpareLast := false, calRecorded := false, calRunTemp := temp
      c0 := x.c0.takeSpare s.time.elapsed, c1 := x.c1.takeSpare s.time.elapsed }
    (∀ d temp, d < usedDies s → (s.dieAt d).logicOn = true → (s.dieAt d).lost = false →
      (∀ a, (s.dieAt d).cal.lastAt = some a → a + 2500000 ≤ s.time.elapsed) →
      ∃ t, exec (.temperatureCheck d temp) s = .next t ∧ (t.dieAt d).temp = temp ∧ Changes [.die, .port, .power] s t ∧
        t.power = (if 1250 ≤ temp then { s.power with hotAt := s.time.elapsed } else s.power) ∧
        (∀ j, j ≠ d → t.dieAt j = s.dieAt j) ∧ (∀ n, n / 12 ≠ d → t.portAt n = s.portAt n) ∧
        (t.dieAt d).cal = (if lim < (temp - (s.dieAt d).cal.temp).natAbs ∧ (s.dieAt d).cal.due = 0 then
          { (s.dieAt d).cal with due := 1792, done := 0, failed := 0, spare := false, runTemp := temp, lastAt := some s.time.elapsed }
          else { (s.dieAt d).cal with lastAt := some s.time.elapsed }) ∧
        ∀ n, n / 12 = d → (s.portAt n).gapOpen = false →
          t.portAt n = if lim < (temp - (s.portAt n).calTemp).natAbs ∧ (s.portAt n).calRun = 0 then begun n temp (s.portAt n)
            else s.portAt n) ∧
    (∀ n, hasPort s n → let x := s.portAt n
      (dieOff s (n / 12) = true → exec (.calReq n) s = .next (answered s 0x0401)) ∧
      (dieOff s (n / 12) = false → x.calRun ≠ 0 → exec (.calReq n) s = .next (answered s 0)) ∧
      (dieOff s (n / 12) = false → x.calRun = 0 → x.gapOpen = false →
        exec (.calReq n) s = .next (answered (s.modPort n (begun n (s.dieAt (n / 12)).temp)) 0)) ∧
      (2 * lim ≤ ((s.dieAt (n / 12)).temp - x.calTemp).natAbs → (∀ a, x.calForcedAt = some a → a + 2500000 ≤ s.time.elapsed) →
        x.calRun ≠ 0 → x.calDue &&& 174 ≠ 0 → x.calOffline = false → activeOp s n 3 = none → domainOn s n = true →
        x.inQuarantine = false → ∃ t, exec (.forcedCalWindow n) s = .next t ∧
          PortOnly [.die, .port, .stream, .parish, .reeve, .timers] s t n ∧ (t.portAt n).calForced = true ∧
          (t.portAt n).calForcedAt = some s.time.elapsed ∧ (t.portAt n).calUntil = s.time.elapsed + 50000 ∧
          (t.portAt n).calOffline = true ∧ (t.portAt n).calWindows = counted 255 x.calWindows ∧
          bitOf x.calDue (t.portAt n).calItem = true ∧ (t.portAt n).calItem ∈ [1, 2, 3, 5, 7] ∧
          (∀ j, j ∈ [1, 2, 3, 5, 7] → j < (t.portAt n).calItem → bitOf x.calDue j = false) ∧
          (x.calForced = false → FaultTold s t (n / 12) 0x13 4 n ((portOwner s n).getD 0)) ∧
          ∀ k ∈ x.queue, (slotOf s n k).kind = 3 → (slotOf s n k).state = 1 ∨ (slotOf s n k).state = 2 →
            (slotOf t n k).waitedCal = true) ∧
      (∀ item v, item = 1 ∨ item = 5 ∨ item = 7 → bitOf x.calDue item = true → x.calItem = item →
        let last := x.trim.find? (fun e => e.1 == item)
        let most : Nat := if item = 1 then 16384 else if item = 5 then 20000 else 100000
        let fine := v.natAbs ≤ most ∧ (item = 1 → ∀ e, last = some e → (v - e.2).natAbs ≤ 4096)
        ∃ t, exec (.calItemDone n item [v] []) s = .next t ∧ PortOnly [.die, .port, .stream, .parish, .reeve, .timers] s t n ∧
          bitOf (t.portAt n).calDone item = true ∧ bitOf (t.portAt n).calDue item = false ∧ (t.portAt n).spares = x.spares ∧
          (fine → tget 0 (t.portAt n).trim item = v ∧ (t.portAt n).calFails = x.calFails) ∧
          (¬fine → (t.portAt n).trim = x.trim ∧ (t.portAt n).calFails = counted 65535 x.calFails ∧
            bitOf (t.portAt n).calFailed item = true ∧ FaultTold s t (n / 12) 0x13 1 n ((portOwner s n).getD 0)))) ∧
    (∀ d, d < usedDies s → let c := (s.dieAt d).cal
      (∀ v vs, bitOf c.due 8 = true → (∀ w ∈ v :: vs, 100 ≤ w ∧ w ≤ 500) → ∃ t, exec (.calItemDone d 8 (v :: vs) []) s = .next t ∧
        tget 0 (t.dieAt d).cal.trim 8 = v ∧ (t.dieAt d).cal.due = clrBit c.due 8 ∧ (t.dieAt d).cal.done = setBit c.done 8 ∧
        (t.dieAt d).cal.temp = (if clrBit c.due 8 = 0 then c.runTemp else c.temp) ∧ (t.dieAt d).cal.bins = (v :: vs).take 16 ∧
        Changes [.die, .stream, .parish, .timers] s t) ∧
      (∀ m b, bitOf c.due 10 = true → bitOf c.cells 2 = false → m.natAbs < 200 * (b - m).natAbs →
        ∃ t, exec (.calItemDone d 10 [m, m, b] []) s = .next t ∧ bitOf (t.dieAt d).cal.cells 2 = true ∧
          bitOf t.reeve.rqReason 3 = true ∧ Changes [.die, .stream, .parish, .reeve, .timers] s t))

/-- R418 to R421, R424, R425: the scrub and the uses of what it finds. -/
def Obligations.ScrubbingCorrectsCountsAndSetsAside : Prop :=
  ∀ (s : State) (d : Nat), d < usedDies s → (s.dieAt d).logicOn = true → (s.dieAt d).lost = false →
    let q := (s.dieAt d).scrub
    let day := (q.ceDay.filter (fun a => decide (s.time.elapsed < a + 21600000000000))).length + 1
    (∀ a, q.wordAt = some a → a + (if (s.dieAt d).onFrc then 22 else 20) ≤ s.time.elapsed) →
    let moved (t : State) := (t.dieAt d).scrub.wordAt = some s.time.elapsed ∧ (t.dieAt d).scrub.scrubAt = (if q.scrubAt + 1 < 65536 then q.scrubAt + 1 else 0) ∧
      (t.dieAt d).scrub.passes = (if q.scrubAt + 1 < 65536 then q.passes else q.passes + 1)
    let found (kind item sub : Nat) (p : State → Prop) := ∃ t, exec (.scrubWord d 2 kind item sub) s = .next t ∧ moved t ∧
      (t.dieAt d).scrub.ueCount = q.ueCount + 1 ∧ (t.dieAt d).scrub.ceCount = q.ceCount ∧ p t ∧
      Changes [.die, .port, .engine, .stream, .mill, .rule, .tally, .row, .col, .parish, .commit, .reeve, .timers, .fw] s t
    (∀ kind item sub, ∃ t, exec (.scrubWord d 0 kind item sub) s = .next t ∧ moved t ∧ (t.dieAt d).scrub.ceCount = q.ceCount ∧
      (t.dieAt d).scrub.ueCount = q.ueCount ∧ Changes [.die] s t) ∧
    (∀ kind item sub, ∃ t, exec (.scrubWord d 1 kind item sub) s = .next t ∧ moved t ∧ (t.dieAt d).scrub.ceCount = q.ceCount + 1 ∧
      (t.dieAt d).scrub.ueCount = q.ueCount ∧ (day ≤ cfg s 0xE000 2 64 → Changes [.die] s t) ∧
      (cfg s 0xE000 2 64 < day → bitOf t.reeve.rqReason 5 = true ∧ Changes [.die, .stream, .parish, .reeve, .timers] s t)) ∧
    (∀ kind item sub, ∃ t, exec (.scrubWord d 3 kind item sub) s = .next t ∧ moved t ∧ (t.dieAt d).scrub.ueCount = q.ueCount + 1 ∧
      Changes [.die] s t) ∧
    (∀ item sub, item / 24 = d → (s.engAt item).reloaded = false → found 1 item sub (fun t => (t.engAt item).state = 2 ∧
      thas (t.dieAt d).reloadDue (0x6000 + 16 * item) = true)) ∧
    (∀ item sub, item / 24 = d → found 2 item sub (fun t => (t.engAt item).state = 2 ∧ (t.engAt item).ctxs = [] ∧
      thas (t.dieAt d).reloadDue (0x6000 + 16 * item) = true)) ∧
    (∀ item sub, found 3 item sub (fun t => item ∈ (t.dieAt d).rotaDamaged ∧ FaultTold s t d 8 3 item 0)) ∧
    (∀ item sub, (s.dieAt d).rotaState ≠ 3 → found 4 item sub (fun t => (t.dieAt d).next = {} ∧ (t.dieAt d).rotaState = 0 ∧
      FaultTold s t d 8 4 d 0)) ∧
    (∀ item sub, 1 ≤ sub → sub ≤ 0xD → found 5 item sub (fun t => (sub, item) ∈ t.reeve.ownDamaged)) ∧
    (∀ kind item sub, kind = 6 ∨ kind = 7 → item / 16 = d → sub ≠ 1 → found kind item sub (fun t => (t.millAt item).halted = true ∧
      (t.millAt item).staleNext = true ∧ thas (t.dieAt d).reloadDue (0x8000 + item) = true ∧ FaultTold s t d 8 kind item 0)) ∧
    (∀ kind item m, kind = 6 ∨ kind = 7 → item / 16 = d → s.commit.state ≠ 2 → (s.millAt item).next = some m →
      found kind item 1 (fun t => (t.millAt item).next = none ∧ (t.millAt item).img = (s.millAt item).img ∧
        (t.dieAt d).millRefuse = 13 + item * 65536 ∧ FaultTold s t d 8 kind item 0)) ∧
    (∀ item sub, item / 64 = d → (s.ruleAt item).img.present = true → (s.ruleAt item).img.type ≠ 5 → (s.ruleAt item).img.type ≠ 7 →
      found 8 item sub (fun t => ((s.ruleAt item).img.srcKind ≠ 6 →
          (t.ruleAt item).primed = false ∧ (t.ruleAt item).out = (s.ruleAt item).img.failValue) ∧
        thas (t.dieAt d).reloadDue (0x8400 + item) = true)) ∧
    (∀ item sub, item / 256 = d → item % 256 < 80 → found 9 item sub (fun t =>
      (t.rowAt item).failed = true ∧ thas (t.dieAt d).reloadDue (0xA800 + item) = true)) ∧
    (∀ item sub, item / 8 = d → found 10 item sub (fun t => ∀ k, k < 4 → (t.tallyAt (4 * item + k)).stopped = true)) ∧
    (∀ item sub l, layOf s.dies item = some l → found 11 item sub (fun t => item ∈ (t.dieAt 0).shadowBad)) ∧
    (∀ item sub, found 12 item sub (fun t => bitOf t.fw.badSlots s.fw.slot = true))

/-- R421 to R423, R434, R435: reload copies and telemetry. -/
def Obligations.ReloadCopiesRestoreWhatFailed : Prop :=
  ∀ (s : State),
    (∀ d, d < usedDies s → let x := s.dieAt d
      (∀ idx erases, idx ∈ x.reloadTodo → s.commit.state ≠ 3 → x.logicOn = true → x.fwErases < 20000 →
        ∃ t, exec (.reloadCopyWrite d idx erases) s = .next t ∧ (∀ k ∈ structureKeys s idx, tget [] (t.dieAt d).reload k = valueOf s k) ∧
          tget 0 (t.dieAt d).reloadCrc idx = crc32 ((structureKeys s idx).flatMap (valueOf s)) ∧
          (t.dieAt d).reloadTodo = without x.reloadTodo idx ∧ (t.dieAt d).fwErases = max x.fwErases erases ∧
          (erases < 20000 → Changes [.die] s t) ∧
          (20000 ≤ erases → FaultTold s t d 0x11 3 0xFF 0 ∧ Changes [.die, .stream, .parish, .reeve, .timers] s t)) ∧
      (∀ idx bad, d = 0 → idx ∈ x.shadowBad → ∃ t, exec (.reloadApply d idx bad) s = .next t ∧ idx ∉ (t.dieAt 0).shadowBad ∧
        (∀ k, k / 256 = idx → tget [] t.conf k = tget [] (s.persisted.filter (fun e => e.1 / 256 == idx)).reverse k) ∧
        (∀ k, k / 256 ≠ idx → tget [] t.conf k = tget [] s.conf k) ∧ Changes [.die, .conf] s t) ∧
      (∀ idx at_, (d = 0 → idx ∉ x.shadowBad) → x.reloadDue.find? (fun e => e.1 == idx) = some (idx, at_) →
        at_ + 500000 ≤ s.time.elapsed → x.active.valid = false ∨ atBoundary s d = true → idx ∉ x.reloadFailed →
        (∀ bad, copyGood s d idx bad = false → ∃ t, exec (.reloadApply d idx bad) s = .next t ∧
          FaultTold s t d 8 13 (structureItem s idx) 0 ∧ (t.dieAt d).reloadFailed = x.reloadFailed ++ [idx] ∧
          (t.dieAt d).reloadDue = x.reloadDue ∧ Changes [.die, .stream, .parish, .reeve, .timers] s t) ∧
        (∀ g bad, s.dies ≤ 8 → copyGood s d idx bad = true → g / 64 = d → idx = 0x8400 + g → ∃ t, exec (.reloadApply d idx bad) s = .next t ∧
          thas (t.dieAt d).reloadDue idx = false ∧ (t.dieAt d).reloadTodo = x.reloadTodo ∧ t.conf = s.conf)) ∧
      (∀ bad, x.rotaDamaged ≠ [] → x.rotaState ≠ 2 → x.rotaState ≠ 3 → x.failover = false → x.rotaNone = false →
        let copy := rotaCopy s d bad
        let good := copyGood s d (0x6C00 + 128 * d) bad = true ∧
          rotaRefuse s d ((rotaOwner s d).getD 0) copy (x.active.kind == 1) = none
        (good → exec (.rotaFailover d bad) s = .next (s.modDie d (fun y => { y with next := rotaOf copy, failover := true }))) ∧
        (¬good → ∃ t, exec (.rotaFailover d bad) s = .next t ∧ (t.dieAt d).rotaNone = true ∧
          (t.dieAt d).failover = false ∧ FaultTold s t d 8 13 (x.rotaDamaged.headD 0) 0 ∧
          Changes [.die, .stream, .parish, .reeve, .timers] s t))) ∧
    (s.dictReady = true → cfg s 0xE000 3 1000 ≠ 0 →
      let past : Nat := fineOf s.time % (cfg s 0xE000 3 1000 * 1000000 * 2 ^ 32)
      (past : Int) < s.time.increment → (s.dieAt 0).tele.lastAt ≠ some s.time.elapsed →
      ∃ t, exec .telemetryInstant s = .next t ∧ Changes [.die, .stream, .parish, .timers] s t ∧
        (∀ d, usedDies s ≤ d ∨ (s.dieAt d).lost = true → t.dieAt d = s.dieAt d) ∧
        ∀ d, d < usedDies s → (s.dieAt d).logicOn = true → (s.dieAt d).lost = false → let x := s.dieAt d
          (t.dieAt d).tele.runs = 0 ∧ (t.dieAt d).tele.missed = x.missed ∧ (t.dieAt d).tele.ce = x.scrub.ceCount ∧
          (t.dieAt d).tele.ue = x.scrub.ueCount ∧ (t.dieAt d).tele.slotPeak = x.held ∧ (t.dieAt d).tele.lastAt = some s.time.elapsed ∧
          ((∀ r ∈ (s.streamAt (d * 512 + 0x1F4)).ring, r.pinned = false) →
            ∃ r, (t.streamAt (d * 512 + 0x1F4)).ring.getLast? = some r ∧ r.pcode = 0x70 ∧
              r.stamp = fineStamp ((fineOf s.time : Int) - past) ∧ r.words.length = 8 ∧
              nth 0 r.words 0 = BitVec.ofNat 32 (ofInt 16 x.temp + x.coreMv % 65536 * 65536) ∧
              nth 0 r.words 4 = BitVec.ofNat 32 (min 65535 (x.missed - x.tele.missed).toNat
                + min 65535 (max x.held x.tele.slotPeak) * 65536)))

/-- R248 to R254, R257, R258: captures, pages, wear and the scan. -/
def Obligations.CapturesStartAndEnd : Prop :=
  (∀ (s : State) (p : Nat),
    let pre := 250000 * cfg s (0x9100 + 16 * p) 0xA 5000
    let post := 250000 * cfg s (0x9100 + 16 * p) 0xB 1000
    let from_ (g : Region) := if g.capActive = true then (if g.capDrain = true then g.capTo + 1 else g.capFrom) else s.time.elapsed - pre
    let starts (t : State) (d : Nat) := ((t.dieAt d).regionAt p).capActive = true ∧ ((t.dieAt d).regionAt p).capDrain = false ∧
      ((t.dieAt d).regionAt p).capTo = s.time.elapsed + post ∧
      ((t.dieAt d).regionAt p).capFrom = from_ ((s.dieAt d).regionAt p) ∧
      ∀ k, k / 512 = d → streamOwner s k = some p → streamLog s k = 2 → (t.streamAt k).ring =
        (s.streamAt k).ring.map (fun r => if from_ ((s.dieAt d).regionAt p) ≤ r.entered then { r with pinned := true } else r)
    (∀ d, d < usedDies s → (logBlocks s p d = 0 → exec (.captureStart d p) s = .next s) ∧
      (logBlocks s p d ≠ 0 → ∃ t, exec (.captureStart d p) s = .next t ∧ starts t d ∧ (∀ j, j ≠ d → t.dieAt j = s.dieAt j) ∧
        (∀ k, k / 512 ≠ d ∨ streamOwner s k ≠ some p ∨ streamLog s k ≠ 2 → t.streamAt k = s.streamAt k) ∧
        Changes [.die, .stream] s t)) ∧
    (p < 16 → ∃ t, exec (.logTrigger p) s = .next t ∧ t.net.lastStatus = 0 ∧ Changes [.net, .die, .stream] s t ∧
      ∀ d, d < usedDies s → (logBlocks s p d = 0 → t.dieAt d = s.dieAt d) ∧ (logBlocks s p d ≠ 0 → starts t d))) ∧
  (∀ (s : State) (d p : Nat), d < usedDies s →
    let x := s.dieAt d
    let g := x.regionAt p
    (g.capActive = true → g.capDrain = false → g.capTo ≤ s.time.elapsed →
      ∃ t pgs, exec (.captureEnd d p) s = .next t ∧ pgs.flatMap (fun pg => pg.recs) = captureRecs s d p g ∧
        (∀ pg ∈ pgs, pg.capture = true) ∧ ((t.dieAt d).regionAt p).queue = g.queue ++ pgs ∧
        ((∃ pg ∈ g.queue ++ pgs, pg.capture = true) → ((t.dieAt d).regionAt p).capActive = true ∧
          ((t.dieAt d).regionAt p).capDrain = true ∧ ((t.dieAt d).regionAt p).captures = g.captures ∧ t.stream = s.stream) ∧
        ((∀ pg ∈ g.queue ++ pgs, pg.capture = false) → ((t.dieAt d).regionAt p).capActive = false ∧
          ((t.dieAt d).regionAt p).captures = counted 65535 g.captures ∧
          (∀ k, k / 512 = d → streamOwner s k = some p → ∀ r ∈ (t.streamAt k).ring, r.pinned = false)) ∧
        Changes [.die, .stream, .parish, .timers] s t) ∧
    (∀ pg r, g.openPage = some pg → pg.recs.head? = some r →
      r.entered + 250000 * cfg s (0x9100 + 16 * p) 0xC 1000 ≤ s.time.elapsed → exec (.logFlushExpiry d p) s =
        .next (s.modRegion d p (fun y => { y with openPage := none, queue := y.queue ++ [pg] }))) ∧
    (∀ pg rest retries, g.queue = pg :: rest → x.scanDone = true → x.logicOn = true → x.lost = false → 0 < regionSize x g →
      (tget 0 x.pageWrites (physPage x g) < 100000 → ∃ t, exec (.nvPageWriteDone d p retries true) s = .next t ∧
        let bytes := pageBytes { pg with seq := g.nextSeq }
        let all := wholePages g ++ [bytes]
        ((t.dieAt d).regionAt p).pages = all.drop (all.length - regionSize x g) ∧
        ((pg.recs.flatMap recNative).length ≤ 232 → pageOk bytes = true ∧ bytes.length = 256) ∧ ((t.dieAt d).regionAt p).queue = rest ∧
        ((t.dieAt d).regionAt p).nextSeq = g.nextSeq + 1 ∧
        (t.dieAt d).pageWrites = tput x.pageWrites (physPage x g) (tget 0 x.pageWrites (physPage x g) + 1) ∧
        (t.dieAt d).writeRetries = x.writeRetries + BitVec.ofNat 32 retries ∧ (t.dieAt d).pagesRetired = x.pagesRetired ∧
        Changes [.die, .stream, .parish, .timers] s t) ∧
      (∃ t, exec (.nvPageWriteDone d p retries false) s = .next t ∧ ((t.dieAt d).regionAt p).queue = rest ∧
        ((t.dieAt d).regionAt p).nextSeq = g.nextSeq + 1 ∧ (t.dieAt d).pagesRetired = counted 65535 x.pagesRetired ∧
        (∀ q, freeSpare x = some q → (t.dieAt d).sparesFree = x.sparesFree - 1 ∧ (t.dieAt d).gonePages = x.gonePages) ∧
        (freeSpare x = none → (t.dieAt d).sparesFree = x.sparesFree ∧ (t.dieAt d).gonePages =
          addOnce x.gonePages (((x.remap.find? (fun e => e.2 == physPage x g)).map (·.1)).getD (physPage x g))) ∧
        Changes [.die, .stream, .parish, .reeve, .timers] s t)) ∧
    (s.dictReady = true → x.logicOn = true → x.scanDone = false → x.frames ≠ 0 ∨ x.active.valid = false →
      ∃ t, exec (.nvScanDone d) s = .next t ∧ (t.dieAt d).scanDone = true ∧
      (∀ q, ((t.dieAt d).regionAt q).pages = (x.regionAt q).pages ∧ ((t.dieAt d).regionAt q).queue = (x.regionAt q).queue ∧
        ((t.dieAt d).regionAt q).nextSeq = (match headSeq (x.regionAt q) with
          | some n => n + 1
          | none => 0)) ∧
      (t.dieAt d).tornPages = min 65535 (x.tornPages
        + (x.regions.map (fun e => (e.2.pages.filter (fun b => !pageOk b)).length)).sum) ∧
      (∀ k, k / 512 = d → streamLog s k = 1 → ∀ r ∈ (t.streamAt k).ring, r.pinned = false) ∧
      (∀ k, k / 512 ≠ d ∨ streamLog s k ≠ 1 → t.streamAt k = s.streamAt k) ∧
      (∀ j, j ≠ d → t.dieAt j = s.dieAt j) ∧ Changes [.die, .stream] s t)) ∧
  (∀ (s : State) (d : Nat), d < usedDies s →
    let x := s.dieAt d
    let mean (p : Nat) := regionMean x (x.regionAt p)
    ((∀ a ∈ x.regions, ∀ b ∈ x.regions, a.2.blocks ≠ [] → b.2.blocks ≠ [] → mean a.1 ≤ mean b.1 + 131072000) →
      exec (.wearLevelCheck d) s = .next s) ∧
    (∀ hi lo sp b c, argMax mean ((x.regions.filter (fun e => !e.2.blocks.isEmpty)).map (·.1)) = some hi →
      argMin mean ((x.regions.filter (fun e => !e.2.blocks.isEmpty)).map (·.1)) = some lo →
      argMin (blockWrites x) (x.spareBlocks.filter (fun k => !x.remap.any (fun e => e.2 / 64 == k))) = some sp →
      argMax (blockWrites x) (x.regionAt hi).blocks = some b → argMin (blockWrites x) (x.regionAt lo).blocks = some c →
      mean lo + 131072000 < mean hi → x.logicOn = true → ∃ t, exec (.wearLevelCheck d) s = .next t ∧
        ((t.dieAt d).regionAt hi).blocks = (x.regionAt hi).blocks.map (fun k => if k = b then sp else k) ∧
        ((t.dieAt d).regionAt lo).blocks = (x.regionAt lo).blocks.map (fun k => if k = c then b else k) ∧
        (t.dieAt d).spareBlocks = x.spareBlocks.map (fun k => if k = sp then c else k) ∧
        (∀ q, q ≠ hi → q ≠ lo → (t.dieAt d).regionAt q = x.regionAt q) ∧ (∀ j, j ≠ d → t.dieAt j = s.dieAt j) ∧
        Changes [.die] s t))

/-- R292 to R294, R382: changes of a parish's state. R297, R298, R301, R320: keys and the ends of sessions. -/
def Obligations.ParishStatesKeysAndSessions : Prop :=
  (∀ (s : State) (p : Nat), p < 16 →
    let x := s.parAt p
    let decides (i : Instr) (st : Nat) := exec i s = .next (answered (s.modPar p (fun y => { y with target := some st, taken := [] })) 0)
    (p = 0 → exec (.stateReqHalt p) s = .next (answered s 0x0403) ∧ exec (.stateReqRun p) s = .next (answered s 0x0403)) ∧
    (p ≠ 0 → x.target ≠ some 4 → decides (.stateReqHalt p) 4) ∧
    (p ≠ 0 → x.target = some 4 → ∃ t, exec (.stateReqHalt p) s = .next t ∧ t.net = (answered s 0).net ∧ (∀ q, t.parAt q = s.parAt q) ∧
      Changes [.net, .parish] s t) ∧
    (p ≠ 0 → decided s p = 0 ∨ decided s p = 4 ∨ (decided s p = 3 ∧ causeHolds s p = true) →
      exec (.stateReqRun p) s = .next (answered s 0x0403)) ∧
    (p ≠ 0 → p ≠ 1 → x.target = none → x.state = 1 ∨ (x.state = 3 ∧ causeHolds s p = false) → decides (.stateReqRun p) 2) ∧
    (decided s p = 2 → p ≠ 0 → exec (.stateReqRun p) s = .next (answered s 0)) ∧
    (p = 1 → x.target = none → x.state = 3 → causeHolds s p = false → s.reeve.clear100 = true →
      ∃ t, exec (.stateReqRun p) s = .next t ∧ t.reeve = { s.reeve with runAsked := true } ∧
        decided t 1 = (if s.reeve.latched = false ∧ startupTests s = true then 2 else 3) ∧ Changes [.net, .parish, .reeve] s t) ∧
    (1 < p → x.state = 1 → x.target = none → x.since + 250000 * cfg s (0x2000 + 256 * p) 3 100 ≤ s.time.elapsed →
      exec (.testTimeExpiry p) s = .next (s.modPar p (fun y => { y with target := some 2, taken := [] }))) ∧
    (∀ d st, d < usedDies s → x.target = some st → d ∉ x.taken →
      (s.dieAt d).active.valid = false ∨ (s.dieAt d).logicOn = false ∨ (s.dieAt d).lost = true ∨ (s.dieAt d).leadLost = true ∨
        atBoundary s d = true →
      ∃ t, exec (.parishStateChange d p) s = .next t ∧
        ((∃ j, j < usedDies s ∧ j ≠ d ∧ j ∉ x.taken ∧ parishOnDie s p j = true ∧ (s.dieAt j).lost = false) →
          (t.parAt p).state = x.state ∧ (t.parAt p).target = some st ∧ (t.parAt p).taken = x.taken ++ [d] ∧
          (t.parAt p).since = x.since) ∧
        ((∀ j, j < usedDies s → j = d ∨ j ∈ x.taken ∨ parishOnDie s p j = false ∨ (s.dieAt j).lost = true) →
          (t.parAt p).state = st ∧ (t.parAt p).since = s.time.elapsed ∧
          (p ≠ 1 → (t.parAt p).target = none ∧ (t.parAt p).taken = [])) ∧
        (st = 4 → ∀ n, n / 12 = d → portOwner s n = some p → (t.portAt n).vpOn = false) ∧
        (starting s = false →
          Changes [.die, .port, .engine, .stream, .rule, .tally, .row, .col, .parish, .reeve, .timers, .twin, .power] s t)) ∧
    (∀ d, d < usedDies s → (s.dieAt d).active.valid = true → (s.dieAt d).logicOn = true → (s.dieAt d).lost = false →
      (s.dieAt d).leadLost = false → atBoundary s d = false → exec (.parishStateChange d p) s = .next s)) ∧
  (∀ (s : State),
    (∀ p session value, p < 16 →
      (value.length ≠ 16 → exec (.keyWrite p session value) s = .next (answered s 0x0301)) ∧
      (value.length = 16 → (s.parAt p).key = none →
        exec (.keyWrite p session value) s = .next (answered (s.modPar p (fun x => { x with key := some value })) 0)) ∧
      (∀ k, value.length = 16 → (s.parAt p).key = some k →
        ((session = 0 ∨ ∀ x, findSession s session = some x → x.isOpen = false ∨ x.parish ≠ p) →
          exec (.keyWrite p session value) s = .next (answered s 0x0505)) ∧
        (∀ x, session ≠ 0 → findSession s session = some x → x.isOpen = true → x.parish = p →
          ∃ t, exec (.keyWrite p session value) s = .next t ∧ t.net.lastStatus = 0 ∧ (t.parAt p).key = some (aesDecrypt k value) ∧
            (∀ y ∈ t.sessions, y ∈ s.sessions ∧ y.parish ≠ p) ∧ (∀ q, q ≠ p → t.parAt q = s.parAt q) ∧
            (∀ b ∈ t.net.blocks, b ∈ s.net.blocks ∧ b.session ≠ session) ∧ Changes [.net, .netPorts, .sessions, .parish, .fw] s t))) ∧
    (∀ n x, findSession s n = some x → x.lastAt + 250000000 * cfg s (0x2002 + 256 * x.parish) 4 60 ≤ s.time.elapsed →
      ∃ t, exec (.sessionIdleExpiry n) s = .next t ∧ t.sessions = s.sessions.filter (fun y => y.num != n) ∧
        t.net.blocks = s.net.blocks.filter (fun b => !(n != 0 && b.session == n)) ∧ Changes [.net, .netPorts, .sessions, .fw] s t) ∧
    (∀ p, p < 16 → (s.parAt p).openBlocked = true → (s.parAt p).openBlockedAt + 250000000 ≤ s.time.elapsed →
      exec (.openBlockExpiry p) s = .next (s.modPar p (fun x => { x with openBlocked := false, openFails := [] }))))

/-- R113 to R116, R118, R119: the service port's requests and results. R117, R241, R243: record chunks on the service port. -/
def Obligations.ServicePortRequestsAndChunks : Prop :=
  (∀ (s : State),
    let v := s.svc
    let u := { s with timers := { s.timers with sleepRun := 0 } }
    let silent := Host.Outcome.next { u with svc := { v with acked := false } }
    let lost (acked : Bool) := Host.Outcome.next { u with svc := { v with acked := acked, discarded := counted 255 v.discarded } }
    let isWrite (i : Instr) (cmd : Nat) (ops : List Nat) (data : List Byte) (pec : Option Byte) :=
      (i = .svcObjRead data pec ∧ cmd = 0x10 ∧ ops = [1, 3]) ∨ (i = .svcObjWrite data pec ∧ cmd = 0x11 ∧ ops = [2, 4]) ∨
        (i = .svcSession data pec ∧ cmd = 0x12 ∧ ops = [11])
    exec .svcUnknownCommand s = silent ∧
    (svcAwake s = false → exec .svcResult s = silent ∧ exec .svcStatus s = silent ∧ exec .svcRecords s = silent ∧
      (∀ q pec, exec (.svcRecordsAck q pec) s = silent) ∧
      (∀ i cmd ops data pec, isWrite i cmd ops data pec → exec i s = silent) ∧ ∀ b, exec (.svcSclTimeout b) s = .next s) ∧
    (v.awake = true ∨ (∃ a, v.wokenAt = some a ∧ a + 50000 ≤ s.time.elapsed) →
      exec (.svcSclTimeout true) s = lost false ∧ exec (.svcSclTimeout false) s = silent ∧
      (∀ i cmd ops data pec, isWrite i cmd ops data pec →
        let good := data.length ≤ 255 ∧ pec = some (BitVec.ofNat 8 (crc8 (leBytes 1 (2 * v.addr) ++ leBytes 1 cmd
          ++ leBytes 1 data.length ++ data)))
        let sound := 24 ≤ data.length ∧ getLe data 0 1 / 16 = 1 ∧ headerOk data = true
        (¬good → exec i s = lost false) ∧
        (good → v.busy = true ∨ v.ready = true → exec i s = lost true) ∧
        (good → v.busy = false → v.ready = false → ¬sound → ∃ t, exec i s = .next t ∧
          t.svc = { v with acked := true, discarded := counted 255 v.discarded } ∧ t.net.waiting = s.net.waiting ∧
          Changes [.net, .svc, .timers] s t) ∧
        (good → v.busy = false → v.ready = false → sound →
          let op := getLe data 0 1 % 16
          let code := if op ∉ ops then 0x0101 else if lengthOk data = false then 0x0102 else 0
          (s.net.waiting.length < 32 → exec i s = .next { u with
            svc := { v with acked := true, response := [], busy := true }
            net := { s.net with waiting := s.net.waiting ++ [{ op := op, frame := parseFrame 3 0 data, code := code }] } }) ∧
          (32 ≤ s.net.waiting.length → exec i s = .next { u with
            svc := { v with acked := true, discarded := counted 255 v.discarded }
            net := { s.net with rxBusy := s.net.rxBusy + 1 } }))) ∧
      (∃ t pec, exec .svcResult s = .next t ∧
        let part := if v.ready = true then v.response.take 255 else []
        t = { u with svc := { v with acked := true, response := v.response.drop part.length
                                     ready := v.ready && !(v.response.drop part.length).isEmpty
                                     lastRead := leBytes 1 part.length ++ part ++ [pec] } }) ∧
      (∃ t pec data, exec .svcStatus s = .next t ∧ data.length = 8 ∧
        t = { u with svc := { v with acked := true, lastRead := 8 :: data ++ [pec] } } ∧
        bitOf (getLe data 0 1) 0 = v.ready ∧ bitOf (getLe data 0 1) 1 = v.busy ∧ bitOf (getLe data 0 1) 3 = s.dictReady ∧
        (v.discarded < 256 → getLe data 1 1 = v.discarded) ∧ getLe data 2 2 = min 65535 v.response.length)) ∧
    (∀ q rest, s.net.waiting = q :: rest → q.code = 0x0101 ∨ q.code = 0x0102 → 3 ≤ q.frame.port → s.dictReady = true → s.power.state < 2 →
      ∃ t, exec .stewardServeRequest s = .next t ∧ t.net = { s.net with waiting := rest } ∧ t.svc.ready = true ∧ t.svc.busy = false ∧
        getLe t.svc.response 24 2 = q.code ∧ Changes [.net, .svc, .timers, .power] s t)) ∧
  (∀ (s : State), svcAwake s = true →
    let v := s.svc
    let u := { s with timers := { s.timers with sleepRun := 0 } }
    let run := s.dictReady = true ∧ (s.power.state < 2 ∨ 5 ≤ s.power.state)
    let pecOf (q : Byte) : Byte := BitVec.ofNat 8 (crc8 (leBytes 1 (2 * v.addr) ++ [0x21, 1, q]))
    (∀ c, v.chunk = some c → ∃ pec, exec .svcRecords s =
      .next { u with svc := { v with acked := true, lastRead := leBytes 1 c.length ++ c ++ [pec] } }) ∧
    (v.chunk = none → ¬run ∨ (v.batchRest = [] ∧ serviceParish s = none) → ∃ pec, exec .svcRecords s =
      .next { u with svc := { v with acked := true, lastRead := [0, pec] } }) ∧
    (∀ e rest, v.chunk = none → run → v.batchRest = e :: rest → e.1.length ≤ 253 → ∃ t body more pec, exec .svcRecords s = .next t ∧
      t.svc.chunk = some (v.chunkSeq :: more :: body) ∧ body.take e.1.length = e.1 ∧ body.length ≤ 253 ∧
      t.svc.chunkTake.take e.2.length = e.2 ∧ (more = 0 ↔ t.svc.batchRest = []) ∧
      t.svc.lastRead = leBytes 1 (body.length + 2) ++ (v.chunkSeq :: more :: body) ++ [pec] ∧ t.svc.chunkSeq = v.chunkSeq ∧
      Changes [.svc, .timers] s t) ∧
    (∀ q, v.chunk = none ∨ q ≠ v.chunkSeq → exec (.svcRecordsAck q (some (pecOf q))) s =
      .next { u with svc := { v with acked := true, discarded := counted 255 v.discarded } }) ∧
    (∀ q pec, pec ≠ some (pecOf q) → exec (.svcRecordsAck q pec) s =
      .next { u with svc := { v with acked := false, discarded := counted 255 v.discarded } }) ∧
    (∀ c, v.chunk = some c → ∃ t, exec (.svcRecordsAck v.chunkSeq (some (pecOf v.chunkSeq))) s = .next t ∧
      t.svc.chunkSeq = v.chunkSeq + 1 ∧ t.svc.acked = true ∧ (¬run → t.svc.chunk = none ∧ t.svc.chunkTake = []) ∧
      (∀ key ∈ v.chunkTake, ∀ r ∈ (t.streamAt key.1).ring, recKey r = key → r.delivered = true) ∧ Changes [.svc, .stream, .timers] s t))

/-- R18 to R22: the ring's heartbeats, frames and links. -/
def Obligations.HeartbeatsAndLinkFrames : Prop :=
  (∀ (s : State),
    ((∀ a, (s.dieAt 0).hbSentAt = some a → a + 25000 ≤ s.time.elapsed) → ∃ t, exec .leadHeartbeatSend s = .next t ∧ Changes [.die] s t ∧
      (t.dieAt 0).hbSentAt = some s.time.elapsed ∧ (∀ d, d ≠ 0 → t.dieAt d = s.dieAt d) ∧
      (∀ d, 0 < d → d < usedDies s → (s.dieAt d).lost = false → reaches s 0 d = true →
        ∃ l, { src := 0, dst := d } ∈ tget [] (t.dieAt 0).unacked l) ∧
      (usedDies s = 2 → s.dies = 2 → (s.dieAt 1).lost = false → linksUp s 0 1 = true →
        tget [] (t.dieAt 0).unacked 0 = placeFrame { src := 0, dst := 1 } (tget [] (s.dieAt 0).unacked 0) ∧
        ∀ j, j ≠ 0 → tget [] (t.dieAt 0).unacked j = tget [] (s.dieAt 0).unacked j)) ∧
    (∀ d, 0 < d → d < usedDies s → (s.dieAt d).lost = false →
      exec (.leadHeartbeat d) s = .next (s.modDie d (fun x => { x with hbAt := s.time.elapsed })) ∧
      (s.time.elapsed < (s.dieAt d).hbAt + 125000 → exec (.leadLost d) s = .next s) ∧
      ((s.dieAt d).logicOn = true → (s.dieAt d).leadLost = false → (s.dieAt d).hbAt + 125000 ≤ s.time.elapsed →
        ∃ t, exec (.leadLost d) s = .next t ∧ (t.dieAt d).leadLost = true ∧
        (t.dieAt d).stopAtFrame = true ∧ (t.dieAt d).soOut = 0 ∧ FaultTold s t d 0xC 3 d 0 ∧
        Changes [.die, .stream, .parish, .reeve, .timers] s t)) ∧
    (∀ d link seq cls ok, d < usedDies s → link < s.dies →
      let e := linkEnds s link
      let src := if e.1 = d then e.2 else e.1
      let last := tget 0 (s.dieAt d).rxSeq link
      (ok = false ∨ (e.1 ≠ d ∧ e.2 ≠ d) → exec (.ringFrameReceive d link seq cls ok) s = .next s) ∧
      (ok = true → e.1 = d ∨ e.2 = d → src ≠ d → linkUp s link = true → (s.dieAt d).lost = false →
        (seq ≤ last → exec (.ringFrameReceive d link seq cls ok) s =
          .next (s.modDie src (fun x => { x with acks := tput x.acks link (max seq (tget 0 x.acks link)) }))) ∧
        (∀ f rest, seq = last + 1 → tget [] (s.dieAt src).unacked link = f :: rest → f.cls = cls →
          ∃ t, exec (.ringFrameReceive d link seq cls ok) s = .next t ∧ Changes [.die] s t ∧
          (∀ j, j ≠ d → j ≠ src → t.dieAt j = s.dieAt j) ∧ tget 0 (t.dieAt src).acks link = seq ∧
          tget [] (t.dieAt src).unacked link = rest ∧ tget 0 (t.dieAt d).rxSeq link = seq ∧
          (f.dst = d → (t.dieAt d).delivered = (s.dieAt d).delivered + 1 ∧ (t.dieAt d).unacked = (s.dieAt d).unacked) ∧
          (f.dst ≠ d → (t.dieAt d).delivered = (s.dieAt d).delivered ∧ ∃ l, f ∈ tget [] (t.dieAt d).unacked l)) ∧
        (last < seq → (∀ f, (tget [] (s.dieAt src).unacked link).head? = some f → seq ≠ last + 1 ∨ f.cls ≠ cls) →
          exec (.ringFrameReceive d link seq cls ok) s = .next s)))) ∧
  (∀ (s : State) (l : Nat), l < s.dies → l ∉ s.test.linkDown → ∃ t, exec (.ringLinkLost l) s = .next t ∧
    l ∈ t.test.linkDown ∧ (∀ j, j ∈ t.test.linkDown → j = l ∨ j ∈ s.test.linkDown) ∧
    tget [] (t.dieAt l).unacked l = [] ∧ tget [] (t.dieAt ((l + 1) % s.dies)).unacked l = [] ∧
    (tget 0 s.test.ringLoop l ≠ 0 → Changes [.die, .test] s t) ∧
    (tget 0 s.test.ringLoop l = 0 → bitOf t.reeve.rqReason 1 = true ∧
      (∀ d, d < usedDies s → 1 < usedDies s → (t.dieAt d).lost = ((s.dieAt d).lost || cutOff t d))) ∧
    Changes [.die, .port, .stream, .parish, .reeve, .timers, .test] s t)

/-- R23, R27, R363: the routes of trips. -/
def Obligations.TripRoutesReachTheOutputs : Prop :=
  ∀ (s : State) (d : Nat), d < usedDies s →
    (∀ outputs on, ∃ t, exec (.safetyOutputTripRequest d outputs on) s = .next t ∧ OutputsFollow t ∧
      (∀ o, o < 2 → bitOf (t.dieAt d).directReq o = (if bitOf outputs o = true then on else bitOf (s.dieAt d).directReq o) ∧
        (bitOf outputs o = true → on = true → bitOf (t.dieAt d).soOut o = false ∧ bitOf (t.dieAt d).soReleased o = false)) ∧
      (∀ j, j ≠ d → (t.dieAt j).directReq = (s.dieAt j).directReq) ∧ Changes [.die, .stream, .reeve] s t) ∧
    (∀ outputs, ∃ t, exec (.sidebandPairFault d outputs) s = .next t ∧ FaultTold s t d 0xC 4 d 0 ∧
      (∀ o, o < 2 → bitOf outputs o = true → bitOf (t.dieAt d).directReq o = true ∧ bitOf (t.dieAt d).soOut o = false) ∧
      Changes [.die, .stream, .parish, .reeve, .timers] s t) ∧
    (∀ c, c < 64 → (s.colAt (d * 256 + c)).level = true → (s.colAt (d * 256 + c)).dest / 4096 = 6 →
      let o := (s.colAt (d * 256 + c)).dest % 2
      ∃ t, exec (.matrixTripConfirmed d c) s = .next t ∧ OutputsFollow t ∧ bitOf (t.dieAt d).matrixReq o = true ∧
        bitOf (t.dieAt d).soOut o = false ∧ bitOf (t.dieAt d).soReleased o = false ∧ Changes [.die, .stream, .reeve] s t)

/-- R350 to R353, R434: the four commands of a commit. That DISCARD of an object of a rota leaves it EMPTY is log entry 12's reading. -/
def Obligations.CommitsAreCheckedAcceptedAndPersisted : Prop :=
  (∀ (s : State) (i : Instr) (mask p session action : Nat), p < 16 → mask < 65536 →
      (i = .commitPending mask p session ∧ action = 1) ∨ (i = .applyPending mask p session ∧ action = 2) ∨
        (i = .discardPending mask p ∧ action = 3 ∧ session = 0) →
    let armed := p = 1 ∧ openOf s p session = true ∧ ∃ v, (s.parAt 1).armed = some (v, session)
    let may (q : Nat) := p = 0 ∨ q = p ∨ (q = 0 ∧ armed)
    let keys := commitKeys s mask
    let run := s.commit.state = 1 ∨ s.commit.state = 2 ∨ s.commit.state = 3
    let held := ∃ d, okey (0x6C00 + 128 * d) 1 ∈ keys ∧ ((s.dieAt d).rotaState = 2 ∨ (s.dieAt d).rotaState = 3)
    let fails := commitFails s (if openOf s p session = true then session else 0) keys
    (∀ q, q < 16 → bitOf mask q = true → ¬may q → ∃ t, exec i s = .next t ∧ t.net.lastStatus = 0x0201 ∧
      (t.parAt p).violations = (s.parAt p).violations + 1 ∧ Changes [.net, .die, .stream, .parish, .reeve, .timers] s t) ∧
    (mask = 0 → exec i s = .next (answered s 0x0302)) ∧
    (mask ≠ 0 → (∀ q, q < 16 → bitOf mask q = true → may q) → run → exec i s = .next (answered s 0x0402)) ∧
    (mask ≠ 0 → (∀ q, q < 16 → bitOf mask q = true → may q) → ¬run →
      (action = 3 → ∃ t, exec i s = .next t ∧ t.net.lastStatus = 0 ∧ t.pend = s.pend.filter (fun e => !keys.contains e.1) ∧
        (∀ d, d < 8 → d < s.dies → okey (0x6C00 + 128 * d) 1 ∈ keys → (t.dieAt d).rotaState = 0) ∧ Changes [.net, .die, .pend, .gens] s t) ∧
      (action ≠ 3 → keys = [] → ∃ t, exec i s = .next t ∧ t.net.lastStatus = 0 ∧
        t.commit = { s.commit with state := 4, result := 0, failAt := 0, commits := s.commit.commits + 1 } ∧
        (t.parAt 1).armed = none ∧ Changes [.net, .parish, .commit] s t) ∧
      (∀ f, action ≠ 3 → keys ≠ [] → ¬held → fails = some f → f.code ≠ 0 → ∃ t, exec i s = .next t ∧ t.net.lastStatus = f.code ∧
        t.commit = { s.commit with state := 5, result := f.code, failAt := f.key } ∧ (t.parAt 1).armed = none ∧
        (∀ d, d < 8 → d < s.dies → okey (0x6C00 + 128 * d) 1 ∈ keys → (t.dieAt d).rotaState = 4) ∧
        Changes [.net, .die, .stream, .parish, .commit, .reeve, .timers] s t) ∧
      (action ≠ 3 → keys ≠ [] → ¬held → fails = none → ∃ t todo, exec i s = .next t ∧ t.net.lastStatus = 0 ∧
        t.commit = { s.commit with
          state := 2, result := 0, failAt := 0, t := stampAdd s.nowStamp 400000, commits := s.commit.commits + 1, mask := mask
          persist := action == 1, keys := keys, todo := todo ++ [255] } ∧
        (∀ d, d ∈ todo ↔ d < usedDies s ∧ (allocWrites s keys = true ∨ ∃ k ∈ keys, keyDie s k = some d)) ∧ (t.parAt 1).armed = none ∧
        (∀ d, d < 8 → d < s.dies → okey (0x6C00 + 128 * d) 1 ∈ keys →
          (t.dieAt d).rotaState = 3 ∧ (t.dieAt d).next = rotaOf ((storedIn s.pend (0x6C00 + 128 * d) 1).getD [])) ∧
        Changes [.net, .die, .parish, .commit] s t))) ∧
  (∀ (s : State) (erases : Nat), s.commit.state = 3 →
    let mine (k : Nat) : Bool := (keyOwner s k).any (fun p => bitOf s.commit.mask p)
    ∃ t, exec (.persistDone erases) s = .next t ∧ t.commit = { s.commit with state := 4 } ∧ t.persistedOther = (if keptCopy s = 0 then s.persisted else s.persistedOther) ∧
      t.fw.setCrc = crc32 (setBytes t.persisted) ∧ setGood t 0 = true ∧
      t.pend = s.pend.filter (fun e => !s.commit.keys.contains e.1) ∧ t.persistedBad = false ∧
      (∀ k, mine k = false → tget [] t.persisted k = tget [] (currentSet s) k) ∧
      (∀ k, mine k = true → tget [] t.persisted k = tget [] s.conf.reverse k) ∧
      (t.dieAt 0).fwErases = max (s.dieAt 0).fwErases erases ∧
      ((s.dieAt 0).fwErases < 20000 → 20000 ≤ erases → FaultTold s t 0 0x11 3 0xFF 0) ∧
      Changes [.die, .stream, .parish, .pend, .persisted, .persistedOther, .persistedBad, .commit, .reeve, .timers, .fw] s t)

/-- R181, R197, R198, R351, R353: images, applies and frames. -/
def Obligations.CommitsApplyAndFramesBegin : Prop :=
  (∀ (s : State) (d p session : Nat) (image : List Byte), d < usedDies s → d < s.dies → s.dies ≤ 8 → p < 16 →
    let i := Instr.nextImageWrite d p session image
    let x := s.dieAt d
    let own := rotaOwner s d = some p ∧ inRanges s p (0x6C00 + 128 * d) = true
    let busy := (commitBusy s = true ∧ bitOf s.commit.mask p = true) ∨ x.rotaState = 2 ∨ x.rotaState = 3
    (¬own → ∃ t, exec i s = .next t ∧ t.net.lastStatus = 0x0201 ∧ (t.parAt p).violations = (s.parAt p).violations + 1 ∧
      Changes [.net, .die, .stream, .parish, .reeve] s t) ∧
    let told (t : State) (code : Nat) := t.net.lastStatus = code ∧ (d = 0 ∨ x.lost = true ∨ x.logicOn = false → t = answered s code) ∧
      (∀ j, t.dieAt j = { s.dieAt j with unacked := (t.dieAt j).unacked }) ∧ Changes [.net, .die] s t
    (own → 36944 < image.length → ∃ t, exec i s = .next t ∧ told t 0x0301) ∧
    (own → image.length ≤ 36944 → x.lost = true ∨ x.logicOn = false → exec i s = .next (answered s 0x0401)) ∧
    (own → image.length ≤ 36944 → x.lost = false → x.logicOn = true → busy → ∃ t, exec i s = .next t ∧ told t 0x0402) ∧
    (own → image.length ≤ 36944 → x.lost = false → x.logicOn = true → ¬busy → ∃ t, exec i s = .next t ∧ t.net.lastStatus = 0 ∧
      t.pend = tput s.pend (okey (0x6C00 + 128 * d) 1) image ∧
      t.dieAt d = { x with rotaState := 1, unacked := (t.dieAt d).unacked } ∧
      (∀ j, j ≠ d → t.dieAt j = { s.dieAt j with unacked := (t.dieAt j).unacked }) ∧ (d = 0 → (t.dieAt 0).unacked = x.unacked) ∧
      Changes [.net, .die, .pend, .gens] s t)) ∧
  (∀ (s : State) (d : Nat), d < usedDies s → d < 8 →
    let x := s.dieAt d
    let isPort (k : Nat) := ∃ n q, keyLay s k = some (.port n q)
    (s.commit.state ≠ 2 ∨ atT s = false → exec (.commitDieApply d) s = .next s) ∧
    (s.commit.state = 2 → atT s = true → x.lost = false → x.leadLost = false → x.active.valid = false ∨ x.logicOn = false ∨ atBoundary s d = true → loopHolds s = false →
      d ∈ s.commit.todo → 255 ∈ s.commit.todo → (∀ k ∈ s.commit.keys, ¬isPort k) →
      ∃ t, exec (.commitDieApply d) s = .next t ∧ d ∉ t.commit.todo ∧ 255 ∉ t.commit.todo ∧
        (∀ k b, k ∈ s.commit.keys → keyDie s k = some d ∨ keyDie s k = none → s.pend.find? (fun e => e.1 == k) = some (k, b) →
          tget [] t.conf k = b) ∧
        (∀ k, k ∉ s.commit.keys → tget [] t.conf k = tget [] s.conf k) ∧
        ((∀ m ∈ s.commit.todo, m = d ∨ m = 255) → t.commit.todo = [] ∧ (s.commit.persist = true → t.commit.state = 3 ∧ t.pend = s.pend) ∧
          (s.commit.persist = false → t.commit.state = 4 ∧ t.pend = s.pend.filter (fun e => !s.commit.keys.contains e.1)))) ∧
    (atBoundary s d = false → exec (.frameBegin d) s = .next s) ∧
    (atBoundary s d = true → ∃ t, exec (.frameBegin d) s = .next t ∧ (starting s = false →
      bitOf t.startAnchor d = true ∧
      (s.commit.state ≠ 2 → x.failover = false → x.pointDue = none → x.bankTurn = none → bitOf s.startAnchor d = true →
        (∀ p, p < 16 → (s.parAt p).target = none) →
        let at_ := frameInstantAt s x.active
        t.dieAt d = { x with prevDigests := x.curDigests, curDigests := [], pairDone := [], standbyActive := standbyNow s d
                             frames := x.frames + 1, frameN := (at_ - tenNs x.active.phase) / tenNs x.active.frameLen
                             frameStart := some at_, instants := [], frameTick := s.ticks, frameCut := false } ∧
        (∀ j, j ≠ d → t.dieAt j = s.dieAt j) ∧ Changes [.die] s t))))

/-- R151, R184, R187 to R189, R196: nominal instants and launches. -/
def Obligations.EntriesLaunchContextsAtTheirInstants : Prop :=
  ∀ (s : State) (d i : Nat) (r : RotaEntry) (fs : Int), d < usedDies s →
    let x := s.dieAt d
    let f : Int := fs + ((r.offset % x.active.frameLen * 10 * 2 ^ 32 : Nat) : Int)
    let nom := fineStamp f
    let e := entryEngine x d r
    let w : OpenWindow := { entry := i, nominal := nom, engine := e, endAt := s.time.elapsed + r.budget * 250 }
    let inst := s.modDie d (fun y => { y with instants := i :: y.instants })
    let opened := inst.modDie d (fun y => { y with opens := y.opens ++ [w] })
    let isFree (c : Nat) := c < (s.engAt e).bench ∧ (ctxOf s e c).live = false
    let missed (t : State) (cause : Nat) := (t.dieAt d).missed = x.missed + 1 ∧
      tget 0 (t.dieAt d).missedBy cause = counted 65535 (tget 0 x.missedBy cause) ∧ (t.dieAt d).instants = i :: x.instants
    let launched (t : State) (stamp : Stamp) := ∃ c, isFree c ∧ (isFree r.hint → c = r.hint) ∧
      (¬isFree r.hint → ∀ j, j < c → ¬isFree j) ∧
      ctxOf t e c = { live := true, pc := r.entryPt, cstamp := stamp, launchStamp := stamp, entry := i, flags := r.flags, budgetEnd := w.endAt
                      readyAt := s.time.elapsed } ∧
      c ∈ (t.engAt e).ready ∧ (t.engAt e).launches = (s.engAt e).launches + 1 ∧ (∀ k, k ≠ c → ctxOf t e k = ctxOf s e k) ∧
      (∀ j, j ≠ e → t.engAt j = s.engAt j) ∧ { w with ctx := some c } ∈ (t.dieAt d).opens ∧ (t.dieAt d).missed = x.missed ∧
      Changes [.die, .engine] s t
    (x.lost = true ∨ x.logicOn = false ∨ i ∈ x.instants ∨ x.active.entries[i]? = none ∨ x.frameStart = none →
      exec (.entryNominalInstant d i) s = .next s) ∧
    (x.lost = false → x.logicOn = true → i ∉ x.instants → x.active.entries[i]? = some r → x.frameStart = some fs →
      x.active.frameLen ≠ 0 → x.frameN % ((field r.flags 7 4 + 1 : Nat) : Int) = ((r.offset / x.active.frameLen : Nat) : Int) →
      f ≤ (fineOf s.time : Int) → (∀ v ∈ x.opens, v.entry ≠ i) →
      (entryFirst s d i f = false → exec (.entryNominalInstant d i) s = .next s ∧ exec (.contextLaunch d i) s = .next s) ∧
      (entryFirst s d i f = true →
      (bitOf r.flags 1 = true → ∃ t, exec (.entryNominalInstant d i) s = .next t ∧ (t.dieAt d).instants = i :: x.instants ∧
        (t.dieAt d).opens = x.opens ++ [w] ∧ (t.portAt (d * 12 + r.engine % 12)).gapOpen = true ∧
        (t.portAt (d * 12 + r.engine % 12)).calUntil = w.endAt ∧ exec (.contextLaunch d i) s = .next s ∧ Changes [.die, .port] s t) ∧
      (bitOf r.flags 1 = false →
        (parishLaunches s (engParish s (d * 24 + r.engine)) d = false ∨ engNamed s e = false → exec (.entryNominalInstant d i) s = .next inst) ∧
        (parishLaunches s (engParish s (d * 24 + r.engine)) d = true → engNamed s e = true →
          (x.rotaNone = true ∨ i ∈ x.rotaDamaged → ∃ t, exec (.entryNominalInstant d i) s = .next t ∧ missed t 6 ∧ (t.dieAt d).opens = x.opens) ∧
          (x.rotaNone = false → i ∉ x.rotaDamaged → engHalted s e = true →
            ∃ t, exec (.entryNominalInstant d i) s = .next t ∧ missed t 4 ∧ (t.dieAt d).opens = x.opens) ∧
          (x.rotaNone = false → i ∉ x.rotaDamaged → engHalted s e = false →
            (bitOf r.flags 0 = false → exec (.contextLaunch d i) s = exec (.entryNominalInstant d i) s ∧
              ((∃ c, isFree c) → ∃ t, exec (.contextLaunch d i) s = .next t ∧ launched t nom) ∧
              ((∀ c, ¬isFree c) → ∃ t, exec (.contextLaunch d i) s = .next t ∧ missed t 2 ∧ (t.engAt e).faults = (s.engAt e).faults + 1 ∧
                (t.engAt e).lastFault = 7 + r.entryPt % 1024 * 256)) ∧
            (bitOf r.flags 0 = true → edgeFor s d r nom = none → exec (.entryNominalInstant d i) s = .next opened ∧
              exec (.contextLaunch d i) s = .next s) ∧
            (∀ stamp, bitOf r.flags 0 = true → edgeFor s d r nom = some stamp → (∃ c, isFree c) →
              ∃ t, exec (.contextLaunch d i) s = .next t ∧ exec (.entryNominalInstant d i) s = .next t ∧ launched t stamp))))))

/-- R57, R102, R167, R188, R190, R194: the ends of windows, and edges. -/
def Obligations.WindowsEndAndPinEdgesAreStamped : Prop :=
  (∀ (s : State) (d i : Nat) (w : OpenWindow) (r : RotaEntry), d < usedDies s →
    let x := s.dieAt d
    x.opens.find? (fun v => v.entry == i) = some w → x.active.entries[i]? = some r →
    let closed (t : State) := (t.dieAt d).opens = x.opens.filter (fun v => v.entry != w.entry)
    (s.time.elapsed < w.endAt → exec (.windowEnd d i) s = .next s) ∧
    (w.endAt ≤ s.time.elapsed →
      (bitOf r.flags 1 = true → ∃ t, exec (.windowEnd d i) s = .next t ∧ closed t ∧
        (t.portAt (d * 12 + r.engine % 12)).gapOpen = false ∧ (t.portAt (d * 12 + r.engine % 12)).calOffline = false ∧
        (t.dieAt d).missed = x.missed) ∧
      (bitOf r.flags 1 = false → w.ctx = none → w.done = false → ∃ t, exec (.windowEnd d i) s = .next t ∧ closed t ∧
        (t.dieAt d).missed = x.missed + 1 ∧ tget 0 (t.dieAt d).missedBy 3 = counted 65535 (tget 0 x.missedBy 3)) ∧
      (∀ c, bitOf r.flags 1 = false → w.ctx = some c → (ctxOf s w.engine c).live = true → (ctxOf s w.engine c).entry = i →
        ∃ t, exec (.windowEnd d i) s = .next t ∧ closed t ∧ (ctxOf t w.engine c).live = false ∧
          ((s.engAt w.engine).running = some c → (t.engAt w.engine).running = none) ∧ (t.dieAt d).missed = x.missed + 1 ∧
          tget 0 (t.dieAt d).missedBy 1 = counted 65535 (tget 0 x.missedBy 1)) ∧
      (∀ c, bitOf r.flags 1 = false → w.ctx = some c → (ctxOf s w.engine c).live = false →
        ∃ t, exec (.windowEnd d i) s = .next t ∧ closed t ∧ (t.dieAt d).missed = x.missed ∧ (t.dieAt d).missedBy = x.missedBy))) ∧
  (∀ (s : State) (n pin : Nat) (rising : Bool) (bins : Nat), n < usedDies s * 12 → pin < 4 →
    let x := s.portAt n
    let st := captureAt s n pin bins
    let key := edgeKey pin rising
    let bit : BitVec 4 := BitVec.ofNat 4 (2 ^ pin)
    (domainOn s n = false → exec (.pinEdge n pin rising bins) s = .next s) ∧
    (domainOn s n = true → ∃ t, exec (.pinEdge n pin rising bins) s = .next t ∧ (∀ j, j ≠ n → t.portAt j = s.portAt j) ∧
      t.portAt n = { x with
        pinIn := if rising = true then x.pinIn ||| bit else x.pinIn &&& ~~~bit
        rise := if rising = true then x.rise ||| bit else x.rise
        fall := if rising = true then x.fall else x.fall ||| bit
        edgeStamp := tput x.edgeStamp key st
        pinAt := tput x.pinAt pin s.time.elapsed
        busBusy := if x.mode = 1 ∧ pin = 1 ∧ bitOf x.pinIn.toNat 0 = true ∧ x.recovering = false ∧ (activeOp s n 0).isNone = true
          then !rising else x.busBusy
        edgeLatch := if x.mode = 1 ∧ 2 ≤ pin then tput x.edgeLatch key st else x.edgeLatch } ∧
      (∀ k rest, x.mode = 1 → 2 ≤ pin → x.queue = k :: rest → (slotOf s n k).state = 1 → drdyKey (slotOf s n k).d0 = key →
        (slotOf t n k).state = 2) ∧
      (∀ e c a, e / 24 = n / 12 → (ctxOf s e c).live = true → (ctxOf s e c).await = some a → a.kind = 1 →
        a.met = none → a.arg = n % 12 → a.sub % 4 = pin → bitOf a.sub (if rising = true then 2 else 3) = true →
        (ctxOf t e c).await = some { a with met := some st }) ∧
      Changes [.die, .port, .engine, .stream, .rule, .parish, .reeve, .timers] s t))

/-- R206, R208, R210 to R212: outputs, release and rounds. -/
def Obligations.MillOutputsAreComputedAndReleased : Prop :=
  (∀ (s : State) (c : Nat), c < usedDies s * 16 →
    let d := c / 16
    let y := s.millAt c
    let first (k : Nat) := (s.millAt k).waiting.find? (fun o => !o.ready)
    let l := (releasable (s.dieAt d).round y.waiting).take 64
    (∀ pre o post, y.waiting = pre ++ o :: post → (∀ v ∈ pre, v.ready = true) → o.ready = false → (s.dieAt d).logicOn = true →
      ((∀ k q, k < 16 → first (d * 16 + k) = some q → o.round < q.round ∨ (o.round = q.round ∧ c % 16 ≤ k)) →
        exec (.millOutputComputed c) s = .next (s.modMill c (fun z => { z with waiting := pre ++ { o with ready := true } :: post }))) ∧
      (∀ k q, k < 16 → first (d * 16 + k) = some q → q.round < o.round ∨ (q.round = o.round ∧ k < c % 16) →
        exec (.millOutputComputed c) s = .next s)) ∧
    (l = [] → exec (.millSlot c) s = .next s) ∧
    (l ≠ [] → (s.dieAt d).logicOn = true → y.halted = false → ∃ t, exec (.millSlot c) s = .next t ∧
      (t.millAt c).waiting = y.waiting.drop l.length ∧ (t.millAt c).outputs = y.outputs + BitVec.ofNat 32 l.length ∧
      (∀ o, l.getLast? = some o → (t.millAt c).lastOut = o.word ∧ (t.millAt c).lastStamp = o.stamp) ∧
      (t.millAt c).history = y.history ∧ (t.millAt c).img = y.img ∧ (∀ k, k ≠ c → t.millAt k = s.millAt k) ∧
      (∀ o, l = [o] → o.stream < 0x1F0 → let k := d * 512 + o.stream
        ringSize s k ≠ 0 → streamPolicy s k = 0 → (∀ r ∈ (s.streamAt k).ring, r.pinned = false) →
        ∃ r, (t.streamAt k).ring.getLast? = some r ∧ r.words = [o.word] ∧ r.stamp = o.stamp ∧
          r.pcode = 32 + (millOwner s c).getD 0 % 16 ∧ bitOf r.flags 0 = y.staleNext ∧ bitOf r.flags 6 = o.word.getLsbD 30) ∧
      Changes [.die, .stream, .mill, .rule, .parish, .reeve, .timers] s t)) ∧
  (∀ (s : State) (d : Nat), d < usedDies s → (s.dieAt d).logicOn = true →
    let x := s.dieAt d
    let kept := (x.oldLags.map (fun q => (q.1, q.2 - 1))).filter (fun q => q.2 != 0)
    ∃ t, exec (.millRound d) s = .next t ∧ (∀ j, j ≠ d → t.dieAt j = s.dieAt j) ∧ Changes [.die, .mill] s t ∧
      (∀ l, x.lagNext = some l → t.dieAt d = { x with
        round := x.round + 1, lag := l, lagNext := none
        oldLags := if l < x.lag then kept ++ [(x.lag, x.lag)] else kept }) ∧
      (x.lagNext = none → t.dieAt d = { x with round := x.round + 1, oldLags := kept }) ∧
      ∀ c, (c / 16 ≠ d ∨ (s.millAt c).next = none → t.millAt c = s.millAt c) ∧
        ∀ m, c / 16 = d → (s.millAt c).next = some m →
          let y := s.millAt c
          let keeps := y.img.enable = true ∧ m.enable = true ∧ y.halted = false ∧ { y.img with coeffs := m.coeffs, shift := m.shift } = m
          (keeps → t.millAt c = { y with img := m, next := none, since := 0, settled := false }) ∧
          (¬keeps → t.millAt c = { y with
            img := m, next := none, history := [], count := 0, since := 0, settled := false, halted := false, lastIn := none }))

/-- R217 to R221: judgments of the sieve. -/
def Obligations.RulesJudgeTheirOffers : Prop :=
  ∀ (s : State) (g : Nat), g < usedDies s * 64 →
    let d := g / 64
    let x := s.ruleAt g
    let m := x.img
    let acts := m.present = true ∧ thas (s.dieAt d).reloadDue (0x8400 + g) = false ∧
      (m.type = 5 ∨ m.type = 7 ∨ ∃ p, ruleOwner s g = some p ∧ parStateOn s p d ≠ 4)
    let check (due : Nat) := (due + 249) / 250 * 250
    let counts (t : State) := (t.ruleAt g).events =
      if (t.ruleAt g).out ≠ x.out ∧ bitOf (field m.mode 2 1) (if (t.ruleAt g).out = true then 0 else 1) = true then x.events + 1 else x.events
    ((s.dieAt d).offers = [] → exec (.sieveOfferEval d) s = .next s) ∧
    (∀ o rest, (s.dieAt d).offers = o :: rest → o.rule = g % 64 → (s.dieAt d).logicOn = true →
      let v := o.value
      (expiryWaits s d = true → exec (.sieveOfferEval d) s = .next s) ∧
      (expiryWaits s d = false → ¬acts → ∃ t, exec (.sieveOfferEval d) s = .next t ∧ (t.dieAt d).offers = rest ∧ t.rule = s.rule) ∧
      (expiryWaits s d = false → acts → m.srcKind ≠ 6 → ∃ t, exec (.sieveOfferEval d) s = .next t ∧
        (t.ruleAt g).img = m ∧ (t.ruleAt g).lastValue = v ∧ (t.ruleAt g).lastStamp = o.stamp ∧ (t.ruleAt g).heard = o.arrived ∧
        (m.type = 0 → bitOf m.mode 0 = false → (t.ruleAt g).primed = true ∧ counts t ∧
          (t.ruleAt g).out = if m.a ≤ v then true else if v < m.b then false else x.out) ∧
        (m.type = 0 → bitOf m.mode 0 = true → (t.ruleAt g).primed = true ∧ counts t ∧
          (t.ruleAt g).out = if v ≤ m.a then true else if m.b < v then false else x.out) ∧
        (m.type = 1 → (t.ruleAt g).primed = true ∧ counts t ∧ (t.ruleAt g).out = ((decide (m.b ≤ v ∧ v ≤ m.a)) != bitOf m.mode 0)) ∧
        (m.type = 6 → x.primed = false → (t.ruleAt g).primed = true ∧ (t.ruleAt g).ref = v ∧ (t.ruleAt g).out = x.out) ∧
        (m.type = 6 → x.primed = true → counts t ∧ (if m.a < ((v - x.ref).natAbs : Int)
          then (t.ruleAt g).ref = v ∧ (t.ruleAt g).out = !x.out else (t.ruleAt g).ref = x.ref ∧ (t.ruleAt g).out = x.out)) ∧
        (∀ k, k / 64 ≠ d → (t.ruleAt k).out = (s.ruleAt k).out ∧ (t.ruleAt k).primed = (s.ruleAt k).primed) ∧
        Changes [.die, .stream, .rule, .parish, .reeve, .timers] s t)) ∧
    (acts → (s.dieAt d).logicOn = true → x.primed = true → m.srcKind ≠ 6 →
      (∀ a, m.type = 3 → x.out = true → x.arrivals[m.n - 1]? = some a →
        (s.time.elapsed < check (a + m.t * 250) → exec (.sieveTimerExpiry g) s = .next s) ∧
        (check (a + m.t * 250) ≤ s.time.elapsed → ∃ t, exec (.sieveTimerExpiry g) s = .next t ∧ (t.ruleAt g).out = false ∧ counts t ∧
          (t.ruleAt g).arrivals = x.arrivals ∧ Changes [.die, .stream, .rule, .parish, .reeve, .timers] s t)) ∧
      (∀ a, m.type = 4 → x.out = false → x.lastC = true → x.arrivals.head? = some a →
        (s.time.elapsed < check (a + m.t * 250) → exec (.sieveTimerExpiry g) s = .next s) ∧
        (check (a + m.t * 250) ≤ s.time.elapsed → ∃ t, exec (.sieveTimerExpiry g) s = .next t ∧ (t.ruleAt g).out = true ∧ counts t ∧
          Changes [.die, .stream, .rule, .parish, .reeve, .timers] s t))) ∧
    (x.primed = false ∨ m.silence = 0 ∨ s.time.elapsed < check (x.heard + m.silence * 250000) →
      exec (.sieveSilenceExpiry g) s = .next s) ∧
    (acts → (s.dieAt d).logicOn = true → x.primed = true → m.silence ≠ 0 → check (x.heard + m.silence * 250000) ≤ s.time.elapsed →
      m.type ≠ 5 → m.type ≠ 7 → m.srcKind ≠ 6 → ∃ t, exec (.sieveSilenceExpiry g) s = .next t ∧ (t.ruleAt g).primed = false ∧
        (t.ruleAt g).out = m.failValue ∧ counts t ∧ (t.ruleAt g).hist = [] ∧ (t.ruleAt g).fails = counted 65535 x.fails ∧
        (x.out = m.failValue → FaultTold s t d 0xE 1 g ((ruleOwner s g).getD 0)) ∧
        Changes [.die, .stream, .rule, .parish, .reeve, .timers] s t)

/-- The step of the block. The queue, and what an empty one lets pass, are the model's own choice (log entry 4). -/
def Obligations.StepRunsTheFrontCommand : Prop :=
  (∀ (s : State) (c : Instr) (rest : List Instr), s.pending = c :: rest → step s = exec c { s with pending := rest }) ∧
    ∀ s : State, s.pending = [] →
      (s.power.state = 2 ∨ s.power.state = 3 → step s = .next { s with power := { s.power with lprc := s.power.lprc + 1 } }) ∧
      (inFinal s = true → step s = .next { s with power := { s.power with lprcEnd := min 4 (s.power.lprcEnd + 1) } }) ∧
      (s.power.state ≠ 2 → s.power.state ≠ 3 → inFinal s = false → step s = .next s)

/-- State.reset. The number of dies, SERIAL, MAC_ADDR and the zeros of scratch are the model's own choice (log entries 5 and 6). -/
def Obligations.ResetStateIsSound : Prop :=
  let s := State.reset
  Sound s ∧ s.pending = [] ∧ s.dictReady = false ∧ s.time.seconds = 0 ∧ s.time.nanos = 0 ∧ s.time.rate = 4 * 2 ^ 32 ∧
    s.time.rateForce = 4 * 2 ^ 32 ∧ s.sessions = [] ∧ s.pend = [] ∧ s.conf = [] ∧
    (∀ p, p ≠ 0 → parishState s p = 0 ∧ (s.parAt p).key = none) ∧ (∀ e, (s.engAt e).running = none ∧ (s.engAt e).ctxs = []) ∧
    (∀ d, (s.dieAt d).soOut = 0) ∧ (∀ e a, Memory.read (s.engAt e).scratch a = 0)

/-- R155 to R157, R161, R167, R171 to R175: words of the tap engines. -/
def Obligations.WordsOfTheSpecDecode : Prop :=
  decodeWord 5 0x04400001#32 = some (.addi 5 1 0 1) ∧ decodeWord 5 0x20800100#32 = some (.lui 5 2 0x100) ∧
    decodeWord 5 0xACC40000#32 = some (.issueAna 5 3 1 0 0) ∧ decodeWord 5 0xD50C0000#32 = some (.awaitComp 5 4 3) ∧
    decodeWord 5 0x80800057#32 = some (.branch 5 2 0x57) ∧ decodeWord 5 0xC5C88000#32 = some (.emit 5 7 2 2) ∧
    decodeWord 5 0xC5C92000#32 = some (.emitS 5 7 2 4) ∧ decodeWord 5 0xD8000000#32 = some (.yield 5) ∧
    decodeWord 5 0x65800F20#32 = some (.ioOut 5 6 0 0xF20) ∧ decodeWord 5 0xCDD40000#32 = some (.sieveOffer 5 7 5) ∧
    decodeWord 5 0xA0C40000#32 = some (.issueTw 5 3 1 0 0) ∧ decodeWord 5 0x00488000#32 = some (.add 5 1 2 2) ∧
    decodeWord 5 0x24080005#32 = some (.cmpi 5 2 5) ∧
    decodeWord 5 0xFC000000#32 = none ∧ decodeWord 5 0x00000013#32 = none ∧ decodeWord 5 0x83400000#32 = none

/-- R155 to R175: decode of encode is the instruction, and encode of decode is the word. -/
def Obligations.EncodingAndDecodingAgree : Prop :=
  (∀ (i : Instr) (w : BitVec 32), i.wf = true → encodeWord i = some w → ∃ e, e < 192 ∧ decodeWord e w = some i) ∧
    ∀ (e : Nat) (w : BitVec 32) (i : Instr), decodeWord e w = some i → encodeWord i = some w

/-- R1, R36, R37, R347: an invariant of every step. The canonical form is the model's own. -/
def Obligations.EveryStepKeepsTheInvariant : Prop :=
  ∀ s t : State, Sound s → step s = .next t → Sound t ∧ t.dies = s.dies ∧ t.serial = s.serial ∧ t.mac = s.mac ∧
    t.pending = s.pending.tail

/-- R6, R9: no command that could be executed stops. That an event of a missing unit stops is log entry 3's choice. -/
def Obligations.EveryWellFormedCommandCompletes : Prop :=
  (∀ (s : State) (i : Instr), Genuine s → i.wfFor (usedDies s) = true → (∀ d kind item sub, i ≠ .scrubWord d 2 kind item sub) →
      (∀ n err count, i ≠ .loopbackDone 3 n err count) → ∃ t, exec i s = .next t) ∧
    ∀ (s : State),
      (∀ d, usedDies s ≤ d → exec (.frameBegin d) s = .fault (.noSuchResource "die")) ∧
      (∀ n, usedDies s * 12 ≤ n → exec (.uartIdleGap n) s = .fault (.noSuchResource "port")) ∧
      (∀ e, usedDies s * 24 ≤ e → exec (.contextDispatch e) s = .fault (.noSuchResource "engine")) ∧
      (∀ p, 16 ≤ p → exec (.testTimeExpiry p) s = .fault (.noSuchResource "parish")) ∧
      (∀ n, 3 ≤ n → exec (.linkUp n) s = .fault (.noSuchResource "network port")) ∧
      (∀ n i, usedDies s * 12 ≤ n → i ∈ [.calReq n, .quarCtlHold n, .quarCtlRelease n, .quarCtlProbe n, .portLoopL0 n, .portLoopL1 n,
        .portLoopL2 n, .portLoopL3 n] → exec i s = .next (answered s 0x0101)) ∧
      (∀ k v i, usedDies s * 32 ≤ k → i ∈ [.tallyStart k, .tallyStop k, .tallyReset k, .topWrite k v, .cmpWrite k v] →
        exec i s = .next (answered s 0x0101)) ∧
      (∀ p session value i, 16 ≤ p → i ∈ [.stateReqRun p, .stateReqHalt p, .keyWrite p session value, .logTrigger p] →
        exec i s = .next (answered s 0x0101)) ∧
      (∀ d p session image, usedDies s ≤ d → p < 16 → exec (.nextImageWrite d p session image) s = .next (answered s 0x0101))
end

