-- ==== Sys2Proof/Laws/Changes.lean ====
section
/-! SUPPORT. How changes compose: through a further effect, a fold, a choice and a premise. -/

namespace Sys2Proof.Machine

theorem Changes.refl (l : List Piece) (s : State) : Changes l s s := fun f _ => by cases f <;> rfl

theorem Changes.trans {l : List Piece} {a b c : State} (h : Changes l a b) (k : Changes l b c) : Changes l a c := by
  intro f hf
  have h1 := h f hf
  have h2 := k f hf
  cases f <;> exact Eq.trans h2 h1

/-- A further effect whose pieces are among those listed. -/
theorem Changes.after {l m : List Piece} {a b c : State} (h : Changes l a b) (k : Changes m b c)
    (hm : m.all (fun f => l.contains f) = true) : Changes l a c :=
  h.trans (fun f hf => k f (by
    by_contra hc
    have h1 : m.contains f = true := by simpa using hc
    have h2 := List.all_eq_true.mp hm f (List.contains_iff_mem.mp h1)
    rw [hf] at h2
    exact absurd h2 (by simp)))

theorem Changes.foldl {α : Type} {l : List Piece} {a : State} {g : State → α → State} {b : State} {xs : List α}
    (hg : ∀ x i, Changes l x (g x i)) (h : Changes l a b) : Changes l a (xs.foldl g b) := by
  induction xs generalizing b with
  | nil => exact h
  | cons i t ih => exact ih (h.trans (hg b i))

theorem Changes.ite {l : List Piece} {a b c : State} {p : Prop} {i : Decidable p} (h : Changes l a b) (k : Changes l a c) :
    Changes l a (if p then b else c) := by split <;> assumption

theorem Changes.given {l : List Piece} {a b c : State} {q : Bool} (h : Changes l a b) (k : Changes l a c) :
    Changes l a (given q b c) := by cases q <;> assumption

theorem ChangesOnly.next {l : List Piece} {s t : State} (h : Changes l s t) : ChangesOnly l s (.next t) := by
  rintro u ⟨⟩
  exact h

theorem ChangesOnly.fault {l : List Piece} {s : State} (r : Fault) : ChangesOnly l s (.fault r) := by
  rintro u ⟨⟩

theorem ChangesOnly.withUnit {l : List Piece} {s t : State} {c : Bool} {u : String} (h : Changes l s t) :
    ChangesOnly l s (withUnit c u t) := by
  cases c
  · exact ChangesOnly.fault _
  · exact ChangesOnly.next h

theorem ChangesOnly.withDie {l : List Piece} {s x t : State} {d : Nat} (h : Changes l s t) : ChangesOnly l s (withDie x d t) :=
  ChangesOnly.withUnit h

theorem ChangesOnly.withPort {l : List Piece} {s x t : State} {d : Nat} (h : Changes l s t) : ChangesOnly l s (withPort x d t) :=
  ChangesOnly.withUnit h

theorem ChangesOnly.withEngine {l : List Piece} {s x t : State} {d : Nat} (h : Changes l s t) : ChangesOnly l s (withEngine x d t) :=
  ChangesOnly.withUnit h

theorem ChangesOnly.withStream {l : List Piece} {s x t : State} {d : Nat} (h : Changes l s t) : ChangesOnly l s (withStream x d t) :=
  ChangesOnly.withUnit h

theorem ChangesOnly.withMill {l : List Piece} {s x t : State} {d : Nat} (h : Changes l s t) : ChangesOnly l s (withMill x d t) :=
  ChangesOnly.withUnit h

theorem ChangesOnly.withRule {l : List Piece} {s x t : State} {d : Nat} (h : Changes l s t) : ChangesOnly l s (withRule x d t) :=
  ChangesOnly.withUnit h

theorem ChangesOnly.withTally {l : List Piece} {s x t : State} {d : Nat} (h : Changes l s t) : ChangesOnly l s (withTally x d t) :=
  ChangesOnly.withUnit h

theorem ChangesOnly.withNet {l : List Piece} {s t : State} {d : Nat} (h : Changes l s t) : ChangesOnly l s (withNet d t) :=
  ChangesOnly.withUnit h

theorem ChangesOnly.withParish {l : List Piece} {s t : State} {d : Nat} (h : Changes l s t) : ChangesOnly l s (withParish d t) :=
  ChangesOnly.withUnit h

theorem ChangesOnly.ite {l : List Piece} {s : State} {b c : Result State} {p : Prop} {i : Decidable p} (h : ChangesOnly l s b)
    (k : ChangesOnly l s c) : ChangesOnly l s (if p then b else c) := by split <;> assumption

end Sys2Proof.Machine
end

