-- ==== Sys2Proof/Laws/Ops.lean ====
section
/-! SUPPORT. What each function of Sys2Proof/Machine/Ops.lean can change. -/

namespace Sys2Proof.Machine

theorem State.modEng_changes (s : State) (x1 : Nat) (x2 : (Engine → Engine)) :
    Changes [.engine] s (State.modEng s x1 x2) := by unfold State.modEng; exact (Changes.trans (Changes.refl _ _) (fun f hf => by cases f <;> first | (cases hf; done) | dsimp only [Piece.same]))

theorem State.modDie_changes (s : State) (x1 : Nat) (x2 : (Die → Die)) :
    Changes [.die] s (State.modDie s x1 x2) := by unfold State.modDie; exact (Changes.trans (Changes.refl _ _) (fun f hf => by cases f <;> first | (cases hf; done) | dsimp only [Piece.same]))

theorem State.modPort_changes (s : State) (x1 : Nat) (x2 : (Port → Port)) :
    Changes [.port] s (State.modPort s x1 x2) := by unfold State.modPort; exact (Changes.trans (Changes.refl _ _) (fun f hf => by cases f <;> first | (cases hf; done) | dsimp only [Piece.same]))

theorem State.modStream_changes (s : State) (x1 : Nat) (x2 : (Stream → Stream)) :
    Changes [.stream] s (State.modStream s x1 x2) := by unfold State.modStream; exact (Changes.trans (Changes.refl _ _) (fun f hf => by cases f <;> first | (cases hf; done) | dsimp only [Piece.same]))

theorem State.modPar_changes (s : State) (x1 : Nat) (x2 : (Parish → Parish)) :
    Changes [.parish] s (State.modPar s x1 x2) := by unfold State.modPar; exact (Changes.trans (Changes.refl _ _) (fun f hf => by cases f <;> first | (cases hf; done) | dsimp only [Piece.same]))

theorem active_changes (s : State) :
    Changes [.timers] s (active s) := by unfold active; exact (Changes.trans (Changes.refl _ _) (fun f hf => by cases f <;> first | (cases hf; done) | dsimp only [Piece.same]))

theorem crierReason_changes (s : State) (x1 x2 x3 : Nat) :
    Changes [.parish, .timers] s (crierReason s x1 x2 x3) := by unfold crierReason; exact (Changes.ite (Changes.after (Changes.after (Changes.refl _ _) (active_changes _) rfl) (State.modPar_changes _ _ _) rfl) (Changes.refl _ _))

theorem markReasons_changes (s : State) (x1 : Nat) :
    Changes [.parish, .timers] s (markReasons s x1) := by unfold markReasons; exact (by (try dsimp only); split; exacts [(Changes.refl _ _), (Changes.ite (Changes.ite (Changes.after (Changes.ite (Changes.after (Changes.refl _ _) (crierReason_changes _ _ _ _) rfl) (Changes.refl _ _)) (crierReason_changes _ _ _ _) rfl) (Changes.ite (Changes.after (Changes.refl _ _) (crierReason_changes _ _ _ _) rfl) (Changes.refl _ _))) (Changes.refl _ _))])

theorem logContinuous_changes (s : State) (x1 : Nat) (x2 : Rec) :
    Changes [.die] s (logContinuous s x1 x2) := by unfold logContinuous; exact (Changes.ite (by (try dsimp only); split; exacts [(Changes.refl _ _), (Changes.ite (Changes.refl _ _) (Changes.after (Changes.refl _ _) (State.modDie_changes _ _ _) rfl))]) (Changes.refl _ _))

theorem ringEnter_changes (s : State) (x1 : Nat) (x2 : Rec) :
    Changes [.die, .stream, .parish, .timers] s (ringEnter s x1 x2) := by unfold ringEnter; exact (Changes.ite (Changes.after (Changes.refl _ _) (State.modStream_changes _ _ _) rfl) (by (try dsimp only); split; exacts [(Changes.after (Changes.refl _ _) (State.modStream_changes _ _ _) rfl), (Changes.after (Changes.after (Changes.after (Changes.refl _ _) (State.modStream_changes _ _ _) rfl) (logContinuous_changes _ _ _) rfl) (markReasons_changes _ _) rfl)]))

theorem faultRecord_changes (s : State) (x1 x2 x3 x4 x5 : Nat) (x6 : (Nat → List Word)) :
    Changes [.die, .stream, .parish, .reeve, .timers] s (faultRecord s x1 x2 x3 x4 x5 x6) := by unfold faultRecord; exact (Changes.ite (Changes.after (Changes.refl _ _) (State.modDie_changes _ _ _) rfl) (Changes.ite (Changes.trans (Changes.after (Changes.after (Changes.refl _ _) (State.modDie_changes _ _ _) rfl) (ringEnter_changes _ _ _) rfl) (fun f hf => by cases f <;> first | (cases hf; done) | dsimp only [Piece.same])) (Changes.after (Changes.trans (Changes.after (Changes.after (Changes.refl _ _) (State.modDie_changes _ _ _) rfl) (ringEnter_changes _ _ _) rfl) (fun f hf => by cases f <;> first | (cases hf; done) | dsimp only [Piece.same])) (crierReason_changes _ _ _ _) rfl)))

theorem violationCount_changes (s : State) (x1 : Nat) :
    Changes [.parish] s (violationCount s x1) := by unfold violationCount; exact (Changes.after (Changes.refl _ _) (State.modPar_changes _ _ _) rfl)

theorem State.modTally_changes (s : State) (x1 : Nat) (x2 : (Tally → Tally)) :
    Changes [.tally] s (State.modTally s x1 x2) := by unfold State.modTally; exact (Changes.trans (Changes.refl _ _) (fun f hf => by cases f <;> first | (cases hf; done) | dsimp only [Piece.same]))

theorem faultItem_changes (s : State) (x1 x2 x3 x4 x5 x6 : Nat) :
    Changes [.die, .stream, .parish, .reeve, .timers] s (faultItem s x1 x2 x3 x4 x5 x6) := by unfold faultItem; exact (Changes.after (Changes.refl _ _) (faultRecord_changes _ _ _ _ _ _ _) rfl)

theorem State.modNet_changes (s : State) (x1 : Nat) (x2 : (NetPort → NetPort)) :
    Changes [.netPorts] s (State.modNet s x1 x2) := by unfold State.modNet; exact (Changes.trans (Changes.refl _ _) (fun f hf => by cases f <;> first | (cases hf; done) | dsimp only [Piece.same]))

theorem violation_changes (s : State) (x1 x2 x3 x4 x5 x6 x7 : Nat) :
    Changes [.die, .stream, .parish, .reeve, .timers] s (violation s x1 x2 x3 x4 x5 x6 x7) := by unfold violation; exact (Changes.after (Changes.after (Changes.refl _ _) (faultRecord_changes _ _ _ _ _ _ _) rfl) (violationCount_changes _ _) rfl)

theorem State.draw_changes (s : State) (x1 : Nat) :
    Changes [.free] s (State.draw s x1).2 := by unfold State.draw; exact (Changes.trans (Changes.refl _ _) (fun f hf => by cases f <;> first | (cases hf; done) | dsimp only [Piece.same]))

theorem requestReason_changes (s : State) (x1 x2 : Nat) :
    Changes [.die, .stream, .parish, .reeve, .timers] s (requestReason s x1 x2) := by unfold requestReason; exact (Changes.ite (Changes.trans (Changes.refl _ _) (fun f hf => by cases f <;> first | (cases hf; done) | dsimp only [Piece.same])) (Changes.after (Changes.trans (Changes.refl _ _) (fun f hf => by cases f <;> first | (cases hf; done) | dsimp only [Piece.same])) (faultItem_changes _ _ _ _ _ _ _) rfl))

theorem State.modPtp_changes (s : State) (x1 : Nat) (x2 : (PtpPort → PtpPort)) :
    Changes [.ptp] s (State.modPtp s x1 x2) := by unfold State.modPtp; exact (Changes.trans (Changes.refl _ _) (fun f hf => by cases f <;> first | (cases hf; done) | dsimp only [Piece.same]))

theorem State.modMill_changes (s : State) (x1 : Nat) (x2 : (MillChan → MillChan)) :
    Changes [.mill] s (State.modMill s x1 x2) := by unfold State.modMill; exact (Changes.trans (Changes.refl _ _) (fun f hf => by cases f <;> first | (cases hf; done) | dsimp only [Piece.same]))

theorem State.modRule_changes (s : State) (x1 : Nat) (x2 : (Rule → Rule)) :
    Changes [.rule] s (State.modRule s x1 x2) := by unfold State.modRule; exact (Changes.trans (Changes.refl _ _) (fun f hf => by cases f <;> first | (cases hf; done) | dsimp only [Piece.same]))

theorem State.modRow_changes (s : State) (x1 : Nat) (x2 : (Row → Row)) :
    Changes [.row] s (State.modRow s x1 x2) := by unfold State.modRow; exact (Changes.trans (Changes.refl _ _) (fun f hf => by cases f <;> first | (cases hf; done) | dsimp only [Piece.same]))

theorem State.modCol_changes (s : State) (x1 : Nat) (x2 : (Col → Col)) :
    Changes [.col] s (State.modCol s x1 x2) := by unfold State.modCol; exact (Changes.trans (Changes.refl _ _) (fun f hf => by cases f <;> first | (cases hf; done) | dsimp only [Piece.same]))

theorem anchorAll_changes (s : State) (x1 : Nat) :
    Changes [.die, .stream, .parish, .timers] s (anchorAll s x1) := by unfold anchorAll; exact (Changes.foldl (fun _ _ => (Changes.after (Changes.refl _ _) (ringEnter_changes _ _ _) rfl)) (Changes.refl _ _))

theorem vpWindows_changes (s : State) :
    Changes [.port] s (vpWindows s) := by unfold vpWindows; exact (Changes.ite (Changes.trans (Changes.refl _ _) (fun f hf => by cases f <;> first | (cases hf; done) | dsimp only [Piece.same])) (Changes.refl _ _))

end Sys2Proof.Machine
end

