-- ==== Sys2Proof/Laws/Reset.lean ====
section
/-! SUPPORT. What each function of Sys2Proof/Machine/Reset.lean can change. -/

namespace Sys2Proof.Machine

theorem bootSlot_changes (s : State) (x1 : Nat) :
    Changes [.fw] s (bootSlot s x1) := by unfold bootSlot; exact (Changes.trans (Changes.refl _ _) (fun f hf => by cases f <;> first | (cases hf; done) | dsimp only [Piece.same]))

theorem bootFirmware_changes (s : State) :
    Changes [.fw] s (bootFirmware s) := by unfold bootFirmware; exact (Changes.ite (Changes.after (Changes.refl _ _) (bootSlot_changes _ _) rfl) (Changes.ite (Changes.after (Changes.refl _ _) (bootSlot_changes _ _) rfl) (Changes.trans (Changes.refl _ _) (fun f hf => by cases f <;> first | (cases hf; done) | dsimp only [Piece.same]))))

theorem testenErase_changes (s : State) :
    Changes [.resetCause, .parish, .persisted, .persistedOther, .fw, .test] s (testenErase s) := by unfold testenErase; exact (Changes.ite (Changes.trans (Changes.refl _ _) (fun f hf => by cases f <;> first | (cases hf; done) | dsimp only [Piece.same])) (Changes.trans (Changes.refl _ _) (fun f hf => by cases f <;> first | (cases hf; done) | dsimp only [Piece.same])))

theorem loadPersisted_changes (s : State) :
    Changes [.die, .stream, .parish, .conf, .persistedBad, .reeve, .timers] s (loadPersisted s) := by unfold loadPersisted; exact (Changes.ite (Changes.trans (Changes.refl _ _) (fun f hf => by cases f <;> first | (cases hf; done) | dsimp only [Piece.same])) (Changes.ite (Changes.trans (Changes.refl _ _) (fun f hf => by cases f <;> first | (cases hf; done) | dsimp only [Piece.same])) (Changes.after (Changes.trans (Changes.refl _ _) (fun f hf => by cases f <;> first | (cases hf; done) | dsimp only [Piece.same])) (faultItem_changes _ _ _ _ _ _ _) rfl)))

theorem startReasons_changes (s : State) :
    Changes [.die, .stream, .parish, .reeve, .timers] s (startReasons s) := by unfold startReasons; exact (Changes.ite (Changes.foldl (fun _ _ => (Changes.ite (Changes.after (Changes.refl _ _) (requestReason_changes _ _ _) rfl) (Changes.refl _ _))) (Changes.foldl (fun _ _ => (Changes.ite (Changes.after (Changes.refl _ _) (requestReason_changes _ _ _) rfl) (Changes.refl _ _))) (Changes.refl _ _))) (Changes.after (Changes.foldl (fun _ _ => (Changes.ite (Changes.after (Changes.refl _ _) (requestReason_changes _ _ _) rfl) (Changes.refl _ _))) (Changes.foldl (fun _ _ => (Changes.ite (Changes.after (Changes.refl _ _) (requestReason_changes _ _ _) rfl) (Changes.refl _ _))) (Changes.refl _ _))) (requestReason_changes _ _ _) rfl))

theorem startUp_changes (s : State) : Changes [.cmpt, .resetCause, .dictReady, .svc, .die, .port, .stream, .parish, .conf, .persisted, .persistedOther, .persistedBad, .reeve, .timers, .power, .fw, .test] s (startUp s) := by
  have h1 : Changes [.cmpt, .resetCause, .dictReady, .svc, .die, .port, .stream, .parish, .conf, .persisted, .persistedOther, .persistedBad, .reeve, .timers, .power, .fw, .test] s (bootFirmware (testenErase s)) :=
    Changes.after (Changes.after (Changes.refl _ _) (testenErase_changes _) rfl) (bootFirmware_changes _) rfl
  have h2 := Changes.after h1 (loadPersisted_changes _) rfl
  unfold startUp
  extract_lets s1 s2 sel s3 s4 s5
  have h3 : Changes [.cmpt, .resetCause, .dictReady, .svc, .die, .port, .stream, .parish, .conf, .persisted, .persistedOther, .persistedBad, .reeve, .timers, .power, .fw, .test] s s3 :=
    h2.trans (fun f hf => by cases f <;> first | (cases hf; done) | rfl)
  have h4 : Changes [.cmpt, .resetCause, .dictReady, .svc, .die, .port, .stream, .parish, .conf, .persisted, .persistedOther, .persistedBad, .reeve, .timers, .power, .fw, .test] s s4 :=
    Changes.foldl (fun _ _ => Changes.after (Changes.refl _ _) (State.modDie_changes _ _ _) rfl) h3
  have h5 : Changes [.cmpt, .resetCause, .dictReady, .svc, .die, .port, .stream, .parish, .conf, .persisted, .persistedOther, .persistedBad, .reeve, .timers, .power, .fw, .test] s s5 :=
    Changes.foldl (fun _ _ => Changes.after (Changes.refl _ _) (State.modPort_changes _ _ _) rfl) h4
  refine Changes.ite (Changes.after h1 (requestReason_changes _ _ _) rfl) ?_
  exact Changes.after (h5.trans (fun f hf => by cases f <;> first | (cases hf; done) | rfl)) (startReasons_changes _) rfl

theorem resetPart_changes (s : State) (x1 : Nat) :
    Changes Piece.served s (resetPart s x1) := by unfold resetPart; exact (Changes.trans (Changes.refl _ _) (fun f hf => by cases f <;> first | (cases hf; done) | dsimp only [Piece.same]))

end Sys2Proof.Machine
end

