-- ==== Sys2Proof/Laws/Reeve.lean ====
section
/-! SUPPORT. What each function of Sys2Proof/Machine/Reeve.lean can change. -/

namespace Sys2Proof.Machine

theorem soRefreshDie_changes (s : State) (x1 : Nat) :
    Changes [.die] s (soRefreshDie s x1) := by unfold soRefreshDie; exact (Changes.after (Changes.after (Changes.refl _ _) (State.modDie_changes _ _ _) rfl) (State.modDie_changes _ _ _) rfl)

theorem captureTrigger_changes (s : State) (x1 x2 : Nat) :
    Changes [.die, .stream] s (captureTrigger s x1 x2) := by unfold captureTrigger; exact (Changes.ite (Changes.refl _ _) (Changes.foldl (fun _ _ => (Changes.after (Changes.refl _ _) (State.modStream_changes _ _ _) rfl)) (Changes.after (Changes.refl _ _) (State.modDie_changes _ _ _) rfl)))

theorem soRefresh_changes (s : State) :
    Changes [.die, .stream, .reeve] s (soRefresh s) := by unfold soRefresh; exact (Changes.foldl (fun _ _ => (Changes.ite (Changes.after (Changes.refl _ _) (captureTrigger_changes _ _ _) rfl) (Changes.refl _ _))) (Changes.trans (Changes.foldl (fun _ _ => (Changes.after (Changes.refl _ _) (soRefreshDie_changes _ _) rfl)) (Changes.refl _ _)) (fun f hf => by cases f <;> first | (cases hf; done) | dsimp only [Piece.same])))

theorem decideState_changes (s : State) (x1 x2 : Nat) :
    Changes [.parish] s (decideState s x1 x2) := by unfold decideState; exact (Changes.ite (Changes.refl _ _) (Changes.after (Changes.refl _ _) (State.modPar_changes _ _ _) rfl))

theorem judgeDangerous_changes (s : State) (x1 : Nat × Nat × Nat × Nat) :
    Changes [.reeve] s (judgeDangerous s x1) := by unfold judgeDangerous; exact (by (try dsimp only); split; exacts [(Changes.ite (Changes.trans (Changes.refl _ _) (fun f hf => by cases f <;> first | (cases hf; done) | dsimp only [Piece.same])) (Changes.ite (Changes.trans (Changes.refl _ _) (fun f hf => by cases f <;> first | (cases hf; done) | dsimp only [Piece.same])) (Changes.trans (Changes.refl _ _) (fun f hf => by cases f <;> first | (cases hf; done) | dsimp only [Piece.same])))), (Changes.trans (Changes.refl _ _) (fun f hf => by cases f <;> first | (cases hf; done) | dsimp only [Piece.same]))])

theorem causeSeen_changes (s : State) (x1 : Nat) :
    Changes [.reeve] s (causeSeen s x1) := by unfold causeSeen; exact (Changes.ite (Changes.trans (Changes.refl _ _) (fun f hf => by cases f <;> first | (cases hf; done) | dsimp only [Piece.same])) (Changes.refl _ _))

theorem parishRecover_changes (s : State) (x1 x2 : Nat) :
    Changes [.parish, .reeve] s (parishRecover s x1 x2) := by unfold parishRecover; exact (Changes.ite (Changes.refl _ _) (Changes.ite (Changes.after (Changes.after (Changes.after (Changes.refl _ _) (causeSeen_changes _ _) rfl) (State.modPar_changes _ _ _) rfl) (decideState_changes _ _ _) rfl) (Changes.ite (Changes.after (Changes.after (Changes.refl _ _) (causeSeen_changes _ _) rfl) (State.modPar_changes _ _ _) rfl) (Changes.refl _ _))))

theorem safeReaction_changes (s : State) :
    Changes [.die, .stream, .parish, .reeve] s (safeReaction s) := by unfold safeReaction; exact (Changes.after (Changes.after (Changes.trans (Changes.refl _ _) (fun f hf => by cases f <;> first | (cases hf; done) | dsimp only [Piece.same])) (parishRecover_changes _ _ _) rfl) (soRefresh_changes _) rfl)

theorem dangerReaction_changes (s : State) (x1 : Nat × Nat × Nat × Nat) :
    Changes [.die, .stream, .parish, .reeve] s (dangerReaction s x1) := by unfold dangerReaction; exact (Changes.ite (Changes.refl _ _) (Changes.ite (Changes.after (Changes.after (Changes.refl _ _) (judgeDangerous_changes _ _) rfl) (safeReaction_changes _) rfl) (Changes.after (Changes.after (Changes.refl _ _) (judgeDangerous_changes _ _) rfl) (soRefresh_changes _) rfl)))

theorem raiseFault_changes (s : State) (x1 x2 x3 x4 x5 x6 : Nat) (x7 : Bool) :
    Changes [.die, .stream, .parish, .reeve, .timers] s (raiseFault s x1 x2 x3 x4 x5 x6 x7) := by unfold raiseFault; exact (Changes.ite (Changes.after (Changes.after (Changes.refl _ _) (faultItem_changes _ _ _ _ _ _ _) rfl) (dangerReaction_changes _ _) rfl) (Changes.after (Changes.refl _ _) (faultItem_changes _ _ _ _ _ _ _) rfl))

theorem floatPorts_changes (s : State) (x1 : Nat) :
    Changes [.port] s (floatPorts s x1) := by unfold floatPorts; exact (Changes.trans (Changes.refl _ _) (fun f hf => by cases f <;> first | (cases hf; done) | dsimp only [Piece.same]))

theorem loseDie_changes (s : State) (x1 : Nat) :
    Changes [.die, .port, .stream, .parish, .reeve, .timers] s (loseDie s x1) := by unfold loseDie; exact (Changes.ite (Changes.refl _ _) (Changes.after (Changes.after (Changes.after (Changes.foldl (fun _ _ => (Changes.ite (Changes.after (Changes.refl _ _) (parishRecover_changes _ _ _) rfl) (Changes.refl _ _))) (Changes.after (Changes.after (Changes.refl _ _) (State.modDie_changes _ _ _) rfl) (floatPorts_changes _ _) rfl)) (soRefresh_changes _) rfl) (raiseFault_changes _ _ _ _ _ _ _ _) rfl) (requestReason_changes _ _ _) rfl))

theorem dieReaction_changes (s : State) (x1 x2 x3 x4 : Nat) :
    Changes Piece.served s (dieReaction s x1 x2 x3 x4) := by unfold dieReaction; exact (Changes.ite (Changes.after (Changes.refl _ _) (raiseFault_changes _ _ _ _ _ _ _ _) rfl) (Changes.ite (Changes.after (Changes.after (Changes.refl _ _) (raiseFault_changes _ _ _ _ _ _ _ _) rfl) (resetPart_changes _ _) rfl) (Changes.after (Changes.after (Changes.refl _ _) (raiseFault_changes _ _ _ _ _ _ _ _) rfl) (loseDie_changes _ _) rfl)))

end Sys2Proof.Machine
end

