-- ==== Sys2Proof/Laws/Offers.lean ====
section
/-! SUPPORT. What each function of Sys2Proof/Machine/Offers.lean can change. -/

namespace Sys2Proof.Machine

theorem offerTo_changes (s : State) (x1 : Nat) (x2 : Int) (x3 : Stamp) :
    Changes [.die, .stream, .parish, .reeve, .timers] s (offerTo s x1 x2 x3) := by unfold offerTo; exact (Changes.ite (Changes.after (Changes.after (Changes.refl _ _) (State.modDie_changes _ _ _) rfl) (raiseFault_changes _ _ _ _ _ _ _ _) rfl) (Changes.after (Changes.refl _ _) (State.modDie_changes _ _ _) rfl))

theorem recordOffers_changes (s : State) (x1 : Nat) (x2 : Rec) :
    Changes [.die, .stream, .rule, .parish, .reeve, .timers] s (recordOffers s x1 x2) := by unfold recordOffers; exact (Changes.foldl (fun _ _ => (by (try dsimp only); split; exacts [(Changes.after (Changes.refl _ _) (offerTo_changes _ _ _ _) rfl), (Changes.after (Changes.refl _ _) (State.modRule_changes _ _ _) rfl)])) (Changes.refl _ _))

theorem putRecord_changes (s : State) (x1 : Nat) (x2 : Rec) :
    Changes [.die, .stream, .rule, .parish, .reeve, .timers] s (putRecord s x1 x2) := by unfold putRecord; exact (Changes.ite (Changes.after (Changes.refl _ _) (ringEnter_changes _ _ _) rfl) (Changes.after (Changes.after (Changes.refl _ _) (ringEnter_changes _ _ _) rfl) (recordOffers_changes _ _ _) rfl))

theorem offerFrom_changes (s : State) (x1 x2 x3 : Nat) (x4 : Int) (x5 : Stamp) :
    Changes [.die, .stream, .parish, .reeve, .timers] s (offerFrom s x1 x2 x3 x4 x5) := by unfold offerFrom; exact (Changes.foldl (fun _ _ => (Changes.after (Changes.refl _ _) (offerTo_changes _ _ _ _) rfl)) (Changes.refl _ _))

end Sys2Proof.Machine
end

