-- ==== Sys2Proof/Laws/Operands.lean ====
section
/-! SUPPORT. What each function of Sys2Proof/Machine/Operands.lean can change. -/

namespace Sys2Proof.Machine

theorem withStatus_changes (s : State) (x1 : Nat) :
    Changes [.net] s (withStatus s x1) := by unfold withStatus; exact (Changes.trans (Changes.refl _ _) (fun f hf => by cases f <;> first | (cases hf; done) | dsimp only [Piece.same]))

end Sys2Proof.Machine
end

