-- ==== Sys2Proof/Laws/Slots.lean ====
section
/-! SUPPORT. What each function of Sys2Proof/Machine/Slots.lean can change. -/

namespace Sys2Proof.Machine

theorem State.modCtx_changes (s : State) (x1 x2 : Nat) (x3 : (Ctx → Ctx)) :
    Changes [.engine] s (State.modCtx s x1 x2 x3) := by unfold State.modCtx; exact (Changes.after (Changes.refl _ _) (State.modEng_changes _ _ _) rfl)

theorem nextPc_changes (s : State) (x1 x2 : Nat) :
    Changes [.engine] s (nextPc s x1 x2) := by unfold nextPc; exact (Changes.after (Changes.refl _ _) (State.modCtx_changes _ _ _ _) rfl)

theorem writeReg_changes (s : State) (x1 x2 : Nat) (x3 : BitVec 4) (x4 : Word) :
    Changes [.engine] s (writeReg s x1 x2 x3 x4) := by unfold writeReg; exact (Changes.ite (Changes.refl _ _) (Changes.ite (Changes.after (Changes.refl _ _) (State.modCtx_changes _ _ _ _) rfl) (Changes.after (Changes.refl _ _) (State.modEng_changes _ _ _) rfl)))

theorem State.modSlot_changes (s : State) (x1 x2 : Nat) (x3 : (Slot → Slot)) :
    Changes [.die] s (State.modSlot s x1 x2 x3) := by unfold State.modSlot; exact (Changes.after (Changes.refl _ _) (State.modDie_changes _ _ _) rfl)

theorem retireSlot_changes (s : State) (x1 x2 : Nat) :
    Changes [.die, .engine] s (retireSlot s x1 x2) := by unfold retireSlot; exact (Changes.after (Changes.after (Changes.refl _ _) (State.modSlot_changes _ _ _ _) rfl) (State.modCtx_changes _ _ _ _) rfl)

theorem onCtx_changes {l : List Piece} {s : State} {e : Nat} {i : Instr} {f : Engine → Nat → Ctx → State}
    (h : ∀ x c y, Changes l s (f x c y)) : ChangesOnly l s (onCtx s e i f) := by
  unfold onCtx
  refine ChangesOnly.withEngine ?_
  dsimp only
  split
  · exact Changes.refl _ _
  · exact Changes.given (Changes.refl _ _) (h _ _ _)

theorem emitterStop_changes (s : State) (x1 : Nat) :
    Changes [.die, .port, .stream, .reeve] s (emitterStop s x1) := by unfold emitterStop; exact (Changes.after (Changes.after (Changes.after (Changes.refl _ _) (State.modPort_changes _ _ _) rfl) (State.modDie_changes _ _ _) rfl) (soRefresh_changes _) rfl)

theorem emitterCancel_changes (s : State) (x1 x2 : Nat) :
    Changes [.die, .port, .stream, .reeve] s (emitterCancel s x1 x2) := by unfold emitterCancel; exact (Changes.ite (Changes.refl _ _) (Changes.ite (Changes.after (Changes.refl _ _) (emitterStop_changes _ _) rfl) (Changes.ite (Changes.after (Changes.refl _ _) (State.modDie_changes _ _ _) rfl) (Changes.refl _ _))))

theorem enterIdleMode_changes (s : State) (x1 : Nat) :
    Changes [.port] s (enterIdleMode s x1) := by unfold enterIdleMode; exact (Changes.ite (Changes.after (Changes.refl _ _) (State.modPort_changes _ _ _) rfl) (Changes.refl _ _))

theorem completeOp_changes (s : State) (x1 x2 x3 x4 : Nat) :
    Changes [.die, .port, .engine] s (completeOp s x1 x2 x3 x4) := by unfold completeOp; exact (Changes.after (Changes.ite (Changes.after (Changes.after (Changes.after (Changes.refl _ _) (State.modPort_changes _ _ _) rfl) (State.modSlot_changes _ _ _ _) rfl) (retireSlot_changes _ _ _) rfl) (Changes.after (Changes.after (Changes.after (Changes.refl _ _) (State.modPort_changes _ _ _) rfl) (State.modSlot_changes _ _ _ _) rfl) (State.modCtx_changes _ _ _ _) rfl)) (enterIdleMode_changes _ _) rfl)

theorem abortOp_changes (s : State) (x1 x2 x3 : Nat) (x4 : Bool) :
    Changes [.die, .port, .engine, .stream, .reeve] s (abortOp s x1 x2 x3 x4) := by unfold abortOp; exact (Changes.ite (Changes.refl _ _) (Changes.ite (Changes.ite (Changes.after (Changes.refl _ _) (emitterCancel_changes _ _ _) rfl) (Changes.after (Changes.after (Changes.after (Changes.refl _ _) (emitterCancel_changes _ _ _) rfl) (State.modPort_changes _ _ _) rfl) (State.modSlot_changes _ _ _ _) rfl)) (Changes.after (Changes.after (Changes.refl _ _) (emitterCancel_changes _ _ _) rfl) (completeOp_changes _ _ _ _ _) rfl)))

theorem freeCtx_changes (s : State) (x1 x2 : Nat) :
    Changes [.die, .engine] s (freeCtx s x1 x2) := by unfold freeCtx; exact (Changes.after (Changes.after (Changes.refl _ _) (State.modEng_changes _ _ _) rfl) (State.modDie_changes _ _ _) rfl)

theorem endCtx_changes (s : State) (x1 x2 : Nat) (x3 : Option Nat) :
    Changes [.die, .port, .engine, .stream, .reeve] s (endCtx s x1 x2 x3) := by unfold endCtx; exact (Changes.after (Changes.foldl (fun _ _ => (Changes.ite (Changes.after (Changes.after (Changes.refl _ _) (State.modSlot_changes _ _ _ _) rfl) (retireSlot_changes _ _ _) rfl) (by (try dsimp only); split; exacts [(Changes.after (Changes.refl _ _) (State.modSlot_changes _ _ _ _) rfl), (Changes.after (Changes.after (Changes.refl _ _) (State.modSlot_changes _ _ _ _) rfl) (abortOp_changes _ _ _ _ _) rfl)]))) (Changes.after (Changes.refl _ _) (State.modEng_changes _ _ _) rfl)) (freeCtx_changes _ _ _) rfl)

theorem engineFault_changes (s : State) (x1 x2 x3 x4 x5 : Nat) :
    Changes [.die, .engine, .stream, .parish, .reeve, .timers] s (engineFault s x1 x2 x3 x4 x5) := by unfold engineFault; exact (Changes.ite (Changes.after (Changes.after (Changes.after (Changes.refl _ _) (State.modEng_changes _ _ _) rfl) (faultRecord_changes _ _ _ _ _ _ _) rfl) (violationCount_changes _ _) rfl) (Changes.after (Changes.after (Changes.refl _ _) (State.modEng_changes _ _ _) rfl) (faultRecord_changes _ _ _ _ _ _ _) rfl))

theorem faultEnd_changes (s : State) (x1 x2 x3 x4 : Nat) :
    Changes [.die, .port, .engine, .stream, .parish, .reeve, .timers] s (faultEnd s x1 x2 x3 x4) := by unfold faultEnd; exact (Changes.after (Changes.after (Changes.refl _ _) (engineFault_changes _ _ _ _ _ _) rfl) (endCtx_changes _ _ _ _) rfl)

theorem emitterStart_changes (s : State) (x1 : Nat) :
    Changes [.die, .port] s (emitterStart s x1) := by unfold emitterStart; exact (Changes.after (Changes.after (Changes.refl _ _) (State.modPort_changes _ _ _) rfl) (State.modDie_changes _ _ _) rfl)

theorem writeScratch_changes (s : State) (x1 x2 : Nat) (x3 : List Byte) :
    Changes [.engine] s (writeScratch s x1 x2 x3) := by unfold writeScratch; exact (Changes.after (Changes.refl _ _) (State.modEng_changes _ _ _) rfl)

theorem resultBytes_changes (s : State) (x1 x2 x3 : Nat) (x4 : List Byte) :
    Changes [.engine] s (resultBytes s x1 x2 x3 x4) := by unfold resultBytes; exact (Changes.ite (Changes.refl _ _) (Changes.after (Changes.refl _ _) (writeScratch_changes _ _ _ _) rfl))

theorem leaveEngine_changes (s : State) (x1 : Nat) :
    Changes [.engine] s (leaveEngine s x1) := by unfold leaveEngine; exact (Changes.after (Changes.refl _ _) (State.modEng_changes _ _ _) rfl)

theorem makeReady_changes (s : State) (x1 x2 : Nat) :
    Changes [.engine] s (makeReady s x1 x2) := by unfold makeReady; exact (Changes.after (Changes.after (Changes.refl _ _) (State.modEng_changes _ _ _) rfl) (State.modCtx_changes _ _ _ _) rfl)

end Sys2Proof.Machine
end

