-- ==== Sys2Proof/Laws/Ports.lean ====
section
/-! SUPPORT. What each function of Sys2Proof/Machine/Ports.lean can change. -/

namespace Sys2Proof.Machine

theorem modVp_changes (s : State) (x1 : Nat) (x2 : (Port → Port)) :
    Changes [.port] s (modVp s x1 x2) := by unfold modVp; exact (Changes.after (Changes.refl _ _) (State.modPort_changes _ _ _) rfl)

theorem quarantineLeave_changes (s : State) (x1 x2 : Nat) :
    Changes [.die, .port, .stream, .parish, .reeve, .timers] s (quarantineLeave s x1 x2) := by unfold quarantineLeave; exact (Changes.ite (Changes.after (Changes.after (Changes.refl _ _) (modVp_changes _ _ _) rfl) (faultItem_changes _ _ _ _ _ _ _) rfl) (Changes.refl _ _))

theorem stopEmitterItem_changes (s : State) (x1 : Nat) :
    Changes [.die, .port, .stream, .reeve] s (stopEmitterItem s x1) := by unfold stopEmitterItem; exact (Changes.ite (Changes.after (Changes.after (Changes.refl _ _) (State.modPort_changes _ _ _) rfl) (emitterStop_changes _ _) rfl) (Changes.refl _ _))

theorem quarantineOps_changes (s : State) (x1 : Nat) :
    Changes [.die, .port, .engine, .stream, .reeve] s (quarantineOps s x1) := by unfold quarantineOps; exact (Changes.foldl (fun _ _ => (Changes.ite (Changes.after (Changes.after (Changes.refl _ _) (emitterCancel_changes _ _ _) rfl) (completeOp_changes _ _ _ _ _) rfl) (Changes.refl _ _))) (Changes.refl _ _))

theorem quarantineAdd_changes (s : State) (x1 x2 : Nat) :
    Changes [.die, .port, .engine, .stream, .parish, .reeve, .timers] s (quarantineAdd s x1 x2) := by unfold quarantineAdd; exact (Changes.ite (Changes.after (Changes.refl _ _) (modVp_changes _ _ _) rfl) (Changes.after (Changes.after (Changes.after (Changes.after (Changes.refl _ _) (quarantineOps_changes _ _) rfl) (stopEmitterItem_changes _ _) rfl) (modVp_changes _ _ _) rfl) (raiseFault_changes _ _ _ _ _ _ _ _) rfl))

theorem probeStart_changes (s : State) (x1 x2 : Nat) (x3 : Bool) :
    Changes [.port] s (probeStart s x1 x2 x3) := by unfold probeStart; exact (Changes.after (Changes.refl _ _) (modVp_changes _ _ _) rfl)

theorem writeQuarCtl_changes (s : State) (x1 x2 : Nat) :
    Changes [.die, .port, .engine, .stream, .parish, .reeve, .timers] s (writeQuarCtl s x1 x2) := by unfold writeQuarCtl; exact (by (try dsimp only); split; exacts [(Changes.after (Changes.after (Changes.refl _ _) (State.modPort_changes _ _ _) rfl) (quarantineLeave_changes _ _ _) rfl), (Changes.ite (Changes.after (Changes.refl _ _) (State.modPort_changes _ _ _) rfl) (Changes.after (Changes.after (Changes.refl _ _) (State.modPort_changes _ _ _) rfl) (quarantineAdd_changes _ _ _) rfl)), (Changes.foldl (fun _ _ => (Changes.ite (Changes.after (Changes.refl _ _) (probeStart_changes _ _ _ _) rfl) (Changes.refl _ _))) (Changes.after (Changes.refl _ _) (State.modPort_changes _ _ _) rfl))])

theorem writeVpOn_changes (s : State) (x1 : Nat) (x2 : Bool) :
    Changes [.port] s (writeVpOn s x1 x2) := by unfold writeVpOn; exact (Changes.after (Changes.refl _ _) (modVp_changes _ _ _) rfl)

theorem execUartTransferDone_changes (x0 : Nat) (x1 : List Byte) (x2 x3 x4 : Nat) (s : State) :
    ChangesOnly [.die, .port, .engine] s (execUartTransferDone x0 x1 x2 x3 x4 s) := by unfold execUartTransferDone; exact (ChangesOnly.withPort (by (try dsimp only); split; exacts [(Changes.refl _ _), (Changes.given (Changes.refl _ _) (Changes.after (Changes.after (Changes.ite (Changes.after (Changes.ite (Changes.after (Changes.refl _ _) (resultBytes_changes _ _ _ _ _) rfl) (Changes.refl _ _)) (State.modSlot_changes _ _ _ _) rfl) (Changes.ite (Changes.after (Changes.refl _ _) (resultBytes_changes _ _ _ _ _) rfl) (Changes.refl _ _))) (State.modPort_changes _ _ _) rfl) (completeOp_changes _ _ _ _ _) rfl))]))

theorem execVpAverageOverload_changes (x0 : Nat) (s : State) :
    ChangesOnly [.die, .port, .engine, .stream, .parish, .reeve, .timers] s (execVpAverageOverload x0 s) := by unfold execVpAverageOverload; exact (ChangesOnly.withPort (Changes.given (Changes.refl _ _) (Changes.after (Changes.after (Changes.refl _ _) (State.modPort_changes _ _ _) rfl) (quarantineAdd_changes _ _ _) rfl)))

theorem quarCtlWrite_changes (s : State) (x1 x2 : Nat) :
    Changes [.net, .die, .port, .engine, .stream, .parish, .reeve, .timers] s (quarCtlWrite s x1 x2) := by unfold quarCtlWrite; exact (Changes.ite (Changes.after (Changes.after (Changes.refl _ _) (writeQuarCtl_changes _ _ _) rfl) (withStatus_changes _ _) rfl) (Changes.after (Changes.refl _ _) (withStatus_changes _ _) rfl))

theorem execQuarCtlHold_changes (x0 : Nat) (s : State) :
    ChangesOnly [.net, .die, .port, .engine, .stream, .parish, .reeve, .timers] s (execQuarCtlHold x0 s) := by unfold execQuarCtlHold; exact (ChangesOnly.next (Changes.given (Changes.after (Changes.refl _ _) (withStatus_changes _ _) rfl) (Changes.after (Changes.refl _ _) (quarCtlWrite_changes _ _ _) rfl)))

theorem emitterFire_changes (s : State) (x1 x2 x3 : Nat) (x4 : Bool) :
    Changes [.die, .port] s (emitterFire s x1 x2 x3 x4) := by unfold emitterFire; exact (Changes.after (Changes.after (Changes.refl _ _) (emitterStart_changes _ _) rfl) (State.modSlot_changes _ _ _ _) rfl)

theorem recoveryProbeEnd_changes (s : State) (x1 : Nat) (x2 : Bool) :
    Changes [.die, .port, .stream, .parish, .reeve, .timers] s (recoveryProbeEnd s x1 x2) := by unfold recoveryProbeEnd; exact (Changes.ite (Changes.after (Changes.after (Changes.refl _ _) (State.modPort_changes _ _ _) rfl) (quarantineLeave_changes _ _ _) rfl) (Changes.after (Changes.refl _ _) (State.modPort_changes _ _ _) rfl))

theorem execBusRecoveryDone_changes (x0 : Nat) (x1 : Bool) (s : State) :
    ChangesOnly [.die, .port, .engine, .stream, .parish, .reeve, .timers] s (execBusRecoveryDone x0 x1 s) := by unfold execBusRecoveryDone; exact (ChangesOnly.withPort (Changes.given (Changes.refl _ _) (Changes.ite (Changes.after (Changes.refl _ _) (recoveryProbeEnd_changes _ _ _) rfl) (Changes.ite (by (try dsimp only); split; exacts [(Changes.after (Changes.refl _ _) (State.modPort_changes _ _ _) rfl), (Changes.after (Changes.after (Changes.refl _ _) (State.modPort_changes _ _ _) rfl) (completeOp_changes _ _ _ _ _) rfl)]) (Changes.after (by (try dsimp only); split; exacts [(Changes.after (Changes.refl _ _) (State.modPort_changes _ _ _) rfl), (Changes.after (Changes.after (Changes.refl _ _) (State.modPort_changes _ _ _) rfl) (completeOp_changes _ _ _ _ _) rfl)]) (quarantineAdd_changes _ _ _) rfl)))))

theorem writeEmCfg_changes (s : State) (x1 x2 : Nat) :
    Changes [.port] s (writeEmCfg s x1 x2) := by unfold writeEmCfg; exact (Changes.after (Changes.refl _ _) (State.modPort_changes _ _ _) rfl)

theorem execEmCfgWrite_changes (x0 : Nat) (x1 : Word) (s : State) :
    ChangesOnly [.port] s (execEmCfgWrite x0 x1 s) := by unfold execEmCfgWrite; exact (ChangesOnly.withPort (Changes.given (Changes.refl _ _) (Changes.after (Changes.refl _ _) (writeEmCfg_changes _ _ _) rfl)))

theorem execUartIdleGap_changes (x0 : Nat) (s : State) :
    ChangesOnly [.port] s (execUartIdleGap x0 s) := by unfold execUartIdleGap; exact (ChangesOnly.withPort (Changes.given (Changes.refl _ _) (Changes.after (Changes.refl _ _) (State.modPort_changes _ _ _) rfl)))

theorem execTwTransferDone_changes (x0 x1 : Nat) (x2 : List Byte) (x3 : Byte) (x4 : Nat) (s : State) :
    ChangesOnly [.die, .port, .engine] s (execTwTransferDone x0 x1 x2 x3 x4 s) := by unfold execTwTransferDone; exact (ChangesOnly.withPort (by (try dsimp only); split; exacts [(Changes.refl _ _), (Changes.given (Changes.refl _ _) (Changes.after (Changes.ite (Changes.after (Changes.after (Changes.refl _ _) (State.modPort_changes _ _ _) rfl) (resultBytes_changes _ _ _ _ _) rfl) (Changes.after (Changes.refl _ _) (State.modPort_changes _ _ _) rfl)) (completeOp_changes _ _ _ _ _) rfl))]))

theorem execUartRxLowTimeout_changes (x0 : Nat) (s : State) :
    ChangesOnly [.die, .port, .engine, .stream, .parish, .reeve, .timers] s (execUartRxLowTimeout x0 s) := by unfold execUartRxLowTimeout; exact (ChangesOnly.withPort (Changes.given (Changes.refl _ _) (Changes.after (Changes.refl _ _) (quarantineAdd_changes _ _ _) rfl)))

theorem execQuarantineProbePassed_changes (x0 x1 : Nat) (s : State) :
    ChangesOnly [.die, .port, .stream, .parish, .reeve, .timers] s (execQuarantineProbePassed x0 x1 s) := by unfold execQuarantineProbePassed; exact (ChangesOnly.withPort (Changes.given (Changes.refl _ _) (Changes.after (Changes.refl _ _) (quarantineLeave_changes _ _ _) rfl)))

theorem execArbitrationLost_changes (x0 : Nat) (s : State) :
    ChangesOnly [.die, .port, .engine] s (execArbitrationLost x0 s) := by unfold execArbitrationLost; exact (ChangesOnly.withPort (by (try dsimp only); split; exacts [(Changes.refl _ _), (Changes.ite (Changes.refl _ _) (Changes.ite (Changes.after (Changes.after (Changes.refl _ _) (State.modPort_changes _ _ _) rfl) (State.modSlot_changes _ _ _ _) rfl) (Changes.after (Changes.after (Changes.after (Changes.refl _ _) (State.modPort_changes _ _ _) rfl) (State.modPort_changes _ _ _) rfl) (completeOp_changes _ _ _ _ _) rfl)))]))

theorem execPgood_changes (x0 : Nat) (s : State) :
    ChangesOnly [.port] s (execPgood x0 s) := by unfold execPgood; exact (ChangesOnly.withPort (Changes.given (Changes.refl _ _) (Changes.after (Changes.refl _ _) (State.modPort_changes _ _ _) rfl)))

theorem execPortModeIdleEnd_changes (x0 : Nat) (s : State) :
    ChangesOnly [.port] s (execPortModeIdleEnd x0 s) := by unfold execPortModeIdleEnd; exact (ChangesOnly.withPort (by (try dsimp only); split; exacts [(Changes.refl _ _), (Changes.given (Changes.refl _ _) (Changes.after (Changes.refl _ _) (State.modPort_changes _ _ _) rfl))]))

theorem execVpOnWrite_changes (x0 : Nat) (x1 : Bool) (s : State) :
    ChangesOnly [.port] s (execVpOnWrite x0 x1 s) := by unfold execVpOnWrite; exact (ChangesOnly.withPort (Changes.given (Changes.refl _ _) (Changes.after (Changes.refl _ _) (writeVpOn_changes _ _ _) rfl)))

theorem execVpPeakOverload_changes (x0 : Nat) (s : State) :
    ChangesOnly [.die, .port, .engine, .stream, .parish, .reeve, .timers] s (execVpPeakOverload x0 s) := by unfold execVpPeakOverload; exact (ChangesOnly.withPort (Changes.given (Changes.refl _ _) (Changes.after (Changes.after (Changes.refl _ _) (State.modPort_changes _ _ _) rfl) (quarantineAdd_changes _ _ _) rfl)))

theorem execGovernorGrant_changes (x0 x1 : Nat) (s : State) :
    ChangesOnly [.die, .port] s (execGovernorGrant x0 x1 s) := by unfold execGovernorGrant; exact (ChangesOnly.withDie (by (try dsimp only); split; exacts [(Changes.refl _ _), (Changes.ite (Changes.given (Changes.refl _ _) (Changes.after (Changes.refl _ _) (emitterStart_changes _ _) rfl)) (by (try dsimp only); split; exacts [(Changes.refl _ _), (Changes.given (Changes.refl _ _) (Changes.after (Changes.after (Changes.refl _ _) (emitterFire_changes _ _ _ _ _) rfl) (State.modPort_changes _ _ _) rfl))]))]))

theorem execEmitterPulseDone_changes (x0 : Nat) (x1 x2 : Bool) (s : State) :
    ChangesOnly [.die, .port, .engine, .stream, .reeve] s (execEmitterPulseDone x0 x1 x2 s) := by unfold execEmitterPulseDone; exact (ChangesOnly.withPort (by (try dsimp only); split; exacts [(Changes.refl _ _), (Changes.after (Changes.after (Changes.after (Changes.refl _ _) (State.modPort_changes _ _ _) rfl) (emitterStop_changes _ _) rfl) (completeOp_changes _ _ _ _ _) rfl)]))

theorem execQuarantineProbe_changes (x0 x1 x2 : Nat) (s : State) :
    ChangesOnly [.port] s (execQuarantineProbe x0 x1 x2 s) := by unfold execQuarantineProbe; exact (ChangesOnly.withPort (Changes.given (Changes.refl _ _) (Changes.after (Changes.refl _ _) (probeStart_changes _ _ _ _) rfl)))

theorem execQuarCtlRelease_changes (x0 : Nat) (s : State) :
    ChangesOnly [.net, .die, .port, .engine, .stream, .parish, .reeve, .timers] s (execQuarCtlRelease x0 s) := by unfold execQuarCtlRelease; exact (ChangesOnly.next (Changes.given (Changes.after (Changes.refl _ _) (withStatus_changes _ _) rfl) (Changes.after (Changes.refl _ _) (quarCtlWrite_changes _ _ _) rfl)))

theorem execQuarCtlProbe_changes (x0 : Nat) (s : State) :
    ChangesOnly [.net, .die, .port, .engine, .stream, .parish, .reeve, .timers] s (execQuarCtlProbe x0 s) := by unfold execQuarCtlProbe; exact (ChangesOnly.next (Changes.given (Changes.after (Changes.refl _ _) (withStatus_changes _ _) rfl) (Changes.after (Changes.refl _ _) (quarCtlWrite_changes _ _ _) rfl)))

theorem emitterRequest_changes (s : State) (x1 x2 x3 : Nat) :
    Changes [.die, .port] s (emitterRequest s x1 x2 x3) := by unfold emitterRequest; exact (Changes.ite (Changes.refl _ _) (Changes.ite (Changes.after (Changes.refl _ _) (emitterFire_changes _ _ _ _ _) rfl) (Changes.after (Changes.after (Changes.after (Changes.refl _ _) (State.modDie_changes _ _ _) rfl) (State.modSlot_changes _ _ _ _) rfl) (State.modPort_changes _ _ _) rfl)))

theorem execTwStart_changes (x0 x1 : Nat) (s : State) :
    ChangesOnly [.die, .port] s (execTwStart x0 x1 s) := by unfold execTwStart; exact (ChangesOnly.withPort (by (try dsimp only); split; exacts [(Changes.refl _ _), (Changes.given (Changes.refl _ _) (Changes.after (Changes.after (Changes.refl _ _) (State.modPort_changes _ _ _) rfl) (State.modSlot_changes _ _ _ _) rfl))]))

theorem execBusTimeout_changes (x0 : Nat) (x1 : Bool) (s : State) :
    ChangesOnly [.die, .port, .engine, .stream, .reeve] s (execBusTimeout x0 x1 s) := by unfold execBusTimeout; exact (ChangesOnly.withPort (Changes.given (Changes.refl _ _) (Changes.ite (Changes.after (Changes.refl _ _) (State.modPort_changes _ _ _) rfl) (by (try dsimp only); split; exacts [(Changes.after (Changes.after (Changes.refl _ _) (State.modPort_changes _ _ _) rfl) (State.modPort_changes _ _ _) rfl), (Changes.ite (Changes.after (Changes.after (Changes.refl _ _) (State.modPort_changes _ _ _) rfl) (abortOp_changes _ _ _ _ _) rfl) (Changes.after (Changes.after (Changes.after (Changes.after (Changes.refl _ _) (State.modPort_changes _ _ _) rfl) (State.modPort_changes _ _ _) rfl) (completeOp_changes _ _ _ _ _) rfl) (State.modPort_changes _ _ _) rfl))]))))

theorem execSpiTransferDone_changes (x0 : Nat) (x1 : List Byte) (s : State) :
    ChangesOnly [.die, .port, .engine] s (execSpiTransferDone x0 x1 s) := by unfold execSpiTransferDone; exact (ChangesOnly.withPort (by (try dsimp only); split; exacts [(Changes.refl _ _), (Changes.given (Changes.refl _ _) (Changes.after (Changes.ite (Changes.after (Changes.refl _ _) (resultBytes_changes _ _ _ _ _) rfl) (Changes.refl _ _)) (completeOp_changes _ _ _ _ _) rfl))]))

end Sys2Proof.Machine
end

