-- ==== Sys2Proof/Laws/Analogue.lean ====
section
/-! SUPPORT. What each function of Sys2Proof/Machine/Analogue.lean can change. -/

namespace Sys2Proof.Machine

theorem pgStart_changes (s : State) (x1 x2 : Nat) :
    Changes [.port] s (pgStart s x1 x2) := by unfold pgStart; exact (Changes.given (Changes.refl _ _) (Changes.after (Changes.refl _ _) (State.modPort_changes _ _ _) rfl))

theorem windowFollows_changes (s : State) (x1 : Nat) (x2 : Stamp) :
    Changes [.port] s (windowFollows s x1 x2) := by unfold windowFollows; exact (Changes.ite (Changes.refl _ _) (Changes.after (Changes.refl _ _) (State.modPort_changes _ _ _) rfl))

theorem convert_changes (s : State) (n r : Nat) (raw : Int) (outside : Bool) :
    Changes [.free] s (convert s n r raw outside).2 := by
  unfold convert
  dsimp only
  split
  · exact Changes.after (Changes.refl _ _) (State.draw_changes s 27) rfl
  · exact Changes.refl _ _

theorem applyRange_changes (s : State) (x1 x2 : Nat) (x3 : Int) (x4 : Bool) :
    Changes [.port] s (applyRange s x1 x2 x3 x4) := by unfold applyRange; exact (Changes.ite (Changes.ite (Changes.after (Changes.refl _ _) (State.modPort_changes _ _ _) rfl) (Changes.after (Changes.refl _ _) (State.modPort_changes _ _ _) rfl)) (Changes.refl _ _))

theorem convSample_changes (s : State) (x1 : Nat) (x2 : Word) (x3 : Int) (x4 : Bool) :
    Changes [.port, .free] s (convSample s x1 x2 x3 x4) := by unfold convSample; exact (Changes.ite (Changes.after (Changes.after (Changes.refl _ _) (convert_changes _ _ _ _ _) rfl) (State.modPort_changes _ _ _) rfl) (Changes.after (Changes.after (Changes.after (Changes.refl _ _) (convert_changes _ _ _ _ _) rfl) (State.modPort_changes _ _ _) rfl) (applyRange_changes _ _ _ _ _) rfl))

theorem slopeEdge_changes (s : State) (x1 x2 : Nat) (x3 : Stamp) :
    Changes [.port] s (slopeEdge s x1 x2 x3) := by unfold slopeEdge; exact (Changes.ite (Changes.after (Changes.refl _ _) (State.modPort_changes _ _ _) rfl) (Changes.refl _ _))

theorem execComparatorEdge_changes (x0 x1 : Nat) (x2 : Bool) (x3 : Nat) (s : State) :
    ChangesOnly [.die, .port, .stream, .reeve] s (execComparatorEdge x0 x1 x2 x3 s) := by unfold execComparatorEdge; exact (ChangesOnly.ite (ChangesOnly.fault _) (ChangesOnly.withPort (Changes.given (Changes.refl _ _) (Changes.after (Changes.after (Changes.after (Changes.ite (Changes.after (Changes.refl _ _) (slopeEdge_changes _ _ _ _) rfl) (Changes.refl _ _)) (State.modPort_changes _ _ _) rfl) (windowFollows_changes _ _ _) rfl) (soRefresh_changes _) rfl))))

theorem markSamples_changes (s : State) (x1 x2 : Nat) (x3 : List Word) :
    Changes [.die] s (markSamples s x1 x2 x3) := by unfold markSamples; exact (Changes.after (Changes.refl _ _) (State.modSlot_changes _ _ _ _) rfl)

theorem execAnaOperationDone_changes (x0 : Nat) (s : State) :
    ChangesOnly [.die, .port, .engine] s (execAnaOperationDone x0 s) := by unfold execAnaOperationDone; exact (ChangesOnly.withPort (by (try dsimp only); split; exacts [(Changes.refl _ _), (Changes.given (Changes.refl _ _) (Changes.after (Changes.after (Changes.after (Changes.refl _ _) (markSamples_changes _ _ _ _) rfl) (resultBytes_changes _ _ _ _ _) rfl) (completeOp_changes _ _ _ _ _) rfl))]))

theorem writeCmpDac_changes (s : State) (x1 x2 : Nat) :
    Changes [.port] s (writeCmpDac s x1 x2) := by unfold writeCmpDac; exact (Changes.after (Changes.refl _ _) (State.modPort_changes _ _ _) rfl)

theorem clearLatch_changes (s : State) (x1 x2 : Nat) :
    Changes [.die, .port, .stream, .parish, .reeve, .timers] s (clearLatch s x1 x2) := by unfold clearLatch; exact (Changes.ite (Changes.after (Changes.after (Changes.refl _ _) (State.modPort_changes _ _ _) rfl) (offerFrom_changes _ _ _ _ _ _) rfl) (Changes.refl _ _))

theorem clearLatches_changes (s : State) (x1 x2 : Nat) :
    Changes [.die, .port, .stream, .parish, .reeve, .timers] s (clearLatches s x1 x2) := by unfold clearLatches; exact (Changes.foldl (fun _ _ => (Changes.ite (Changes.after (Changes.refl _ _) (clearLatch_changes _ _ _) rfl) (Changes.refl _ _))) (Changes.refl _ _))

theorem pgHeldClear_changes (s : State) (x1 x2 : Nat) :
    Changes [.port] s (pgHeldClear s x1 x2) := by unfold pgHeldClear; exact (Changes.after (Changes.refl _ _) (State.modPort_changes _ _ _) rfl)

theorem pgStop_changes (s : State) (x1 x2 : Nat) :
    Changes [.port] s (pgStop s x1 x2) := by unfold pgStop; exact (Changes.given (Changes.refl _ _) (Changes.after (Changes.refl _ _) (State.modPort_changes _ _ _) rfl))

theorem burstWord_changes (s : State) (v : Int) (clip range : Bool) :
    Changes [.free] s (burstWord s v clip range).2 := by
  unfold burstWord
  dsimp only
  split
  · exact Changes.after (Changes.refl _ _) (State.draw_changes s 27) rfl
  · exact Changes.refl _ _

theorem execCodeBurstDone_changes (x0 : Nat) (x1 x2 : Bool) (s : State) :
    ChangesOnly [.die, .port, .engine, .stream, .reeve, .free] s (execCodeBurstDone x0 x1 x2 s) := by unfold execCodeBurstDone; exact (ChangesOnly.withPort (by (try dsimp only); split; exacts [(Changes.refl _ _), (Changes.given (Changes.refl _ _) (Changes.ite (Changes.after (Changes.after (Changes.after (Changes.after (Changes.after (Changes.ite (Changes.refl _ _) (Changes.after (Changes.after (Changes.refl _ _) (burstWord_changes _ _ _ _) rfl) (burstWord_changes _ _ _ _) rfl)) (State.modPort_changes _ _ _) rfl) (emitterStop_changes _ _) rfl) (applyRange_changes _ _ _ _ _) rfl) (State.modPort_changes _ _ _) rfl) (completeOp_changes _ _ _ _ _) rfl) (Changes.after (Changes.after (Changes.after (Changes.after (Changes.after (Changes.after (Changes.after (Changes.ite (Changes.refl _ _) (Changes.after (Changes.after (Changes.refl _ _) (burstWord_changes _ _ _ _) rfl) (burstWord_changes _ _ _ _) rfl)) (State.modPort_changes _ _ _) rfl) (emitterStop_changes _ _) rfl) (applyRange_changes _ _ _ _ _) rfl) (State.modPort_changes _ _ _) rfl) (markSamples_changes _ _ _ _) rfl) (resultBytes_changes _ _ _ _ _) rfl) (completeOp_changes _ _ _ _ _) rfl)))]))

theorem execCmpDacWrite_changes (x0 : Nat) (x1 : Word) (s : State) :
    ChangesOnly [.port] s (execCmpDacWrite x0 x1 s) := by unfold execCmpDacWrite; exact (ChangesOnly.withPort (Changes.given (Changes.refl _ _) (Changes.after (Changes.refl _ _) (writeCmpDac_changes _ _ _) rfl)))

theorem execSingleSlopeEnd_changes (x0 x1 : Nat) (x2 x3 : Bool) (s : State) :
    ChangesOnly [.die, .port, .engine] s (execSingleSlopeEnd x0 x1 x2 x3 s) := by unfold execSingleSlopeEnd; exact (ChangesOnly.withPort (by (try dsimp only); split; exacts [(Changes.refl _ _), (Changes.given (Changes.refl _ _) (Changes.after (Changes.after (Changes.after (Changes.refl _ _) (State.modSlot_changes _ _ _ _) rfl) (resultBytes_changes _ _ _ _ _) rfl) (completeOp_changes _ _ _ _ _) rfl))]))

theorem ChangesOnly.withPg {l : List Piece} {s x t : State} {n g : Nat} (h : Changes l s t) :
    ChangesOnly l s (withPg x n g t) := ChangesOnly.ite (ChangesOnly.fault _) (ChangesOnly.withPort h)

theorem execPgStop_changes (x0 x1 : Nat) (s : State) :
    ChangesOnly [.port] s (execPgStop x0 x1 s) := by unfold execPgStop; exact (ChangesOnly.withPg (Changes.after (Changes.refl _ _) (pgStop_changes _ _ _) rfl))

theorem execPgTrip_changes (x0 x1 : Nat) (s : State) :
    ChangesOnly [.port] s (execPgTrip x0 x1 s) := by unfold execPgTrip; exact (ChangesOnly.withPg (Changes.given (Changes.refl _ _) (Changes.after (Changes.refl _ _) (State.modPort_changes _ _ _) rfl)))

theorem execPgPulseEnd_changes (x0 x1 : Nat) (s : State) :
    ChangesOnly [.port] s (execPgPulseEnd x0 x1 s) := by unfold execPgPulseEnd; exact (ChangesOnly.withPg (Changes.given (Changes.refl _ _) (Changes.after (Changes.refl _ _) (State.modPort_changes _ _ _) rfl)))

theorem execPgStart_changes (x0 x1 : Nat) (s : State) :
    ChangesOnly [.port] s (execPgStart x0 x1 s) := by unfold execPgStart; exact (ChangesOnly.withPg (Changes.after (Changes.refl _ _) (pgStart_changes _ _ _) rfl))

theorem execPortOperationStart_changes (x0 x1 : Nat) (s : State) :
    ChangesOnly [.die, .port] s (execPortOperationStart x0 x1 s) := by unfold execPortOperationStart; exact (ChangesOnly.withPort (by (try dsimp only); split; exacts [(Changes.refl _ _), (Changes.given (Changes.refl _ _) (by (try dsimp only); split; exacts [(Changes.after (Changes.refl _ _) (State.modSlot_changes _ _ _ _) rfl), (Changes.after (Changes.after (Changes.refl _ _) (State.modPort_changes _ _ _) rfl) (State.modSlot_changes _ _ _ _) rfl), (by (try dsimp only); split; exacts [(Changes.ite (Changes.after (Changes.after (Changes.refl _ _) (State.modPort_changes _ _ _) rfl) (State.modSlot_changes _ _ _ _) rfl) (Changes.refl _ _)), (Changes.ite (Changes.after (Changes.after (Changes.refl _ _) (State.modPort_changes _ _ _) rfl) (emitterRequest_changes _ _ _ _) rfl) (Changes.refl _ _)), (Changes.after (Changes.after (Changes.refl _ _) (State.modPort_changes _ _ _) rfl) (State.modSlot_changes _ _ _ _) rfl)]), (Changes.after (Changes.refl _ _) (emitterRequest_changes _ _ _ _) rfl), (Changes.refl _ _)]))]))

theorem convExtra_changes (s : State) (x1 : Nat) (x2 : Word) (x3 : Int) (x4 : Bool) :
    Changes [.port, .free] s (convExtra s x1 x2 x3 x4) := by unfold convExtra; exact (Changes.after (Changes.after (Changes.refl _ _) (convert_changes _ _ _ _ _) rfl) (State.modPort_changes _ _ _) rfl)

theorem burstSample_changes (s : State) (x1 : Nat) (x2 x3 : Word) (x4 : Int) (x5 : Bool) :
    Changes [.port, .free] s (burstSample s x1 x2 x3 x4 x5) := by unfold burstSample; exact (Changes.after (Changes.after (Changes.refl _ _) (convert_changes _ _ _ _ _) rfl) (State.modPort_changes _ _ _) rfl)

theorem execAdcConversionDone_changes (x0 : Nat) (x1 : Int) (x2 : Bool) (x3 x4 : Nat) (s : State) :
    ChangesOnly [.port, .free] s (execAdcConversionDone x0 x1 x2 x3 x4 s) := by unfold execAdcConversionDone; exact (ChangesOnly.ite (ChangesOnly.fault _) (ChangesOnly.withPort (by (try dsimp only); split; exacts [(Changes.refl _ _), (by (try dsimp only); split; exacts [(Changes.ite (Changes.after (Changes.refl _ _) (convExtra_changes _ _ _ _ _) rfl) (Changes.given (Changes.refl _ _) (Changes.after (Changes.after (Changes.refl _ _) (State.modPort_changes _ _ _) rfl) (convSample_changes _ _ _ _ _) rfl))), (Changes.given (Changes.refl _ _) (Changes.after (Changes.after (Changes.refl _ _) (State.modPort_changes _ _ _) rfl) (burstSample_changes _ _ _ _ _ _) rfl)), (Changes.refl _ _)])])))

theorem execRangeSettled_changes (x0 : Nat) (s : State) :
    ChangesOnly [.port] s (execRangeSettled x0 s) := by unfold execRangeSettled; exact (ChangesOnly.withPort (Changes.after (Changes.refl _ _) (State.modPort_changes _ _ _) rfl))

theorem execMajoritySample_changes (x0 x1 : Nat) (s : State) :
    ChangesOnly [.die, .port, .stream, .parish, .reeve, .timers] s (execMajoritySample x0 x1 s) := by unfold execMajoritySample; exact (ChangesOnly.ite (ChangesOnly.fault _) (ChangesOnly.withPort (Changes.given (Changes.refl _ _) (Changes.ite (Changes.after (Changes.after (Changes.refl _ _) (State.modPort_changes _ _ _) rfl) (offerFrom_changes _ _ _ _ _ _) rfl) (Changes.after (Changes.refl _ _) (State.modPort_changes _ _ _) rfl)))))

theorem execTripFilterExpiry_changes (x0 x1 : Nat) (s : State) :
    ChangesOnly [.die, .port, .stream, .reeve] s (execTripFilterExpiry x0 x1 s) := by unfold execTripFilterExpiry; exact (ChangesOnly.ite (ChangesOnly.fault _) (ChangesOnly.withPort (Changes.given (Changes.refl _ _) (Changes.after (Changes.after (Changes.refl _ _) (State.modPort_changes _ _ _) rfl) (soRefresh_changes _) rfl))))

theorem execCmpLatchClear_changes (x0 x1 : Nat) (s : State) :
    ChangesOnly [.net, .die, .port, .stream, .parish, .reeve, .timers] s (execCmpLatchClear x0 x1 s) := by unfold execCmpLatchClear; exact (ChangesOnly.next (Changes.given (Changes.after (Changes.refl _ _) (withStatus_changes _ _) rfl) (Changes.given (Changes.refl _ _) (Changes.after (Changes.refl _ _) (clearLatches_changes _ _ _) rfl))))

theorem pg0Period_changes (s : State) (x1 : Nat) :
    Changes [.die, .port, .stream, .parish, .reeve, .timers] s (pg0Period s x1) := by unfold pg0Period; exact (Changes.ite (Changes.after (Changes.foldl (fun _ _ => (Changes.ite (Changes.after (Changes.refl _ _) (clearLatch_changes _ _ _) rfl) (Changes.refl _ _))) (Changes.refl _ _)) (State.modPort_changes _ _ _) rfl) (Changes.foldl (fun _ _ => (Changes.ite (Changes.after (Changes.refl _ _) (clearLatch_changes _ _ _) rfl) (Changes.refl _ _))) (Changes.refl _ _)))

theorem execPgPeriodStart_changes (x0 x1 : Nat) (s : State) :
    ChangesOnly [.die, .port, .stream, .parish, .reeve, .timers] s (execPgPeriodStart x0 x1 s) := by unfold execPgPeriodStart; exact (ChangesOnly.withPg (Changes.given (Changes.refl _ _) (Changes.after (Changes.ite (Changes.after (Changes.refl _ _) (pg0Period_changes _ _) rfl) (Changes.refl _ _)) (State.modPort_changes _ _ _) rfl)))

theorem execPgHeldClear_changes (x0 x1 : Nat) (s : State) :
    ChangesOnly [.port] s (execPgHeldClear x0 x1 s) := by unfold execPgHeldClear; exact (ChangesOnly.withPg (Changes.given (Changes.refl _ _) (Changes.after (Changes.refl _ _) (pgHeldClear_changes _ _ _) rfl)))

end Sys2Proof.Machine
end

