-- ==== Sys2Proof/Laws/IoSpace.lean ====
section
/-! SUPPORT. What each function of Sys2Proof/Machine/IoSpace.lean can change. -/

namespace Sys2Proof.Machine

theorem foldPair_changes (s : State) (x1 x2 : Nat) (x3 : Word) :
    Changes [.engine] s (foldPair s x1 x2 x3) := by unfold foldPair; exact (Changes.after (Changes.refl _ _) (State.modCtx_changes _ _ _ _) rfl)

theorem writeEngReg_changes (s : State) (x1 x2 x3 : Nat) (x4 : Word) :
    Changes [.engine] s (writeEngReg s x1 x2 x3 x4) := by unfold writeEngReg; exact (Changes.ite (Changes.after (Changes.refl _ _) (foldPair_changes _ _ _ _) rfl) (Changes.refl _ _))

theorem writePgCtl_changes (s : State) (x1 x2 : Nat) :
    Changes [.port] s (writePgCtl s x1 x2) := by unfold writePgCtl; exact (Changes.foldl (fun _ _ => (Changes.ite (Changes.after (Changes.ite (Changes.after (Changes.refl _ _) (pgHeldClear_changes _ _ _) rfl) (Changes.refl _ _)) (pgStart_changes _ _ _) rfl) (Changes.after (Changes.ite (Changes.after (Changes.refl _ _) (pgHeldClear_changes _ _ _) rfl) (Changes.refl _ _)) (pgStop_changes _ _ _) rfl))) (Changes.refl _ _))

theorem writePortReg_changes (s : State) (x1 x2 x3 : Nat) :
    Changes [.die, .port, .stream, .parish, .reeve, .timers] s (writePortReg s x1 x2 x3) := by unfold writePortReg; exact (by (try dsimp only); split; exacts [(Changes.after (Changes.refl _ _) (State.modPort_changes _ _ _) rfl), (Changes.after (Changes.refl _ _) (State.modPort_changes _ _ _) rfl), (Changes.after (Changes.refl _ _) (State.modPort_changes _ _ _) rfl), (Changes.after (Changes.after (Changes.refl _ _) (writeVpOn_changes _ _ _) rfl) (State.modPort_changes _ _ _) rfl), (Changes.after (Changes.refl _ _) (writeEmCfg_changes _ _ _) rfl), (Changes.after (Changes.refl _ _) (State.modPort_changes _ _ _) rfl), (Changes.after (Changes.refl _ _) (State.modPort_changes _ _ _) rfl), (Changes.ite (Changes.after (Changes.refl _ _) (clearLatches_changes _ _ _) rfl) (Changes.refl _ _)), (Changes.ite (Changes.after (Changes.refl _ _) (writeCmpDac_changes _ _ _) rfl) (Changes.refl _ _)), (Changes.ite (Changes.after (Changes.refl _ _) (writePgCtl_changes _ _ _) rfl) (Changes.ite (Changes.after (Changes.refl _ _) (State.modPort_changes _ _ _) rfl) (Changes.refl _ _))), (Changes.refl _ _)])

theorem latchTime_changes (s : State) (x1 : Nat) :
    Changes [.engine] s (latchTime s x1) := by unfold latchTime; exact (Changes.after (Changes.refl _ _) (State.modEng_changes _ _ _) rfl)

end Sys2Proof.Machine
end

