-- ==== Sys2Proof/Laws/Calib.lean ====
section
/-! SUPPORT. What each function of Sys2Proof/Machine/Calib.lean can change. -/

namespace Sys2Proof.Machine

theorem dropItem_changes (s : State) (x1 : Nat) :
    Changes [.die, .port, .stream, .reeve] s (dropItem s x1) := by unfold dropItem; exact (Changes.after (Changes.after (Changes.refl _ _) (stopEmitterItem_changes _ _) rfl) (State.modPort_changes _ _ _) rfl)

theorem startItem_changes (s : State) (x1 : Nat) :
    Changes [.die, .port] s (startItem s x1) := by unfold startItem; exact (by (try dsimp only); split; exacts [(Changes.ite (Changes.refl _ _) (Changes.ite (Changes.after (Changes.refl _ _) (State.modPort_changes _ _ _) rfl) (Changes.ite (Changes.after (Changes.after (Changes.refl _ _) (State.modPort_changes _ _ _) rfl) (emitterStart_changes _ _) rfl) (Changes.after (Changes.after (Changes.refl _ _) (State.modPort_changes _ _ _) rfl) (State.modDie_changes _ _ _) rfl)))), (Changes.after (Changes.refl _ _) (State.modPort_changes _ _ _) rfl)])

theorem closeGap_changes (s : State) (x1 : Nat) :
    Changes [.die, .port, .stream, .reeve] s (closeGap s x1) := by unfold closeGap; exact (Changes.after (Changes.after (Changes.refl _ _) (State.modPort_changes _ _ _) rfl) (dropItem_changes _ _) rfl)

theorem openGap_changes (s : State) (x1 : Nat) (x2 : Bool) (x3 : Nat) :
    Changes [.die, .port] s (openGap s x1 x2 x3) := by unfold openGap; exact (Changes.ite (Changes.after (Changes.refl _ _) (State.modPort_changes _ _ _) rfl) (Changes.after (Changes.after (Changes.refl _ _) (State.modPort_changes _ _ _) rfl) (startItem_changes _ _) rfl))

end Sys2Proof.Machine
end

