-- ==== Sys2Proof/Laws/Engine.lean ====
section
/-! SUPPORT. What each function of Sys2Proof/Machine/Engine.lean can change. -/

namespace Sys2Proof.Machine

theorem loadOp_changes (s : State) (x1 : Nat) (x2 : Instr) (x3 x4 : BitVec 4) (x5 : BitVec 18) (x6 : Nat) (x7 : (Memory → Nat → Word)) :
    ChangesOnly [.die, .port, .engine, .stream, .parish, .reeve, .timers] s (loadOp s x1 x2 x3 x4 x5 x6 x7) := by unfold loadOp; exact (onCtx_changes (fun _ _ _ => (Changes.ite (Changes.after (Changes.after (Changes.refl _ _) (writeReg_changes _ _ _ _ _) rfl) (nextPc_changes _ _ _) rfl) (Changes.after (Changes.refl _ _) (faultEnd_changes _ _ _ _ _) rfl))))

theorem execLhu_changes (x0 : Nat) (x1 x2 : BitVec 4) (x3 : BitVec 18) (s : State) :
    ChangesOnly [.die, .port, .engine, .stream, .parish, .reeve, .timers] s (execLhu x0 x1 x2 x3 s) := by unfold execLhu; exact (loadOp_changes _ _ _ _ _ _ _ _)

theorem aluEnd_changes (s : State) (x1 x2 : Nat) (x3 : BitVec 4) (x4 : Word × Flags) :
    Changes [.engine] s (aluEnd s x1 x2 x3 x4) := by unfold aluEnd; exact (Changes.after (Changes.after (Changes.after (Changes.refl _ _) (State.modCtx_changes _ _ _ _) rfl) (writeReg_changes _ _ _ _ _) rfl) (nextPc_changes _ _ _) rfl)

theorem aluR_changes (s : State) (x1 : Nat) (x2 : Instr) (x3 x4 x5 : BitVec 4) (x6 : (Flags → Word → Word → Word × Flags)) :
    ChangesOnly [.engine] s (aluR s x1 x2 x3 x4 x5 x6) := by unfold aluR; exact (onCtx_changes (fun _ _ _ => (Changes.after (Changes.refl _ _) (aluEnd_changes _ _ _ _ _) rfl)))

theorem execAdd_changes (x0 : Nat) (x1 x2 x3 : BitVec 4) (s : State) :
    ChangesOnly [.engine] s (execAdd x0 x1 x2 x3 s) := by unfold execAdd; exact (aluR_changes _ _ _ _ _ _ _)

theorem execMin_changes (x0 : Nat) (x1 x2 x3 : BitVec 4) (s : State) :
    ChangesOnly [.engine] s (execMin x0 x1 x2 x3 s) := by unfold execMin; exact (aluR_changes _ _ _ _ _ _ _)

theorem execPcend_changes (x0 : Nat) (s : State) :
    ChangesOnly [.die, .port, .engine, .stream, .parish, .reeve, .timers] s (execPcend x0 s) := by unfold execPcend; exact (ChangesOnly.withEngine (by (try dsimp only); split; exacts [(Changes.refl _ _), (Changes.given (Changes.refl _ _) (Changes.after (Changes.refl _ _) (faultEnd_changes _ _ _ _ _) rfl))]))

theorem jumpTo_changes (s : State) (x1 x2 x3 : Nat) :
    Changes [.engine] s (jumpTo s x1 x2 x3) := by unfold jumpTo; exact (Changes.after (Changes.refl _ _) (State.modCtx_changes _ _ _ _) rfl)

theorem aluI_changes (s : State) (x1 : Nat) (x2 : Instr) (x3 x4 : BitVec 4) (x5 : (Flags → Word → Word × Flags)) :
    ChangesOnly [.engine] s (aluI s x1 x2 x3 x4 x5) := by unfold aluI; exact (onCtx_changes (fun _ _ _ => (Changes.after (Changes.refl _ _) (aluEnd_changes _ _ _ _ _) rfl)))

theorem execAddi_changes (x0 : Nat) (x1 x2 : BitVec 4) (x3 : BitVec 18) (s : State) :
    ChangesOnly [.engine] s (execAddi x0 x1 x2 x3 s) := by unfold execAddi; exact (aluI_changes _ _ _ _ _ _)

theorem ioWrite_changes (s : State) (x1 x2 x3 x4 : Nat) (x5 : Word) :
    Changes [.die, .port, .engine, .stream, .parish, .reeve, .timers] s (ioWrite s x1 x2 x3 x4 x5) := by unfold ioWrite; exact (Changes.ite (Changes.ite (Changes.after (Changes.refl _ _) (writePortReg_changes _ _ _ _) rfl) (Changes.after (Changes.after (Changes.refl _ _) (engineFault_changes _ _ _ _ _ _) rfl) (State.modEng_changes _ _ _) rfl)) (Changes.after (Changes.refl _ _) (writeEngReg_changes _ _ _ _ _) rfl))

theorem execRegisterWrite_changes (x0 x1 : Nat) (x2 : Word) (s : State) :
    ChangesOnly [.die, .port, .engine, .stream, .parish, .reeve, .timers] s (execRegisterWrite x0 x1 x2 s) := by unfold execRegisterWrite; exact (ChangesOnly.withEngine (by (try dsimp only); split; exacts [(Changes.refl _ _), (Changes.given (Changes.refl _ _) (Changes.after (Changes.refl _ _) (ioWrite_changes _ _ _ _ _ _) rfl))]))

theorem storeOp_changes (s : State) (x1 : Nat) (x2 : Instr) (x3 x4 : BitVec 4) (x5 : BitVec 18) (x6 : Nat) :
    ChangesOnly [.die, .port, .engine, .stream, .parish, .reeve, .timers] s (storeOp s x1 x2 x3 x4 x5 x6) := by unfold storeOp; exact (onCtx_changes (fun _ _ _ => (Changes.ite (Changes.after (Changes.after (Changes.refl _ _) (writeScratch_changes _ _ _ _) rfl) (nextPc_changes _ _ _) rfl) (Changes.after (Changes.refl _ _) (faultEnd_changes _ _ _ _ _) rfl))))

theorem execSh_changes (x0 : Nat) (x1 x2 : BitVec 4) (x3 : BitVec 18) (s : State) :
    ChangesOnly [.die, .port, .engine, .stream, .parish, .reeve, .timers] s (execSh x0 x1 x2 x3 s) := by unfold execSh; exact (storeOp_changes _ _ _ _ _ _ _)

theorem execTsecLoRead_changes (x0 : Nat) (x1 : BitVec 4) (s : State) :
    ChangesOnly [.engine] s (execTsecLoRead x0 x1 s) := by unfold execTsecLoRead; exact (ChangesOnly.withEngine (by (try dsimp only); split; exacts [(Changes.after (Changes.refl _ _) (latchTime_changes _ _) rfl), (Changes.after (Changes.after (Changes.refl _ _) (latchTime_changes _ _) rfl) (writeReg_changes _ _ _ _ _) rfl)]))

theorem execLbu_changes (x0 : Nat) (x1 x2 : BitVec 4) (x3 : BitVec 18) (s : State) :
    ChangesOnly [.die, .port, .engine, .stream, .parish, .reeve, .timers] s (execLbu x0 x1 x2 x3 s) := by unfold execLbu; exact (loadOp_changes _ _ _ _ _ _ _ _)

theorem execShr_changes (x0 : Nat) (x1 x2 x3 : BitVec 4) (s : State) :
    ChangesOnly [.engine] s (execShr x0 x1 x2 x3 s) := by unfold execShr; exact (aluR_changes _ _ _ _ _ _ _)

theorem execMulq_changes (x0 : Nat) (x1 x2 x3 : BitVec 4) (s : State) :
    ChangesOnly [.engine] s (execMulq x0 x1 x2 x3 s) := by unfold execMulq; exact (aluR_changes _ _ _ _ _ _ _)

theorem execAnd_changes (x0 : Nat) (x1 x2 x3 : BitVec 4) (s : State) :
    ChangesOnly [.engine] s (execAnd x0 x1 x2 x3 s) := by unfold execAnd; exact (aluR_changes _ _ _ _ _ _ _)

theorem execLui_changes (x0 : Nat) (x1 : BitVec 4) (x2 : BitVec 18) (s : State) :
    ChangesOnly [.engine] s (execLui x0 x1 x2 s) := by unfold execLui; exact (onCtx_changes (fun _ _ _ => (Changes.after (Changes.after (Changes.refl _ _) (writeReg_changes _ _ _ _ _) rfl) (nextPc_changes _ _ _) rfl)))

theorem execMul_changes (x0 : Nat) (x1 x2 x3 : BitVec 4) (s : State) :
    ChangesOnly [.engine] s (execMul x0 x1 x2 x3 s) := by unfold execMul; exact (aluR_changes _ _ _ _ _ _ _)

theorem execShli_changes (x0 : Nat) (x1 x2 : BitVec 4) (x3 : BitVec 5) (s : State) :
    ChangesOnly [.engine] s (execShli x0 x1 x2 x3 s) := by unfold execShli; exact (aluI_changes _ _ _ _ _ _)

theorem execSw_changes (x0 : Nat) (x1 x2 : BitVec 4) (x3 : BitVec 18) (s : State) :
    ChangesOnly [.die, .port, .engine, .stream, .parish, .reeve, .timers] s (execSw x0 x1 x2 x3 s) := by unfold execSw; exact (storeOp_changes _ _ _ _ _ _ _)

theorem execIoOut_changes (x0 : Nat) (x1 x2 : BitVec 4) (x3 : BitVec 18) (s : State) :
    ChangesOnly [.die, .port, .engine, .stream, .parish, .reeve, .timers] s (execIoOut x0 x1 x2 x3 s) := by unfold execIoOut; exact (onCtx_changes (fun _ _ _ => (Changes.ite (Changes.after (Changes.refl _ _) (faultEnd_changes _ _ _ _ _) rfl) (Changes.ite (Changes.after (Changes.refl _ _) (faultEnd_changes _ _ _ _ _) rfl) (Changes.after (Changes.after (Changes.refl _ _) (ioWrite_changes _ _ _ _ _ _) rfl) (nextPc_changes _ _ _) rfl)))))

theorem execReservedOpcode_changes (x0 : Nat) (s : State) :
    ChangesOnly [.die, .port, .engine, .stream, .parish, .reeve, .timers] s (execReservedOpcode x0 s) := by unfold execReservedOpcode; exact (ChangesOnly.withEngine (by (try dsimp only); split; exacts [(Changes.refl _ _), (Changes.given (Changes.refl _ _) (Changes.after (Changes.refl _ _) (faultEnd_changes _ _ _ _ _) rfl))]))

theorem execBranch_changes (x0 : Nat) (x1 : BitVec 4) (x2 : BitVec 10) (s : State) :
    ChangesOnly [.engine] s (execBranch x0 x1 x2 s) := by unfold execBranch; exact (onCtx_changes (fun _ _ _ => (Changes.ite (Changes.after (Changes.refl _ _) (jumpTo_changes _ _ _ _) rfl) (Changes.after (Changes.refl _ _) (nextPc_changes _ _ _) rfl))))

theorem execMulh_changes (x0 : Nat) (x1 x2 x3 : BitVec 4) (s : State) :
    ChangesOnly [.engine] s (execMulh x0 x1 x2 x3 s) := by unfold execMulh; exact (aluR_changes _ _ _ _ _ _ _)

theorem execPairWordWrite_changes (x0 : Nat) (x1 : Word) (s : State) :
    ChangesOnly [.engine] s (execPairWordWrite x0 x1 s) := by unfold execPairWordWrite; exact (ChangesOnly.withEngine (by (try dsimp only); split; exacts [(Changes.refl _ _), (Changes.after (Changes.refl _ _) (foldPair_changes _ _ _ _) rfl)]))

theorem execLh_changes (x0 : Nat) (x1 x2 : BitVec 4) (x3 : BitVec 18) (s : State) :
    ChangesOnly [.die, .port, .engine, .stream, .parish, .reeve, .timers] s (execLh x0 x1 x2 x3 s) := by unfold execLh; exact (loadOp_changes _ _ _ _ _ _ _ _)

theorem execSub_changes (x0 : Nat) (x1 x2 x3 : BitVec 4) (s : State) :
    ChangesOnly [.engine] s (execSub x0 x1 x2 x3 s) := by unfold execSub; exact (aluR_changes _ _ _ _ _ _ _)

theorem execOr_changes (x0 : Nat) (x1 x2 x3 : BitVec 4) (s : State) :
    ChangesOnly [.engine] s (execOr x0 x1 x2 x3 s) := by unfold execOr; exact (aluR_changes _ _ _ _ _ _ _)

theorem execXor_changes (x0 : Nat) (x1 x2 x3 : BitVec 4) (s : State) :
    ChangesOnly [.engine] s (execXor x0 x1 x2 x3 s) := by unfold execXor; exact (aluR_changes _ _ _ _ _ _ _)

theorem execShl_changes (x0 : Nat) (x1 x2 x3 : BitVec 4) (s : State) :
    ChangesOnly [.engine] s (execShl x0 x1 x2 x3 s) := by unfold execShl; exact (aluR_changes _ _ _ _ _ _ _)

theorem execSar_changes (x0 : Nat) (x1 x2 x3 : BitVec 4) (s : State) :
    ChangesOnly [.engine] s (execSar x0 x1 x2 x3 s) := by unfold execSar; exact (aluR_changes _ _ _ _ _ _ _)

theorem execAdds_changes (x0 : Nat) (x1 x2 x3 : BitVec 4) (s : State) :
    ChangesOnly [.engine] s (execAdds x0 x1 x2 x3 s) := by unfold execAdds; exact (aluR_changes _ _ _ _ _ _ _)

theorem execSubs_changes (x0 : Nat) (x1 x2 x3 : BitVec 4) (s : State) :
    ChangesOnly [.engine] s (execSubs x0 x1 x2 x3 s) := by unfold execSubs; exact (aluR_changes _ _ _ _ _ _ _)

theorem execMulhu_changes (x0 : Nat) (x1 x2 x3 : BitVec 4) (s : State) :
    ChangesOnly [.engine] s (execMulhu x0 x1 x2 x3 s) := by unfold execMulhu; exact (aluR_changes _ _ _ _ _ _ _)

theorem execMax_changes (x0 : Nat) (x1 x2 x3 : BitVec 4) (s : State) :
    ChangesOnly [.engine] s (execMax x0 x1 x2 x3 s) := by unfold execMax; exact (aluR_changes _ _ _ _ _ _ _)

theorem execMinu_changes (x0 : Nat) (x1 x2 x3 : BitVec 4) (s : State) :
    ChangesOnly [.engine] s (execMinu x0 x1 x2 x3 s) := by unfold execMinu; exact (aluR_changes _ _ _ _ _ _ _)

theorem execMaxu_changes (x0 : Nat) (x1 x2 x3 : BitVec 4) (s : State) :
    ChangesOnly [.engine] s (execMaxu x0 x1 x2 x3 s) := by unfold execMaxu; exact (aluR_changes _ _ _ _ _ _ _)

theorem execAbs_changes (x0 : Nat) (x1 x2 : BitVec 4) (s : State) :
    ChangesOnly [.engine] s (execAbs x0 x1 x2 s) := by unfold execAbs; exact (aluI_changes _ _ _ _ _ _)

theorem execAndi_changes (x0 : Nat) (x1 x2 : BitVec 4) (x3 : BitVec 18) (s : State) :
    ChangesOnly [.engine] s (execAndi x0 x1 x2 x3 s) := by unfold execAndi; exact (aluI_changes _ _ _ _ _ _)

theorem execOri_changes (x0 : Nat) (x1 x2 : BitVec 4) (x3 : BitVec 18) (s : State) :
    ChangesOnly [.engine] s (execOri x0 x1 x2 x3 s) := by unfold execOri; exact (aluI_changes _ _ _ _ _ _)

theorem execXori_changes (x0 : Nat) (x1 x2 : BitVec 4) (x3 : BitVec 18) (s : State) :
    ChangesOnly [.engine] s (execXori x0 x1 x2 x3 s) := by unfold execXori; exact (aluI_changes _ _ _ _ _ _)

theorem execShri_changes (x0 : Nat) (x1 x2 : BitVec 4) (x3 : BitVec 5) (s : State) :
    ChangesOnly [.engine] s (execShri x0 x1 x2 x3 s) := by unfold execShri; exact (aluI_changes _ _ _ _ _ _)

theorem execSari_changes (x0 : Nat) (x1 x2 : BitVec 4) (x3 : BitVec 5) (s : State) :
    ChangesOnly [.engine] s (execSari x0 x1 x2 x3 s) := by unfold execSari; exact (aluI_changes _ _ _ _ _ _)

theorem execCmpi_changes (x0 : Nat) (x1 : BitVec 4) (x2 : BitVec 18) (s : State) :
    ChangesOnly [.engine] s (execCmpi x0 x1 x2 s) := by unfold execCmpi; exact (onCtx_changes (fun _ _ _ => (Changes.after (Changes.after (Changes.refl _ _) (State.modCtx_changes _ _ _ _) rfl) (nextPc_changes _ _ _) rfl)))

theorem execAddsi_changes (x0 : Nat) (x1 x2 : BitVec 4) (x3 : BitVec 18) (s : State) :
    ChangesOnly [.engine] s (execAddsi x0 x1 x2 x3 s) := by unfold execAddsi; exact (aluI_changes _ _ _ _ _ _)

theorem execLw_changes (x0 : Nat) (x1 x2 : BitVec 4) (x3 : BitVec 18) (s : State) :
    ChangesOnly [.die, .port, .engine, .stream, .parish, .reeve, .timers] s (execLw x0 x1 x2 x3 s) := by unfold execLw; exact (loadOp_changes _ _ _ _ _ _ _ _)

theorem execLb_changes (x0 : Nat) (x1 x2 : BitVec 4) (x3 : BitVec 18) (s : State) :
    ChangesOnly [.die, .port, .engine, .stream, .parish, .reeve, .timers] s (execLb x0 x1 x2 x3 s) := by unfold execLb; exact (loadOp_changes _ _ _ _ _ _ _ _)

theorem execSb_changes (x0 : Nat) (x1 x2 : BitVec 4) (x3 : BitVec 18) (s : State) :
    ChangesOnly [.die, .port, .engine, .stream, .parish, .reeve, .timers] s (execSb x0 x1 x2 x3 s) := by unfold execSb; exact (storeOp_changes _ _ _ _ _ _ _)

theorem execIoIn_changes (x0 : Nat) (x1 x2 : BitVec 4) (x3 : BitVec 18) (s : State) :
    ChangesOnly [.die, .port, .engine, .stream, .parish, .reeve, .timers] s (execIoIn x0 x1 x2 x3 s) := by unfold execIoIn; exact (onCtx_changes (fun _ _ _ => (Changes.ite (Changes.after (Changes.refl _ _) (faultEnd_changes _ _ _ _ _) rfl) (Changes.ite (Changes.ite (Changes.after (Changes.refl _ _) (faultEnd_changes _ _ _ _ _) rfl) (Changes.ite (Changes.after (Changes.after (Changes.after (Changes.refl _ _) (engineFault_changes _ _ _ _ _ _) rfl) (writeReg_changes _ _ _ _ _) rfl) (nextPc_changes _ _ _) rfl) (Changes.after (Changes.after (Changes.refl _ _) (writeReg_changes _ _ _ _ _) rfl) (nextPc_changes _ _ _) rfl))) (Changes.ite (Changes.after (Changes.after (Changes.after (Changes.refl _ _) (latchTime_changes _ _) rfl) (writeReg_changes _ _ _ _ _) rfl) (nextPc_changes _ _ _) rfl) (Changes.after (Changes.after (Changes.refl _ _) (writeReg_changes _ _ _ _ _) rfl) (nextPc_changes _ _ _) rfl))))))

theorem execJal_changes (x0 : Nat) (x1 : BitVec 4) (x2 : BitVec 10) (s : State) :
    ChangesOnly [.engine] s (execJal x0 x1 x2 s) := by unfold execJal; exact (onCtx_changes (fun _ _ _ => (Changes.after (Changes.after (Changes.refl _ _) (writeReg_changes _ _ _ _ _) rfl) (jumpTo_changes _ _ _ _) rfl)))

theorem execJr_changes (x0 : Nat) (x1 : BitVec 4) (s : State) :
    ChangesOnly [.die, .port, .engine, .stream, .parish, .reeve, .timers] s (execJr x0 x1 s) := by unfold execJr; exact (onCtx_changes (fun _ _ _ => (Changes.ite (Changes.after (Changes.refl _ _) (jumpTo_changes _ _ _ _) rfl) (Changes.after (Changes.refl _ _) (faultEnd_changes _ _ _ _ _) rfl))))

end Sys2Proof.Machine
end

