-- ==== Sys2Proof/Laws/EngineOps.lean ====
section
/-! SUPPORT. What each function of Sys2Proof/Machine/EngineOps.lean can change. -/

namespace Sys2Proof.Machine

theorem awaitReturn_changes (s : State) (x1 x2 : Nat) (x3 : Await) :
    Changes [.die, .engine] s (awaitReturn s x1 x2 x3) := by unfold awaitReturn; exact (by (try dsimp only); split; exacts [(Changes.after (Changes.after (Changes.after (Changes.after (Changes.refl _ _) (retireSlot_changes _ _ _) rfl) (State.modCtx_changes _ _ _ _) rfl) (writeReg_changes _ _ _ _ _) rfl) (nextPc_changes _ _ _) rfl), (Changes.after (Changes.after (Changes.after (Changes.refl _ _) (State.modCtx_changes _ _ _ _) rfl) (writeReg_changes _ _ _ _ _) rfl) (nextPc_changes _ _ _) rfl), (Changes.after (Changes.after (Changes.after (Changes.refl _ _) (State.modCtx_changes _ _ _ _) rfl) (writeReg_changes _ _ _ _ _) rfl) (nextPc_changes _ _ _) rfl), (Changes.after (Changes.after (Changes.after (Changes.refl _ _) (State.modCtx_changes _ _ _ _) rfl) (writeReg_changes _ _ _ _ _) rfl) (nextPc_changes _ _ _) rfl)])

theorem takeEngine_changes (s : State) (x1 x2 : Nat) (x3 : List Nat) :
    Changes [.die, .engine] s (takeEngine s x1 x2 x3) := by unfold takeEngine; exact (by (try dsimp only); split; exacts [(Changes.after (Changes.after (Changes.refl _ _) (State.modEng_changes _ _ _) rfl) (awaitReturn_changes _ _ _ _) rfl), (Changes.ite (Changes.after (Changes.refl _ _) (State.modEng_changes _ _ _) rfl) (Changes.after (Changes.after (Changes.after (Changes.refl _ _) (State.modEng_changes _ _ _) rfl) (State.modCtx_changes _ _ _ _) rfl) (State.modDie_changes _ _ _) rfl))])

theorem emitOp_changes (s : State) (x1 : Nat) (x2 : Instr) (x3 x4 x5 : BitVec 4) (x6 : Bool) :
    ChangesOnly [.die, .port, .engine, .stream, .rule, .parish, .reeve, .timers] s (emitOp s x1 x2 x3 x4 x5 x6) := by unfold emitOp; exact (onCtx_changes (fun _ _ _ => (Changes.ite (Changes.after (Changes.refl _ _) (faultEnd_changes _ _ _ _ _) rfl) (Changes.ite (Changes.after (Changes.refl _ _) (faultEnd_changes _ _ _ _ _) rfl) (Changes.ite (Changes.after (Changes.refl _ _) (faultEnd_changes _ _ _ _ _) rfl) (Changes.after (Changes.after (Changes.refl _ _) (putRecord_changes _ _ _) rfl) (nextPc_changes _ _ _) rfl))))))

theorem awaitStart_changes (s : State) (x1 x2 : Nat) (x3 : Await) :
    Changes [.die, .engine] s (awaitStart s x1 x2 x3) := by unfold awaitStart; exact (Changes.ite (Changes.after (Changes.refl _ _) (awaitReturn_changes _ _ _ _) rfl) (Changes.after (Changes.after (Changes.refl _ _) (State.modCtx_changes _ _ _ _) rfl) (leaveEngine_changes _ _) rfl))

theorem execAwaitComp_changes (x0 : Nat) (x1 x2 : BitVec 4) (s : State) :
    ChangesOnly [.die, .port, .engine, .stream, .parish, .reeve, .timers] s (execAwaitComp x0 x1 x2 s) := by unfold execAwaitComp; exact (onCtx_changes (fun _ _ _ => (Changes.ite (Changes.after (Changes.refl _ _) (awaitStart_changes _ _ _ _) rfl) (Changes.after (Changes.refl _ _) (faultEnd_changes _ _ _ _ _) rfl))))

theorem signalOp_changes (s : State) (x1 : Nat) (x2 : Instr) (x3 : BitVec 4) (x4 : (Engine → Nat → Engine)) :
    ChangesOnly [.die, .port, .engine, .stream, .parish, .reeve, .timers] s (signalOp s x1 x2 x3 x4) := by unfold signalOp; exact (onCtx_changes (fun _ _ _ => (Changes.ite (Changes.after (Changes.refl _ _) (faultEnd_changes _ _ _ _ _) rfl) (Changes.ite (Changes.after (Changes.refl _ _) (faultEnd_changes _ _ _ _ _) rfl) (Changes.after (Changes.after (Changes.refl _ _) (State.modEng_changes _ _ _) rfl) (nextPc_changes _ _ _) rfl)))))

theorem execSignalHigh_changes (x0 : Nat) (x1 : BitVec 4) (s : State) :
    ChangesOnly [.die, .port, .engine, .stream, .parish, .reeve, .timers] s (execSignalHigh x0 x1 s) := by unfold execSignalHigh; exact (signalOp_changes _ _ _ _ _)

theorem execAwaitTime_changes (x0 : Nat) (x1 x2 : BitVec 4) (x3 : BitVec 16) (s : State) :
    ChangesOnly [.die, .engine] s (execAwaitTime x0 x1 x2 x3 s) := by unfold execAwaitTime; exact (onCtx_changes (fun _ _ _ => (Changes.after (Changes.refl _ _) (awaitStart_changes _ _ _ _) rfl)))

theorem waitForSlot_changes (s : State) (x1 x2 : Nat) :
    Changes [.die, .engine] s (waitForSlot s x1 x2) := by unfold waitForSlot; exact (Changes.after (Changes.after (Changes.after (Changes.refl _ _) (State.modCtx_changes _ _ _ _) rfl) (leaveEngine_changes _ _) rfl) (State.modDie_changes _ _ _) rfl)

theorem takeSlot_changes (s : State) (x1 x2 : Nat) (x3 : BitVec 4) (x4 x5 : Nat) (x6 x7 : Word) :
    Changes [.die, .port, .engine, .free] s (takeSlot s x1 x2 x3 x4 x5 x6 x7) := by unfold takeSlot; exact (by (try dsimp only); split; exacts [(Changes.after (Changes.after (Changes.after (Changes.after (Changes.after (Changes.after (Changes.after (Changes.after (Changes.refl _ _) (State.draw_changes _ _) rfl) (State.modSlot_changes _ _ _ _) rfl) (State.modDie_changes _ _ _) rfl) (State.modPort_changes _ _ _) rfl) (State.modCtx_changes _ _ _ _) rfl) (writeReg_changes _ _ _ _ _) rfl) (nextPc_changes _ _ _) rfl) (completeOp_changes _ _ _ _ _) rfl), (Changes.after (Changes.after (Changes.after (Changes.after (Changes.after (Changes.after (Changes.after (Changes.refl _ _) (State.draw_changes _ _) rfl) (State.modSlot_changes _ _ _ _) rfl) (State.modDie_changes _ _ _) rfl) (State.modPort_changes _ _ _) rfl) (State.modCtx_changes _ _ _ _) rfl) (writeReg_changes _ _ _ _ _) rfl) (nextPc_changes _ _ _) rfl)])

theorem issueOp_changes (s : State) (x1 : Nat) (x2 : Instr) (x3 : Nat) (x4 x5 : BitVec 4) (x6 : (Engine → Ctx → Nat × Word × Word)) (x7 : (Nat → Nat → Word → Word → Bool)) :
    ChangesOnly [.die, .port, .engine, .stream, .parish, .reeve, .timers, .free] s (issueOp s x1 x2 x3 x4 x5 x6 x7) := by unfold issueOp; exact (onCtx_changes (fun _ _ _ => (Changes.ite (Changes.after (Changes.refl _ _) (faultEnd_changes _ _ _ _ _) rfl) (Changes.ite (Changes.after (Changes.refl _ _) (faultEnd_changes _ _ _ _ _) rfl) (Changes.ite (Changes.after (Changes.refl _ _) (waitForSlot_changes _ _ _) rfl) (Changes.ite (Changes.after (Changes.after (Changes.refl _ _) (engineFault_changes _ _ _ _ _ _) rfl) (takeSlot_changes _ _ _ _ _ _ _ _) rfl) (Changes.ite (Changes.after (Changes.refl _ _) (faultEnd_changes _ _ _ _ _) rfl) (Changes.ite (Changes.after (Changes.refl _ _) (faultEnd_changes _ _ _ _ _) rfl) (Changes.ite (Changes.after (Changes.refl _ _) (faultEnd_changes _ _ _ _ _) rfl) (Changes.after (Changes.refl _ _) (takeSlot_changes _ _ _ _ _ _ _ _) rfl))))))))))

theorem execIssueAna_changes (x0 : Nat) (x1 x2 x3 : BitVec 4) (x4 : BitVec 8) (s : State) :
    ChangesOnly [.die, .port, .engine, .stream, .parish, .reeve, .timers, .free] s (execIssueAna x0 x1 x2 x3 x4 s) := by unfold execIssueAna; exact (issueOp_changes _ _ _ _ _ _ _ _)

theorem execEmitS_changes (x0 : Nat) (x1 x2 x3 : BitVec 4) (s : State) :
    ChangesOnly [.die, .port, .engine, .stream, .rule, .parish, .reeve, .timers] s (execEmitS x0 x1 x2 x3 s) := by unfold execEmitS; exact (emitOp_changes _ _ _ _ _ _ _)

theorem execStampRead_changes (x0 : Nat) (x1 x2 : BitVec 4) (s : State) :
    ChangesOnly [.engine] s (execStampRead x0 x1 x2 s) := by unfold execStampRead; exact (onCtx_changes (fun _ _ _ => (Changes.after (Changes.after (Changes.after (Changes.refl _ _) (writeReg_changes _ _ _ _ _) rfl) (writeReg_changes _ _ _ _ _) rfl) (nextPc_changes _ _ _) rfl)))

theorem execEmit_changes (x0 : Nat) (x1 x2 x3 : BitVec 4) (s : State) :
    ChangesOnly [.die, .port, .engine, .stream, .rule, .parish, .reeve, .timers] s (execEmit x0 x1 x2 x3 s) := by unfold execEmit; exact (emitOp_changes _ _ _ _ _ _ _)

theorem execAwaitResume_changes (x0 x1 : Nat) (s : State) :
    ChangesOnly [.engine] s (execAwaitResume x0 x1 s) := by unfold execAwaitResume; exact (ChangesOnly.withEngine (by (try dsimp only); split; exacts [(Changes.refl _ _), (Changes.given (Changes.refl _ _) (Changes.after (Changes.after (Changes.refl _ _) (State.modCtx_changes _ _ _ _) rfl) (makeReady_changes _ _ _) rfl))]))

theorem execIssuePulse_changes (x0 : Nat) (x1 x2 : BitVec 4) (s : State) :
    ChangesOnly [.die, .port, .engine, .stream, .parish, .reeve, .timers, .free] s (execIssuePulse x0 x1 x2 s) := by unfold execIssuePulse; exact (issueOp_changes _ _ _ _ _ _ _ _)

theorem execIssueUart_changes (x0 : Nat) (x1 x2 x3 : BitVec 4) (x4 : BitVec 8) (s : State) :
    ChangesOnly [.die, .port, .engine, .stream, .parish, .reeve, .timers, .free] s (execIssueUart x0 x1 x2 x3 x4 s) := by unfold execIssueUart; exact (issueOp_changes _ _ _ _ _ _ _ _)

theorem execIssueSpi_changes (x0 : Nat) (x1 x2 x3 : BitVec 4) (x4 : BitVec 8) (s : State) :
    ChangesOnly [.die, .port, .engine, .stream, .parish, .reeve, .timers, .free] s (execIssueSpi x0 x1 x2 x3 x4 s) := by unfold execIssueSpi; exact (issueOp_changes _ _ _ _ _ _ _ _)

theorem execSignalLow_changes (x0 : Nat) (x1 : BitVec 4) (s : State) :
    ChangesOnly [.die, .port, .engine, .stream, .parish, .reeve, .timers] s (execSignalLow x0 x1 s) := by unfold execSignalLow; exact (signalOp_changes _ _ _ _ _)

theorem execContextDispatch_changes (x0 : Nat) (s : State) :
    ChangesOnly [.die, .engine] s (execContextDispatch x0 s) := by unfold execContextDispatch; exact (ChangesOnly.withEngine (by (try dsimp only); split; exacts [(Changes.given (Changes.refl _ _) (Changes.after (Changes.refl _ _) (takeEngine_changes _ _ _ _) rfl)), (Changes.refl _ _)]))

theorem execIssueTw_changes (x0 : Nat) (x1 x2 x3 : BitVec 4) (x4 : BitVec 8) (s : State) :
    ChangesOnly [.die, .port, .engine, .stream, .parish, .reeve, .timers, .free] s (execIssueTw x0 x1 x2 x3 x4 s) := by unfold execIssueTw; exact (issueOp_changes _ _ _ _ _ _ _ _)

theorem execTransactionSlotFree_changes (x0 : Nat) (s : State) :
    ChangesOnly [.die, .engine] s (execTransactionSlotFree x0 s) := by unfold execTransactionSlotFree; exact (ChangesOnly.withDie (by (try dsimp only); split; exacts [(Changes.refl _ _), (Changes.given (Changes.refl _ _) (Changes.after (Changes.after (Changes.after (Changes.refl _ _) (State.modDie_changes _ _ _) rfl) (State.modCtx_changes _ _ _ _) rfl) (makeReady_changes _ _ _) rfl))]))

theorem execSieveOffer_changes (x0 : Nat) (x1 x2 : BitVec 4) (s : State) :
    ChangesOnly [.die, .port, .engine, .stream, .parish, .reeve, .timers] s (execSieveOffer x0 x1 x2 s) := by unfold execSieveOffer; exact (onCtx_changes (fun _ _ _ => (Changes.ite (Changes.after (Changes.refl _ _) (faultEnd_changes _ _ _ _ _) rfl) (Changes.ite (Changes.after (Changes.refl _ _) (faultEnd_changes _ _ _ _ _) rfl) (Changes.ite (Changes.after (Changes.refl _ _) (faultEnd_changes _ _ _ _ _) rfl) (Changes.after (Changes.after (Changes.refl _ _) (offerTo_changes _ _ _ _) rfl) (nextPc_changes _ _ _) rfl))))))

theorem execSignalPulse_changes (x0 : Nat) (x1 : BitVec 4) (s : State) :
    ChangesOnly [.die, .port, .engine, .stream, .parish, .reeve, .timers] s (execSignalPulse x0 x1 s) := by unfold execSignalPulse; exact (signalOp_changes _ _ _ _ _)

theorem execAwaitEdge_changes (x0 : Nat) (x1 x2 : BitVec 4) (x3 x4 : BitVec 2) (s : State) :
    ChangesOnly [.die, .port, .engine, .stream, .parish, .reeve, .timers] s (execAwaitEdge x0 x1 x2 x3 x4 s) := by unfold execAwaitEdge; exact (onCtx_changes (fun _ _ _ => (Changes.ite (Changes.after (Changes.refl _ _) (faultEnd_changes _ _ _ _ _) rfl) (Changes.ite (Changes.after (Changes.refl _ _) (faultEnd_changes _ _ _ _ _) rfl) (Changes.after (Changes.refl _ _) (awaitStart_changes _ _ _ _) rfl)))))

theorem execAwaitLine_changes (x0 : Nat) (x1 x2 : BitVec 4) (x3 : Bool) (s : State) :
    ChangesOnly [.die, .port, .engine, .stream, .parish, .reeve, .timers] s (execAwaitLine x0 x1 x2 x3 s) := by unfold execAwaitLine; exact (onCtx_changes (fun _ _ _ => (Changes.ite (Changes.after (Changes.refl _ _) (faultEnd_changes _ _ _ _ _) rfl) (Changes.ite (Changes.after (Changes.refl _ _) (faultEnd_changes _ _ _ _ _) rfl) (Changes.after (Changes.refl _ _) (awaitStart_changes _ _ _ _) rfl)))))

theorem closeDigest_changes (s : State) (x1 x2 : Nat) :
    Changes [.die] s (closeDigest s x1 x2) := by unfold closeDigest; exact (Changes.ite (Changes.after (Changes.refl _ _) (State.modDie_changes _ _ _) rfl) (Changes.refl _ _))

theorem execYield_changes (x0 : Nat) (s : State) :
    ChangesOnly [.die, .port, .engine, .stream, .reeve] s (execYield x0 s) := by unfold execYield; exact (onCtx_changes (fun _ _ _ => (Changes.after (Changes.after (Changes.refl _ _) (closeDigest_changes _ _ _) rfl) (endCtx_changes _ _ _ _) rfl)))

theorem execTrap_changes (x0 : Nat) (x1 : BitVec 8) (s : State) :
    ChangesOnly [.die, .port, .engine, .stream, .parish, .reeve, .timers] s (execTrap x0 x1 s) := by unfold execTrap; exact (onCtx_changes (fun _ _ _ => (Changes.after (Changes.refl _ _) (faultEnd_changes _ _ _ _ _) rfl)))

end Sys2Proof.Machine
end

