-- ==== Sys2Proof/Laws/Rota.lean ====
section
/-! SUPPORT. What each function of Sys2Proof/Machine/Rota.lean can change. -/

namespace Sys2Proof.Machine

theorem missEntry_changes (s : State) (x1 x2 x3 : Nat) (x4 : Stamp) :
    Changes [.die, .stream, .rule, .parish, .reeve, .timers] s (missEntry s x1 x2 x3 x4) := by unfold missEntry; exact (by (try dsimp only); split; exacts [(Changes.after (Changes.refl _ _) (State.modDie_changes _ _ _) rfl), (Changes.ite (Changes.after (Changes.refl _ _) (State.modDie_changes _ _ _) rfl) (Changes.after (Changes.after (Changes.refl _ _) (State.modDie_changes _ _ _) rfl) (putRecord_changes _ _ _) rfl))])

theorem wakeEdgeOp_changes (s : State) (x1 x2 : Nat) :
    Changes [.die] s (wakeEdgeOp s x1 x2) := by unfold wakeEdgeOp; exact (by (try dsimp only); split; exacts [(Changes.refl _ _), (Changes.after (Changes.refl _ _) (State.modSlot_changes _ _ _ _) rfl)])

theorem markWindow_changes (s : State) (x1 x2 : Nat) (x3 : (OpenWindow → OpenWindow)) :
    Changes [.die] s (markWindow s x1 x2 x3) := by unfold markWindow; exact (Changes.after (Changes.refl _ _) (State.modDie_changes _ _ _) rfl)

theorem launchEntry_changes (s : State) (x1 x2 : Nat) (x3 : RotaEntry) (x4 : OpenWindow) (x5 : Stamp) :
    Changes [.die, .engine, .stream, .rule, .parish, .reeve, .timers] s (launchEntry s x1 x2 x3 x4 x5) := by unfold launchEntry; exact (Changes.ite (Changes.after (Changes.after (Changes.refl _ _) (markWindow_changes _ _ _ _) rfl) (missEntry_changes _ _ _ _ _) rfl) (by (try dsimp only); split; exacts [(Changes.after (Changes.after (Changes.after (Changes.refl _ _) (engineFault_changes _ _ _ _ _ _) rfl) (markWindow_changes _ _ _ _) rfl) (missEntry_changes _ _ _ _ _) rfl), (Changes.after (Changes.after (Changes.after (Changes.refl _ _) (State.modEng_changes _ _ _) rfl) (makeReady_changes _ _ _) rfl) (markWindow_changes _ _ _ _) rfl)]))

theorem nominalInstant_changes (s : State) (x1 x2 : Nat) (x3 : RotaEntry) (x4 : Int) :
    Changes [.die, .port, .engine, .stream, .rule, .parish, .reeve, .timers] s (nominalInstant s x1 x2 x3 x4) := by unfold nominalInstant; exact (Changes.ite (Changes.after (Changes.after (Changes.after (Changes.refl _ _) (State.modDie_changes _ _ _) rfl) (State.modDie_changes _ _ _) rfl) (openGap_changes _ _ _ _) rfl) (Changes.ite (Changes.after (Changes.refl _ _) (State.modDie_changes _ _ _) rfl) (Changes.ite (Changes.after (Changes.after (Changes.refl _ _) (State.modDie_changes _ _ _) rfl) (missEntry_changes _ _ _ _ _) rfl) (Changes.ite (Changes.after (Changes.after (Changes.refl _ _) (State.modDie_changes _ _ _) rfl) (missEntry_changes _ _ _ _ _) rfl) (Changes.ite (by (try dsimp only); split; exacts [(Changes.after (Changes.after (Changes.after (Changes.refl _ _) (State.modDie_changes _ _ _) rfl) (State.modDie_changes _ _ _) rfl) (launchEntry_changes _ _ _ _ _ _) rfl), (Changes.after (Changes.after (Changes.refl _ _) (State.modDie_changes _ _ _) rfl) (State.modDie_changes _ _ _) rfl)]) (Changes.after (Changes.after (Changes.after (Changes.refl _ _) (State.modDie_changes _ _ _) rfl) (State.modDie_changes _ _ _) rfl) (launchEntry_changes _ _ _ _ _ _) rfl))))))

theorem execEntryNominalInstant_changes (x0 x1 : Nat) (s : State) :
    ChangesOnly [.die, .port, .engine, .stream, .rule, .parish, .reeve, .timers] s (execEntryNominalInstant x0 x1 s) := by unfold execEntryNominalInstant; exact (ChangesOnly.withDie (by (try dsimp only); split; exacts [(Changes.refl _ _), (Changes.given (Changes.refl _ _) (Changes.after (Changes.refl _ _) (nominalInstant_changes _ _ _ _ _) rfl))]))

theorem launchOnEdge_changes (s : State) (x1 x2 x3 : Nat) (x4 : Bool) (x5 : Stamp) :
    Changes [.die, .engine, .stream, .rule, .parish, .reeve, .timers] s (launchOnEdge s x1 x2 x3 x4 x5) := by unfold launchOnEdge; exact (Changes.foldl (fun _ _ => (by (try dsimp only); split; exacts [(Changes.refl _ _), (Changes.ite (Changes.after (Changes.refl _ _) (launchEntry_changes _ _ _ _ _ _) rfl) (Changes.refl _ _))])) (Changes.refl _ _))

theorem meetEdges_changes (s : State) (x1 x2 x3 : Nat) (x4 : Bool) (x5 : Stamp) :
    Changes [.engine] s (meetEdges s x1 x2 x3 x4 x5) := by unfold meetEdges; exact (Changes.trans (Changes.refl _ _) (fun f hf => by cases f <;> first | (cases hf; done) | dsimp only [Piece.same]))

theorem execPinEdge_changes (x0 x1 : Nat) (x2 : Bool) (x3 : Nat) (s : State) :
    ChangesOnly [.die, .port, .engine, .stream, .rule, .parish, .reeve, .timers] s (execPinEdge x0 x1 x2 x3 s) := by unfold execPinEdge; exact (ChangesOnly.withUnit (Changes.given (Changes.refl _ _) (Changes.after (Changes.after (Changes.ite (Changes.after (Changes.after (Changes.refl _ _) (State.modPort_changes _ _ _) rfl) (wakeEdgeOp_changes _ _ _) rfl) (Changes.after (Changes.refl _ _) (State.modPort_changes _ _ _) rfl)) (meetEdges_changes _ _ _ _ _ _) rfl) (launchOnEdge_changes _ _ _ _ _ _) rfl)))

theorem execContextLaunch_changes (x0 x1 : Nat) (s : State) :
    ChangesOnly [.die, .port, .engine, .stream, .rule, .parish, .reeve, .timers] s (execContextLaunch x0 x1 s) := by unfold execContextLaunch; exact (ChangesOnly.withDie (by (try dsimp only); split; exacts [(Changes.given (Changes.refl _ _) (Changes.after (Changes.refl _ _) (nominalInstant_changes _ _ _ _ _) rfl)), (by (try dsimp only); split; exacts [(by (try dsimp only); split; exacts [(Changes.given (Changes.refl _ _) (Changes.after (Changes.refl _ _) (launchEntry_changes _ _ _ _ _ _) rfl)), (Changes.refl _ _)]), (Changes.refl _ _)])]))

theorem abortOrphans_changes (s : State) (x1 x2 x3 : Nat) :
    Changes [.die, .port, .engine, .stream, .reeve] s (abortOrphans s x1 x2 x3) := by unfold abortOrphans; exact (Changes.foldl (fun _ _ => (Changes.after (Changes.refl _ _) (abortOp_changes _ _ _ _ _) rfl)) (Changes.refl _ _))

theorem closeWindow_changes (s : State) (x1 : Nat) (x2 : OpenWindow) (x3 : RotaEntry) :
    Changes [.die, .port, .engine, .stream, .rule, .parish, .reeve, .timers] s (closeWindow s x1 x2 x3) := by unfold closeWindow; exact (Changes.ite (Changes.after (Changes.after (Changes.refl _ _) (State.modDie_changes _ _ _) rfl) (closeGap_changes _ _) rfl) (Changes.after (by (try dsimp only); split; exacts [(Changes.after (Changes.after (Changes.after (Changes.refl _ _) (State.modDie_changes _ _ _) rfl) (endCtx_changes _ _ _ _) rfl) (missEntry_changes _ _ _ _ _) rfl), (Changes.ite (Changes.after (Changes.after (Changes.refl _ _) (State.modDie_changes _ _ _) rfl) (missEntry_changes _ _ _ _ _) rfl) (Changes.after (Changes.refl _ _) (State.modDie_changes _ _ _) rfl))]) (abortOrphans_changes _ _ _ _) rfl))

theorem execWindowEnd_changes (x0 x1 : Nat) (s : State) :
    ChangesOnly [.die, .port, .engine, .stream, .rule, .parish, .reeve, .timers] s (execWindowEnd x0 x1 s) := by unfold execWindowEnd; exact (ChangesOnly.withDie (by (try dsimp only); split; exacts [(Changes.given (Changes.refl _ _) (Changes.after (Changes.refl _ _) (closeWindow_changes _ _ _ _) rfl)), (Changes.refl _ _)]))

end Sys2Proof.Machine
end

