-- ==== Sys2Proof/Laws/Matrix.lean ====
section
/-! SUPPORT. What each function of Sys2Proof/Machine/Matrix.lean can change. -/

namespace Sys2Proof.Machine

theorem tallyPulse_changes (s : State) (x1 x2 : Nat) :
    Changes [.tally] s (tallyPulse s x1 x2) := by unfold tallyPulse; exact (Changes.ite (Changes.after (Changes.refl _ _) (State.modTally_changes _ _ _) rfl) (Changes.refl _ _))

theorem compareOut_changes (s : State) (x1 : Nat) :
    Changes [.tally] s (compareOut s x1) := by unfold compareOut; exact (Changes.ite (Changes.refl _ _) (Changes.after (Changes.refl _ _) (State.modTally_changes _ _ _) rfl))

theorem copyPreloads_changes (s : State) (x1 : Nat) :
    Changes [.tally] s (copyPreloads s x1) := by unfold copyPreloads; exact (Changes.ite (Changes.after (Changes.after (Changes.refl _ _) (State.modTally_changes _ _ _) rfl) (State.modTally_changes _ _ _) rfl) (Changes.after (Changes.refl _ _) (State.modTally_changes _ _ _) rfl))

theorem setCount_changes (s : State) (x1 x2 : Nat) :
    Changes [.tally] s (setCount s x1 x2) := by unfold setCount; exact (Changes.ite (Changes.after (Changes.after (Changes.refl _ _) (State.modTally_changes _ _ _) rfl) (State.modTally_changes _ _ _) rfl) (Changes.after (Changes.refl _ _) (State.modTally_changes _ _ _) rfl))

theorem tallyStart_changes (s : State) (x1 : Nat) :
    Changes [.tally] s (tallyStart s x1) := by unfold tallyStart; exact (Changes.ite (Changes.refl _ _) (Changes.ite (Changes.after (Changes.after (Changes.refl _ _) (State.modTally_changes _ _ _) rfl) (compareOut_changes _ _) rfl) (Changes.after (Changes.after (Changes.after (Changes.refl _ _) (State.modTally_changes _ _ _) rfl) (setCount_changes _ _ _) rfl) (compareOut_changes _ _) rfl)))

theorem tallyStop_changes (s : State) (x1 : Nat) :
    Changes [.tally] s (tallyStop s x1) := by unfold tallyStop; exact (Changes.ite (Changes.after (Changes.refl _ _) (State.modTally_changes _ _ _) rfl) (Changes.refl _ _))

theorem tallyReset_changes (s : State) (x1 : Nat) :
    Changes [.tally] s (tallyReset s x1) := by unfold tallyReset; exact (Changes.ite (Changes.after (Changes.after (Changes.after (Changes.after (Changes.refl _ _) (copyPreloads_changes _ _) rfl) (State.modTally_changes _ _ _) rfl) (setCount_changes _ _ _) rfl) (compareOut_changes _ _) rfl) (Changes.ite (Changes.after (Changes.after (Changes.after (Changes.refl _ _) (State.modTally_changes _ _ _) rfl) (copyPreloads_changes _ _) rfl) (compareOut_changes _ _) rfl) (Changes.refl _ _)))

theorem dropEdges_changes (s : State) (x1 : Nat) :
    Changes [.tally] s (dropEdges s x1) := by unfold dropEdges; exact (Changes.after (Changes.refl _ _) (State.modTally_changes _ _ _) rfl)

theorem applyTally_changes (s : State) (x1 : Nat) :
    Changes [.tally] s (applyTally s x1) := by unfold applyTally; exact (Changes.ite (Changes.refl _ _) (Changes.ite (Changes.after (Changes.after (Changes.after (Changes.after (Changes.after (Changes.refl _ _) (State.modTally_changes _ _ _) rfl) (dropEdges_changes _ _) rfl) (copyPreloads_changes _ _) rfl) (compareOut_changes _ _) rfl) (tallyStart_changes _ _) rfl) (Changes.after (Changes.after (Changes.after (Changes.after (Changes.refl _ _) (State.modTally_changes _ _ _) rfl) (dropEdges_changes _ _) rfl) (copyPreloads_changes _ _) rfl) (compareOut_changes _ _) rfl)))

theorem colActs_changes (s : State) (x1 x2 : Nat) (x3 : Bool) :
    Changes [.die, .port, .stream, .reeve] s (colActs s x1 x2 x3) := by unfold colActs; exact (by (try dsimp only); split; exacts [(Changes.after (Changes.refl _ _) (pgStart_changes _ _ _) rfl), (Changes.ite (Changes.refl _ _) (Changes.after (Changes.after (Changes.refl _ _) (State.modDie_changes _ _ _) rfl) (soRefresh_changes _) rfl)), (Changes.after (Changes.refl _ _) (soRefresh_changes _) rfl), (by (try dsimp only); split; exacts [(Changes.after (Changes.refl _ _) (captureTrigger_changes _ _ _) rfl), (Changes.refl _ _)]), (Changes.refl _ _)])

theorem tallyRises_changes (s : State) (x1 : Nat) (x2 : List Nat) :
    Changes [.tally] s (tallyRises s x1 x2) := by unfold tallyRises; exact (Changes.foldl (fun _ _ => (Changes.after (Changes.refl _ _) (tallyStop_changes _ _) rfl)) (Changes.foldl (fun _ _ => (Changes.after (Changes.refl _ _) (tallyStart_changes _ _) rfl)) (Changes.foldl (fun _ _ => (Changes.after (Changes.refl _ _) (tallyReset_changes _ _) rfl)) (Changes.refl _ _))))

theorem meetLine_changes (s : State) (x1 x2 : Nat) (x3 : Stamp) :
    Changes [.engine] s (meetLine s x1 x2 x3) := by unfold meetLine; exact (Changes.trans (Changes.refl _ _) (fun f hf => by cases f <;> first | (cases hf; done) | dsimp only [Piece.same]))

theorem turnCol_changes (s : State) (x1 x2 : Nat) (x3 : Option Stamp) :
    Changes [.engine, .col] s (turnCol s x1 x2 x3) := by unfold turnCol; exact (Changes.ite (Changes.after (Changes.refl _ _) (State.modCol_changes _ _ _) rfl) (Changes.after (Changes.after (Changes.refl _ _) (State.modCol_changes _ _ _) rfl) (meetLine_changes _ _ _ _) rfl))

theorem refreshCols_changes (s : State) (x1 : Nat) (x2 : List Nat) (x3 : Option Stamp) :
    Changes [.die, .port, .engine, .stream, .tally, .col, .reeve] s (refreshCols s x1 x2 x3) := by unfold refreshCols; exact (Changes.foldl (fun _ _ => (Changes.after (Changes.refl _ _) (colActs_changes _ _ _ _) rfl)) (Changes.after (Changes.foldl (fun _ _ => (Changes.after (Changes.refl _ _) (turnCol_changes _ _ _ _) rfl)) (Changes.refl _ _)) (tallyRises_changes _ _ _) rfl))

theorem applyMatrix_changes (s : State) (x1 : Nat) :
    Changes [.die, .port, .engine, .stream, .tally, .row, .col, .reeve] s (applyMatrix s x1) := by unfold applyMatrix; exact (Changes.after (Changes.foldl (fun _ _ => (Changes.ite (Changes.refl _ _) (Changes.after (Changes.ite (Changes.refl _ _) (Changes.after (Changes.after (Changes.refl _ _) (State.modCol_changes _ _ _) rfl) (colActs_changes _ _ _ _) rfl)) (State.modCol_changes _ _ _) rfl))) (Changes.foldl (fun _ _ => (Changes.ite (Changes.refl _ _) (Changes.ite (Changes.after (Changes.refl _ _) (State.modRow_changes _ _ _) rfl) (Changes.after (Changes.after (Changes.refl _ _) (State.modRow_changes _ _ _) rfl) (State.modRow_changes _ _ _) rfl)))) (Changes.refl _ _))) (refreshCols_changes _ _ _ _) rfl)

theorem setRow_changes (s : State) (x1 x2 : Nat) (x3 : Bool) :
    Changes [.die, .port, .engine, .stream, .tally, .row, .col, .reeve] s (setRow s x1 x2 x3) := by unfold setRow; exact (Changes.after (Changes.after (Changes.refl _ _) (State.modRow_changes _ _ _) rfl) (refreshCols_changes _ _ _ _) rfl)

theorem refreshCol_changes (s : State) (x1 x2 : Nat) (x3 : Option Stamp) :
    Changes [.die, .port, .engine, .stream, .tally, .col, .reeve] s (refreshCol s x1 x2 x3) := by unfold refreshCol; exact (Changes.after (Changes.refl _ _) (refreshCols_changes _ _ _ _) rfl)

theorem endPulse_changes (s : State) (x1 x2 : Nat) :
    Changes [.engine, .rule, .tally] s (endPulse s x1 x2) := by unfold endPulse; exact (Changes.ite (Changes.refl _ _) (by (try dsimp only); split; exacts [(Changes.after (Changes.refl _ _) (State.modTally_changes _ _ _) rfl), (Changes.after (Changes.refl _ _) (State.modTally_changes _ _ _) rfl), (Changes.after (Changes.refl _ _) (State.modTally_changes _ _ _) rfl), (Changes.after (Changes.refl _ _) (State.modRule_changes _ _ _) rfl), (Changes.foldl (fun _ _ => (Changes.after (Changes.refl _ _) (State.modEng_changes _ _ _) rfl)) (Changes.refl _ _)), (Changes.refl _ _)]))

theorem execMatrixRowChange_changes (x0 x1 : Nat) (x2 : Bool) (s : State) :
    ChangesOnly [.die, .port, .engine, .stream, .rule, .tally, .row, .col, .reeve] s (execMatrixRowChange x0 x1 x2 s) := by unfold execMatrixRowChange; exact (ChangesOnly.ite (ChangesOnly.fault _) (ChangesOnly.withUnit (Changes.given (Changes.refl _ _) (Changes.after (Changes.ite (Changes.after (Changes.ite (Changes.refl _ _) (Changes.after (Changes.refl _ _) (endPulse_changes _ _ _) rfl)) (State.modDie_changes _ _ _) rfl) (Changes.ite (Changes.refl _ _) (Changes.after (Changes.refl _ _) (endPulse_changes _ _ _) rfl))) (setRow_changes _ _ _ _) rfl))))

theorem execCrossDieLineFault_changes (x0 x1 : Nat) (x2 : Bool) (s : State) :
    ChangesOnly [.die, .port, .engine, .stream, .tally, .row, .col, .parish, .reeve, .timers] s (execCrossDieLineFault x0 x1 x2 s) := by unfold execCrossDieLineFault; exact (ChangesOnly.ite (ChangesOnly.fault _) (ChangesOnly.withUnit (by (try dsimp only); split; exacts [(Changes.refl _ _), (Changes.given (Changes.refl _ _) (Changes.after (Changes.after (Changes.after (Changes.refl _ _) (State.modDie_changes _ _ _) rfl) (setRow_changes _ _ _ _) rfl) (raiseFault_changes _ _ _ _ _ _ _ _) rfl))])))

end Sys2Proof.Machine
end

