-- ==== Sys2Proof/Laws/Mill.lean ====
section
/-! SUPPORT. What each function of Sys2Proof/Machine/Mill.lean can change. -/

namespace Sys2Proof.Machine

theorem takeBank_changes (s : State) (x1 : Nat) :
    Changes [.die, .mill] s (takeBank s x1) := by unfold takeBank; exact (Changes.after (Changes.trans (Changes.refl _ _) (fun f hf => by cases f <;> first | (cases hf; done) | dsimp only [Piece.same])) (State.modDie_changes _ _ _) rfl)

theorem execMillRound_changes (x0 : Nat) (s : State) :
    ChangesOnly [.die, .mill] s (execMillRound x0 s) := by unfold execMillRound; exact (ChangesOnly.withDie (Changes.given (Changes.refl _ _) (Changes.after (Changes.after (Changes.refl _ _) (takeBank_changes _ _) rfl) (State.modDie_changes _ _ _) rfl)))

theorem releaseOut_changes (s : State) (x1 : Nat) (x2 : MillOut) :
    Changes [.die, .stream, .mill, .rule, .parish, .reeve, .timers] s (releaseOut s x1 x2) := by unfold releaseOut; exact (Changes.after (Changes.ite (Changes.after (Changes.refl _ _) (State.modMill_changes _ _ _) rfl) (Changes.after (Changes.after (Changes.refl _ _) (State.modMill_changes _ _ _) rfl) (putRecord_changes _ _ _) rfl)) (offerFrom_changes _ _ _ _ _ _) rfl)

theorem execMillSlot_changes (x0 : Nat) (s : State) :
    ChangesOnly [.die, .stream, .mill, .rule, .parish, .reeve, .timers] s (execMillSlot x0 s) := by unfold execMillSlot; exact (ChangesOnly.withMill (Changes.given (Changes.refl _ _) (Changes.foldl (fun _ _ => (Changes.after (Changes.refl _ _) (releaseOut_changes _ _ _) rfl)) (Changes.refl _ _))))

theorem execMillOutputComputed_changes (x0 : Nat) (s : State) :
    ChangesOnly [.mill] s (execMillOutputComputed x0 s) := by unfold execMillOutputComputed; exact (ChangesOnly.withMill (by (try dsimp only); split; exacts [(Changes.refl _ _), (Changes.given (Changes.refl _ _) (Changes.after (Changes.refl _ _) (State.modMill_changes _ _ _) rfl))]))

theorem execMillSubmit_changes (x0 : Nat) (x1 x2 x3 : BitVec 4) (s : State) :
    ChangesOnly [.die, .port, .engine, .stream, .mill, .parish, .reeve, .timers] s (execMillSubmit x0 x1 x2 x3 s) := by unfold execMillSubmit; exact (onCtx_changes (fun _ _ _ => (Changes.ite (Changes.after (Changes.refl _ _) (faultEnd_changes _ _ _ _ _) rfl) (Changes.ite (Changes.after (Changes.refl _ _) (faultEnd_changes _ _ _ _ _) rfl) (Changes.after (Changes.after (Changes.refl _ _) (State.modMill_changes _ _ _) rfl) (nextPc_changes _ _ _) rfl)))))

end Sys2Proof.Machine
end

