-- ==== Sys2Proof/Laws/Faults.lean ====
section
/-! SUPPORT. What each function of Sys2Proof/Machine/Faults.lean can change. -/

namespace Sys2Proof.Machine

theorem tryRun_changes (s : State) :
    Changes [.parish] s (tryRun s) := by unfold tryRun; exact (Changes.ite (Changes.after (Changes.refl _ _) (decideState_changes _ _ _) rfl) (Changes.ite (Changes.after (Changes.refl _ _) (decideState_changes _ _ _) rfl) (Changes.refl _ _)))

theorem releaseOne_changes (s : State) (x1 x2 : Nat) :
    Changes [.die] s (releaseOne s x1 x2) := by unfold releaseOne; exact (Changes.ite (Changes.refl _ _) (Changes.after (Changes.refl _ _) (State.modDie_changes _ _ _) rfl))

theorem writeRelease_changes (s : State) (x1 : Nat) :
    Changes [.net, .die, .stream, .reeve] s (writeRelease s x1) := by unfold writeRelease; exact (Changes.ite (Changes.after (Changes.refl _ _) (withStatus_changes _ _) rfl) (Changes.after (Changes.after (Changes.foldl (fun _ _ => (Changes.ite (Changes.after (Changes.refl _ _) (releaseOne_changes _ _ _) rfl) (Changes.refl _ _))) (Changes.refl _ _)) (soRefresh_changes _) rfl) (withStatus_changes _ _) rfl))

theorem execClockMonitorFault_changes (x0 x1 x2 : Nat) (s : State) :
    ChangesOnly [.die, .stream, .parish, .reeve, .timers] s (execClockMonitorFault x0 x1 x2 s) := by unfold execClockMonitorFault; exact (ChangesOnly.ite (ChangesOnly.fault _) (ChangesOnly.withUnit (Changes.given (Changes.refl _ _) (Changes.after (Changes.refl _ _) (raiseFault_changes _ _ _ _ _ _ _ _) rfl))))

theorem execOutputReadbackFault_changes (x0 x1 : Nat) (x2 : Bool) (s : State) :
    ChangesOnly [.die, .stream, .parish, .reeve, .timers] s (execOutputReadbackFault x0 x1 x2 s) := by unfold execOutputReadbackFault; exact (ChangesOnly.ite (ChangesOnly.fault _) (ChangesOnly.withUnit (Changes.given (Changes.refl _ _) (Changes.after (Changes.after (Changes.refl _ _) (State.modDie_changes _ _ _) rfl) (raiseFault_changes _ _ _ _ _ _ _ _) rfl))))

theorem tripTestFault_changes (s : State) (x1 x2 x3 x4 : Nat) :
    Changes [.die, .stream, .parish, .reeve, .timers] s (tripTestFault s x1 x2 x3 x4) := by unfold tripTestFault; exact (Changes.after (Changes.after (Changes.refl _ _) (State.modDie_changes _ _ _) rfl) (raiseFault_changes _ _ _ _ _ _ _ _) rfl)

theorem watchCauses_changes (s : State) :
    Changes [.reeve] s (watchCauses s) := by unfold watchCauses; exact (Changes.ite (Changes.after (Changes.refl _ _) (causeSeen_changes _ _) rfl) (Changes.refl _ _))

theorem idleClock_changes (s : State) :
    Changes [.timers] s (idleClock s) := by unfold idleClock; exact (Changes.ite (Changes.trans (Changes.refl _ _) (fun f hf => by cases f <;> first | (cases hf; done) | dsimp only [Piece.same])) (Changes.ite (Changes.trans (Changes.refl _ _) (fun f hf => by cases f <;> first | (cases hf; done) | dsimp only [Piece.same])) (Changes.refl _ _)))

theorem everyTick_changes (s : State) :
    Changes [.port, .reeve, .timers] s (everyTick s) := by unfold everyTick; exact (Changes.after (Changes.after (Changes.after (Changes.refl _ _) (vpWindows_changes _) rfl) (idleClock_changes _) rfl) (watchCauses_changes _) rfl)

theorem pulsePassed_changes (s : State) (x1 x2 : Nat) :
    Changes [.die, .parish, .reeve] s (pulsePassed s x1 x2) := by unfold pulsePassed; exact (Changes.ite (Changes.after (Changes.trans (Changes.after (Changes.refl _ _) (State.modDie_changes _ _ _) rfl) (fun f hf => by cases f <;> first | (cases hf; done) | dsimp only [Piece.same])) (tryRun_changes _) rfl) (Changes.after (Changes.refl _ _) (State.modDie_changes _ _ _) rfl))

theorem execMonitorReturnToBand_changes (x0 x1 x2 : Nat) (s : State) :
    ChangesOnly [.reeve] s (execMonitorReturnToBand x0 x1 x2 s) := by unfold execMonitorReturnToBand; exact (ChangesOnly.withDie (Changes.given (Changes.refl _ _) (Changes.trans (Changes.refl _ _) (fun f hf => by cases f <;> first | (cases hf; done) | dsimp only [Piece.same]))))

theorem pairFault_changes (s : State) (x1 x2 x3 x4 x5 : Nat) :
    Changes [.die, .stream, .parish, .reeve, .timers] s (pairFault s x1 x2 x3 x4 x5) := by unfold pairFault; exact (Changes.after (Changes.after (Changes.refl _ _) (State.modDie_changes _ _ _) rfl) (raiseFault_changes _ _ _ _ _ _ _ _) rfl)

theorem comparePair_changes (s : State) (d : Nat) (pr : PairRec) :
    Changes [.die, .stream, .parish, .reeve, .timers, .free] s (comparePair s d pr) := by
  unfold comparePair
  dsimp only
  split
  · exact Changes.ite (Changes.after (Changes.after (Changes.after (Changes.refl _ _) (State.modDie_changes _ _ _) rfl)
        (State.modDie_changes _ _ _) rfl) (tryRun_changes _) rfl)
      (Changes.after (Changes.after (Changes.refl _ _) (State.modDie_changes _ _ _) rfl) (pairFault_changes _ _ _ _ _ _) rfl)
  · refine Changes.ite (Changes.after (Changes.refl _ _) (State.modDie_changes _ _ _) rfl)
      (Changes.after ?_ (pairFault_changes _ _ _ _ _ _) rfl)
    split
    · exact Changes.after (Changes.refl _ _) (State.modDie_changes _ _ _) rfl
    · exact Changes.after (Changes.after (Changes.refl _ _) (State.modDie_changes _ _ _) rfl) (State.draw_changes _ _) rfl

theorem execPairDigestCompare_changes (x0 x1 : Nat) (s : State) :
    ChangesOnly [.die, .stream, .parish, .reeve, .timers, .free] s (execPairDigestCompare x0 x1 s) := by unfold execPairDigestCompare; exact (ChangesOnly.withDie (by (try dsimp only); split; exacts [(Changes.refl _ _), (Changes.given (Changes.refl _ _) (Changes.after (Changes.after (Changes.refl _ _) (State.modDie_changes _ _ _) rfl) (comparePair_changes _ _ _) rfl))]))

theorem execTripTestPulseStart_changes (x0 x1 : Nat) (s : State) :
    ChangesOnly [.die, .stream, .reeve] s (execTripTestPulseStart x0 x1 s) := by unfold execTripTestPulseStart; exact (ChangesOnly.ite (ChangesOnly.fault _) (ChangesOnly.withUnit (Changes.given (Changes.refl _ _) (Changes.after (Changes.after (Changes.refl _ _) (State.modDie_changes _ _ _) rfl) (soRefresh_changes _) rfl))))

theorem execSoRelease_changes (x0 : Nat) (s : State) :
    ChangesOnly [.net, .die, .stream, .reeve] s (execSoRelease x0 s) := by unfold execSoRelease; exact (ChangesOnly.ite (ChangesOnly.next (Changes.after (Changes.refl _ _) (writeRelease_changes _ _) rfl)) (ChangesOnly.fault _))

theorem execRestartDelayExpiry_changes (x0 x1 : Nat) (s : State) :
    ChangesOnly [.die, .stream, .parish, .reeve] s (execRestartDelayExpiry x0 x1 s) := by unfold execRestartDelayExpiry; exact (ChangesOnly.ite (ChangesOnly.fault _) (ChangesOnly.withUnit (Changes.given (Changes.refl _ _) (Changes.ite (Changes.after (Changes.after (Changes.ite (Changes.after (Changes.trans (Changes.refl _ _) (fun f hf => by cases f <;> first | (cases hf; done) | dsimp only [Piece.same])) (tryRun_changes _) rfl) (Changes.refl _ _)) (releaseOne_changes _ _ _) rfl) (soRefresh_changes _) rfl) (Changes.ite (Changes.after (Changes.trans (Changes.refl _ _) (fun f hf => by cases f <;> first | (cases hf; done) | dsimp only [Piece.same])) (tryRun_changes _) rfl) (Changes.refl _ _))))))

theorem execTwtripInTrip_changes (s : State) :
    ChangesOnly [.die, .stream, .reeve] s (execTwtripInTrip s) := by unfold execTwtripInTrip; exact (ChangesOnly.next (Changes.after (Changes.trans (Changes.refl _ _) (fun f hf => by cases f <;> first | (cases hf; done) | dsimp only [Piece.same])) (soRefresh_changes _) rfl))

theorem execSupplyMonitorFault_changes (x0 x1 x2 : Nat) (s : State) :
    ChangesOnly [.die, .stream, .parish, .reeve, .timers] s (execSupplyMonitorFault x0 x1 x2 s) := by unfold execSupplyMonitorFault; exact (ChangesOnly.ite (ChangesOnly.fault _) (ChangesOnly.withUnit (Changes.given (Changes.refl _ _) (Changes.after (Changes.refl _ _) (raiseFault_changes _ _ _ _ _ _ _ _) rfl))))

theorem execTripTestDeadline_changes (x0 x1 : Nat) (x2 : Bool) (x3 : Nat) (s : State) :
    ChangesOnly [.die, .stream, .parish, .reeve, .timers] s (execTripTestDeadline x0 x1 x2 x3 s) := by unfold execTripTestDeadline; exact (ChangesOnly.ite (ChangesOnly.fault _) (ChangesOnly.withUnit (by (try dsimp only); split; exacts [(Changes.refl _ _), (Changes.ite (Changes.ite (Changes.refl _ _) (Changes.ite (Changes.after (Changes.after (Changes.refl _ _) (State.modDie_changes _ _ _) rfl) (pulsePassed_changes _ _ _) rfl) (Changes.after (Changes.after (Changes.refl _ _) (State.modDie_changes _ _ _) rfl) (tripTestFault_changes _ _ _ _ _) rfl))) (Changes.ite (Changes.refl _ _) (Changes.ite (Changes.ite (Changes.after (Changes.refl _ _) (State.modDie_changes _ _ _) rfl) (Changes.after (Changes.after (Changes.refl _ _) (State.modDie_changes _ _ _) rfl) (tripTestFault_changes _ _ _ _ _) rfl)) (Changes.ite (Changes.ite (Changes.after (Changes.refl _ _) (State.modDie_changes _ _ _) rfl) (Changes.after (Changes.refl _ _) (tripTestFault_changes _ _ _ _ _) rfl)) (Changes.refl _ _)))))])))

theorem execTripTestPulseEnd_changes (x0 : Nat) (s : State) :
    ChangesOnly [.die, .stream, .parish, .reeve] s (execTripTestPulseEnd x0 s) := by unfold execTripTestPulseEnd; exact (ChangesOnly.withDie (by (try dsimp only); split; exacts [(Changes.refl _ _), (Changes.ite (Changes.refl _ _) (Changes.ite (Changes.ite (Changes.after (Changes.after (Changes.after (Changes.refl _ _) (State.modDie_changes _ _ _) rfl) (soRefresh_changes _) rfl) (pulsePassed_changes _ _ _) rfl) (Changes.after (Changes.after (Changes.refl _ _) (State.modDie_changes _ _ _) rfl) (soRefresh_changes _) rfl)) (Changes.ite (Changes.after (Changes.after (Changes.after (Changes.refl _ _) (State.modDie_changes _ _ _) rfl) (soRefresh_changes _) rfl) (State.modDie_changes _ _ _) rfl) (Changes.after (Changes.after (Changes.refl _ _) (State.modDie_changes _ _ _) rfl) (soRefresh_changes _) rfl))))]))

theorem execSoCurrentLimitExpiry_changes (x0 x1 : Nat) (s : State) :
    ChangesOnly [.die, .stream, .parish, .reeve, .timers] s (execSoCurrentLimitExpiry x0 x1 s) := by unfold execSoCurrentLimitExpiry; exact (ChangesOnly.ite (ChangesOnly.fault _) (ChangesOnly.withUnit (Changes.given (Changes.refl _ _) (Changes.after (Changes.after (Changes.after (Changes.refl _ _) (State.modDie_changes _ _ _) rfl) (soRefresh_changes _) rfl) (raiseFault_changes _ _ _ _ _ _ _ _) rfl))))

theorem execRecoveryCauseCleared_changes (s : State) :
    ChangesOnly [.parish, .reeve] s (execRecoveryCauseCleared s) := by unfold execRecoveryCauseCleared; exact (ChangesOnly.next (Changes.given (Changes.refl _ _) (Changes.after (Changes.trans (Changes.after (Changes.refl _ _) (State.modPar_changes _ _ _) rfl) (fun f hf => by cases f <;> first | (cases hf; done) | dsimp only [Piece.same])) (tryRun_changes _) rfl)))

theorem execTwtripInRelease_changes (s : State) :
    ChangesOnly [.die, .stream, .reeve] s (execTwtripInRelease s) := by unfold execTwtripInRelease; exact (ChangesOnly.next (Changes.after (Changes.trans (Changes.refl _ _) (fun f hf => by cases f <;> first | (cases hf; done) | dsimp only [Piece.same])) (soRefresh_changes _) rfl))

theorem execSoCurrentLimitHoldoffEnd_changes (x0 x1 : Nat) (s : State) :
    ChangesOnly [.die, .stream, .reeve] s (execSoCurrentLimitHoldoffEnd x0 x1 s) := by unfold execSoCurrentLimitHoldoffEnd; exact (ChangesOnly.ite (ChangesOnly.fault _) (ChangesOnly.withUnit (Changes.given (Changes.refl _ _) (Changes.after (Changes.after (Changes.refl _ _) (State.modDie_changes _ _ _) rfl) (soRefresh_changes _) rfl))))

end Sys2Proof.Machine
end

