-- ==== Sys2Proof/Laws/Sieve.lean ====
section
/-! SUPPORT. What each function of Sys2Proof/Machine/Sieve.lean can change. -/

namespace Sys2Proof.Machine

theorem placeEvent_changes (s : State) (x1 : Nat) (x2 : List Word) (x3 : Stamp) :
    Changes [.die, .stream, .rule, .parish, .reeve, .timers] s (placeEvent s x1 x2 x3) := by unfold placeEvent; exact (Changes.ite (Changes.after (Changes.after (Changes.after (Changes.refl _ _) (active_changes _) rfl) (State.modDie_changes _ _ _) rfl) (State.modStream_changes _ _ _) rfl) (Changes.ite (Changes.after (Changes.after (Changes.after (Changes.refl _ _) (active_changes _) rfl) (State.modDie_changes _ _ _) rfl) (putRecord_changes _ _ _) rfl) (Changes.after (Changes.after (Changes.refl _ _) (active_changes _) rfl) (State.modDie_changes _ _ _) rfl)))

theorem ruleOut_changes (s : State) (x1 : Nat) (x2 : Bool) (x3 : Stamp) (x4 : Int) (x5 x6 : Bool) :
    Changes [.die, .stream, .rule, .parish, .reeve, .timers] s (ruleOut s x1 x2 x3 x4 x5 x6) := by unfold ruleOut; exact (Changes.ite (Changes.refl _ _) (Changes.ite (Changes.after (Changes.ite (by (try dsimp only); split; exacts [(Changes.after (Changes.ite (Changes.after (Changes.after (Changes.refl _ _) (State.modRule_changes _ _ _) rfl) (placeEvent_changes _ _ _ _) rfl) (Changes.after (Changes.refl _ _) (State.modRule_changes _ _ _) rfl)) (crierReason_changes _ _ _ _) rfl), (Changes.ite (Changes.after (Changes.after (Changes.refl _ _) (State.modRule_changes _ _ _) rfl) (placeEvent_changes _ _ _ _) rfl) (Changes.after (Changes.refl _ _) (State.modRule_changes _ _ _) rfl))]) (Changes.ite (Changes.after (Changes.after (Changes.refl _ _) (State.modRule_changes _ _ _) rfl) (placeEvent_changes _ _ _ _) rfl) (Changes.after (Changes.refl _ _) (State.modRule_changes _ _ _) rfl))) (soRefresh_changes _) rfl) (Changes.ite (by (try dsimp only); split; exacts [(Changes.after (Changes.ite (Changes.after (Changes.after (Changes.refl _ _) (State.modRule_changes _ _ _) rfl) (placeEvent_changes _ _ _ _) rfl) (Changes.after (Changes.refl _ _) (State.modRule_changes _ _ _) rfl)) (crierReason_changes _ _ _ _) rfl), (Changes.ite (Changes.after (Changes.after (Changes.refl _ _) (State.modRule_changes _ _ _) rfl) (placeEvent_changes _ _ _ _) rfl) (Changes.after (Changes.refl _ _) (State.modRule_changes _ _ _) rfl))]) (Changes.ite (Changes.after (Changes.after (Changes.refl _ _) (State.modRule_changes _ _ _) rfl) (placeEvent_changes _ _ _ _) rfl) (Changes.after (Changes.refl _ _) (State.modRule_changes _ _ _) rfl)))))

theorem ruleApplied_changes (s : State) (x1 : Nat) (x2 : Stamp) :
    Changes [.die, .stream, .rule, .parish, .reeve, .timers] s (ruleApplied s x1 x2) := by unfold ruleApplied; exact (Changes.ite (Changes.after (Changes.refl _ _) (ruleOut_changes _ _ _ _ _ _ _) rfl) (Changes.refl _ _))

theorem unprimeRule_changes (s : State) (x1 : Nat) (x2 : Stamp) (x3 : Bool) :
    Changes [.die, .stream, .rule, .parish, .reeve, .timers] s (unprimeRule s x1 x2 x3) := by unfold unprimeRule; exact (Changes.ite (Changes.refl _ _) (Changes.after (Changes.after (Changes.refl _ _) (State.modRule_changes _ _ _) rfl) (ruleOut_changes _ _ _ _ _ _ _) rfl))

theorem evalOffer_changes (s : State) (x1 : Nat) (x2 : Int) (x3 : Nat) (x4 : Stamp) :
    Changes [.die, .stream, .rule, .parish, .reeve, .timers] s (evalOffer s x1 x2 x3 x4) := by unfold evalOffer; exact (Changes.ite (Changes.refl _ _) (Changes.after (Changes.after (Changes.refl _ _) (State.modRule_changes _ _ _) rfl) (ruleOut_changes _ _ _ _ _ _ _) rfl))

theorem evalTaker_changes (d : Nat) (stamp : Stamp) (acc : State × List Nat) (r : Nat) :
    Changes [.die, .stream, .rule, .parish, .reeve, .timers] acc.1 (evalTaker d stamp acc r).1 := by
  unfold evalTaker
  dsimp only
  split
  · exact Changes.refl _ _
  · exact Changes.ite (Changes.after (Changes.after (Changes.refl _ _) (State.modRule_changes _ _ _) rfl)
        (ruleOut_changes _ _ _ _ _ _ _) rfl)
      (Changes.ite (Changes.after (Changes.refl _ _) (ruleOut_changes _ _ _ _ _ _ _) rfl)
        (Changes.after (Changes.refl _ _) (evalOffer_changes _ _ _ _ _) rfl))

theorem evalTakers_changes (s : State) (g : Nat) (stamp : Stamp) : Changes [.die, .stream, .rule, .parish, .reeve, .timers] s (evalTakers s g stamp) := by
  have key : ∀ (l : List Nat) (acc : State × List Nat),
      Changes [.die, .stream, .rule, .parish, .reeve, .timers] acc.1 (l.foldl (evalTaker (ruleDie g) stamp) acc).1 := by
    intro l
    induction l with
    | nil => exact fun acc => Changes.refl _ _
    | cons r t ih => exact fun acc => (evalTaker_changes _ _ acc r).trans (ih _)
  unfold evalTakers
  exact key _ _

theorem afterRule_changes (before s : State) (g : Nat) (stamp : Stamp) :
    Changes [.die, .stream, .rule, .parish, .reeve, .timers] s (afterRule before s g stamp) := by
  unfold afterRule
  exact Changes.after (Changes.ite (Changes.after (Changes.refl _ _) (evalTakers_changes _ _ _) rfl) (Changes.refl _ _))
    (tryRun_changes _) rfl

theorem applyRule_changes (s : State) (x1 : Nat) (x2 : RuleImg) :
    Changes [.die, .stream, .rule, .parish, .reeve, .timers] s (applyRule s x1 x2) := by unfold applyRule; exact (Changes.ite (Changes.after (Changes.after (Changes.refl _ _) (State.modRule_changes _ _ _) rfl) (soRefresh_changes _) rfl) (Changes.after (Changes.after (Changes.ite (Changes.after (Changes.after (Changes.refl _ _) (State.modRule_changes _ _ _) rfl) (ruleOut_changes _ _ _ _ _ _ _) rfl) (Changes.ite (Changes.after (Changes.after (Changes.refl _ _) (State.modRule_changes _ _ _) rfl) (ruleApplied_changes _ _ _) rfl) (Changes.after (Changes.after (Changes.refl _ _) (State.modRule_changes _ _ _) rfl) (unprimeRule_changes _ _ _ _) rfl))) (soRefresh_changes _) rfl) (afterRule_changes _ _ _ _) rfl))

theorem execSieveSilenceExpiry_changes (x0 : Nat) (s : State) :
    ChangesOnly [.die, .stream, .rule, .parish, .reeve, .timers] s (execSieveSilenceExpiry x0 s) := by unfold execSieveSilenceExpiry; exact (ChangesOnly.withRule (by (try dsimp only); split; exacts [(Changes.refl _ _), (Changes.given (Changes.refl _ _) (Changes.after (Changes.after (Changes.after (Changes.after (Changes.refl _ _) (unprimeRule_changes _ _ _ _) rfl) (State.modRule_changes _ _ _) rfl) (raiseFault_changes _ _ _ _ _ _ _ _) rfl) (afterRule_changes _ _ _ _) rfl))]))

theorem execSieveOfferEval_changes (x0 : Nat) (s : State) :
    ChangesOnly [.die, .stream, .rule, .parish, .reeve, .timers] s (execSieveOfferEval x0 s) := by unfold execSieveOfferEval; exact (ChangesOnly.withDie (by (try dsimp only); split; exacts [(Changes.refl _ _), (Changes.given (Changes.refl _ _) (Changes.after (Changes.after (Changes.after (Changes.refl _ _) (State.modDie_changes _ _ _) rfl) (evalOffer_changes _ _ _ _ _) rfl) (afterRule_changes _ _ _ _) rfl))]))

theorem execSieveTimerExpiry_changes (x0 : Nat) (s : State) :
    ChangesOnly [.die, .stream, .rule, .parish, .reeve, .timers] s (execSieveTimerExpiry x0 s) := by unfold execSieveTimerExpiry; exact (ChangesOnly.withRule (by (try dsimp only); split; exacts [(Changes.refl _ _), (Changes.given (Changes.refl _ _) (Changes.after (Changes.after (Changes.refl _ _) (ruleOut_changes _ _ _ _ _ _ _) rfl) (afterRule_changes _ _ _ _) rfl))]))

end Sys2Proof.Machine
end

