-- ==== Sys2Proof/Laws/Lanes.lean ====
section
/-! SUPPORT. What each function of Sys2Proof/Machine/Lanes.lean can change. -/

namespace Sys2Proof.Machine

theorem keepFrame_changes (s : State) (x1 : Nat) (x2 : RingFrame) :
    Changes [.die] s (keepFrame s x1 x2) := by unfold keepFrame; exact (Changes.after (Changes.refl _ _) (State.modDie_changes _ _ _) rfl)

theorem ringSend_changes (s : State) (x1 : RingFrame) :
    Changes [.die] s (ringSend s x1) := by unfold ringSend; exact (Changes.ite (Changes.refl _ _) (Changes.after (Changes.refl _ _) (keepFrame_changes _ _ _) rfl))

theorem forward_changes (s : State) (x1 x2 x3 : Nat) :
    Changes [.die] s (forward s x1 x2 x3) := by unfold forward; exact (Changes.after (Changes.after (Changes.refl _ _) (ringSend_changes _ _) rfl) (ringSend_changes _ _) rfl)

end Sys2Proof.Machine
end

