-- ==== Sys2Proof/Laws/TimeBase.lean ====
section
/-! SUPPORT. What each function of Sys2Proof/Machine/TimeBase.lean can change. -/

namespace Sys2Proof.Machine

theorem writeTimeSet_changes (s : State) (x1 : Nat) :
    Changes [.time, .net] s (writeTimeSet s x1) := by unfold writeTimeSet; exact (Changes.ite (Changes.after (Changes.refl _ _) (withStatus_changes _ _) rfl) (Changes.ite (Changes.after (Changes.refl _ _) (withStatus_changes _ _) rfl) (Changes.after (Changes.trans (Changes.refl _ _) (fun f hf => by cases f <;> first | (cases hf; done) | dsimp only [Piece.same])) (withStatus_changes _ _) rfl)))

theorem countRx_changes (s : State) (x1 : Nat) :
    Changes [.netPorts] s (countRx s x1) := by unfold countRx; exact (Changes.after (Changes.refl _ _) (State.modNet_changes _ _ _) rfl)

theorem enqueueFrame_changes (s : State) (x1 : Nat) (x2 : Frame) :
    Changes [.netPorts] s (enqueueFrame s x1 x2) := by unfold enqueueFrame; exact (Changes.after (Changes.refl _ _) (State.modNet_changes _ _ _) rfl)

theorem writeRate_changes (s : State) (x1 : Nat) :
    Changes [.time, .net] s (writeRate s x1) := by unfold writeRate; exact (Changes.ite (Changes.after (Changes.refl _ _) (withStatus_changes _ _) rfl) (Changes.ite (Changes.after (Changes.refl _ _) (withStatus_changes _ _) rfl) (Changes.after (Changes.trans (Changes.refl _ _) (fun f hf => by cases f <;> first | (cases hf; done) | dsimp only [Piece.same])) (withStatus_changes _ _) rfl)))

theorem writeOffset_changes (s : State) (x1 : Int) :
    Changes [.time, .net] s (writeOffset s x1) := by unfold writeOffset; exact (Changes.ite (Changes.after (Changes.refl _ _) (withStatus_changes _ _) rfl) (Changes.ite (Changes.after (Changes.refl _ _) (withStatus_changes _ _) rfl) (Changes.after (Changes.trans (Changes.refl _ _) (fun f hf => by cases f <;> first | (cases hf; done) | dsimp only [Piece.same])) (withStatus_changes _ _) rfl)))

theorem writeReacquire_changes (s : State) (x1 : Nat) :
    Changes [.servo, .net] s (writeReacquire s x1) := by unfold writeReacquire; exact (Changes.ite (Changes.after (Changes.refl _ _) (withStatus_changes _ _) rfl) (Changes.ite (Changes.after (Changes.trans (Changes.refl _ _) (fun f hf => by cases f <;> first | (cases hf; done) | dsimp only [Piece.same])) (withStatus_changes _ _) rfl) (Changes.after (Changes.refl _ _) (withStatus_changes _ _) rfl)))

theorem servoHoldover_changes (s : State) :
    Changes [.servo] s (servoHoldover s) := by unfold servoHoldover; exact (Changes.ite (Changes.trans (Changes.refl _ _) (fun f hf => by cases f <;> first | (cases hf; done) | dsimp only [Piece.same])) (Changes.refl _ _))

theorem newGrandmaster_changes (s : State) (x1 x2 : Nat) :
    Changes [.servo] s (newGrandmaster s x1 x2) := by unfold newGrandmaster; exact (Changes.ite (Changes.after (Changes.refl _ _) (servoHoldover_changes _) rfl) (Changes.refl _ _))

theorem ptpStart_changes (s : State) (x1 : Nat) :
    Changes [.ptp] s (ptpStart s x1) := by unfold ptpStart; exact (Changes.ite (Changes.after (Changes.refl _ _) (State.modPtp_changes _ _ _) rfl) (Changes.ite (Changes.ite (Changes.refl _ _) (Changes.after (Changes.refl _ _) (State.modPtp_changes _ _ _) rfl)) (Changes.ite (Changes.after (Changes.refl _ _) (State.modPtp_changes _ _ _) rfl) (Changes.refl _ _))))

theorem alignDie_changes (x0 : Nat) (s : State) (x2 : Nat) :
    Changes [.die, .stream, .parish, .reeve, .timers] s (alignDie x0 s x2) := by unfold alignDie; exact (Changes.ite (Changes.after (Changes.after (Changes.refl _ _) (State.modDie_changes _ _ _) rfl) (raiseFault_changes _ _ _ _ _ _ _ _) rfl) (Changes.after (Changes.refl _ _) (State.modDie_changes _ _ _) rfl))

theorem execAnnounceReceiptTimeout_changes (x0 : Nat) (s : State) :
    ChangesOnly [.servo, .ptp] s (execAnnounceReceiptTimeout x0 s) := by unfold execAnnounceReceiptTimeout; exact (ChangesOnly.withNet (Changes.given (Changes.refl _ _) (Changes.ite (Changes.after (Changes.refl _ _) (State.modPtp_changes _ _ _) rfl) (Changes.after (Changes.after (Changes.refl _ _) (newGrandmaster_changes _ _ _) rfl) (State.modPtp_changes _ _ _) rfl))))

theorem servoLock_changes (s : State) (x1 : Int) :
    Changes [.servo] s (servoLock s x1) := by unfold servoLock; exact (Changes.ite (Changes.trans (Changes.refl _ _) (fun f hf => by cases f <;> first | (cases hf; done) | dsimp only [Piece.same])) (Changes.ite (Changes.trans (Changes.refl _ _) (fun f hf => by cases f <;> first | (cases hf; done) | dsimp only [Piece.same])) (Changes.trans (Changes.refl _ _) (fun f hf => by cases f <;> first | (cases hf; done) | dsimp only [Piece.same]))))

theorem servoLoop_changes (s : State) (x1 : Int) :
    Changes [.time, .servo] s (servoLoop s x1) := by unfold servoLoop; exact (Changes.trans (Changes.refl _ _) (fun f hf => by cases f <;> first | (cases hf; done) | dsimp only [Piece.same]))

theorem servoAcquire_changes (s : State) (x1 : Int) :
    Changes [.time, .servo] s (servoAcquire s x1) := by unfold servoAcquire; exact (by (try dsimp only); split; exacts [(Changes.ite (Changes.after (Changes.after (Changes.refl _ _) (servoLoop_changes _ _) rfl) (servoLock_changes _ _) rfl) (Changes.trans (Changes.refl _ _) (fun f hf => by cases f <;> first | (cases hf; done) | dsimp only [Piece.same]))), (Changes.ite (Changes.trans (Changes.trans (Changes.refl _ _) (fun f hf => by cases f <;> first | (cases hf; done) | dsimp only [Piece.same])) (fun f hf => by cases f <;> first | (cases hf; done) | dsimp only [Piece.same])) (Changes.after (Changes.after (Changes.trans (Changes.refl _ _) (fun f hf => by cases f <;> first | (cases hf; done) | dsimp only [Piece.same])) (servoLoop_changes _ _) rfl) (servoLock_changes _ _) rfl))])

theorem servoMeasure_changes (s : State) (x1 : Int) (x2 : Nat) :
    Changes [.time, .servo] s (servoMeasure s x1 x2) := by unfold servoMeasure; exact (by (try dsimp only); split; exacts [(Changes.after (Changes.trans (Changes.refl _ _) (fun f hf => by cases f <;> first | (cases hf; done) | dsimp only [Piece.same])) (servoAcquire_changes _ _) rfl), (Changes.after (Changes.after (Changes.refl _ _) (servoLoop_changes _ _) rfl) (servoLock_changes _ _) rfl), (Changes.after (Changes.after (Changes.refl _ _) (servoLoop_changes _ _) rfl) (servoLock_changes _ _) rfl), (Changes.ite (Changes.trans (Changes.refl _ _) (fun f hf => by cases f <;> first | (cases hf; done) | dsimp only [Piece.same])) (Changes.trans (Changes.refl _ _) (fun f hf => by cases f <;> first | (cases hf; done) | dsimp only [Piece.same]))), (Changes.refl _ _)])

theorem wrapAnchors_changes (x0 : TimeBase) (s : State) :
    Changes [.time, .die, .stream, .parish, .timers] s (wrapAnchors x0 s) := by
  have h : ∀ reason, Changes [.time, .die, .stream, .parish, .timers] s
      { anchorAll { s with time := { s.time with nanos := 0, frac := 0 } } reason with time := s.time } := by
    intro reason
    have h1 : Changes [.time, .die, .stream, .parish, .timers] s { s with time := { s.time with nanos := 0, frac := 0 } } :=
      fun f hf => by cases f <;> first | (cases hf; done) | rfl
    exact (Changes.after h1 (anchorAll_changes _ reason) rfl).trans
      (fun f hf => by cases f <;> first | (cases hf; done) | rfl)
  exact Changes.ite (Changes.refl _ _) (Changes.ite (h 2) (Changes.ite (h 1) (Changes.refl _ _)))

theorem execTimeTick_changes (s : State) :
    ChangesOnly [.time, .die, .port, .stream, .parish, .reeve, .timers] s (execTimeTick s) := by unfold execTimeTick; exact (ChangesOnly.next (Changes.given (Changes.refl _ _) (Changes.after (Changes.after (Changes.trans (Changes.refl _ _) (fun f hf => by cases f <;> first | (cases hf; done) | dsimp only [Piece.same])) (wrapAnchors_changes _ _) rfl) (everyTick_changes _) rfl)))

theorem applyStep_changes (s : State) (x1 : Int) :
    Changes [.time, .die, .stream, .parish, .timers] s (applyStep s x1) := by unfold applyStep; exact (Changes.after (Changes.trans (Changes.refl _ _) (fun f hf => by cases f <;> first | (cases hf; done) | dsimp only [Piece.same])) (anchorAll_changes _ _) rfl)

theorem applyTimePending_changes (s : State) :
    Changes [.time, .die, .stream, .parish, .timers] s (applyTimePending s) := by
  unfold applyTimePending
  extract_lets t s1
  have h : Changes [.time, .die, .stream, .parish, .timers] s s1 := by
    show Changes _ _ (match t.setPend, t.offPend with
      | some off, _ => applyStep s off
      | none, some (off, true) => applyStep s (off * 65536)
      | none, some (off, false) =>
        { s with time := { t with slew := if off = 0 then none else some { residual := off * 65536 } } }
      | none, none => s)
    split
    · exact Changes.after (Changes.refl _ _) (applyStep_changes _ _) rfl
    · exact Changes.after (Changes.refl _ _) (applyStep_changes _ _) rfl
    · exact fun f hf => by cases f <;> first | (cases hf; done) | rfl
    · exact Changes.refl _ _
  exact h.trans (fun f hf => by cases f <;> first | (cases hf; done) | rfl)

theorem execPtpAnnounceReceive_changes (x0 x1 x2 x3 x4 x5 x6 x7 : Nat) (x8 : Int) (s : State) :
    ChangesOnly [.time, .servo, .ptp, .netPorts] s (execPtpAnnounceReceive x0 x1 x2 x3 x4 x5 x6 x7 x8 s) := by unfold execPtpAnnounceReceive; exact (ChangesOnly.withNet (Changes.given (Changes.refl _ _) (Changes.ite (Changes.after (Changes.refl _ _) (countRx_changes _ _) rfl) (Changes.ite (Changes.ite (Changes.after (Changes.after (Changes.refl _ _) (countRx_changes _ _) rfl) (State.modPtp_changes _ _ _) rfl) (Changes.after (Changes.refl _ _) (countRx_changes _ _) rfl)) (Changes.ite (Changes.ite (Changes.trans (Changes.after (Changes.after (Changes.after (Changes.refl _ _) (countRx_changes _ _) rfl) (newGrandmaster_changes _ _ _) rfl) (State.modPtp_changes _ _ _) rfl) (fun f hf => by cases f <;> first | (cases hf; done) | dsimp only [Piece.same])) (Changes.after (Changes.after (Changes.after (Changes.refl _ _) (countRx_changes _ _) rfl) (newGrandmaster_changes _ _ _) rfl) (State.modPtp_changes _ _ _) rfl)) (Changes.after (Changes.refl _ _) (countRx_changes _ _) rfl))))))

theorem execPtpDelayResponseReceive_changes (x0 x1 : Nat) (x2 : Int) (x3 : Option Int) (s : State) :
    ChangesOnly [.servo, .ptp, .netPorts] s (execPtpDelayResponseReceive x0 x1 x2 x3 s) := by unfold execPtpDelayResponseReceive; exact (ChangesOnly.withNet (Changes.given (Changes.refl _ _) (Changes.ite (Changes.after (Changes.refl _ _) (countRx_changes _ _) rfl) (by (try dsimp only); split; exacts [(Changes.after (Changes.refl _ _) (countRx_changes _ _) rfl), (Changes.ite (Changes.trans (Changes.after (Changes.after (Changes.refl _ _) (countRx_changes _ _) rfl) (State.modPtp_changes _ _ _) rfl) (fun f hf => by cases f <;> first | (cases hf; done) | dsimp only [Piece.same])) (Changes.after (Changes.after (Changes.refl _ _) (countRx_changes _ _) rfl) (State.modPtp_changes _ _ _) rfl))]))))

theorem execTimeAlignFrame_changes (x0 : Nat) (s : State) :
    ChangesOnly [.time, .die, .stream, .parish, .reeve, .timers] s (execTimeAlignFrame x0 s) := by unfold execTimeAlignFrame; exact (ChangesOnly.next (Changes.given (Changes.refl _ _) (Changes.foldl (fun _ _ => (Changes.after (Changes.refl _ _) (alignDie_changes _ _ _) rfl)) (Changes.foldl (fun _ _ => (Changes.ite (Changes.after (Changes.refl _ _) (ringSend_changes _ _) rfl) (Changes.refl _ _))) (Changes.after (Changes.refl _ _) (applyTimePending_changes _) rfl)))))

theorem execSyncTimeout_changes (x0 : Nat) (s : State) :
    ChangesOnly [.servo] s (execSyncTimeout x0 s) := by unfold execSyncTimeout; exact (ChangesOnly.withNet (Changes.given (Changes.refl _ _) (Changes.after (Changes.refl _ _) (servoHoldover_changes _) rfl)))

theorem execSlewComplete_changes (s : State) :
    ChangesOnly [.time, .die, .port, .stream, .parish, .reeve, .timers] s (execSlewComplete s) := by unfold execSlewComplete; exact (ChangesOnly.next (Changes.given (Changes.refl _ _) (Changes.after (Changes.after (Changes.trans (Changes.refl _ _) (fun f hf => by cases f <;> first | (cases hf; done) | dsimp only [Piece.same])) (wrapAnchors_changes _ _) rfl) (everyTick_changes _) rfl)))

theorem execRefRetune_changes (x0 : Int) (s : State) :
    ChangesOnly [.time] s (execRefRetune x0 s) := by unfold execRefRetune; exact (ChangesOnly.next (Changes.given (Changes.refl _ _) (Changes.trans (Changes.refl _ _) (fun f hf => by cases f <;> first | (cases hf; done) | dsimp only [Piece.same]))))

theorem execOffsetAdjWrite_changes (x0 : Int) (s : State) :
    ChangesOnly [.time, .net] s (execOffsetAdjWrite x0 s) := by unfold execOffsetAdjWrite; exact (ChangesOnly.next (Changes.after (Changes.refl _ _) (writeOffset_changes _ _) rfl))

theorem execRateWrite_changes (x0 : Nat) (s : State) :
    ChangesOnly [.time, .net] s (execRateWrite x0 s) := by unfold execRateWrite; exact (ChangesOnly.next (Changes.after (Changes.refl _ _) (writeRate_changes _ _) rfl))

theorem execTimeSetWrite_changes (x0 : Nat) (s : State) :
    ChangesOnly [.time, .net] s (execTimeSetWrite x0 s) := by unfold execTimeSetWrite; exact (ChangesOnly.next (Changes.after (Changes.refl _ _) (writeTimeSet_changes _ _) rfl))

theorem execReacquireWrite_changes (x0 : Nat) (s : State) :
    ChangesOnly [.servo, .net] s (execReacquireWrite x0 s) := by unfold execReacquireWrite; exact (ChangesOnly.next (Changes.after (Changes.refl _ _) (writeReacquire_changes _ _) rfl))

theorem ptpOffset_changes (s : State) (x1 : Nat) (x2 x3 : Int) :
    Changes [.time, .servo, .ptp] s (ptpOffset s x1 x2 x3) := by unfold ptpOffset; exact (Changes.ite (Changes.ite (Changes.trans (Changes.after (Changes.refl _ _) (State.modPtp_changes _ _ _) rfl) (fun f hf => by cases f <;> first | (cases hf; done) | dsimp only [Piece.same])) (Changes.after (Changes.trans (Changes.after (Changes.refl _ _) (State.modPtp_changes _ _ _) rfl) (fun f hf => by cases f <;> first | (cases hf; done) | dsimp only [Piece.same])) (servoMeasure_changes _ _ _) rfl)) (Changes.after (Changes.refl _ _) (State.modPtp_changes _ _ _) rfl))

theorem execPtpSyncReceive_changes (x0 x1 : Nat) (x2 : Bool) (x3 : Int) (s : State) :
    ChangesOnly [.time, .servo, .ptp, .netPorts] s (execPtpSyncReceive x0 x1 x2 x3 s) := by unfold execPtpSyncReceive; exact (ChangesOnly.withNet (Changes.given (Changes.refl _ _) (Changes.ite (Changes.ite (Changes.after (Changes.after (Changes.refl _ _) (countRx_changes _ _) rfl) (State.modPtp_changes _ _ _) rfl) (Changes.after (Changes.after (Changes.refl _ _) (countRx_changes _ _) rfl) (ptpOffset_changes _ _ _ _) rfl)) (Changes.after (Changes.refl _ _) (countRx_changes _ _) rfl))))

theorem execPtpMessageDiscard_changes (x0 : Nat) (s : State) :
    ChangesOnly [.netPorts] s (execPtpMessageDiscard x0 s) := by unfold execPtpMessageDiscard; exact (ChangesOnly.withNet (Changes.given (Changes.refl _ _) (Changes.after (Changes.refl _ _) (countRx_changes _ _) rfl)))

theorem execPtpSyncSend_changes (x0 : Nat) (s : State) :
    ChangesOnly [.ptp, .netPorts] s (execPtpSyncSend x0 s) := by unfold execPtpSyncSend; exact (ChangesOnly.withNet (Changes.given (Changes.refl _ _) (Changes.after (Changes.after (Changes.refl _ _) (enqueueFrame_changes _ _ _) rfl) (State.modPtp_changes _ _ _) rfl)))

theorem execPtpDelayRequestSend_changes (x0 : Nat) (s : State) :
    ChangesOnly [.ptp, .netPorts] s (execPtpDelayRequestSend x0 s) := by unfold execPtpDelayRequestSend; exact (ChangesOnly.withNet (Changes.given (Changes.refl _ _) (Changes.after (Changes.after (Changes.refl _ _) (enqueueFrame_changes _ _ _) rfl) (State.modPtp_changes _ _ _) rfl)))

theorem execPtpAnnounceSend_changes (x0 : Nat) (s : State) :
    ChangesOnly [.ptp, .netPorts] s (execPtpAnnounceSend x0 s) := by unfold execPtpAnnounceSend; exact (ChangesOnly.withNet (Changes.given (Changes.refl _ _) (Changes.after (Changes.after (Changes.refl _ _) (enqueueFrame_changes _ _ _) rfl) (State.modPtp_changes _ _ _) rfl)))

theorem execPtpFollowUpReceive_changes (x0 x1 : Nat) (x2 : Int) (s : State) :
    ChangesOnly [.time, .servo, .ptp, .netPorts] s (execPtpFollowUpReceive x0 x1 x2 s) := by unfold execPtpFollowUpReceive; exact (ChangesOnly.withNet (Changes.given (Changes.refl _ _) (by (try dsimp only); split; exacts [(Changes.ite (Changes.after (Changes.after (Changes.refl _ _) (countRx_changes _ _) rfl) (ptpOffset_changes _ _ _ _) rfl) (Changes.after (Changes.refl _ _) (countRx_changes _ _) rfl)), (Changes.after (Changes.refl _ _) (countRx_changes _ _) rfl)])))

theorem execPtpDelayRequestReceive_changes (x0 x1 : Nat) (x2 : Bool) (s : State) :
    ChangesOnly [.netPorts] s (execPtpDelayRequestReceive x0 x1 x2 s) := by unfold execPtpDelayRequestReceive; exact (ChangesOnly.withNet (Changes.given (Changes.refl _ _) (Changes.ite (Changes.after (Changes.after (Changes.refl _ _) (countRx_changes _ _) rfl) (enqueueFrame_changes _ _ _) rfl) (Changes.after (Changes.refl _ _) (countRx_changes _ _) rfl))))

end Sys2Proof.Machine
end

