-- ==== Sys2Proof/Laws/Records.lean ====
section
/-! SUPPORT. What each function of Sys2Proof/Machine/Records.lean can change. -/

namespace Sys2Proof.Machine

theorem hubFrame_changes (s : State) (x1 : Nat) (x2 : Frame) :
    Changes [.netPorts] s (hubFrame s x1 x2) := by unfold hubFrame; exact (Changes.after (Changes.after (Changes.refl _ _) (enqueueFrame_changes _ _ _) rfl) (State.modNet_changes _ _ _) rfl)

theorem markRecs_changes (s : State) (x1 : List (Nat × Nat × Nat)) (x2 : (Rec → Rec)) :
    Changes [.stream] s (markRecs s x1 x2) := by unfold markRecs; exact (Changes.trans (Changes.refl _ _) (fun f hf => by cases f <;> first | (cases hf; done) | dsimp only [Piece.same]))

theorem deliverKeys_changes (s : State) (x1 : List (Nat × Nat × Nat)) :
    Changes [.stream] s (deliverKeys s x1) := by unfold deliverKeys; exact (Changes.after (Changes.refl _ _) (markRecs_changes _ _ _) rfl)

theorem ackWake_changes (s : State) (x1 : Nat) :
    Changes [.parish, .power] s (ackWake s x1) := by unfold ackWake; exact (Changes.trans (Changes.after (Changes.refl _ _) (State.modPar_changes _ _ _) rfl) (fun f hf => by cases f <;> first | (cases hf; done) | dsimp only [Piece.same]))

theorem discardOld_changes (s : State) (x1 : Nat) :
    Changes [.stream] s (discardOld s x1) := by unfold discardOld; exact (Changes.ite (Changes.refl _ _) (Changes.after (Changes.refl _ _) (State.modStream_changes _ _ _) rfl))

theorem wakeHost_changes (s : State) (x1 : Nat) :
    Changes [.netPorts, .parish, .power] s (wakeHost s x1) := by unfold wakeHost; exact (Changes.after (Changes.trans (Changes.after (Changes.refl _ _) (hubFrame_changes _ _ _) rfl) (fun f hf => by cases f <;> first | (cases hf; done) | dsimp only [Piece.same])) (State.modPar_changes _ _ _) rfl)

theorem execMaxAgeExpiry_changes (x0 : Nat) (s : State) :
    ChangesOnly [.parish, .timers] s (execMaxAgeExpiry x0 s) := by unfold execMaxAgeExpiry; exact (ChangesOnly.withStream (by (try dsimp only); split; exacts [(Changes.refl _ _), (Changes.given (Changes.refl _ _) (Changes.ite (Changes.after (Changes.refl _ _) (crierReason_changes _ _ _ _) rfl) (Changes.after (Changes.refl _ _) (State.modPar_changes _ _ _) rfl)))]))

theorem assembleBatch_changes (s : State) (x1 : Nat) (x2 : List Nat) (x3 : Bool) :
    Changes [.netPorts, .die, .stream, .parish] s (assembleBatch s x1 x2 x3) := by unfold assembleBatch; exact (by (try dsimp only); split; exacts [(Changes.foldl (fun _ _ => (Changes.after (Changes.refl _ _) (discardOld_changes _ _) rfl)) (Changes.refl _ _)), (Changes.ite (Changes.after (Changes.foldl (fun _ _ => (Changes.after (Changes.refl _ _) (ringSend_changes _ _) rfl)) (Changes.foldl (fun _ _ => (Changes.after (Changes.refl _ _) (hubFrame_changes _ _ _) rfl)) (Changes.after (Changes.foldl (fun _ _ => (Changes.after (Changes.refl _ _) (discardOld_changes _ _) rfl)) (Changes.refl _ _)) (markRecs_changes _ _ _) rfl))) (State.modPar_changes _ _ _) rfl) (Changes.after (Changes.after (Changes.foldl (fun _ _ => (Changes.after (Changes.refl _ _) (ringSend_changes _ _) rfl)) (Changes.foldl (fun _ _ => (Changes.after (Changes.refl _ _) (hubFrame_changes _ _ _) rfl)) (Changes.after (Changes.foldl (fun _ _ => (Changes.after (Changes.refl _ _) (discardOld_changes _ _) rfl)) (Changes.refl _ _)) (markRecs_changes _ _ _) rfl))) (State.modPar_changes _ _ _) rfl) (deliverKeys_changes _ _) rfl))])

theorem execBatchAssemble_changes (x0 : Nat) (s : State) :
    ChangesOnly [.netPorts, .die, .stream, .parish] s (execBatchAssemble x0 s) := by unfold execBatchAssemble; exact (ChangesOnly.withParish (Changes.given (Changes.refl _ _) (Changes.ite (Changes.after (Changes.after (Changes.refl _ _) (assembleBatch_changes _ _ _ _) rfl) (State.modPar_changes _ _ _) rfl) (Changes.ite (Changes.after (Changes.after (Changes.refl _ _) (assembleBatch_changes _ _ _ _) rfl) (State.modPar_changes _ _ _) rfl) (Changes.after (Changes.refl _ _) (State.modPar_changes _ _ _) rfl)))))

theorem execWakeHoldExpiry_changes (s : State) :
    ChangesOnly [.power] s (execWakeHoldExpiry s) := by unfold execWakeHoldExpiry; exact (ChangesOnly.next (Changes.given (Changes.refl _ _) (Changes.trans (Changes.refl _ _) (fun f hf => by cases f <;> first | (cases hf; done) | dsimp only [Piece.same]))))

theorem execWakeRetryExpiry_changes (x0 : Nat) (s : State) :
    ChangesOnly [.netPorts, .parish, .power] s (execWakeRetryExpiry x0 s) := by unfold execWakeRetryExpiry; exact (ChangesOnly.withParish (Changes.given (Changes.refl _ _) (Changes.after (Changes.refl _ _) (wakeHost_changes _ _) rfl)))

end Sys2Proof.Machine
end

