-- ==== Sys2Proof/Laws/NvLog.lean ====
section
/-! SUPPORT. What each function of Sys2Proof/Machine/NvLog.lean can change. -/

namespace Sys2Proof.Machine

theorem writeLogTrigger_changes (s : State) (x1 x2 : Nat) :
    Changes [.die, .stream] s (writeLogTrigger s x1 x2) := by unfold writeLogTrigger; exact (Changes.ite (Changes.foldl (fun _ _ => (Changes.after (Changes.refl _ _) (captureTrigger_changes _ _ _) rfl)) (Changes.refl _ _)) (Changes.refl _ _))

theorem State.modRegion_changes (s : State) (x1 x2 : Nat) (x3 : (Region → Region)) :
    Changes [.die] s (State.modRegion s x1 x2 x3) := by unfold State.modRegion; exact (Changes.after (Changes.refl _ _) (State.modDie_changes _ _ _) rfl)

theorem execCaptureStart_changes (x0 x1 : Nat) (s : State) :
    ChangesOnly [.die, .stream] s (execCaptureStart x0 x1 s) := by unfold execCaptureStart; exact (ChangesOnly.withDie (Changes.after (Changes.refl _ _) (captureTrigger_changes _ _ _) rfl))

theorem tearPage_changes (s : State) (x1 x2 x3 : Nat) :
    Changes [.die] s (tearPage s x1 x2 x3) := by unfold tearPage; exact (by (try dsimp only); split; exacts [(Changes.refl _ _), (by (try dsimp only); split; exacts [(Changes.refl _ _), (Changes.ite (Changes.refl _ _) (Changes.after (Changes.refl _ _) (State.modRegion_changes _ _ _ _) rfl))])])

theorem execLogTrigger_changes (x0 : Nat) (s : State) :
    ChangesOnly [.net, .die, .stream] s (execLogTrigger x0 s) := by unfold execLogTrigger; exact (ChangesOnly.next (Changes.given (Changes.after (Changes.refl _ _) (withStatus_changes _ _) rfl) (Changes.after (Changes.after (Changes.refl _ _) (writeLogTrigger_changes _ _ _) rfl) (withStatus_changes _ _) rfl)))

theorem retirePage_changes (s : State) (x1 x2 x3 : Nat) :
    Changes [.die, .stream, .parish, .reeve, .timers] s (retirePage s x1 x2 x3) := by unfold retirePage; exact (by (try dsimp only); split; exacts [(Changes.ite (Changes.after (Changes.after (Changes.after (Changes.refl _ _) (State.modDie_changes _ _ _) rfl) (faultItem_changes _ _ _ _ _ _ _) rfl) (requestReason_changes _ _ _) rfl) (Changes.after (Changes.after (Changes.refl _ _) (State.modDie_changes _ _ _) rfl) (faultItem_changes _ _ _ _ _ _ _) rfl)), (Changes.after (Changes.after (Changes.refl _ _) (State.modDie_changes _ _ _) rfl) (faultItem_changes _ _ _ _ _ _ _) rfl)])

theorem wearPage_changes (s : State) (x1 x2 : Nat) :
    Changes [.die] s (wearPage s x1 x2) := by unfold wearPage; exact (Changes.after (Changes.refl _ _) (State.modDie_changes _ _ _) rfl)

theorem captureDone_changes (s : State) (x1 x2 : Nat) :
    Changes [.die, .stream, .parish, .timers] s (captureDone s x1 x2) := by unfold captureDone; exact (Changes.ite (Changes.after (Changes.trans (Changes.after (Changes.refl _ _) (State.modRegion_changes _ _ _ _) rfl) (fun f hf => by cases f <;> first | (cases hf; done) | dsimp only [Piece.same])) (crierReason_changes _ _ _ _) rfl) (Changes.refl _ _))

theorem execNvPageWriteDone_changes (x0 x1 x2 : Nat) (x3 : Bool) (s : State) :
    ChangesOnly [.die, .stream, .parish, .reeve, .timers] s (execNvPageWriteDone x0 x1 x2 x3 s) := by unfold execNvPageWriteDone; exact (ChangesOnly.withDie (by (try dsimp only); split; exacts [(Changes.refl _ _), (Changes.given (Changes.refl _ _) (Changes.after (Changes.after (Changes.after (Changes.ite (Changes.after (Changes.ite (Changes.after (Changes.refl _ _) (State.modDie_changes _ _ _) rfl) (Changes.after (Changes.after (Changes.refl _ _) (State.modDie_changes _ _ _) rfl) (wearPage_changes _ _ _) rfl)) (retirePage_changes _ _ _ _) rfl) (Changes.after (Changes.refl _ _) (State.modDie_changes _ _ _) rfl)) (wearPage_changes _ _ _) rfl) (State.modRegion_changes _ _ _ _) rfl) (captureDone_changes _ _ _) rfl))]))

theorem copyInto_changes (s : State) (x1 x2 : Nat) :
    Changes [.die] s (copyInto s x1 x2) := by unfold copyInto; exact (Changes.foldl (fun _ _ => (Changes.after (Changes.refl _ _) (wearPage_changes _ _ _) rfl)) (Changes.refl _ _))

theorem execWearLevelCheck_changes (x0 : Nat) (s : State) :
    ChangesOnly [.die] s (execWearLevelCheck x0 s) := by unfold execWearLevelCheck; exact (ChangesOnly.withDie (by (try dsimp only); split; exacts [(by (try dsimp only); split; exacts [(Changes.given (Changes.refl _ _) (Changes.after (Changes.after (Changes.after (Changes.after (Changes.after (Changes.refl _ _) (copyInto_changes _ _ _) rfl) (State.modRegion_changes _ _ _ _) rfl) (copyInto_changes _ _ _) rfl) (State.modRegion_changes _ _ _ _) rfl) (State.modDie_changes _ _ _) rfl)), (Changes.refl _ _)]), (Changes.refl _ _)]))

theorem execLogFlushExpiry_changes (x0 x1 : Nat) (s : State) :
    ChangesOnly [.die] s (execLogFlushExpiry x0 x1 s) := by unfold execLogFlushExpiry; exact (ChangesOnly.withDie (by (try dsimp only); split; exacts [(Changes.refl _ _), (Changes.given (Changes.refl _ _) (Changes.after (Changes.refl _ _) (State.modRegion_changes _ _ _ _) rfl))]))

theorem execCaptureEnd_changes (x0 x1 : Nat) (s : State) :
    ChangesOnly [.die, .stream, .parish, .timers] s (execCaptureEnd x0 x1 s) := by unfold execCaptureEnd; exact (ChangesOnly.withDie (Changes.given (Changes.refl _ _) (Changes.after (Changes.after (Changes.refl _ _) (State.modRegion_changes _ _ _ _) rfl) (captureDone_changes _ _ _) rfl)))

theorem freeLogged_changes (s : State) (x1 : Nat) :
    Changes [.stream] s (freeLogged s x1) := by unfold freeLogged; exact (Changes.trans (Changes.refl _ _) (fun f hf => by cases f <;> first | (cases hf; done) | dsimp only [Piece.same]))

theorem execNvScanDone_changes (x0 : Nat) (s : State) :
    ChangesOnly [.die, .stream] s (execNvScanDone x0 s) := by unfold execNvScanDone; exact (ChangesOnly.withDie (Changes.given (Changes.refl _ _) (Changes.after (Changes.after (Changes.refl _ _) (State.modDie_changes _ _ _) rfl) (freeLogged_changes _ _) rfl)))

end Sys2Proof.Machine
end

