-- ==== Sys2Proof/Laws/Tally.lean ====
section
/-! SUPPORT. What each function of Sys2Proof/Machine/Tally.lean can change. -/

namespace Sys2Proof.Machine

theorem writeTop_changes (s : State) (x1 x2 : Nat) :
    Changes [.net, .tally] s (writeTop s x1 x2) := by unfold writeTop; exact (Changes.ite (Changes.after (Changes.refl _ _) (withStatus_changes _ _) rfl) (Changes.after (Changes.ite (Changes.after (Changes.refl _ _) (State.modTally_changes _ _ _) rfl) (Changes.after (Changes.after (Changes.after (Changes.refl _ _) (State.modTally_changes _ _ _) rfl) (State.modTally_changes _ _ _) rfl) (compareOut_changes _ _) rfl)) (withStatus_changes _ _) rfl))

theorem writeCmp_changes (s : State) (x1 x2 : Nat) :
    Changes [.net, .tally] s (writeCmp s x1 x2) := by unfold writeCmp; exact (Changes.ite (Changes.after (Changes.refl _ _) (withStatus_changes _ _) rfl) (Changes.after (by (try dsimp only); split; exacts [(Changes.ite (Changes.after (Changes.after (Changes.refl _ _) (State.modTally_changes _ _ _) rfl) (State.modTally_changes _ _ _) rfl) (Changes.after (Changes.after (Changes.after (Changes.refl _ _) (State.modTally_changes _ _ _) rfl) (copyPreloads_changes _ _) rfl) (compareOut_changes _ _) rfl)), (Changes.ite (Changes.after (Changes.refl _ _) (State.modTally_changes _ _ _) rfl) (Changes.after (Changes.after (Changes.after (Changes.refl _ _) (State.modTally_changes _ _ _) rfl) (State.modTally_changes _ _ _) rfl) (compareOut_changes _ _) rfl))]) (withStatus_changes _ _) rfl))

theorem writeTallyCtl_changes (s : State) (x1 x2 : Nat) :
    Changes [.net, .tally] s (writeTallyCtl s x1 x2) := by unfold writeTallyCtl; exact (Changes.ite (Changes.after (Changes.after (Changes.refl _ _) (tallyStart_changes _ _) rfl) (withStatus_changes _ _) rfl) (Changes.ite (Changes.after (Changes.after (Changes.refl _ _) (tallyStop_changes _ _) rfl) (withStatus_changes _ _) rfl) (Changes.ite (Changes.after (Changes.after (Changes.refl _ _) (tallyReset_changes _ _) rfl) (withStatus_changes _ _) rfl) (Changes.after (Changes.refl _ _) (withStatus_changes _ _) rfl))))

theorem writeUnitCtl_changes (s : State) (x1 x2 : Nat) :
    Changes [.net, .tally] s (writeUnitCtl s x1 x2) := by unfold writeUnitCtl; exact (Changes.after (Changes.foldl (fun _ _ => (Changes.ite (Changes.after (Changes.refl _ _) (tallyStart_changes _ _) rfl) (Changes.refl _ _))) (Changes.foldl (fun _ _ => (Changes.ite (Changes.after (Changes.refl _ _) (tallyReset_changes _ _) rfl) (Changes.refl _ _))) (Changes.refl _ _))) (withStatus_changes _ _) rfl)

theorem latchCount_changes (s : State) (x1 : Nat) (x2 : (Tally → Nat → Tally)) :
    Changes [.tally] s (latchCount s x1 x2) := by unfold latchCount; exact (Changes.ite (Changes.after (Changes.after (Changes.refl _ _) (State.modTally_changes _ _ _) rfl) (State.modTally_changes _ _ _) rfl) (Changes.after (Changes.refl _ _) (State.modTally_changes _ _ _) rfl))

theorem execTallyPairedRise_changes (x0 : Nat) (s : State) :
    ChangesOnly [.tally] s (execTallyPairedRise x0 s) := by unfold execTallyPairedRise; exact (ChangesOnly.withTally (Changes.given (Changes.refl _ _) (Changes.after (Changes.after (Changes.after (Changes.refl _ _) (dropEdges_changes _ _) rfl) (latchCount_changes _ _ _) rfl) (State.modTally_changes _ _ _) rfl)))

theorem switchCaptures_changes (s : State) (x1 x2 : Nat) :
    Changes [.tally] s (switchCaptures s x1 x2) := by unfold switchCaptures; exact (Changes.trans (Changes.refl _ _) (fun f hf => by cases f <;> first | (cases hf; done) | dsimp only [Piece.same]))

theorem execTallyStart_changes (x0 : Nat) (s : State) :
    ChangesOnly [.net, .tally] s (execTallyStart x0 s) := by unfold execTallyStart; exact (ChangesOnly.next (Changes.given (Changes.after (Changes.refl _ _) (withStatus_changes _ _) rfl) (Changes.after (Changes.refl _ _) (writeTallyCtl_changes _ _ _) rfl)))

theorem aonMatch_changes (s : State) (x1 : Nat) :
    Changes [.tally] s (aonMatch s x1) := by unfold aonMatch; exact (Changes.ite (Changes.after (Changes.refl _ _) (State.modTally_changes _ _ _) rfl) (Changes.refl _ _))

theorem linkAction_changes (s : State) (x1 : Nat) (x2 x3 : Bool) :
    Changes [.tally] s (linkAction s x1 x2 x3) := by unfold linkAction; exact (Changes.after (Changes.refl _ _) (State.modTally_changes _ _ _) rfl)

theorem takeAction_changes (s : State) (x1 x2 : Nat) :
    Changes [.tally] s (takeAction s x1 x2) := by unfold takeAction; exact (Changes.ite (Changes.after (Changes.ite (Changes.after (Changes.ite (Changes.after (Changes.refl _ _) (linkAction_changes _ _ _ _) rfl) (Changes.refl _ _)) (tallyReset_changes _ _) rfl) (Changes.ite (Changes.after (Changes.refl _ _) (linkAction_changes _ _ _ _) rfl) (Changes.refl _ _))) (tallyStop_changes _ _) rfl) (Changes.ite (Changes.after (Changes.ite (Changes.after (Changes.refl _ _) (linkAction_changes _ _ _ _) rfl) (Changes.refl _ _)) (tallyReset_changes _ _) rfl) (Changes.ite (Changes.after (Changes.refl _ _) (linkAction_changes _ _ _ _) rfl) (Changes.refl _ _))))

theorem tickActions_changes (s : State) (x1 : Nat) (x2 x3 : Bool) :
    Changes [.tally] s (tickActions s x1 x2 x3) := by unfold tickActions; exact (Changes.ite (Changes.after (Changes.ite (Changes.after (Changes.refl _ _) (takeAction_changes _ _ _) rfl) (Changes.refl _ _)) (takeAction_changes _ _ _) rfl) (Changes.ite (Changes.after (Changes.refl _ _) (takeAction_changes _ _ _) rfl) (Changes.refl _ _)))

theorem countTick_changes (s : State) (x1 : Nat) :
    Changes [.tally] s (countTick s x1) := by unfold countTick; exact (Changes.after (Changes.ite (Changes.after (Changes.after (Changes.ite (Changes.after (Changes.after (Changes.after (Changes.after (Changes.ite (Changes.after (Changes.ite (Changes.after (Changes.refl _ _) (copyPreloads_changes _ _) rfl) (Changes.refl _ _)) (copyPreloads_changes _ _) rfl) (Changes.ite (Changes.after (Changes.refl _ _) (copyPreloads_changes _ _) rfl) (Changes.refl _ _))) (State.modTally_changes _ _ _) rfl) (setCount_changes _ _ _) rfl) (compareOut_changes _ _) rfl) (tallyPulse_changes _ _ _) rfl) (Changes.after (Changes.after (Changes.after (Changes.ite (Changes.after (Changes.ite (Changes.after (Changes.refl _ _) (copyPreloads_changes _ _) rfl) (Changes.refl _ _)) (copyPreloads_changes _ _) rfl) (Changes.ite (Changes.after (Changes.refl _ _) (copyPreloads_changes _ _) rfl) (Changes.refl _ _))) (State.modTally_changes _ _ _) rfl) (setCount_changes _ _ _) rfl) (compareOut_changes _ _) rfl)) (tallyPulse_changes _ _ _) rfl) (aonMatch_changes _ _) rfl) (Changes.ite (Changes.after (Changes.after (Changes.after (Changes.after (Changes.ite (Changes.after (Changes.ite (Changes.after (Changes.refl _ _) (copyPreloads_changes _ _) rfl) (Changes.refl _ _)) (copyPreloads_changes _ _) rfl) (Changes.ite (Changes.after (Changes.refl _ _) (copyPreloads_changes _ _) rfl) (Changes.refl _ _))) (State.modTally_changes _ _ _) rfl) (setCount_changes _ _ _) rfl) (compareOut_changes _ _) rfl) (tallyPulse_changes _ _ _) rfl) (Changes.after (Changes.after (Changes.after (Changes.ite (Changes.after (Changes.ite (Changes.after (Changes.refl _ _) (copyPreloads_changes _ _) rfl) (Changes.refl _ _)) (copyPreloads_changes _ _) rfl) (Changes.ite (Changes.after (Changes.refl _ _) (copyPreloads_changes _ _) rfl) (Changes.refl _ _))) (State.modTally_changes _ _ _) rfl) (setCount_changes _ _ _) rfl) (compareOut_changes _ _) rfl))) (tickActions_changes _ _ _ _) rfl)

theorem execTallyTick_changes (x0 : Nat) (s : State) :
    ChangesOnly [.tally] s (execTallyTick x0 s) := by unfold execTallyTick; exact (ChangesOnly.withTally (Changes.given (Changes.refl _ _) (Changes.ite (Changes.after (Changes.after (Changes.refl _ _) (State.modTally_changes _ _ _) rfl) (countTick_changes _ _) rfl) (Changes.after (Changes.refl _ _) (State.modTally_changes _ _ _) rfl))))

theorem execTallyStop_changes (x0 : Nat) (s : State) :
    ChangesOnly [.net, .tally] s (execTallyStop x0 s) := by unfold execTallyStop; exact (ChangesOnly.next (Changes.given (Changes.after (Changes.refl _ _) (withStatus_changes _ _) rfl) (Changes.after (Changes.refl _ _) (writeTallyCtl_changes _ _ _) rfl)))

theorem execTallyLinkAction_changes (x0 : Nat) (s : State) :
    ChangesOnly [.tally] s (execTallyLinkAction x0 s) := by unfold execTallyLinkAction; exact (ChangesOnly.withTally (Changes.given (Changes.refl _ _) (Changes.ite (Changes.after (Changes.ite (Changes.after (Changes.after (Changes.refl _ _) (State.modTally_changes _ _ _) rfl) (tallyReset_changes _ _) rfl) (Changes.after (Changes.refl _ _) (State.modTally_changes _ _ _) rfl)) (tallyStart_changes _ _) rfl) (Changes.ite (Changes.after (Changes.after (Changes.refl _ _) (State.modTally_changes _ _ _) rfl) (tallyReset_changes _ _) rfl) (Changes.after (Changes.refl _ _) (State.modTally_changes _ _ _) rfl)))))

theorem execTallyReset_changes (x0 : Nat) (s : State) :
    ChangesOnly [.net, .tally] s (execTallyReset x0 s) := by unfold execTallyReset; exact (ChangesOnly.next (Changes.given (Changes.after (Changes.refl _ _) (withStatus_changes _ _) rfl) (Changes.after (Changes.refl _ _) (writeTallyCtl_changes _ _ _) rfl)))

theorem execUnitStart_changes (x0 x1 : Nat) (s : State) :
    ChangesOnly [.net, .tally] s (execUnitStart x0 x1 s) := by unfold execUnitStart; exact (ChangesOnly.withTally (Changes.given (Changes.refl _ _) (Changes.after (Changes.refl _ _) (writeUnitCtl_changes _ _ _) rfl)))

theorem execUnitReset_changes (x0 x1 : Nat) (s : State) :
    ChangesOnly [.net, .tally] s (execUnitReset x0 x1 s) := by unfold execUnitReset; exact (ChangesOnly.withTally (Changes.given (Changes.refl _ _) (Changes.after (Changes.refl _ _) (writeUnitCtl_changes _ _ _) rfl)))

theorem execTopWrite_changes (x0 x1 : Nat) (s : State) :
    ChangesOnly [.net, .tally] s (execTopWrite x0 x1 s) := by unfold execTopWrite; exact (ChangesOnly.next (Changes.given (Changes.after (Changes.refl _ _) (withStatus_changes _ _) rfl) (Changes.after (Changes.refl _ _) (writeTop_changes _ _ _) rfl)))

theorem execCmpWrite_changes (x0 x1 : Nat) (s : State) :
    ChangesOnly [.net, .tally] s (execCmpWrite x0 x1 s) := by unfold execCmpWrite; exact (ChangesOnly.next (Changes.given (Changes.after (Changes.refl _ _) (withStatus_changes _ _) rfl) (Changes.after (Changes.refl _ _) (writeCmp_changes _ _ _) rfl)))

theorem captureMade_changes (s : State) (x1 x2 : Nat) (x3 : Stamp) :
    Changes [.die, .stream, .tally, .parish, .reeve, .timers] s (captureMade s x1 x2 x3) := by unfold captureMade; exact (Changes.after (Changes.after (Changes.after (Changes.refl _ _) (State.modTally_changes _ _ _) rfl) (tallyPulse_changes _ _ _) rfl) (offerFrom_changes _ _ _ _ _ _) rfl)

theorem execTallyCapture_changes (x0 : Nat) (x1 : Bool) (s : State) :
    ChangesOnly [.die, .stream, .tally, .parish, .reeve, .timers] s (execTallyCapture x0 x1 s) := by unfold execTallyCapture; exact (ChangesOnly.withTally (Changes.given (Changes.refl _ _) (Changes.ite (Changes.after (Changes.after (Changes.refl _ _) (dropEdges_changes _ _) rfl) (State.modTally_changes _ _ _) rfl) (Changes.ite (Changes.after (Changes.after (Changes.refl _ _) (dropEdges_changes _ _) rfl) (State.modTally_changes _ _ _) rfl) (Changes.ite (Changes.after (Changes.after (Changes.after (Changes.after (Changes.after (Changes.refl _ _) (dropEdges_changes _ _) rfl) (State.modTally_changes _ _ _) rfl) (latchCount_changes _ _ _) rfl) (captureMade_changes _ _ _ _) rfl) (tallyReset_changes _ _) rfl) (Changes.after (Changes.after (Changes.after (Changes.after (Changes.refl _ _) (dropEdges_changes _ _) rfl) (State.modTally_changes _ _ _) rfl) (latchCount_changes _ _ _) rfl) (captureMade_changes _ _ _ _) rfl))))))

theorem execTallyPairedFall_changes (x0 : Nat) (s : State) :
    ChangesOnly [.die, .stream, .tally, .parish, .reeve, .timers] s (execTallyPairedFall x0 s) := by unfold execTallyPairedFall; exact (ChangesOnly.withTally (by (try dsimp only); split; exacts [(Changes.refl _ _), (Changes.given (Changes.refl _ _) (Changes.after (Changes.after (Changes.after (Changes.after (Changes.refl _ _) (dropEdges_changes _ _) rfl) (latchCount_changes _ _ _) rfl) (State.modTally_changes _ _ _) rfl) (captureMade_changes _ _ _ _) rfl))]))

end Sys2Proof.Machine
end

