-- ==== Sys2Proof/Laws/Parishes.lean ====
section
/-! SUPPORT. What each function of Sys2Proof/Machine/Parishes.lean can change. -/

namespace Sys2Proof.Machine

theorem modSession_changes (s : State) (x1 : Nat) (x2 : (Session → Session)) :
    Changes [.sessions] s (modSession s x1 x2) := by unfold modSession; exact (Changes.trans (Changes.refl _ _) (fun f hf => by cases f <;> first | (cases hf; done) | dsimp only [Piece.same]))

theorem abortXfer_changes (s : State) (x1 : BlockXfer) :
    Changes [.netPorts] s (abortXfer s x1) := by unfold abortXfer; exact (Changes.ite (Changes.refl _ _) (Changes.after (Changes.refl _ _) (hubFrame_changes _ _ _) rfl))

theorem closeXfers_changes (s : State) (x1 : (BlockXfer → Bool)) :
    Changes [.net, .fw] s (closeXfers s x1) := by unfold closeXfers; exact (Changes.trans (Changes.refl _ _) (fun f hf => by cases f <;> first | (cases hf; done) | dsimp only [Piece.same]))

theorem discardXfers_changes (s : State) (x1 : (BlockXfer → Bool)) :
    Changes [.net, .netPorts, .fw] s (discardXfers s x1) := by unfold discardXfers; exact (Changes.foldl (fun _ _ => (Changes.after (Changes.refl _ _) (abortXfer_changes _ _) rfl)) (Changes.after (Changes.refl _ _) (closeXfers_changes _ _) rfl))

theorem endSession_changes (s : State) (x1 : Nat) :
    Changes [.net, .netPorts, .sessions, .fw] s (endSession s x1) := by unfold endSession; exact (Changes.after (Changes.trans (Changes.refl _ _) (fun f hf => by cases f <;> first | (cases hf; done) | dsimp only [Piece.same])) (discardXfers_changes _ _) rfl)

theorem disarm_changes (s : State) :
    Changes [.parish] s (disarm s) := by unfold disarm; exact (Changes.after (Changes.refl _ _) (State.modPar_changes _ _ _) rfl)

theorem armViolation_changes (s : State) (x1 x2 x3 x4 : Nat) :
    Changes [.die, .stream, .parish, .reeve, .timers] s (armViolation s x1 x2 x3 x4) := by unfold armViolation; exact (Changes.after (Changes.refl _ _) (violation_changes _ _ _ _ _ _ _ _) rfl)

theorem stateReqAct_changes (s : State) (x1 x2 : Nat) :
    Changes [.parish, .reeve] s (stateReqAct s x1 x2) := by unfold stateReqAct; exact (Changes.ite (Changes.after (Changes.refl _ _) (decideState_changes _ _ _) rfl) (Changes.ite (Changes.ite (Changes.after (Changes.trans (Changes.refl _ _) (fun f hf => by cases f <;> first | (cases hf; done) | dsimp only [Piece.same])) (tryRun_changes _) rfl) (Changes.refl _ _)) (Changes.ite (Changes.after (Changes.refl _ _) (decideState_changes _ _ _) rfl) (Changes.refl _ _))))

theorem writeStateReq_changes (s : State) (x1 x2 : Nat) :
    Changes [.net, .parish, .reeve] s (writeStateReq s x1 x2) := by unfold writeStateReq; exact (Changes.ite (Changes.after (Changes.after (Changes.refl _ _) (stateReqAct_changes _ _ _) rfl) (withStatus_changes _ _) rfl) (Changes.after (Changes.refl _ _) (withStatus_changes _ _) rfl))

theorem endSessions_changes (s : State) (x1 : Nat) :
    Changes [.net, .netPorts, .sessions, .fw] s (endSessions s x1) := by unfold endSessions; exact (Changes.foldl (fun _ _ => (Changes.after (Changes.refl _ _) (endSession_changes _ _) rfl)) (Changes.refl _ _))

theorem keyAct_changes (s : State) (x1 : Nat) (x2 : List Byte) :
    Changes [.net, .netPorts, .sessions, .parish, .fw] s (keyAct s x1 x2) := by unfold keyAct; exact (by (try dsimp only); split; exacts [(Changes.after (Changes.refl _ _) (State.modPar_changes _ _ _) rfl), (Changes.after (Changes.after (Changes.refl _ _) (State.modPar_changes _ _ _) rfl) (endSessions_changes _ _) rfl)])

theorem armAct_changes (s : State) (x1 x2 : Nat) :
    Changes [.parish] s (armAct s x1 x2) := by unfold armAct; exact (Changes.after (Changes.refl _ _) (State.modPar_changes _ _ _) rfl)

theorem writeArm_changes (s : State) (x1 x2 : Nat) (x3 : Bool) :
    Changes [.net, .die, .stream, .parish, .reeve, .timers] s (writeArm s x1 x2 x3) := by unfold writeArm; exact (Changes.ite (Changes.after (Changes.after (Changes.refl _ _) (armAct_changes _ _ _) rfl) (withStatus_changes _ _) rfl) (Changes.after (Changes.after (Changes.refl _ _) (armViolation_changes _ _ _ _ _) rfl) (withStatus_changes _ _) rfl))

theorem failParishLoops_changes (s : State) (x1 : Nat) :
    Changes [.port, .twin] s (failParishLoops s x1) := by unfold failParishLoops; exact (Changes.ite (Changes.trans (Changes.trans (Changes.refl _ _) (fun f hf => by cases f <;> first | (cases hf; done) | dsimp only [Piece.same])) (fun f hf => by cases f <;> first | (cases hf; done) | dsimp only [Piece.same])) (Changes.trans (Changes.refl _ _) (fun f hf => by cases f <;> first | (cases hf; done) | dsimp only [Piece.same])))

theorem reloadOwners_changes (s : State) (x1 : Nat) :
    Changes [.reeve] s (reloadOwners s x1) := by unfold reloadOwners; exact (Changes.trans (Changes.refl _ _) (fun f hf => by cases f <;> first | (cases hf; done) | dsimp only [Piece.same]))

theorem reeveEnters_changes (s : State) (x1 x2 : Nat) : Changes [.die, .reeve] s (reeveEnters s x1 x2) := by
  unfold reeveEnters
  extract_lets s1
  have h : Changes [.die, .reeve] s s1 :=
    Changes.ite (fun f hf => by cases f <;> first | (cases hf; done) | rfl) (Changes.refl _ _)
  exact Changes.ite (h.trans (fun f hf => by cases f <;> first | (cases hf; done) | rfl)) h

theorem completeState_changes (s : State) (x1 : Nat) :
    Changes [.die, .port, .stream, .parish, .reeve, .twin, .power] s (completeState s x1) := by unfold completeState; exact (by (try dsimp only); split; exacts [(Changes.refl _ _), (Changes.ite (Changes.ite (Changes.after (Changes.after (Changes.after (Changes.trans (Changes.ite (Changes.after (Changes.ite (Changes.after (Changes.after (Changes.refl _ _) (State.modPar_changes _ _ _) rfl) (reloadOwners_changes _ _) rfl) (Changes.after (Changes.refl _ _) (State.modPar_changes _ _ _) rfl)) (failParishLoops_changes _ _) rfl) (Changes.ite (Changes.after (Changes.after (Changes.refl _ _) (State.modPar_changes _ _ _) rfl) (reloadOwners_changes _ _) rfl) (Changes.after (Changes.refl _ _) (State.modPar_changes _ _ _) rfl))) (fun f hf => by cases f <;> first | (cases hf; done) | dsimp only [Piece.same])) (reeveEnters_changes _ _ _) rfl) (soRefresh_changes _) rfl) (tryRun_changes _) rfl) (Changes.ite (Changes.after (Changes.ite (Changes.after (Changes.after (Changes.refl _ _) (State.modPar_changes _ _ _) rfl) (reloadOwners_changes _ _) rfl) (Changes.after (Changes.refl _ _) (State.modPar_changes _ _ _) rfl)) (failParishLoops_changes _ _) rfl) (Changes.ite (Changes.after (Changes.after (Changes.refl _ _) (State.modPar_changes _ _ _) rfl) (reloadOwners_changes _ _) rfl) (Changes.after (Changes.refl _ _) (State.modPar_changes _ _ _) rfl)))) (Changes.refl _ _))])

theorem haltPorts_changes (s : State) (x1 x2 : Nat) :
    Changes [.die, .port, .stream, .reeve] s (haltPorts s x1 x2) := by unfold haltPorts; exact (Changes.foldl (fun _ _ => (Changes.after (Changes.after (Changes.after (Changes.refl _ _) (stopEmitterItem_changes _ _) rfl) (writeVpOn_changes _ _ _) rfl) (State.modPort_changes _ _ _) rfl)) (Changes.refl _ _))

theorem haltOutputs_changes (s : State) (x1 x2 : Nat) :
    Changes [.die, .port, .engine, .stream, .rule, .tally, .row, .col, .parish, .reeve, .timers] s (haltOutputs s x1 x2) := by unfold haltOutputs; exact (Changes.foldl (fun _ _ => (Changes.ite (Changes.after (Changes.after (Changes.refl _ _) (unprimeRule_changes _ _ _ _) rfl) (afterRule_changes _ _ _ _) rfl) (Changes.refl _ _))) (Changes.foldl (fun _ _ => (Changes.ite (Changes.after (Changes.refl _ _) (setRow_changes _ _ _ _) rfl) (Changes.refl _ _))) (Changes.refl _ _)))

theorem haltContexts_changes (s : State) (x1 x2 : Nat) :
    Changes [.die, .port, .engine, .stream, .reeve] s (haltContexts s x1 x2) := by unfold haltContexts; exact (Changes.foldl (fun _ _ => (Changes.ite (Changes.foldl (fun _ _ => (Changes.after (Changes.refl _ _) (endCtx_changes _ _ _ _) rfl)) (Changes.refl _ _)) (Changes.refl _ _))) (Changes.refl _ _))

theorem enterOnDie_changes (s : State) (x1 x2 x3 : Nat) :
    Changes [.die, .port, .engine, .stream, .rule, .tally, .row, .col, .parish, .reeve, .timers] s (enterOnDie s x1 x2 x3) := by unfold enterOnDie; exact (Changes.ite (Changes.after (Changes.after (Changes.after (Changes.after (Changes.refl _ _) (switchCaptures_changes _ _ _) rfl) (haltPorts_changes _ _ _) rfl) (haltContexts_changes _ _ _) rfl) (haltOutputs_changes _ _ _) rfl) (Changes.after (Changes.refl _ _) (switchCaptures_changes _ _ _) rfl))

theorem takeState_changes (s : State) (x1 x2 : Nat) :
    Changes [.die, .port, .engine, .stream, .rule, .tally, .row, .col, .parish, .reeve, .timers, .twin, .power] s (takeState s x1 x2) := by unfold takeState; exact (by (try dsimp only); split; exacts [(Changes.refl _ _), (Changes.ite (Changes.refl _ _) (Changes.after (Changes.after (Changes.after (Changes.refl _ _) (State.modPar_changes _ _ _) rfl) (enterOnDie_changes _ _ _ _) rfl) (completeState_changes _ _) rfl))])

theorem execArmWindowExpiry_changes (s : State) :
    ChangesOnly [.parish] s (execArmWindowExpiry s) := by unfold execArmWindowExpiry; exact (ChangesOnly.next (Changes.given (Changes.refl _ _) (Changes.after (Changes.refl _ _) (State.modPar_changes _ _ _) rfl)))

theorem execStateReqRun_changes (x0 : Nat) (s : State) :
    ChangesOnly [.net, .parish, .reeve] s (execStateReqRun x0 s) := by unfold execStateReqRun; exact (ChangesOnly.next (Changes.given (Changes.after (Changes.refl _ _) (withStatus_changes _ _) rfl) (Changes.after (Changes.refl _ _) (writeStateReq_changes _ _ _) rfl)))

theorem execStateReqHalt_changes (x0 : Nat) (s : State) :
    ChangesOnly [.net, .parish, .reeve] s (execStateReqHalt x0 s) := by unfold execStateReqHalt; exact (ChangesOnly.next (Changes.given (Changes.after (Changes.refl _ _) (withStatus_changes _ _) rfl) (Changes.after (Changes.refl _ _) (writeStateReq_changes _ _ _) rfl)))

theorem execTestTimeExpiry_changes (x0 : Nat) (s : State) :
    ChangesOnly [.parish] s (execTestTimeExpiry x0 s) := by unfold execTestTimeExpiry; exact (ChangesOnly.withParish (Changes.given (Changes.refl _ _) (Changes.after (Changes.refl _ _) (decideState_changes _ _ _) rfl)))

theorem execKeyWrite_changes (x0 x1 : Nat) (x2 : List Byte) (s : State) :
    ChangesOnly [.net, .netPorts, .sessions, .parish, .fw] s (execKeyWrite x0 x1 x2 s) := by unfold execKeyWrite; exact (ChangesOnly.next (Changes.given (Changes.after (Changes.refl _ _) (withStatus_changes _ _) rfl) (Changes.ite (Changes.after (Changes.after (Changes.refl _ _) (keyAct_changes _ _ _) rfl) (withStatus_changes _ _) rfl) (Changes.after (Changes.refl _ _) (withStatus_changes _ _) rfl))))

theorem execSessionIdleExpiry_changes (x0 : Nat) (s : State) :
    ChangesOnly [.net, .netPorts, .sessions, .fw] s (execSessionIdleExpiry x0 s) := by unfold execSessionIdleExpiry; exact (ChangesOnly.next (by (try dsimp only); split; exacts [(Changes.refl _ _), (Changes.given (Changes.refl _ _) (Changes.after (Changes.refl _ _) (endSession_changes _ _) rfl))]))

theorem execOpenBlockExpiry_changes (x0 : Nat) (s : State) :
    ChangesOnly [.parish] s (execOpenBlockExpiry x0 s) := by unfold execOpenBlockExpiry; exact (ChangesOnly.withParish (Changes.given (Changes.refl _ _) (Changes.after (Changes.refl _ _) (State.modPar_changes _ _ _) rfl)))

theorem execArmReqWrite_changes (x0 x1 : Nat) (x2 : Bool) (s : State) :
    ChangesOnly [.net, .die, .stream, .parish, .reeve, .timers] s (execArmReqWrite x0 x1 x2 s) := by unfold execArmReqWrite; exact (ChangesOnly.next (Changes.after (Changes.refl _ _) (writeArm_changes _ _ _ _) rfl))

end Sys2Proof.Machine
end

