-- ==== Sys2Proof/Laws/Apply.lean ====
section
/-! SUPPORT. What each function of Sys2Proof/Machine/Apply.lean can change. -/

namespace Sys2Proof.Machine

theorem setRotas_changes (x0 : Nat) (x1 : List Nat) (s : State) :
    Changes [.die] s (setRotas x0 x1 s) := by unfold setRotas; exact (Changes.foldl (fun _ _ => (by (try dsimp only); split; exacts [(Changes.after (Changes.refl _ _) (State.modDie_changes _ _ _) rfl), (Changes.refl _ _)])) (Changes.refl _ _))

theorem powerRecord_changes (s : State) (x1 x2 x3 x4 : Nat) :
    Changes [.die, .stream, .parish, .timers] s (powerRecord s x1 x2 x3 x4) := by unfold powerRecord; exact (Changes.after (Changes.refl _ _) (ringEnter_changes _ _ _) rfl)

theorem loadRota_changes (s : State) (x1 : Nat) :
    Changes [.die] s (loadRota s x1) := by unfold loadRota; exact (Changes.ite (Changes.refl _ _) (Changes.after (Changes.refl _ _) (State.modDie_changes _ _ _) rfl))

theorem applyServo_changes (s : State) :
    Changes [.servo] s (applyServo s) := by unfold applyServo; exact (Changes.ite (Changes.trans (Changes.refl _ _) (fun f hf => by cases f <;> first | (cases hf; done) | dsimp only [Piece.same])) (by (try dsimp only); split; exacts [(Changes.trans (Changes.refl _ _) (fun f hf => by cases f <;> first | (cases hf; done) | dsimp only [Piece.same])), (Changes.ite (Changes.trans (Changes.refl _ _) (fun f hf => by cases f <;> first | (cases hf; done) | dsimp only [Piece.same])) (Changes.after (Changes.refl _ _) (newGrandmaster_changes _ _ _) rfl))]))

theorem voteFrames_changes (s : State) (x1 x2 : Nat) :
    Changes [.netPorts] s (voteFrames s x1 x2) := by unfold voteFrames; exact (Changes.foldl (fun _ _ => (Changes.ite (Changes.after (Changes.refl _ _) (hubFrame_changes _ _ _) rfl) (Changes.refl _ _))) (Changes.refl _ _))

theorem cancelVote_changes (s : State) :
    Changes [.net, .netPorts, .die, .stream, .parish, .timers] s (cancelVote s) := by unfold cancelVote; exact (Changes.ite (Changes.after (Changes.after (Changes.trans (Changes.trans (Changes.refl _ _) (fun f hf => by cases f <;> first | (cases hf; done) | dsimp only [Piece.same])) (fun f hf => by cases f <;> first | (cases hf; done) | dsimp only [Piece.same])) (voteFrames_changes _ _ _) rfl) (powerRecord_changes _ _ _ _ _) rfl) (Changes.trans (Changes.refl _ _) (fun f hf => by cases f <;> first | (cases hf; done) | dsimp only [Piece.same])))

theorem holdWindows_changes (x0 s : State) (x2 : List Nat) (x3 : Nat) :
    Changes [.netPorts] s (holdWindows x0 s x2 x3) := by unfold holdWindows; exact (Changes.ite (Changes.refl _ _) (Changes.after (Changes.refl _ _) (State.modNet_changes _ _ _) rfl))

theorem dropLink_changes (s : State) (x1 : List Nat) (x2 : Nat) :
    Changes [.netPorts] s (dropLink s x1 x2) := by unfold dropLink; exact (Changes.ite (Changes.after (Changes.refl _ _) (State.modNet_changes _ _ _) rfl) (Changes.refl _ _))

theorem applyTwin_changes (x0 s : State) :
    Changes [.twin] s (applyTwin x0 s) := by unfold applyTwin; exact (Changes.ite (Changes.refl _ _) (Changes.ite (Changes.trans (Changes.refl _ _) (fun f hf => by cases f <;> first | (cases hf; done) | dsimp only [Piece.same])) (Changes.trans (Changes.refl _ _) (fun f hf => by cases f <;> first | (cases hf; done) | dsimp only [Piece.same]))))

theorem applyPackageKeys_changes (x0 s : State) (x2 : List Nat) :
    Changes [.time, .servo, .ptp, .net, .netPorts, .die, .stream, .parish, .reeve, .timers, .twin] s (applyPackageKeys x0 s x2) := by unfold applyPackageKeys; exact (Changes.after (Changes.after (Changes.foldl (fun _ _ => (Changes.after (Changes.after (Changes.refl _ _) (dropLink_changes _ _ _) rfl) (holdWindows_changes _ _ _ _) rfl)) (Changes.ite (Changes.after (Changes.ite (Changes.after (Changes.foldl (fun _ _ => (Changes.after (Changes.refl _ _) (ptpStart_changes _ _) rfl)) (Changes.ite (Changes.trans (Changes.refl _ _) (fun f hf => by cases f <;> first | (cases hf; done) | dsimp only [Piece.same])) (Changes.refl _ _))) (applyServo_changes _) rfl) (Changes.ite (Changes.trans (Changes.refl _ _) (fun f hf => by cases f <;> first | (cases hf; done) | dsimp only [Piece.same])) (Changes.refl _ _))) (cancelVote_changes _) rfl) (Changes.ite (Changes.after (Changes.foldl (fun _ _ => (Changes.after (Changes.refl _ _) (ptpStart_changes _ _) rfl)) (Changes.ite (Changes.trans (Changes.refl _ _) (fun f hf => by cases f <;> first | (cases hf; done) | dsimp only [Piece.same])) (Changes.refl _ _))) (applyServo_changes _) rfl) (Changes.ite (Changes.trans (Changes.refl _ _) (fun f hf => by cases f <;> first | (cases hf; done) | dsimp only [Piece.same])) (Changes.refl _ _))))) (applyTwin_changes _ _) rfl) (soRefresh_changes _) rfl)

theorem growRegion_changes (s : State) (x1 x2 : Nat) :
    Changes [.die] s (growRegion s x1 x2) := by unfold growRegion; exact (Changes.after (Changes.refl _ _) (State.modRegion_changes _ _ _ _) rfl)

theorem shrinkRegion_changes (s : State) (x1 x2 : Nat) :
    Changes [.die] s (shrinkRegion s x1 x2) := by unfold shrinkRegion; exact (Changes.after (Changes.refl _ _) (State.modRegion_changes _ _ _ _) rfl)

theorem applyLogBlocks_changes (s : State) (x1 : Nat) :
    Changes [.die] s (applyLogBlocks s x1) := by unfold applyLogBlocks; exact (Changes.foldl (fun _ _ => (Changes.after (Changes.refl _ _) (growRegion_changes _ _ _) rfl)) (Changes.foldl (fun _ _ => (Changes.after (Changes.refl _ _) (shrinkRegion_changes _ _ _) rfl)) (Changes.refl _ _)))

theorem clearStream_changes (s : State) (x1 : Nat) :
    Changes [.stream] s (clearStream s x1) := by unfold clearStream; exact (Changes.after (Changes.refl _ _) (State.modStream_changes _ _ _) rfl)

theorem bankMoves_changes (x0 s : State) (x2 : Nat) :
    Changes [.stream] s (bankMoves x0 s x2) := by unfold bankMoves; exact (Changes.foldl (fun _ _ => (Changes.after (Changes.refl _ _) (clearStream_changes _ _) rfl)) (Changes.refl _ _))

theorem ownerMoves_changes (x0 s : State) (x2 : Nat) :
    Changes [.port] s (ownerMoves x0 s x2) := by unfold ownerMoves; exact (Changes.trans (Changes.refl _ _) (fun f hf => by cases f <;> first | (cases hf; done) | dsimp only [Piece.same]))

theorem takeOwnership_changes (x0 s : State) (x2 : Nat) :
    Changes [.die, .port, .stream] s (takeOwnership x0 s x2) := by unfold takeOwnership; exact (Changes.after (Changes.after (Changes.after (Changes.refl _ _) (ownerMoves_changes _ _ _) rfl) (bankMoves_changes _ _ _) rfl) (applyLogBlocks_changes _ _) rfl)

theorem enterTest_changes (s : State) (x1 : Nat) :
    Changes [.parish] s (enterTest s x1) := by unfold enterTest; exact (Changes.ite (Changes.after (Changes.refl _ _) (State.modPar_changes _ _ _) rfl) (Changes.refl _ _))

theorem applyEngine_changes (s : State) (x1 : Nat) :
    Changes [.die, .port, .engine, .stream, .reeve] s (applyEngine s x1) := by unfold applyEngine; exact (Changes.after (Changes.after (Changes.foldl (fun _ _ => (Changes.after (Changes.refl _ _) (endCtx_changes _ _ _ _) rfl)) (Changes.refl _ _)) (State.modEng_changes _ _ _) rfl) (State.modDie_changes _ _ _) rfl)

theorem applyMills_changes (s : State) (x1 : Nat) (x2 : List Nat) :
    Changes [.die, .mill] s (applyMills s x1 x2) := by unfold applyMills; exact (Changes.ite (Changes.foldl (fun _ _ => (Changes.ite (Changes.after (Changes.refl _ _) (State.modMill_changes _ _ _) rfl) (Changes.after (Changes.refl _ _) (State.modMill_changes _ _ _) rfl))) (Changes.refl _ _)) (Changes.after (Changes.foldl (fun _ _ => (Changes.ite (Changes.after (Changes.refl _ _) (State.modMill_changes _ _ _) rfl) (Changes.after (Changes.refl _ _) (State.modMill_changes _ _ _) rfl))) (Changes.refl _ _)) (State.modDie_changes _ _ _) rfl))

theorem applyMode_changes (s : State) (x1 : Nat) :
    Changes [.die, .port, .stream, .reeve] s (applyMode s x1) := by unfold applyMode; exact (Changes.ite (Changes.refl _ _) (Changes.after (Changes.after (Changes.after (Changes.refl _ _) (stopEmitterItem_changes _ _) rfl) (State.modDie_changes _ _ _) rfl) (State.modPort_changes _ _ _) rfl))

theorem applyPort_changes (x0 s : State) (x2 : Nat) (x3 : List Nat) :
    Changes [.die, .port, .stream, .reeve] s (applyPort x0 s x2 x3) := by unfold applyPort; exact (Changes.ite (Changes.refl _ _) (Changes.after (Changes.ite (Changes.after (Changes.after (Changes.ite (Changes.after (Changes.after (Changes.refl _ _) (writeVpOn_changes _ _ _) rfl) (State.modPort_changes _ _ _) rfl) (Changes.refl _ _)) (State.modPort_changes _ _ _) rfl) (windowFollows_changes _ _ _) rfl) (Changes.after (Changes.ite (Changes.after (Changes.after (Changes.refl _ _) (writeVpOn_changes _ _ _) rfl) (State.modPort_changes _ _ _) rfl) (Changes.refl _ _)) (State.modPort_changes _ _ _) rfl)) (applyMode_changes _ _) rfl))

theorem swapRota_changes (s : State) (x1 : Nat) :
    Changes [.die] s (swapRota s x1) := by unfold swapRota; exact (Changes.after (Changes.refl _ _) (State.modDie_changes _ _ _) rfl)

theorem applyDieKeys_changes (x0 s : State) (x2 : Nat) (x3 : List Nat) :
    Changes [.die, .port, .engine, .stream, .mill, .rule, .tally, .row, .col, .parish, .reeve, .timers] s (applyDieKeys x0 s x2 x3) := by unfold applyDieKeys; exact (Changes.after (Changes.after (Changes.ite (Changes.after (Changes.foldl (fun _ _ => (Changes.after (Changes.refl _ _) (applyPort_changes _ _ _ _) rfl)) (Changes.foldl (fun _ _ => (Changes.ite (Changes.refl _ _) (Changes.after (Changes.refl _ _) (clearStream_changes _ _) rfl))) (Changes.ite (Changes.foldl (fun _ _ => (Changes.after (Changes.refl _ _) (applyTally_changes _ _) rfl)) (Changes.foldl (fun _ _ => (Changes.ite (Changes.refl _ _) (Changes.after (Changes.refl _ _) (applyRule_changes _ _ _) rfl))) (Changes.after (Changes.foldl (fun _ _ => (Changes.after (Changes.refl _ _) (applyEngine_changes _ _) rfl)) (Changes.refl _ _)) (applyMills_changes _ _ _) rfl))) (Changes.after (Changes.foldl (fun _ _ => (Changes.ite (Changes.after (Changes.refl _ _) (State.modRow_changes _ _ _) rfl) (Changes.after (Changes.refl _ _) (State.modCol_changes _ _ _) rfl))) (Changes.foldl (fun _ _ => (Changes.after (Changes.refl _ _) (applyTally_changes _ _) rfl)) (Changes.foldl (fun _ _ => (Changes.ite (Changes.refl _ _) (Changes.after (Changes.refl _ _) (applyRule_changes _ _ _) rfl))) (Changes.after (Changes.foldl (fun _ _ => (Changes.after (Changes.refl _ _) (applyEngine_changes _ _) rfl)) (Changes.refl _ _)) (applyMills_changes _ _ _) rfl)))) (applyMatrix_changes _ _) rfl)))) (swapRota_changes _ _) rfl) (Changes.foldl (fun _ _ => (Changes.after (Changes.refl _ _) (applyPort_changes _ _ _ _) rfl)) (Changes.foldl (fun _ _ => (Changes.ite (Changes.refl _ _) (Changes.after (Changes.refl _ _) (clearStream_changes _ _) rfl))) (Changes.ite (Changes.foldl (fun _ _ => (Changes.after (Changes.refl _ _) (applyTally_changes _ _) rfl)) (Changes.foldl (fun _ _ => (Changes.ite (Changes.refl _ _) (Changes.after (Changes.refl _ _) (applyRule_changes _ _ _) rfl))) (Changes.after (Changes.foldl (fun _ _ => (Changes.after (Changes.refl _ _) (applyEngine_changes _ _) rfl)) (Changes.refl _ _)) (applyMills_changes _ _ _) rfl))) (Changes.after (Changes.foldl (fun _ _ => (Changes.ite (Changes.after (Changes.refl _ _) (State.modRow_changes _ _ _) rfl) (Changes.after (Changes.refl _ _) (State.modCol_changes _ _ _) rfl))) (Changes.foldl (fun _ _ => (Changes.after (Changes.refl _ _) (applyTally_changes _ _) rfl)) (Changes.foldl (fun _ _ => (Changes.ite (Changes.refl _ _) (Changes.after (Changes.refl _ _) (applyRule_changes _ _ _) rfl))) (Changes.after (Changes.foldl (fun _ _ => (Changes.after (Changes.refl _ _) (applyEngine_changes _ _) rfl)) (Changes.refl _ _)) (applyMills_changes _ _ _) rfl)))) (applyMatrix_changes _ _) rfl))))) (State.modDie_changes _ _ _) rfl) (soRefresh_changes _) rfl)

theorem bootRefuse_changes (s : State) (x1 : Nat) :
    Changes [.die] s (bootRefuse s x1) := by unfold bootRefuse; exact (by (try dsimp only); split; exacts [(by (try dsimp only); split; exacts [(Changes.after (Changes.refl _ _) (State.modDie_changes _ _ _) rfl), (Changes.refl _ _)]), (Changes.after (Changes.refl _ _) (State.modDie_changes _ _ _) rfl), (Changes.after (Changes.refl _ _) (State.modDie_changes _ _ _) rfl), (Changes.refl _ _)])

theorem bootDie_changes (s : State) (x1 : Nat) :
    Changes [.die, .port, .engine, .stream, .mill, .rule, .tally, .row, .col, .parish, .conf, .reeve, .timers] s (bootDie s x1) := by unfold bootDie; exact (Changes.after (Changes.foldl (fun _ _ => (Changes.after (Changes.refl _ _) (bootRefuse_changes _ _) rfl)) (Changes.refl _ _)) (applyDieKeys_changes _ _ _ _) rfl)

theorem bootPackage_changes (s : State) :
    Changes [.time, .servo, .ptp, .net, .netPorts, .die, .port, .engine, .stream, .mill, .rule, .tally, .row, .col, .parish, .conf, .reeve, .timers, .twin] s (bootPackage s) := by unfold bootPackage; exact (Changes.ite (Changes.refl _ _) (Changes.after (Changes.ite (Changes.after (Changes.foldl (fun _ _ => (Changes.after (Changes.after (Changes.refl _ _) (bootDie_changes _ _) rfl) (State.modDie_changes _ _ _) rfl)) (Changes.foldl (fun _ _ => (Changes.after (Changes.refl _ _) (ptpStart_changes _ _) rfl)) (Changes.foldl (fun _ _ => (Changes.after (Changes.refl _ _) (enterTest_changes _ _) rfl)) (Changes.foldl (fun _ _ => (Changes.after (Changes.refl _ _) (takeOwnership_changes _ _ _) rfl)) (Changes.foldl (fun _ _ => (Changes.after (Changes.refl _ _) (State.modDie_changes _ _ _) rfl)) (Changes.after (Changes.trans (Changes.foldl (fun _ _ => (Changes.after (Changes.refl _ _) (loadRota_changes _ _) rfl)) (Changes.refl _ _)) (fun f hf => by cases f <;> first | (cases hf; done) | dsimp only [Piece.same])) (applyPackageKeys_changes _ _ _) rfl)))))) (applyServo_changes _) rfl) (Changes.foldl (fun _ _ => (Changes.after (Changes.after (Changes.refl _ _) (bootDie_changes _ _) rfl) (State.modDie_changes _ _ _) rfl)) (Changes.foldl (fun _ _ => (Changes.after (Changes.refl _ _) (ptpStart_changes _ _) rfl)) (Changes.foldl (fun _ _ => (Changes.after (Changes.refl _ _) (enterTest_changes _ _) rfl)) (Changes.foldl (fun _ _ => (Changes.after (Changes.refl _ _) (takeOwnership_changes _ _ _) rfl)) (Changes.foldl (fun _ _ => (Changes.after (Changes.refl _ _) (State.modDie_changes _ _ _) rfl)) (Changes.after (Changes.trans (Changes.foldl (fun _ _ => (Changes.after (Changes.refl _ _) (loadRota_changes _ _) rfl)) (Changes.refl _ _)) (fun f hf => by cases f <;> first | (cases hf; done) | dsimp only [Piece.same])) (applyPackageKeys_changes _ _ _) rfl))))))) (soRefresh_changes _) rfl))

theorem restart_changes (s : State) :
    Changes Piece.restarted s (restart s) := by unfold restart; exact (Changes.ite (Changes.refl _ _) (Changes.after (Changes.after (Changes.refl _ _) (startUp_changes _) rfl) (bootPackage_changes _) rfl))

theorem moveKeys_changes (s : State) (x1 : List Nat) :
    Changes [.conf] s (moveKeys s x1) := by unfold moveKeys; exact (Changes.trans (Changes.refl _ _) (fun f hf => by cases f <;> first | (cases hf; done) | dsimp only [Piece.same]))

theorem portsApply_changes (s : State) (x1 : Nat) :
    Changes [.die, .port, .stream, .conf, .commit, .reeve] s (portsApply s x1) := by unfold portsApply; exact (Changes.foldl (fun _ _ => (Changes.ite (Changes.refl _ _) (Changes.trans (Changes.after (Changes.after (Changes.refl _ _) (moveKeys_changes _ _) rfl) (applyPort_changes _ _ _ _) rfl) (fun f hf => by cases f <;> first | (cases hf; done) | dsimp only [Piece.same])))) (Changes.refl _ _))

theorem holdOwn_changes (s : State) :
    Changes [.die] s (holdOwn s) := by unfold holdOwn; exact (Changes.ite (Changes.foldl (fun _ _ => (Changes.after (Changes.refl _ _) (State.modDie_changes _ _ _) rfl)) (Changes.refl _ _)) (Changes.refl _ _))

theorem packageApply_changes (s : State) :
    Changes [.time, .servo, .ptp, .net, .netPorts, .die, .stream, .parish, .conf, .commit, .reeve, .timers, .twin] s (packageApply s) := by unfold packageApply; exact (Changes.ite (Changes.trans (Changes.foldl (fun _ _ => (Changes.after (Changes.refl _ _) (enterTest_changes _ _) rfl)) (Changes.after (Changes.after (Changes.after (Changes.refl _ _) (holdOwn_changes _) rfl) (moveKeys_changes _ _) rfl) (applyPackageKeys_changes _ _ _) rfl)) (fun f hf => by cases f <;> first | (cases hf; done) | dsimp only [Piece.same])) (Changes.refl _ _))

theorem nameMoves_changes (x0 s : State) (x2 : Nat) :
    Changes [.die, .port, .stream, .reeve] s (nameMoves x0 s x2) := by unfold nameMoves; exact (Changes.foldl (fun _ _ => (Changes.after (Changes.refl _ _) (clearStream_changes _ _) rfl)) (Changes.foldl (fun _ _ => (Changes.after (Changes.ite (Changes.refl _ _) (Changes.after (Changes.refl _ _) (writeVpOn_changes _ _ _) rfl)) (applyPort_changes _ _ _ _) rfl)) (Changes.refl _ _)))

theorem releaseOwn_changes (s : State) (x1 : Nat) :
    Changes [.die] s (releaseOwn s x1) := by unfold releaseOwn; exact (Changes.ite (Changes.refl _ _) (Changes.after (Changes.refl _ _) (State.modDie_changes _ _ _) rfl))

theorem commitSettle_changes (s : State) :
    Changes [.die, .pend, .commit] s (commitSettle s) := by unfold commitSettle; exact (Changes.ite (Changes.ite (Changes.trans (Changes.foldl (fun _ _ => (Changes.after (Changes.refl _ _) (releaseOwn_changes _ _) rfl)) (Changes.refl _ _)) (fun f hf => by cases f <;> first | (cases hf; done) | dsimp only [Piece.same])) (Changes.trans (Changes.foldl (fun _ _ => (Changes.after (Changes.refl _ _) (releaseOwn_changes _ _) rfl)) (Changes.refl _ _)) (fun f hf => by cases f <;> first | (cases hf; done) | dsimp only [Piece.same]))) (Changes.refl _ _))

theorem dieApply_changes (s : State) (x1 : Nat) :
    Changes [.time, .servo, .ptp, .net, .netPorts, .die, .port, .engine, .stream, .mill, .rule, .tally, .row, .col, .parish, .conf, .pend, .commit, .reeve, .timers, .twin] s (dieApply s x1) := by unfold dieApply; exact (Changes.after (Changes.after (Changes.ite (Changes.trans (Changes.after (Changes.after (Changes.ite (Changes.after (Changes.after (Changes.after (Changes.after (Changes.refl _ _) (packageApply_changes _) rfl) (releaseOwn_changes _ _) rfl) (takeOwnership_changes _ _ _) rfl) (nameMoves_changes _ _ _) rfl) (Changes.after (Changes.refl _ _) (packageApply_changes _) rfl)) (moveKeys_changes _ _) rfl) (applyDieKeys_changes _ _ _ _) rfl) (fun f hf => by cases f <;> first | (cases hf; done) | dsimp only [Piece.same])) (Changes.after (Changes.refl _ _) (packageApply_changes _) rfl)) (portsApply_changes _ _) rfl) (commitSettle_changes _) rfl)

theorem pointRecord_changes (s : State) (x1 : Nat) :
    Changes [.die, .stream, .parish, .timers] s (pointRecord s x1) := by unfold pointRecord; exact (by (try dsimp only); split; exacts [(Changes.refl _ _), (Changes.after (Changes.after (Changes.refl _ _) (State.modDie_changes _ _ _) rfl) (powerRecord_changes _ _ _ _ _) rfl)])

theorem beginFrame_changes (s : State) (x1 : Nat) :
    Changes [.die] s (beginFrame s x1) := by unfold beginFrame; exact (Changes.ite (Changes.after (Changes.refl _ _) (State.modDie_changes _ _ _) rfl) (Changes.after (Changes.refl _ _) (State.modDie_changes _ _ _) rfl))

theorem startAnchor_changes (s : State) (x1 : Nat) :
    Changes [.startAnchor, .servo, .die, .port, .engine, .stream, .mill, .rule, .tally, .row, .col, .parish, .conf, .reeve, .timers] s (startAnchor s x1) := by unfold startAnchor; exact (Changes.ite (Changes.refl _ _) (Changes.after (Changes.trans (Changes.ite (Changes.ite (Changes.after (Changes.refl _ _) (applyServo_changes _) rfl) (Changes.refl _ _)) (Changes.after (Changes.after (Changes.ite (Changes.after (Changes.refl _ _) (applyServo_changes _) rfl) (Changes.refl _ _)) (bootDie_changes _ _) rfl) (State.modDie_changes _ _ _) rfl)) (fun f hf => by cases f <;> first | (cases hf; done) | dsimp only [Piece.same])) (ringEnter_changes _ _ _) rfl))

theorem turnBank_changes (s : State) (x1 : Nat) :
    Changes [.die] s (turnBank s x1) := by unfold turnBank; exact (by (try dsimp only); split; exacts [(Changes.refl _ _), (Changes.after (Changes.refl _ _) (State.modDie_changes _ _ _) rfl)])

theorem failoverSwap_changes (s : State) (x1 : Nat) :
    Changes [.die] s (failoverSwap s x1) := by unfold failoverSwap; exact (Changes.ite (Changes.after (Changes.refl _ _) (State.modDie_changes _ _ _) rfl) (Changes.refl _ _))

theorem boundary_changes (s : State) (x1 : Nat) :
    Changes [.startAnchor, .time, .servo, .ptp, .net, .netPorts, .die, .port, .engine, .stream, .mill, .rule, .tally, .row, .col, .parish, .conf, .pend, .commit, .reeve, .timers, .twin, .power] s (boundary s x1) := by unfold boundary; exact (Changes.after (Changes.foldl (fun _ _ => (Changes.ite (Changes.after (Changes.refl _ _) (takeState_changes _ _ _) rfl) (Changes.refl _ _))) (Changes.after (Changes.ite (Changes.after (Changes.after (Changes.after (Changes.after (Changes.refl _ _) (State.modDie_changes _ _ _) rfl) (turnBank_changes _ _) rfl) (startAnchor_changes _ _) rfl) (dieApply_changes _ _) rfl) (Changes.after (Changes.after (Changes.after (Changes.refl _ _) (State.modDie_changes _ _ _) rfl) (turnBank_changes _ _) rfl) (startAnchor_changes _ _) rfl)) (failoverSwap_changes _ _) rfl)) (State.modDie_changes _ _ _) rfl)

theorem execCommitDieApply_changes (x0 : Nat) (s : State) :
    ChangesOnly [.time, .servo, .ptp, .net, .netPorts, .die, .port, .engine, .stream, .mill, .rule, .tally, .row, .col, .parish, .conf, .pend, .commit, .reeve, .timers, .twin] s (execCommitDieApply x0 s) := by unfold execCommitDieApply; exact (ChangesOnly.withDie (Changes.ite (Changes.given (Changes.refl _ _) (Changes.ite (Changes.after (Changes.refl _ _) (dieApply_changes _ _) rfl) (Changes.after (Changes.after (Changes.after (Changes.refl _ _) (packageApply_changes _) rfl) (portsApply_changes _ _) rfl) (commitSettle_changes _) rfl))) (Changes.given (Changes.refl _ _) (Changes.after (Changes.after (Changes.refl _ _) (packageApply_changes _) rfl) (commitSettle_changes _) rfl))))

end Sys2Proof.Machine
end

