-- ==== Sys2Proof/Laws/Twin.lean ====
section
/-! SUPPORT. What each function of Sys2Proof/Machine/Twin.lean can change. -/

namespace Sys2Proof.Machine

theorem latchAct_changes (s : State) :
    Changes [.die, .stream, .parish, .reeve] s (latchAct s) := by unfold latchAct; exact (Changes.after (Changes.ite (Changes.after (Changes.trans (Changes.refl _ _) (fun f hf => by cases f <;> first | (cases hf; done) | dsimp only [Piece.same])) (State.modPar_changes _ _ _) rfl) (Changes.trans (Changes.refl _ _) (fun f hf => by cases f <;> first | (cases hf; done) | dsimp only [Piece.same]))) (soRefresh_changes _) rfl)

theorem writeLatchReset_changes (s : State) (x1 x2 : Nat) :
    Changes [.net, .die, .stream, .parish, .reeve, .timers] s (writeLatchReset s x1 x2) := by unfold writeLatchReset; exact (Changes.ite (Changes.after (Changes.after (Changes.refl _ _) (latchAct_changes _) rfl) (withStatus_changes _ _) rfl) (Changes.after (Changes.ite (Changes.after (Changes.refl _ _) (armViolation_changes _ _ _ _ _) rfl) (Changes.refl _ _)) (withStatus_changes _ _) rfl))

theorem haltEngine_changes (s : State) (x1 : Nat) (x2 : Bool) :
    Changes [.die, .port, .engine, .stream, .parish, .reeve] s (haltEngine s x1 x2) := by unfold haltEngine; exact (by (try dsimp only); split; exacts [(Changes.after (Changes.after (Changes.foldl (fun _ _ => (Changes.after (Changes.refl _ _) (endCtx_changes _ _ _ _) rfl)) (Changes.refl _ _)) (State.modEng_changes _ _ _) rfl) (parishRecover_changes _ _ _) rfl), (Changes.after (Changes.foldl (fun _ _ => (Changes.after (Changes.refl _ _) (endCtx_changes _ _ _ _) rfl)) (Changes.refl _ _)) (State.modEng_changes _ _ _) rfl)])

theorem retireEngine_changes (s : State) (x1 : Nat) :
    Changes [.die, .port, .engine, .stream, .parish, .reeve, .timers] s (retireEngine s x1) := by unfold retireEngine; exact (Changes.after (Changes.after (Changes.refl _ _) (haltEngine_changes _ _ _) rfl) (requestReason_changes _ _ _) rfl)

theorem writeRetire_changes (s : State) (x1 : Nat) :
    Changes [.net, .die, .port, .engine, .stream, .parish, .reeve, .timers] s (writeRetire s x1) := by unfold writeRetire; exact (Changes.ite (Changes.after (Changes.refl _ _) (withStatus_changes _ _) rfl) (Changes.after (Changes.after (Changes.refl _ _) (retireEngine_changes _ _) rfl) (withStatus_changes _ _) rfl))

theorem helloWord_changes (s : State) (x1 : TwinWord) :
    Changes [.die, .stream, .parish, .reeve, .timers, .twin] s (helloWord s x1) := by unfold helloWord; exact (Changes.ite (Changes.refl _ _) (Changes.ite (Changes.ite (Changes.trans (Changes.refl _ _) (fun f hf => by cases f <;> first | (cases hf; done) | dsimp only [Piece.same])) (Changes.ite (Changes.after (Changes.after (Changes.trans (Changes.trans (Changes.refl _ _) (fun f hf => by cases f <;> first | (cases hf; done) | dsimp only [Piece.same])) (fun f hf => by cases f <;> first | (cases hf; done) | dsimp only [Piece.same])) (soRefresh_changes _) rfl) (tryRun_changes _) rfl) (Changes.ite (Changes.after (Changes.trans (Changes.trans (Changes.refl _ _) (fun f hf => by cases f <;> first | (cases hf; done) | dsimp only [Piece.same])) (fun f hf => by cases f <;> first | (cases hf; done) | dsimp only [Piece.same])) (soRefresh_changes _) rfl) (Changes.trans (Changes.refl _ _) (fun f hf => by cases f <;> first | (cases hf; done) | dsimp only [Piece.same]))))) (Changes.ite (Changes.trans (Changes.refl _ _) (fun f hf => by cases f <;> first | (cases hf; done) | dsimp only [Piece.same])) (Changes.after (Changes.trans (Changes.trans (Changes.refl _ _) (fun f hf => by cases f <;> first | (cases hf; done) | dsimp only [Piece.same])) (fun f hf => by cases f <;> first | (cases hf; done) | dsimp only [Piece.same])) (raiseFault_changes _ _ _ _ _ _ _ _) rfl))))

theorem unpair_changes (s : State) (x1 : Nat) :
    Changes [.die, .stream, .reeve, .twin] s (unpair s x1) := by unfold unpair; exact (Changes.after (Changes.trans (Changes.refl _ _) (fun f hf => by cases f <;> first | (cases hf; done) | dsimp only [Piece.same])) (soRefresh_changes _) rfl)

theorem execRetireEngine_changes (x0 : Nat) (s : State) :
    ChangesOnly [.net, .die, .port, .engine, .stream, .parish, .reeve, .timers] s (execRetireEngine x0 s) := by unfold execRetireEngine; exact (ChangesOnly.next (Changes.after (Changes.refl _ _) (writeRetire_changes _ _) rfl))

theorem badWord_changes (s : State) (x1 : Option Nat) :
    Changes [.twin] s (badWord s x1) := by unfold badWord; exact (Changes.trans (Changes.refl _ _) (fun f hf => by cases f <;> first | (cases hf; done) | dsimp only [Piece.same]))

theorem compareWord_changes (s : State) (x1 : TwinWord) :
    Changes [.die, .stream, .parish, .reeve, .timers, .twin] s (compareWord s x1) := by unfold compareWord; exact (Changes.ite (Changes.refl _ _) (Changes.ite (Changes.after (Changes.ite (Changes.after (Changes.trans (Changes.refl _ _) (fun f hf => by cases f <;> first | (cases hf; done) | dsimp only [Piece.same])) (raiseFault_changes _ _ _ _ _ _ _ _) rfl) (Changes.trans (Changes.refl _ _) (fun f hf => by cases f <;> first | (cases hf; done) | dsimp only [Piece.same]))) (raiseFault_changes _ _ _ _ _ _ _ _) rfl) (Changes.ite (Changes.after (Changes.trans (Changes.refl _ _) (fun f hf => by cases f <;> first | (cases hf; done) | dsimp only [Piece.same])) (raiseFault_changes _ _ _ _ _ _ _ _) rfl) (Changes.trans (Changes.refl _ _) (fun f hf => by cases f <;> first | (cases hf; done) | dsimp only [Piece.same])))))

theorem takeWord_changes {l : List Piece} {s : State} {w : TwinWord} {act : State → State}
    (h : ∀ x, Changes l x (act x)) (hl : ([.die, .stream, .parish, .reeve, .timers, .twin] : List Piece).all (fun f => l.contains f) = true) :
    Changes l s (takeWord s w act) := by
  have hb : Changes [.die, .stream, .parish, .reeve, .timers, .twin] s (if wordInvalid s w then badWord s (some (w.seq % 65536))
      else compareWord { s with twin := { s.twin with rxSeq := some (w.seq % 65536), heardAt := s.ticks } } w) :=
    Changes.ite (Changes.after (Changes.refl _ _) (badWord_changes _ _) rfl)
      (Changes.after (Changes.trans (Changes.refl _ _) (fun f hf => by cases f <;> first | (cases hf; done) | dsimp only [Piece.same]))
        (compareWord_changes _ _) rfl)
  have hs := Changes.after (Changes.refl l s) hb hl
  unfold takeWord
  refine Changes.given (Changes.refl _ _) ?_
  split
  · rename_i hw
    simpa [hw] using hs
  · rename_i hw
    refine Changes.trans ?_ (h _)
    simpa [hw] using hs

theorem execTwinDetach_changes (x0 : TwinWord) (s : State) :
    ChangesOnly [.die, .stream, .parish, .reeve, .timers, .twin] s (execTwinDetach x0 s) := by unfold execTwinDetach; exact (ChangesOnly.next (takeWord_changes (fun _ => (Changes.after (Changes.refl _ _) (unpair_changes _ _) rfl)) rfl))

theorem execTwinRest_changes (x0 : TwinWord) (s : State) :
    ChangesOnly [.die, .stream, .parish, .reeve, .timers, .twin] s (execTwinRest x0 s) := by unfold execTwinRest; exact (ChangesOnly.next (takeWord_changes (fun _ => (Changes.ite (Changes.after (Changes.refl _ _) (unpair_changes _ _) rfl) (Changes.refl _ _))) rfl))

theorem execTwinWordSend_changes (s : State) :
    ChangesOnly [.twin] s (execTwinWordSend s) := by unfold execTwinWordSend; exact (ChangesOnly.next (Changes.given (Changes.refl _ _) (by (try dsimp only); split; exacts [(Changes.refl _ _), (Changes.trans (Changes.refl _ _) (fun f hf => by cases f <;> first | (cases hf; done) | dsimp only [Piece.same]))])))

theorem execTwinLost_changes (s : State) :
    ChangesOnly [.die, .stream, .parish, .reeve, .timers, .twin] s (execTwinLost s) := by unfold execTwinLost; exact (ChangesOnly.next (Changes.given (Changes.refl _ _) (Changes.after (Changes.after (Changes.trans (Changes.refl _ _) (fun f hf => by cases f <;> first | (cases hf; done) | dsimp only [Piece.same])) (soRefresh_changes _) rfl) (raiseFault_changes _ _ _ _ _ _ _ _) rfl)))

theorem execTwinVerdict_changes (x0 : TwinWord) (s : State) :
    ChangesOnly [.die, .stream, .parish, .reeve, .timers, .twin] s (execTwinVerdict x0 s) := by
  unfold execTwinVerdict
  exact ChangesOnly.next (takeWord_changes (fun _ => Changes.refl _ _) rfl)

theorem execLatchReset_changes (x0 : Nat) (s : State) :
    ChangesOnly [.net, .die, .stream, .parish, .reeve, .timers] s (execLatchReset x0 s) := by unfold execLatchReset; exact (ChangesOnly.next (Changes.after (Changes.refl _ _) (writeLatchReset_changes _ _ _) rfl))

theorem execTwinHello_changes (x0 : TwinWord) (s : State) :
    ChangesOnly [.die, .stream, .parish, .reeve, .timers, .twin] s (execTwinHello x0 s) := by unfold execTwinHello; exact (ChangesOnly.next (takeWord_changes (fun _ => (Changes.after (Changes.refl _ _) (helloWord_changes _ _) rfl)) rfl))

theorem execTwinWordInvalid_changes (s : State) :
    ChangesOnly [.twin] s (execTwinWordInvalid s) := by unfold execTwinWordInvalid; exact (ChangesOnly.next (Changes.given (Changes.refl _ _) (Changes.after (Changes.refl _ _) (badWord_changes _ _) rfl)))

theorem execLostRqTimeExpiry_changes (s : State) :
    ChangesOnly [.die, .stream, .parish, .reeve, .timers] s (execLostRqTimeExpiry s) := by unfold execLostRqTimeExpiry; exact (ChangesOnly.next (Changes.given (Changes.refl _ _) (Changes.after (Changes.refl _ _) (requestReason_changes _ _ _) rfl)))

end Sys2Proof.Machine
end

