-- ==== Sys2Proof/Laws/Power.lean ====
section
/-! SUPPORT. What each function of Sys2Proof/Machine/Power.lean can change. -/

namespace Sys2Proof.Machine

theorem orderCore_changes (s : State) (x1 x2 : Nat) :
    Changes [.die, .stream, .parish, .reeve, .timers] s (orderCore s x1 x2) := by unfold orderCore; exact (Changes.ite (Changes.after (Changes.refl _ _) (faultItem_changes _ _ _ _ _ _ _) rfl) (Changes.after (Changes.refl _ _) (State.modDie_changes _ _ _) rfl))

theorem startOp_changes (s : State) (x1 x2 : Nat) :
    Changes [.die, .stream, .parish, .reeve, .timers, .power] s (startOp s x1 x2) := by unfold startOp; exact (Changes.ite (Changes.refl _ _) (Changes.trans (Changes.foldl (fun _ _ => (Changes.after (Changes.ite (Changes.after (Changes.refl _ _) (orderCore_changes _ _ _) rfl) (Changes.refl _ _)) (State.modDie_changes _ _ _) rfl)) (Changes.refl _ _)) (fun f hf => by cases f <;> first | (cases hf; done) | dsimp only [Piece.same])))

theorem wakeIdle_changes (s : State) :
    Changes [.timers, .power] s (wakeIdle s) := by unfold wakeIdle; exact (Changes.trans (Changes.refl _ _) (fun f hf => by cases f <;> first | (cases hf; done) | dsimp only [Piece.same]))

theorem dropItems_changes (s : State) :
    Changes [.die, .port, .stream, .reeve] s (dropItems s) := by unfold dropItems; exact (Changes.foldl (fun _ _ => (Changes.after (Changes.refl _ _) (dropItem_changes _ _) rfl)) (Changes.refl _ _))

theorem failLoops_changes (s : State) :
    Changes [.netPorts, .port, .twin, .test] s (failLoops s) := by unfold failLoops; exact (Changes.trans (Changes.refl _ _) (fun f hf => by cases f <;> first | (cases hf; done) | dsimp only [Piece.same]))

theorem stopFrames_changes (s : State) :
    Changes [.die] s (stopFrames s) := by unfold stopFrames; exact (Changes.trans (Changes.refl _ _) (fun f hf => by cases f <;> first | (cases hf; done) | dsimp only [Piece.same]))

theorem allDies_changes (s : State) :
    Changes [.die] s (allDies s) := by unfold allDies; exact (Changes.foldl (fun _ _ => (Changes.after (Changes.refl _ _) (State.modDie_changes _ _ _) rfl)) (Changes.refl _ _))

theorem closePages_changes (s : State) :
    Changes [.die] s (closePages s) := by unfold closePages; exact (Changes.trans (Changes.refl _ _) (fun f hf => by cases f <;> first | (cases hf; done) | dsimp only [Piece.same]))

theorem beginEntry_changes (s : State) (x1 x2 : Nat) : Changes [.net, .netPorts, .sessions, .die, .port, .stream, .parish, .pend, .reeve, .timers, .twin, .power, .fw, .test] s (beginEntry s x1 x2) := by
  have h1 : Changes [.net, .netPorts, .sessions, .die, .port, .stream, .parish, .pend, .reeve, .timers, .twin, .power, .fw, .test] s { s with
      power := { s.power with
        state := 5, target := x1, entryCause := x2, prevState := s.power.state, drained := false, enteredAt := s.ticks
        lprcEnd := 0, pendReq := if s.power.pendReq = 1 then 0 else s.power.pendReq }
      reeve := { s.reeve with powerCause := true } } := (fun f hf => by cases f <;> first | (cases hf; done) | rfl)
  have h2 := Changes.after h1 (powerRecord_changes _ 0 (powerW0 1 s.power.state x1 x2) (usedMask s) 0) rfl
  have h3 : ∀ u, Changes [.net, .netPorts, .sessions, .die, .port, .stream, .parish, .pend, .reeve, .timers, .twin, .power, .fw, .test] u (if u.twin.state = 0 ∨ 2 ≤ s.power.state then u else
      { u with twin := { u.twin with todo := u.twin.todo ++ [4, 4, 4] } }) := fun u =>
    Changes.ite (Changes.refl _ _) (fun f hf => by cases f <;> first | (cases hf; done) | rfl)
  have h4 := Changes.after (Changes.after (h2.trans (h3 _)) (parishRecover_changes _ 1 5) rfl) (soRefresh_changes _) rfl
  have h5 := Changes.after (Changes.after (Changes.after (Changes.after h4 (allDies_changes _) rfl) (stopFrames_changes _) rfl)
    (failLoops_changes _) rfl) (dropItems_changes _) rfl
  have h7 := Changes.foldl (xs := List.range 16) (g := endSessions)
    (fun x _ => Changes.after (Changes.refl [.net, .netPorts, .sessions, .die, .port, .stream, .parish, .pend, .reeve, .timers, .twin, .power, .fw, .test] x) (endSessions_changes _ _) rfl) (Changes.after h5 (closePages_changes _) rfl)
  have h8 : ∀ u, Changes [.net, .netPorts, .sessions, .die, .port, .stream, .parish, .pend, .reeve, .timers, .twin, .power, .fw, .test] u { u with pend := [] } := fun u => (fun f hf => by cases f <;> first | (cases hf; done) | rfl)
  unfold beginEntry
  exact Changes.ite h5 (h7.trans (h8 _))

theorem requestState_changes (s : State) (x1 x2 : Nat) :
    Changes [.net, .netPorts, .sessions, .die, .port, .stream, .parish, .pend, .reeve, .timers, .twin, .power, .fw, .test] s (requestState s x1 x2) := by unfold requestState; exact (Changes.ite (Changes.ite (Changes.trans (Changes.refl _ _) (fun f hf => by cases f <;> first | (cases hf; done) | dsimp only [Piece.same])) (Changes.trans (Changes.refl _ _) (fun f hf => by cases f <;> first | (cases hf; done) | dsimp only [Piece.same]))) (Changes.ite (Changes.trans (Changes.refl _ _) (fun f hf => by cases f <;> first | (cases hf; done) | dsimp only [Piece.same])) (Changes.ite (Changes.trans (Changes.refl _ _) (fun f hf => by cases f <;> first | (cases hf; done) | dsimp only [Piece.same])) (Changes.ite (Changes.refl _ _) (Changes.after (Changes.trans (Changes.refl _ _) (fun f hf => by cases f <;> first | (cases hf; done) | dsimp only [Piece.same])) (beginEntry_changes _ _ _) rfl)))))

theorem commandState_changes (s : State) (x1 : Nat) :
    Changes [.net, .netPorts, .sessions, .die, .port, .stream, .parish, .pend, .reeve, .timers, .twin, .power, .fw, .test] s (commandState s x1) := by unfold commandState; exact (Changes.ite (Changes.trans (Changes.refl _ _) (fun f hf => by cases f <;> first | (cases hf; done) | dsimp only [Piece.same])) (Changes.after (Changes.refl _ _) (requestState_changes _ _ _) rfl))

theorem writePowerCmd_changes (s : State) (x1 : Nat) :
    Changes [.net, .netPorts, .sessions, .die, .port, .stream, .parish, .pend, .reeve, .timers, .twin, .power, .fw, .test] s (writePowerCmd s x1) := by unfold writePowerCmd; exact (Changes.ite (Changes.after (Changes.after (Changes.refl _ _) (commandState_changes _ _) rfl) (withStatus_changes _ _) rfl) (Changes.after (Changes.refl _ _) (withStatus_changes _ _) rfl))

theorem requestOp_changes (s : State) (x1 x2 : Nat) :
    Changes [.die, .stream, .parish, .reeve, .timers, .power] s (requestOp s x1 x2) := by unfold requestOp; exact (Changes.ite (Changes.trans (Changes.refl _ _) (fun f hf => by cases f <;> first | (cases hf; done) | dsimp only [Piece.same])) (Changes.ite (Changes.refl _ _) (Changes.after (Changes.refl _ _) (startOp_changes _ _ _) rfl)))

theorem writeOpSet_changes (s : State) (x1 : Nat) :
    Changes [.net, .die, .stream, .parish, .reeve, .timers, .power] s (writeOpSet s x1) := by unfold writeOpSet; exact (Changes.ite (Changes.after (Changes.after (Changes.refl _ _) (requestOp_changes _ _ _) rfl) (withStatus_changes _ _) rfl) (Changes.after (Changes.refl _ _) (withStatus_changes _ _) rfl))

theorem startReturn_changes (s : State) :
    Changes [.power] s (startReturn s) := by unfold startReturn; exact (Changes.trans (Changes.refl _ _) (fun f hf => by cases f <;> first | (cases hf; done) | dsimp only [Piece.same]))

theorem wake_changes (s : State) (x1 : Nat) :
    Changes [.net, .netPorts, .die, .stream, .parish, .timers, .power] s (wake s x1) := by unfold wake; exact (Changes.ite (Changes.after (Changes.trans (Changes.refl _ _) (fun f hf => by cases f <;> first | (cases hf; done) | dsimp only [Piece.same])) (startReturn_changes _) rfl) (Changes.ite (Changes.trans (Changes.refl _ _) (fun f hf => by cases f <;> first | (cases hf; done) | dsimp only [Piece.same])) (Changes.ite (Changes.after (Changes.refl _ _) (cancelVote_changes _) rfl) (Changes.refl _ _))))

theorem execComparatorWake_changes (x0 : Nat) (s : State) :
    ChangesOnly [.net, .netPorts, .die, .stream, .parish, .timers, .power] s (execComparatorWake x0 s) := by unfold execComparatorWake; exact (ChangesOnly.withPort (Changes.given (Changes.refl _ _) (Changes.after (Changes.refl _ _) (wake_changes _ _) rfl)))

theorem execWakeAfterExpiry_changes (s : State) :
    ChangesOnly [.net, .netPorts, .die, .stream, .parish, .timers, .power] s (execWakeAfterExpiry s) := by unfold execWakeAfterExpiry; exact (ChangesOnly.next (Changes.given (Changes.refl _ _) (Changes.after (Changes.refl _ _) (wake_changes _ _) rfl)))

theorem servePending_changes (s : State) :
    Changes [.net, .netPorts, .sessions, .die, .port, .stream, .parish, .pend, .reeve, .timers, .twin, .power, .fw, .test] s (servePending s) := by unfold servePending; exact (Changes.ite (Changes.refl _ _) (Changes.ite (Changes.after (Changes.trans (Changes.refl _ _) (fun f hf => by cases f <;> first | (cases hf; done) | dsimp only [Piece.same])) (requestState_changes _ _ _) rfl) (Changes.ite (Changes.ite (Changes.trans (Changes.refl _ _) (fun f hf => by cases f <;> first | (cases hf; done) | dsimp only [Piece.same])) (Changes.after (Changes.trans (Changes.refl _ _) (fun f hf => by cases f <;> first | (cases hf; done) | dsimp only [Piece.same])) (requestOp_changes _ _ _) rfl)) (Changes.refl _ _))))

theorem hotNow_changes (s : State) :
    Changes [.power] s (hotNow s) := by unfold hotNow; exact (Changes.trans (Changes.refl _ _) (fun f hf => by cases f <;> first | (cases hf; done) | dsimp only [Piece.same]))

theorem derate_changes (s : State) (x1 : Nat) : Changes [.die, .stream, .parish, .reeve, .timers, .power] s (derate s x1) := by
  unfold derate
  extract_lets held src s1 src2 s2 s3
  have h1 : Changes [.die, .stream, .parish, .reeve, .timers, .power] s s1 := (fun f hf => by cases f <;> first | (cases hf; done) | rfl)
  have h1b : Changes [.die, .stream, .parish, .reeve, .timers, .power] s { s1 with reeve := { s1.reeve with powerCause := true } } := (fun f hf => by cases f <;> first | (cases hf; done) | rfl)
  have h2 : Changes [.die, .stream, .parish, .reeve, .timers, .power] s s2 :=
    Changes.ite (Changes.after (Changes.after h1b (parishRecover_changes _ _ _) rfl) (soRefresh_changes _) rfl) h1
  have h3 : Changes [.die, .stream, .parish, .reeve, .timers, .power] s s3 := Changes.after h2 (requestOp_changes _ _ _) rfl
  have h4 : Changes [.die, .stream, .parish, .reeve, .timers, .power] s { s3 with reeve := { s3.reeve with powerCause := false } } := h3.trans (fun f hf => by cases f <;> first | (cases hf; done) | rfl)
  exact Changes.ite h3 h4

theorem execThermalWarning_changes (x0 : Nat) (x1 : Int) (s : State) :
    ChangesOnly [.die, .stream, .parish, .reeve, .timers, .power] s (execThermalWarning x0 x1 s) := by unfold execThermalWarning; exact (ChangesOnly.withDie (Changes.given (Changes.refl _ _) (Changes.after (Changes.after (Changes.trans (Changes.after (Changes.after (Changes.after (Changes.refl _ _) (hotNow_changes _) rfl) (State.modDie_changes _ _ _) rfl) (raiseFault_changes _ _ _ _ _ _ _ _) rfl) (fun f hf => by cases f <;> first | (cases hf; done) | dsimp only [Piece.same])) (faultItem_changes _ _ _ _ _ _ _) rfl) (derate_changes _ _) rfl)))

theorem enterOff_changes (s : State) :
    Changes Piece.served s (enterOff s) := by unfold enterOff; exact (Changes.trans (Changes.after (Changes.refl _ _) (resetPart_changes _ _) rfl) (fun f hf => by cases f <;> first | (cases hf; done) | dsimp only [Piece.same]))

theorem execVoltageConfirmed_changes (x0 : Nat) (s : State) :
    ChangesOnly [.die] s (execVoltageConfirmed x0 s) := by unfold execVoltageConfirmed; exact (ChangesOnly.withDie (Changes.given (Changes.refl _ _) (Changes.after (Changes.refl _ _) (State.modDie_changes _ _ _) rfl)))

theorem execIdleTimeExpiry_changes (s : State) :
    ChangesOnly [.timers, .power] s (execIdleTimeExpiry s) := by unfold execIdleTimeExpiry; exact (ChangesOnly.next (Changes.given (Changes.refl _ _) (Changes.trans (Changes.refl _ _) (fun f hf => by cases f <;> first | (cases hf; done) | dsimp only [Piece.same]))))

theorem leaveSentinel_changes (s : State) :
    Changes [.die] s (leaveSentinel s) := by unfold leaveSentinel; exact (Changes.after (Changes.refl _ _) (State.modDie_changes _ _ _) rfl)

theorem execSvcAddressWake_changes (s : State) :
    ChangesOnly [.net, .netPorts, .svc, .die, .stream, .parish, .timers, .power] s (execSvcAddressWake s) := by unfold execSvcAddressWake; exact (ChangesOnly.next (Changes.given (Changes.refl _ _) (Changes.trans (Changes.after (Changes.refl _ _) (wake_changes _ _) rfl) (fun f hf => by cases f <;> first | (cases hf; done) | dsimp only [Piece.same]))))

theorem execWakePinLevel_changes (s : State) :
    ChangesOnly [.net, .netPorts, .die, .stream, .parish, .timers, .power] s (execWakePinLevel s) := by unfold execWakePinLevel; exact (ChangesOnly.next (Changes.given (Changes.refl _ _) (Changes.after (Changes.refl _ _) (wake_changes _ _) rfl)))

theorem logicOff_changes (s : State) (x1 : Nat) :
    Changes [.die, .row, .col] s (logicOff s x1) := by unfold logicOff; exact (Changes.trans (Changes.after (Changes.refl _ _) (State.modDie_changes _ _ _) rfl) (fun f hf => by cases f <;> first | (cases hf; done) | dsimp only [Piece.same]))

theorem keepPorts_changes (s : State) (x1 : Bool) :
    Changes [.port] s (keepPorts s x1) := by unfold keepPorts; exact (Changes.foldl (fun _ _ => (Changes.after (Changes.refl _ _) (modVp_changes _ _ _) rfl)) (Changes.refl _ _))

theorem quietPorts_changes (s : State) :
    Changes [.netPorts, .svc] s (quietPorts s) := by unfold quietPorts; exact (Changes.trans (Changes.refl _ _) (fun f hf => by cases f <;> first | (cases hf; done) | dsimp only [Piece.same]))

theorem quietRing_changes (s : State) :
    Changes [.die] s (quietRing s) := by unfold quietRing; exact (Changes.trans (Changes.refl _ _) (fun f hf => by cases f <;> first | (cases hf; done) | dsimp only [Piece.same]))

theorem holdTallies_changes (s : State) (x1 : Nat) :
    Changes [.die] s (holdTallies s x1) := by unfold holdTallies; exact (Changes.after (Changes.refl _ _) (State.modDie_changes _ _ _) rfl)

theorem enterSleep_changes (s : State) :
    Changes [.netPorts, .svc, .die, .port, .row, .col] s (enterSleep s) := by unfold enterSleep; exact (Changes.after (Changes.after (Changes.foldl (fun _ _ => (Changes.after (Changes.refl _ _) (logicOff_changes _ _) rfl)) (Changes.after (Changes.after (Changes.after (Changes.refl _ _) (quietRing_changes _) rfl) (quietPorts_changes _) rfl) (keepPorts_changes _ _) rfl)) (holdTallies_changes _ _) rfl) (State.modDie_changes _ _ _) rfl)

theorem returnTally_changes (s : State) (x1 : Nat) :
    Changes [.tally] s (returnTally s x1) := by unfold returnTally; exact (Changes.ite (Changes.refl _ _) (Changes.ite (Changes.after (Changes.after (Changes.after (Changes.refl _ _) (State.modTally_changes _ _ _) rfl) (dropEdges_changes _ _) rfl) (tallyStart_changes _ _) rfl) (Changes.after (Changes.after (Changes.refl _ _) (State.modTally_changes _ _ _) rfl) (dropEdges_changes _ _) rfl)))

theorem returnDie_changes (s : State) (x1 : Nat) :
    Changes [.die, .port, .engine, .stream, .mill, .rule, .tally, .parish, .reeve, .timers] s (returnDie s x1) := by unfold returnDie; exact (Changes.ite (Changes.refl _ _) (Changes.foldl (fun _ _ => (Changes.after (Changes.refl _ _) (returnTally_changes _ _) rfl)) (Changes.foldl (fun _ _ => (Changes.after (Changes.refl _ _) (applyRule_changes _ _ _) rfl)) (Changes.trans (Changes.after (Changes.refl _ _) (State.modDie_changes _ _ _) rfl) (fun f hf => by cases f <;> first | (cases hf; done) | dsimp only [Piece.same])))))

theorem execDerateClear_changes (s : State) :
    ChangesOnly [.power] s (execDerateClear s) := by unfold execDerateClear; exact (ChangesOnly.next (Changes.given (Changes.refl _ _) (Changes.trans (Changes.refl _ _) (fun f hf => by cases f <;> first | (cases hf; done) | dsimp only [Piece.same]))))

theorem restoreTime_changes (s : State) : Changes [.time, .servo, .die, .stream, .parish, .timers] s (restoreTime s) := by
  have h1 : ∀ n, Changes [.time, .servo, .die, .stream, .parish, .timers] s { s with time := { s.time with elapsed := n } } := fun n => (fun f hf => by cases f <;> first | (cases hf; done) | rfl)
  have h2 := fun n off => Changes.after (Changes.after (h1 n) (applyStep_changes _ off) rfl) (anchorAll_changes _ 6) rfl
  have h3 : ∀ u, Changes [.time, .servo, .die, .stream, .parish, .timers] u { u with servo := { u.servo with
      status := if u.servo.everLocked then 4 else 0, valid := 0, count := 0, meas := [] } } := fun u => (fun f hf => by cases f <;> first | (cases hf; done) | rfl)
  unfold restoreTime
  exact Changes.ite (h2 _ _) ((h2 _ _).trans (h3 _))

theorem restorePorts_changes (s : State) :
    Changes [.port] s (restorePorts s) := by unfold restorePorts; exact (Changes.foldl (fun _ _ => (Changes.after (Changes.refl _ _) (modVp_changes _ _ _) rfl)) (Changes.refl _ _))

theorem drainCtx_changes (s : State) (x1 x2 : Nat) :
    Changes [.die, .port, .engine, .stream, .rule, .parish, .reeve, .timers] s (drainCtx s x1 x2) := by unfold drainCtx; exact (Changes.foldl (fun _ _ => (Changes.after (Changes.refl _ _) (faultItem_changes _ _ _ _ _ _ _) rfl)) (Changes.ite (Changes.after (Changes.after (Changes.refl _ _) (endCtx_changes _ _ _ _) rfl) (missEntry_changes _ _ _ _ _) rfl) (Changes.after (Changes.refl _ _) (endCtx_changes _ _ _ _) rfl)))

theorem endWindows_changes (s : State) (x1 : Nat) :
    Changes [.die, .port, .stream, .rule, .parish, .reeve, .timers] s (endWindows s x1) := by unfold endWindows; exact (Changes.after (Changes.foldl (fun _ _ => (by (try dsimp only); split; exacts [(Changes.refl _ _), (Changes.ite (Changes.after (Changes.refl _ _) (closeGap_changes _ _) rfl) (Changes.ite (Changes.after (Changes.refl _ _) (missEntry_changes _ _ _ _ _) rfl) (Changes.refl _ _)))])) (Changes.refl _ _)) (State.modDie_changes _ _ _) rfl)

theorem execDrainExpiry_changes (s : State) :
    ChangesOnly [.die, .port, .engine, .stream, .rule, .parish, .reeve, .timers, .power] s (execDrainExpiry s) := by unfold execDrainExpiry; exact (ChangesOnly.next (Changes.given (Changes.refl _ _) (Changes.trans (Changes.ite (Changes.foldl (fun _ _ => (Changes.after (Changes.refl _ _) (endWindows_changes _ _) rfl)) (Changes.foldl (fun _ _ => (Changes.after (Changes.refl _ _) (abortOp_changes _ _ _ _ _) rfl)) (Changes.foldl (fun _ _ => (Changes.after (Changes.refl _ _) (drainCtx_changes _ _ _) rfl)) (Changes.refl _ _)))) (Changes.after (Changes.foldl (fun _ _ => (Changes.after (Changes.refl _ _) (endWindows_changes _ _) rfl)) (Changes.foldl (fun _ _ => (Changes.after (Changes.refl _ _) (abortOp_changes _ _ _ _ _) rfl)) (Changes.foldl (fun _ _ => (Changes.after (Changes.refl _ _) (drainCtx_changes _ _ _) rfl)) (Changes.refl _ _)))) (closePages_changes _) rfl)) (fun f hf => by cases f <;> first | (cases hf; done) | dsimp only [Piece.same]))))

theorem freeTallies_changes (s : State) (x1 : Nat) :
    Changes [.tally] s (freeTallies s x1) := by unfold freeTallies; exact (Changes.foldl (fun _ _ => (Changes.after (Changes.refl _ _) (compareOut_changes _ _) rfl)) (Changes.refl _ _))

theorem enterDeep_changes (s : State) :
    Changes [.netPorts, .svc, .die, .port, .stream, .row, .col] s (enterDeep s) := by unfold enterDeep; exact (Changes.foldl (fun _ _ => (Changes.after (Changes.refl _ _) (State.modStream_changes _ _ _) rfl)) (Changes.foldl (fun _ _ => (Changes.after (Changes.refl _ _) (logicOff_changes _ _) rfl)) (Changes.after (Changes.after (Changes.refl _ _) (quietPorts_changes _) rfl) (keepPorts_changes _ _) rfl)))

theorem execConverterDerate_changes (x0 x1 : Nat) (x2 : Int) (s : State) :
    ChangesOnly [.die, .stream, .parish, .reeve, .timers, .power] s (execConverterDerate x0 x1 x2 s) := by unfold execConverterDerate; exact (ChangesOnly.withUnit (Changes.given (Changes.refl _ _) (Changes.after (Changes.ite (Changes.after (Changes.trans (Changes.ite (Changes.after (Changes.refl _ _) (hotNow_changes _) rfl) (Changes.refl _ _)) (fun f hf => by cases f <;> first | (cases hf; done) | dsimp only [Piece.same])) (faultItem_changes _ _ _ _ _ _ _) rfl) (Changes.after (Changes.after (Changes.trans (Changes.ite (Changes.after (Changes.refl _ _) (hotNow_changes _) rfl) (Changes.refl _ _)) (fun f hf => by cases f <;> first | (cases hf; done) | dsimp only [Piece.same])) (faultItem_changes _ _ _ _ _ _ _) rfl) (requestReason_changes _ _ _) rfl)) (derate_changes _ _) rfl)))

theorem execAonTallyWake_changes (s : State) :
    ChangesOnly [.net, .netPorts, .die, .stream, .parish, .timers, .power] s (execAonTallyWake s) := by unfold execAonTallyWake; exact (ChangesOnly.next (Changes.given (Changes.refl _ _) (Changes.after (Changes.refl _ _) (wake_changes _ _) rfl)))

theorem execSleepTimeExpiry_changes (s : State) :
    ChangesOnly [.net, .netPorts, .sessions, .die, .port, .stream, .parish, .pend, .reeve, .timers, .twin, .power, .fw, .test] s (execSleepTimeExpiry s) := by unfold execSleepTimeExpiry; exact (ChangesOnly.next (Changes.given (Changes.refl _ _) (Changes.after (Changes.refl _ _) (requestState_changes _ _ _) rfl)))

theorem execOpSwitchPause_changes (x0 : Nat) (s : State) :
    ChangesOnly [.netPorts, .die, .port, .stream, .parish, .timers, .twin, .test] s (execOpSwitchPause x0 s) := by unfold execOpSwitchPause; exact (ChangesOnly.withDie (by (try dsimp only); split; exacts [(Changes.refl _ _), (Changes.given (Changes.refl _ _) (Changes.after (Changes.after (Changes.after (Changes.after (Changes.refl _ _) (State.modDie_changes _ _ _) rfl) (failLoops_changes _) rfl) (holdTallies_changes _ _) rfl) (powerRecord_changes _ _ _ _ _) rfl))]))

theorem opDone_changes (s : State) :
    Changes [.net, .netPorts, .sessions, .die, .port, .stream, .parish, .pend, .reeve, .timers, .twin, .power, .fw, .test] s (opDone s) := by unfold opDone; exact (Changes.ite (Changes.after (Changes.ite (Changes.trans (Changes.trans (Changes.refl _ _) (fun f hf => by cases f <;> first | (cases hf; done) | dsimp only [Piece.same])) (fun f hf => by cases f <;> first | (cases hf; done) | dsimp only [Piece.same])) (Changes.trans (Changes.refl _ _) (fun f hf => by cases f <;> first | (cases hf; done) | dsimp only [Piece.same]))) (servePending_changes _) rfl) (Changes.refl _ _))

theorem wakeEdge_changes (s : State) (x1 : Nat) :
    Changes [.net, .netPorts, .die, .stream, .parish, .timers, .power] s (wakeEdge s x1) := by unfold wakeEdge; exact (Changes.ite (Changes.refl _ _) (Changes.after (Changes.refl _ _) (wake_changes _ _) rfl))

theorem idle_changes (s : State) :
    Changes [.power] s (idle s) := by unfold idle; exact (Changes.ite (Changes.trans (Changes.refl _ _) (fun f hf => by cases f <;> first | (cases hf; done) | dsimp only [Piece.same])) (Changes.ite (Changes.trans (Changes.refl _ _) (fun f hf => by cases f <;> first | (cases hf; done) | dsimp only [Piece.same])) (Changes.refl _ _)))

theorem execNetworkWakeActivity_changes (x0 : Nat) (s : State) :
    ChangesOnly [.net, .netPorts, .die, .stream, .parish, .timers, .power] s (execNetworkWakeActivity x0 s) := by unfold execNetworkWakeActivity; exact (ChangesOnly.withNet (Changes.given (Changes.refl _ _) (Changes.after (Changes.refl _ _) (wakeEdge_changes _ _) rfl)))

theorem execPowerCmdDeepSleep_changes (s : State) :
    ChangesOnly [.net, .netPorts, .sessions, .die, .port, .stream, .parish, .pend, .reeve, .timers, .twin, .power, .fw, .test] s (execPowerCmdDeepSleep s) := by unfold execPowerCmdDeepSleep; exact (ChangesOnly.next (Changes.after (Changes.refl _ _) (writePowerCmd_changes _ _) rfl))

theorem execNetworkWakePattern_changes (x0 : Nat) (s : State) :
    ChangesOnly [.net, .netPorts, .die, .stream, .parish, .timers, .power] s (execNetworkWakePattern x0 s) := by unfold execNetworkWakePattern; exact (ChangesOnly.withNet (Changes.given (Changes.refl _ _) (Changes.after (Changes.refl _ _) (wake_changes _ _) rfl)))

theorem execPowerCmdRun_changes (s : State) :
    ChangesOnly [.net, .netPorts, .sessions, .die, .port, .stream, .parish, .pend, .reeve, .timers, .twin, .power, .fw, .test] s (execPowerCmdRun s) := by unfold execPowerCmdRun; exact (ChangesOnly.next (Changes.after (Changes.refl _ _) (writePowerCmd_changes _ _) rfl))

theorem execPowerCmdSleep_changes (s : State) :
    ChangesOnly [.net, .netPorts, .sessions, .die, .port, .stream, .parish, .pend, .reeve, .timers, .twin, .power, .fw, .test] s (execPowerCmdSleep s) := by unfold execPowerCmdSleep; exact (ChangesOnly.next (Changes.after (Changes.refl _ _) (writePowerCmd_changes _ _) rfl))

theorem execPowerCmdOff_changes (s : State) :
    ChangesOnly [.net, .netPorts, .sessions, .die, .port, .stream, .parish, .pend, .reeve, .timers, .twin, .power, .fw, .test] s (execPowerCmdOff s) := by unfold execPowerCmdOff; exact (ChangesOnly.next (Changes.after (Changes.refl _ _) (writePowerCmd_changes _ _) rfl))

theorem execDeepTimeExpiry_changes (s : State) :
    ChangesOnly [.net, .netPorts, .sessions, .die, .port, .stream, .parish, .pend, .reeve, .timers, .twin, .power, .fw, .test] s (execDeepTimeExpiry s) := by unfold execDeepTimeExpiry; exact (ChangesOnly.next (Changes.given (Changes.refl _ _) (Changes.after (Changes.refl _ _) (requestState_changes _ _ _) rfl)))

theorem execStorageTimeExpiry_changes (s : State) :
    ChangesOnly [.net, .netPorts, .sessions, .die, .port, .stream, .parish, .pend, .reeve, .timers, .twin, .power, .fw, .test] s (execStorageTimeExpiry s) := by unfold execStorageTimeExpiry; exact (ChangesOnly.next (Changes.given (Changes.refl _ _) (Changes.after (Changes.refl _ _) (requestState_changes _ _ _) rfl)))

theorem sleepClocks_changes (s : State) :
    Changes [.power, .free] s (sleepClocks s) := by unfold sleepClocks; exact (Changes.ite (Changes.trans (Changes.trans (Changes.refl _ _) (fun f hf => by cases f <;> first | (cases hf; done) | dsimp only [Piece.same])) (fun f hf => by cases f <;> first | (cases hf; done) | dsimp only [Piece.same])) (Changes.trans (Changes.refl _ _) (fun f hf => by cases f <;> first | (cases hf; done) | dsimp only [Piece.same])))

theorem execPowerStateReached_changes (s : State) :
    ChangesOnly Piece.served s (execPowerStateReached s) := by unfold execPowerStateReached; exact (ChangesOnly.next (Changes.given (Changes.refl _ _) (Changes.ite (Changes.after (Changes.refl _ _) (enterOff_changes _) rfl) (Changes.ite (Changes.after (Changes.trans (Changes.ite (Changes.after (Changes.after (Changes.foldl (fun _ _ => (Changes.after (Changes.refl _ _) (endWindows_changes _ _) rfl)) (Changes.refl _ _)) (sleepClocks_changes _) rfl) (enterSleep_changes _) rfl) (Changes.after (Changes.after (Changes.foldl (fun _ _ => (Changes.after (Changes.refl _ _) (endWindows_changes _ _) rfl)) (Changes.refl _ _)) (sleepClocks_changes _) rfl) (enterDeep_changes _) rfl)) (fun f hf => by cases f <;> first | (cases hf; done) | dsimp only [Piece.same])) (startReturn_changes _) rfl) (Changes.ite (Changes.after (Changes.trans (Changes.trans (Changes.ite (Changes.after (Changes.after (Changes.foldl (fun _ _ => (Changes.after (Changes.refl _ _) (endWindows_changes _ _) rfl)) (Changes.refl _ _)) (sleepClocks_changes _) rfl) (enterSleep_changes _) rfl) (Changes.after (Changes.after (Changes.foldl (fun _ _ => (Changes.after (Changes.refl _ _) (endWindows_changes _ _) rfl)) (Changes.refl _ _)) (sleepClocks_changes _) rfl) (enterDeep_changes _) rfl)) (fun f hf => by cases f <;> first | (cases hf; done) | dsimp only [Piece.same])) (fun f hf => by cases f <;> first | (cases hf; done) | dsimp only [Piece.same])) (requestState_changes _ _ _) rfl) (Changes.trans (Changes.ite (Changes.after (Changes.after (Changes.foldl (fun _ _ => (Changes.after (Changes.refl _ _) (endWindows_changes _ _) rfl)) (Changes.refl _ _)) (sleepClocks_changes _) rfl) (enterSleep_changes _) rfl) (Changes.after (Changes.after (Changes.foldl (fun _ _ => (Changes.after (Changes.refl _ _) (endWindows_changes _ _) rfl)) (Changes.refl _ _)) (sleepClocks_changes _) rfl) (enterDeep_changes _) rfl)) (fun f hf => by cases f <;> first | (cases hf; done) | dsimp only [Piece.same])))))))

theorem execWakePinEdge_changes (s : State) :
    ChangesOnly [.net, .netPorts, .die, .stream, .parish, .timers, .power] s (execWakePinEdge s) := by unfold execWakePinEdge; exact (ChangesOnly.next (Changes.given (Changes.refl _ _) (Changes.after (Changes.refl _ _) (wakeEdge_changes _ _) rfl)))

theorem execTwinWake_changes (s : State) :
    ChangesOnly [.net, .netPorts, .die, .stream, .parish, .timers, .power] s (execTwinWake s) := by unfold execTwinWake; exact (ChangesOnly.next (Changes.given (Changes.refl _ _) (Changes.after (Changes.refl _ _) (wake_changes _ _) rfl)))

theorem execSentinelCrierWake_changes (x0 : Nat) (s : State) :
    ChangesOnly [.net, .netPorts, .die, .stream, .parish, .timers, .power] s (execSentinelCrierWake x0 s) := by unfold execSentinelCrierWake; exact (ChangesOnly.withRule (Changes.given (Changes.refl _ _) (by (try dsimp only); split; exacts [(Changes.refl _ _), (Changes.after (Changes.trans (Changes.after (Changes.refl _ _) (crierReason_changes _ _ _ _) rfl) (fun f hf => by cases f <;> first | (cases hf; done) | dsimp only [Piece.same])) (wake_changes _ _) rfl)])))

theorem execReturnComplete_changes (x0 : Nat) (s : State) :
    ChangesOnly [.time, .servo, .net, .netPorts, .sessions, .svc, .die, .port, .engine, .stream, .mill, .rule, .tally, .parish, .pend, .reeve, .timers, .twin, .power, .fw, .test] s (execReturnComplete x0 s) := by unfold execReturnComplete; exact (ChangesOnly.next (Changes.given (Changes.refl _ _) (Changes.after (Changes.after (Changes.after (Changes.trans (Changes.ite (Changes.after (Changes.foldl (fun _ _ => (Changes.after (Changes.refl _ _) (returnDie_changes _ _) rfl)) (Changes.after (Changes.after (Changes.after (Changes.after (Changes.refl _ _) (restorePorts_changes _) rfl) (State.modDie_changes _ _ _) rfl) (leaveSentinel_changes _) rfl) (freeTallies_changes _ _) rfl)) (restoreTime_changes _) rfl) (Changes.foldl (fun _ _ => (Changes.after (Changes.refl _ _) (returnDie_changes _ _) rfl)) (Changes.after (Changes.after (Changes.after (Changes.after (Changes.refl _ _) (restorePorts_changes _) rfl) (State.modDie_changes _ _ _) rfl) (leaveSentinel_changes _) rfl) (freeTallies_changes _ _) rfl))) (fun f hf => by cases f <;> first | (cases hf; done) | dsimp only [Piece.same])) (soRefresh_changes _) rfl) (powerRecord_changes _ _ _ _ _) rfl) (servePending_changes _) rfl)))

theorem execOpSet_changes (x0 : Nat) (s : State) :
    ChangesOnly [.net, .die, .stream, .parish, .reeve, .timers, .power] s (execOpSet x0 s) := by unfold execOpSet; exact (ChangesOnly.next (Changes.after (Changes.refl _ _) (writeOpSet_changes _ _) rfl))

theorem execSysPllChecked_changes (x0 : Nat) (s : State) :
    ChangesOnly [.net, .netPorts, .sessions, .die, .port, .stream, .tally, .parish, .pend, .reeve, .timers, .twin, .power, .fw, .test] s (execSysPllChecked x0 s) := by unfold execSysPllChecked; exact (ChangesOnly.withDie (by (try dsimp only); split; exacts [(Changes.refl _ _), (Changes.given (Changes.refl _ _) (Changes.ite (Changes.after (Changes.refl _ _) (faultItem_changes _ _ _ _ _ _ _) rfl) (Changes.after (Changes.ite (Changes.ite (Changes.after (Changes.after (Changes.refl _ _) (State.modDie_changes _ _ _) rfl) (freeTallies_changes _ _) rfl) (Changes.after (Changes.after (Changes.after (Changes.refl _ _) (State.modDie_changes _ _ _) rfl) (freeTallies_changes _ _) rfl) (orderCore_changes _ _ _) rfl)) (Changes.after (Changes.ite (Changes.after (Changes.after (Changes.refl _ _) (State.modDie_changes _ _ _) rfl) (freeTallies_changes _ _) rfl) (Changes.after (Changes.after (Changes.after (Changes.refl _ _) (State.modDie_changes _ _ _) rfl) (freeTallies_changes _ _) rfl) (orderCore_changes _ _ _) rfl)) (pointRecord_changes _ _) rfl)) (opDone_changes _) rfl)))]))

end Sys2Proof.Machine
end

