-- ==== Sys2Proof/Laws/Background.lean ====
section
/-! SUPPORT. What each function of Sys2Proof/Machine/Background.lean can change. -/

namespace Sys2Proof.Machine

theorem calBegin_changes (s : State) (x1 : Nat) :
    Changes [.die, .port] s (calBegin s x1) := by unfold calBegin; exact (Changes.ite (Changes.refl _ _) (Changes.ite (Changes.after (Changes.after (Changes.refl _ _) (State.modPort_changes _ _ _) rfl) (startItem_changes _ _) rfl) (Changes.after (Changes.refl _ _) (State.modPort_changes _ _ _) rfl)))

theorem writeCalReq_changes (s : State) (x1 x2 : Nat) :
    Changes [.net, .die, .port] s (writeCalReq s x1 x2) := by unfold writeCalReq; exact (Changes.ite (Changes.after (Changes.after (Changes.refl _ _) (calBegin_changes _ _) rfl) (withStatus_changes _ _) rfl) (Changes.after (Changes.refl _ _) (withStatus_changes _ _) rfl))

theorem reloadWaits_changes (s : State) (x1 x2 : Nat) :
    Changes [.die] s (reloadWaits s x1 x2) := by unfold reloadWaits; exact (Changes.after (Changes.refl _ _) (State.modDie_changes _ _ _) rfl)

theorem programDamaged_changes (s : State) (x1 x2 x3 : Nat) :
    Changes [.die, .port, .engine, .stream, .parish, .reeve, .timers] s (programDamaged s x1 x2 x3) := by unfold programDamaged; exact (Changes.ite (Changes.after (Changes.ite (Changes.after (Changes.after (Changes.after (Changes.refl _ _) (engineFault_changes _ _ _ _ _ _) rfl) (haltEngine_changes _ _ _) rfl) (reloadWaits_changes _ _ _) rfl) (Changes.ite (Changes.after (Changes.after (Changes.refl _ _) (engineFault_changes _ _ _ _ _ _) rfl) (retireEngine_changes _ _) rfl) (Changes.after (Changes.after (Changes.refl _ _) (engineFault_changes _ _ _ _ _ _) rfl) (haltEngine_changes _ _ _) rfl))) (dangerReaction_changes _ _) rfl) (Changes.ite (Changes.after (Changes.after (Changes.after (Changes.refl _ _) (engineFault_changes _ _ _ _ _ _) rfl) (haltEngine_changes _ _ _) rfl) (reloadWaits_changes _ _ _) rfl) (Changes.ite (Changes.after (Changes.after (Changes.refl _ _) (engineFault_changes _ _ _ _ _ _) rfl) (retireEngine_changes _ _) rfl) (Changes.after (Changes.after (Changes.refl _ _) (engineFault_changes _ _ _ _ _ _) rfl) (haltEngine_changes _ _ _) rfl))))

theorem memoryFault_changes (s : State) (x1 x2 x3 : Nat) (x4 : Bool) :
    Changes [.die, .stream, .parish, .reeve, .timers] s (memoryFault s x1 x2 x3 x4) := by unfold memoryFault; exact (Changes.after (Changes.refl _ _) (raiseFault_changes _ _ _ _ _ _ _ _) rfl)

theorem nextRotaDamaged_changes (s : State) (x1 : Nat) :
    Changes [.die, .commit] s (nextRotaDamaged s x1) := by unfold nextRotaDamaged; exact (Changes.ite (Changes.trans (Changes.refl _ _) (fun f hf => by cases f <;> first | (cases hf; done) | dsimp only [Piece.same])) (Changes.after (Changes.refl _ _) (State.modDie_changes _ _ _) rfl))

theorem ownershipDamaged_changes (s : State) (x1 x2 : Nat) :
    Changes [.parish, .reeve] s (ownershipDamaged s x1 x2) := by unfold ownershipDamaged; exact (Changes.after (Changes.trans (Changes.refl _ _) (fun f hf => by cases f <;> first | (cases hf; done) | dsimp only [Piece.same])) (parishRecover_changes _ _ _) rfl)

theorem nextMillDamaged_changes (s : State) (x1 x2 : Nat) :
    Changes [.die, .mill, .commit] s (nextMillDamaged s x1 x2) := by unfold nextMillDamaged; exact (Changes.ite (Changes.trans (Changes.after (Changes.after (Changes.refl _ _) (setRotas_changes _ _ _) rfl) (State.modDie_changes _ _ _) rfl) (fun f hf => by cases f <;> first | (cases hf; done) | dsimp only [Piece.same])) (Changes.ite (Changes.after (Changes.after (Changes.refl _ _) (State.modMill_changes _ _ _) rfl) (State.modDie_changes _ _ _) rfl) (Changes.refl _ _)))

theorem ruleDamaged_changes (s : State) (x1 : Nat) :
    Changes [.die, .stream, .rule, .parish, .reeve, .timers] s (ruleDamaged s x1) := by unfold ruleDamaged; exact (Changes.ite (Changes.refl _ _) (Changes.after (Changes.ite (Changes.after (Changes.refl _ _) (ruleOut_changes _ _ _ _ _ _ _) rfl) (Changes.after (Changes.refl _ _) (unprimeRule_changes _ _ _ _) rfl)) (afterRule_changes _ _ _ _) rfl))

theorem lineDamaged_changes (s : State) (x1 x2 : Nat) :
    Changes [.die, .port, .engine, .stream, .tally, .row, .col, .reeve] s (lineDamaged s x1 x2) := by unfold lineDamaged; exact (Changes.ite (Changes.after (Changes.after (Changes.refl _ _) (State.modRow_changes _ _ _) rfl) (setRow_changes _ _ _ _) rfl) (Changes.ite (Changes.after (Changes.after (Changes.after (Changes.after (Changes.refl _ _) (State.modCol_changes _ _ _) rfl) (refreshCol_changes _ _ _ _) rfl) (State.modDie_changes _ _ _) rfl) (soRefresh_changes _) rfl) (Changes.after (Changes.after (Changes.after (Changes.refl _ _) (State.modCol_changes _ _ _) rfl) (refreshCol_changes _ _ _ _) rfl) (soRefresh_changes _) rfl)))

theorem uncorrectable_changes (s : State) (x1 x2 x3 x4 : Nat) :
    Changes [.die, .port, .engine, .stream, .mill, .rule, .tally, .row, .col, .parish, .commit, .reeve, .timers, .fw] s (uncorrectable s x1 x2 x3 x4) := by unfold uncorrectable; exact (by (try dsimp only); split; exacts [(Changes.after (Changes.refl _ _) (programDamaged_changes _ _ _ _) rfl), (Changes.after (Changes.after (Changes.after (Changes.refl _ _) (haltEngine_changes _ _ _) rfl) (reloadWaits_changes _ _ _) rfl) (memoryFault_changes _ _ _ _ _) rfl), (Changes.after (Changes.after (Changes.refl _ _) (State.modDie_changes _ _ _) rfl) (memoryFault_changes _ _ _ _ _) rfl), (Changes.after (Changes.after (Changes.refl _ _) (nextRotaDamaged_changes _ _) rfl) (memoryFault_changes _ _ _ _ _) rfl), (Changes.after (Changes.after (Changes.refl _ _) (ownershipDamaged_changes _ _ _) rfl) (memoryFault_changes _ _ _ _ _) rfl), (Changes.after (Changes.ite (Changes.after (Changes.refl _ _) (nextMillDamaged_changes _ _ _) rfl) (Changes.after (Changes.after (Changes.refl _ _) (State.modMill_changes _ _ _) rfl) (reloadWaits_changes _ _ _) rfl)) (memoryFault_changes _ _ _ _ _) rfl), (Changes.after (Changes.ite (Changes.after (Changes.refl _ _) (nextMillDamaged_changes _ _ _) rfl) (Changes.after (Changes.after (Changes.refl _ _) (State.modMill_changes _ _ _) rfl) (reloadWaits_changes _ _ _) rfl)) (memoryFault_changes _ _ _ _ _) rfl), (Changes.after (Changes.after (Changes.after (Changes.after (Changes.refl _ _) (ruleDamaged_changes _ _) rfl) (reloadWaits_changes _ _ _) rfl) (soRefresh_changes _) rfl) (memoryFault_changes _ _ _ _ _) rfl), (Changes.after (Changes.after (Changes.after (Changes.refl _ _) (lineDamaged_changes _ _ _) rfl) (reloadWaits_changes _ _ _) rfl) (memoryFault_changes _ _ _ _ _) rfl), (Changes.after (Changes.foldl (fun _ _ => (Changes.after (Changes.after (Changes.refl _ _) (State.modTally_changes _ _ _) rfl) (reloadWaits_changes _ _ _) rfl)) (Changes.refl _ _)) (memoryFault_changes _ _ _ _ _) rfl), (Changes.after (Changes.after (Changes.refl _ _) (State.modDie_changes _ _ _) rfl) (memoryFault_changes _ _ _ _ _) rfl), (Changes.after (Changes.trans (Changes.refl _ _) (fun f hf => by cases f <;> first | (cases hf; done) | dsimp only [Piece.same])) (memoryFault_changes _ _ _ _ _) rfl), (Changes.refl _ _)])

theorem calFault_changes (s : State) (x1 x2 x3 x4 : Nat) :
    Changes [.die, .stream, .parish, .reeve, .timers] s (calFault s x1 x2 x3 x4) := by unfold calFault; exact (Changes.after (Changes.refl _ _) (faultItem_changes _ _ _ _ _ _ _) rfl)

theorem judgeItem_changes (s : State) (x1 x2 : Nat) (x3 : List Int) :
    Changes [.die, .port, .stream, .parish, .reeve, .timers] s (judgeItem s x1 x2 x3) := by unfold judgeItem; exact (Changes.foldl (fun _ _ => (Changes.ite (Changes.after (Changes.refl _ _) (State.modPort_changes _ _ _) rfl) (Changes.after (Changes.after (Changes.refl _ _) (calFault_changes _ _ _ _ _) rfl) (State.modPort_changes _ _ _) rfl))) (Changes.refl _ _))

theorem endItem_changes (s : State) (x1 x2 : Nat) :
    Changes [.port] s (endItem s x1 x2) := by unfold endItem; exact (Changes.after (Changes.refl _ _) (State.modPort_changes _ _ _) rfl)

theorem takeSpares_changes (s : State) (x1 x2 x3 : Nat) (x4 : Bool) :
    Changes [.die, .stream, .parish, .reeve, .timers] s (takeSpares s x1 x2 x3 x4) := by unfold takeSpares; exact (Changes.ite (Changes.after (Changes.after (Changes.after (Changes.refl _ _) (calFault_changes _ _ _ _ _) rfl) (calFault_changes _ _ _ _ _) rfl) (requestReason_changes _ _ _) rfl) (Changes.after (Changes.refl _ _) (calFault_changes _ _ _ _ _) rfl))

theorem calRecord_changes (s : State) (x1 x2 x3 x4 x5 x6 : Nat) (x7 : Int) (x8 x9 x10 : Bool) :
    Changes [.die, .stream, .parish, .timers] s (calRecord s x1 x2 x3 x4 x5 x6 x7 x8 x9 x10) := by unfold calRecord; exact (Changes.after (Changes.refl _ _) (ringEnter_changes _ _ _) rfl)

theorem portRunRecord_changes (s : State) (x1 : Nat) :
    Changes [.die, .port, .stream, .parish, .timers] s (portRunRecord s x1) := by unfold portRunRecord; exact (Changes.after (Changes.after (Changes.after (Changes.refl _ _) (calRecord_changes _ _ _ _ _ _ _ _ _ _ _) rfl) (State.modDie_changes _ _ _) rfl) (State.modPort_changes _ _ _) rfl)

theorem settleRun_changes (s : State) (x1 : Nat) :
    Changes [.die, .port, .stream, .parish, .timers] s (settleRun s x1) := by unfold settleRun; exact (Changes.ite (Changes.refl _ _) (Changes.ite (Changes.after (Changes.ite (Changes.refl _ _) (Changes.after (Changes.refl _ _) (portRunRecord_changes _ _) rfl)) (State.modPort_changes _ _ _) rfl) (Changes.ite (Changes.after (Changes.after (Changes.refl _ _) (portRunRecord_changes _ _) rfl) (State.modPort_changes _ _ _) rfl) (Changes.refl _ _))))

theorem portItemDone_changes (s : State) (x1 x2 : Nat) (x3 : List Int) (x4 : List Nat) :
    Changes [.die, .port, .stream, .parish, .reeve, .timers] s (portItemDone s x1 x2 x3 x4) := by unfold portItemDone; exact (Changes.ite (Changes.after (Changes.after (Changes.ite (Changes.after (Changes.after (Changes.after (Changes.refl _ _) (judgeItem_changes _ _ _ _) rfl) (State.modPort_changes _ _ _) rfl) (takeSpares_changes _ _ _ _ _) rfl) (Changes.after (Changes.after (Changes.refl _ _) (judgeItem_changes _ _ _ _) rfl) (State.modPort_changes _ _ _) rfl)) (endItem_changes _ _ _) rfl) (settleRun_changes _ _) rfl) (Changes.after (Changes.after (Changes.after (Changes.ite (Changes.after (Changes.after (Changes.after (Changes.ite (Changes.after (Changes.after (Changes.after (Changes.refl _ _) (judgeItem_changes _ _ _ _) rfl) (State.modPort_changes _ _ _) rfl) (takeSpares_changes _ _ _ _ _) rfl) (Changes.after (Changes.after (Changes.refl _ _) (judgeItem_changes _ _ _ _) rfl) (State.modPort_changes _ _ _) rfl)) (endItem_changes _ _ _) rfl) (State.modPort_changes _ _ _) rfl) (emitterStop_changes _ _) rfl) (Changes.after (Changes.ite (Changes.after (Changes.after (Changes.after (Changes.refl _ _) (judgeItem_changes _ _ _ _) rfl) (State.modPort_changes _ _ _) rfl) (takeSpares_changes _ _ _ _ _) rfl) (Changes.after (Changes.after (Changes.refl _ _) (judgeItem_changes _ _ _ _) rfl) (State.modPort_changes _ _ _) rfl)) (endItem_changes _ _ _) rfl)) (State.modPort_changes _ _ _) rfl) (startItem_changes _ _) rfl) (settleRun_changes _ _) rfl))

theorem execForcedCalWindow_changes (x0 : Nat) (s : State) :
    ChangesOnly [.die, .port, .stream, .parish, .reeve, .timers] s (execForcedCalWindow x0 s) := by unfold execForcedCalWindow; exact (ChangesOnly.withPort (Changes.given (Changes.refl _ _) (Changes.after (Changes.foldl (fun _ _ => (Changes.after (Changes.refl _ _) (State.modSlot_changes _ _ _ _) rfl)) (Changes.after (Changes.ite (Changes.refl _ _) (Changes.after (Changes.refl _ _) (calFault_changes _ _ _ _ _) rfl)) (State.modPort_changes _ _ _) rfl)) (startItem_changes _ _) rfl)))

theorem scrubNext_changes (s : State) (x1 : Nat) :
    Changes [.die] s (scrubNext s x1) := by unfold scrubNext; exact (Changes.after (Changes.refl _ _) (State.modDie_changes _ _ _) rfl)

theorem teleRecord_changes (s : State) (x1 : Stamp) (x2 : Nat) :
    Changes [.die, .stream, .parish, .timers] s (teleRecord s x1 x2) := by unfold teleRecord; exact (Changes.after (Changes.after (Changes.refl _ _) (ringEnter_changes _ _ _) rfl) (State.modDie_changes _ _ _) rfl)

theorem settleDieRun_changes (s : State) (x1 : Nat) :
    Changes [.die, .stream, .parish, .timers] s (settleDieRun s x1) := by unfold settleDieRun; exact (Changes.ite (Changes.refl _ _) (Changes.after (Changes.after (Changes.refl _ _) (calRecord_changes _ _ _ _ _ _ _ _ _ _ _) rfl) (State.modDie_changes _ _ _) rfl))

theorem dieItemDone_changes (s : State) (x1 x2 : Nat) (x3 : List Int) :
    Changes [.die, .stream, .parish, .reeve, .timers] s (dieItemDone s x1 x2 x3) := by unfold dieItemDone; exact (Changes.after (Changes.after (Changes.ite (Changes.after (Changes.ite (Changes.refl _ _) (Changes.after (Changes.refl _ _) (calFault_changes _ _ _ _ _) rfl)) (takeSpares_changes _ _ _ _ _) rfl) (Changes.ite (Changes.refl _ _) (Changes.after (Changes.refl _ _) (calFault_changes _ _ _ _ _) rfl))) (State.modDie_changes _ _ _) rfl) (settleDieRun_changes _ _) rfl)

theorem execTemperatureCheck_changes (x0 : Nat) (x1 : Int) (s : State) :
    ChangesOnly [.die, .port, .power] s (execTemperatureCheck x0 x1 s) := by unfold execTemperatureCheck; exact (ChangesOnly.withDie (Changes.given (Changes.refl _ _) (Changes.foldl (fun _ _ => (Changes.ite (Changes.after (Changes.refl _ _) (calBegin_changes _ _) rfl) (Changes.refl _ _))) (Changes.after (Changes.ite (Changes.after (Changes.refl _ _) (hotNow_changes _) rfl) (Changes.refl _ _)) (State.modDie_changes _ _ _) rfl))))

theorem execRotaFailover_changes (x0 : Nat) (x1 : List (Nat × Nat)) (s : State) :
    ChangesOnly [.die, .stream, .parish, .reeve, .timers] s (execRotaFailover x0 x1 s) := by unfold execRotaFailover; exact (ChangesOnly.withDie (Changes.given (Changes.refl _ _) (Changes.ite (Changes.after (Changes.refl _ _) (State.modDie_changes _ _ _) rfl) (Changes.after (Changes.after (Changes.refl _ _) (State.modDie_changes _ _ _) rfl) (faultItem_changes _ _ _ _ _ _ _) rfl))))

theorem fwErased_changes (s : State) (x1 x2 : Nat) :
    Changes [.die, .stream, .parish, .reeve, .timers] s (fwErased s x1 x2) := by unfold fwErased; exact (Changes.ite (Changes.after (Changes.after (Changes.refl _ _) (State.modDie_changes _ _ _) rfl) (faultItem_changes _ _ _ _ _ _ _) rfl) (Changes.after (Changes.refl _ _) (State.modDie_changes _ _ _) rfl))

theorem corrected_changes (s : State) (x1 : Nat) :
    Changes [.die, .stream, .parish, .reeve, .timers] s (corrected s x1) := by unfold corrected; exact (Changes.ite (Changes.after (Changes.after (Changes.after (Changes.refl _ _) (State.modDie_changes _ _ _) rfl) (faultItem_changes _ _ _ _ _ _ _) rfl) (requestReason_changes _ _ _) rfl) (Changes.after (Changes.refl _ _) (State.modDie_changes _ _ _) rfl))

theorem execScrubWord_changes (x0 x1 x2 x3 x4 : Nat) (s : State) :
    ChangesOnly [.die, .port, .engine, .stream, .mill, .rule, .tally, .row, .col, .parish, .commit, .reeve, .timers, .fw] s (execScrubWord x0 x1 x2 x3 x4 s) := by unfold execScrubWord; exact (ChangesOnly.ite (ChangesOnly.fault _) (ChangesOnly.ite (ChangesOnly.fault _) (ChangesOnly.withUnit (Changes.given (Changes.refl _ _) (Changes.after (Changes.ite (Changes.refl _ _) (Changes.ite (Changes.after (Changes.refl _ _) (corrected_changes _ _) rfl) (Changes.ite (Changes.after (Changes.refl _ _) (State.modDie_changes _ _ _) rfl) (Changes.after (Changes.after (Changes.refl _ _) (State.modDie_changes _ _ _) rfl) (uncorrectable_changes _ _ _ _ _) rfl)))) (scrubNext_changes _ _) rfl)))))

theorem execReloadCopyWrite_changes (x0 x1 x2 : Nat) (s : State) :
    ChangesOnly [.die, .stream, .parish, .reeve, .timers] s (execReloadCopyWrite x0 x1 x2 s) := by unfold execReloadCopyWrite; exact (ChangesOnly.withDie (Changes.given (Changes.refl _ _) (Changes.after (Changes.after (Changes.refl _ _) (State.modDie_changes _ _ _) rfl) (fwErased_changes _ _ _) rfl)))

theorem reapply_changes (s : State) (x1 x2 : Nat) :
    Changes [.die, .port, .engine, .stream, .mill, .rule, .tally, .row, .col, .parish, .reeve, .timers] s (reapply s x1 x2) := by unfold reapply; exact (by (try dsimp only); split; exacts [(Changes.after (Changes.after (Changes.after (Changes.refl _ _) (applyDieKeys_changes _ _ _ _) rfl) (State.modDie_changes _ _ _) rfl) (State.modEng_changes _ _ _) rfl), (Changes.after (Changes.after (Changes.refl _ _) (applyDieKeys_changes _ _ _ _) rfl) (State.modDie_changes _ _ _) rfl)])

theorem execReloadApply_changes (x0 x1 : Nat) (x2 : List (Nat × Nat)) (s : State) :
    ChangesOnly [.die, .port, .engine, .stream, .mill, .rule, .tally, .row, .col, .parish, .conf, .reeve, .timers] s (execReloadApply x0 x1 x2 s) := by unfold execReloadApply; exact (ChangesOnly.withDie (Changes.ite (Changes.trans (Changes.after (Changes.refl _ _) (State.modDie_changes _ _ _) rfl) (fun f hf => by cases f <;> first | (cases hf; done) | dsimp only [Piece.same])) (by (try dsimp only); split; exacts [(Changes.refl _ _), (Changes.given (Changes.refl _ _) (Changes.ite (Changes.after (Changes.refl _ _) (reapply_changes _ _ _) rfl) (Changes.after (Changes.after (Changes.refl _ _) (State.modDie_changes _ _ _) rfl) (faultItem_changes _ _ _ _ _ _ _) rfl)))])))

theorem execCalReq_changes (x0 : Nat) (s : State) :
    ChangesOnly [.net, .die, .port] s (execCalReq x0 s) := by unfold execCalReq; exact (ChangesOnly.next (Changes.given (Changes.after (Changes.refl _ _) (withStatus_changes _ _) rfl) (Changes.after (Changes.refl _ _) (writeCalReq_changes _ _ _) rfl)))

theorem execCalItemDone_changes (x0 x1 : Nat) (x2 : List Int) (x3 : List Nat) (s : State) :
    ChangesOnly [.die, .port, .stream, .parish, .reeve, .timers] s (execCalItemDone x0 x1 x2 x3 s) := by unfold execCalItemDone; exact (ChangesOnly.ite (ChangesOnly.fault _) (ChangesOnly.ite (ChangesOnly.withPort (Changes.given (Changes.refl _ _) (Changes.after (Changes.refl _ _) (portItemDone_changes _ _ _ _ _) rfl))) (ChangesOnly.withDie (Changes.given (Changes.refl _ _) (Changes.after (Changes.refl _ _) (dieItemDone_changes _ _ _ _) rfl)))))

theorem execTelemetryInstant_changes (s : State) :
    ChangesOnly [.die, .stream, .parish, .timers] s (execTelemetryInstant s) := by unfold execTelemetryInstant; exact (ChangesOnly.next (Changes.given (Changes.refl _ _) (Changes.foldl (fun _ _ => (Changes.after (Changes.refl _ _) (teleRecord_changes _ _ _) rfl)) (Changes.refl _ _))))

end Sys2Proof.Machine
end

