-- ==== Sys2Proof/Laws/NetPorts.lean ====
section
/-! SUPPORT. What each function of Sys2Proof/Machine/NetPorts.lean can change. -/

namespace Sys2Proof.Machine

theorem announce_changes (s : State) (x1 : Nat) :
    Changes [.netPorts] s (announce s x1) := by unfold announce; exact (Changes.after (Changes.after (Changes.refl _ _) (hubFrame_changes _ _ _) rfl) (State.modNet_changes _ _ _) rfl)

theorem deliverFrames_changes (s : State) (x1 : List Frame) :
    Changes [.stream] s (deliverFrames s x1) := by unfold deliverFrames; exact (Changes.after (Changes.refl _ _) (deliverKeys_changes _ _) rfl)

theorem moveFrames_changes (s : State) (x1 x2 : Nat) :
    Changes [.netPorts, .stream] s (moveFrames s x1 x2) := by unfold moveFrames; exact (Changes.after (Changes.after (Changes.after (Changes.refl _ _) (State.modNet_changes _ _ _) rfl) (State.modNet_changes _ _ _) rfl) (deliverFrames_changes _ _) rfl)

theorem failover_changes (s : State) (x1 : Nat) :
    Changes [.netPorts, .stream] s (failover s x1) := by unfold failover; exact (Changes.ite (Changes.after (Changes.after (Changes.after (Changes.foldl (fun _ _ => (Changes.after (Changes.refl _ _) (State.modNet_changes _ _ _) rfl)) (Changes.refl _ _)) (State.modNet_changes _ _ _) rfl) (moveFrames_changes _ _ _) rfl) (announce_changes _ _) rfl) (by (try dsimp only); split; exacts [(Changes.after (Changes.foldl (fun _ _ => (Changes.after (Changes.refl _ _) (State.modNet_changes _ _ _) rfl)) (Changes.refl _ _)) (moveFrames_changes _ _ _) rfl), (Changes.foldl (fun _ _ => (Changes.after (Changes.refl _ _) (State.modNet_changes _ _ _) rfl)) (Changes.refl _ _))]))

theorem voterActs_changes (s : State) (x1 : Nat) :
    Changes [.net, .netPorts, .die, .stream, .parish, .timers] s (voterActs s x1) := by unfold voterActs; exact (Changes.ite (Changes.after (Changes.refl _ _) (cancelVote_changes _) rfl) (Changes.refl _ _))

theorem beginSend_changes (s : State) (x1 : Nat) (x2 : Frame) :
    Changes [.ptp, .netPorts] s (beginSend s x1 x2) := by unfold beginSend; exact (Changes.ite (Changes.after (Changes.ite (Changes.after (Changes.after (Changes.refl _ _) (State.modNet_changes _ _ _) rfl) (enqueueFrame_changes _ _ _) rfl) (Changes.after (Changes.refl _ _) (State.modNet_changes _ _ _) rfl)) (State.modPtp_changes _ _ _) rfl) (Changes.ite (Changes.after (Changes.after (Changes.refl _ _) (State.modNet_changes _ _ _) rfl) (enqueueFrame_changes _ _ _) rfl) (Changes.after (Changes.refl _ _) (State.modNet_changes _ _ _) rfl)))

theorem wakeNotice_changes (s : State) (x1 : Nat) :
    Changes [.netPorts, .power] s (wakeNotice s x1) := by unfold wakeNotice; exact (Changes.ite (Changes.refl _ _) (Changes.trans (Changes.after (Changes.refl _ _) (hubFrame_changes _ _ _) rfl) (fun f hf => by cases f <;> first | (cases hf; done) | dsimp only [Piece.same])))

theorem execLinkUp_changes (x0 : Nat) (s : State) :
    ChangesOnly [.netPorts, .stream, .power] s (execLinkUp x0 s) := by unfold execLinkUp; exact (ChangesOnly.withNet (Changes.given (Changes.refl _ _) (Changes.after (Changes.after (by (try dsimp only); split; exacts [(Changes.after (Changes.refl _ _) (State.modNet_changes _ _ _) rfl), (Changes.ite (Changes.after (Changes.refl _ _) (State.modNet_changes _ _ _) rfl) (Changes.after (Changes.after (Changes.after (Changes.refl _ _) (State.modNet_changes _ _ _) rfl) (State.modNet_changes _ _ _) rfl) (moveFrames_changes _ _ _) rfl))]) (announce_changes _ _) rfl) (wakeNotice_changes _ _) rfl)))

theorem withhold_changes (s : State) (x1 : Nat) (x2 : Frame) :
    Changes [.netPorts] s (withhold s x1 x2) := by unfold withhold; exact (Changes.after (Changes.refl _ _) (State.modNet_changes _ _ _) rfl)

theorem execFailback_changes (x0 : Nat) (s : State) :
    ChangesOnly [.netPorts] s (execFailback x0 s) := by unfold execFailback; exact (ChangesOnly.withNet (Changes.given (Changes.refl _ _) (Changes.after (Changes.refl _ _) (State.modNet_changes _ _ _) rfl)))

theorem execSleepAgreement_changes (s : State) :
    ChangesOnly [.net, .netPorts] s (execSleepAgreement s) := by unfold execSleepAgreement; exact (ChangesOnly.next (Changes.given (Changes.refl _ _) (Changes.after (Changes.trans (Changes.refl _ _) (fun f hf => by cases f <;> first | (cases hf; done) | dsimp only [Piece.same])) (voteFrames_changes _ _ _) rfl)))

theorem execDeliveryWindowOpen_changes (x0 x1 : Nat) (s : State) :
    ChangesOnly [.netPorts, .stream] s (execDeliveryWindowOpen x0 x1 s) := by unfold execDeliveryWindowOpen; exact (ChangesOnly.ite (ChangesOnly.fault _) (ChangesOnly.withNet (Changes.given (Changes.refl _ _) (Changes.after (Changes.after (Changes.refl _ _) (State.modNet_changes _ _ _) rfl) (deliverFrames_changes _ _) rfl))))

theorem remoteBegins_changes (s : State) (x1 : Nat) (x2 : Frame) :
    Changes [.netPorts, .stream] s (remoteBegins s x1 x2) := by unfold remoteBegins; exact (Changes.ite (Changes.after (Changes.after (Changes.refl _ _) (State.modNet_changes _ _ _) rfl) (failover_changes _ _) rfl) (Changes.refl _ _))

theorem execCrierWake_changes (x0 : Nat) (s : State) :
    ChangesOnly [.net, .netPorts, .die, .stream, .parish, .timers, .power] s (execCrierWake x0 s) := by unfold execCrierWake; exact (ChangesOnly.withParish (Changes.given (Changes.refl _ _) (Changes.after (Changes.after (Changes.refl _ _) (wakeHost_changes _ _) rfl) (voterActs_changes _ _) rfl)))

theorem execTxDiscardTimeout_changes (x0 : Nat) (s : State) :
    ChangesOnly [.netPorts] s (execTxDiscardTimeout x0 s) := by unfold execTxDiscardTimeout; exact (ChangesOnly.withNet (Changes.given (Changes.refl _ _) (Changes.after (Changes.refl _ _) (State.modNet_changes _ _ _) rfl)))

theorem execEthFrameOther_changes (x0 : Nat) (s : State) :
    ChangesOnly [.net, .netPorts] s (execEthFrameOther x0 s) := by unfold execEthFrameOther; exact (ChangesOnly.withNet (Changes.given (Changes.refl _ _) (Changes.trans (Changes.after (Changes.refl _ _) (countRx_changes _ _) rfl) (fun f hf => by cases f <;> first | (cases hf; done) | dsimp only [Piece.same]))))

theorem execAnnouncePeriodExpiry_changes (x0 : Nat) (s : State) :
    ChangesOnly [.netPorts] s (execAnnouncePeriodExpiry x0 s) := by unfold execAnnouncePeriodExpiry; exact (ChangesOnly.withNet (Changes.given (Changes.refl _ _) (Changes.after (Changes.refl _ _) (announce_changes _ _) rfl)))

theorem execPlcaCycle_changes (x0 : Nat) (s : State) :
    ChangesOnly [.netPorts] s (execPlcaCycle x0 s) := by unfold execPlcaCycle; exact (ChangesOnly.withNet (Changes.given (Changes.refl _ _) (Changes.after (Changes.refl _ _) (State.modNet_changes _ _ _) rfl)))

theorem execPlcaInactive_changes (x0 : Nat) (s : State) :
    ChangesOnly [.netPorts] s (execPlcaInactive x0 s) := by unfold execPlcaInactive; exact (ChangesOnly.withNet (Changes.given (Changes.refl _ _) (Changes.after (Changes.refl _ _) (State.modNet_changes _ _ _) rfl)))

theorem execLinkDown_changes (x0 : Nat) (s : State) :
    ChangesOnly [.netPorts, .die, .stream, .parish, .reeve, .timers] s (execLinkDown x0 s) := by unfold execLinkDown; exact (ChangesOnly.withNet (Changes.given (Changes.refl _ _) (Changes.after (Changes.after (Changes.after (Changes.refl _ _) (State.modNet_changes _ _ _) rfl) (faultItem_changes _ _ _ _ _ _ _) rfl) (failover_changes _ _) rfl)))

theorem execSleepCommitPoint_changes (s : State) :
    ChangesOnly [.net, .netPorts, .sessions, .die, .port, .stream, .parish, .pend, .reeve, .timers, .twin, .power, .fw, .test] s (execSleepCommitPoint s) := by unfold execSleepCommitPoint; exact (ChangesOnly.next (Changes.given (Changes.refl _ _) (Changes.ite (Changes.after (Changes.refl _ _) (cancelVote_changes _) rfl) (Changes.after (Changes.trans (Changes.refl _ _) (fun f hf => by cases f <;> first | (cases hf; done) | dsimp only [Piece.same])) (requestState_changes _ _ _) rfl))))

theorem execTransmitOpportunity_changes (x0 : Nat) (s : State) :
    ChangesOnly [.ptp, .netPorts, .stream] s (execTransmitOpportunity x0 s) := by unfold execTransmitOpportunity; exact (ChangesOnly.withNet (Changes.given (Changes.refl _ _) (by (try dsimp only); split; exacts [(Changes.refl _ _), (Changes.ite (Changes.after (Changes.refl _ _) (withhold_changes _ _ _) rfl) (Changes.after (Changes.after (Changes.refl _ _) (beginSend_changes _ _ _) rfl) (remoteBegins_changes _ _ _) rfl))])))

end Sys2Proof.Machine
end

