-- ==== Sys2Proof/Laws/Commits.lean ====
section
/-! SUPPORT. What each function of Sys2Proof/Machine/Commits.lean can change. -/

namespace Sys2Proof.Machine

theorem bumpGen_changes (s : State) (x1 : Nat) :
    Changes [.gens] s (bumpGen s x1) := by unfold bumpGen; exact (Changes.trans (Changes.refl _ _) (fun f hf => by cases f <;> first | (cases hf; done) | dsimp only [Piece.same]))

theorem discardMask_changes (s : State) (x1 : Nat) :
    Changes [.die, .pend, .gens] s (discardMask s x1) := by unfold discardMask; exact (Changes.after (Changes.foldl (fun _ _ => (Changes.after (Changes.refl _ _) (bumpGen_changes _ _) rfl)) (Changes.trans (Changes.refl _ _) (fun f hf => by cases f <;> first | (cases hf; done) | dsimp only [Piece.same]))) (setRotas_changes _ _ _) rfl)

theorem commitEmpty_changes (s : State) :
    Changes [.parish, .commit] s (commitEmpty s) := by unfold commitEmpty; exact (Changes.after (Changes.trans (Changes.refl _ _) (fun f hf => by cases f <;> first | (cases hf; done) | dsimp only [Piece.same])) (disarm_changes _) rfl)

theorem clearRefuse_changes (s : State) :
    Changes [.parish] s (clearRefuse s) := by unfold clearRefuse; exact (Changes.trans (Changes.refl _ _) (fun f hf => by cases f <;> first | (cases hf; done) | dsimp only [Piece.same]))

theorem writeBank_changes (s : State) (x1 : Nat) :
    Changes [.die] s (writeBank s x1) := by unfold writeBank; exact (by (try dsimp only); split; exacts [(Changes.after (Changes.refl _ _) (State.modDie_changes _ _ _) rfl), (Changes.refl _ _)])

theorem commitAccepted_changes (s : State) (x1 : Nat) (x2 : Bool) (x3 : List Nat) :
    Changes [.die, .parish, .commit] s (commitAccepted s x1 x2 x3) := by unfold commitAccepted; exact (Changes.after (Changes.trans (Changes.after (Changes.foldl (fun _ _ => (Changes.after (Changes.refl _ _) (writeBank_changes _ _) rfl)) (Changes.ite (Changes.after (Changes.refl _ _) (clearRefuse_changes _) rfl) (Changes.refl _ _))) (setRotas_changes _ _ _) rfl) (fun f hf => by cases f <;> first | (cases hf; done) | dsimp only [Piece.same])) (disarm_changes _) rfl)

theorem commitAct_changes (s : State) (x1 : Nat) :
    Changes [.die, .parish, .pend, .gens, .commit] s (commitAct s x1) := by unfold commitAct; exact (Changes.ite (Changes.after (Changes.refl _ _) (discardMask_changes _ _) rfl) (Changes.ite (Changes.after (Changes.refl _ _) (commitEmpty_changes _) rfl) (Changes.after (Changes.refl _ _) (commitAccepted_changes _ _ _ _) rfl)))

theorem applyMark_changes (s : State) (x1 : Who) (x2 : RefusalMark) :
    Changes [.die, .stream, .parish, .reeve, .timers] s (applyMark s x1 x2) := by unfold applyMark; exact (by (try dsimp only); split; exacts [(Changes.refl _ _), (Changes.after (Changes.refl _ _) (State.modDie_changes _ _ _) rfl), (Changes.after (Changes.refl _ _) (State.modDie_changes _ _ _) rfl), (Changes.after (Changes.refl _ _) (State.modDie_changes _ _ _) rfl), (Changes.after (Changes.refl _ _) (State.modDie_changes _ _ _) rfl), (Changes.foldl (fun _ _ => (Changes.after (Changes.refl _ _) (State.modPar_changes _ _ _) rfl)) (Changes.refl _ _)), (Changes.after (Changes.after (Changes.refl _ _) (State.modPar_changes _ _ _) rfl) (armViolation_changes _ _ _ _ _) rfl)])

theorem commitRefused_changes (s : State) (x1 : Who) (x2 : Nat) (x3 : CommitFail) :
    Changes [.die, .stream, .parish, .commit, .reeve, .timers] s (commitRefused s x1 x2 x3) := by unfold commitRefused; exact (Changes.after (Changes.trans (Changes.after (Changes.after (Changes.ite (Changes.after (Changes.refl _ _) (clearRefuse_changes _) rfl) (Changes.refl _ _)) (setRotas_changes _ _ _) rfl) (applyMark_changes _ _ _) rfl) (fun f hf => by cases f <;> first | (cases hf; done) | dsimp only [Piece.same])) (disarm_changes _) rfl)

theorem commitLeaves_changes (s x1 : State) (x2 : Who) (x3 : Nat) :
    Changes [.die, .stream, .parish, .commit, .reeve, .timers] s (commitLeaves s x1 x2 x3) := by unfold commitLeaves; exact (Changes.ite (Changes.after (Changes.refl _ _) (violation_changes _ _ _ _ _ _ _ _) rfl) (Changes.ite (Changes.refl _ _) (by (try dsimp only); split; exacts [(Changes.after (Changes.refl _ _) (commitRefused_changes _ _ _ _) rfl), (Changes.refl _ _)])))

theorem writeCommit_changes (s : State) (x1 : Who) (x2 : Nat) :
    Changes [.net, .die, .stream, .parish, .pend, .gens, .commit, .reeve, .timers] s (writeCommit s x1 x2) := by unfold writeCommit; exact (Changes.after (Changes.ite (Changes.after (Changes.refl _ _) (commitAct_changes _ _) rfl) (Changes.after (Changes.refl _ _) (commitLeaves_changes _ _ _ _) rfl)) (withStatus_changes _ _) rfl)

theorem execDiscardPending_changes (x0 x1 : Nat) (s : State) :
    ChangesOnly [.net, .die, .stream, .parish, .pend, .gens, .commit, .reeve, .timers] s (execDiscardPending x0 x1 s) := by unfold execDiscardPending; exact (ChangesOnly.withParish (Changes.after (Changes.refl _ _) (writeCommit_changes _ _ _) rfl))

theorem execCommitPending_changes (x0 x1 x2 : Nat) (s : State) :
    ChangesOnly [.net, .die, .stream, .parish, .pend, .gens, .commit, .reeve, .timers] s (execCommitPending x0 x1 x2 s) := by unfold execCommitPending; exact (ChangesOnly.withParish (Changes.after (Changes.refl _ _) (writeCommit_changes _ _ _) rfl))

theorem execApplyPending_changes (x0 x1 x2 : Nat) (s : State) :
    ChangesOnly [.net, .die, .stream, .parish, .pend, .gens, .commit, .reeve, .timers] s (execApplyPending x0 x1 x2 s) := by unfold execApplyPending; exact (ChangesOnly.withParish (Changes.after (Changes.refl _ _) (writeCommit_changes _ _ _) rfl))

theorem execPersistDone_changes (x0 : Nat) (s : State) :
    ChangesOnly [.die, .stream, .parish, .pend, .persisted, .persistedOther, .persistedBad, .commit, .reeve, .timers, .fw] s (execPersistDone x0 s) := by unfold execPersistDone; exact (ChangesOnly.next (Changes.given (Changes.refl _ _) (Changes.after (Changes.trans (Changes.refl _ _) (fun f hf => by cases f <;> first | (cases hf; done) | dsimp only [Piece.same])) (fwErased_changes _ _ _) rfl)))

end Sys2Proof.Machine
end

