-- ==== Sys2Proof/Laws/Ring.lean ====
section
/-! SUPPORT. What each function of Sys2Proof/Machine/Ring.lean can change. -/

namespace Sys2Proof.Machine

theorem execLeadLost_changes (x0 : Nat) (s : State) :
    ChangesOnly [.die, .stream, .parish, .reeve, .timers] s (execLeadLost x0 s) := by unfold execLeadLost; exact (ChangesOnly.withDie (Changes.given (Changes.refl _ _) (Changes.after (Changes.after (Changes.after (Changes.refl _ _) (State.modDie_changes _ _ _) rfl) (soRefresh_changes _) rfl) (raiseFault_changes _ _ _ _ _ _ _ _) rfl)))

theorem execLeadHeartbeat_changes (x0 : Nat) (s : State) :
    ChangesOnly [.die] s (execLeadHeartbeat x0 s) := by unfold execLeadHeartbeat; exact (ChangesOnly.withDie (Changes.given (Changes.refl _ _) (Changes.after (Changes.refl _ _) (State.modDie_changes _ _ _) rfl)))

theorem resend_changes (s : State) (x1 x2 x3 : Nat) :
    Changes [.die] s (resend s x1 x2 x3) := by unfold resend; exact (Changes.after (Changes.refl _ _) (State.modDie_changes _ _ _) rfl)

theorem takeFrame_changes (s : State) (x1 : Nat) (x2 : RingFrame) :
    Changes [.die] s (takeFrame s x1 x2) := by unfold takeFrame; exact (Changes.ite (Changes.after (Changes.refl _ _) (State.modDie_changes _ _ _) rfl) (Changes.after (Changes.refl _ _) (keepFrame_changes _ _ _) rfl))

theorem execRingFrameReceive_changes (x0 x1 x2 x3 : Nat) (x4 : Bool) (s : State) :
    ChangesOnly [.die] s (execRingFrameReceive x0 x1 x2 x3 x4 s) := by unfold execRingFrameReceive; exact (ChangesOnly.ite (ChangesOnly.fault _) (ChangesOnly.withUnit (Changes.given (Changes.refl _ _) (Changes.ite (Changes.after (Changes.refl _ _) (State.modDie_changes _ _ _) rfl) (by (try dsimp only); split; exacts [(Changes.refl _ _), (Changes.given (Changes.refl _ _) (Changes.after (Changes.after (Changes.after (Changes.refl _ _) (State.modDie_changes _ _ _) rfl) (State.modDie_changes _ _ _) rfl) (takeFrame_changes _ _ _) rfl))])))))

theorem directRequest_changes (s : State) (x1 x2 : Nat) (x3 : Bool) :
    Changes [.die, .stream, .reeve] s (directRequest s x1 x2 x3) := by unfold directRequest; exact (Changes.after (Changes.after (Changes.refl _ _) (State.modDie_changes _ _ _) rfl) (soRefresh_changes _) rfl)

theorem execSidebandPairFault_changes (x0 x1 : Nat) (s : State) :
    ChangesOnly [.die, .stream, .parish, .reeve, .timers] s (execSidebandPairFault x0 x1 s) := by unfold execSidebandPairFault; exact (ChangesOnly.withDie (Changes.after (Changes.after (Changes.refl _ _) (directRequest_changes _ _ _ _) rfl) (raiseFault_changes _ _ _ _ _ _ _ _) rfl))

theorem execRingLinkLost_changes (x0 : Nat) (s : State) :
    ChangesOnly [.die, .port, .stream, .parish, .reeve, .timers, .test] s (execRingLinkLost x0 s) := by unfold execRingLinkLost; exact (ChangesOnly.withUnit (Changes.given (Changes.refl _ _) (Changes.ite (Changes.after (Changes.after (Changes.trans (Changes.refl _ _) (fun f hf => by cases f <;> first | (cases hf; done) | dsimp only [Piece.same])) (resend_changes _ _ _ _) rfl) (resend_changes _ _ _ _) rfl) (Changes.ite (Changes.after (Changes.after (Changes.after (Changes.after (Changes.trans (Changes.refl _ _) (fun f hf => by cases f <;> first | (cases hf; done) | dsimp only [Piece.same])) (resend_changes _ _ _ _) rfl) (resend_changes _ _ _ _) rfl) (raiseFault_changes _ _ _ _ _ _ _ _) rfl) (requestReason_changes _ _ _) rfl) (Changes.foldl (fun _ _ => (Changes.ite (Changes.after (Changes.refl _ _) (loseDie_changes _ _) rfl) (Changes.refl _ _))) (Changes.after (Changes.after (Changes.after (Changes.after (Changes.trans (Changes.refl _ _) (fun f hf => by cases f <;> first | (cases hf; done) | dsimp only [Piece.same])) (resend_changes _ _ _ _) rfl) (resend_changes _ _ _ _) rfl) (raiseFault_changes _ _ _ _ _ _ _ _) rfl) (requestReason_changes _ _ _) rfl))))))

theorem execSafetyOutputTripRequest_changes (x0 x1 : Nat) (x2 : Bool) (s : State) :
    ChangesOnly [.die, .stream, .reeve] s (execSafetyOutputTripRequest x0 x1 x2 s) := by unfold execSafetyOutputTripRequest; exact (ChangesOnly.withDie (Changes.after (Changes.refl _ _) (directRequest_changes _ _ _ _) rfl))

theorem execMatrixTripConfirmed_changes (x0 x1 : Nat) (s : State) :
    ChangesOnly [.die, .stream, .reeve] s (execMatrixTripConfirmed x0 x1 s) := by unfold execMatrixTripConfirmed; exact (ChangesOnly.withDie (Changes.given (Changes.refl _ _) (Changes.after (Changes.after (Changes.refl _ _) (State.modDie_changes _ _ _) rfl) (soRefresh_changes _) rfl)))

theorem execLeadHeartbeatSend_changes (s : State) :
    ChangesOnly [.die] s (execLeadHeartbeatSend s) := by unfold execLeadHeartbeatSend; exact (ChangesOnly.next (Changes.given (Changes.refl _ _) (Changes.foldl (fun _ _ => (Changes.ite (Changes.refl _ _) (Changes.after (Changes.refl _ _) (ringSend_changes _ _) rfl))) (Changes.after (Changes.refl _ _) (State.modDie_changes _ _ _) rfl))))

end Sys2Proof.Machine
end

