-- ==== Sys2Proof/Laws/StartUp.lean ====
section
/-! SUPPORT. What each function of Sys2Proof/Machine/StartUp.lean can change. -/

namespace Sys2Proof.Machine

theorem writeReset_changes (s : State) (x1 : Nat) :
    Changes Piece.served s (writeReset s x1) := by unfold writeReset; exact (Changes.ite (Changes.after (Changes.after (Changes.refl _ _) (resetPart_changes _ _) rfl) (restart_changes _) rfl) (Changes.after (Changes.refl _ _) (withStatus_changes _ _) rfl))

theorem selfTestAct_changes (s : State) (x1 : Nat) :
    Changes [.test] s (selfTestAct s x1) := by unfold selfTestAct; exact (Changes.ite (Changes.trans (Changes.refl _ _) (fun f hf => by cases f <;> first | (cases hf; done) | dsimp only [Piece.same])) (Changes.refl _ _))

theorem writeSelfTest_changes (s : State) (x1 : Nat) :
    Changes [.net, .test] s (writeSelfTest s x1) := by unfold writeSelfTest; exact (Changes.ite (Changes.after (Changes.after (Changes.refl _ _) (selfTestAct_changes _ _) rfl) (withStatus_changes _ _) rfl) (Changes.after (Changes.refl _ _) (withStatus_changes _ _) rfl))

theorem portLoopAct_changes (s : State) (x1 x2 : Nat) :
    Changes [.die, .port, .engine, .stream, .reeve] s (portLoopAct s x1 x2) := by unfold portLoopAct; exact (Changes.ite (Changes.refl _ _) (Changes.after (Changes.after (Changes.refl _ _) (quarantineOps_changes _ _) rfl) (State.modPort_changes _ _ _) rfl))

theorem writePortLoop_changes (s : State) (x1 x2 : Nat) :
    Changes [.net, .die, .port, .engine, .stream, .reeve] s (writePortLoop s x1 x2) := by unfold writePortLoop; exact (Changes.ite (Changes.after (Changes.after (Changes.refl _ _) (portLoopAct_changes _ _ _) rfl) (withStatus_changes _ _) rfl) (Changes.after (Changes.refl _ _) (withStatus_changes _ _) rfl))

theorem endRemote_changes (s : State) (x1 : Nat) :
    Changes [.netPorts] s (endRemote s x1) := by unfold endRemote; exact (Changes.after (Changes.refl _ _) (State.modNet_changes _ _ _) rfl)

theorem netLoopAct_changes (s : State) (x1 x2 : Nat) (x3 : Bool) :
    Changes [.netPorts, .stream] s (netLoopAct s x1 x2 x3) := by unfold netLoopAct; exact (Changes.ite (Changes.ite (Changes.after (Changes.refl _ _) (endRemote_changes _ _) rfl) (Changes.refl _ _)) (Changes.ite (Changes.after (Changes.refl _ _) (State.modNet_changes _ _ _) rfl) (Changes.after (Changes.after (Changes.refl _ _) (State.modNet_changes _ _ _) rfl) (failover_changes _ _) rfl)))

theorem twinLoopAct_changes (s : State) (x1 : Nat) :
    Changes [.twin] s (twinLoopAct s x1) := by unfold twinLoopAct; exact (Changes.ite (Changes.refl _ _) (Changes.trans (Changes.refl _ _) (fun f hf => by cases f <;> first | (cases hf; done) | dsimp only [Piece.same])))

theorem writeTwinLoop_changes (s : State) (x1 : Nat) :
    Changes [.net, .twin] s (writeTwinLoop s x1) := by unfold writeTwinLoop; exact (Changes.ite (Changes.after (Changes.after (Changes.refl _ _) (twinLoopAct_changes _ _) rfl) (withStatus_changes _ _) rfl) (Changes.after (Changes.refl _ _) (withStatus_changes _ _) rfl))

theorem withRingLoop_changes (s : State) (x1 x2 : Nat) :
    Changes [.test] s (withRingLoop s x1 x2) := by unfold withRingLoop; exact (Changes.trans (Changes.refl _ _) (fun f hf => by cases f <;> first | (cases hf; done) | dsimp only [Piece.same]))

theorem ringLoopAct_changes (s : State) (x1 x2 : Nat) :
    Changes [.test] s (ringLoopAct s x1 x2) := by unfold ringLoopAct; exact (Changes.ite (Changes.refl _ _) (Changes.trans (Changes.after (Changes.refl _ _) (withRingLoop_changes _ _ _) rfl) (fun f hf => by cases f <;> first | (cases hf; done) | dsimp only [Piece.same])))

theorem writeRingLoop_changes (s : State) (x1 x2 : Nat) :
    Changes [.net, .test] s (writeRingLoop s x1 x2) := by unfold writeRingLoop; exact (Changes.ite (Changes.after (Changes.after (Changes.refl _ _) (ringLoopAct_changes _ _ _) rfl) (withStatus_changes _ _) rfl) (Changes.after (Changes.refl _ _) (withStatus_changes _ _) rfl))

theorem startOver_changes (x0 s : State) :
    Changes [.net, .netPorts, .sessions, .die, .port, .stream, .parish, .pend, .reeve, .timers, .twin, .power, .fw, .test] s (startOver x0 s) := by unfold startOver; exact (Changes.ite (Changes.after (Changes.refl _ _) (servePending_changes _) rfl) (Changes.refl _ _))

theorem execParishStateChange_changes (x0 x1 : Nat) (s : State) :
    ChangesOnly [.net, .netPorts, .sessions, .die, .port, .engine, .stream, .rule, .tally, .row, .col, .parish, .pend, .reeve, .timers, .twin, .power, .fw, .test] s (execParishStateChange x0 x1 s) := by unfold execParishStateChange; exact (ChangesOnly.ite (ChangesOnly.fault _) (ChangesOnly.withParish (Changes.given (Changes.refl _ _) (Changes.after (Changes.after (Changes.refl _ _) (takeState_changes _ _ _) rfl) (startOver_changes _ _) rfl))))

theorem execDieStartupTimeout_changes (x0 : Nat) (s : State) :
    ChangesOnly [.die, .port, .stream, .parish, .reeve, .timers] s (execDieStartupTimeout x0 s) := by unfold execDieStartupTimeout; exact (ChangesOnly.withDie (Changes.given (Changes.refl _ _) (Changes.after (Changes.refl _ _) (loseDie_changes _ _) rfl)))

theorem tearPages_changes (s : State) (x1 : List (Nat × Nat × Nat)) :
    Changes [.die] s (tearPages s x1) := by unfold tearPages; exact (Changes.foldl (fun _ _ => (Changes.after (Changes.refl _ _) (tearPage_changes _ _ _ _) rfl)) (Changes.refl _ _))

theorem execVinDip_changes (x0 : List (Nat × Nat)) (x1 : List Nat) (s : State) :
    ChangesOnly Piece.served s (execVinDip x0 x1 s) := by unfold execVinDip; exact (ChangesOnly.next (Changes.given (Changes.refl _ _) (Changes.trans (Changes.after (Changes.after (Changes.refl _ _) (tearPages_changes _ _) rfl) (resetPart_changes _ _) rfl) (fun f hf => by cases f <;> first | (cases hf; done) | dsimp only [Piece.same]))))

theorem writeNetLoop_changes (s : State) (x1 x2 x3 : Nat) :
    Changes [.net, .netPorts, .stream] s (writeNetLoop s x1 x2 x3) := by unfold writeNetLoop; exact (Changes.ite (Changes.after (Changes.after (Changes.refl _ _) (netLoopAct_changes _ _ _ _) rfl) (withStatus_changes _ _) rfl) (Changes.after (Changes.refl _ _) (withStatus_changes _ _) rfl))

theorem execNetLoopRemote_changes (x0 x1 : Nat) (s : State) :
    ChangesOnly [.net, .netPorts, .stream] s (execNetLoopRemote x0 x1 s) := by unfold execNetLoopRemote; exact (ChangesOnly.next (Changes.given (Changes.after (Changes.refl _ _) (withStatus_changes _ _) rfl) (Changes.after (Changes.refl _ _) (writeNetLoop_changes _ _ _ _) rfl)))

theorem execFrameBegin_changes (x0 : Nat) (s : State) :
    ChangesOnly Piece.served s (execFrameBegin x0 s) := by unfold execFrameBegin; exact (ChangesOnly.withDie (Changes.given (Changes.refl _ _) (Changes.after (Changes.after (Changes.after (Changes.after (Changes.refl _ _) (pointRecord_changes _ _) rfl) (boundary_changes _ _) rfl) (beginFrame_changes _ _) rfl) (startOver_changes _ _) rfl)))

theorem execPortLoopL3_changes (x0 : Nat) (s : State) :
    ChangesOnly [.net, .die, .port, .engine, .stream, .reeve] s (execPortLoopL3 x0 s) := by unfold execPortLoopL3; exact (ChangesOnly.next (Changes.given (Changes.after (Changes.refl _ _) (withStatus_changes _ _) rfl) (Changes.after (Changes.refl _ _) (writePortLoop_changes _ _ _) rfl)))

theorem rebooted_changes (x0 s : State) :
    Changes Piece.restarted s (rebooted x0 s) := by unfold rebooted; exact (Changes.ite (Changes.after (Changes.refl _ _) (restart_changes _) rfl) (Changes.refl _ _))

theorem execWatchdogService_changes (x0 : Nat) (s : State) :
    ChangesOnly Piece.served s (execWatchdogService x0 s) := by unfold execWatchdogService; exact (ChangesOnly.withDie (Changes.given (Changes.refl _ _) (Changes.ite (Changes.after (Changes.refl _ _) (State.modDie_changes _ _ _) rfl) (Changes.ite (Changes.after (Changes.after (Changes.after (Changes.refl _ _) (State.modDie_changes _ _ _) rfl) (dieReaction_changes _ _ _ _ _) rfl) (rebooted_changes _ _) rfl) (Changes.ite (Changes.after (Changes.after (Changes.after (Changes.refl _ _) (State.modDie_changes _ _ _) rfl) (dieReaction_changes _ _ _ _ _) rfl) (rebooted_changes _ _) rfl) (Changes.after (Changes.refl _ _) (State.modDie_changes _ _ _) rfl))))))

theorem execResetWrite_changes (x0 : Nat) (s : State) :
    ChangesOnly Piece.served s (execResetWrite x0 s) := by unfold execResetWrite; exact (ChangesOnly.next (Changes.after (Changes.refl _ _) (writeReset_changes _ _) rfl))

theorem execSelfTest_changes (x0 : Nat) (s : State) :
    ChangesOnly [.net, .test] s (execSelfTest x0 s) := by unfold execSelfTest; exact (ChangesOnly.next (Changes.after (Changes.refl _ _) (writeSelfTest_changes _ _) rfl))

theorem execWakePinStart_changes (s : State) :
    ChangesOnly Piece.restarted s (execWakePinStart s) := by unfold execWakePinStart; exact (ChangesOnly.next (Changes.given (Changes.refl _ _) (Changes.after (Changes.trans (Changes.refl _ _) (fun f hf => by cases f <;> first | (cases hf; done) | dsimp only [Piece.same])) (restart_changes _) rfl)))

theorem execTwinLoopNear_changes (s : State) :
    ChangesOnly [.net, .twin] s (execTwinLoopNear s) := by unfold execTwinLoopNear; exact (ChangesOnly.next (Changes.after (Changes.refl _ _) (writeTwinLoop_changes _ _) rfl))

theorem execNetLoopStop_changes (x0 x1 : Nat) (s : State) :
    ChangesOnly [.net, .netPorts, .stream] s (execNetLoopStop x0 x1 s) := by unfold execNetLoopStop; exact (ChangesOnly.next (Changes.given (Changes.after (Changes.refl _ _) (withStatus_changes _ _) rfl) (Changes.after (Changes.refl _ _) (writeNetLoop_changes _ _ _ _) rfl)))

theorem execVinValid_changes (x0 : Nat) (x1 x2 : Bool) (x3 : Nat) (x4 : Bool) (x5 : List (Nat × Nat × Nat)) (x6 : Nat) (s : State) :
    ChangesOnly (Piece.restarted ++ [.cmptStrap, .testen]) s (execVinValid x0 x1 x2 x3 x4 x5 x6 s) := by unfold execVinValid; exact (ChangesOnly.next (Changes.given (Changes.refl _ _) (Changes.after (Changes.trans (Changes.refl _ _) (fun f hf => by cases f <;> first | (cases hf; done) | dsimp only [Piece.same])) (restart_changes _) rfl)))

theorem execSelfTestDone_changes (x0 : Nat) (s : State) :
    ChangesOnly [.die, .stream, .test] s (execSelfTestDone x0 s) := by unfold execSelfTestDone; exact (ChangesOnly.next (Changes.given (Changes.refl _ _) (Changes.trans (Changes.foldl (fun _ _ => (Changes.after (Changes.refl _ _) (State.modDie_changes _ _ _) rfl)) (Changes.refl _ _)) (fun f hf => by cases f <;> first | (cases hf; done) | dsimp only [Piece.same]))))

theorem execLoopbackDone_changes (x0 x1 x2 x3 : Nat) (s : State) :
    ChangesOnly [.netPorts, .port, .twin, .test] s (execLoopbackDone x0 x1 x2 x3 s) := by unfold execLoopbackDone; exact (ChangesOnly.ite (ChangesOnly.fault _) (ChangesOnly.ite (ChangesOnly.withPort (Changes.given (Changes.refl _ _) (Changes.after (Changes.refl _ _) (State.modPort_changes _ _ _) rfl))) (ChangesOnly.ite (ChangesOnly.withNet (Changes.given (Changes.refl _ _) (Changes.after (Changes.refl _ _) (State.modNet_changes _ _ _) rfl))) (ChangesOnly.ite (ChangesOnly.next (Changes.given (Changes.refl _ _) (Changes.trans (Changes.refl _ _) (fun f hf => by cases f <;> first | (cases hf; done) | dsimp only [Piece.same])))) (ChangesOnly.withUnit (Changes.given (Changes.refl _ _) (Changes.trans (Changes.refl _ _) (fun f hf => by cases f <;> first | (cases hf; done) | dsimp only [Piece.same]))))))))

theorem execLockstepMismatch_changes (x0 : Nat) (s : State) :
    ChangesOnly Piece.served s (execLockstepMismatch x0 s) := by unfold execLockstepMismatch; exact (ChangesOnly.withDie (Changes.given (Changes.refl _ _) (Changes.after (Changes.after (Changes.refl _ _) (dieReaction_changes _ _ _ _ _) rfl) (rebooted_changes _ _) rfl)))

theorem execWatchdogTimeout_changes (x0 : Nat) (s : State) :
    ChangesOnly Piece.served s (execWatchdogTimeout x0 s) := by unfold execWatchdogTimeout; exact (ChangesOnly.withDie (Changes.given (Changes.refl _ _) (Changes.after (Changes.after (Changes.refl _ _) (dieReaction_changes _ _ _ _ _) rfl) (rebooted_changes _ _) rfl)))

theorem execThermalShutdown_changes (x0 : Nat) (x1 : Int) (x2 x3 : List Nat) (s : State) :
    ChangesOnly Piece.served s (execThermalShutdown x0 x1 x2 x3 s) := by unfold execThermalShutdown; exact (ChangesOnly.withDie (Changes.given (Changes.refl _ _) (Changes.trans (Changes.after (Changes.after (Changes.after (Changes.after (Changes.refl _ _) (State.modDie_changes _ _ _) rfl) (raiseFault_changes _ _ _ _ _ _ _ _) rfl) (tearPages_changes _ _) rfl) (resetPart_changes _ _) rfl) (fun f hf => by cases f <;> first | (cases hf; done) | dsimp only [Piece.same]))))

theorem execRelockTimeout_changes (x0 : Nat) (s : State) :
    ChangesOnly Piece.served s (execRelockTimeout x0 s) := by unfold execRelockTimeout; exact (ChangesOnly.withDie (Changes.given (Changes.refl _ _) (Changes.ite (Changes.after (Changes.after (Changes.refl _ _) (State.modDie_changes _ _ _) rfl) (faultItem_changes _ _ _ _ _ _ _) rfl) (Changes.ite (Changes.after (Changes.after (Changes.after (Changes.after (Changes.after (Changes.refl _ _) (State.modDie_changes _ _ _) rfl) (State.modDie_changes _ _ _) rfl) (raiseFault_changes _ _ _ _ _ _ _ _) rfl) (resetPart_changes _ _) rfl) (rebooted_changes _ _) rfl) (Changes.after (Changes.after (Changes.after (Changes.after (Changes.after (Changes.refl _ _) (State.modDie_changes _ _ _) rfl) (State.modDie_changes _ _ _) rfl) (raiseFault_changes _ _ _ _ _ _ _ _) rfl) (loseDie_changes _ _) rfl) (opDone_changes _) rfl)))))

theorem execThermalRestart_changes (x0 : List Int) (s : State) :
    ChangesOnly Piece.restarted s (execThermalRestart x0 s) := by unfold execThermalRestart; exact (ChangesOnly.next (Changes.given (Changes.refl _ _) (Changes.after (Changes.trans (Changes.foldl (fun _ _ => (Changes.after (Changes.refl _ _) (State.modDie_changes _ _ _) rfl)) (Changes.refl _ _)) (fun f hf => by cases f <;> first | (cases hf; done) | dsimp only [Piece.same])) (restart_changes _) rfl)))

theorem execPortLoopL0_changes (x0 : Nat) (s : State) :
    ChangesOnly [.net, .die, .port, .engine, .stream, .reeve] s (execPortLoopL0 x0 s) := by unfold execPortLoopL0; exact (ChangesOnly.next (Changes.given (Changes.after (Changes.refl _ _) (withStatus_changes _ _) rfl) (Changes.after (Changes.refl _ _) (writePortLoop_changes _ _ _) rfl)))

theorem execPortLoopL1_changes (x0 : Nat) (s : State) :
    ChangesOnly [.net, .die, .port, .engine, .stream, .reeve] s (execPortLoopL1 x0 s) := by unfold execPortLoopL1; exact (ChangesOnly.next (Changes.given (Changes.after (Changes.refl _ _) (withStatus_changes _ _) rfl) (Changes.after (Changes.refl _ _) (writePortLoop_changes _ _ _) rfl)))

theorem execPortLoopL2_changes (x0 : Nat) (s : State) :
    ChangesOnly [.net, .die, .port, .engine, .stream, .reeve] s (execPortLoopL2 x0 s) := by unfold execPortLoopL2; exact (ChangesOnly.next (Changes.given (Changes.after (Changes.refl _ _) (withStatus_changes _ _) rfl) (Changes.after (Changes.refl _ _) (writePortLoop_changes _ _ _) rfl)))

theorem execNetLoopMac_changes (x0 x1 : Nat) (s : State) :
    ChangesOnly [.net, .netPorts, .stream] s (execNetLoopMac x0 x1 s) := by unfold execNetLoopMac; exact (ChangesOnly.next (Changes.given (Changes.after (Changes.refl _ _) (withStatus_changes _ _) rfl) (Changes.after (Changes.refl _ _) (writeNetLoop_changes _ _ _ _) rfl)))

theorem execNetLoopPcs_changes (x0 x1 : Nat) (s : State) :
    ChangesOnly [.net, .netPorts, .stream] s (execNetLoopPcs x0 x1 s) := by unfold execNetLoopPcs; exact (ChangesOnly.next (Changes.given (Changes.after (Changes.refl _ _) (withStatus_changes _ _) rfl) (Changes.after (Changes.refl _ _) (writeNetLoop_changes _ _ _ _) rfl)))

theorem execNetLoopPma_changes (x0 x1 : Nat) (s : State) :
    ChangesOnly [.net, .netPorts, .stream] s (execNetLoopPma x0 x1 s) := by unfold execNetLoopPma; exact (ChangesOnly.next (Changes.given (Changes.after (Changes.refl _ _) (withStatus_changes _ _) rfl) (Changes.after (Changes.refl _ _) (writeNetLoop_changes _ _ _ _) rfl)))

theorem execRemoteFrameReflect_changes (x0 : Nat) (x1 : List Byte) (s : State) :
    ChangesOnly [.netPorts] s (execRemoteFrameReflect x0 x1 s) := by unfold execRemoteFrameReflect; exact (ChangesOnly.withNet (Changes.given (Changes.refl _ _) (Changes.after (Changes.refl _ _) (State.modNet_changes _ _ _) rfl)))

theorem execLoopTimeoutExpiry_changes (x0 : Nat) (s : State) :
    ChangesOnly [.netPorts] s (execLoopTimeoutExpiry x0 s) := by unfold execLoopTimeoutExpiry; exact (ChangesOnly.withNet (Changes.given (Changes.refl _ _) (Changes.after (Changes.refl _ _) (endRemote_changes _ _) rfl)))

theorem execTwinLoopFar_changes (s : State) :
    ChangesOnly [.net, .twin] s (execTwinLoopFar s) := by unfold execTwinLoopFar; exact (ChangesOnly.next (Changes.after (Changes.refl _ _) (writeTwinLoop_changes _ _) rfl))

theorem execRingLoop_changes (x0 : Nat) (s : State) :
    ChangesOnly [.net, .test] s (execRingLoop x0 s) := by unfold execRingLoop; exact (ChangesOnly.next (Changes.given (Changes.after (Changes.refl _ _) (withStatus_changes _ _) rfl) (Changes.after (Changes.refl _ _) (writeRingLoop_changes _ _ _) rfl)))

end Sys2Proof.Machine
end

