-- ==== Sys2Proof/Laws/Dictionary.lean ====
section
/-! SUPPORT. What each function of Sys2Proof/Machine/Dictionary.lean can change. -/

namespace Sys2Proof.Machine

theorem readLeaves_changes (s : State) (x1 : Who) (x2 x3 x4 : Nat) :
    Changes [.die, .stream, .parish, .reeve, .timers] s (readLeaves s x1 x2 x3 x4) := by unfold readLeaves; exact (Changes.ite (Changes.after (Changes.refl _ _) (violation_changes _ _ _ _ _ _ _ _) rfl) (Changes.refl _ _))

theorem forwardFor_changes (s : State) (x1 : Who) (x2 x3 : Nat) :
    Changes [.die] s (forwardFor s x1 x2 x3) := by unfold forwardFor; exact (by (try dsimp only); split; exacts [(Changes.ite (Changes.refl _ _) (Changes.after (Changes.refl _ _) (forward_changes _ _ _ _) rfl)), (Changes.refl _ _)])

theorem followGen_changes (x0 s : State) (x2 : Lay) (x3 : ObjRow) :
    Changes [.gens] s (followGen x0 s x2 x3) := by unfold followGen; exact (Changes.ite (Changes.after (Changes.refl _ _) (bumpGen_changes _ _) rfl) (Changes.refl _ _))

theorem pendWrite_changes (s : State) (x1 : Lay) (x2 : ObjRow) (x3 : List Byte) :
    Changes [.die, .pend] s (pendWrite s x1 x2 x3) := by unfold pendWrite; exact (Changes.ite (Changes.refl _ _) (by (try dsimp only); split; exacts [(Changes.after (Changes.trans (Changes.refl _ _) (fun f hf => by cases f <;> first | (cases hf; done) | dsimp only [Piece.same])) (State.modDie_changes _ _ _) rfl), (Changes.trans (Changes.refl _ _) (fun f hf => by cases f <;> first | (cases hf; done) | dsimp only [Piece.same]))]))

theorem directWrite_changes (s : State) (x1 : Who) (x2 : Lay) (x3 : Nat) (x4 : ObjRow) (x5 : List Byte) :
    Changes Piece.served s (directWrite s x1 x2 x3 x4 x5) := by unfold directWrite; exact (by (try dsimp only); split; exacts [(Changes.after (Changes.refl _ _) (writeCommit_changes _ _ _) rfl), (Changes.after (Changes.trans (Changes.refl _ _) (fun f hf => by cases f <;> first | (cases hf; done) | dsimp only [Piece.same])) (withStatus_changes _ _) rfl), (Changes.ite (Changes.after (Changes.refl _ _) (withStatus_changes _ _) rfl) (Changes.after (Changes.trans (Changes.refl _ _) (fun f hf => by cases f <;> first | (cases hf; done) | dsimp only [Piece.same])) (withStatus_changes _ _) rfl)), (Changes.after (Changes.refl _ _) (writeStateReq_changes _ _ _) rfl), (Changes.ite (Changes.after (Changes.after (Changes.refl _ _) (keyAct_changes _ _ _) rfl) (withStatus_changes _ _) rfl) (Changes.after (Changes.refl _ _) (withStatus_changes _ _) rfl)), (Changes.after (Changes.refl _ _) (writeArm_changes _ _ _ _) rfl), (Changes.after (Changes.refl _ _) (writeRate_changes _ _) rfl), (Changes.after (Changes.refl _ _) (writeOffset_changes _ _) rfl), (Changes.after (Changes.refl _ _) (writeTimeSet_changes _ _) rfl), (Changes.after (Changes.trans (Changes.refl _ _) (fun f hf => by cases f <;> first | (cases hf; done) | dsimp only [Piece.same])) (withStatus_changes _ _) rfl), (Changes.after (Changes.refl _ _) (writeReacquire_changes _ _) rfl), (Changes.after (Changes.after (Changes.refl _ _) (writeQuarCtl_changes _ _ _) rfl) (withStatus_changes _ _) rfl), (Changes.after (Changes.after (Changes.refl _ _) (writeLogTrigger_changes _ _ _) rfl) (withStatus_changes _ _) rfl), (Changes.after (Changes.after (Changes.refl _ _) (State.modRegion_changes _ _ _ _) rfl) (withStatus_changes _ _) rfl), (Changes.after (Changes.refl _ _) (writeTop_changes _ _ _) rfl), (Changes.after (Changes.refl _ _) (writeCmp_changes _ _ _) rfl), (Changes.after (Changes.refl _ _) (writeTallyCtl_changes _ _ _) rfl), (Changes.after (Changes.refl _ _) (writeUnitCtl_changes _ _ _) rfl), (Changes.after (Changes.refl _ _) (writeRelease_changes _ _) rfl), (Changes.after (Changes.refl _ _) (writeLatchReset_changes _ _ _) rfl), (Changes.after (Changes.refl _ _) (writeRetire_changes _ _) rfl), (Changes.after (Changes.refl _ _) (writePowerCmd_changes _ _) rfl), (Changes.after (Changes.refl _ _) (writeOpSet_changes _ _) rfl), (Changes.after (Changes.refl _ _) (writeCalReq_changes _ _ _) rfl), (Changes.after (Changes.refl _ _) (writeReset_changes _ _) rfl), (Changes.after (Changes.refl _ _) (writeSelfTest_changes _ _) rfl), (Changes.after (Changes.refl _ _) (writePortLoop_changes _ _ _) rfl), (Changes.ite (Changes.after (Changes.after (Changes.refl _ _) (netLoopAct_changes _ _ _ _) rfl) (withStatus_changes _ _) rfl) (Changes.after (Changes.refl _ _) (withStatus_changes _ _) rfl)), (Changes.after (Changes.refl _ _) (writeTwinLoop_changes _ _) rfl), (Changes.after (Changes.refl _ _) (writeRingLoop_changes _ _ _) rfl), (Changes.after (Changes.refl _ _) (withStatus_changes _ _) rfl)])

theorem entryAct_changes (s : State) (x1 : Who) (x2 x3 : Nat) (x4 : List Byte) :
    Changes Piece.served s (entryAct s x1 x2 x3 x4) := by unfold entryAct; exact (by (try dsimp only); split; exacts [(Changes.refl _ _), (Changes.after (Changes.ite (Changes.after (Changes.refl _ _) (pendWrite_changes _ _ _ _) rfl) (Changes.after (Changes.refl _ _) (directWrite_changes _ _ _ _ _ _) rfl)) (followGen_changes _ _ _ _) rfl)])

theorem entryLeaves_changes (s x1 : State) (x2 : Who) (x3 x4 : Nat) (x5 : List Byte) (x6 : Nat) :
    Changes [.die, .stream, .parish, .commit, .reeve, .timers] s (entryLeaves s x1 x2 x3 x4 x5 x6) := by unfold entryLeaves; exact (by (try dsimp only); split; exacts [(Changes.refl _ _), (by (try dsimp only); split; exacts [(Changes.after (Changes.refl _ _) (violation_changes _ _ _ _ _ _ _ _) rfl), (by (try dsimp only); split; exacts [(Changes.ite (Changes.after (Changes.refl _ _) (armViolation_changes _ _ _ _ _) rfl) (Changes.refl _ _)), (Changes.ite (Changes.after (Changes.refl _ _) (armViolation_changes _ _ _ _ _) rfl) (Changes.refl _ _)), (Changes.ite (Changes.after (Changes.refl _ _) (commitLeaves_changes _ _ _ _) rfl) (Changes.refl _ _)), (Changes.refl _ _)])])])

theorem judgeEntries_changes (w : Who) (es : List WriteEntry) (good left : State) :
    Changes Piece.served good (judgeEntries w good left es).1 ∧
      Changes Piece.served left (judgeEntries w good left es).2.1 := by
  induction es generalizing good left with
  | nil => exact ⟨Changes.refl _ _, Changes.refl _ _⟩
  | cons e t ih =>
    obtain ⟨i0, sub, b⟩ := e
    simp only [judgeEntries]
    split
    · exact ⟨(Changes.after (Changes.refl _ _) (entryAct_changes _ _ _ _ _) rfl).trans (ih _ _).1, (ih _ _).2⟩
    · exact ⟨(ih _ _).1, (Changes.after (Changes.refl _ _) (entryLeaves_changes _ _ _ _ _ _ _) rfl).trans (ih _ _).2⟩

theorem writeEntries_changes (s : State) (w : Who) (es : List WriteEntry) :
    Changes Piece.served s (writeEntries s w es).1 := by
  have h0 : Changes Piece.served s (es.foldl (fun u e => forwardFor u w (nativeIndex u e.1) e.2.1) s) :=
    Changes.foldl (fun _ _ => Changes.after (Changes.refl _ _) (forwardFor_changes _ _ _ _) rfl) (Changes.refl _ _)
  unfold writeEntries
  dsimp only
  split
  · exact h0.trans (judgeEntries_changes w es _ _).1
  · exact h0.trans (judgeEntries_changes w es _ _).2

theorem writeOne_changes (s : State) (x1 : Who) (x2 x3 : Nat) (x4 : List Byte) :
    Changes Piece.served s (writeOne s x1 x2 x3 x4) := by unfold writeOne; exact (Changes.after (Changes.after (Changes.refl _ _) (writeEntries_changes _ _ _) rfl) (withStatus_changes _ _) rfl)

theorem execNextImageWrite_changes (x0 x1 x2 : Nat) (x3 : List Byte) (s : State) :
    ChangesOnly Piece.served s (execNextImageWrite x0 x1 x2 x3 s) := by unfold execNextImageWrite; exact (ChangesOnly.withParish (Changes.given (Changes.after (Changes.refl _ _) (withStatus_changes _ _) rfl) (Changes.after (Changes.refl _ _) (writeOne_changes _ _ _ _ _) rfl)))

end Sys2Proof.Machine
end

