-- ==== Sys2Proof/Laws/Adp.lean ====
section
/-! SUPPORT. What each function of Sys2Proof/Machine/Adp.lean can change. -/

namespace Sys2Proof.Machine

theorem respond_changes (s : State) (x1 : HostFrame) (x2 : Option (List Byte)) (x3 : Answer) :
    Changes [.netPorts, .svc] s (respond s x1 x2 x3) := by unfold respond; exact (Changes.ite (Changes.trans (Changes.refl _ _) (fun f hf => by cases f <;> first | (cases hf; done) | dsimp only [Piece.same])) (Changes.after (Changes.refl _ _) (enqueueFrame_changes _ _ _) rfl))

theorem statusAnswer_changes (s : State) (x1 : HostFrame) (x2 : List Nat) :
    Changes [] s (statusAnswer s x1 x2).state := by unfold statusAnswer; exact (Changes.refl _ _)

theorem refusal_changes (s : State) (x1 : Nat) (x2 : HostFrame) (x3 : Nat) : Changes [] s (refusal s x1 x2 x3).state := by
  unfold refusal
  dsimp only
  split <;> exact Changes.refl _ _

theorem dropRequest_changes (s : State) (x1 : HostFrame) :
    Changes [.svc] s (dropRequest s x1) := by unfold dropRequest; exact (Changes.ite (Changes.trans (Changes.refl _ _) (fun f hf => by cases f <;> first | (cases hf; done) | dsimp only [Piece.same])) (Changes.refl _ _))

theorem tagRefused_changes (s : State) (x1 : Nat) (x2 : HostFrame) :
    Changes [.net, .netPorts, .sessions, .die, .stream, .parish, .reeve, .timers, .fw] s (tagRefused s x1 x2) := by unfold tagRefused; exact (Changes.ite (Changes.after (Changes.ite (Changes.after (Changes.after (Changes.after (Changes.refl _ _) (State.modPar_changes _ _ _) rfl) (violation_changes _ _ _ _ _ _ _ _) rfl) (modSession_changes _ _ _) rfl) (Changes.after (Changes.after (Changes.refl _ _) (State.modPar_changes _ _ _) rfl) (violation_changes _ _ _ _ _ _ _ _) rfl)) (endSession_changes _ _) rfl) (Changes.ite (Changes.after (Changes.after (Changes.after (Changes.refl _ _) (State.modPar_changes _ _ _) rfl) (violation_changes _ _ _ _ _ _ _ _) rfl) (modSession_changes _ _ _) rfl) (Changes.after (Changes.after (Changes.refl _ _) (State.modPar_changes _ _ _) rfl) (violation_changes _ _ _ _ _ _ _ _) rfl)))

theorem openSession_changes (s : State) (f : HostFrame) : Changes [.net, .netPorts, .sessions, .die, .stream, .parish, .reeve, .timers, .fw, .free] s (openSession s f).state := by
  have hd := Changes.after (Changes.refl [.net, .netPorts, .sessions, .die, .stream, .parish, .reeve, .timers, .fw, .free] s) (State.draw_changes s 64) rfl
  unfold openSession
  dsimp only
  split
  · exact Changes.after (Changes.refl _ _) (refusal_changes _ _ _ _) rfl
  · split
    · exact Changes.after (Changes.after (Changes.refl _ _) (tagRefused_changes _ _ _) rfl) (refusal_changes _ _ _ _) rfl
    · split
      · exact Changes.after (Changes.refl _ _) (refusal_changes _ _ _ _) rfl
      · exact hd.trans (fun f hf => by cases f <;> first | (cases hf; done) | rfl)

theorem confirmFailed_changes (s : State) (x1 : Nat) :
    Changes [.parish] s (confirmFailed s x1) := by unfold confirmFailed; exact (Changes.after (Changes.refl _ _) (State.modPar_changes _ _ _) rfl)

theorem confirmSession_changes (s : State) (f : HostFrame) :
    Changes [.net, .netPorts, .sessions, .die, .stream, .parish, .reeve, .timers, .fw] s (confirmSession s f).1.state := by
  have h1 := Changes.after (Changes.refl [.net, .netPorts, .sessions, .die, .stream, .parish, .reeve, .timers, .fw] s) (confirmFailed_changes s f.parish) rfl
  have h2 := Changes.after h1 (tagRefused_changes (confirmFailed s f.parish) 11 f) rfl
  have hs := Changes.refl [.net, .netPorts, .sessions, .die, .stream, .parish, .reeve, .timers, .fw] s
  unfold confirmSession
  split
  · exact h1
  · rename_i x _
    split
    · exact hs
    · split
      · exact h1
      · split
        · exact h2
        · exact Changes.after (Changes.after hs (modSession_changes _ _ _) rfl) (State.modPar_changes _ _ _) rfl

theorem validFrame_changes (s : State) (x1 : HostFrame) :
    Changes [.sessions] s (validFrame s x1) := by unfold validFrame; exact (Changes.after (Changes.refl _ _) (modSession_changes _ _ _) rfl)

theorem gate_changes (s : State) (op : Nat) (f : HostFrame) : Changes [.net, .netPorts, .sessions, .die, .stream, .parish, .reeve, .timers, .fw] s (gate s op f).1 := by
  have ht := Changes.after (Changes.refl [.net, .netPorts, .sessions, .die, .stream, .parish, .reeve, .timers, .fw] s) (tagRefused_changes s op f) rfl
  have hv := Changes.after (Changes.refl [.net, .netPorts, .sessions, .die, .stream, .parish, .reeve, .timers, .fw] s) (validFrame_changes s f) rfl
  have hs := Changes.refl [.net, .netPorts, .sessions, .die, .stream, .parish, .reeve, .timers, .fw] s
  unfold gate
  dsimp only
  repeat' (first | exact hs | exact ht | exact hv | split)

theorem readEntries_changes (w : Who) (es : List (Nat × Nat)) (used : Nat) (full : Bool) (s : State) :
    Changes [.die, .stream, .parish, .reeve, .timers] s (readEntries w used full s es).1 := by
  induction es generalizing used full s with
  | nil => exact Changes.refl _ _
  | cons e t ih =>
    obtain ⟨i0, sub⟩ := e
    unfold readEntries
    extract_lets i code v
    split
    · exact ih _ _ _
    · exact (Changes.after (Changes.after (Changes.refl _ _) (forwardFor_changes _ _ _ _) rfl)
        (readLeaves_changes _ _ _ _ _) rfl).trans (ih _ _ _)

theorem serveRead_changes (s : State) (x1 : Who) (x2 : HostFrame) : Changes [.die, .stream, .parish, .reeve, .timers] s (serveRead s x1 x2).state :=
  readEntries_changes _ _ _ _ _

theorem serveWrite_changes (s : State) (w : Who) (f : HostFrame) :
    Changes Piece.served s (serveWrite s w f).state := by
  unfold serveWrite
  exact Changes.after (Changes.refl _ _) (writeEntries_changes _ _ _) rfl

theorem followRead_changes (s : State) (x1 : Nat) (x2 : List Byte) : Changes [.gens, .seen] s (followRead s x1 x2) := by
  unfold followRead
  extract_lets s1
  have h : Changes [.gens, .seen] s s1 := by
    have hb := Changes.after (Changes.refl [.gens, .seen] s) (bumpGen_changes s x1) rfl
    have hs := Changes.refl [.gens, .seen] s
    simp only [s1]
    repeat' (first | exact hs | exact hb | split)
  exact h.trans (fun f hf => by cases f <;> first | (cases hf; done) | rfl)

theorem serveReadBlock_changes (s : State) (w : Who) (f : HostFrame) :
    Changes [.die, .stream, .parish, .gens, .seen, .reeve, .timers] s (serveReadBlock s w f).state := by
  have h0 : ∀ i sub, Changes [.die, .stream, .parish, .gens, .seen, .reeve, .timers] s (forwardFor s w i sub) := fun i sub =>
    Changes.after (Changes.refl _ _) (forwardFor_changes _ _ _ _) rfl
  unfold serveReadBlock
  dsimp only
  split
  · exact Changes.after (h0 _ _) (readLeaves_changes _ _ _ _ _) rfl
  · exact Changes.ite (h0 _ _) (Changes.after (h0 _ _) (followRead_changes _ _ _) rfl)

theorem segmentLeaves_changes (s : State) (x1 : Who) (x2 : HostFrame) (x3 : Nat) :
    Changes [.net, .die, .stream, .parish, .commit, .reeve, .timers, .fw] s (segmentLeaves s x1 x2 x3) := by unfold segmentLeaves; exact (Changes.ite (Changes.after (Changes.refl _ _) (entryLeaves_changes _ _ _ _ _ _ _) rfl) (Changes.ite (Changes.after (Changes.refl _ _) (closeXfers_changes _ _) rfl) (Changes.refl _ _)))

theorem serveWriteBlock_changes (s : State) (w : Who) (f : HostFrame) :
    Changes Piece.served s (serveWriteBlock s w f).state := by
  have hc : ∀ g, Changes Piece.served s (closeXfers s g) := fun g =>
    Changes.after (Changes.refl _ _) (closeXfers_changes _ _) rfl
  unfold serveWriteBlock
  extract_lets pl i sub off total code mine before data s1
  split
  · exact Changes.after (Changes.refl _ _) (segmentLeaves_changes _ _ _ _) rfl
  · split
    · exact Changes.after (hc _) (writeEntries_changes _ _ _) rfl
    · exact Changes.trans (hc _) (fun f hf => by cases f <;> first | (cases hf; done) | dsimp only [Piece.same, statusAnswer])

theorem serveAbort_changes (s : State) (x1 : HostFrame) :
    Changes [.net, .svc, .fw] s (serveAbort s x1).state := by unfold serveAbort; exact (by (try dsimp only); split; exacts [(Changes.after (Changes.after (Changes.trans (Changes.refl _ _) (fun f hf => by cases f <;> first | (cases hf; done) | dsimp only [Piece.same])) (dropRequest_changes _ _) rfl) (statusAnswer_changes _ _ _) rfl), (by (try dsimp only); split <;> first | exact (Changes.after (Changes.after (Changes.refl _ _) (closeXfers_changes _ _) rfl) (statusAnswer_changes _ _ _) rfl) | exact (Changes.after (Changes.refl _ _) (statusAnswer_changes _ _ _) rfl))])

theorem serveStream_changes (s : State) (x1 : HostFrame) :
    Changes [.parish] s (serveStream s x1).state := by unfold serveStream; exact (Changes.after (Changes.after (Changes.refl _ _) (State.modPar_changes _ _ _) rfl) (statusAnswer_changes _ _ _) rfl)

theorem serveVote_changes (s : State) (x1 : HostFrame) :
    Changes [.net, .netPorts, .die, .stream, .parish, .timers, .power] s (serveVote s x1).state := by unfold serveVote; exact (by (try dsimp only); split <;> first | exact (Changes.after (Changes.refl _ _) (statusAnswer_changes _ _ _) rfl) | exact (by (try dsimp only); split <;> first | exact (Changes.after (Changes.after (Changes.refl _ _) (State.modPar_changes _ _ _) rfl) (statusAnswer_changes _ _ _) rfl) | exact (Changes.after (Changes.after (Changes.after (Changes.refl _ _) (ackWake_changes _ _) rfl) (voterActs_changes _ _) rfl) (statusAnswer_changes _ _ _) rfl)))

theorem serveOp_changes (s : State) (x1 : Nat) (x2 : HostFrame) (x3 : Option Session) :
    Changes Piece.served s (serveOp s x1 x2 x3).state := by unfold serveOp; exact (by (try dsimp only); split; exacts [(Changes.refl _ _), (Changes.after (Changes.refl _ _) (serveRead_changes _ _ _) rfl), (Changes.after (Changes.refl _ _) (serveWrite_changes _ _ _) rfl), (Changes.after (Changes.refl _ _) (serveReadBlock_changes _ _ _) rfl), (Changes.after (Changes.refl _ _) (serveWriteBlock_changes _ _ _) rfl), (Changes.after (Changes.refl _ _) (serveAbort_changes _ _) rfl), (Changes.after (Changes.refl _ _) (serveStream_changes _ _) rfl), (Changes.after (Changes.refl _ _) (serveVote_changes _ _) rfl), (Changes.after (Changes.after (Changes.refl _ _) (ackWake_changes _ _) rfl) (statusAnswer_changes _ _ _) rfl), (Changes.after (Changes.refl _ _) (statusAnswer_changes _ _ _) rfl)])

theorem sessionActs_changes (s : State) (x1 : Nat) (x2 : HostFrame) (x3 : Option Session) :
    Changes [.net, .netPorts, .die, .stream, .parish, .timers, .power] s (sessionActs s x1 x2 x3) := by unfold sessionActs; exact (Changes.ite (Changes.refl _ _) (Changes.ite (Changes.after (Changes.after (Changes.refl _ _) (voterActs_changes _ _) rfl) (ackWake_changes _ _) rfl) (Changes.after (Changes.refl _ _) (voterActs_changes _ _) rfl)))

theorem sendBefore_changes (s : State) (x1 : HostFrame) :
    Changes [.ptp, .netPorts] s (sendBefore s x1) := by unfold sendBefore; exact (Changes.ite (Changes.refl _ _) (by (try dsimp only); split; exacts [(Changes.after (Changes.refl _ _) (beginSend_changes _ _ _) rfl), (Changes.refl _ _)]))

theorem serveRequest_changes (s : State) (x1 : Nat) (x2 : HostFrame) :
    Changes Piece.served s (serveRequest s x1 x2) := by
  have h0 : Changes Piece.served s (wakeIdle s) := Changes.after (Changes.refl _ _) (wakeIdle_changes _) rfl
  unfold serveRequest
  extract_lets w a b g c key s1 s2
  have hg : Changes Piece.served s g.1 := Changes.after h0 (gate_changes _ _ _) rfl
  have hc : Changes Piece.served s c.state :=
    Changes.after (Changes.after hg (sessionActs_changes _ _ _ _) rfl) (serveOp_changes _ _ _ _) rfl
  have h1 : Changes Piece.served s s1 := Changes.after hc (respond_changes _ _ _ _) rfl
  have h2 : Changes Piece.served s s2 := Changes.ite (Changes.after h1 (sendBefore_changes _ _) rfl) h1
  refine Changes.ite (Changes.after h0 (respond_changes _ _ _ _) rfl) ?_
  refine Changes.ite (Changes.after h0 (dropRequest_changes _ _) rfl) ?_
  refine Changes.ite (Changes.after (Changes.after h0 (openSession_changes _ _) rfl) (respond_changes _ _ _ _) rfl) ?_
  refine Changes.ite (Changes.after (Changes.after h0 (confirmSession_changes _ _) rfl) (respond_changes _ _ _ _) rfl) ?_
  refine Changes.ite (Changes.after hg (respond_changes _ _ _ _) rfl) ?_
  refine Changes.ite (Changes.after hc (dropRequest_changes _ _) rfl) ?_
  exact Changes.ite (Changes.after h2 (endSession_changes _ _) rfl) h2

theorem holdRequest_changes (s : State) (x1 : Nat) (x2 : HostFrame) (x3 : Nat) :
    Changes [.net] s (holdRequest s x1 x2 x3) := by unfold holdRequest; exact (Changes.ite (Changes.trans (Changes.refl _ _) (fun f hf => by cases f <;> first | (cases hf; done) | dsimp only [Piece.same])) (Changes.trans (Changes.refl _ _) (fun f hf => by cases f <;> first | (cases hf; done) | dsimp only [Piece.same])))

theorem receiveAdp_changes (s : State) (x1 : Nat) (x2 : HostFrame) :
    Changes Piece.served s (receiveAdp s x1 x2) := by unfold receiveAdp; exact (Changes.ite (Changes.after (Changes.after (Changes.after (Changes.refl _ _) (countRx_changes _ _) rfl) (active_changes _) rfl) (serveRequest_changes _ _ _) rfl) (Changes.after (Changes.after (Changes.after (Changes.refl _ _) (countRx_changes _ _) rfl) (active_changes _) rfl) (holdRequest_changes _ _ _ _) rfl))

theorem hostFrame_changes (x0 : Nat) (x1 : HostFrame) (s : State) :
    ChangesOnly Piece.served s (hostFrame x0 x1 s) := by unfold hostFrame; exact (ChangesOnly.withNet (Changes.given (Changes.refl _ _) (Changes.after (Changes.refl _ _) (receiveAdp_changes _ _ _) rfl)))

theorem execAdpWrite_changes (x0 : HostFrame) (s : State) :
    ChangesOnly Piece.served s (execAdpWrite x0 s) := by unfold execAdpWrite; exact (hostFrame_changes _ _ _)

theorem countBad_changes (s : State) (x1 : List Byte) :
    Changes [.net] s (countBad s x1) := by unfold countBad; exact (Changes.ite (Changes.trans (Changes.refl _ _) (fun f hf => by cases f <;> first | (cases hf; done) | dsimp only [Piece.same])) (Changes.trans (Changes.refl _ _) (fun f hf => by cases f <;> first | (cases hf; done) | dsimp only [Piece.same])))

theorem execSessionOpen_changes (x0 : HostFrame) (s : State) :
    ChangesOnly Piece.served s (execSessionOpen x0 s) := by unfold execSessionOpen; exact (hostFrame_changes _ _ _)

theorem execAdpAbort_changes (x0 : HostFrame) (s : State) :
    ChangesOnly Piece.served s (execAdpAbort x0 s) := by unfold execAdpAbort; exact (hostFrame_changes _ _ _)

theorem execStewardServeRequest_changes (s : State) :
    ChangesOnly Piece.served s (execStewardServeRequest s) := by unfold execStewardServeRequest; exact (ChangesOnly.next (by (try dsimp only); split; exacts [(Changes.refl _ _), (Changes.given (Changes.refl _ _) (Changes.ite (Changes.after (Changes.trans (Changes.refl _ _) (fun f hf => by cases f <;> first | (cases hf; done) | dsimp only [Piece.same])) (serveRequest_changes _ _ _) rfl) (Changes.after (Changes.after (Changes.trans (Changes.refl _ _) (fun f hf => by cases f <;> first | (cases hf; done) | dsimp only [Piece.same])) (wakeIdle_changes _) rfl) (respond_changes _ _ _ _) rfl)))]))

theorem execSleepVoteSleep_changes (x0 : HostFrame) (s : State) :
    ChangesOnly Piece.served s (execSleepVoteSleep x0 s) := by unfold execSleepVoteSleep; exact (hostFrame_changes _ _ _)

theorem execBlockTimeoutExpiry_changes (x0 : Nat) (s : State) :
    ChangesOnly [.net, .netPorts, .fw] s (execBlockTimeoutExpiry x0 s) := by unfold execBlockTimeoutExpiry; exact (ChangesOnly.next (by (try dsimp only); split; exacts [(Changes.refl _ _), (Changes.given (Changes.refl _ _) (Changes.after (Changes.refl _ _) (discardXfers_changes _ _) rfl))]))

theorem execAdpHubOpcodeReceived_changes (x0 : Nat) (x1 : HostFrame) (s : State) :
    ChangesOnly Piece.served s (execAdpHubOpcodeReceived x0 x1 s) := by unfold execAdpHubOpcodeReceived; exact (ChangesOnly.ite (ChangesOnly.fault _) (hostFrame_changes _ _ _))

theorem execAdpPing_changes (x0 : HostFrame) (s : State) :
    ChangesOnly Piece.served s (execAdpPing x0 s) := by unfold execAdpPing; exact (hostFrame_changes _ _ _)

theorem execSessionConfirm_changes (x0 : HostFrame) (s : State) :
    ChangesOnly Piece.served s (execSessionConfirm x0 s) := by unfold execSessionConfirm; exact (hostFrame_changes _ _ _)

theorem execAdpStreamRequest_changes (x0 : HostFrame) (s : State) :
    ChangesOnly Piece.served s (execAdpStreamRequest x0 s) := by unfold execAdpStreamRequest; exact (hostFrame_changes _ _ _)

theorem execSessionClose_changes (x0 : HostFrame) (s : State) :
    ChangesOnly Piece.served s (execSessionClose x0 s) := by unfold execSessionClose; exact (hostFrame_changes _ _ _)

theorem execFwImageWrite_changes (x0 x1 : Nat) (x2 : List Byte) (s : State) :
    ChangesOnly Piece.served s (execFwImageWrite x0 x1 x2 s) := by unfold execFwImageWrite; exact (ChangesOnly.withParish (Changes.given (Changes.refl _ _) (Changes.after (Changes.refl _ _) (writeOne_changes _ _ _ _ _) rfl)))

theorem execFwCheckDone_changes (s : State) :
    ChangesOnly [.fw] s (execFwCheckDone s) := by unfold execFwCheckDone; exact (ChangesOnly.next (Changes.given (Changes.refl _ _) (Changes.ite (Changes.trans (Changes.refl _ _) (fun f hf => by cases f <;> first | (cases hf; done) | dsimp only [Piece.same])) (Changes.trans (Changes.refl _ _) (fun f hf => by cases f <;> first | (cases hf; done) | dsimp only [Piece.same])))))

theorem execFwSwitch_changes (x0 x1 x2 : Nat) (s : State) :
    ChangesOnly Piece.served s (execFwSwitch x0 x1 x2 s) := by unfold execFwSwitch; exact (ChangesOnly.withParish (Changes.given (Changes.refl _ _) (Changes.after (Changes.refl _ _) (writeOne_changes _ _ _ _ _) rfl)))

theorem execAdpFrameReject_changes (x0 : Nat) (x1 : Bool) (x2 : List Byte) (s : State) :
    ChangesOnly [.net, .netPorts, .svc, .timers, .power] s (execAdpFrameReject x0 x1 x2 s) := by unfold execAdpFrameReject; exact (ChangesOnly.withNet (Changes.given (Changes.refl _ _) (Changes.ite (Changes.after (Changes.refl _ _) (State.modNet_changes _ _ _) rfl) (Changes.ite (Changes.trans (Changes.after (Changes.refl _ _) (countRx_changes _ _) rfl) (fun f hf => by cases f <;> first | (cases hf; done) | dsimp only [Piece.same])) (Changes.ite (Changes.after (Changes.after (Changes.after (Changes.refl _ _) (countRx_changes _ _) rfl) (active_changes _) rfl) (countBad_changes _ _) rfl) (Changes.ite (Changes.after (Changes.after (Changes.after (Changes.after (Changes.refl _ _) (countRx_changes _ _) rfl) (active_changes _) rfl) (wakeIdle_changes _) rfl) (respond_changes _ _ _ _) rfl) (Changes.refl _ _)))))))

theorem execAdpRead_changes (x0 : HostFrame) (s : State) :
    ChangesOnly Piece.served s (execAdpRead x0 s) := by unfold execAdpRead; exact (hostFrame_changes _ _ _)

theorem execAdpReadBlock_changes (x0 : HostFrame) (s : State) :
    ChangesOnly Piece.served s (execAdpReadBlock x0 s) := by unfold execAdpReadBlock; exact (hostFrame_changes _ _ _)

theorem execAdpWriteBlock_changes (x0 : HostFrame) (s : State) :
    ChangesOnly Piece.served s (execAdpWriteBlock x0 s) := by unfold execAdpWriteBlock; exact (hostFrame_changes _ _ _)

theorem execSleepVoteStay_changes (x0 : HostFrame) (s : State) :
    ChangesOnly Piece.served s (execSleepVoteStay x0 s) := by unfold execSleepVoteStay; exact (hostFrame_changes _ _ _)

theorem execAdpWakeNotice_changes (x0 : HostFrame) (s : State) :
    ChangesOnly Piece.served s (execAdpWakeNotice x0 s) := by unfold execAdpWakeNotice; exact (hostFrame_changes _ _ _)

end Sys2Proof.Machine
end

