-- ==== Sys2Proof/Laws/State.lean ====
section
/-! SUPPORT. What each update of a table of State leaves unchanged, one lemma for each field and update, and what a read after an
update gives. -/

namespace Sys2Proof.Machine

/-! ### Tables -/

@[simp] theorem tget_tput_same {α : Type} (dflt v : α) (t : Tbl α) (k : Nat) : tget dflt (tput t k v) k = v := by
  induction t with
  | nil => simp [tput, tget]
  | cons e t ih =>
    obtain ⟨j, w⟩ := e
    simp only [tput]
    split
    · simp [tget]
    · split
      · simp [tget]
      · simp_all [tget]

@[simp] theorem tget_tput_other {α : Type} (dflt v : α) (t : Tbl α) (j k : Nat) (h : j ≠ k) :
    tget dflt (tput t k v) j = tget dflt t j := by
  induction t with
  | nil => simp [tput, tget, h]
  | cons e t ih =>
    obtain ⟨i, w⟩ := e
    simp only [tput]
    split
    · simp [tget, h]
    · split
      · subst_vars
        simp [tget, h]
      · simp only [tget]
        split
        · rfl
        · exact ih

/-! ### Die -/

@[simp] theorem State.modDie_dieAt (s : State) (k : Nat) (g : Die → Die) :
    (s.modDie k g).dieAt k = g (s.dieAt k) := by simp [State.modDie, State.dieAt]
@[simp] theorem State.modDie_dieAt_other (s : State) (j k : Nat) (g : Die → Die) (h : j ≠ k) :
    (s.modDie k g).dieAt j = s.dieAt j := by simp [State.modDie, State.dieAt, h]
@[simp] theorem State.modDie_pending (s : State) (k : Nat) (g : Die → Die) : (s.modDie k g).pending = s.pending := rfl
@[simp] theorem State.modDie_dies (s : State) (k : Nat) (g : Die → Die) : (s.modDie k g).dies = s.dies := rfl
@[simp] theorem State.modDie_serial (s : State) (k : Nat) (g : Die → Die) : (s.modDie k g).serial = s.serial := rfl
@[simp] theorem State.modDie_mac (s : State) (k : Nat) (g : Die → Die) : (s.modDie k g).mac = s.mac := rfl
@[simp] theorem State.modDie_cmptStrap (s : State) (k : Nat) (g : Die → Die) : (s.modDie k g).cmptStrap = s.cmptStrap := rfl
@[simp] theorem State.modDie_cmpt (s : State) (k : Nat) (g : Die → Die) : (s.modDie k g).cmpt = s.cmpt := rfl
@[simp] theorem State.modDie_resetCause (s : State) (k : Nat) (g : Die → Die) : (s.modDie k g).resetCause = s.resetCause := rfl
@[simp] theorem State.modDie_dictReady (s : State) (k : Nat) (g : Die → Die) : (s.modDie k g).dictReady = s.dictReady := rfl
@[simp] theorem State.modDie_testen (s : State) (k : Nat) (g : Die → Die) : (s.modDie k g).testen = s.testen := rfl
@[simp] theorem State.modDie_startAnchor (s : State) (k : Nat) (g : Die → Die) : (s.modDie k g).startAnchor = s.startAnchor := rfl
@[simp] theorem State.modDie_time (s : State) (k : Nat) (g : Die → Die) : (s.modDie k g).time = s.time := rfl
@[simp] theorem State.modDie_servo (s : State) (k : Nat) (g : Die → Die) : (s.modDie k g).servo = s.servo := rfl
@[simp] theorem State.modDie_ptp (s : State) (k : Nat) (g : Die → Die) : (s.modDie k g).ptp = s.ptp := rfl
@[simp] theorem State.modDie_net (s : State) (k : Nat) (g : Die → Die) : (s.modDie k g).net = s.net := rfl
@[simp] theorem State.modDie_netPorts (s : State) (k : Nat) (g : Die → Die) : (s.modDie k g).netPorts = s.netPorts := rfl
@[simp] theorem State.modDie_sessions (s : State) (k : Nat) (g : Die → Die) : (s.modDie k g).sessions = s.sessions := rfl
@[simp] theorem State.modDie_svc (s : State) (k : Nat) (g : Die → Die) : (s.modDie k g).svc = s.svc := rfl
@[simp] theorem State.modDie_port (s : State) (k : Nat) (g : Die → Die) : (s.modDie k g).port = s.port := rfl
@[simp] theorem State.modDie_engine (s : State) (k : Nat) (g : Die → Die) : (s.modDie k g).engine = s.engine := rfl
@[simp] theorem State.modDie_stream (s : State) (k : Nat) (g : Die → Die) : (s.modDie k g).stream = s.stream := rfl
@[simp] theorem State.modDie_mill (s : State) (k : Nat) (g : Die → Die) : (s.modDie k g).mill = s.mill := rfl
@[simp] theorem State.modDie_rule (s : State) (k : Nat) (g : Die → Die) : (s.modDie k g).rule = s.rule := rfl
@[simp] theorem State.modDie_tally (s : State) (k : Nat) (g : Die → Die) : (s.modDie k g).tally = s.tally := rfl
@[simp] theorem State.modDie_row (s : State) (k : Nat) (g : Die → Die) : (s.modDie k g).row = s.row := rfl
@[simp] theorem State.modDie_col (s : State) (k : Nat) (g : Die → Die) : (s.modDie k g).col = s.col := rfl
@[simp] theorem State.modDie_parish (s : State) (k : Nat) (g : Die → Die) : (s.modDie k g).parish = s.parish := rfl
@[simp] theorem State.modDie_conf (s : State) (k : Nat) (g : Die → Die) : (s.modDie k g).conf = s.conf := rfl
@[simp] theorem State.modDie_pend (s : State) (k : Nat) (g : Die → Die) : (s.modDie k g).pend = s.pend := rfl
@[simp] theorem State.modDie_persisted (s : State) (k : Nat) (g : Die → Die) : (s.modDie k g).persisted = s.persisted := rfl
@[simp] theorem State.modDie_persistedOther (s : State) (k : Nat) (g : Die → Die) : (s.modDie k g).persistedOther = s.persistedOther := rfl
@[simp] theorem State.modDie_persistedBad (s : State) (k : Nat) (g : Die → Die) : (s.modDie k g).persistedBad = s.persistedBad := rfl
@[simp] theorem State.modDie_gens (s : State) (k : Nat) (g : Die → Die) : (s.modDie k g).gens = s.gens := rfl
@[simp] theorem State.modDie_seen (s : State) (k : Nat) (g : Die → Die) : (s.modDie k g).seen = s.seen := rfl
@[simp] theorem State.modDie_commit (s : State) (k : Nat) (g : Die → Die) : (s.modDie k g).commit = s.commit := rfl
@[simp] theorem State.modDie_reeve (s : State) (k : Nat) (g : Die → Die) : (s.modDie k g).reeve = s.reeve := rfl
@[simp] theorem State.modDie_timers (s : State) (k : Nat) (g : Die → Die) : (s.modDie k g).timers = s.timers := rfl
@[simp] theorem State.modDie_twin (s : State) (k : Nat) (g : Die → Die) : (s.modDie k g).twin = s.twin := rfl
@[simp] theorem State.modDie_power (s : State) (k : Nat) (g : Die → Die) : (s.modDie k g).power = s.power := rfl
@[simp] theorem State.modDie_fw (s : State) (k : Nat) (g : Die → Die) : (s.modDie k g).fw = s.fw := rfl
@[simp] theorem State.modDie_test (s : State) (k : Nat) (g : Die → Die) : (s.modDie k g).test = s.test := rfl
@[simp] theorem State.modDie_free (s : State) (k : Nat) (g : Die → Die) : (s.modDie k g).free = s.free := rfl
@[simp] theorem State.modDie_portAt (s : State) (j k : Nat) (g : Die → Die) : (s.modDie k g).portAt j = s.portAt j := rfl
@[simp] theorem State.modDie_engAt (s : State) (j k : Nat) (g : Die → Die) : (s.modDie k g).engAt j = s.engAt j := rfl
@[simp] theorem State.modDie_streamAt (s : State) (j k : Nat) (g : Die → Die) : (s.modDie k g).streamAt j = s.streamAt j := rfl
@[simp] theorem State.modDie_millAt (s : State) (j k : Nat) (g : Die → Die) : (s.modDie k g).millAt j = s.millAt j := rfl
@[simp] theorem State.modDie_ruleAt (s : State) (j k : Nat) (g : Die → Die) : (s.modDie k g).ruleAt j = s.ruleAt j := rfl
@[simp] theorem State.modDie_tallyAt (s : State) (j k : Nat) (g : Die → Die) : (s.modDie k g).tallyAt j = s.tallyAt j := rfl
@[simp] theorem State.modDie_rowAt (s : State) (j k : Nat) (g : Die → Die) : (s.modDie k g).rowAt j = s.rowAt j := rfl
@[simp] theorem State.modDie_colAt (s : State) (j k : Nat) (g : Die → Die) : (s.modDie k g).colAt j = s.colAt j := rfl
@[simp] theorem State.modDie_parAt (s : State) (j k : Nat) (g : Die → Die) : (s.modDie k g).parAt j = s.parAt j := rfl
@[simp] theorem State.modDie_ptpAt (s : State) (j k : Nat) (g : Die → Die) : (s.modDie k g).ptpAt j = s.ptpAt j := rfl
@[simp] theorem State.modDie_netAt (s : State) (j k : Nat) (g : Die → Die) : (s.modDie k g).netAt j = s.netAt j := rfl

/-! ### Port -/

@[simp] theorem State.modPort_portAt (s : State) (k : Nat) (g : Port → Port) :
    (s.modPort k g).portAt k = g (s.portAt k) := by simp [State.modPort, State.portAt]
@[simp] theorem State.modPort_portAt_other (s : State) (j k : Nat) (g : Port → Port) (h : j ≠ k) :
    (s.modPort k g).portAt j = s.portAt j := by simp [State.modPort, State.portAt, h]
@[simp] theorem State.modPort_pending (s : State) (k : Nat) (g : Port → Port) : (s.modPort k g).pending = s.pending := rfl
@[simp] theorem State.modPort_dies (s : State) (k : Nat) (g : Port → Port) : (s.modPort k g).dies = s.dies := rfl
@[simp] theorem State.modPort_serial (s : State) (k : Nat) (g : Port → Port) : (s.modPort k g).serial = s.serial := rfl
@[simp] theorem State.modPort_mac (s : State) (k : Nat) (g : Port → Port) : (s.modPort k g).mac = s.mac := rfl
@[simp] theorem State.modPort_cmptStrap (s : State) (k : Nat) (g : Port → Port) : (s.modPort k g).cmptStrap = s.cmptStrap := rfl
@[simp] theorem State.modPort_cmpt (s : State) (k : Nat) (g : Port → Port) : (s.modPort k g).cmpt = s.cmpt := rfl
@[simp] theorem State.modPort_resetCause (s : State) (k : Nat) (g : Port → Port) : (s.modPort k g).resetCause = s.resetCause := rfl
@[simp] theorem State.modPort_dictReady (s : State) (k : Nat) (g : Port → Port) : (s.modPort k g).dictReady = s.dictReady := rfl
@[simp] theorem State.modPort_testen (s : State) (k : Nat) (g : Port → Port) : (s.modPort k g).testen = s.testen := rfl
@[simp] theorem State.modPort_startAnchor (s : State) (k : Nat) (g : Port → Port) : (s.modPort k g).startAnchor = s.startAnchor := rfl
@[simp] theorem State.modPort_time (s : State) (k : Nat) (g : Port → Port) : (s.modPort k g).time = s.time := rfl
@[simp] theorem State.modPort_servo (s : State) (k : Nat) (g : Port → Port) : (s.modPort k g).servo = s.servo := rfl
@[simp] theorem State.modPort_ptp (s : State) (k : Nat) (g : Port → Port) : (s.modPort k g).ptp = s.ptp := rfl
@[simp] theorem State.modPort_net (s : State) (k : Nat) (g : Port → Port) : (s.modPort k g).net = s.net := rfl
@[simp] theorem State.modPort_netPorts (s : State) (k : Nat) (g : Port → Port) : (s.modPort k g).netPorts = s.netPorts := rfl
@[simp] theorem State.modPort_sessions (s : State) (k : Nat) (g : Port → Port) : (s.modPort k g).sessions = s.sessions := rfl
@[simp] theorem State.modPort_svc (s : State) (k : Nat) (g : Port → Port) : (s.modPort k g).svc = s.svc := rfl
@[simp] theorem State.modPort_die (s : State) (k : Nat) (g : Port → Port) : (s.modPort k g).die = s.die := rfl
@[simp] theorem State.modPort_engine (s : State) (k : Nat) (g : Port → Port) : (s.modPort k g).engine = s.engine := rfl
@[simp] theorem State.modPort_stream (s : State) (k : Nat) (g : Port → Port) : (s.modPort k g).stream = s.stream := rfl
@[simp] theorem State.modPort_mill (s : State) (k : Nat) (g : Port → Port) : (s.modPort k g).mill = s.mill := rfl
@[simp] theorem State.modPort_rule (s : State) (k : Nat) (g : Port → Port) : (s.modPort k g).rule = s.rule := rfl
@[simp] theorem State.modPort_tally (s : State) (k : Nat) (g : Port → Port) : (s.modPort k g).tally = s.tally := rfl
@[simp] theorem State.modPort_row (s : State) (k : Nat) (g : Port → Port) : (s.modPort k g).row = s.row := rfl
@[simp] theorem State.modPort_col (s : State) (k : Nat) (g : Port → Port) : (s.modPort k g).col = s.col := rfl
@[simp] theorem State.modPort_parish (s : State) (k : Nat) (g : Port → Port) : (s.modPort k g).parish = s.parish := rfl
@[simp] theorem State.modPort_conf (s : State) (k : Nat) (g : Port → Port) : (s.modPort k g).conf = s.conf := rfl
@[simp] theorem State.modPort_pend (s : State) (k : Nat) (g : Port → Port) : (s.modPort k g).pend = s.pend := rfl
@[simp] theorem State.modPort_persisted (s : State) (k : Nat) (g : Port → Port) : (s.modPort k g).persisted = s.persisted := rfl
@[simp] theorem State.modPort_persistedOther (s : State) (k : Nat) (g : Port → Port) : (s.modPort k g).persistedOther = s.persistedOther := rfl
@[simp] theorem State.modPort_persistedBad (s : State) (k : Nat) (g : Port → Port) : (s.modPort k g).persistedBad = s.persistedBad := rfl
@[simp] theorem State.modPort_gens (s : State) (k : Nat) (g : Port → Port) : (s.modPort k g).gens = s.gens := rfl
@[simp] theorem State.modPort_seen (s : State) (k : Nat) (g : Port → Port) : (s.modPort k g).seen = s.seen := rfl
@[simp] theorem State.modPort_commit (s : State) (k : Nat) (g : Port → Port) : (s.modPort k g).commit = s.commit := rfl
@[simp] theorem State.modPort_reeve (s : State) (k : Nat) (g : Port → Port) : (s.modPort k g).reeve = s.reeve := rfl
@[simp] theorem State.modPort_timers (s : State) (k : Nat) (g : Port → Port) : (s.modPort k g).timers = s.timers := rfl
@[simp] theorem State.modPort_twin (s : State) (k : Nat) (g : Port → Port) : (s.modPort k g).twin = s.twin := rfl
@[simp] theorem State.modPort_power (s : State) (k : Nat) (g : Port → Port) : (s.modPort k g).power = s.power := rfl
@[simp] theorem State.modPort_fw (s : State) (k : Nat) (g : Port → Port) : (s.modPort k g).fw = s.fw := rfl
@[simp] theorem State.modPort_test (s : State) (k : Nat) (g : Port → Port) : (s.modPort k g).test = s.test := rfl
@[simp] theorem State.modPort_free (s : State) (k : Nat) (g : Port → Port) : (s.modPort k g).free = s.free := rfl
@[simp] theorem State.modPort_dieAt (s : State) (j k : Nat) (g : Port → Port) : (s.modPort k g).dieAt j = s.dieAt j := rfl
@[simp] theorem State.modPort_engAt (s : State) (j k : Nat) (g : Port → Port) : (s.modPort k g).engAt j = s.engAt j := rfl
@[simp] theorem State.modPort_streamAt (s : State) (j k : Nat) (g : Port → Port) : (s.modPort k g).streamAt j = s.streamAt j := rfl
@[simp] theorem State.modPort_millAt (s : State) (j k : Nat) (g : Port → Port) : (s.modPort k g).millAt j = s.millAt j := rfl
@[simp] theorem State.modPort_ruleAt (s : State) (j k : Nat) (g : Port → Port) : (s.modPort k g).ruleAt j = s.ruleAt j := rfl
@[simp] theorem State.modPort_tallyAt (s : State) (j k : Nat) (g : Port → Port) : (s.modPort k g).tallyAt j = s.tallyAt j := rfl
@[simp] theorem State.modPort_rowAt (s : State) (j k : Nat) (g : Port → Port) : (s.modPort k g).rowAt j = s.rowAt j := rfl
@[simp] theorem State.modPort_colAt (s : State) (j k : Nat) (g : Port → Port) : (s.modPort k g).colAt j = s.colAt j := rfl
@[simp] theorem State.modPort_parAt (s : State) (j k : Nat) (g : Port → Port) : (s.modPort k g).parAt j = s.parAt j := rfl
@[simp] theorem State.modPort_ptpAt (s : State) (j k : Nat) (g : Port → Port) : (s.modPort k g).ptpAt j = s.ptpAt j := rfl
@[simp] theorem State.modPort_netAt (s : State) (j k : Nat) (g : Port → Port) : (s.modPort k g).netAt j = s.netAt j := rfl

/-! ### Engine -/

@[simp] theorem State.modEng_engAt (s : State) (k : Nat) (g : Engine → Engine) :
    (s.modEng k g).engAt k = g (s.engAt k) := by simp [State.modEng, State.engAt]
@[simp] theorem State.modEng_engAt_other (s : State) (j k : Nat) (g : Engine → Engine) (h : j ≠ k) :
    (s.modEng k g).engAt j = s.engAt j := by simp [State.modEng, State.engAt, h]
@[simp] theorem State.modEng_pending (s : State) (k : Nat) (g : Engine → Engine) : (s.modEng k g).pending = s.pending := rfl
@[simp] theorem State.modEng_dies (s : State) (k : Nat) (g : Engine → Engine) : (s.modEng k g).dies = s.dies := rfl
@[simp] theorem State.modEng_serial (s : State) (k : Nat) (g : Engine → Engine) : (s.modEng k g).serial = s.serial := rfl
@[simp] theorem State.modEng_mac (s : State) (k : Nat) (g : Engine → Engine) : (s.modEng k g).mac = s.mac := rfl
@[simp] theorem State.modEng_cmptStrap (s : State) (k : Nat) (g : Engine → Engine) : (s.modEng k g).cmptStrap = s.cmptStrap := rfl
@[simp] theorem State.modEng_cmpt (s : State) (k : Nat) (g : Engine → Engine) : (s.modEng k g).cmpt = s.cmpt := rfl
@[simp] theorem State.modEng_resetCause (s : State) (k : Nat) (g : Engine → Engine) : (s.modEng k g).resetCause = s.resetCause := rfl
@[simp] theorem State.modEng_dictReady (s : State) (k : Nat) (g : Engine → Engine) : (s.modEng k g).dictReady = s.dictReady := rfl
@[simp] theorem State.modEng_testen (s : State) (k : Nat) (g : Engine → Engine) : (s.modEng k g).testen = s.testen := rfl
@[simp] theorem State.modEng_startAnchor (s : State) (k : Nat) (g : Engine → Engine) : (s.modEng k g).startAnchor = s.startAnchor := rfl
@[simp] theorem State.modEng_time (s : State) (k : Nat) (g : Engine → Engine) : (s.modEng k g).time = s.time := rfl
@[simp] theorem State.modEng_servo (s : State) (k : Nat) (g : Engine → Engine) : (s.modEng k g).servo = s.servo := rfl
@[simp] theorem State.modEng_ptp (s : State) (k : Nat) (g : Engine → Engine) : (s.modEng k g).ptp = s.ptp := rfl
@[simp] theorem State.modEng_net (s : State) (k : Nat) (g : Engine → Engine) : (s.modEng k g).net = s.net := rfl
@[simp] theorem State.modEng_netPorts (s : State) (k : Nat) (g : Engine → Engine) : (s.modEng k g).netPorts = s.netPorts := rfl
@[simp] theorem State.modEng_sessions (s : State) (k : Nat) (g : Engine → Engine) : (s.modEng k g).sessions = s.sessions := rfl
@[simp] theorem State.modEng_svc (s : State) (k : Nat) (g : Engine → Engine) : (s.modEng k g).svc = s.svc := rfl
@[simp] theorem State.modEng_die (s : State) (k : Nat) (g : Engine → Engine) : (s.modEng k g).die = s.die := rfl
@[simp] theorem State.modEng_port (s : State) (k : Nat) (g : Engine → Engine) : (s.modEng k g).port = s.port := rfl
@[simp] theorem State.modEng_stream (s : State) (k : Nat) (g : Engine → Engine) : (s.modEng k g).stream = s.stream := rfl
@[simp] theorem State.modEng_mill (s : State) (k : Nat) (g : Engine → Engine) : (s.modEng k g).mill = s.mill := rfl
@[simp] theorem State.modEng_rule (s : State) (k : Nat) (g : Engine → Engine) : (s.modEng k g).rule = s.rule := rfl
@[simp] theorem State.modEng_tally (s : State) (k : Nat) (g : Engine → Engine) : (s.modEng k g).tally = s.tally := rfl
@[simp] theorem State.modEng_row (s : State) (k : Nat) (g : Engine → Engine) : (s.modEng k g).row = s.row := rfl
@[simp] theorem State.modEng_col (s : State) (k : Nat) (g : Engine → Engine) : (s.modEng k g).col = s.col := rfl
@[simp] theorem State.modEng_parish (s : State) (k : Nat) (g : Engine → Engine) : (s.modEng k g).parish = s.parish := rfl
@[simp] theorem State.modEng_conf (s : State) (k : Nat) (g : Engine → Engine) : (s.modEng k g).conf = s.conf := rfl
@[simp] theorem State.modEng_pend (s : State) (k : Nat) (g : Engine → Engine) : (s.modEng k g).pend = s.pend := rfl
@[simp] theorem State.modEng_persisted (s : State) (k : Nat) (g : Engine → Engine) : (s.modEng k g).persisted = s.persisted := rfl
@[simp] theorem State.modEng_persistedOther (s : State) (k : Nat) (g : Engine → Engine) : (s.modEng k g).persistedOther = s.persistedOther := rfl
@[simp] theorem State.modEng_persistedBad (s : State) (k : Nat) (g : Engine → Engine) : (s.modEng k g).persistedBad = s.persistedBad := rfl
@[simp] theorem State.modEng_gens (s : State) (k : Nat) (g : Engine → Engine) : (s.modEng k g).gens = s.gens := rfl
@[simp] theorem State.modEng_seen (s : State) (k : Nat) (g : Engine → Engine) : (s.modEng k g).seen = s.seen := rfl
@[simp] theorem State.modEng_commit (s : State) (k : Nat) (g : Engine → Engine) : (s.modEng k g).commit = s.commit := rfl
@[simp] theorem State.modEng_reeve (s : State) (k : Nat) (g : Engine → Engine) : (s.modEng k g).reeve = s.reeve := rfl
@[simp] theorem State.modEng_timers (s : State) (k : Nat) (g : Engine → Engine) : (s.modEng k g).timers = s.timers := rfl
@[simp] theorem State.modEng_twin (s : State) (k : Nat) (g : Engine → Engine) : (s.modEng k g).twin = s.twin := rfl
@[simp] theorem State.modEng_power (s : State) (k : Nat) (g : Engine → Engine) : (s.modEng k g).power = s.power := rfl
@[simp] theorem State.modEng_fw (s : State) (k : Nat) (g : Engine → Engine) : (s.modEng k g).fw = s.fw := rfl
@[simp] theorem State.modEng_test (s : State) (k : Nat) (g : Engine → Engine) : (s.modEng k g).test = s.test := rfl
@[simp] theorem State.modEng_free (s : State) (k : Nat) (g : Engine → Engine) : (s.modEng k g).free = s.free := rfl
@[simp] theorem State.modEng_dieAt (s : State) (j k : Nat) (g : Engine → Engine) : (s.modEng k g).dieAt j = s.dieAt j := rfl
@[simp] theorem State.modEng_portAt (s : State) (j k : Nat) (g : Engine → Engine) : (s.modEng k g).portAt j = s.portAt j := rfl
@[simp] theorem State.modEng_streamAt (s : State) (j k : Nat) (g : Engine → Engine) : (s.modEng k g).streamAt j = s.streamAt j := rfl
@[simp] theorem State.modEng_millAt (s : State) (j k : Nat) (g : Engine → Engine) : (s.modEng k g).millAt j = s.millAt j := rfl
@[simp] theorem State.modEng_ruleAt (s : State) (j k : Nat) (g : Engine → Engine) : (s.modEng k g).ruleAt j = s.ruleAt j := rfl
@[simp] theorem State.modEng_tallyAt (s : State) (j k : Nat) (g : Engine → Engine) : (s.modEng k g).tallyAt j = s.tallyAt j := rfl
@[simp] theorem State.modEng_rowAt (s : State) (j k : Nat) (g : Engine → Engine) : (s.modEng k g).rowAt j = s.rowAt j := rfl
@[simp] theorem State.modEng_colAt (s : State) (j k : Nat) (g : Engine → Engine) : (s.modEng k g).colAt j = s.colAt j := rfl
@[simp] theorem State.modEng_parAt (s : State) (j k : Nat) (g : Engine → Engine) : (s.modEng k g).parAt j = s.parAt j := rfl
@[simp] theorem State.modEng_ptpAt (s : State) (j k : Nat) (g : Engine → Engine) : (s.modEng k g).ptpAt j = s.ptpAt j := rfl
@[simp] theorem State.modEng_netAt (s : State) (j k : Nat) (g : Engine → Engine) : (s.modEng k g).netAt j = s.netAt j := rfl

/-! ### Stream -/

@[simp] theorem State.modStream_streamAt (s : State) (k : Nat) (g : Stream → Stream) :
    (s.modStream k g).streamAt k = g (s.streamAt k) := by simp [State.modStream, State.streamAt]
@[simp] theorem State.modStream_streamAt_other (s : State) (j k : Nat) (g : Stream → Stream) (h : j ≠ k) :
    (s.modStream k g).streamAt j = s.streamAt j := by simp [State.modStream, State.streamAt, h]
@[simp] theorem State.modStream_pending (s : State) (k : Nat) (g : Stream → Stream) : (s.modStream k g).pending = s.pending := rfl
@[simp] theorem State.modStream_dies (s : State) (k : Nat) (g : Stream → Stream) : (s.modStream k g).dies = s.dies := rfl
@[simp] theorem State.modStream_serial (s : State) (k : Nat) (g : Stream → Stream) : (s.modStream k g).serial = s.serial := rfl
@[simp] theorem State.modStream_mac (s : State) (k : Nat) (g : Stream → Stream) : (s.modStream k g).mac = s.mac := rfl
@[simp] theorem State.modStream_cmptStrap (s : State) (k : Nat) (g : Stream → Stream) : (s.modStream k g).cmptStrap = s.cmptStrap := rfl
@[simp] theorem State.modStream_cmpt (s : State) (k : Nat) (g : Stream → Stream) : (s.modStream k g).cmpt = s.cmpt := rfl
@[simp] theorem State.modStream_resetCause (s : State) (k : Nat) (g : Stream → Stream) : (s.modStream k g).resetCause = s.resetCause := rfl
@[simp] theorem State.modStream_dictReady (s : State) (k : Nat) (g : Stream → Stream) : (s.modStream k g).dictReady = s.dictReady := rfl
@[simp] theorem State.modStream_testen (s : State) (k : Nat) (g : Stream → Stream) : (s.modStream k g).testen = s.testen := rfl
@[simp] theorem State.modStream_startAnchor (s : State) (k : Nat) (g : Stream → Stream) : (s.modStream k g).startAnchor = s.startAnchor := rfl
@[simp] theorem State.modStream_time (s : State) (k : Nat) (g : Stream → Stream) : (s.modStream k g).time = s.time := rfl
@[simp] theorem State.modStream_servo (s : State) (k : Nat) (g : Stream → Stream) : (s.modStream k g).servo = s.servo := rfl
@[simp] theorem State.modStream_ptp (s : State) (k : Nat) (g : Stream → Stream) : (s.modStream k g).ptp = s.ptp := rfl
@[simp] theorem State.modStream_net (s : State) (k : Nat) (g : Stream → Stream) : (s.modStream k g).net = s.net := rfl
@[simp] theorem State.modStream_netPorts (s : State) (k : Nat) (g : Stream → Stream) : (s.modStream k g).netPorts = s.netPorts := rfl
@[simp] theorem State.modStream_sessions (s : State) (k : Nat) (g : Stream → Stream) : (s.modStream k g).sessions = s.sessions := rfl
@[simp] theorem State.modStream_svc (s : State) (k : Nat) (g : Stream → Stream) : (s.modStream k g).svc = s.svc := rfl
@[simp] theorem State.modStream_die (s : State) (k : Nat) (g : Stream → Stream) : (s.modStream k g).die = s.die := rfl
@[simp] theorem State.modStream_port (s : State) (k : Nat) (g : Stream → Stream) : (s.modStream k g).port = s.port := rfl
@[simp] theorem State.modStream_engine (s : State) (k : Nat) (g : Stream → Stream) : (s.modStream k g).engine = s.engine := rfl
@[simp] theorem State.modStream_mill (s : State) (k : Nat) (g : Stream → Stream) : (s.modStream k g).mill = s.mill := rfl
@[simp] theorem State.modStream_rule (s : State) (k : Nat) (g : Stream → Stream) : (s.modStream k g).rule = s.rule := rfl
@[simp] theorem State.modStream_tally (s : State) (k : Nat) (g : Stream → Stream) : (s.modStream k g).tally = s.tally := rfl
@[simp] theorem State.modStream_row (s : State) (k : Nat) (g : Stream → Stream) : (s.modStream k g).row = s.row := rfl
@[simp] theorem State.modStream_col (s : State) (k : Nat) (g : Stream → Stream) : (s.modStream k g).col = s.col := rfl
@[simp] theorem State.modStream_parish (s : State) (k : Nat) (g : Stream → Stream) : (s.modStream k g).parish = s.parish := rfl
@[simp] theorem State.modStream_conf (s : State) (k : Nat) (g : Stream → Stream) : (s.modStream k g).conf = s.conf := rfl
@[simp] theorem State.modStream_pend (s : State) (k : Nat) (g : Stream → Stream) : (s.modStream k g).pend = s.pend := rfl
@[simp] theorem State.modStream_persisted (s : State) (k : Nat) (g : Stream → Stream) : (s.modStream k g).persisted = s.persisted := rfl
@[simp] theorem State.modStream_persistedOther (s : State) (k : Nat) (g : Stream → Stream) : (s.modStream k g).persistedOther = s.persistedOther := rfl
@[simp] theorem State.modStream_persistedBad (s : State) (k : Nat) (g : Stream → Stream) : (s.modStream k g).persistedBad = s.persistedBad := rfl
@[simp] theorem State.modStream_gens (s : State) (k : Nat) (g : Stream → Stream) : (s.modStream k g).gens = s.gens := rfl
@[simp] theorem State.modStream_seen (s : State) (k : Nat) (g : Stream → Stream) : (s.modStream k g).seen = s.seen := rfl
@[simp] theorem State.modStream_commit (s : State) (k : Nat) (g : Stream → Stream) : (s.modStream k g).commit = s.commit := rfl
@[simp] theorem State.modStream_reeve (s : State) (k : Nat) (g : Stream → Stream) : (s.modStream k g).reeve = s.reeve := rfl
@[simp] theorem State.modStream_timers (s : State) (k : Nat) (g : Stream → Stream) : (s.modStream k g).timers = s.timers := rfl
@[simp] theorem State.modStream_twin (s : State) (k : Nat) (g : Stream → Stream) : (s.modStream k g).twin = s.twin := rfl
@[simp] theorem State.modStream_power (s : State) (k : Nat) (g : Stream → Stream) : (s.modStream k g).power = s.power := rfl
@[simp] theorem State.modStream_fw (s : State) (k : Nat) (g : Stream → Stream) : (s.modStream k g).fw = s.fw := rfl
@[simp] theorem State.modStream_test (s : State) (k : Nat) (g : Stream → Stream) : (s.modStream k g).test = s.test := rfl
@[simp] theorem State.modStream_free (s : State) (k : Nat) (g : Stream → Stream) : (s.modStream k g).free = s.free := rfl
@[simp] theorem State.modStream_dieAt (s : State) (j k : Nat) (g : Stream → Stream) : (s.modStream k g).dieAt j = s.dieAt j := rfl
@[simp] theorem State.modStream_portAt (s : State) (j k : Nat) (g : Stream → Stream) : (s.modStream k g).portAt j = s.portAt j := rfl
@[simp] theorem State.modStream_engAt (s : State) (j k : Nat) (g : Stream → Stream) : (s.modStream k g).engAt j = s.engAt j := rfl
@[simp] theorem State.modStream_millAt (s : State) (j k : Nat) (g : Stream → Stream) : (s.modStream k g).millAt j = s.millAt j := rfl
@[simp] theorem State.modStream_ruleAt (s : State) (j k : Nat) (g : Stream → Stream) : (s.modStream k g).ruleAt j = s.ruleAt j := rfl
@[simp] theorem State.modStream_tallyAt (s : State) (j k : Nat) (g : Stream → Stream) : (s.modStream k g).tallyAt j = s.tallyAt j := rfl
@[simp] theorem State.modStream_rowAt (s : State) (j k : Nat) (g : Stream → Stream) : (s.modStream k g).rowAt j = s.rowAt j := rfl
@[simp] theorem State.modStream_colAt (s : State) (j k : Nat) (g : Stream → Stream) : (s.modStream k g).colAt j = s.colAt j := rfl
@[simp] theorem State.modStream_parAt (s : State) (j k : Nat) (g : Stream → Stream) : (s.modStream k g).parAt j = s.parAt j := rfl
@[simp] theorem State.modStream_ptpAt (s : State) (j k : Nat) (g : Stream → Stream) : (s.modStream k g).ptpAt j = s.ptpAt j := rfl
@[simp] theorem State.modStream_netAt (s : State) (j k : Nat) (g : Stream → Stream) : (s.modStream k g).netAt j = s.netAt j := rfl

/-! ### MillChan -/

@[simp] theorem State.modMill_millAt (s : State) (k : Nat) (g : MillChan → MillChan) :
    (s.modMill k g).millAt k = g (s.millAt k) := by simp [State.modMill, State.millAt]
@[simp] theorem State.modMill_millAt_other (s : State) (j k : Nat) (g : MillChan → MillChan) (h : j ≠ k) :
    (s.modMill k g).millAt j = s.millAt j := by simp [State.modMill, State.millAt, h]
@[simp] theorem State.modMill_pending (s : State) (k : Nat) (g : MillChan → MillChan) : (s.modMill k g).pending = s.pending := rfl
@[simp] theorem State.modMill_dies (s : State) (k : Nat) (g : MillChan → MillChan) : (s.modMill k g).dies = s.dies := rfl
@[simp] theorem State.modMill_serial (s : State) (k : Nat) (g : MillChan → MillChan) : (s.modMill k g).serial = s.serial := rfl
@[simp] theorem State.modMill_mac (s : State) (k : Nat) (g : MillChan → MillChan) : (s.modMill k g).mac = s.mac := rfl
@[simp] theorem State.modMill_cmptStrap (s : State) (k : Nat) (g : MillChan → MillChan) : (s.modMill k g).cmptStrap = s.cmptStrap := rfl
@[simp] theorem State.modMill_cmpt (s : State) (k : Nat) (g : MillChan → MillChan) : (s.modMill k g).cmpt = s.cmpt := rfl
@[simp] theorem State.modMill_resetCause (s : State) (k : Nat) (g : MillChan → MillChan) : (s.modMill k g).resetCause = s.resetCause := rfl
@[simp] theorem State.modMill_dictReady (s : State) (k : Nat) (g : MillChan → MillChan) : (s.modMill k g).dictReady = s.dictReady := rfl
@[simp] theorem State.modMill_testen (s : State) (k : Nat) (g : MillChan → MillChan) : (s.modMill k g).testen = s.testen := rfl
@[simp] theorem State.modMill_startAnchor (s : State) (k : Nat) (g : MillChan → MillChan) : (s.modMill k g).startAnchor = s.startAnchor := rfl
@[simp] theorem State.modMill_time (s : State) (k : Nat) (g : MillChan → MillChan) : (s.modMill k g).time = s.time := rfl
@[simp] theorem State.modMill_servo (s : State) (k : Nat) (g : MillChan → MillChan) : (s.modMill k g).servo = s.servo := rfl
@[simp] theorem State.modMill_ptp (s : State) (k : Nat) (g : MillChan → MillChan) : (s.modMill k g).ptp = s.ptp := rfl
@[simp] theorem State.modMill_net (s : State) (k : Nat) (g : MillChan → MillChan) : (s.modMill k g).net = s.net := rfl
@[simp] theorem State.modMill_netPorts (s : State) (k : Nat) (g : MillChan → MillChan) : (s.modMill k g).netPorts = s.netPorts := rfl
@[simp] theorem State.modMill_sessions (s : State) (k : Nat) (g : MillChan → MillChan) : (s.modMill k g).sessions = s.sessions := rfl
@[simp] theorem State.modMill_svc (s : State) (k : Nat) (g : MillChan → MillChan) : (s.modMill k g).svc = s.svc := rfl
@[simp] theorem State.modMill_die (s : State) (k : Nat) (g : MillChan → MillChan) : (s.modMill k g).die = s.die := rfl
@[simp] theorem State.modMill_port (s : State) (k : Nat) (g : MillChan → MillChan) : (s.modMill k g).port = s.port := rfl
@[simp] theorem State.modMill_engine (s : State) (k : Nat) (g : MillChan → MillChan) : (s.modMill k g).engine = s.engine := rfl
@[simp] theorem State.modMill_stream (s : State) (k : Nat) (g : MillChan → MillChan) : (s.modMill k g).stream = s.stream := rfl
@[simp] theorem State.modMill_rule (s : State) (k : Nat) (g : MillChan → MillChan) : (s.modMill k g).rule = s.rule := rfl
@[simp] theorem State.modMill_tally (s : State) (k : Nat) (g : MillChan → MillChan) : (s.modMill k g).tally = s.tally := rfl
@[simp] theorem State.modMill_row (s : State) (k : Nat) (g : MillChan → MillChan) : (s.modMill k g).row = s.row := rfl
@[simp] theorem State.modMill_col (s : State) (k : Nat) (g : MillChan → MillChan) : (s.modMill k g).col = s.col := rfl
@[simp] theorem State.modMill_parish (s : State) (k : Nat) (g : MillChan → MillChan) : (s.modMill k g).parish = s.parish := rfl
@[simp] theorem State.modMill_conf (s : State) (k : Nat) (g : MillChan → MillChan) : (s.modMill k g).conf = s.conf := rfl
@[simp] theorem State.modMill_pend (s : State) (k : Nat) (g : MillChan → MillChan) : (s.modMill k g).pend = s.pend := rfl
@[simp] theorem State.modMill_persisted (s : State) (k : Nat) (g : MillChan → MillChan) : (s.modMill k g).persisted = s.persisted := rfl
@[simp] theorem State.modMill_persistedOther (s : State) (k : Nat) (g : MillChan → MillChan) : (s.modMill k g).persistedOther = s.persistedOther := rfl
@[simp] theorem State.modMill_persistedBad (s : State) (k : Nat) (g : MillChan → MillChan) : (s.modMill k g).persistedBad = s.persistedBad := rfl
@[simp] theorem State.modMill_gens (s : State) (k : Nat) (g : MillChan → MillChan) : (s.modMill k g).gens = s.gens := rfl
@[simp] theorem State.modMill_seen (s : State) (k : Nat) (g : MillChan → MillChan) : (s.modMill k g).seen = s.seen := rfl
@[simp] theorem State.modMill_commit (s : State) (k : Nat) (g : MillChan → MillChan) : (s.modMill k g).commit = s.commit := rfl
@[simp] theorem State.modMill_reeve (s : State) (k : Nat) (g : MillChan → MillChan) : (s.modMill k g).reeve = s.reeve := rfl
@[simp] theorem State.modMill_timers (s : State) (k : Nat) (g : MillChan → MillChan) : (s.modMill k g).timers = s.timers := rfl
@[simp] theorem State.modMill_twin (s : State) (k : Nat) (g : MillChan → MillChan) : (s.modMill k g).twin = s.twin := rfl
@[simp] theorem State.modMill_power (s : State) (k : Nat) (g : MillChan → MillChan) : (s.modMill k g).power = s.power := rfl
@[simp] theorem State.modMill_fw (s : State) (k : Nat) (g : MillChan → MillChan) : (s.modMill k g).fw = s.fw := rfl
@[simp] theorem State.modMill_test (s : State) (k : Nat) (g : MillChan → MillChan) : (s.modMill k g).test = s.test := rfl
@[simp] theorem State.modMill_free (s : State) (k : Nat) (g : MillChan → MillChan) : (s.modMill k g).free = s.free := rfl
@[simp] theorem State.modMill_dieAt (s : State) (j k : Nat) (g : MillChan → MillChan) : (s.modMill k g).dieAt j = s.dieAt j := rfl
@[simp] theorem State.modMill_portAt (s : State) (j k : Nat) (g : MillChan → MillChan) : (s.modMill k g).portAt j = s.portAt j := rfl
@[simp] theorem State.modMill_engAt (s : State) (j k : Nat) (g : MillChan → MillChan) : (s.modMill k g).engAt j = s.engAt j := rfl
@[simp] theorem State.modMill_streamAt (s : State) (j k : Nat) (g : MillChan → MillChan) : (s.modMill k g).streamAt j = s.streamAt j := rfl
@[simp] theorem State.modMill_ruleAt (s : State) (j k : Nat) (g : MillChan → MillChan) : (s.modMill k g).ruleAt j = s.ruleAt j := rfl
@[simp] theorem State.modMill_tallyAt (s : State) (j k : Nat) (g : MillChan → MillChan) : (s.modMill k g).tallyAt j = s.tallyAt j := rfl
@[simp] theorem State.modMill_rowAt (s : State) (j k : Nat) (g : MillChan → MillChan) : (s.modMill k g).rowAt j = s.rowAt j := rfl
@[simp] theorem State.modMill_colAt (s : State) (j k : Nat) (g : MillChan → MillChan) : (s.modMill k g).colAt j = s.colAt j := rfl
@[simp] theorem State.modMill_parAt (s : State) (j k : Nat) (g : MillChan → MillChan) : (s.modMill k g).parAt j = s.parAt j := rfl
@[simp] theorem State.modMill_ptpAt (s : State) (j k : Nat) (g : MillChan → MillChan) : (s.modMill k g).ptpAt j = s.ptpAt j := rfl
@[simp] theorem State.modMill_netAt (s : State) (j k : Nat) (g : MillChan → MillChan) : (s.modMill k g).netAt j = s.netAt j := rfl

/-! ### Rule -/

@[simp] theorem State.modRule_ruleAt (s : State) (k : Nat) (g : Rule → Rule) :
    (s.modRule k g).ruleAt k = g (s.ruleAt k) := by simp [State.modRule, State.ruleAt]
@[simp] theorem State.modRule_ruleAt_other (s : State) (j k : Nat) (g : Rule → Rule) (h : j ≠ k) :
    (s.modRule k g).ruleAt j = s.ruleAt j := by simp [State.modRule, State.ruleAt, h]
@[simp] theorem State.modRule_pending (s : State) (k : Nat) (g : Rule → Rule) : (s.modRule k g).pending = s.pending := rfl
@[simp] theorem State.modRule_dies (s : State) (k : Nat) (g : Rule → Rule) : (s.modRule k g).dies = s.dies := rfl
@[simp] theorem State.modRule_serial (s : State) (k : Nat) (g : Rule → Rule) : (s.modRule k g).serial = s.serial := rfl
@[simp] theorem State.modRule_mac (s : State) (k : Nat) (g : Rule → Rule) : (s.modRule k g).mac = s.mac := rfl
@[simp] theorem State.modRule_cmptStrap (s : State) (k : Nat) (g : Rule → Rule) : (s.modRule k g).cmptStrap = s.cmptStrap := rfl
@[simp] theorem State.modRule_cmpt (s : State) (k : Nat) (g : Rule → Rule) : (s.modRule k g).cmpt = s.cmpt := rfl
@[simp] theorem State.modRule_resetCause (s : State) (k : Nat) (g : Rule → Rule) : (s.modRule k g).resetCause = s.resetCause := rfl
@[simp] theorem State.modRule_dictReady (s : State) (k : Nat) (g : Rule → Rule) : (s.modRule k g).dictReady = s.dictReady := rfl
@[simp] theorem State.modRule_testen (s : State) (k : Nat) (g : Rule → Rule) : (s.modRule k g).testen = s.testen := rfl
@[simp] theorem State.modRule_startAnchor (s : State) (k : Nat) (g : Rule → Rule) : (s.modRule k g).startAnchor = s.startAnchor := rfl
@[simp] theorem State.modRule_time (s : State) (k : Nat) (g : Rule → Rule) : (s.modRule k g).time = s.time := rfl
@[simp] theorem State.modRule_servo (s : State) (k : Nat) (g : Rule → Rule) : (s.modRule k g).servo = s.servo := rfl
@[simp] theorem State.modRule_ptp (s : State) (k : Nat) (g : Rule → Rule) : (s.modRule k g).ptp = s.ptp := rfl
@[simp] theorem State.modRule_net (s : State) (k : Nat) (g : Rule → Rule) : (s.modRule k g).net = s.net := rfl
@[simp] theorem State.modRule_netPorts (s : State) (k : Nat) (g : Rule → Rule) : (s.modRule k g).netPorts = s.netPorts := rfl
@[simp] theorem State.modRule_sessions (s : State) (k : Nat) (g : Rule → Rule) : (s.modRule k g).sessions = s.sessions := rfl
@[simp] theorem State.modRule_svc (s : State) (k : Nat) (g : Rule → Rule) : (s.modRule k g).svc = s.svc := rfl
@[simp] theorem State.modRule_die (s : State) (k : Nat) (g : Rule → Rule) : (s.modRule k g).die = s.die := rfl
@[simp] theorem State.modRule_port (s : State) (k : Nat) (g : Rule → Rule) : (s.modRule k g).port = s.port := rfl
@[simp] theorem State.modRule_engine (s : State) (k : Nat) (g : Rule → Rule) : (s.modRule k g).engine = s.engine := rfl
@[simp] theorem State.modRule_stream (s : State) (k : Nat) (g : Rule → Rule) : (s.modRule k g).stream = s.stream := rfl
@[simp] theorem State.modRule_mill (s : State) (k : Nat) (g : Rule → Rule) : (s.modRule k g).mill = s.mill := rfl
@[simp] theorem State.modRule_tally (s : State) (k : Nat) (g : Rule → Rule) : (s.modRule k g).tally = s.tally := rfl
@[simp] theorem State.modRule_row (s : State) (k : Nat) (g : Rule → Rule) : (s.modRule k g).row = s.row := rfl
@[simp] theorem State.modRule_col (s : State) (k : Nat) (g : Rule → Rule) : (s.modRule k g).col = s.col := rfl
@[simp] theorem State.modRule_parish (s : State) (k : Nat) (g : Rule → Rule) : (s.modRule k g).parish = s.parish := rfl
@[simp] theorem State.modRule_conf (s : State) (k : Nat) (g : Rule → Rule) : (s.modRule k g).conf = s.conf := rfl
@[simp] theorem State.modRule_pend (s : State) (k : Nat) (g : Rule → Rule) : (s.modRule k g).pend = s.pend := rfl
@[simp] theorem State.modRule_persisted (s : State) (k : Nat) (g : Rule → Rule) : (s.modRule k g).persisted = s.persisted := rfl
@[simp] theorem State.modRule_persistedOther (s : State) (k : Nat) (g : Rule → Rule) : (s.modRule k g).persistedOther = s.persistedOther := rfl
@[simp] theorem State.modRule_persistedBad (s : State) (k : Nat) (g : Rule → Rule) : (s.modRule k g).persistedBad = s.persistedBad := rfl
@[simp] theorem State.modRule_gens (s : State) (k : Nat) (g : Rule → Rule) : (s.modRule k g).gens = s.gens := rfl
@[simp] theorem State.modRule_seen (s : State) (k : Nat) (g : Rule → Rule) : (s.modRule k g).seen = s.seen := rfl
@[simp] theorem State.modRule_commit (s : State) (k : Nat) (g : Rule → Rule) : (s.modRule k g).commit = s.commit := rfl
@[simp] theorem State.modRule_reeve (s : State) (k : Nat) (g : Rule → Rule) : (s.modRule k g).reeve = s.reeve := rfl
@[simp] theorem State.modRule_timers (s : State) (k : Nat) (g : Rule → Rule) : (s.modRule k g).timers = s.timers := rfl
@[simp] theorem State.modRule_twin (s : State) (k : Nat) (g : Rule → Rule) : (s.modRule k g).twin = s.twin := rfl
@[simp] theorem State.modRule_power (s : State) (k : Nat) (g : Rule → Rule) : (s.modRule k g).power = s.power := rfl
@[simp] theorem State.modRule_fw (s : State) (k : Nat) (g : Rule → Rule) : (s.modRule k g).fw = s.fw := rfl
@[simp] theorem State.modRule_test (s : State) (k : Nat) (g : Rule → Rule) : (s.modRule k g).test = s.test := rfl
@[simp] theorem State.modRule_free (s : State) (k : Nat) (g : Rule → Rule) : (s.modRule k g).free = s.free := rfl
@[simp] theorem State.modRule_dieAt (s : State) (j k : Nat) (g : Rule → Rule) : (s.modRule k g).dieAt j = s.dieAt j := rfl
@[simp] theorem State.modRule_portAt (s : State) (j k : Nat) (g : Rule → Rule) : (s.modRule k g).portAt j = s.portAt j := rfl
@[simp] theorem State.modRule_engAt (s : State) (j k : Nat) (g : Rule → Rule) : (s.modRule k g).engAt j = s.engAt j := rfl
@[simp] theorem State.modRule_streamAt (s : State) (j k : Nat) (g : Rule → Rule) : (s.modRule k g).streamAt j = s.streamAt j := rfl
@[simp] theorem State.modRule_millAt (s : State) (j k : Nat) (g : Rule → Rule) : (s.modRule k g).millAt j = s.millAt j := rfl
@[simp] theorem State.modRule_tallyAt (s : State) (j k : Nat) (g : Rule → Rule) : (s.modRule k g).tallyAt j = s.tallyAt j := rfl
@[simp] theorem State.modRule_rowAt (s : State) (j k : Nat) (g : Rule → Rule) : (s.modRule k g).rowAt j = s.rowAt j := rfl
@[simp] theorem State.modRule_colAt (s : State) (j k : Nat) (g : Rule → Rule) : (s.modRule k g).colAt j = s.colAt j := rfl
@[simp] theorem State.modRule_parAt (s : State) (j k : Nat) (g : Rule → Rule) : (s.modRule k g).parAt j = s.parAt j := rfl
@[simp] theorem State.modRule_ptpAt (s : State) (j k : Nat) (g : Rule → Rule) : (s.modRule k g).ptpAt j = s.ptpAt j := rfl
@[simp] theorem State.modRule_netAt (s : State) (j k : Nat) (g : Rule → Rule) : (s.modRule k g).netAt j = s.netAt j := rfl

/-! ### Tally -/

@[simp] theorem State.modTally_tallyAt (s : State) (k : Nat) (g : Tally → Tally) :
    (s.modTally k g).tallyAt k = g (s.tallyAt k) := by simp [State.modTally, State.tallyAt]
@[simp] theorem State.modTally_tallyAt_other (s : State) (j k : Nat) (g : Tally → Tally) (h : j ≠ k) :
    (s.modTally k g).tallyAt j = s.tallyAt j := by simp [State.modTally, State.tallyAt, h]
@[simp] theorem State.modTally_pending (s : State) (k : Nat) (g : Tally → Tally) : (s.modTally k g).pending = s.pending := rfl
@[simp] theorem State.modTally_dies (s : State) (k : Nat) (g : Tally → Tally) : (s.modTally k g).dies = s.dies := rfl
@[simp] theorem State.modTally_serial (s : State) (k : Nat) (g : Tally → Tally) : (s.modTally k g).serial = s.serial := rfl
@[simp] theorem State.modTally_mac (s : State) (k : Nat) (g : Tally → Tally) : (s.modTally k g).mac = s.mac := rfl
@[simp] theorem State.modTally_cmptStrap (s : State) (k : Nat) (g : Tally → Tally) : (s.modTally k g).cmptStrap = s.cmptStrap := rfl
@[simp] theorem State.modTally_cmpt (s : State) (k : Nat) (g : Tally → Tally) : (s.modTally k g).cmpt = s.cmpt := rfl
@[simp] theorem State.modTally_resetCause (s : State) (k : Nat) (g : Tally → Tally) : (s.modTally k g).resetCause = s.resetCause := rfl
@[simp] theorem State.modTally_dictReady (s : State) (k : Nat) (g : Tally → Tally) : (s.modTally k g).dictReady = s.dictReady := rfl
@[simp] theorem State.modTally_testen (s : State) (k : Nat) (g : Tally → Tally) : (s.modTally k g).testen = s.testen := rfl
@[simp] theorem State.modTally_startAnchor (s : State) (k : Nat) (g : Tally → Tally) : (s.modTally k g).startAnchor = s.startAnchor := rfl
@[simp] theorem State.modTally_time (s : State) (k : Nat) (g : Tally → Tally) : (s.modTally k g).time = s.time := rfl
@[simp] theorem State.modTally_servo (s : State) (k : Nat) (g : Tally → Tally) : (s.modTally k g).servo = s.servo := rfl
@[simp] theorem State.modTally_ptp (s : State) (k : Nat) (g : Tally → Tally) : (s.modTally k g).ptp = s.ptp := rfl
@[simp] theorem State.modTally_net (s : State) (k : Nat) (g : Tally → Tally) : (s.modTally k g).net = s.net := rfl
@[simp] theorem State.modTally_netPorts (s : State) (k : Nat) (g : Tally → Tally) : (s.modTally k g).netPorts = s.netPorts := rfl
@[simp] theorem State.modTally_sessions (s : State) (k : Nat) (g : Tally → Tally) : (s.modTally k g).sessions = s.sessions := rfl
@[simp] theorem State.modTally_svc (s : State) (k : Nat) (g : Tally → Tally) : (s.modTally k g).svc = s.svc := rfl
@[simp] theorem State.modTally_die (s : State) (k : Nat) (g : Tally → Tally) : (s.modTally k g).die = s.die := rfl
@[simp] theorem State.modTally_port (s : State) (k : Nat) (g : Tally → Tally) : (s.modTally k g).port = s.port := rfl
@[simp] theorem State.modTally_engine (s : State) (k : Nat) (g : Tally → Tally) : (s.modTally k g).engine = s.engine := rfl
@[simp] theorem State.modTally_stream (s : State) (k : Nat) (g : Tally → Tally) : (s.modTally k g).stream = s.stream := rfl
@[simp] theorem State.modTally_mill (s : State) (k : Nat) (g : Tally → Tally) : (s.modTally k g).mill = s.mill := rfl
@[simp] theorem State.modTally_rule (s : State) (k : Nat) (g : Tally → Tally) : (s.modTally k g).rule = s.rule := rfl
@[simp] theorem State.modTally_row (s : State) (k : Nat) (g : Tally → Tally) : (s.modTally k g).row = s.row := rfl
@[simp] theorem State.modTally_col (s : State) (k : Nat) (g : Tally → Tally) : (s.modTally k g).col = s.col := rfl
@[simp] theorem State.modTally_parish (s : State) (k : Nat) (g : Tally → Tally) : (s.modTally k g).parish = s.parish := rfl
@[simp] theorem State.modTally_conf (s : State) (k : Nat) (g : Tally → Tally) : (s.modTally k g).conf = s.conf := rfl
@[simp] theorem State.modTally_pend (s : State) (k : Nat) (g : Tally → Tally) : (s.modTally k g).pend = s.pend := rfl
@[simp] theorem State.modTally_persisted (s : State) (k : Nat) (g : Tally → Tally) : (s.modTally k g).persisted = s.persisted := rfl
@[simp] theorem State.modTally_persistedOther (s : State) (k : Nat) (g : Tally → Tally) : (s.modTally k g).persistedOther = s.persistedOther := rfl
@[simp] theorem State.modTally_persistedBad (s : State) (k : Nat) (g : Tally → Tally) : (s.modTally k g).persistedBad = s.persistedBad := rfl
@[simp] theorem State.modTally_gens (s : State) (k : Nat) (g : Tally → Tally) : (s.modTally k g).gens = s.gens := rfl
@[simp] theorem State.modTally_seen (s : State) (k : Nat) (g : Tally → Tally) : (s.modTally k g).seen = s.seen := rfl
@[simp] theorem State.modTally_commit (s : State) (k : Nat) (g : Tally → Tally) : (s.modTally k g).commit = s.commit := rfl
@[simp] theorem State.modTally_reeve (s : State) (k : Nat) (g : Tally → Tally) : (s.modTally k g).reeve = s.reeve := rfl
@[simp] theorem State.modTally_timers (s : State) (k : Nat) (g : Tally → Tally) : (s.modTally k g).timers = s.timers := rfl
@[simp] theorem State.modTally_twin (s : State) (k : Nat) (g : Tally → Tally) : (s.modTally k g).twin = s.twin := rfl
@[simp] theorem State.modTally_power (s : State) (k : Nat) (g : Tally → Tally) : (s.modTally k g).power = s.power := rfl
@[simp] theorem State.modTally_fw (s : State) (k : Nat) (g : Tally → Tally) : (s.modTally k g).fw = s.fw := rfl
@[simp] theorem State.modTally_test (s : State) (k : Nat) (g : Tally → Tally) : (s.modTally k g).test = s.test := rfl
@[simp] theorem State.modTally_free (s : State) (k : Nat) (g : Tally → Tally) : (s.modTally k g).free = s.free := rfl
@[simp] theorem State.modTally_dieAt (s : State) (j k : Nat) (g : Tally → Tally) : (s.modTally k g).dieAt j = s.dieAt j := rfl
@[simp] theorem State.modTally_portAt (s : State) (j k : Nat) (g : Tally → Tally) : (s.modTally k g).portAt j = s.portAt j := rfl
@[simp] theorem State.modTally_engAt (s : State) (j k : Nat) (g : Tally → Tally) : (s.modTally k g).engAt j = s.engAt j := rfl
@[simp] theorem State.modTally_streamAt (s : State) (j k : Nat) (g : Tally → Tally) : (s.modTally k g).streamAt j = s.streamAt j := rfl
@[simp] theorem State.modTally_millAt (s : State) (j k : Nat) (g : Tally → Tally) : (s.modTally k g).millAt j = s.millAt j := rfl
@[simp] theorem State.modTally_ruleAt (s : State) (j k : Nat) (g : Tally → Tally) : (s.modTally k g).ruleAt j = s.ruleAt j := rfl
@[simp] theorem State.modTally_rowAt (s : State) (j k : Nat) (g : Tally → Tally) : (s.modTally k g).rowAt j = s.rowAt j := rfl
@[simp] theorem State.modTally_colAt (s : State) (j k : Nat) (g : Tally → Tally) : (s.modTally k g).colAt j = s.colAt j := rfl
@[simp] theorem State.modTally_parAt (s : State) (j k : Nat) (g : Tally → Tally) : (s.modTally k g).parAt j = s.parAt j := rfl
@[simp] theorem State.modTally_ptpAt (s : State) (j k : Nat) (g : Tally → Tally) : (s.modTally k g).ptpAt j = s.ptpAt j := rfl
@[simp] theorem State.modTally_netAt (s : State) (j k : Nat) (g : Tally → Tally) : (s.modTally k g).netAt j = s.netAt j := rfl

/-! ### Row -/

@[simp] theorem State.modRow_rowAt (s : State) (k : Nat) (g : Row → Row) :
    (s.modRow k g).rowAt k = g (s.rowAt k) := by simp [State.modRow, State.rowAt]
@[simp] theorem State.modRow_rowAt_other (s : State) (j k : Nat) (g : Row → Row) (h : j ≠ k) :
    (s.modRow k g).rowAt j = s.rowAt j := by simp [State.modRow, State.rowAt, h]
@[simp] theorem State.modRow_pending (s : State) (k : Nat) (g : Row → Row) : (s.modRow k g).pending = s.pending := rfl
@[simp] theorem State.modRow_dies (s : State) (k : Nat) (g : Row → Row) : (s.modRow k g).dies = s.dies := rfl
@[simp] theorem State.modRow_serial (s : State) (k : Nat) (g : Row → Row) : (s.modRow k g).serial = s.serial := rfl
@[simp] theorem State.modRow_mac (s : State) (k : Nat) (g : Row → Row) : (s.modRow k g).mac = s.mac := rfl
@[simp] theorem State.modRow_cmptStrap (s : State) (k : Nat) (g : Row → Row) : (s.modRow k g).cmptStrap = s.cmptStrap := rfl
@[simp] theorem State.modRow_cmpt (s : State) (k : Nat) (g : Row → Row) : (s.modRow k g).cmpt = s.cmpt := rfl
@[simp] theorem State.modRow_resetCause (s : State) (k : Nat) (g : Row → Row) : (s.modRow k g).resetCause = s.resetCause := rfl
@[simp] theorem State.modRow_dictReady (s : State) (k : Nat) (g : Row → Row) : (s.modRow k g).dictReady = s.dictReady := rfl
@[simp] theorem State.modRow_testen (s : State) (k : Nat) (g : Row → Row) : (s.modRow k g).testen = s.testen := rfl
@[simp] theorem State.modRow_startAnchor (s : State) (k : Nat) (g : Row → Row) : (s.modRow k g).startAnchor = s.startAnchor := rfl
@[simp] theorem State.modRow_time (s : State) (k : Nat) (g : Row → Row) : (s.modRow k g).time = s.time := rfl
@[simp] theorem State.modRow_servo (s : State) (k : Nat) (g : Row → Row) : (s.modRow k g).servo = s.servo := rfl
@[simp] theorem State.modRow_ptp (s : State) (k : Nat) (g : Row → Row) : (s.modRow k g).ptp = s.ptp := rfl
@[simp] theorem State.modRow_net (s : State) (k : Nat) (g : Row → Row) : (s.modRow k g).net = s.net := rfl
@[simp] theorem State.modRow_netPorts (s : State) (k : Nat) (g : Row → Row) : (s.modRow k g).netPorts = s.netPorts := rfl
@[simp] theorem State.modRow_sessions (s : State) (k : Nat) (g : Row → Row) : (s.modRow k g).sessions = s.sessions := rfl
@[simp] theorem State.modRow_svc (s : State) (k : Nat) (g : Row → Row) : (s.modRow k g).svc = s.svc := rfl
@[simp] theorem State.modRow_die (s : State) (k : Nat) (g : Row → Row) : (s.modRow k g).die = s.die := rfl
@[simp] theorem State.modRow_port (s : State) (k : Nat) (g : Row → Row) : (s.modRow k g).port = s.port := rfl
@[simp] theorem State.modRow_engine (s : State) (k : Nat) (g : Row → Row) : (s.modRow k g).engine = s.engine := rfl
@[simp] theorem State.modRow_stream (s : State) (k : Nat) (g : Row → Row) : (s.modRow k g).stream = s.stream := rfl
@[simp] theorem State.modRow_mill (s : State) (k : Nat) (g : Row → Row) : (s.modRow k g).mill = s.mill := rfl
@[simp] theorem State.modRow_rule (s : State) (k : Nat) (g : Row → Row) : (s.modRow k g).rule = s.rule := rfl
@[simp] theorem State.modRow_tally (s : State) (k : Nat) (g : Row → Row) : (s.modRow k g).tally = s.tally := rfl
@[simp] theorem State.modRow_col (s : State) (k : Nat) (g : Row → Row) : (s.modRow k g).col = s.col := rfl
@[simp] theorem State.modRow_parish (s : State) (k : Nat) (g : Row → Row) : (s.modRow k g).parish = s.parish := rfl
@[simp] theorem State.modRow_conf (s : State) (k : Nat) (g : Row → Row) : (s.modRow k g).conf = s.conf := rfl
@[simp] theorem State.modRow_pend (s : State) (k : Nat) (g : Row → Row) : (s.modRow k g).pend = s.pend := rfl
@[simp] theorem State.modRow_persisted (s : State) (k : Nat) (g : Row → Row) : (s.modRow k g).persisted = s.persisted := rfl
@[simp] theorem State.modRow_persistedOther (s : State) (k : Nat) (g : Row → Row) : (s.modRow k g).persistedOther = s.persistedOther := rfl
@[simp] theorem State.modRow_persistedBad (s : State) (k : Nat) (g : Row → Row) : (s.modRow k g).persistedBad = s.persistedBad := rfl
@[simp] theorem State.modRow_gens (s : State) (k : Nat) (g : Row → Row) : (s.modRow k g).gens = s.gens := rfl
@[simp] theorem State.modRow_seen (s : State) (k : Nat) (g : Row → Row) : (s.modRow k g).seen = s.seen := rfl
@[simp] theorem State.modRow_commit (s : State) (k : Nat) (g : Row → Row) : (s.modRow k g).commit = s.commit := rfl
@[simp] theorem State.modRow_reeve (s : State) (k : Nat) (g : Row → Row) : (s.modRow k g).reeve = s.reeve := rfl
@[simp] theorem State.modRow_timers (s : State) (k : Nat) (g : Row → Row) : (s.modRow k g).timers = s.timers := rfl
@[simp] theorem State.modRow_twin (s : State) (k : Nat) (g : Row → Row) : (s.modRow k g).twin = s.twin := rfl
@[simp] theorem State.modRow_power (s : State) (k : Nat) (g : Row → Row) : (s.modRow k g).power = s.power := rfl
@[simp] theorem State.modRow_fw (s : State) (k : Nat) (g : Row → Row) : (s.modRow k g).fw = s.fw := rfl
@[simp] theorem State.modRow_test (s : State) (k : Nat) (g : Row → Row) : (s.modRow k g).test = s.test := rfl
@[simp] theorem State.modRow_free (s : State) (k : Nat) (g : Row → Row) : (s.modRow k g).free = s.free := rfl
@[simp] theorem State.modRow_dieAt (s : State) (j k : Nat) (g : Row → Row) : (s.modRow k g).dieAt j = s.dieAt j := rfl
@[simp] theorem State.modRow_portAt (s : State) (j k : Nat) (g : Row → Row) : (s.modRow k g).portAt j = s.portAt j := rfl
@[simp] theorem State.modRow_engAt (s : State) (j k : Nat) (g : Row → Row) : (s.modRow k g).engAt j = s.engAt j := rfl
@[simp] theorem State.modRow_streamAt (s : State) (j k : Nat) (g : Row → Row) : (s.modRow k g).streamAt j = s.streamAt j := rfl
@[simp] theorem State.modRow_millAt (s : State) (j k : Nat) (g : Row → Row) : (s.modRow k g).millAt j = s.millAt j := rfl
@[simp] theorem State.modRow_ruleAt (s : State) (j k : Nat) (g : Row → Row) : (s.modRow k g).ruleAt j = s.ruleAt j := rfl
@[simp] theorem State.modRow_tallyAt (s : State) (j k : Nat) (g : Row → Row) : (s.modRow k g).tallyAt j = s.tallyAt j := rfl
@[simp] theorem State.modRow_colAt (s : State) (j k : Nat) (g : Row → Row) : (s.modRow k g).colAt j = s.colAt j := rfl
@[simp] theorem State.modRow_parAt (s : State) (j k : Nat) (g : Row → Row) : (s.modRow k g).parAt j = s.parAt j := rfl
@[simp] theorem State.modRow_ptpAt (s : State) (j k : Nat) (g : Row → Row) : (s.modRow k g).ptpAt j = s.ptpAt j := rfl
@[simp] theorem State.modRow_netAt (s : State) (j k : Nat) (g : Row → Row) : (s.modRow k g).netAt j = s.netAt j := rfl

/-! ### Col -/

@[simp] theorem State.modCol_colAt (s : State) (k : Nat) (g : Col → Col) :
    (s.modCol k g).colAt k = g (s.colAt k) := by simp [State.modCol, State.colAt]
@[simp] theorem State.modCol_colAt_other (s : State) (j k : Nat) (g : Col → Col) (h : j ≠ k) :
    (s.modCol k g).colAt j = s.colAt j := by simp [State.modCol, State.colAt, h]
@[simp] theorem State.modCol_pending (s : State) (k : Nat) (g : Col → Col) : (s.modCol k g).pending = s.pending := rfl
@[simp] theorem State.modCol_dies (s : State) (k : Nat) (g : Col → Col) : (s.modCol k g).dies = s.dies := rfl
@[simp] theorem State.modCol_serial (s : State) (k : Nat) (g : Col → Col) : (s.modCol k g).serial = s.serial := rfl
@[simp] theorem State.modCol_mac (s : State) (k : Nat) (g : Col → Col) : (s.modCol k g).mac = s.mac := rfl
@[simp] theorem State.modCol_cmptStrap (s : State) (k : Nat) (g : Col → Col) : (s.modCol k g).cmptStrap = s.cmptStrap := rfl
@[simp] theorem State.modCol_cmpt (s : State) (k : Nat) (g : Col → Col) : (s.modCol k g).cmpt = s.cmpt := rfl
@[simp] theorem State.modCol_resetCause (s : State) (k : Nat) (g : Col → Col) : (s.modCol k g).resetCause = s.resetCause := rfl
@[simp] theorem State.modCol_dictReady (s : State) (k : Nat) (g : Col → Col) : (s.modCol k g).dictReady = s.dictReady := rfl
@[simp] theorem State.modCol_testen (s : State) (k : Nat) (g : Col → Col) : (s.modCol k g).testen = s.testen := rfl
@[simp] theorem State.modCol_startAnchor (s : State) (k : Nat) (g : Col → Col) : (s.modCol k g).startAnchor = s.startAnchor := rfl
@[simp] theorem State.modCol_time (s : State) (k : Nat) (g : Col → Col) : (s.modCol k g).time = s.time := rfl
@[simp] theorem State.modCol_servo (s : State) (k : Nat) (g : Col → Col) : (s.modCol k g).servo = s.servo := rfl
@[simp] theorem State.modCol_ptp (s : State) (k : Nat) (g : Col → Col) : (s.modCol k g).ptp = s.ptp := rfl
@[simp] theorem State.modCol_net (s : State) (k : Nat) (g : Col → Col) : (s.modCol k g).net = s.net := rfl
@[simp] theorem State.modCol_netPorts (s : State) (k : Nat) (g : Col → Col) : (s.modCol k g).netPorts = s.netPorts := rfl
@[simp] theorem State.modCol_sessions (s : State) (k : Nat) (g : Col → Col) : (s.modCol k g).sessions = s.sessions := rfl
@[simp] theorem State.modCol_svc (s : State) (k : Nat) (g : Col → Col) : (s.modCol k g).svc = s.svc := rfl
@[simp] theorem State.modCol_die (s : State) (k : Nat) (g : Col → Col) : (s.modCol k g).die = s.die := rfl
@[simp] theorem State.modCol_port (s : State) (k : Nat) (g : Col → Col) : (s.modCol k g).port = s.port := rfl
@[simp] theorem State.modCol_engine (s : State) (k : Nat) (g : Col → Col) : (s.modCol k g).engine = s.engine := rfl
@[simp] theorem State.modCol_stream (s : State) (k : Nat) (g : Col → Col) : (s.modCol k g).stream = s.stream := rfl
@[simp] theorem State.modCol_mill (s : State) (k : Nat) (g : Col → Col) : (s.modCol k g).mill = s.mill := rfl
@[simp] theorem State.modCol_rule (s : State) (k : Nat) (g : Col → Col) : (s.modCol k g).rule = s.rule := rfl
@[simp] theorem State.modCol_tally (s : State) (k : Nat) (g : Col → Col) : (s.modCol k g).tally = s.tally := rfl
@[simp] theorem State.modCol_row (s : State) (k : Nat) (g : Col → Col) : (s.modCol k g).row = s.row := rfl
@[simp] theorem State.modCol_parish (s : State) (k : Nat) (g : Col → Col) : (s.modCol k g).parish = s.parish := rfl
@[simp] theorem State.modCol_conf (s : State) (k : Nat) (g : Col → Col) : (s.modCol k g).conf = s.conf := rfl
@[simp] theorem State.modCol_pend (s : State) (k : Nat) (g : Col → Col) : (s.modCol k g).pend = s.pend := rfl
@[simp] theorem State.modCol_persisted (s : State) (k : Nat) (g : Col → Col) : (s.modCol k g).persisted = s.persisted := rfl
@[simp] theorem State.modCol_persistedOther (s : State) (k : Nat) (g : Col → Col) : (s.modCol k g).persistedOther = s.persistedOther := rfl
@[simp] theorem State.modCol_persistedBad (s : State) (k : Nat) (g : Col → Col) : (s.modCol k g).persistedBad = s.persistedBad := rfl
@[simp] theorem State.modCol_gens (s : State) (k : Nat) (g : Col → Col) : (s.modCol k g).gens = s.gens := rfl
@[simp] theorem State.modCol_seen (s : State) (k : Nat) (g : Col → Col) : (s.modCol k g).seen = s.seen := rfl
@[simp] theorem State.modCol_commit (s : State) (k : Nat) (g : Col → Col) : (s.modCol k g).commit = s.commit := rfl
@[simp] theorem State.modCol_reeve (s : State) (k : Nat) (g : Col → Col) : (s.modCol k g).reeve = s.reeve := rfl
@[simp] theorem State.modCol_timers (s : State) (k : Nat) (g : Col → Col) : (s.modCol k g).timers = s.timers := rfl
@[simp] theorem State.modCol_twin (s : State) (k : Nat) (g : Col → Col) : (s.modCol k g).twin = s.twin := rfl
@[simp] theorem State.modCol_power (s : State) (k : Nat) (g : Col → Col) : (s.modCol k g).power = s.power := rfl
@[simp] theorem State.modCol_fw (s : State) (k : Nat) (g : Col → Col) : (s.modCol k g).fw = s.fw := rfl
@[simp] theorem State.modCol_test (s : State) (k : Nat) (g : Col → Col) : (s.modCol k g).test = s.test := rfl
@[simp] theorem State.modCol_free (s : State) (k : Nat) (g : Col → Col) : (s.modCol k g).free = s.free := rfl
@[simp] theorem State.modCol_dieAt (s : State) (j k : Nat) (g : Col → Col) : (s.modCol k g).dieAt j = s.dieAt j := rfl
@[simp] theorem State.modCol_portAt (s : State) (j k : Nat) (g : Col → Col) : (s.modCol k g).portAt j = s.portAt j := rfl
@[simp] theorem State.modCol_engAt (s : State) (j k : Nat) (g : Col → Col) : (s.modCol k g).engAt j = s.engAt j := rfl
@[simp] theorem State.modCol_streamAt (s : State) (j k : Nat) (g : Col → Col) : (s.modCol k g).streamAt j = s.streamAt j := rfl
@[simp] theorem State.modCol_millAt (s : State) (j k : Nat) (g : Col → Col) : (s.modCol k g).millAt j = s.millAt j := rfl
@[simp] theorem State.modCol_ruleAt (s : State) (j k : Nat) (g : Col → Col) : (s.modCol k g).ruleAt j = s.ruleAt j := rfl
@[simp] theorem State.modCol_tallyAt (s : State) (j k : Nat) (g : Col → Col) : (s.modCol k g).tallyAt j = s.tallyAt j := rfl
@[simp] theorem State.modCol_rowAt (s : State) (j k : Nat) (g : Col → Col) : (s.modCol k g).rowAt j = s.rowAt j := rfl
@[simp] theorem State.modCol_parAt (s : State) (j k : Nat) (g : Col → Col) : (s.modCol k g).parAt j = s.parAt j := rfl
@[simp] theorem State.modCol_ptpAt (s : State) (j k : Nat) (g : Col → Col) : (s.modCol k g).ptpAt j = s.ptpAt j := rfl
@[simp] theorem State.modCol_netAt (s : State) (j k : Nat) (g : Col → Col) : (s.modCol k g).netAt j = s.netAt j := rfl

/-! ### Parish -/

@[simp] theorem State.modPar_parAt (s : State) (k : Nat) (g : Parish → Parish) :
    (s.modPar k g).parAt k = g (s.parAt k) := by simp [State.modPar, State.parAt]
@[simp] theorem State.modPar_parAt_other (s : State) (j k : Nat) (g : Parish → Parish) (h : j ≠ k) :
    (s.modPar k g).parAt j = s.parAt j := by simp [State.modPar, State.parAt, h]
@[simp] theorem State.modPar_pending (s : State) (k : Nat) (g : Parish → Parish) : (s.modPar k g).pending = s.pending := rfl
@[simp] theorem State.modPar_dies (s : State) (k : Nat) (g : Parish → Parish) : (s.modPar k g).dies = s.dies := rfl
@[simp] theorem State.modPar_serial (s : State) (k : Nat) (g : Parish → Parish) : (s.modPar k g).serial = s.serial := rfl
@[simp] theorem State.modPar_mac (s : State) (k : Nat) (g : Parish → Parish) : (s.modPar k g).mac = s.mac := rfl
@[simp] theorem State.modPar_cmptStrap (s : State) (k : Nat) (g : Parish → Parish) : (s.modPar k g).cmptStrap = s.cmptStrap := rfl
@[simp] theorem State.modPar_cmpt (s : State) (k : Nat) (g : Parish → Parish) : (s.modPar k g).cmpt = s.cmpt := rfl
@[simp] theorem State.modPar_resetCause (s : State) (k : Nat) (g : Parish → Parish) : (s.modPar k g).resetCause = s.resetCause := rfl
@[simp] theorem State.modPar_dictReady (s : State) (k : Nat) (g : Parish → Parish) : (s.modPar k g).dictReady = s.dictReady := rfl
@[simp] theorem State.modPar_testen (s : State) (k : Nat) (g : Parish → Parish) : (s.modPar k g).testen = s.testen := rfl
@[simp] theorem State.modPar_startAnchor (s : State) (k : Nat) (g : Parish → Parish) : (s.modPar k g).startAnchor = s.startAnchor := rfl
@[simp] theorem State.modPar_time (s : State) (k : Nat) (g : Parish → Parish) : (s.modPar k g).time = s.time := rfl
@[simp] theorem State.modPar_servo (s : State) (k : Nat) (g : Parish → Parish) : (s.modPar k g).servo = s.servo := rfl
@[simp] theorem State.modPar_ptp (s : State) (k : Nat) (g : Parish → Parish) : (s.modPar k g).ptp = s.ptp := rfl
@[simp] theorem State.modPar_net (s : State) (k : Nat) (g : Parish → Parish) : (s.modPar k g).net = s.net := rfl
@[simp] theorem State.modPar_netPorts (s : State) (k : Nat) (g : Parish → Parish) : (s.modPar k g).netPorts = s.netPorts := rfl
@[simp] theorem State.modPar_sessions (s : State) (k : Nat) (g : Parish → Parish) : (s.modPar k g).sessions = s.sessions := rfl
@[simp] theorem State.modPar_svc (s : State) (k : Nat) (g : Parish → Parish) : (s.modPar k g).svc = s.svc := rfl
@[simp] theorem State.modPar_die (s : State) (k : Nat) (g : Parish → Parish) : (s.modPar k g).die = s.die := rfl
@[simp] theorem State.modPar_port (s : State) (k : Nat) (g : Parish → Parish) : (s.modPar k g).port = s.port := rfl
@[simp] theorem State.modPar_engine (s : State) (k : Nat) (g : Parish → Parish) : (s.modPar k g).engine = s.engine := rfl
@[simp] theorem State.modPar_stream (s : State) (k : Nat) (g : Parish → Parish) : (s.modPar k g).stream = s.stream := rfl
@[simp] theorem State.modPar_mill (s : State) (k : Nat) (g : Parish → Parish) : (s.modPar k g).mill = s.mill := rfl
@[simp] theorem State.modPar_rule (s : State) (k : Nat) (g : Parish → Parish) : (s.modPar k g).rule = s.rule := rfl
@[simp] theorem State.modPar_tally (s : State) (k : Nat) (g : Parish → Parish) : (s.modPar k g).tally = s.tally := rfl
@[simp] theorem State.modPar_row (s : State) (k : Nat) (g : Parish → Parish) : (s.modPar k g).row = s.row := rfl
@[simp] theorem State.modPar_col (s : State) (k : Nat) (g : Parish → Parish) : (s.modPar k g).col = s.col := rfl
@[simp] theorem State.modPar_conf (s : State) (k : Nat) (g : Parish → Parish) : (s.modPar k g).conf = s.conf := rfl
@[simp] theorem State.modPar_pend (s : State) (k : Nat) (g : Parish → Parish) : (s.modPar k g).pend = s.pend := rfl
@[simp] theorem State.modPar_persisted (s : State) (k : Nat) (g : Parish → Parish) : (s.modPar k g).persisted = s.persisted := rfl
@[simp] theorem State.modPar_persistedOther (s : State) (k : Nat) (g : Parish → Parish) : (s.modPar k g).persistedOther = s.persistedOther := rfl
@[simp] theorem State.modPar_persistedBad (s : State) (k : Nat) (g : Parish → Parish) : (s.modPar k g).persistedBad = s.persistedBad := rfl
@[simp] theorem State.modPar_gens (s : State) (k : Nat) (g : Parish → Parish) : (s.modPar k g).gens = s.gens := rfl
@[simp] theorem State.modPar_seen (s : State) (k : Nat) (g : Parish → Parish) : (s.modPar k g).seen = s.seen := rfl
@[simp] theorem State.modPar_commit (s : State) (k : Nat) (g : Parish → Parish) : (s.modPar k g).commit = s.commit := rfl
@[simp] theorem State.modPar_reeve (s : State) (k : Nat) (g : Parish → Parish) : (s.modPar k g).reeve = s.reeve := rfl
@[simp] theorem State.modPar_timers (s : State) (k : Nat) (g : Parish → Parish) : (s.modPar k g).timers = s.timers := rfl
@[simp] theorem State.modPar_twin (s : State) (k : Nat) (g : Parish → Parish) : (s.modPar k g).twin = s.twin := rfl
@[simp] theorem State.modPar_power (s : State) (k : Nat) (g : Parish → Parish) : (s.modPar k g).power = s.power := rfl
@[simp] theorem State.modPar_fw (s : State) (k : Nat) (g : Parish → Parish) : (s.modPar k g).fw = s.fw := rfl
@[simp] theorem State.modPar_test (s : State) (k : Nat) (g : Parish → Parish) : (s.modPar k g).test = s.test := rfl
@[simp] theorem State.modPar_free (s : State) (k : Nat) (g : Parish → Parish) : (s.modPar k g).free = s.free := rfl
@[simp] theorem State.modPar_dieAt (s : State) (j k : Nat) (g : Parish → Parish) : (s.modPar k g).dieAt j = s.dieAt j := rfl
@[simp] theorem State.modPar_portAt (s : State) (j k : Nat) (g : Parish → Parish) : (s.modPar k g).portAt j = s.portAt j := rfl
@[simp] theorem State.modPar_engAt (s : State) (j k : Nat) (g : Parish → Parish) : (s.modPar k g).engAt j = s.engAt j := rfl
@[simp] theorem State.modPar_streamAt (s : State) (j k : Nat) (g : Parish → Parish) : (s.modPar k g).streamAt j = s.streamAt j := rfl
@[simp] theorem State.modPar_millAt (s : State) (j k : Nat) (g : Parish → Parish) : (s.modPar k g).millAt j = s.millAt j := rfl
@[simp] theorem State.modPar_ruleAt (s : State) (j k : Nat) (g : Parish → Parish) : (s.modPar k g).ruleAt j = s.ruleAt j := rfl
@[simp] theorem State.modPar_tallyAt (s : State) (j k : Nat) (g : Parish → Parish) : (s.modPar k g).tallyAt j = s.tallyAt j := rfl
@[simp] theorem State.modPar_rowAt (s : State) (j k : Nat) (g : Parish → Parish) : (s.modPar k g).rowAt j = s.rowAt j := rfl
@[simp] theorem State.modPar_colAt (s : State) (j k : Nat) (g : Parish → Parish) : (s.modPar k g).colAt j = s.colAt j := rfl
@[simp] theorem State.modPar_ptpAt (s : State) (j k : Nat) (g : Parish → Parish) : (s.modPar k g).ptpAt j = s.ptpAt j := rfl
@[simp] theorem State.modPar_netAt (s : State) (j k : Nat) (g : Parish → Parish) : (s.modPar k g).netAt j = s.netAt j := rfl

/-! ### PtpPort -/

@[simp] theorem State.modPtp_ptpAt (s : State) (k : Nat) (g : PtpPort → PtpPort) :
    (s.modPtp k g).ptpAt k = g (s.ptpAt k) := by simp [State.modPtp, State.ptpAt]
@[simp] theorem State.modPtp_ptpAt_other (s : State) (j k : Nat) (g : PtpPort → PtpPort) (h : j ≠ k) :
    (s.modPtp k g).ptpAt j = s.ptpAt j := by simp [State.modPtp, State.ptpAt, h]
@[simp] theorem State.modPtp_pending (s : State) (k : Nat) (g : PtpPort → PtpPort) : (s.modPtp k g).pending = s.pending := rfl
@[simp] theorem State.modPtp_dies (s : State) (k : Nat) (g : PtpPort → PtpPort) : (s.modPtp k g).dies = s.dies := rfl
@[simp] theorem State.modPtp_serial (s : State) (k : Nat) (g : PtpPort → PtpPort) : (s.modPtp k g).serial = s.serial := rfl
@[simp] theorem State.modPtp_mac (s : State) (k : Nat) (g : PtpPort → PtpPort) : (s.modPtp k g).mac = s.mac := rfl
@[simp] theorem State.modPtp_cmptStrap (s : State) (k : Nat) (g : PtpPort → PtpPort) : (s.modPtp k g).cmptStrap = s.cmptStrap := rfl
@[simp] theorem State.modPtp_cmpt (s : State) (k : Nat) (g : PtpPort → PtpPort) : (s.modPtp k g).cmpt = s.cmpt := rfl
@[simp] theorem State.modPtp_resetCause (s : State) (k : Nat) (g : PtpPort → PtpPort) : (s.modPtp k g).resetCause = s.resetCause := rfl
@[simp] theorem State.modPtp_dictReady (s : State) (k : Nat) (g : PtpPort → PtpPort) : (s.modPtp k g).dictReady = s.dictReady := rfl
@[simp] theorem State.modPtp_testen (s : State) (k : Nat) (g : PtpPort → PtpPort) : (s.modPtp k g).testen = s.testen := rfl
@[simp] theorem State.modPtp_startAnchor (s : State) (k : Nat) (g : PtpPort → PtpPort) : (s.modPtp k g).startAnchor = s.startAnchor := rfl
@[simp] theorem State.modPtp_time (s : State) (k : Nat) (g : PtpPort → PtpPort) : (s.modPtp k g).time = s.time := rfl
@[simp] theorem State.modPtp_servo (s : State) (k : Nat) (g : PtpPort → PtpPort) : (s.modPtp k g).servo = s.servo := rfl
@[simp] theorem State.modPtp_net (s : State) (k : Nat) (g : PtpPort → PtpPort) : (s.modPtp k g).net = s.net := rfl
@[simp] theorem State.modPtp_netPorts (s : State) (k : Nat) (g : PtpPort → PtpPort) : (s.modPtp k g).netPorts = s.netPorts := rfl
@[simp] theorem State.modPtp_sessions (s : State) (k : Nat) (g : PtpPort → PtpPort) : (s.modPtp k g).sessions = s.sessions := rfl
@[simp] theorem State.modPtp_svc (s : State) (k : Nat) (g : PtpPort → PtpPort) : (s.modPtp k g).svc = s.svc := rfl
@[simp] theorem State.modPtp_die (s : State) (k : Nat) (g : PtpPort → PtpPort) : (s.modPtp k g).die = s.die := rfl
@[simp] theorem State.modPtp_port (s : State) (k : Nat) (g : PtpPort → PtpPort) : (s.modPtp k g).port = s.port := rfl
@[simp] theorem State.modPtp_engine (s : State) (k : Nat) (g : PtpPort → PtpPort) : (s.modPtp k g).engine = s.engine := rfl
@[simp] theorem State.modPtp_stream (s : State) (k : Nat) (g : PtpPort → PtpPort) : (s.modPtp k g).stream = s.stream := rfl
@[simp] theorem State.modPtp_mill (s : State) (k : Nat) (g : PtpPort → PtpPort) : (s.modPtp k g).mill = s.mill := rfl
@[simp] theorem State.modPtp_rule (s : State) (k : Nat) (g : PtpPort → PtpPort) : (s.modPtp k g).rule = s.rule := rfl
@[simp] theorem State.modPtp_tally (s : State) (k : Nat) (g : PtpPort → PtpPort) : (s.modPtp k g).tally = s.tally := rfl
@[simp] theorem State.modPtp_row (s : State) (k : Nat) (g : PtpPort → PtpPort) : (s.modPtp k g).row = s.row := rfl
@[simp] theorem State.modPtp_col (s : State) (k : Nat) (g : PtpPort → PtpPort) : (s.modPtp k g).col = s.col := rfl
@[simp] theorem State.modPtp_parish (s : State) (k : Nat) (g : PtpPort → PtpPort) : (s.modPtp k g).parish = s.parish := rfl
@[simp] theorem State.modPtp_conf (s : State) (k : Nat) (g : PtpPort → PtpPort) : (s.modPtp k g).conf = s.conf := rfl
@[simp] theorem State.modPtp_pend (s : State) (k : Nat) (g : PtpPort → PtpPort) : (s.modPtp k g).pend = s.pend := rfl
@[simp] theorem State.modPtp_persisted (s : State) (k : Nat) (g : PtpPort → PtpPort) : (s.modPtp k g).persisted = s.persisted := rfl
@[simp] theorem State.modPtp_persistedOther (s : State) (k : Nat) (g : PtpPort → PtpPort) : (s.modPtp k g).persistedOther = s.persistedOther := rfl
@[simp] theorem State.modPtp_persistedBad (s : State) (k : Nat) (g : PtpPort → PtpPort) : (s.modPtp k g).persistedBad = s.persistedBad := rfl
@[simp] theorem State.modPtp_gens (s : State) (k : Nat) (g : PtpPort → PtpPort) : (s.modPtp k g).gens = s.gens := rfl
@[simp] theorem State.modPtp_seen (s : State) (k : Nat) (g : PtpPort → PtpPort) : (s.modPtp k g).seen = s.seen := rfl
@[simp] theorem State.modPtp_commit (s : State) (k : Nat) (g : PtpPort → PtpPort) : (s.modPtp k g).commit = s.commit := rfl
@[simp] theorem State.modPtp_reeve (s : State) (k : Nat) (g : PtpPort → PtpPort) : (s.modPtp k g).reeve = s.reeve := rfl
@[simp] theorem State.modPtp_timers (s : State) (k : Nat) (g : PtpPort → PtpPort) : (s.modPtp k g).timers = s.timers := rfl
@[simp] theorem State.modPtp_twin (s : State) (k : Nat) (g : PtpPort → PtpPort) : (s.modPtp k g).twin = s.twin := rfl
@[simp] theorem State.modPtp_power (s : State) (k : Nat) (g : PtpPort → PtpPort) : (s.modPtp k g).power = s.power := rfl
@[simp] theorem State.modPtp_fw (s : State) (k : Nat) (g : PtpPort → PtpPort) : (s.modPtp k g).fw = s.fw := rfl
@[simp] theorem State.modPtp_test (s : State) (k : Nat) (g : PtpPort → PtpPort) : (s.modPtp k g).test = s.test := rfl
@[simp] theorem State.modPtp_free (s : State) (k : Nat) (g : PtpPort → PtpPort) : (s.modPtp k g).free = s.free := rfl
@[simp] theorem State.modPtp_dieAt (s : State) (j k : Nat) (g : PtpPort → PtpPort) : (s.modPtp k g).dieAt j = s.dieAt j := rfl
@[simp] theorem State.modPtp_portAt (s : State) (j k : Nat) (g : PtpPort → PtpPort) : (s.modPtp k g).portAt j = s.portAt j := rfl
@[simp] theorem State.modPtp_engAt (s : State) (j k : Nat) (g : PtpPort → PtpPort) : (s.modPtp k g).engAt j = s.engAt j := rfl
@[simp] theorem State.modPtp_streamAt (s : State) (j k : Nat) (g : PtpPort → PtpPort) : (s.modPtp k g).streamAt j = s.streamAt j := rfl
@[simp] theorem State.modPtp_millAt (s : State) (j k : Nat) (g : PtpPort → PtpPort) : (s.modPtp k g).millAt j = s.millAt j := rfl
@[simp] theorem State.modPtp_ruleAt (s : State) (j k : Nat) (g : PtpPort → PtpPort) : (s.modPtp k g).ruleAt j = s.ruleAt j := rfl
@[simp] theorem State.modPtp_tallyAt (s : State) (j k : Nat) (g : PtpPort → PtpPort) : (s.modPtp k g).tallyAt j = s.tallyAt j := rfl
@[simp] theorem State.modPtp_rowAt (s : State) (j k : Nat) (g : PtpPort → PtpPort) : (s.modPtp k g).rowAt j = s.rowAt j := rfl
@[simp] theorem State.modPtp_colAt (s : State) (j k : Nat) (g : PtpPort → PtpPort) : (s.modPtp k g).colAt j = s.colAt j := rfl
@[simp] theorem State.modPtp_parAt (s : State) (j k : Nat) (g : PtpPort → PtpPort) : (s.modPtp k g).parAt j = s.parAt j := rfl
@[simp] theorem State.modPtp_netAt (s : State) (j k : Nat) (g : PtpPort → PtpPort) : (s.modPtp k g).netAt j = s.netAt j := rfl

/-! ### NetPort -/

@[simp] theorem State.modNet_netAt (s : State) (k : Nat) (g : NetPort → NetPort) :
    (s.modNet k g).netAt k = g (s.netAt k) := by simp [State.modNet, State.netAt]
@[simp] theorem State.modNet_netAt_other (s : State) (j k : Nat) (g : NetPort → NetPort) (h : j ≠ k) :
    (s.modNet k g).netAt j = s.netAt j := by simp [State.modNet, State.netAt, h]
@[simp] theorem State.modNet_pending (s : State) (k : Nat) (g : NetPort → NetPort) : (s.modNet k g).pending = s.pending := rfl
@[simp] theorem State.modNet_dies (s : State) (k : Nat) (g : NetPort → NetPort) : (s.modNet k g).dies = s.dies := rfl
@[simp] theorem State.modNet_serial (s : State) (k : Nat) (g : NetPort → NetPort) : (s.modNet k g).serial = s.serial := rfl
@[simp] theorem State.modNet_mac (s : State) (k : Nat) (g : NetPort → NetPort) : (s.modNet k g).mac = s.mac := rfl
@[simp] theorem State.modNet_cmptStrap (s : State) (k : Nat) (g : NetPort → NetPort) : (s.modNet k g).cmptStrap = s.cmptStrap := rfl
@[simp] theorem State.modNet_cmpt (s : State) (k : Nat) (g : NetPort → NetPort) : (s.modNet k g).cmpt = s.cmpt := rfl
@[simp] theorem State.modNet_resetCause (s : State) (k : Nat) (g : NetPort → NetPort) : (s.modNet k g).resetCause = s.resetCause := rfl
@[simp] theorem State.modNet_dictReady (s : State) (k : Nat) (g : NetPort → NetPort) : (s.modNet k g).dictReady = s.dictReady := rfl
@[simp] theorem State.modNet_testen (s : State) (k : Nat) (g : NetPort → NetPort) : (s.modNet k g).testen = s.testen := rfl
@[simp] theorem State.modNet_startAnchor (s : State) (k : Nat) (g : NetPort → NetPort) : (s.modNet k g).startAnchor = s.startAnchor := rfl
@[simp] theorem State.modNet_time (s : State) (k : Nat) (g : NetPort → NetPort) : (s.modNet k g).time = s.time := rfl
@[simp] theorem State.modNet_servo (s : State) (k : Nat) (g : NetPort → NetPort) : (s.modNet k g).servo = s.servo := rfl
@[simp] theorem State.modNet_ptp (s : State) (k : Nat) (g : NetPort → NetPort) : (s.modNet k g).ptp = s.ptp := rfl
@[simp] theorem State.modNet_net (s : State) (k : Nat) (g : NetPort → NetPort) : (s.modNet k g).net = s.net := rfl
@[simp] theorem State.modNet_sessions (s : State) (k : Nat) (g : NetPort → NetPort) : (s.modNet k g).sessions = s.sessions := rfl
@[simp] theorem State.modNet_svc (s : State) (k : Nat) (g : NetPort → NetPort) : (s.modNet k g).svc = s.svc := rfl
@[simp] theorem State.modNet_die (s : State) (k : Nat) (g : NetPort → NetPort) : (s.modNet k g).die = s.die := rfl
@[simp] theorem State.modNet_port (s : State) (k : Nat) (g : NetPort → NetPort) : (s.modNet k g).port = s.port := rfl
@[simp] theorem State.modNet_engine (s : State) (k : Nat) (g : NetPort → NetPort) : (s.modNet k g).engine = s.engine := rfl
@[simp] theorem State.modNet_stream (s : State) (k : Nat) (g : NetPort → NetPort) : (s.modNet k g).stream = s.stream := rfl
@[simp] theorem State.modNet_mill (s : State) (k : Nat) (g : NetPort → NetPort) : (s.modNet k g).mill = s.mill := rfl
@[simp] theorem State.modNet_rule (s : State) (k : Nat) (g : NetPort → NetPort) : (s.modNet k g).rule = s.rule := rfl
@[simp] theorem State.modNet_tally (s : State) (k : Nat) (g : NetPort → NetPort) : (s.modNet k g).tally = s.tally := rfl
@[simp] theorem State.modNet_row (s : State) (k : Nat) (g : NetPort → NetPort) : (s.modNet k g).row = s.row := rfl
@[simp] theorem State.modNet_col (s : State) (k : Nat) (g : NetPort → NetPort) : (s.modNet k g).col = s.col := rfl
@[simp] theorem State.modNet_parish (s : State) (k : Nat) (g : NetPort → NetPort) : (s.modNet k g).parish = s.parish := rfl
@[simp] theorem State.modNet_conf (s : State) (k : Nat) (g : NetPort → NetPort) : (s.modNet k g).conf = s.conf := rfl
@[simp] theorem State.modNet_pend (s : State) (k : Nat) (g : NetPort → NetPort) : (s.modNet k g).pend = s.pend := rfl
@[simp] theorem State.modNet_persisted (s : State) (k : Nat) (g : NetPort → NetPort) : (s.modNet k g).persisted = s.persisted := rfl
@[simp] theorem State.modNet_persistedOther (s : State) (k : Nat) (g : NetPort → NetPort) : (s.modNet k g).persistedOther = s.persistedOther := rfl
@[simp] theorem State.modNet_persistedBad (s : State) (k : Nat) (g : NetPort → NetPort) : (s.modNet k g).persistedBad = s.persistedBad := rfl
@[simp] theorem State.modNet_gens (s : State) (k : Nat) (g : NetPort → NetPort) : (s.modNet k g).gens = s.gens := rfl
@[simp] theorem State.modNet_seen (s : State) (k : Nat) (g : NetPort → NetPort) : (s.modNet k g).seen = s.seen := rfl
@[simp] theorem State.modNet_commit (s : State) (k : Nat) (g : NetPort → NetPort) : (s.modNet k g).commit = s.commit := rfl
@[simp] theorem State.modNet_reeve (s : State) (k : Nat) (g : NetPort → NetPort) : (s.modNet k g).reeve = s.reeve := rfl
@[simp] theorem State.modNet_timers (s : State) (k : Nat) (g : NetPort → NetPort) : (s.modNet k g).timers = s.timers := rfl
@[simp] theorem State.modNet_twin (s : State) (k : Nat) (g : NetPort → NetPort) : (s.modNet k g).twin = s.twin := rfl
@[simp] theorem State.modNet_power (s : State) (k : Nat) (g : NetPort → NetPort) : (s.modNet k g).power = s.power := rfl
@[simp] theorem State.modNet_fw (s : State) (k : Nat) (g : NetPort → NetPort) : (s.modNet k g).fw = s.fw := rfl
@[simp] theorem State.modNet_test (s : State) (k : Nat) (g : NetPort → NetPort) : (s.modNet k g).test = s.test := rfl
@[simp] theorem State.modNet_free (s : State) (k : Nat) (g : NetPort → NetPort) : (s.modNet k g).free = s.free := rfl
@[simp] theorem State.modNet_dieAt (s : State) (j k : Nat) (g : NetPort → NetPort) : (s.modNet k g).dieAt j = s.dieAt j := rfl
@[simp] theorem State.modNet_portAt (s : State) (j k : Nat) (g : NetPort → NetPort) : (s.modNet k g).portAt j = s.portAt j := rfl
@[simp] theorem State.modNet_engAt (s : State) (j k : Nat) (g : NetPort → NetPort) : (s.modNet k g).engAt j = s.engAt j := rfl
@[simp] theorem State.modNet_streamAt (s : State) (j k : Nat) (g : NetPort → NetPort) : (s.modNet k g).streamAt j = s.streamAt j := rfl
@[simp] theorem State.modNet_millAt (s : State) (j k : Nat) (g : NetPort → NetPort) : (s.modNet k g).millAt j = s.millAt j := rfl
@[simp] theorem State.modNet_ruleAt (s : State) (j k : Nat) (g : NetPort → NetPort) : (s.modNet k g).ruleAt j = s.ruleAt j := rfl
@[simp] theorem State.modNet_tallyAt (s : State) (j k : Nat) (g : NetPort → NetPort) : (s.modNet k g).tallyAt j = s.tallyAt j := rfl
@[simp] theorem State.modNet_rowAt (s : State) (j k : Nat) (g : NetPort → NetPort) : (s.modNet k g).rowAt j = s.rowAt j := rfl
@[simp] theorem State.modNet_colAt (s : State) (j k : Nat) (g : NetPort → NetPort) : (s.modNet k g).colAt j = s.colAt j := rfl
@[simp] theorem State.modNet_parAt (s : State) (j k : Nat) (g : NetPort → NetPort) : (s.modNet k g).parAt j = s.parAt j := rfl
@[simp] theorem State.modNet_ptpAt (s : State) (j k : Nat) (g : NetPort → NetPort) : (s.modNet k g).ptpAt j = s.ptpAt j := rfl

/-! ### The status of an access, and premises -/

@[simp] theorem withStatus_pending (s : State) (c : Nat) : (withStatus s c).pending = s.pending := rfl
@[simp] theorem withStatus_dies (s : State) (c : Nat) : (withStatus s c).dies = s.dies := rfl
@[simp] theorem withStatus_serial (s : State) (c : Nat) : (withStatus s c).serial = s.serial := rfl
@[simp] theorem withStatus_mac (s : State) (c : Nat) : (withStatus s c).mac = s.mac := rfl
@[simp] theorem withStatus_cmptStrap (s : State) (c : Nat) : (withStatus s c).cmptStrap = s.cmptStrap := rfl
@[simp] theorem withStatus_cmpt (s : State) (c : Nat) : (withStatus s c).cmpt = s.cmpt := rfl
@[simp] theorem withStatus_resetCause (s : State) (c : Nat) : (withStatus s c).resetCause = s.resetCause := rfl
@[simp] theorem withStatus_dictReady (s : State) (c : Nat) : (withStatus s c).dictReady = s.dictReady := rfl
@[simp] theorem withStatus_testen (s : State) (c : Nat) : (withStatus s c).testen = s.testen := rfl
@[simp] theorem withStatus_startAnchor (s : State) (c : Nat) : (withStatus s c).startAnchor = s.startAnchor := rfl
@[simp] theorem withStatus_time (s : State) (c : Nat) : (withStatus s c).time = s.time := rfl
@[simp] theorem withStatus_servo (s : State) (c : Nat) : (withStatus s c).servo = s.servo := rfl
@[simp] theorem withStatus_ptp (s : State) (c : Nat) : (withStatus s c).ptp = s.ptp := rfl
@[simp] theorem withStatus_netPorts (s : State) (c : Nat) : (withStatus s c).netPorts = s.netPorts := rfl
@[simp] theorem withStatus_sessions (s : State) (c : Nat) : (withStatus s c).sessions = s.sessions := rfl
@[simp] theorem withStatus_svc (s : State) (c : Nat) : (withStatus s c).svc = s.svc := rfl
@[simp] theorem withStatus_die (s : State) (c : Nat) : (withStatus s c).die = s.die := rfl
@[simp] theorem withStatus_port (s : State) (c : Nat) : (withStatus s c).port = s.port := rfl
@[simp] theorem withStatus_engine (s : State) (c : Nat) : (withStatus s c).engine = s.engine := rfl
@[simp] theorem withStatus_stream (s : State) (c : Nat) : (withStatus s c).stream = s.stream := rfl
@[simp] theorem withStatus_mill (s : State) (c : Nat) : (withStatus s c).mill = s.mill := rfl
@[simp] theorem withStatus_rule (s : State) (c : Nat) : (withStatus s c).rule = s.rule := rfl
@[simp] theorem withStatus_tally (s : State) (c : Nat) : (withStatus s c).tally = s.tally := rfl
@[simp] theorem withStatus_row (s : State) (c : Nat) : (withStatus s c).row = s.row := rfl
@[simp] theorem withStatus_col (s : State) (c : Nat) : (withStatus s c).col = s.col := rfl
@[simp] theorem withStatus_parish (s : State) (c : Nat) : (withStatus s c).parish = s.parish := rfl
@[simp] theorem withStatus_conf (s : State) (c : Nat) : (withStatus s c).conf = s.conf := rfl
@[simp] theorem withStatus_pend (s : State) (c : Nat) : (withStatus s c).pend = s.pend := rfl
@[simp] theorem withStatus_persisted (s : State) (c : Nat) : (withStatus s c).persisted = s.persisted := rfl
@[simp] theorem withStatus_persistedOther (s : State) (c : Nat) : (withStatus s c).persistedOther = s.persistedOther := rfl
@[simp] theorem withStatus_persistedBad (s : State) (c : Nat) : (withStatus s c).persistedBad = s.persistedBad := rfl
@[simp] theorem withStatus_gens (s : State) (c : Nat) : (withStatus s c).gens = s.gens := rfl
@[simp] theorem withStatus_seen (s : State) (c : Nat) : (withStatus s c).seen = s.seen := rfl
@[simp] theorem withStatus_commit (s : State) (c : Nat) : (withStatus s c).commit = s.commit := rfl
@[simp] theorem withStatus_reeve (s : State) (c : Nat) : (withStatus s c).reeve = s.reeve := rfl
@[simp] theorem withStatus_timers (s : State) (c : Nat) : (withStatus s c).timers = s.timers := rfl
@[simp] theorem withStatus_twin (s : State) (c : Nat) : (withStatus s c).twin = s.twin := rfl
@[simp] theorem withStatus_power (s : State) (c : Nat) : (withStatus s c).power = s.power := rfl
@[simp] theorem withStatus_fw (s : State) (c : Nat) : (withStatus s c).fw = s.fw := rfl
@[simp] theorem withStatus_test (s : State) (c : Nat) : (withStatus s c).test = s.test := rfl
@[simp] theorem withStatus_free (s : State) (c : Nat) : (withStatus s c).free = s.free := rfl
@[simp] theorem withStatus_lastStatus (s : State) (c : Nat) : (withStatus s c).net.lastStatus = c := rfl
@[simp] theorem given_true (s t : State) : given true s t = t := rfl
@[simp] theorem given_false (s t : State) : given false s t = s := rfl
@[simp] theorem given_self (c : Bool) (s : State) : given c s s = s := by cases c <;> rfl

/-- Where a write of a port's object by a row of its own has its effect (R9, R412). -/
theorem portCode_eq_zero (s : State) (n : Nat) : portCode s n = 0 ↔ n < usedDies s * 12 ∧ dieOff s (n / 12) = false := by
  unfold portCode accessCode portDie
  split <;> rename_i h <;> simp_all

/-- Where a write of a tally channel's object by a row of its own has its effect (R9, R412). -/
theorem tallyCode_eq_zero (s : State) (t : Nat) (r : Bool) :
    tallyCode s t r = 0 ↔ t < usedDies s * 32 ∧ r = true ∧ dieOff s (t / 32) = false := by
  unfold tallyCode accessCode
  split <;> rename_i h <;> simp_all
  cases r <;> simp_all

@[simp] theorem withUnit_true (u : String) (t : State) : withUnit true u t = .next t := rfl
@[simp] theorem withUnit_false (u : String) (t : State) : withUnit false u t = .fault (.noSuchResource u) := rfl

end Sys2Proof.Machine
end

