-- ==== Sys2Proof/Laws/Running.lean ====
section
/-! SUPPORT. What the shared operations of the tap engines do to the context that runs: its registers, its flags and its PC. -/

namespace Sys2Proof.Machine

@[simp] theorem ctxAt_tput_same (x : Engine) (c : Nat) (y : Ctx) : Engine.ctxAt { x with ctxs := tput x.ctxs c y } c = y := by
  simp [Engine.ctxAt]

@[simp] theorem ctxAt_tput_other (x : Engine) (c k : Nat) (y : Ctx) (h : k ≠ c) :
    Engine.ctxAt { x with ctxs := tput x.ctxs c y } k = x.ctxAt k := by simp [Engine.ctxAt, h]

/-- Where a context runs an instruction, the instruction's effect is the next state. -/
theorem onCtx_runs {s : State} {e c : Nat} {i : Instr} (f : Engine → Nat → Ctx → State) (h : Runs s e c i) :
    onCtx s e i f = .next (f (s.engAt e) c (ctxOf s e c)) := by
  obtain ⟨he, hr, hl, hw, hb, hp, hd⟩ := h
  unfold ctxOf at *
  have he' : e < usedDies s * 24 := by omega
  unfold onCtx withEngine withUnit given
  rw [if_pos (by simpa using he')]
  simp only [hr]
  rw [hl, hw, decide_eq_true hb, decide_eq_true hp, hd]
  simp

/-- A register instruction with two source registers: its result and flags enter the context. -/
theorem aluR_runs {s : State} {e c : Nat} {i : Instr} {rd ra rb : BitVec 4} (f : Flags → Word → Word → Word × Flags)
    (h : Runs s e c i) :
    aluR s e i rd ra rb f = .next (aluEnd s e c rd (f (ctxOf s e c).flagsOf (regOf s e c ra) (regOf s e c rb))) := onCtx_runs _ h

/-- A register instruction with one source register. -/
theorem aluI_runs {s : State} {e c : Nat} {i : Instr} {rd ra : BitVec 4} (f : Flags → Word → Word × Flags) (h : Runs s e c i) :
    aluI s e i rd ra f = .next (aluEnd s e c rd (f (ctxOf s e c).flagsOf (regOf s e c ra))) := onCtx_runs _ h

/-- A context changed alone: the engine's other fields and contexts stay. -/
theorem modCtx_step (s : State) (e c : Nat) (g : Ctx → Ctx) : CtxStep s (s.modCtx e c g) e c (g (ctxOf s e c)) := by
  refine ⟨State.modCtx_changes _ _ _ _, ?_, ?_, ?_, ?_⟩
  · intro j hj
    simp [State.modCtx, hj]
  · simp [State.modCtx]
  · intro k hk
    simp [ctxOf, State.modCtx, Engine.ctxAt, hk]
  · simp [ctxOf, State.modCtx]

theorem CtxStep.trans {s t u : State} {e c : Nat} {y z : Ctx} (h : CtxStep s t e c y) (k : CtxStep t u e c z) :
    CtxStep s u e c z := by
  obtain ⟨h1, h2, h3, h4, h5⟩ := h
  obtain ⟨k1, k2, k3, k4, k5⟩ := k
  refine ⟨h1.trans k1, fun j hj => (k2 j hj).trans (h2 j hj), ?_, fun j hj => (k4 j hj).trans (h4 j hj), k5⟩
  rw [k3, h3]

/-- A register write leaves every field of the context but its registers. -/
theorem writeReg_step (s : State) (e c : Nat) (rd : BitVec 4) (v : Word) :
    CtxStep s (writeReg s e c rd v) e c (ctxOf s e c) ∧ WroteReg s (writeReg s e c rd v) e c rd v := by
  unfold writeReg
  split
  · refine ⟨⟨Changes.refl _ _, fun _ _ => rfl, rfl, fun _ _ => rfl, rfl⟩, fun r => ?_⟩
    rw [if_neg]
    rintro ⟨rfl, h⟩
    contradiction
  · split
    · refine ⟨⟨State.modCtx_changes _ _ _ _, ?_, ?_, ?_, ?_⟩, fun r => ?_⟩
      · intro j hj
        simp [State.modCtx, hj]
      · simp [State.modCtx]
      · intro k hk
        simp [ctxOf, State.modCtx, Engine.ctxAt, hk]
      · simp [ctxOf, State.modCtx]
      · by_cases hr : r = rd
        · subst hr
          simp_all [regOf, ctxOf, State.modCtx, readReg]
        · have hn : r.toNat ≠ rd.toNat := fun h => hr (BitVec.eq_of_toNat_eq h)
          simp_all [regOf, ctxOf, State.modCtx, readReg]
    · refine ⟨⟨Changes.after (Changes.refl _ _) (State.modEng_changes _ _ _) rfl, ?_, ?_, ?_, ?_⟩, fun r => ?_⟩
      · intro j hj
        simp [hj]
      · simp
      · intro k hk
        simp [ctxOf, Engine.ctxAt]
      · simp [ctxOf, Engine.ctxAt]
      · by_cases hr : r = rd
        · subst hr
          simp_all [regOf, ctxOf, readReg]
        · have hn : r.toNat ≠ rd.toNat := fun h => hr (BitVec.eq_of_toNat_eq h)
          simp_all [regOf, ctxOf, readReg, Engine.ctxAt]

/-- A change of the context that leaves its registers leaves every register as the context reads it. -/
theorem modCtx_regs (s : State) (e c : Nat) (g : Ctx → Ctx) (hg : (g (ctxOf s e c)).regs = (ctxOf s e c).regs) (r : BitVec 4) :
    regOf (s.modCtx e c g) e c r = regOf s e c r := by
  unfold ctxOf at hg
  simp [regOf, ctxOf, State.modCtx, readReg, hg]

/-- The end of a register instruction: the value to rd, the flags, and the PC on the next word. -/
theorem aluEnd_computes (s : State) (e c : Nat) (rd : BitVec 4) (r : Word × Flags) :
    Computes s (aluEnd s e c rd r) e c rd r.1 r.2 := by
  have h1 := modCtx_step s e c (fun y => y.withFlags r.2)
  have h2 := writeReg_step (s.modCtx e c (fun y => y.withFlags r.2)) e c rd r.1
  have h3 := modCtx_step (writeReg (s.modCtx e c (fun y => y.withFlags r.2)) e c rd r.1) e c (fun y => { y with pc := y.pc + 1 })
  have h := (h1.trans h2.1).trans h3
  refine ⟨?_, ?_⟩
  · unfold aluEnd nextPc
    refine ⟨h.1, h.2.1, h.2.2.1, h.2.2.2.1, ?_⟩
    rw [h.2.2.2.2, h2.1.2.2.2.2, h1.2.2.2.2]
    rfl
  · intro q
    unfold aluEnd nextPc
    rw [modCtx_regs _ _ _ _ rfl, h2.2 q, modCtx_regs _ _ _ _ rfl]

/-- A register write and the PC's advance: the flags stay. -/
theorem writeNext_computes (s : State) (e c : Nat) (rd : BitVec 4) (v : Word) :
    Computes s (nextPc (writeReg s e c rd v) e c) e c rd v (ctxOf s e c).flagsOf := by
  have h2 := writeReg_step s e c rd v
  have h3 := modCtx_step (writeReg s e c rd v) e c (fun y => { y with pc := y.pc + 1 })
  have h := h2.1.trans h3
  refine ⟨?_, ?_⟩
  · unfold nextPc
    refine ⟨h.1, h.2.1, h.2.2.1, h.2.2.2.1, ?_⟩
    rw [h.2.2.2.2, h2.1.2.2.2.2]
    rfl
  · intro q
    unfold nextPc
    rw [modCtx_regs _ _ _ _ rfl, h2.2 q]

end Sys2Proof.Machine
end

