-- ==== Sys2Proof/Laws/Ending.lean ====
section
/-! SUPPORT. What the end of a context, and a fault that ends one, do to the engines. -/

namespace Sys2Proof.Machine

theorem engAt_of_engine {s t : State} (h : t.engine = s.engine) (e : Nat) : t.engAt e = s.engAt e := by simp [State.engAt, h]

theorem thas_tdel {α : Type} (t : Tbl α) (k : Nat) : thas (tdel t k) k = false := by
  simp [thas, tdel]

theorem tget_tdel {α : Type} (d : α) (t : Tbl α) (j k : Nat) (h : j ≠ k) : tget d (tdel t k) j = tget d t j := by
  induction t with
  | nil => rfl
  | cons a t ih =>
    obtain ⟨i, w⟩ := a
    unfold tdel at *
    rw [List.filter_cons]
    by_cases hi : i = k
    · subst hi
      simp [tget, h, ih]
    · have : (i != k) = true := by simpa using hi
      simp only [this, if_true, tget, ih]

/-- Context c of engine e may change; every other context, engine and register of the engines stays. -/
def CtxOnly (s t : State) (e c : Nat) : Prop :=
  (∀ j, j ≠ e → t.engAt j = s.engAt j) ∧ t.engAt e = { s.engAt e with ctxs := (t.engAt e).ctxs } ∧
    ∀ q, q ≠ c → ctxOf t e q = ctxOf s e q

theorem CtxOnly.of_engine {s t : State} {e c : Nat} (h : t.engine = s.engine) : CtxOnly s t e c :=
  ⟨fun j _ => engAt_of_engine h j, by rw [engAt_of_engine h], fun q _ => by unfold ctxOf; rw [engAt_of_engine h]⟩

theorem CtxOnly.trans {s t u : State} {e c : Nat} (h : CtxOnly s t e c) (k : CtxOnly t u e c) : CtxOnly s u e c :=
  ⟨fun j hj => (k.1 j hj).trans (h.1 j hj), by rw [k.2.1, h.2.1], fun q hq => (k.2.2 q hq).trans (h.2.2 q hq)⟩

theorem modCtx_only (s : State) (e c : Nat) (g : Ctx → Ctx) : CtxOnly s (s.modCtx e c g) e c :=
  ⟨(modCtx_step s e c g).2.1, by simp [State.modCtx], (modCtx_step s e c g).2.2.2.1⟩

theorem retire_ctx (s : State) (d k e c : Nat) (he : ((s.dieAt d).slotAt k).engine = e) (hc : ((s.dieAt d).slotAt k).ctx = c) :
    CtxOnly s (retireSlot s d k) e c := by
  subst he hc
  exact (CtxOnly.of_engine (t := s.modSlot d k (fun y => { gen := (y.gen + 1) % 128 })) rfl).trans (modCtx_only _ _ _ _)

/-- What the end of a context without a status for its operations does to the engines. -/
theorem endCtx_ends (s : State) (e c : Nat) :
    ((endCtx s e c none).engAt e).running = (if (s.engAt e).running = some c then none else (s.engAt e).running) ∧
    thas ((endCtx s e c none).engAt e).ctxs c = false ∧ ((endCtx s e c none).engAt e).ready = without (s.engAt e).ready c ∧
    (endCtx s e c none).engAt e = { s.engAt e with
      running := ((endCtx s e c none).engAt e).running
      ctxs := ((endCtx s e c none).engAt e).ctxs
      ready := ((endCtx s e c none).engAt e).ready
      orphans := ((endCtx s e c none).engAt e).orphans } ∧
    (∀ k, k ≠ c → ctxOf (endCtx s e c none) e k = ctxOf s e k) ∧ (∀ j, j ≠ e → (endCtx s e c none).engAt j = s.engAt j) := by
  have fold : ∀ (ks : List Nat) (x : State), (∀ k ∈ ks, (((x.dieAt (engDie e)).slotAt k).state = 4) →
      ((x.dieAt (engDie e)).slotAt k).engine = e ∧ ((x.dieAt (engDie e)).slotAt k).ctx = c) →
      CtxOnly x (ks.foldl (fun x k =>
        let y := x.modSlot (engDie e) k (fun z => { z with orphan := true })
        if ((x.dieAt (engDie e)).slotAt k).state = 4 then retireSlot y (engDie e) k else y) x) e c := by
    intro ks
    induction ks with
    | nil => exact fun x _ => CtxOnly.of_engine rfl
    | cons k t ih =>
      intro x hx
      have hy : ∀ j, (((x.modSlot (engDie e) k (fun z => { z with orphan := true })).dieAt (engDie e)).slotAt j).state =
            ((x.dieAt (engDie e)).slotAt j).state ∧
          (((x.modSlot (engDie e) k (fun z => { z with orphan := true })).dieAt (engDie e)).slotAt j).engine =
            ((x.dieAt (engDie e)).slotAt j).engine ∧
          (((x.modSlot (engDie e) k (fun z => { z with orphan := true })).dieAt (engDie e)).slotAt j).ctx =
            ((x.dieAt (engDie e)).slotAt j).ctx := by
        intro j
        by_cases hj : j = k
        · subst hj
          simp [State.modSlot, Die.slotAt]
        · simp [State.modSlot, Die.slotAt, hj]
      have hy0 : CtxOnly x (x.modSlot (engDie e) k (fun z => { z with orphan := true })) e c := CtxOnly.of_engine rfl
      simp only [List.foldl_cons]
      by_cases h4 : ((x.dieAt (engDie e)).slotAt k).state = 4
      · rw [if_pos h4]
        have hr := retire_ctx (x.modSlot (engDie e) k (fun z => { z with orphan := true })) (engDie e) k e c
          ((hy k).2.1.trans (hx k (by simp) h4).1) ((hy k).2.2.trans (hx k (by simp) h4).2)
        refine (hy0.trans hr).trans (ih _ fun j hj h => ?_)
        have hd : ((retireSlot (x.modSlot (engDie e) k (fun z => { z with orphan := true })) (engDie e) k).dieAt (engDie e)).slotAt j =
            if j = k then { gen := ((((x.modSlot (engDie e) k (fun z => { z with orphan := true })).dieAt (engDie e)).slotAt k).gen + 1) % 128 }
            else ((x.modSlot (engDie e) k (fun z => { z with orphan := true })).dieAt (engDie e)).slotAt j := by
          by_cases hjk : j = k
          · subst hjk
            simp [retireSlot, State.modSlot, Die.slotAt, State.modCtx]
          · simp [retireSlot, State.modSlot, Die.slotAt, State.modCtx, hjk]
        rw [hd] at h ⊢
        by_cases hjk : j = k
        · rw [if_pos hjk] at h
          exact absurd h (by simp)
        · rw [if_neg hjk] at h ⊢
          rw [(hy j).1] at h
          rw [(hy j).2.1, (hy j).2.2]
          exact hx j (by simp [hj]) h
      · rw [if_neg h4]
        refine hy0.trans (ih _ fun j hj h => ?_)
        rw [(hy j).1] at h
        rw [(hy j).2.1, (hy j).2.2]
        exact hx j (by simp [hj]) h
  have h := fold (ctxSlots s e c) (s.modEng e (fun x => { x with orphans := satAdd 65535 x.orphans (ctxSlots s e c).length })) (by
    intro k hk _
    simp only [ctxSlots, List.mem_filter, Bool.and_eq_true, beq_iff_eq] at hk
    simpa [State.modEng, State.dieAt] using ⟨hk.2.1.2, hk.2.2⟩)
  have hf : endCtx s e c none = freeCtx ((ctxSlots s e c).foldl (fun x k =>
        let y := x.modSlot (engDie e) k (fun z => { z with orphan := true })
        if ((x.dieAt (engDie e)).slotAt k).state = 4 then retireSlot y (engDie e) k else y)
      (s.modEng e (fun x => { x with orphans := satAdd 65535 x.orphans (ctxSlots s e c).length }))) e c := rfl
  rw [hf]
  generalize (ctxSlots s e c).foldl _ _ = x at h
  obtain ⟨h1, h2, h3⟩ := h
  have he : x.engAt e = { s.engAt e with ctxs := (x.engAt e).ctxs, orphans := (x.engAt e).orphans } := by
    rw [h2]; simp
  refine ⟨?_, ?_, ?_, ?_, fun k hk => ?_, fun j hj => ?_⟩
  · simp [freeCtx]; rw [he]
  · simp [freeCtx, thas_tdel]
  · simp [freeCtx]; rw [he]
  · have hx : (freeCtx x e c).engAt e = { x.engAt e with
        ctxs := tdel (x.engAt e).ctxs c
        running := if (x.engAt e).running = some c then none else (x.engAt e).running
        ready := without (x.engAt e).ready c } := by simp [freeCtx]
    rw [hx, he]
  · have := h3 k hk
    simp [freeCtx, ctxOf, Engine.ctxAt] at this ⊢
    rw [tget_tdel _ _ _ _ hk]; simpa [ctxOf, Engine.ctxAt] using this
  · have := h1 j hj
    simp [freeCtx, hj] at this ⊢; exact this

/-- What a fault that ends a context does (R153, R176). -/
theorem faultEnd_ends (s : State) (e c detail operand : Nat) (hd : detail < 256) (hp : (ctxOf s e c).pc < 1024)
    (hr : (s.engAt e).running = some c) : EndsInFault s (faultEnd s e c detail operand) e c detail := by
  have key : ∀ pc, (∀ k, ctxOf (engineFault s e c detail pc operand) e k = ctxOf s e k) ∧
      (∀ j, j ≠ e → (engineFault s e c detail pc operand).engAt j = s.engAt j) ∧
      (engineFault s e c detail pc operand).engAt e = { s.engAt e with
        faults := (s.engAt e).faults + 1, lastFault := detail % 256 + pc % 1024 * 256 } := by
    intro pc
    have h0 : (engineFault s e c detail pc operand).engine =
        (s.modEng e (fun y => { y with faults := y.faults + 1, lastFault := detail % 256 + pc % 1024 * 256 })).engine := by
      unfold engineFault
      dsimp only
      split
      · exact ((violationCount_changes _ _) .engine rfl).trans ((faultRecord_changes _ _ _ _ _ _ _) .engine rfl)
      · exact (faultRecord_changes _ _ _ _ _ _ _) .engine rfl
    refine ⟨fun k => ?_, fun j hj => ?_, ?_⟩
    · unfold ctxOf
      rw [engAt_of_engine h0]
      simp [Engine.ctxAt]
    · rw [engAt_of_engine h0]
      simp [hj]
    · rw [engAt_of_engine h0]
      simp
  unfold faultEnd
  dsimp only
  have hpc : min ((s.engAt e).ctxAt c).pc 1023 = (ctxOf s e c).pc := by unfold ctxOf at hp ⊢; omega
  rw [hpc]
  obtain ⟨k1, k2, k3⟩ := key (ctxOf s e c).pc
  obtain ⟨e1, e2, e3, e4, e5, e6⟩ := endCtx_ends (engineFault s e c detail (ctxOf s e c).pc operand) e c
  refine ⟨?_, e2, ?_, ?_, ?_, ?_, ?_, ?_, ?_, fun k hk => (e5 k hk).trans (k1 k), fun j hj => (e6 j hj).trans (k2 j hj), ?_⟩
  · rw [e1, k3]
    simp [hr]
  · rw [e3]
    simp [without]
  · rw [e4, k3]
  · rw [e4, k3]
    simp only
    omega
  · rw [e4, k3]
  · rw [e4, k3]
  · rw [e4, k3]
  · rw [e4, k3]
  · exact Changes.after (Changes.after (Changes.refl _ _) (engineFault_changes _ _ _ _ _ _) rfl) (endCtx_changes _ _ _ _) rfl

end Sys2Proof.Machine
end

