-- ==== Sys2Proof/Laws/Exec.lean ====
section
/-! SUPPORT. What exec answers for each command: the command's meaning. -/

namespace Sys2Proof.Machine

@[simp] theorem exec_leadHeartbeat (d : Nat) (s : State) :
    exec (.leadHeartbeat d) s = execLeadHeartbeat d s := rfl
@[simp] theorem exec_leadLost (d : Nat) (s : State) :
    exec (.leadLost d) s = execLeadLost d s := rfl
@[simp] theorem exec_ringFrameReceive (d : Nat) (link : Nat) (seq : Nat) (cls : Nat) (crcOk : Bool) (s : State) :
    exec (.ringFrameReceive d link seq cls crcOk) s = execRingFrameReceive d link seq cls crcOk s := rfl
@[simp] theorem exec_ringLinkLost (link : Nat) (s : State) :
    exec (.ringLinkLost link) s = execRingLinkLost link s := rfl
@[simp] theorem exec_sidebandPairFault (d : Nat) (outputs : Nat) (s : State) :
    exec (.sidebandPairFault d outputs) s = execSidebandPairFault d outputs s := rfl
@[simp] theorem exec_safetyOutputTripRequest (d : Nat) (outputs : Nat) (on : Bool) (s : State) :
    exec (.safetyOutputTripRequest d outputs on) s = execSafetyOutputTripRequest d outputs on s := rfl
@[simp] theorem exec_matrixTripConfirmed (d : Nat) (c : Nat) (s : State) :
    exec (.matrixTripConfirmed d c) s = execMatrixTripConfirmed d c s := rfl
@[simp] theorem exec_timeAlignFrame (held : Nat) (s : State) :
    exec (.timeAlignFrame held) s = execTimeAlignFrame held s := rfl
@[simp] theorem exec_timeTick (s : State) :
    exec (.timeTick) s = execTimeTick s := rfl
@[simp] theorem exec_slewComplete (s : State) :
    exec (.slewComplete) s = execSlewComplete s := rfl
@[simp] theorem exec_rateWrite (value : Nat) (s : State) :
    exec (.rateWrite value) s = execRateWrite value s := rfl
@[simp] theorem exec_offsetAdjWrite (value : Int) (s : State) :
    exec (.offsetAdjWrite value) s = execOffsetAdjWrite value s := rfl
@[simp] theorem exec_timeSetWrite (value : Nat) (s : State) :
    exec (.timeSetWrite value) s = execTimeSetWrite value s := rfl
@[simp] theorem exec_reacquireWrite (value : Nat) (s : State) :
    exec (.reacquireWrite value) s = execReacquireWrite value s := rfl
@[simp] theorem exec_refRetune (effect : Int) (s : State) :
    exec (.refRetune effect) s = execRefRetune effect s := rfl
@[simp] theorem exec_tsecLoRead (e : Nat) (rd : BitVec 4) (s : State) :
    exec (.tsecLoRead e rd) s = execTsecLoRead e rd s := rfl
@[simp] theorem exec_ptpSyncReceive (n : Nat) (domain : Nat) (twoStep : Bool) (t1 : Int) (s : State) :
    exec (.ptpSyncReceive n domain twoStep t1) s = execPtpSyncReceive n domain twoStep t1 s := rfl
@[simp] theorem exec_ptpAnnounceReceive (n : Nat) (domain : Nat) (p1 : Nat) (cls : Nat) (acc : Nat) (var : Nat) (p2 : Nat) (gm : Nat) (utc : Int) (s : State) :
    exec (.ptpAnnounceReceive n domain p1 cls acc var p2 gm utc) s = execPtpAnnounceReceive n domain p1 cls acc var p2 gm utc s := rfl
@[simp] theorem exec_ptpDelayResponseReceive (n : Nat) (domain : Nat) (t4 : Int) (turnaround : Option Int) (s : State) :
    exec (.ptpDelayResponseReceive n domain t4 turnaround) s = execPtpDelayResponseReceive n domain t4 turnaround s := rfl
@[simp] theorem exec_ptpMessageDiscard (n : Nat) (s : State) :
    exec (.ptpMessageDiscard n) s = execPtpMessageDiscard n s := rfl
@[simp] theorem exec_ptpSyncSend (n : Nat) (s : State) :
    exec (.ptpSyncSend n) s = execPtpSyncSend n s := rfl
@[simp] theorem exec_ptpDelayRequestSend (n : Nat) (s : State) :
    exec (.ptpDelayRequestSend n) s = execPtpDelayRequestSend n s := rfl
@[simp] theorem exec_ptpAnnounceSend (n : Nat) (s : State) :
    exec (.ptpAnnounceSend n) s = execPtpAnnounceSend n s := rfl
@[simp] theorem exec_syncTimeout (n : Nat) (s : State) :
    exec (.syncTimeout n) s = execSyncTimeout n s := rfl
@[simp] theorem exec_portModeIdleEnd (n : Nat) (s : State) :
    exec (.portModeIdleEnd n) s = execPortModeIdleEnd n s := rfl
@[simp] theorem exec_vpOnWrite (n : Nat) (on : Bool) (s : State) :
    exec (.vpOnWrite n on) s = execVpOnWrite n on s := rfl
@[simp] theorem exec_pgood (n : Nat) (s : State) :
    exec (.pgood n) s = execPgood n s := rfl
@[simp] theorem exec_vpAverageOverload (n : Nat) (s : State) :
    exec (.vpAverageOverload n) s = execVpAverageOverload n s := rfl
@[simp] theorem exec_vpPeakOverload (n : Nat) (s : State) :
    exec (.vpPeakOverload n) s = execVpPeakOverload n s := rfl
@[simp] theorem exec_emCfgWrite (n : Nat) (value : Word) (s : State) :
    exec (.emCfgWrite n value) s = execEmCfgWrite n value s := rfl
@[simp] theorem exec_governorGrant (d : Nat) (bins : Nat) (s : State) :
    exec (.governorGrant d bins) s = execGovernorGrant d bins s := rfl
@[simp] theorem exec_emitterPulseDone (n : Nat) (isOpen : Bool) (noreg : Bool) (s : State) :
    exec (.emitterPulseDone n isOpen noreg) s = execEmitterPulseDone n isOpen noreg s := rfl
@[simp] theorem exec_quarantineProbe (n : Nat) (reason : Nat) (interval : Nat) (s : State) :
    exec (.quarantineProbe n reason interval) s = execQuarantineProbe n reason interval s := rfl
@[simp] theorem exec_quarCtlRelease (n : Nat) (s : State) :
    exec (.quarCtlRelease n) s = execQuarCtlRelease n s := rfl
@[simp] theorem exec_quarCtlHold (n : Nat) (s : State) :
    exec (.quarCtlHold n) s = execQuarCtlHold n s := rfl
@[simp] theorem exec_quarCtlProbe (n : Nat) (s : State) :
    exec (.quarCtlProbe n) s = execQuarCtlProbe n s := rfl
@[simp] theorem exec_uartRxLowTimeout (n : Nat) (s : State) :
    exec (.uartRxLowTimeout n) s = execUartRxLowTimeout n s := rfl
@[simp] theorem exec_pinEdge (n : Nat) (pin : Nat) (rising : Bool) (bins : Nat) (s : State) :
    exec (.pinEdge n pin rising bins) s = execPinEdge n pin rising bins s := rfl
@[simp] theorem exec_portOperationStart (n : Nat) (bins : Nat) (s : State) :
    exec (.portOperationStart n bins) s = execPortOperationStart n bins s := rfl
@[simp] theorem exec_twStart (n : Nat) (bins : Nat) (s : State) :
    exec (.twStart n bins) s = execTwStart n bins s := rfl
@[simp] theorem exec_arbitrationLost (n : Nat) (s : State) :
    exec (.arbitrationLost n) s = execArbitrationLost n s := rfl
@[simp] theorem exec_twTransferDone (n : Nat) (nak : Nat) (rx : List Byte) (pec : Byte) (rise : Nat) (s : State) :
    exec (.twTransferDone n nak rx pec rise) s = execTwTransferDone n nak rx pec rise s := rfl
@[simp] theorem exec_busTimeout (n : Nat) (sda : Bool) (s : State) :
    exec (.busTimeout n sda) s = execBusTimeout n sda s := rfl
@[simp] theorem exec_busRecoveryDone (n : Nat) (isFree : Bool) (s : State) :
    exec (.busRecoveryDone n isFree) s = execBusRecoveryDone n isFree s := rfl
@[simp] theorem exec_spiTransferDone (n : Nat) (rx : List Byte) (s : State) :
    exec (.spiTransferDone n rx) s = execSpiTransferDone n rx s := rfl
@[simp] theorem exec_uartIdleGap (n : Nat) (s : State) :
    exec (.uartIdleGap n) s = execUartIdleGap n s := rfl
@[simp] theorem exec_uartTransferDone (n : Nat) (rx : List Byte) (err : Nat) (lag : Nat) (bins : Nat) (s : State) :
    exec (.uartTransferDone n rx err lag bins) s = execUartTransferDone n rx err lag bins s := rfl
@[simp] theorem exec_svcStatus (s : State) :
    exec (.svcStatus) s = execSvcStatus s := rfl
@[simp] theorem exec_svcResult (s : State) :
    exec (.svcResult) s = execSvcResult s := rfl
@[simp] theorem exec_svcObjRead (data : List Byte) (pec : Option Byte) (s : State) :
    exec (.svcObjRead data pec) s = execSvcObjRead data pec s := rfl
@[simp] theorem exec_svcObjWrite (data : List Byte) (pec : Option Byte) (s : State) :
    exec (.svcObjWrite data pec) s = execSvcObjWrite data pec s := rfl
@[simp] theorem exec_svcSession (data : List Byte) (pec : Option Byte) (s : State) :
    exec (.svcSession data pec) s = execSvcSession data pec s := rfl
@[simp] theorem exec_svcRecords (s : State) :
    exec (.svcRecords) s = execSvcRecords s := rfl
@[simp] theorem exec_svcRecordsAck (seq : Byte) (pec : Option Byte) (s : State) :
    exec (.svcRecordsAck seq pec) s = execSvcRecordsAck seq pec s := rfl
@[simp] theorem exec_svcUnknownCommand (s : State) :
    exec (.svcUnknownCommand) s = execSvcUnknownCommand s := rfl
@[simp] theorem exec_svcSclTimeout (midRequest : Bool) (s : State) :
    exec (.svcSclTimeout midRequest) s = execSvcSclTimeout midRequest s := rfl
@[simp] theorem exec_svcAddressWake (s : State) :
    exec (.svcAddressWake) s = execSvcAddressWake s := rfl
@[simp] theorem exec_stewardServeRequest (s : State) :
    exec (.stewardServeRequest) s = execStewardServeRequest s := rfl
@[simp] theorem exec_adcConversionDone (n : Nat) (raw : Int) (outside : Bool) (lag : Nat) (bins : Nat) (s : State) :
    exec (.adcConversionDone n raw outside lag bins) s = execAdcConversionDone n raw outside lag bins s := rfl
@[simp] theorem exec_rangeSettled (n : Nat) (s : State) :
    exec (.rangeSettled n) s = execRangeSettled n s := rfl
@[simp] theorem exec_anaOperationDone (n : Nat) (s : State) :
    exec (.anaOperationDone n) s = execAnaOperationDone n s := rfl
@[simp] theorem exec_codeBurstDone (n : Nat) (isOpen : Bool) (noreg : Bool) (s : State) :
    exec (.codeBurstDone n isOpen noreg) s = execCodeBurstDone n isOpen noreg s := rfl
@[simp] theorem exec_singleSlopeEnd (n : Nat) (elapsed : Nat) (rampEnd : Bool) (atMax : Bool) (s : State) :
    exec (.singleSlopeEnd n elapsed rampEnd atMax) s = execSingleSlopeEnd n elapsed rampEnd atMax s := rfl
@[simp] theorem exec_comparatorEdge (n : Nat) (j : Nat) (tripped : Bool) (bins : Nat) (s : State) :
    exec (.comparatorEdge n j tripped bins) s = execComparatorEdge n j tripped bins s := rfl
@[simp] theorem exec_majoritySample (n : Nat) (j : Nat) (s : State) :
    exec (.majoritySample n j) s = execMajoritySample n j s := rfl
@[simp] theorem exec_tripFilterExpiry (n : Nat) (j : Nat) (s : State) :
    exec (.tripFilterExpiry n j) s = execTripFilterExpiry n j s := rfl
@[simp] theorem exec_cmpLatchClear (n : Nat) (mask : Nat) (s : State) :
    exec (.cmpLatchClear n mask) s = execCmpLatchClear n mask s := rfl
@[simp] theorem exec_cmpDacWrite (n : Nat) (value : Word) (s : State) :
    exec (.cmpDacWrite n value) s = execCmpDacWrite n value s := rfl
@[simp] theorem exec_pgStart (n : Nat) (g : Nat) (s : State) :
    exec (.pgStart n g) s = execPgStart n g s := rfl
@[simp] theorem exec_pgStop (n : Nat) (g : Nat) (s : State) :
    exec (.pgStop n g) s = execPgStop n g s := rfl
@[simp] theorem exec_pgPeriodStart (n : Nat) (g : Nat) (s : State) :
    exec (.pgPeriodStart n g) s = execPgPeriodStart n g s := rfl
@[simp] theorem exec_pgPulseEnd (n : Nat) (g : Nat) (s : State) :
    exec (.pgPulseEnd n g) s = execPgPulseEnd n g s := rfl
@[simp] theorem exec_pgTrip (n : Nat) (g : Nat) (s : State) :
    exec (.pgTrip n g) s = execPgTrip n g s := rfl
@[simp] theorem exec_pgHeldClear (n : Nat) (g : Nat) (s : State) :
    exec (.pgHeldClear n g) s = execPgHeldClear n g s := rfl
@[simp] theorem exec_contextLaunch (d : Nat) (entry : Nat) (s : State) :
    exec (.contextLaunch d entry) s = execContextLaunch d entry s := rfl
@[simp] theorem exec_contextDispatch (e : Nat) (s : State) :
    exec (.contextDispatch e) s = execContextDispatch e s := rfl
@[simp] theorem exec_add (e : Nat) (rd : BitVec 4) (ra : BitVec 4) (rb : BitVec 4) (s : State) :
    exec (.add e rd ra rb) s = execAdd e rd ra rb s := rfl
@[simp] theorem exec_sub (e : Nat) (rd : BitVec 4) (ra : BitVec 4) (rb : BitVec 4) (s : State) :
    exec (.sub e rd ra rb) s = execSub e rd ra rb s := rfl
@[simp] theorem exec_and (e : Nat) (rd : BitVec 4) (ra : BitVec 4) (rb : BitVec 4) (s : State) :
    exec (.and e rd ra rb) s = execAnd e rd ra rb s := rfl
@[simp] theorem exec_or (e : Nat) (rd : BitVec 4) (ra : BitVec 4) (rb : BitVec 4) (s : State) :
    exec (.or e rd ra rb) s = execOr e rd ra rb s := rfl
@[simp] theorem exec_xor (e : Nat) (rd : BitVec 4) (ra : BitVec 4) (rb : BitVec 4) (s : State) :
    exec (.xor e rd ra rb) s = execXor e rd ra rb s := rfl
@[simp] theorem exec_shl (e : Nat) (rd : BitVec 4) (ra : BitVec 4) (rb : BitVec 4) (s : State) :
    exec (.shl e rd ra rb) s = execShl e rd ra rb s := rfl
@[simp] theorem exec_shr (e : Nat) (rd : BitVec 4) (ra : BitVec 4) (rb : BitVec 4) (s : State) :
    exec (.shr e rd ra rb) s = execShr e rd ra rb s := rfl
@[simp] theorem exec_sar (e : Nat) (rd : BitVec 4) (ra : BitVec 4) (rb : BitVec 4) (s : State) :
    exec (.sar e rd ra rb) s = execSar e rd ra rb s := rfl
@[simp] theorem exec_adds (e : Nat) (rd : BitVec 4) (ra : BitVec 4) (rb : BitVec 4) (s : State) :
    exec (.adds e rd ra rb) s = execAdds e rd ra rb s := rfl
@[simp] theorem exec_subs (e : Nat) (rd : BitVec 4) (ra : BitVec 4) (rb : BitVec 4) (s : State) :
    exec (.subs e rd ra rb) s = execSubs e rd ra rb s := rfl
@[simp] theorem exec_mul (e : Nat) (rd : BitVec 4) (ra : BitVec 4) (rb : BitVec 4) (s : State) :
    exec (.mul e rd ra rb) s = execMul e rd ra rb s := rfl
@[simp] theorem exec_mulh (e : Nat) (rd : BitVec 4) (ra : BitVec 4) (rb : BitVec 4) (s : State) :
    exec (.mulh e rd ra rb) s = execMulh e rd ra rb s := rfl
@[simp] theorem exec_mulhu (e : Nat) (rd : BitVec 4) (ra : BitVec 4) (rb : BitVec 4) (s : State) :
    exec (.mulhu e rd ra rb) s = execMulhu e rd ra rb s := rfl
@[simp] theorem exec_mulq (e : Nat) (rd : BitVec 4) (ra : BitVec 4) (rb : BitVec 4) (s : State) :
    exec (.mulq e rd ra rb) s = execMulq e rd ra rb s := rfl
@[simp] theorem exec_min (e : Nat) (rd : BitVec 4) (ra : BitVec 4) (rb : BitVec 4) (s : State) :
    exec (.min e rd ra rb) s = execMin e rd ra rb s := rfl
@[simp] theorem exec_max (e : Nat) (rd : BitVec 4) (ra : BitVec 4) (rb : BitVec 4) (s : State) :
    exec (.max e rd ra rb) s = execMax e rd ra rb s := rfl
@[simp] theorem exec_minu (e : Nat) (rd : BitVec 4) (ra : BitVec 4) (rb : BitVec 4) (s : State) :
    exec (.minu e rd ra rb) s = execMinu e rd ra rb s := rfl
@[simp] theorem exec_maxu (e : Nat) (rd : BitVec 4) (ra : BitVec 4) (rb : BitVec 4) (s : State) :
    exec (.maxu e rd ra rb) s = execMaxu e rd ra rb s := rfl
@[simp] theorem exec_abs (e : Nat) (rd : BitVec 4) (ra : BitVec 4) (s : State) :
    exec (.abs e rd ra) s = execAbs e rd ra s := rfl
@[simp] theorem exec_addi (e : Nat) (rd : BitVec 4) (ra : BitVec 4) (imm : BitVec 18) (s : State) :
    exec (.addi e rd ra imm) s = execAddi e rd ra imm s := rfl
@[simp] theorem exec_andi (e : Nat) (rd : BitVec 4) (ra : BitVec 4) (imm : BitVec 18) (s : State) :
    exec (.andi e rd ra imm) s = execAndi e rd ra imm s := rfl
@[simp] theorem exec_ori (e : Nat) (rd : BitVec 4) (ra : BitVec 4) (imm : BitVec 18) (s : State) :
    exec (.ori e rd ra imm) s = execOri e rd ra imm s := rfl
@[simp] theorem exec_xori (e : Nat) (rd : BitVec 4) (ra : BitVec 4) (imm : BitVec 18) (s : State) :
    exec (.xori e rd ra imm) s = execXori e rd ra imm s := rfl
@[simp] theorem exec_shli (e : Nat) (rd : BitVec 4) (ra : BitVec 4) (n : BitVec 5) (s : State) :
    exec (.shli e rd ra n) s = execShli e rd ra n s := rfl
@[simp] theorem exec_shri (e : Nat) (rd : BitVec 4) (ra : BitVec 4) (n : BitVec 5) (s : State) :
    exec (.shri e rd ra n) s = execShri e rd ra n s := rfl
@[simp] theorem exec_sari (e : Nat) (rd : BitVec 4) (ra : BitVec 4) (n : BitVec 5) (s : State) :
    exec (.sari e rd ra n) s = execSari e rd ra n s := rfl
@[simp] theorem exec_lui (e : Nat) (rd : BitVec 4) (imm : BitVec 18) (s : State) :
    exec (.lui e rd imm) s = execLui e rd imm s := rfl
@[simp] theorem exec_cmpi (e : Nat) (ra : BitVec 4) (imm : BitVec 18) (s : State) :
    exec (.cmpi e ra imm) s = execCmpi e ra imm s := rfl
@[simp] theorem exec_addsi (e : Nat) (rd : BitVec 4) (ra : BitVec 4) (imm : BitVec 18) (s : State) :
    exec (.addsi e rd ra imm) s = execAddsi e rd ra imm s := rfl
@[simp] theorem exec_lw (e : Nat) (rd : BitVec 4) (ra : BitVec 4) (imm : BitVec 18) (s : State) :
    exec (.lw e rd ra imm) s = execLw e rd ra imm s := rfl
@[simp] theorem exec_lh (e : Nat) (rd : BitVec 4) (ra : BitVec 4) (imm : BitVec 18) (s : State) :
    exec (.lh e rd ra imm) s = execLh e rd ra imm s := rfl
@[simp] theorem exec_lhu (e : Nat) (rd : BitVec 4) (ra : BitVec 4) (imm : BitVec 18) (s : State) :
    exec (.lhu e rd ra imm) s = execLhu e rd ra imm s := rfl
@[simp] theorem exec_lb (e : Nat) (rd : BitVec 4) (ra : BitVec 4) (imm : BitVec 18) (s : State) :
    exec (.lb e rd ra imm) s = execLb e rd ra imm s := rfl
@[simp] theorem exec_lbu (e : Nat) (rd : BitVec 4) (ra : BitVec 4) (imm : BitVec 18) (s : State) :
    exec (.lbu e rd ra imm) s = execLbu e rd ra imm s := rfl
@[simp] theorem exec_sw (e : Nat) (rd : BitVec 4) (ra : BitVec 4) (imm : BitVec 18) (s : State) :
    exec (.sw e rd ra imm) s = execSw e rd ra imm s := rfl
@[simp] theorem exec_sh (e : Nat) (rd : BitVec 4) (ra : BitVec 4) (imm : BitVec 18) (s : State) :
    exec (.sh e rd ra imm) s = execSh e rd ra imm s := rfl
@[simp] theorem exec_sb (e : Nat) (rd : BitVec 4) (ra : BitVec 4) (imm : BitVec 18) (s : State) :
    exec (.sb e rd ra imm) s = execSb e rd ra imm s := rfl
@[simp] theorem exec_ioIn (e : Nat) (rd : BitVec 4) (ra : BitVec 4) (imm : BitVec 18) (s : State) :
    exec (.ioIn e rd ra imm) s = execIoIn e rd ra imm s := rfl
@[simp] theorem exec_ioOut (e : Nat) (rd : BitVec 4) (ra : BitVec 4) (imm : BitVec 18) (s : State) :
    exec (.ioOut e rd ra imm) s = execIoOut e rd ra imm s := rfl
@[simp] theorem exec_pairWordWrite (e : Nat) (value : Word) (s : State) :
    exec (.pairWordWrite e value) s = execPairWordWrite e value s := rfl
@[simp] theorem exec_registerWrite (e : Nat) (addr : Nat) (value : Word) (s : State) :
    exec (.registerWrite e addr value) s = execRegisterWrite e addr value s := rfl
@[simp] theorem exec_branch (e : Nat) (cond : BitVec 4) (tgt : BitVec 10) (s : State) :
    exec (.branch e cond tgt) s = execBranch e cond tgt s := rfl
@[simp] theorem exec_jal (e : Nat) (rd : BitVec 4) (tgt : BitVec 10) (s : State) :
    exec (.jal e rd tgt) s = execJal e rd tgt s := rfl
@[simp] theorem exec_jr (e : Nat) (ra : BitVec 4) (s : State) :
    exec (.jr e ra) s = execJr e ra s := rfl
@[simp] theorem exec_issueTw (e : Nat) (rd : BitVec 4) (rh : BitVec 4) (ra : BitVec 4) (doff : BitVec 8) (s : State) :
    exec (.issueTw e rd rh ra doff) s = execIssueTw e rd rh ra doff s := rfl
@[simp] theorem exec_issueSpi (e : Nat) (rd : BitVec 4) (rh : BitVec 4) (ra : BitVec 4) (doff : BitVec 8) (s : State) :
    exec (.issueSpi e rd rh ra doff) s = execIssueSpi e rd rh ra doff s := rfl
@[simp] theorem exec_issueUart (e : Nat) (rd : BitVec 4) (rh : BitVec 4) (ra : BitVec 4) (doff : BitVec 8) (s : State) :
    exec (.issueUart e rd rh ra doff) s = execIssueUart e rd rh ra doff s := rfl
@[simp] theorem exec_issueAna (e : Nat) (rd : BitVec 4) (rh : BitVec 4) (ra : BitVec 4) (doff : BitVec 8) (s : State) :
    exec (.issueAna e rd rh ra doff) s = execIssueAna e rd rh ra doff s := rfl
@[simp] theorem exec_issuePulse (e : Nat) (rd : BitVec 4) (rh : BitVec 4) (s : State) :
    exec (.issuePulse e rd rh) s = execIssuePulse e rd rh s := rfl
@[simp] theorem exec_transactionSlotFree (d : Nat) (s : State) :
    exec (.transactionSlotFree d) s = execTransactionSlotFree d s := rfl
@[simp] theorem exec_stampRead (e : Nat) (rd : BitVec 4) (ra : BitVec 4) (s : State) :
    exec (.stampRead e rd ra) s = execStampRead e rd ra s := rfl
@[simp] theorem exec_emit (e : Nat) (rs : BitVec 4) (ra : BitVec 4) (n : BitVec 4) (s : State) :
    exec (.emit e rs ra n) s = execEmit e rs ra n s := rfl
@[simp] theorem exec_emitS (e : Nat) (rs : BitVec 4) (ra : BitVec 4) (n : BitVec 4) (s : State) :
    exec (.emitS e rs ra n) s = execEmitS e rs ra n s := rfl
@[simp] theorem exec_millSubmit (e : Nat) (rc : BitVec 4) (ra : BitVec 4) (rb : BitVec 4) (s : State) :
    exec (.millSubmit e rc ra rb) s = execMillSubmit e rc ra rb s := rfl
@[simp] theorem exec_sieveOffer (e : Nat) (rr : BitVec 4) (ra : BitVec 4) (s : State) :
    exec (.sieveOffer e rr ra) s = execSieveOffer e rr ra s := rfl
@[simp] theorem exec_signalLow (e : Nat) (ra : BitVec 4) (s : State) :
    exec (.signalLow e ra) s = execSignalLow e ra s := rfl
@[simp] theorem exec_signalHigh (e : Nat) (ra : BitVec 4) (s : State) :
    exec (.signalHigh e ra) s = execSignalHigh e ra s := rfl
@[simp] theorem exec_signalPulse (e : Nat) (ra : BitVec 4) (s : State) :
    exec (.signalPulse e ra) s = execSignalPulse e ra s := rfl
@[simp] theorem exec_awaitComp (e : Nat) (rd : BitVec 4) (ra : BitVec 4) (s : State) :
    exec (.awaitComp e rd ra) s = execAwaitComp e rd ra s := rfl
@[simp] theorem exec_awaitEdge (e : Nat) (rd : BitVec 4) (ra : BitVec 4) (pin : BitVec 2) (edge : BitVec 2) (s : State) :
    exec (.awaitEdge e rd ra pin edge) s = execAwaitEdge e rd ra pin edge s := rfl
@[simp] theorem exec_awaitTime (e : Nat) (rd : BitVec 4) (ra : BitVec 4) (units : BitVec 16) (s : State) :
    exec (.awaitTime e rd ra units) s = execAwaitTime e rd ra units s := rfl
@[simp] theorem exec_awaitLine (e : Nat) (rd : BitVec 4) (ra : BitVec 4) (rise : Bool) (s : State) :
    exec (.awaitLine e rd ra rise) s = execAwaitLine e rd ra rise s := rfl
@[simp] theorem exec_awaitResume (e : Nat) (c : Nat) (s : State) :
    exec (.awaitResume e c) s = execAwaitResume e c s := rfl
@[simp] theorem exec_yield (e : Nat) (s : State) :
    exec (.yield e) s = execYield e s := rfl
@[simp] theorem exec_trap (e : Nat) (code : BitVec 8) (s : State) :
    exec (.trap e code) s = execTrap e code s := rfl
@[simp] theorem exec_reservedOpcode (e : Nat) (s : State) :
    exec (.reservedOpcode e) s = execReservedOpcode e s := rfl
@[simp] theorem exec_pcend (e : Nat) (s : State) :
    exec (.pcend e) s = execPcend e s := rfl
@[simp] theorem exec_frameBegin (d : Nat) (s : State) :
    exec (.frameBegin d) s = execFrameBegin d s := rfl
@[simp] theorem exec_entryNominalInstant (d : Nat) (entry : Nat) (s : State) :
    exec (.entryNominalInstant d entry) s = execEntryNominalInstant d entry s := rfl
@[simp] theorem exec_windowEnd (d : Nat) (entry : Nat) (s : State) :
    exec (.windowEnd d entry) s = execWindowEnd d entry s := rfl
@[simp] theorem exec_nextImageWrite (d : Nat) (p : Nat) (session : Nat) (image : List Byte) (s : State) :
    exec (.nextImageWrite d p session image) s = execNextImageWrite d p session image s := rfl
@[simp] theorem exec_millOutputComputed (c : Nat) (s : State) :
    exec (.millOutputComputed c) s = execMillOutputComputed c s := rfl
@[simp] theorem exec_millSlot (c : Nat) (s : State) :
    exec (.millSlot c) s = execMillSlot c s := rfl
@[simp] theorem exec_millRound (d : Nat) (s : State) :
    exec (.millRound d) s = execMillRound d s := rfl
@[simp] theorem exec_sieveOfferEval (d : Nat) (s : State) :
    exec (.sieveOfferEval d) s = execSieveOfferEval d s := rfl
@[simp] theorem exec_sieveTimerExpiry (r : Nat) (s : State) :
    exec (.sieveTimerExpiry r) s = execSieveTimerExpiry r s := rfl
@[simp] theorem exec_sieveSilenceExpiry (r : Nat) (s : State) :
    exec (.sieveSilenceExpiry r) s = execSieveSilenceExpiry r s := rfl
@[simp] theorem exec_maxAgeExpiry (k : Nat) (s : State) :
    exec (.maxAgeExpiry k) s = execMaxAgeExpiry k s := rfl
@[simp] theorem exec_batchAssemble (p : Nat) (s : State) :
    exec (.batchAssemble p) s = execBatchAssemble p s := rfl
@[simp] theorem exec_crierWake (p : Nat) (s : State) :
    exec (.crierWake p) s = execCrierWake p s := rfl
@[simp] theorem exec_wakeHoldExpiry (s : State) :
    exec (.wakeHoldExpiry) s = execWakeHoldExpiry s := rfl
@[simp] theorem exec_wakeRetryExpiry (p : Nat) (s : State) :
    exec (.wakeRetryExpiry p) s = execWakeRetryExpiry p s := rfl
@[simp] theorem exec_logFlushExpiry (d : Nat) (p : Nat) (s : State) :
    exec (.logFlushExpiry d p) s = execLogFlushExpiry d p s := rfl
@[simp] theorem exec_nvPageWriteDone (d : Nat) (p : Nat) (retries : Nat) (ok : Bool) (s : State) :
    exec (.nvPageWriteDone d p retries ok) s = execNvPageWriteDone d p retries ok s := rfl
@[simp] theorem exec_logTrigger (p : Nat) (s : State) :
    exec (.logTrigger p) s = execLogTrigger p s := rfl
@[simp] theorem exec_captureStart (d : Nat) (p : Nat) (s : State) :
    exec (.captureStart d p) s = execCaptureStart d p s := rfl
@[simp] theorem exec_captureEnd (d : Nat) (p : Nat) (s : State) :
    exec (.captureEnd d p) s = execCaptureEnd d p s := rfl
@[simp] theorem exec_wearLevelCheck (d : Nat) (s : State) :
    exec (.wearLevelCheck d) s = execWearLevelCheck d s := rfl
@[simp] theorem exec_nvScanDone (d : Nat) (s : State) :
    exec (.nvScanDone d) s = execNvScanDone d s := rfl
@[simp] theorem exec_tallyTick (t : Nat) (s : State) :
    exec (.tallyTick t) s = execTallyTick t s := rfl
@[simp] theorem exec_tallyLinkAction (t : Nat) (s : State) :
    exec (.tallyLinkAction t) s = execTallyLinkAction t s := rfl
@[simp] theorem exec_tallyStart (t : Nat) (s : State) :
    exec (.tallyStart t) s = execTallyStart t s := rfl
@[simp] theorem exec_tallyStop (t : Nat) (s : State) :
    exec (.tallyStop t) s = execTallyStop t s := rfl
@[simp] theorem exec_tallyReset (t : Nat) (s : State) :
    exec (.tallyReset t) s = execTallyReset t s := rfl
@[simp] theorem exec_unitStart (u : Nat) (mask : Nat) (s : State) :
    exec (.unitStart u mask) s = execUnitStart u mask s := rfl
@[simp] theorem exec_unitReset (u : Nat) (mask : Nat) (s : State) :
    exec (.unitReset u mask) s = execUnitReset u mask s := rfl
@[simp] theorem exec_topWrite (t : Nat) (value : Nat) (s : State) :
    exec (.topWrite t value) s = execTopWrite t value s := rfl
@[simp] theorem exec_cmpWrite (t : Nat) (value : Nat) (s : State) :
    exec (.cmpWrite t value) s = execCmpWrite t value s := rfl
@[simp] theorem exec_tallyCapture (t : Nat) (rising : Bool) (s : State) :
    exec (.tallyCapture t rising) s = execTallyCapture t rising s := rfl
@[simp] theorem exec_tallyPairedRise (t : Nat) (s : State) :
    exec (.tallyPairedRise t) s = execTallyPairedRise t s := rfl
@[simp] theorem exec_tallyPairedFall (t : Nat) (s : State) :
    exec (.tallyPairedFall t) s = execTallyPairedFall t s := rfl
@[simp] theorem exec_matrixRowChange (d : Nat) (r : Nat) (level : Bool) (s : State) :
    exec (.matrixRowChange d r level) s = execMatrixRowChange d r level s := rfl
@[simp] theorem exec_crossDieLineFault (d : Nat) (line : Nat) (equal : Bool) (s : State) :
    exec (.crossDieLineFault d line equal) s = execCrossDieLineFault d line equal s := rfl
@[simp] theorem exec_stateReqRun (p : Nat) (s : State) :
    exec (.stateReqRun p) s = execStateReqRun p s := rfl
@[simp] theorem exec_stateReqHalt (p : Nat) (s : State) :
    exec (.stateReqHalt p) s = execStateReqHalt p s := rfl
@[simp] theorem exec_parishStateChange (d : Nat) (p : Nat) (s : State) :
    exec (.parishStateChange d p) s = execParishStateChange d p s := rfl
@[simp] theorem exec_testTimeExpiry (p : Nat) (s : State) :
    exec (.testTimeExpiry p) s = execTestTimeExpiry p s := rfl
@[simp] theorem exec_keyWrite (p : Nat) (session : Nat) (value : List Byte) (s : State) :
    exec (.keyWrite p session value) s = execKeyWrite p session value s := rfl
@[simp] theorem exec_sessionOpen (f : HostFrame) (s : State) :
    exec (.sessionOpen f) s = execSessionOpen f s := rfl
@[simp] theorem exec_sessionConfirm (f : HostFrame) (s : State) :
    exec (.sessionConfirm f) s = execSessionConfirm f s := rfl
@[simp] theorem exec_sessionClose (f : HostFrame) (s : State) :
    exec (.sessionClose f) s = execSessionClose f s := rfl
@[simp] theorem exec_sessionIdleExpiry (n : Nat) (s : State) :
    exec (.sessionIdleExpiry n) s = execSessionIdleExpiry n s := rfl
@[simp] theorem exec_openBlockExpiry (p : Nat) (s : State) :
    exec (.openBlockExpiry p) s = execOpenBlockExpiry p s := rfl
@[simp] theorem exec_armReqWrite (session : Nat) (value : Nat) (tagged : Bool) (s : State) :
    exec (.armReqWrite session value tagged) s = execArmReqWrite session value tagged s := rfl
@[simp] theorem exec_armWindowExpiry (s : State) :
    exec (.armWindowExpiry) s = execArmWindowExpiry s := rfl
@[simp] theorem exec_fwImageWrite (p : Nat) (session : Nat) (image : List Byte) (s : State) :
    exec (.fwImageWrite p session image) s = execFwImageWrite p session image s := rfl
@[simp] theorem exec_fwCheckDone (s : State) :
    exec (.fwCheckDone) s = execFwCheckDone s := rfl
@[simp] theorem exec_fwSwitch (p : Nat) (session : Nat) (value : Nat) (s : State) :
    exec (.fwSwitch p session value) s = execFwSwitch p session value s := rfl
@[simp] theorem exec_ethFrameOther (n : Nat) (s : State) :
    exec (.ethFrameOther n) s = execEthFrameOther n s := rfl
@[simp] theorem exec_adpFrameReject (n : Nat) (fcsOk : Bool) (raw : List Byte) (s : State) :
    exec (.adpFrameReject n fcsOk raw) s = execAdpFrameReject n fcsOk raw s := rfl
@[simp] theorem exec_adpPing (f : HostFrame) (s : State) :
    exec (.adpPing f) s = execAdpPing f s := rfl
@[simp] theorem exec_adpRead (f : HostFrame) (s : State) :
    exec (.adpRead f) s = execAdpRead f s := rfl
@[simp] theorem exec_adpWrite (f : HostFrame) (s : State) :
    exec (.adpWrite f) s = execAdpWrite f s := rfl
@[simp] theorem exec_adpReadBlock (f : HostFrame) (s : State) :
    exec (.adpReadBlock f) s = execAdpReadBlock f s := rfl
@[simp] theorem exec_adpWriteBlock (f : HostFrame) (s : State) :
    exec (.adpWriteBlock f) s = execAdpWriteBlock f s := rfl
@[simp] theorem exec_blockTimeoutExpiry (k : Nat) (s : State) :
    exec (.blockTimeoutExpiry k) s = execBlockTimeoutExpiry k s := rfl
@[simp] theorem exec_adpAbort (f : HostFrame) (s : State) :
    exec (.adpAbort f) s = execAdpAbort f s := rfl
@[simp] theorem exec_adpStreamRequest (f : HostFrame) (s : State) :
    exec (.adpStreamRequest f) s = execAdpStreamRequest f s := rfl
@[simp] theorem exec_sleepVoteSleep (f : HostFrame) (s : State) :
    exec (.sleepVoteSleep f) s = execSleepVoteSleep f s := rfl
@[simp] theorem exec_sleepVoteStay (f : HostFrame) (s : State) :
    exec (.sleepVoteStay f) s = execSleepVoteStay f s := rfl
@[simp] theorem exec_adpWakeNotice (f : HostFrame) (s : State) :
    exec (.adpWakeNotice f) s = execAdpWakeNotice f s := rfl
@[simp] theorem exec_adpHubOpcodeReceived (op : Nat) (f : HostFrame) (s : State) :
    exec (.adpHubOpcodeReceived op f) s = execAdpHubOpcodeReceived op f s := rfl
@[simp] theorem exec_deliveryWindowOpen (n : Nat) (k : Nat) (s : State) :
    exec (.deliveryWindowOpen n k) s = execDeliveryWindowOpen n k s := rfl
@[simp] theorem exec_announcePeriodExpiry (n : Nat) (s : State) :
    exec (.announcePeriodExpiry n) s = execAnnouncePeriodExpiry n s := rfl
@[simp] theorem exec_plcaCycle (n : Nat) (s : State) :
    exec (.plcaCycle n) s = execPlcaCycle n s := rfl
@[simp] theorem exec_plcaInactive (n : Nat) (s : State) :
    exec (.plcaInactive n) s = execPlcaInactive n s := rfl
@[simp] theorem exec_linkDown (n : Nat) (s : State) :
    exec (.linkDown n) s = execLinkDown n s := rfl
@[simp] theorem exec_linkUp (n : Nat) (s : State) :
    exec (.linkUp n) s = execLinkUp n s := rfl
@[simp] theorem exec_failback (n : Nat) (s : State) :
    exec (.failback n) s = execFailback n s := rfl
@[simp] theorem exec_txDiscardTimeout (n : Nat) (s : State) :
    exec (.txDiscardTimeout n) s = execTxDiscardTimeout n s := rfl
@[simp] theorem exec_sleepAgreement (s : State) :
    exec (.sleepAgreement) s = execSleepAgreement s := rfl
@[simp] theorem exec_sleepCommitPoint (s : State) :
    exec (.sleepCommitPoint) s = execSleepCommitPoint s := rfl
@[simp] theorem exec_networkWakeActivity (n : Nat) (s : State) :
    exec (.networkWakeActivity n) s = execNetworkWakeActivity n s := rfl
@[simp] theorem exec_networkWakePattern (n : Nat) (s : State) :
    exec (.networkWakePattern n) s = execNetworkWakePattern n s := rfl
@[simp] theorem exec_commitPending (mask : Nat) (p : Nat) (session : Nat) (s : State) :
    exec (.commitPending mask p session) s = execCommitPending mask p session s := rfl
@[simp] theorem exec_applyPending (mask : Nat) (p : Nat) (session : Nat) (s : State) :
    exec (.applyPending mask p session) s = execApplyPending mask p session s := rfl
@[simp] theorem exec_discardPending (mask : Nat) (p : Nat) (s : State) :
    exec (.discardPending mask p) s = execDiscardPending mask p s := rfl
@[simp] theorem exec_commitDieApply (d : Nat) (s : State) :
    exec (.commitDieApply d) s = execCommitDieApply d s := rfl
@[simp] theorem exec_persistDone (erases : Nat) (s : State) :
    exec (.persistDone erases) s = execPersistDone erases s := rfl
@[simp] theorem exec_soRelease (value : Nat) (s : State) :
    exec (.soRelease value) s = execSoRelease value s := rfl
@[simp] theorem exec_restartDelayExpiry (d : Nat) (o : Nat) (s : State) :
    exec (.restartDelayExpiry d o) s = execRestartDelayExpiry d o s := rfl
@[simp] theorem exec_twtripInTrip (s : State) :
    exec (.twtripInTrip) s = execTwtripInTrip s := rfl
@[simp] theorem exec_lockstepMismatch (d : Nat) (s : State) :
    exec (.lockstepMismatch d) s = execLockstepMismatch d s := rfl
@[simp] theorem exec_watchdogService (d : Nat) (s : State) :
    exec (.watchdogService d) s = execWatchdogService d s := rfl
@[simp] theorem exec_watchdogTimeout (d : Nat) (s : State) :
    exec (.watchdogTimeout d) s = execWatchdogTimeout d s := rfl
@[simp] theorem exec_clockMonitorFault (d : Nat) (detail : Nat) (measured : Nat) (s : State) :
    exec (.clockMonitorFault d detail measured) s = execClockMonitorFault d detail measured s := rfl
@[simp] theorem exec_supplyMonitorFault (d : Nat) (detail : Nat) (measured : Nat) (s : State) :
    exec (.supplyMonitorFault d detail measured) s = execSupplyMonitorFault d detail measured s := rfl
@[simp] theorem exec_thermalWarning (d : Nat) (temp : Int) (s : State) :
    exec (.thermalWarning d temp) s = execThermalWarning d temp s := rfl
@[simp] theorem exec_thermalShutdown (d : Nat) (temp : Int) (torn : List Nat) (groups : List Nat) (s : State) :
    exec (.thermalShutdown d temp torn groups) s = execThermalShutdown d temp torn groups s := rfl
@[simp] theorem exec_tripTestPulseStart (d : Nat) (o : Nat) (s : State) :
    exec (.tripTestPulseStart d o) s = execTripTestPulseStart d o s := rfl
@[simp] theorem exec_tripTestDeadline (d : Nat) (kind : Nat) (ok : Bool) (src : Nat) (s : State) :
    exec (.tripTestDeadline d kind ok src) s = execTripTestDeadline d kind ok src s := rfl
@[simp] theorem exec_tripTestPulseEnd (d : Nat) (s : State) :
    exec (.tripTestPulseEnd d) s = execTripTestPulseEnd d s := rfl
@[simp] theorem exec_outputReadbackFault (d : Nat) (o : Nat) (high : Bool) (s : State) :
    exec (.outputReadbackFault d o high) s = execOutputReadbackFault d o high s := rfl
@[simp] theorem exec_soCurrentLimitExpiry (d : Nat) (o : Nat) (s : State) :
    exec (.soCurrentLimitExpiry d o) s = execSoCurrentLimitExpiry d o s := rfl
@[simp] theorem exec_pairDigestCompare (d : Nat) (entry : Nat) (s : State) :
    exec (.pairDigestCompare d entry) s = execPairDigestCompare d entry s := rfl
@[simp] theorem exec_retireEngine (value : Nat) (s : State) :
    exec (.retireEngine value) s = execRetireEngine value s := rfl
@[simp] theorem exec_recoveryCauseCleared (s : State) :
    exec (.recoveryCauseCleared) s = execRecoveryCauseCleared s := rfl
@[simp] theorem exec_latchReset (value : Nat) (s : State) :
    exec (.latchReset value) s = execLatchReset value s := rfl
@[simp] theorem exec_twinWordSend (s : State) :
    exec (.twinWordSend) s = execTwinWordSend s := rfl
@[simp] theorem exec_twinHello (w : TwinWord) (s : State) :
    exec (.twinHello w) s = execTwinHello w s := rfl
@[simp] theorem exec_twinVerdict (w : TwinWord) (s : State) :
    exec (.twinVerdict w) s = execTwinVerdict w s := rfl
@[simp] theorem exec_twinDetach (w : TwinWord) (s : State) :
    exec (.twinDetach w) s = execTwinDetach w s := rfl
@[simp] theorem exec_twinRest (w : TwinWord) (s : State) :
    exec (.twinRest w) s = execTwinRest w s := rfl
@[simp] theorem exec_twinWordInvalid (s : State) :
    exec (.twinWordInvalid) s = execTwinWordInvalid s := rfl
@[simp] theorem exec_twinLost (s : State) :
    exec (.twinLost) s = execTwinLost s := rfl
@[simp] theorem exec_lostRqTimeExpiry (s : State) :
    exec (.lostRqTimeExpiry) s = execLostRqTimeExpiry s := rfl
@[simp] theorem exec_powerCmdRun (s : State) :
    exec (.powerCmdRun) s = execPowerCmdRun s := rfl
@[simp] theorem exec_powerCmdSleep (s : State) :
    exec (.powerCmdSleep) s = execPowerCmdSleep s := rfl
@[simp] theorem exec_powerCmdDeepSleep (s : State) :
    exec (.powerCmdDeepSleep) s = execPowerCmdDeepSleep s := rfl
@[simp] theorem exec_powerCmdOff (s : State) :
    exec (.powerCmdOff) s = execPowerCmdOff s := rfl
@[simp] theorem exec_idleTimeExpiry (s : State) :
    exec (.idleTimeExpiry) s = execIdleTimeExpiry s := rfl
@[simp] theorem exec_sleepTimeExpiry (s : State) :
    exec (.sleepTimeExpiry) s = execSleepTimeExpiry s := rfl
@[simp] theorem exec_deepTimeExpiry (s : State) :
    exec (.deepTimeExpiry) s = execDeepTimeExpiry s := rfl
@[simp] theorem exec_storageTimeExpiry (s : State) :
    exec (.storageTimeExpiry) s = execStorageTimeExpiry s := rfl
@[simp] theorem exec_drainExpiry (s : State) :
    exec (.drainExpiry) s = execDrainExpiry s := rfl
@[simp] theorem exec_powerStateReached (s : State) :
    exec (.powerStateReached) s = execPowerStateReached s := rfl
@[simp] theorem exec_wakePinLevel (s : State) :
    exec (.wakePinLevel) s = execWakePinLevel s := rfl
@[simp] theorem exec_wakePinEdge (s : State) :
    exec (.wakePinEdge) s = execWakePinEdge s := rfl
@[simp] theorem exec_wakePinStart (s : State) :
    exec (.wakePinStart) s = execWakePinStart s := rfl
@[simp] theorem exec_comparatorWake (n : Nat) (s : State) :
    exec (.comparatorWake n) s = execComparatorWake n s := rfl
@[simp] theorem exec_aonTallyWake (s : State) :
    exec (.aonTallyWake) s = execAonTallyWake s := rfl
@[simp] theorem exec_twinWake (s : State) :
    exec (.twinWake) s = execTwinWake s := rfl
@[simp] theorem exec_sentinelCrierWake (r : Nat) (s : State) :
    exec (.sentinelCrierWake r) s = execSentinelCrierWake r s := rfl
@[simp] theorem exec_wakeAfterExpiry (s : State) :
    exec (.wakeAfterExpiry) s = execWakeAfterExpiry s := rfl
@[simp] theorem exec_returnComplete (origin : Nat) (s : State) :
    exec (.returnComplete origin) s = execReturnComplete origin s := rfl
@[simp] theorem exec_opSet (value : Nat) (s : State) :
    exec (.opSet value) s = execOpSet value s := rfl
@[simp] theorem exec_voltageConfirmed (d : Nat) (s : State) :
    exec (.voltageConfirmed d) s = execVoltageConfirmed d s := rfl
@[simp] theorem exec_opSwitchPause (d : Nat) (s : State) :
    exec (.opSwitchPause d) s = execOpSwitchPause d s := rfl
@[simp] theorem exec_sysPllChecked (d : Nat) (s : State) :
    exec (.sysPllChecked d) s = execSysPllChecked d s := rfl
@[simp] theorem exec_relockTimeout (d : Nat) (s : State) :
    exec (.relockTimeout d) s = execRelockTimeout d s := rfl
@[simp] theorem exec_converterDerate (detail : Nat) (item : Nat) (temp : Int) (s : State) :
    exec (.converterDerate detail item temp) s = execConverterDerate detail item temp s := rfl
@[simp] theorem exec_derateClear (s : State) :
    exec (.derateClear) s = execDerateClear s := rfl
@[simp] theorem exec_scrubWord (d : Nat) (err : Nat) (kind : Nat) (item : Nat) (sub : Nat) (s : State) :
    exec (.scrubWord d err kind item sub) s = execScrubWord d err kind item sub s := rfl
@[simp] theorem exec_reloadCopyWrite (d : Nat) (idx : Nat) (erases : Nat) (s : State) :
    exec (.reloadCopyWrite d idx erases) s = execReloadCopyWrite d idx erases s := rfl
@[simp] theorem exec_reloadApply (d : Nat) (idx : Nat) (bad : List (Nat × Nat)) (s : State) :
    exec (.reloadApply d idx bad) s = execReloadApply d idx bad s := rfl
@[simp] theorem exec_rotaFailover (d : Nat) (bad : List (Nat × Nat)) (s : State) :
    exec (.rotaFailover d bad) s = execRotaFailover d bad s := rfl
@[simp] theorem exec_temperatureCheck (d : Nat) (temp : Int) (s : State) :
    exec (.temperatureCheck d temp) s = execTemperatureCheck d temp s := rfl
@[simp] theorem exec_calReq (n : Nat) (s : State) :
    exec (.calReq n) s = execCalReq n s := rfl
@[simp] theorem exec_calItemDone (n : Nat) (item : Nat) (values : List Int) (bad : List Nat) (s : State) :
    exec (.calItemDone n item values bad) s = execCalItemDone n item values bad s := rfl
@[simp] theorem exec_forcedCalWindow (n : Nat) (s : State) :
    exec (.forcedCalWindow n) s = execForcedCalWindow n s := rfl
@[simp] theorem exec_telemetryInstant (s : State) :
    exec (.telemetryInstant) s = execTelemetryInstant s := rfl
@[simp] theorem exec_vinValid (vinMv : Nat) (low : Bool) (strap : Bool) (svcAddr : Nat) (testen : Bool) (nvBad : List (Nat × Nat × Nat)) (fwBad : Nat) (s : State) :
    exec (.vinValid vinMv low strap svcAddr testen nvBad fwBad) s = execVinValid vinMv low strap svcAddr testen nvBad fwBad s := rfl
@[simp] theorem exec_vinDip (torn : List (Nat × Nat)) (masks : List Nat) (s : State) :
    exec (.vinDip torn masks) s = execVinDip torn masks s := rfl
@[simp] theorem exec_resetWrite (value : Nat) (s : State) :
    exec (.resetWrite value) s = execResetWrite value s := rfl
@[simp] theorem exec_dieStartupTimeout (d : Nat) (s : State) :
    exec (.dieStartupTimeout d) s = execDieStartupTimeout d s := rfl
@[simp] theorem exec_thermalRestart (temps : List Int) (s : State) :
    exec (.thermalRestart temps) s = execThermalRestart temps s := rfl
@[simp] theorem exec_selfTest (value : Nat) (s : State) :
    exec (.selfTest value) s = execSelfTest value s := rfl
@[simp] theorem exec_selfTestDone (failed : Nat) (s : State) :
    exec (.selfTestDone failed) s = execSelfTestDone failed s := rfl
@[simp] theorem exec_portLoopL0 (n : Nat) (s : State) :
    exec (.portLoopL0 n) s = execPortLoopL0 n s := rfl
@[simp] theorem exec_portLoopL1 (n : Nat) (s : State) :
    exec (.portLoopL1 n) s = execPortLoopL1 n s := rfl
@[simp] theorem exec_portLoopL2 (n : Nat) (s : State) :
    exec (.portLoopL2 n) s = execPortLoopL2 n s := rfl
@[simp] theorem exec_portLoopL3 (n : Nat) (s : State) :
    exec (.portLoopL3 n) s = execPortLoopL3 n s := rfl
@[simp] theorem exec_netLoopMac (n : Nat) (via : Nat) (s : State) :
    exec (.netLoopMac n via) s = execNetLoopMac n via s := rfl
@[simp] theorem exec_netLoopPcs (n : Nat) (via : Nat) (s : State) :
    exec (.netLoopPcs n via) s = execNetLoopPcs n via s := rfl
@[simp] theorem exec_netLoopPma (n : Nat) (via : Nat) (s : State) :
    exec (.netLoopPma n via) s = execNetLoopPma n via s := rfl
@[simp] theorem exec_netLoopRemote (n : Nat) (via : Nat) (s : State) :
    exec (.netLoopRemote n via) s = execNetLoopRemote n via s := rfl
@[simp] theorem exec_remoteFrameReflect (n : Nat) (raw : List Byte) (s : State) :
    exec (.remoteFrameReflect n raw) s = execRemoteFrameReflect n raw s := rfl
@[simp] theorem exec_loopTimeoutExpiry (n : Nat) (s : State) :
    exec (.loopTimeoutExpiry n) s = execLoopTimeoutExpiry n s := rfl
@[simp] theorem exec_twinLoopNear (s : State) :
    exec (.twinLoopNear) s = execTwinLoopNear s := rfl
@[simp] theorem exec_twinLoopFar (s : State) :
    exec (.twinLoopFar) s = execTwinLoopFar s := rfl
@[simp] theorem exec_ringLoop (l : Nat) (s : State) :
    exec (.ringLoop l) s = execRingLoop l s := rfl
@[simp] theorem exec_loopbackDone (kind : Nat) (n : Nat) (firstErr : Nat) (errors : Nat) (s : State) :
    exec (.loopbackDone kind n firstErr errors) s = execLoopbackDone kind n firstErr errors s := rfl
@[simp] theorem exec_leadHeartbeatSend (s : State) :
    exec (.leadHeartbeatSend) s = execLeadHeartbeatSend s := rfl
@[simp] theorem exec_ptpFollowUpReceive (n : Nat) (domain : Nat) (t1 : Int) (s : State) :
    exec (.ptpFollowUpReceive n domain t1) s = execPtpFollowUpReceive n domain t1 s := rfl
@[simp] theorem exec_ptpDelayRequestReceive (n : Nat) (domain : Nat) (peer : Bool) (s : State) :
    exec (.ptpDelayRequestReceive n domain peer) s = execPtpDelayRequestReceive n domain peer s := rfl
@[simp] theorem exec_announceReceiptTimeout (n : Nat) (s : State) :
    exec (.announceReceiptTimeout n) s = execAnnounceReceiptTimeout n s := rfl
@[simp] theorem exec_quarantineProbePassed (n : Nat) (reason : Nat) (s : State) :
    exec (.quarantineProbePassed n reason) s = execQuarantineProbePassed n reason s := rfl
@[simp] theorem exec_transmitOpportunity (n : Nat) (s : State) :
    exec (.transmitOpportunity n) s = execTransmitOpportunity n s := rfl
@[simp] theorem exec_netLoopStop (n : Nat) (via : Nat) (s : State) :
    exec (.netLoopStop n via) s = execNetLoopStop n via s := rfl
@[simp] theorem exec_twtripInRelease (s : State) :
    exec (.twtripInRelease) s = execTwtripInRelease s := rfl
@[simp] theorem exec_monitorReturnToBand (d : Nat) (cls : Nat) (detail : Nat) (s : State) :
    exec (.monitorReturnToBand d cls detail) s = execMonitorReturnToBand d cls detail s := rfl
@[simp] theorem exec_soCurrentLimitHoldoffEnd (d : Nat) (o : Nat) (s : State) :
    exec (.soCurrentLimitHoldoffEnd d o) s = execSoCurrentLimitHoldoffEnd d o s := rfl

end Sys2Proof.Machine
end

