-- ==== Sys2Proof/Laws/Memory.lean ====
section
/-! SUPPORT. The laws of scratch memory: a write keeps the canonical form, reads back its byte, and leaves every other byte. -/

namespace Sys2Proof.Machine

theorem Memory.wf_cons (a : Nat) (b : Byte) (m : Memory) :
    Memory.wf ((a, b) :: m) = true ↔ b ≠ scratchDflt ∧ (∀ e ∈ m, a < e.1) ∧ Memory.wf m = true := by
  induction m generalizing a b with
  | nil => simp [Memory.wf]
  | cons e t ih =>
    obtain ⟨a', b'⟩ := e
    rw [Memory.wf]
    simp only [Bool.and_eq_true, bne_iff_ne, decide_eq_true_eq, List.mem_cons, forall_eq_or_imp]
    constructor
    · rintro ⟨⟨hb, hlt⟩, hw⟩
      exact ⟨hb, ⟨hlt, fun e he => Nat.lt_trans hlt (((ih a' b').mp hw).2.1 e he)⟩, hw⟩
    · rintro ⟨hb, ⟨hlt, _⟩, hw⟩
      exact ⟨⟨hb, hlt⟩, hw⟩

/-- Every address that a write lists was listed before or is the one written. -/
theorem Memory.mem_write {m : Memory} {a : Nat} {v : Byte} {e : Nat × Byte} (h : e ∈ Memory.write m a v) :
    e ∈ m ∨ e = (a, v) := by
  induction m with
  | nil => unfold Memory.write at h; split at h <;> simp_all
  | cons f t ih =>
    obtain ⟨j, w⟩ := f
    unfold Memory.write at h
    split at h
    · split at h <;> simp_all <;> tauto
    · split at h
      · split at h <;> simp_all <;> tauto
      · rcases List.mem_cons.mp h with h | h
        · simp [h]
        · rcases ih h with h | h <;> simp [h]

/-- A write keeps the canonical form. -/
theorem Memory.write_wf {m : Memory} (a : Nat) (v : Byte) (h : Memory.wf m = true) : Memory.wf (Memory.write m a v) = true := by
  induction m with
  | nil => unfold Memory.write; split <;> simp_all [Memory.wf]
  | cons f t ih =>
    obtain ⟨j, w⟩ := f
    obtain ⟨hw, hj, ht⟩ := (Memory.wf_cons j w t).mp h
    unfold Memory.write
    split
    · rename_i hlt
      split
      · exact h
      · refine (Memory.wf_cons ..).mpr ⟨‹_›, fun e he => ?_, h⟩
        rcases List.mem_cons.mp he with rfl | he
        · exact hlt
        · exact Nat.lt_trans hlt (hj e he)
    · split
      · rename_i _ hEq
        subst hEq
        split
        · exact ht
        · exact (Memory.wf_cons ..).mpr ⟨‹_›, hj, ht⟩
      · refine (Memory.wf_cons ..).mpr ⟨hw, fun e he => ?_, ih ht⟩
        rcases Memory.mem_write he with he | rfl
        · exact hj e he
        · show j < a; omega

/-- Writing bytes keeps the canonical form. -/
theorem Memory.writeBytes_wf {m : Memory} (a : Nat) (bs : List Byte) (h : Memory.wf m = true) :
    Memory.wf (Memory.writeBytes m a bs) = true := by
  induction bs generalizing m a with
  | nil => exact h
  | cons b t ih => exact ih (a + 1) (Memory.write_wf a b h)

/-- An address below every listed one reads as an unlisted one. -/
theorem Memory.read_absent {m : Memory} {a : Nat} (h : ∀ e ∈ m, e.1 ≠ a) : Memory.read m a = scratchDflt := by
  induction m with
  | nil => rfl
  | cons f t ih =>
    obtain ⟨j, w⟩ := f
    have hj : a ≠ j := fun h' => h (j, w) (by simp) h'.symm
    simpa [Memory.read, tget, hj] using ih (fun e he => h e (by simp [he]))

/-- A byte written is read back. -/
theorem Memory.read_write_same {m : Memory} (a : Nat) (v : Byte) (h : Memory.wf m = true) :
    Memory.read (Memory.write m a v) a = v := by
  induction m with
  | nil => unfold Memory.write; split <;> simp_all [Memory.read, tget]
  | cons f t ih =>
    obtain ⟨j, w⟩ := f
    obtain ⟨_, hj, ht⟩ := (Memory.wf_cons j w t).mp h
    unfold Memory.write
    split
    · split
      · rename_i hlt hv
        rw [hv]
        refine Memory.read_absent (fun e he => ?_)
        rcases List.mem_cons.mp he with rfl | he
        · exact Nat.ne_of_gt hlt
        · have := hj e he; omega
      · simp [Memory.read, tget]
    · split
      · rename_i _ hEq
        subst hEq
        split
        · rename_i hv
          rw [hv]
          exact Memory.read_absent (fun e he => Nat.ne_of_gt (hj e he))
        · simp [Memory.read, tget]
      · rename_i _ hne
        simpa [Memory.read, tget, hne] using ih ht

/-- Every other byte reads as before. -/
theorem Memory.read_write_other (m : Memory) {a b : Nat} (v : Byte) (hab : b ≠ a) (h : Memory.wf m = true) :
    Memory.read (Memory.write m a v) b = Memory.read m b := by
  induction m with
  | nil => unfold Memory.write; split <;> simp_all [Memory.read, tget]
  | cons f t ih =>
    obtain ⟨j, w⟩ := f
    obtain ⟨_, hj, ht⟩ := (Memory.wf_cons j w t).mp h
    unfold Memory.write
    split
    · split
      · rfl
      · simp [Memory.read, tget, hab]
    · split
      · rename_i _ hEq
        subst hEq
        split
        · rw [show Memory.read ((a, w) :: t) b = Memory.read t b by simp [Memory.read, tget, hab]]
        · simp [Memory.read, tget, hab]
      · by_cases hb : b = j
        · simp [Memory.read, tget, hb]
        · simpa [Memory.read, tget, hb] using ih ht

/-- Bytes written from an address on are read back, and every byte outside them reads as before. -/
theorem Memory.read_writeBytes {m : Memory} (a b : Nat) (bs : List Byte) (h : Memory.wf m = true) :
    Memory.read (Memory.writeBytes m a bs) b = if a ≤ b ∧ b < a + bs.length then nth 0 bs (b - a) else Memory.read m b := by
  induction bs generalizing m a with
  | nil => rw [if_neg (by simp)]; rfl
  | cons v t ih =>
    rw [Memory.writeBytes, ih (a + 1) (Memory.write_wf a v h)]
    by_cases hb : b = a
    · subst hb
      rw [if_neg (by omega), if_pos (by simp), Nat.sub_self]
      exact Memory.read_write_same b v h
    · rw [Memory.read_write_other m v hb h]
      by_cases hr : a + 1 ≤ b ∧ b < a + 1 + t.length
      · rw [if_pos hr, if_pos (by simp; omega), show b - a = b - (a + 1) + 1 by omega]
        rfl
      · rw [if_neg hr, if_neg (by simp; omega)]

/-- Every scratch memory after reset is in canonical form. -/
theorem reset_scratchSound : ScratchSound State.reset := by simp [ScratchSound, State.reset]

end Sys2Proof.Machine
end

