-- ==== Sys2Proof/Laws/PerInstr.lean ====
section
/-! SUPPORT. One lemma per command of the opcode table: what is well formed on a part is well formed on a part with more dies. -/

open Sys2Proof

/-- A command that is well formed on a part with some number of dies is well formed on every part with more (R6, R9, R17). -/
def Sys2Proof.Laws.CommandFamily.Statement (i : Instr) : Prop := ∀ a b : Nat, a ≤ b → i.wfFor a = true → i.wfFor b = true

theorem Sys2Proof.Laws.CommandFamily.leadHeartbeat (d : Nat) : Statement (.leadHeartbeat d) :=
  fun _ _ h w => decide_eq_true (Nat.lt_of_lt_of_le (of_decide_eq_true w) h)

theorem Sys2Proof.Laws.CommandFamily.leadLost (d : Nat) : Statement (.leadLost d) :=
  fun _ _ h w => decide_eq_true (Nat.lt_of_lt_of_le (of_decide_eq_true w) h)

theorem Sys2Proof.Laws.CommandFamily.ringFrameReceive (d : Nat) (link : Nat) (seq : Nat) (cls : Nat) (crcOk : Bool) :
    Statement (.ringFrameReceive d link seq cls crcOk) := by
  intro a b h w
  have w : (d < a && link < a) = true := w
  show (d < b && link < b) = true
  simp only [Bool.and_eq_true, decide_eq_true_eq] at w ⊢
  omega

theorem Sys2Proof.Laws.CommandFamily.ringLinkLost (link : Nat) : Statement (.ringLinkLost link) :=
  fun _ _ h w => decide_eq_true (Nat.lt_of_lt_of_le (of_decide_eq_true w) h)

theorem Sys2Proof.Laws.CommandFamily.sidebandPairFault (d : Nat) (outputs : Nat) : Statement (.sidebandPairFault d outputs) :=
  fun _ _ h w => decide_eq_true (Nat.lt_of_lt_of_le (of_decide_eq_true w) h)

theorem Sys2Proof.Laws.CommandFamily.safetyOutputTripRequest (d : Nat) (outputs : Nat) (on : Bool) :
    Statement (.safetyOutputTripRequest d outputs on) :=
  fun _ _ h w => decide_eq_true (Nat.lt_of_lt_of_le (of_decide_eq_true w) h)

theorem Sys2Proof.Laws.CommandFamily.matrixTripConfirmed (d : Nat) (c : Nat) : Statement (.matrixTripConfirmed d c) :=
  fun _ _ h w => decide_eq_true (Nat.lt_of_lt_of_le (of_decide_eq_true w) h)

theorem Sys2Proof.Laws.CommandFamily.timeAlignFrame (held : Nat) : Statement (.timeAlignFrame held) :=
  fun _ _ _ h => h

theorem Sys2Proof.Laws.CommandFamily.timeTick : Statement .timeTick :=
  fun _ _ _ h => h

theorem Sys2Proof.Laws.CommandFamily.slewComplete : Statement .slewComplete :=
  fun _ _ _ h => h

theorem Sys2Proof.Laws.CommandFamily.rateWrite (value : Nat) : Statement (.rateWrite value) :=
  fun _ _ _ h => h

theorem Sys2Proof.Laws.CommandFamily.offsetAdjWrite (value : Int) : Statement (.offsetAdjWrite value) :=
  fun _ _ _ h => h

theorem Sys2Proof.Laws.CommandFamily.timeSetWrite (value : Nat) : Statement (.timeSetWrite value) :=
  fun _ _ _ h => h

theorem Sys2Proof.Laws.CommandFamily.reacquireWrite (value : Nat) : Statement (.reacquireWrite value) :=
  fun _ _ _ h => h

theorem Sys2Proof.Laws.CommandFamily.refRetune (effect : Int) : Statement (.refRetune effect) :=
  fun _ _ _ h => h

theorem Sys2Proof.Laws.CommandFamily.tsecLoRead (e : Nat) (rd : BitVec 4) : Statement (.tsecLoRead e rd) :=
  fun _ _ h w => decide_eq_true (Nat.lt_of_lt_of_le (of_decide_eq_true w) (Nat.mul_le_mul_left _ h))

theorem Sys2Proof.Laws.CommandFamily.ptpSyncReceive (n : Nat) (domain : Nat) (twoStep : Bool) (t1 : Int) :
    Statement (.ptpSyncReceive n domain twoStep t1) :=
  fun _ _ _ h => h

theorem Sys2Proof.Laws.CommandFamily.ptpAnnounceReceive (n : Nat) (domain : Nat) (p1 : Nat) (cls : Nat) (acc : Nat) (var : Nat) (p2 : Nat) (gm : Nat) (utc : Int) :
    Statement (.ptpAnnounceReceive n domain p1 cls acc var p2 gm utc) :=
  fun _ _ _ h => h

theorem Sys2Proof.Laws.CommandFamily.ptpDelayResponseReceive (n : Nat) (domain : Nat) (t4 : Int) (turnaround : Option Int) :
    Statement (.ptpDelayResponseReceive n domain t4 turnaround) :=
  fun _ _ _ h => h

theorem Sys2Proof.Laws.CommandFamily.ptpMessageDiscard (n : Nat) : Statement (.ptpMessageDiscard n) :=
  fun _ _ _ h => h

theorem Sys2Proof.Laws.CommandFamily.ptpSyncSend (n : Nat) : Statement (.ptpSyncSend n) :=
  fun _ _ _ h => h

theorem Sys2Proof.Laws.CommandFamily.ptpDelayRequestSend (n : Nat) : Statement (.ptpDelayRequestSend n) :=
  fun _ _ _ h => h

theorem Sys2Proof.Laws.CommandFamily.ptpAnnounceSend (n : Nat) : Statement (.ptpAnnounceSend n) :=
  fun _ _ _ h => h

theorem Sys2Proof.Laws.CommandFamily.syncTimeout (n : Nat) : Statement (.syncTimeout n) :=
  fun _ _ _ h => h

theorem Sys2Proof.Laws.CommandFamily.portModeIdleEnd (n : Nat) : Statement (.portModeIdleEnd n) :=
  fun _ _ h w => decide_eq_true (Nat.lt_of_lt_of_le (of_decide_eq_true w) (Nat.mul_le_mul_left _ h))

theorem Sys2Proof.Laws.CommandFamily.vpOnWrite (n : Nat) (on : Bool) : Statement (.vpOnWrite n on) :=
  fun _ _ h w => decide_eq_true (Nat.lt_of_lt_of_le (of_decide_eq_true w) (Nat.mul_le_mul_left _ h))

theorem Sys2Proof.Laws.CommandFamily.pgood (n : Nat) : Statement (.pgood n) :=
  fun _ _ h w => decide_eq_true (Nat.lt_of_lt_of_le (of_decide_eq_true w) (Nat.mul_le_mul_left _ h))

theorem Sys2Proof.Laws.CommandFamily.vpAverageOverload (n : Nat) : Statement (.vpAverageOverload n) :=
  fun _ _ h w => decide_eq_true (Nat.lt_of_lt_of_le (of_decide_eq_true w) (Nat.mul_le_mul_left _ h))

theorem Sys2Proof.Laws.CommandFamily.vpPeakOverload (n : Nat) : Statement (.vpPeakOverload n) :=
  fun _ _ h w => decide_eq_true (Nat.lt_of_lt_of_le (of_decide_eq_true w) (Nat.mul_le_mul_left _ h))

theorem Sys2Proof.Laws.CommandFamily.emCfgWrite (n : Nat) (value : Word) : Statement (.emCfgWrite n value) :=
  fun _ _ h w => decide_eq_true (Nat.lt_of_lt_of_le (of_decide_eq_true w) (Nat.mul_le_mul_left _ h))

theorem Sys2Proof.Laws.CommandFamily.governorGrant (d : Nat) (bins : Nat) : Statement (.governorGrant d bins) :=
  fun _ _ h w => decide_eq_true (Nat.lt_of_lt_of_le (of_decide_eq_true w) h)

theorem Sys2Proof.Laws.CommandFamily.emitterPulseDone (n : Nat) (isOpen : Bool) (noreg : Bool) :
    Statement (.emitterPulseDone n isOpen noreg) :=
  fun _ _ h w => decide_eq_true (Nat.lt_of_lt_of_le (of_decide_eq_true w) (Nat.mul_le_mul_left _ h))

theorem Sys2Proof.Laws.CommandFamily.quarantineProbe (n : Nat) (reason : Nat) (interval : Nat) :
    Statement (.quarantineProbe n reason interval) :=
  fun _ _ h w => decide_eq_true (Nat.lt_of_lt_of_le (of_decide_eq_true w) (Nat.mul_le_mul_left _ h))

theorem Sys2Proof.Laws.CommandFamily.quarCtlRelease (n : Nat) : Statement (.quarCtlRelease n) :=
  fun _ _ h w => decide_eq_true (Nat.lt_of_lt_of_le (of_decide_eq_true w) (Nat.mul_le_mul_left _ h))

theorem Sys2Proof.Laws.CommandFamily.quarCtlHold (n : Nat) : Statement (.quarCtlHold n) :=
  fun _ _ h w => decide_eq_true (Nat.lt_of_lt_of_le (of_decide_eq_true w) (Nat.mul_le_mul_left _ h))

theorem Sys2Proof.Laws.CommandFamily.quarCtlProbe (n : Nat) : Statement (.quarCtlProbe n) :=
  fun _ _ h w => decide_eq_true (Nat.lt_of_lt_of_le (of_decide_eq_true w) (Nat.mul_le_mul_left _ h))

theorem Sys2Proof.Laws.CommandFamily.uartRxLowTimeout (n : Nat) : Statement (.uartRxLowTimeout n) :=
  fun _ _ h w => decide_eq_true (Nat.lt_of_lt_of_le (of_decide_eq_true w) (Nat.mul_le_mul_left _ h))

theorem Sys2Proof.Laws.CommandFamily.pinEdge (n : Nat) (pin : Nat) (rising : Bool) (bins : Nat) :
    Statement (.pinEdge n pin rising bins) := by
  intro a b h w
  have w : (n < 12 * a && pin < 4) = true := w
  show (n < 12 * b && pin < 4) = true
  simp only [Bool.and_eq_true, decide_eq_true_eq] at w ⊢
  omega

theorem Sys2Proof.Laws.CommandFamily.portOperationStart (n : Nat) (bins : Nat) : Statement (.portOperationStart n bins) :=
  fun _ _ h w => decide_eq_true (Nat.lt_of_lt_of_le (of_decide_eq_true w) (Nat.mul_le_mul_left _ h))

theorem Sys2Proof.Laws.CommandFamily.twStart (n : Nat) (bins : Nat) : Statement (.twStart n bins) :=
  fun _ _ h w => decide_eq_true (Nat.lt_of_lt_of_le (of_decide_eq_true w) (Nat.mul_le_mul_left _ h))

theorem Sys2Proof.Laws.CommandFamily.arbitrationLost (n : Nat) : Statement (.arbitrationLost n) :=
  fun _ _ h w => decide_eq_true (Nat.lt_of_lt_of_le (of_decide_eq_true w) (Nat.mul_le_mul_left _ h))

theorem Sys2Proof.Laws.CommandFamily.twTransferDone (n : Nat) (nak : Nat) (rx : List Byte) (pec : Byte) (rise : Nat) :
    Statement (.twTransferDone n nak rx pec rise) :=
  fun _ _ h w => decide_eq_true (Nat.lt_of_lt_of_le (of_decide_eq_true w) (Nat.mul_le_mul_left _ h))

theorem Sys2Proof.Laws.CommandFamily.busTimeout (n : Nat) (sda : Bool) : Statement (.busTimeout n sda) :=
  fun _ _ h w => decide_eq_true (Nat.lt_of_lt_of_le (of_decide_eq_true w) (Nat.mul_le_mul_left _ h))

theorem Sys2Proof.Laws.CommandFamily.busRecoveryDone (n : Nat) (isFree : Bool) : Statement (.busRecoveryDone n isFree) :=
  fun _ _ h w => decide_eq_true (Nat.lt_of_lt_of_le (of_decide_eq_true w) (Nat.mul_le_mul_left _ h))

theorem Sys2Proof.Laws.CommandFamily.spiTransferDone (n : Nat) (rx : List Byte) : Statement (.spiTransferDone n rx) :=
  fun _ _ h w => decide_eq_true (Nat.lt_of_lt_of_le (of_decide_eq_true w) (Nat.mul_le_mul_left _ h))

theorem Sys2Proof.Laws.CommandFamily.uartIdleGap (n : Nat) : Statement (.uartIdleGap n) :=
  fun _ _ h w => decide_eq_true (Nat.lt_of_lt_of_le (of_decide_eq_true w) (Nat.mul_le_mul_left _ h))

theorem Sys2Proof.Laws.CommandFamily.uartTransferDone (n : Nat) (rx : List Byte) (err : Nat) (lag : Nat) (bins : Nat) :
    Statement (.uartTransferDone n rx err lag bins) :=
  fun _ _ h w => decide_eq_true (Nat.lt_of_lt_of_le (of_decide_eq_true w) (Nat.mul_le_mul_left _ h))

theorem Sys2Proof.Laws.CommandFamily.svcStatus : Statement .svcStatus :=
  fun _ _ _ h => h

theorem Sys2Proof.Laws.CommandFamily.svcResult : Statement .svcResult :=
  fun _ _ _ h => h

theorem Sys2Proof.Laws.CommandFamily.svcObjRead (data : List Byte) (pec : Option Byte) : Statement (.svcObjRead data pec) :=
  fun _ _ _ h => h

theorem Sys2Proof.Laws.CommandFamily.svcObjWrite (data : List Byte) (pec : Option Byte) : Statement (.svcObjWrite data pec) :=
  fun _ _ _ h => h

theorem Sys2Proof.Laws.CommandFamily.svcSession (data : List Byte) (pec : Option Byte) : Statement (.svcSession data pec) :=
  fun _ _ _ h => h

theorem Sys2Proof.Laws.CommandFamily.svcRecords : Statement .svcRecords :=
  fun _ _ _ h => h

theorem Sys2Proof.Laws.CommandFamily.svcRecordsAck (seq : Byte) (pec : Option Byte) : Statement (.svcRecordsAck seq pec) :=
  fun _ _ _ h => h

theorem Sys2Proof.Laws.CommandFamily.svcUnknownCommand : Statement .svcUnknownCommand :=
  fun _ _ _ h => h

theorem Sys2Proof.Laws.CommandFamily.svcSclTimeout (midRequest : Bool) : Statement (.svcSclTimeout midRequest) :=
  fun _ _ _ h => h

theorem Sys2Proof.Laws.CommandFamily.svcAddressWake : Statement .svcAddressWake :=
  fun _ _ _ h => h

theorem Sys2Proof.Laws.CommandFamily.stewardServeRequest : Statement .stewardServeRequest :=
  fun _ _ _ h => h

theorem Sys2Proof.Laws.CommandFamily.adcConversionDone (n : Nat) (raw : Int) (outside : Bool) (lag : Nat) (bins : Nat) :
    Statement (.adcConversionDone n raw outside lag bins) := by
  intro a b h w
  have w : (n < 12 * a && decide (-32768 ≤ raw ∧ raw ≤ 32767)) = true := w
  show (n < 12 * b && decide (-32768 ≤ raw ∧ raw ≤ 32767)) = true
  simp only [Bool.and_eq_true, decide_eq_true_eq] at w ⊢
  omega

theorem Sys2Proof.Laws.CommandFamily.rangeSettled (n : Nat) : Statement (.rangeSettled n) :=
  fun _ _ h w => decide_eq_true (Nat.lt_of_lt_of_le (of_decide_eq_true w) (Nat.mul_le_mul_left _ h))

theorem Sys2Proof.Laws.CommandFamily.anaOperationDone (n : Nat) : Statement (.anaOperationDone n) :=
  fun _ _ h w => decide_eq_true (Nat.lt_of_lt_of_le (of_decide_eq_true w) (Nat.mul_le_mul_left _ h))

theorem Sys2Proof.Laws.CommandFamily.codeBurstDone (n : Nat) (isOpen : Bool) (noreg : Bool) :
    Statement (.codeBurstDone n isOpen noreg) :=
  fun _ _ h w => decide_eq_true (Nat.lt_of_lt_of_le (of_decide_eq_true w) (Nat.mul_le_mul_left _ h))

theorem Sys2Proof.Laws.CommandFamily.singleSlopeEnd (n : Nat) (elapsed : Nat) (rampEnd : Bool) (atMax : Bool) :
    Statement (.singleSlopeEnd n elapsed rampEnd atMax) :=
  fun _ _ h w => decide_eq_true (Nat.lt_of_lt_of_le (of_decide_eq_true w) (Nat.mul_le_mul_left _ h))

theorem Sys2Proof.Laws.CommandFamily.comparatorEdge (n : Nat) (j : Nat) (tripped : Bool) (bins : Nat) :
    Statement (.comparatorEdge n j tripped bins) := by
  intro a b h w
  have w : (n < 12 * a && j ≤ 1) = true := w
  show (n < 12 * b && j ≤ 1) = true
  simp only [Bool.and_eq_true, decide_eq_true_eq] at w ⊢
  omega

theorem Sys2Proof.Laws.CommandFamily.majoritySample (n : Nat) (j : Nat) : Statement (.majoritySample n j) := by
  intro a b h w
  have w : (n < 12 * a && j ≤ 2) = true := w
  show (n < 12 * b && j ≤ 2) = true
  simp only [Bool.and_eq_true, decide_eq_true_eq] at w ⊢
  omega

theorem Sys2Proof.Laws.CommandFamily.tripFilterExpiry (n : Nat) (j : Nat) : Statement (.tripFilterExpiry n j) := by
  intro a b h w
  have w : (n < 12 * a && j ≤ 2) = true := w
  show (n < 12 * b && j ≤ 2) = true
  simp only [Bool.and_eq_true, decide_eq_true_eq] at w ⊢
  omega

theorem Sys2Proof.Laws.CommandFamily.cmpLatchClear (n : Nat) (mask : Nat) : Statement (.cmpLatchClear n mask) :=
  fun _ _ h w => decide_eq_true (Nat.lt_of_lt_of_le (of_decide_eq_true w) (Nat.mul_le_mul_left _ h))

theorem Sys2Proof.Laws.CommandFamily.cmpDacWrite (n : Nat) (value : Word) : Statement (.cmpDacWrite n value) :=
  fun _ _ h w => decide_eq_true (Nat.lt_of_lt_of_le (of_decide_eq_true w) (Nat.mul_le_mul_left _ h))

theorem Sys2Proof.Laws.CommandFamily.pgStart (n : Nat) (g : Nat) : Statement (.pgStart n g) := by
  intro a b h w
  have w : (n < 12 * a && g ≤ 1) = true := w
  show (n < 12 * b && g ≤ 1) = true
  simp only [Bool.and_eq_true, decide_eq_true_eq] at w ⊢
  omega

theorem Sys2Proof.Laws.CommandFamily.pgStop (n : Nat) (g : Nat) : Statement (.pgStop n g) := by
  intro a b h w
  have w : (n < 12 * a && g ≤ 1) = true := w
  show (n < 12 * b && g ≤ 1) = true
  simp only [Bool.and_eq_true, decide_eq_true_eq] at w ⊢
  omega

theorem Sys2Proof.Laws.CommandFamily.pgPeriodStart (n : Nat) (g : Nat) : Statement (.pgPeriodStart n g) := by
  intro a b h w
  have w : (n < 12 * a && g ≤ 1) = true := w
  show (n < 12 * b && g ≤ 1) = true
  simp only [Bool.and_eq_true, decide_eq_true_eq] at w ⊢
  omega

theorem Sys2Proof.Laws.CommandFamily.pgPulseEnd (n : Nat) (g : Nat) : Statement (.pgPulseEnd n g) := by
  intro a b h w
  have w : (n < 12 * a && g ≤ 1) = true := w
  show (n < 12 * b && g ≤ 1) = true
  simp only [Bool.and_eq_true, decide_eq_true_eq] at w ⊢
  omega

theorem Sys2Proof.Laws.CommandFamily.pgTrip (n : Nat) (g : Nat) : Statement (.pgTrip n g) := by
  intro a b h w
  have w : (n < 12 * a && g ≤ 1) = true := w
  show (n < 12 * b && g ≤ 1) = true
  simp only [Bool.and_eq_true, decide_eq_true_eq] at w ⊢
  omega

theorem Sys2Proof.Laws.CommandFamily.pgHeldClear (n : Nat) (g : Nat) : Statement (.pgHeldClear n g) := by
  intro a b h w
  have w : (n < 12 * a && g ≤ 1) = true := w
  show (n < 12 * b && g ≤ 1) = true
  simp only [Bool.and_eq_true, decide_eq_true_eq] at w ⊢
  omega

theorem Sys2Proof.Laws.CommandFamily.contextLaunch (d : Nat) (entry : Nat) : Statement (.contextLaunch d entry) :=
  fun _ _ h w => decide_eq_true (Nat.lt_of_lt_of_le (of_decide_eq_true w) h)

theorem Sys2Proof.Laws.CommandFamily.contextDispatch (e : Nat) : Statement (.contextDispatch e) :=
  fun _ _ h w => decide_eq_true (Nat.lt_of_lt_of_le (of_decide_eq_true w) (Nat.mul_le_mul_left _ h))

theorem Sys2Proof.Laws.CommandFamily.add (e : Nat) (rd : BitVec 4) (ra : BitVec 4) (rb : BitVec 4) : Statement (.add e rd ra rb) :=
  fun _ _ h w => decide_eq_true (Nat.lt_of_lt_of_le (of_decide_eq_true w) (Nat.mul_le_mul_left _ h))

theorem Sys2Proof.Laws.CommandFamily.sub (e : Nat) (rd : BitVec 4) (ra : BitVec 4) (rb : BitVec 4) : Statement (.sub e rd ra rb) :=
  fun _ _ h w => decide_eq_true (Nat.lt_of_lt_of_le (of_decide_eq_true w) (Nat.mul_le_mul_left _ h))

theorem Sys2Proof.Laws.CommandFamily.and (e : Nat) (rd : BitVec 4) (ra : BitVec 4) (rb : BitVec 4) : Statement (.and e rd ra rb) :=
  fun _ _ h w => decide_eq_true (Nat.lt_of_lt_of_le (of_decide_eq_true w) (Nat.mul_le_mul_left _ h))

theorem Sys2Proof.Laws.CommandFamily.or (e : Nat) (rd : BitVec 4) (ra : BitVec 4) (rb : BitVec 4) : Statement (.or e rd ra rb) :=
  fun _ _ h w => decide_eq_true (Nat.lt_of_lt_of_le (of_decide_eq_true w) (Nat.mul_le_mul_left _ h))

theorem Sys2Proof.Laws.CommandFamily.xor (e : Nat) (rd : BitVec 4) (ra : BitVec 4) (rb : BitVec 4) : Statement (.xor e rd ra rb) :=
  fun _ _ h w => decide_eq_true (Nat.lt_of_lt_of_le (of_decide_eq_true w) (Nat.mul_le_mul_left _ h))

theorem Sys2Proof.Laws.CommandFamily.shl (e : Nat) (rd : BitVec 4) (ra : BitVec 4) (rb : BitVec 4) : Statement (.shl e rd ra rb) :=
  fun _ _ h w => decide_eq_true (Nat.lt_of_lt_of_le (of_decide_eq_true w) (Nat.mul_le_mul_left _ h))

theorem Sys2Proof.Laws.CommandFamily.shr (e : Nat) (rd : BitVec 4) (ra : BitVec 4) (rb : BitVec 4) : Statement (.shr e rd ra rb) :=
  fun _ _ h w => decide_eq_true (Nat.lt_of_lt_of_le (of_decide_eq_true w) (Nat.mul_le_mul_left _ h))

theorem Sys2Proof.Laws.CommandFamily.sar (e : Nat) (rd : BitVec 4) (ra : BitVec 4) (rb : BitVec 4) : Statement (.sar e rd ra rb) :=
  fun _ _ h w => decide_eq_true (Nat.lt_of_lt_of_le (of_decide_eq_true w) (Nat.mul_le_mul_left _ h))

theorem Sys2Proof.Laws.CommandFamily.adds (e : Nat) (rd : BitVec 4) (ra : BitVec 4) (rb : BitVec 4) :
    Statement (.adds e rd ra rb) :=
  fun _ _ h w => decide_eq_true (Nat.lt_of_lt_of_le (of_decide_eq_true w) (Nat.mul_le_mul_left _ h))

theorem Sys2Proof.Laws.CommandFamily.subs (e : Nat) (rd : BitVec 4) (ra : BitVec 4) (rb : BitVec 4) :
    Statement (.subs e rd ra rb) :=
  fun _ _ h w => decide_eq_true (Nat.lt_of_lt_of_le (of_decide_eq_true w) (Nat.mul_le_mul_left _ h))

theorem Sys2Proof.Laws.CommandFamily.mul (e : Nat) (rd : BitVec 4) (ra : BitVec 4) (rb : BitVec 4) : Statement (.mul e rd ra rb) :=
  fun _ _ h w => decide_eq_true (Nat.lt_of_lt_of_le (of_decide_eq_true w) (Nat.mul_le_mul_left _ h))

theorem Sys2Proof.Laws.CommandFamily.mulh (e : Nat) (rd : BitVec 4) (ra : BitVec 4) (rb : BitVec 4) :
    Statement (.mulh e rd ra rb) :=
  fun _ _ h w => decide_eq_true (Nat.lt_of_lt_of_le (of_decide_eq_true w) (Nat.mul_le_mul_left _ h))

theorem Sys2Proof.Laws.CommandFamily.mulhu (e : Nat) (rd : BitVec 4) (ra : BitVec 4) (rb : BitVec 4) :
    Statement (.mulhu e rd ra rb) :=
  fun _ _ h w => decide_eq_true (Nat.lt_of_lt_of_le (of_decide_eq_true w) (Nat.mul_le_mul_left _ h))

theorem Sys2Proof.Laws.CommandFamily.mulq (e : Nat) (rd : BitVec 4) (ra : BitVec 4) (rb : BitVec 4) :
    Statement (.mulq e rd ra rb) :=
  fun _ _ h w => decide_eq_true (Nat.lt_of_lt_of_le (of_decide_eq_true w) (Nat.mul_le_mul_left _ h))

theorem Sys2Proof.Laws.CommandFamily.min (e : Nat) (rd : BitVec 4) (ra : BitVec 4) (rb : BitVec 4) : Statement (.min e rd ra rb) :=
  fun _ _ h w => decide_eq_true (Nat.lt_of_lt_of_le (of_decide_eq_true w) (Nat.mul_le_mul_left _ h))

theorem Sys2Proof.Laws.CommandFamily.max (e : Nat) (rd : BitVec 4) (ra : BitVec 4) (rb : BitVec 4) : Statement (.max e rd ra rb) :=
  fun _ _ h w => decide_eq_true (Nat.lt_of_lt_of_le (of_decide_eq_true w) (Nat.mul_le_mul_left _ h))

theorem Sys2Proof.Laws.CommandFamily.minu (e : Nat) (rd : BitVec 4) (ra : BitVec 4) (rb : BitVec 4) :
    Statement (.minu e rd ra rb) :=
  fun _ _ h w => decide_eq_true (Nat.lt_of_lt_of_le (of_decide_eq_true w) (Nat.mul_le_mul_left _ h))

theorem Sys2Proof.Laws.CommandFamily.maxu (e : Nat) (rd : BitVec 4) (ra : BitVec 4) (rb : BitVec 4) :
    Statement (.maxu e rd ra rb) :=
  fun _ _ h w => decide_eq_true (Nat.lt_of_lt_of_le (of_decide_eq_true w) (Nat.mul_le_mul_left _ h))

theorem Sys2Proof.Laws.CommandFamily.abs (e : Nat) (rd : BitVec 4) (ra : BitVec 4) : Statement (.abs e rd ra) :=
  fun _ _ h w => decide_eq_true (Nat.lt_of_lt_of_le (of_decide_eq_true w) (Nat.mul_le_mul_left _ h))

theorem Sys2Proof.Laws.CommandFamily.addi (e : Nat) (rd : BitVec 4) (ra : BitVec 4) (imm : BitVec 18) :
    Statement (.addi e rd ra imm) :=
  fun _ _ h w => decide_eq_true (Nat.lt_of_lt_of_le (of_decide_eq_true w) (Nat.mul_le_mul_left _ h))

theorem Sys2Proof.Laws.CommandFamily.andi (e : Nat) (rd : BitVec 4) (ra : BitVec 4) (imm : BitVec 18) :
    Statement (.andi e rd ra imm) :=
  fun _ _ h w => decide_eq_true (Nat.lt_of_lt_of_le (of_decide_eq_true w) (Nat.mul_le_mul_left _ h))

theorem Sys2Proof.Laws.CommandFamily.ori (e : Nat) (rd : BitVec 4) (ra : BitVec 4) (imm : BitVec 18) :
    Statement (.ori e rd ra imm) :=
  fun _ _ h w => decide_eq_true (Nat.lt_of_lt_of_le (of_decide_eq_true w) (Nat.mul_le_mul_left _ h))

theorem Sys2Proof.Laws.CommandFamily.xori (e : Nat) (rd : BitVec 4) (ra : BitVec 4) (imm : BitVec 18) :
    Statement (.xori e rd ra imm) :=
  fun _ _ h w => decide_eq_true (Nat.lt_of_lt_of_le (of_decide_eq_true w) (Nat.mul_le_mul_left _ h))

theorem Sys2Proof.Laws.CommandFamily.shli (e : Nat) (rd : BitVec 4) (ra : BitVec 4) (n : BitVec 5) : Statement (.shli e rd ra n) :=
  fun _ _ h w => decide_eq_true (Nat.lt_of_lt_of_le (of_decide_eq_true w) (Nat.mul_le_mul_left _ h))

theorem Sys2Proof.Laws.CommandFamily.shri (e : Nat) (rd : BitVec 4) (ra : BitVec 4) (n : BitVec 5) : Statement (.shri e rd ra n) :=
  fun _ _ h w => decide_eq_true (Nat.lt_of_lt_of_le (of_decide_eq_true w) (Nat.mul_le_mul_left _ h))

theorem Sys2Proof.Laws.CommandFamily.sari (e : Nat) (rd : BitVec 4) (ra : BitVec 4) (n : BitVec 5) : Statement (.sari e rd ra n) :=
  fun _ _ h w => decide_eq_true (Nat.lt_of_lt_of_le (of_decide_eq_true w) (Nat.mul_le_mul_left _ h))

theorem Sys2Proof.Laws.CommandFamily.lui (e : Nat) (rd : BitVec 4) (imm : BitVec 18) : Statement (.lui e rd imm) :=
  fun _ _ h w => decide_eq_true (Nat.lt_of_lt_of_le (of_decide_eq_true w) (Nat.mul_le_mul_left _ h))

theorem Sys2Proof.Laws.CommandFamily.cmpi (e : Nat) (ra : BitVec 4) (imm : BitVec 18) : Statement (.cmpi e ra imm) :=
  fun _ _ h w => decide_eq_true (Nat.lt_of_lt_of_le (of_decide_eq_true w) (Nat.mul_le_mul_left _ h))

theorem Sys2Proof.Laws.CommandFamily.addsi (e : Nat) (rd : BitVec 4) (ra : BitVec 4) (imm : BitVec 18) :
    Statement (.addsi e rd ra imm) :=
  fun _ _ h w => decide_eq_true (Nat.lt_of_lt_of_le (of_decide_eq_true w) (Nat.mul_le_mul_left _ h))

theorem Sys2Proof.Laws.CommandFamily.lw (e : Nat) (rd : BitVec 4) (ra : BitVec 4) (imm : BitVec 18) :
    Statement (.lw e rd ra imm) :=
  fun _ _ h w => decide_eq_true (Nat.lt_of_lt_of_le (of_decide_eq_true w) (Nat.mul_le_mul_left _ h))

theorem Sys2Proof.Laws.CommandFamily.lh (e : Nat) (rd : BitVec 4) (ra : BitVec 4) (imm : BitVec 18) :
    Statement (.lh e rd ra imm) :=
  fun _ _ h w => decide_eq_true (Nat.lt_of_lt_of_le (of_decide_eq_true w) (Nat.mul_le_mul_left _ h))

theorem Sys2Proof.Laws.CommandFamily.lhu (e : Nat) (rd : BitVec 4) (ra : BitVec 4) (imm : BitVec 18) :
    Statement (.lhu e rd ra imm) :=
  fun _ _ h w => decide_eq_true (Nat.lt_of_lt_of_le (of_decide_eq_true w) (Nat.mul_le_mul_left _ h))

theorem Sys2Proof.Laws.CommandFamily.lb (e : Nat) (rd : BitVec 4) (ra : BitVec 4) (imm : BitVec 18) :
    Statement (.lb e rd ra imm) :=
  fun _ _ h w => decide_eq_true (Nat.lt_of_lt_of_le (of_decide_eq_true w) (Nat.mul_le_mul_left _ h))

theorem Sys2Proof.Laws.CommandFamily.lbu (e : Nat) (rd : BitVec 4) (ra : BitVec 4) (imm : BitVec 18) :
    Statement (.lbu e rd ra imm) :=
  fun _ _ h w => decide_eq_true (Nat.lt_of_lt_of_le (of_decide_eq_true w) (Nat.mul_le_mul_left _ h))

theorem Sys2Proof.Laws.CommandFamily.sw (e : Nat) (rd : BitVec 4) (ra : BitVec 4) (imm : BitVec 18) :
    Statement (.sw e rd ra imm) :=
  fun _ _ h w => decide_eq_true (Nat.lt_of_lt_of_le (of_decide_eq_true w) (Nat.mul_le_mul_left _ h))

theorem Sys2Proof.Laws.CommandFamily.sh (e : Nat) (rd : BitVec 4) (ra : BitVec 4) (imm : BitVec 18) :
    Statement (.sh e rd ra imm) :=
  fun _ _ h w => decide_eq_true (Nat.lt_of_lt_of_le (of_decide_eq_true w) (Nat.mul_le_mul_left _ h))

theorem Sys2Proof.Laws.CommandFamily.sb (e : Nat) (rd : BitVec 4) (ra : BitVec 4) (imm : BitVec 18) :
    Statement (.sb e rd ra imm) :=
  fun _ _ h w => decide_eq_true (Nat.lt_of_lt_of_le (of_decide_eq_true w) (Nat.mul_le_mul_left _ h))

theorem Sys2Proof.Laws.CommandFamily.ioIn (e : Nat) (rd : BitVec 4) (ra : BitVec 4) (imm : BitVec 18) :
    Statement (.ioIn e rd ra imm) :=
  fun _ _ h w => decide_eq_true (Nat.lt_of_lt_of_le (of_decide_eq_true w) (Nat.mul_le_mul_left _ h))

theorem Sys2Proof.Laws.CommandFamily.ioOut (e : Nat) (rd : BitVec 4) (ra : BitVec 4) (imm : BitVec 18) :
    Statement (.ioOut e rd ra imm) :=
  fun _ _ h w => decide_eq_true (Nat.lt_of_lt_of_le (of_decide_eq_true w) (Nat.mul_le_mul_left _ h))

theorem Sys2Proof.Laws.CommandFamily.pairWordWrite (e : Nat) (value : Word) : Statement (.pairWordWrite e value) :=
  fun _ _ h w => decide_eq_true (Nat.lt_of_lt_of_le (of_decide_eq_true w) (Nat.mul_le_mul_left _ h))

theorem Sys2Proof.Laws.CommandFamily.registerWrite (e : Nat) (addr : Nat) (value : Word) :
    Statement (.registerWrite e addr value) :=
  fun _ _ h w => decide_eq_true (Nat.lt_of_lt_of_le (of_decide_eq_true w) (Nat.mul_le_mul_left _ h))

theorem Sys2Proof.Laws.CommandFamily.branch (e : Nat) (cond : BitVec 4) (tgt : BitVec 10) : Statement (.branch e cond tgt) := by
  intro a b h w
  have w : (e < 24 * a && cond.toNat ≤ 12) = true := w
  show (e < 24 * b && cond.toNat ≤ 12) = true
  simp only [Bool.and_eq_true, decide_eq_true_eq] at w ⊢
  omega

theorem Sys2Proof.Laws.CommandFamily.jal (e : Nat) (rd : BitVec 4) (tgt : BitVec 10) : Statement (.jal e rd tgt) :=
  fun _ _ h w => decide_eq_true (Nat.lt_of_lt_of_le (of_decide_eq_true w) (Nat.mul_le_mul_left _ h))

theorem Sys2Proof.Laws.CommandFamily.jr (e : Nat) (ra : BitVec 4) : Statement (.jr e ra) :=
  fun _ _ h w => decide_eq_true (Nat.lt_of_lt_of_le (of_decide_eq_true w) (Nat.mul_le_mul_left _ h))

theorem Sys2Proof.Laws.CommandFamily.issueTw (e : Nat) (rd : BitVec 4) (rh : BitVec 4) (ra : BitVec 4) (doff : BitVec 8) :
    Statement (.issueTw e rd rh ra doff) :=
  fun _ _ h w => decide_eq_true (Nat.lt_of_lt_of_le (of_decide_eq_true w) (Nat.mul_le_mul_left _ h))

theorem Sys2Proof.Laws.CommandFamily.issueSpi (e : Nat) (rd : BitVec 4) (rh : BitVec 4) (ra : BitVec 4) (doff : BitVec 8) :
    Statement (.issueSpi e rd rh ra doff) :=
  fun _ _ h w => decide_eq_true (Nat.lt_of_lt_of_le (of_decide_eq_true w) (Nat.mul_le_mul_left _ h))

theorem Sys2Proof.Laws.CommandFamily.issueUart (e : Nat) (rd : BitVec 4) (rh : BitVec 4) (ra : BitVec 4) (doff : BitVec 8) :
    Statement (.issueUart e rd rh ra doff) :=
  fun _ _ h w => decide_eq_true (Nat.lt_of_lt_of_le (of_decide_eq_true w) (Nat.mul_le_mul_left _ h))

theorem Sys2Proof.Laws.CommandFamily.issueAna (e : Nat) (rd : BitVec 4) (rh : BitVec 4) (ra : BitVec 4) (doff : BitVec 8) :
    Statement (.issueAna e rd rh ra doff) :=
  fun _ _ h w => decide_eq_true (Nat.lt_of_lt_of_le (of_decide_eq_true w) (Nat.mul_le_mul_left _ h))

theorem Sys2Proof.Laws.CommandFamily.issuePulse (e : Nat) (rd : BitVec 4) (rh : BitVec 4) : Statement (.issuePulse e rd rh) :=
  fun _ _ h w => decide_eq_true (Nat.lt_of_lt_of_le (of_decide_eq_true w) (Nat.mul_le_mul_left _ h))

theorem Sys2Proof.Laws.CommandFamily.transactionSlotFree (d : Nat) : Statement (.transactionSlotFree d) :=
  fun _ _ h w => decide_eq_true (Nat.lt_of_lt_of_le (of_decide_eq_true w) h)

theorem Sys2Proof.Laws.CommandFamily.stampRead (e : Nat) (rd : BitVec 4) (ra : BitVec 4) : Statement (.stampRead e rd ra) :=
  fun _ _ h w => decide_eq_true (Nat.lt_of_lt_of_le (of_decide_eq_true w) (Nat.mul_le_mul_left _ h))

theorem Sys2Proof.Laws.CommandFamily.emit (e : Nat) (rs : BitVec 4) (ra : BitVec 4) (n : BitVec 4) : Statement (.emit e rs ra n) :=
  fun _ _ h w => decide_eq_true (Nat.lt_of_lt_of_le (of_decide_eq_true w) (Nat.mul_le_mul_left _ h))

theorem Sys2Proof.Laws.CommandFamily.emitS (e : Nat) (rs : BitVec 4) (ra : BitVec 4) (n : BitVec 4) :
    Statement (.emitS e rs ra n) :=
  fun _ _ h w => decide_eq_true (Nat.lt_of_lt_of_le (of_decide_eq_true w) (Nat.mul_le_mul_left _ h))

theorem Sys2Proof.Laws.CommandFamily.millSubmit (e : Nat) (rc : BitVec 4) (ra : BitVec 4) (rb : BitVec 4) :
    Statement (.millSubmit e rc ra rb) :=
  fun _ _ h w => decide_eq_true (Nat.lt_of_lt_of_le (of_decide_eq_true w) (Nat.mul_le_mul_left _ h))

theorem Sys2Proof.Laws.CommandFamily.sieveOffer (e : Nat) (rr : BitVec 4) (ra : BitVec 4) : Statement (.sieveOffer e rr ra) :=
  fun _ _ h w => decide_eq_true (Nat.lt_of_lt_of_le (of_decide_eq_true w) (Nat.mul_le_mul_left _ h))

theorem Sys2Proof.Laws.CommandFamily.signalLow (e : Nat) (ra : BitVec 4) : Statement (.signalLow e ra) :=
  fun _ _ h w => decide_eq_true (Nat.lt_of_lt_of_le (of_decide_eq_true w) (Nat.mul_le_mul_left _ h))

theorem Sys2Proof.Laws.CommandFamily.signalHigh (e : Nat) (ra : BitVec 4) : Statement (.signalHigh e ra) :=
  fun _ _ h w => decide_eq_true (Nat.lt_of_lt_of_le (of_decide_eq_true w) (Nat.mul_le_mul_left _ h))

theorem Sys2Proof.Laws.CommandFamily.signalPulse (e : Nat) (ra : BitVec 4) : Statement (.signalPulse e ra) :=
  fun _ _ h w => decide_eq_true (Nat.lt_of_lt_of_le (of_decide_eq_true w) (Nat.mul_le_mul_left _ h))

theorem Sys2Proof.Laws.CommandFamily.awaitComp (e : Nat) (rd : BitVec 4) (ra : BitVec 4) : Statement (.awaitComp e rd ra) :=
  fun _ _ h w => decide_eq_true (Nat.lt_of_lt_of_le (of_decide_eq_true w) (Nat.mul_le_mul_left _ h))

theorem Sys2Proof.Laws.CommandFamily.awaitEdge (e : Nat) (rd : BitVec 4) (ra : BitVec 4) (pin : BitVec 2) (edge : BitVec 2) :
    Statement (.awaitEdge e rd ra pin edge) := by
  intro a b h w
  have w : (e < 24 * a && edge != 0) = true := w
  show (e < 24 * b && edge != 0) = true
  simp only [Bool.and_eq_true, decide_eq_true_eq] at w ⊢
  exact ⟨by omega, w.2⟩

theorem Sys2Proof.Laws.CommandFamily.awaitTime (e : Nat) (rd : BitVec 4) (ra : BitVec 4) (units : BitVec 16) :
    Statement (.awaitTime e rd ra units) :=
  fun _ _ h w => decide_eq_true (Nat.lt_of_lt_of_le (of_decide_eq_true w) (Nat.mul_le_mul_left _ h))

theorem Sys2Proof.Laws.CommandFamily.awaitLine (e : Nat) (rd : BitVec 4) (ra : BitVec 4) (rise : Bool) :
    Statement (.awaitLine e rd ra rise) :=
  fun _ _ h w => decide_eq_true (Nat.lt_of_lt_of_le (of_decide_eq_true w) (Nat.mul_le_mul_left _ h))

theorem Sys2Proof.Laws.CommandFamily.awaitResume (e : Nat) (c : Nat) : Statement (.awaitResume e c) :=
  fun _ _ h w => decide_eq_true (Nat.lt_of_lt_of_le (of_decide_eq_true w) (Nat.mul_le_mul_left _ h))

theorem Sys2Proof.Laws.CommandFamily.yield (e : Nat) : Statement (.yield e) :=
  fun _ _ h w => decide_eq_true (Nat.lt_of_lt_of_le (of_decide_eq_true w) (Nat.mul_le_mul_left _ h))

theorem Sys2Proof.Laws.CommandFamily.trap (e : Nat) (code : BitVec 8) : Statement (.trap e code) :=
  fun _ _ h w => decide_eq_true (Nat.lt_of_lt_of_le (of_decide_eq_true w) (Nat.mul_le_mul_left _ h))

theorem Sys2Proof.Laws.CommandFamily.reservedOpcode (e : Nat) : Statement (.reservedOpcode e) :=
  fun _ _ h w => decide_eq_true (Nat.lt_of_lt_of_le (of_decide_eq_true w) (Nat.mul_le_mul_left _ h))

theorem Sys2Proof.Laws.CommandFamily.pcend (e : Nat) : Statement (.pcend e) :=
  fun _ _ h w => decide_eq_true (Nat.lt_of_lt_of_le (of_decide_eq_true w) (Nat.mul_le_mul_left _ h))

theorem Sys2Proof.Laws.CommandFamily.frameBegin (d : Nat) : Statement (.frameBegin d) :=
  fun _ _ h w => decide_eq_true (Nat.lt_of_lt_of_le (of_decide_eq_true w) h)

theorem Sys2Proof.Laws.CommandFamily.entryNominalInstant (d : Nat) (entry : Nat) : Statement (.entryNominalInstant d entry) :=
  fun _ _ h w => decide_eq_true (Nat.lt_of_lt_of_le (of_decide_eq_true w) h)

theorem Sys2Proof.Laws.CommandFamily.windowEnd (d : Nat) (entry : Nat) : Statement (.windowEnd d entry) :=
  fun _ _ h w => decide_eq_true (Nat.lt_of_lt_of_le (of_decide_eq_true w) h)

theorem Sys2Proof.Laws.CommandFamily.nextImageWrite (d : Nat) (p : Nat) (session : Nat) (image : List Byte) :
    Statement (.nextImageWrite d p session image) := by
  intro a b h w
  have w : (d < a && p < 16) = true := w
  show (d < b && p < 16) = true
  simp only [Bool.and_eq_true, decide_eq_true_eq] at w ⊢
  omega

theorem Sys2Proof.Laws.CommandFamily.millOutputComputed (c : Nat) : Statement (.millOutputComputed c) :=
  fun _ _ h w => decide_eq_true (Nat.lt_of_lt_of_le (of_decide_eq_true w) (Nat.mul_le_mul_left _ h))

theorem Sys2Proof.Laws.CommandFamily.millSlot (c : Nat) : Statement (.millSlot c) :=
  fun _ _ h w => decide_eq_true (Nat.lt_of_lt_of_le (of_decide_eq_true w) (Nat.mul_le_mul_left _ h))

theorem Sys2Proof.Laws.CommandFamily.millRound (d : Nat) : Statement (.millRound d) :=
  fun _ _ h w => decide_eq_true (Nat.lt_of_lt_of_le (of_decide_eq_true w) h)

theorem Sys2Proof.Laws.CommandFamily.sieveOfferEval (d : Nat) : Statement (.sieveOfferEval d) :=
  fun _ _ h w => decide_eq_true (Nat.lt_of_lt_of_le (of_decide_eq_true w) h)

theorem Sys2Proof.Laws.CommandFamily.sieveTimerExpiry (r : Nat) : Statement (.sieveTimerExpiry r) :=
  fun _ _ h w => decide_eq_true (Nat.lt_of_lt_of_le (of_decide_eq_true w) (Nat.mul_le_mul_left _ h))

theorem Sys2Proof.Laws.CommandFamily.sieveSilenceExpiry (r : Nat) : Statement (.sieveSilenceExpiry r) :=
  fun _ _ h w => decide_eq_true (Nat.lt_of_lt_of_le (of_decide_eq_true w) (Nat.mul_le_mul_left _ h))

theorem Sys2Proof.Laws.CommandFamily.maxAgeExpiry (k : Nat) : Statement (.maxAgeExpiry k) :=
  fun _ _ h w => decide_eq_true (Nat.lt_of_lt_of_le (of_decide_eq_true w) (Nat.mul_le_mul_left _ h))

theorem Sys2Proof.Laws.CommandFamily.batchAssemble (p : Nat) : Statement (.batchAssemble p) :=
  fun _ _ _ h => h

theorem Sys2Proof.Laws.CommandFamily.crierWake (p : Nat) : Statement (.crierWake p) :=
  fun _ _ _ h => h

theorem Sys2Proof.Laws.CommandFamily.wakeHoldExpiry : Statement .wakeHoldExpiry :=
  fun _ _ _ h => h

theorem Sys2Proof.Laws.CommandFamily.wakeRetryExpiry (p : Nat) : Statement (.wakeRetryExpiry p) :=
  fun _ _ _ h => h

theorem Sys2Proof.Laws.CommandFamily.logFlushExpiry (d : Nat) (p : Nat) : Statement (.logFlushExpiry d p) :=
  fun _ _ h w => decide_eq_true (Nat.lt_of_lt_of_le (of_decide_eq_true w) h)

theorem Sys2Proof.Laws.CommandFamily.nvPageWriteDone (d : Nat) (p : Nat) (retries : Nat) (ok : Bool) :
    Statement (.nvPageWriteDone d p retries ok) :=
  fun _ _ h w => decide_eq_true (Nat.lt_of_lt_of_le (of_decide_eq_true w) h)

theorem Sys2Proof.Laws.CommandFamily.logTrigger (p : Nat) : Statement (.logTrigger p) :=
  fun _ _ _ h => h

theorem Sys2Proof.Laws.CommandFamily.captureStart (d : Nat) (p : Nat) : Statement (.captureStart d p) :=
  fun _ _ h w => decide_eq_true (Nat.lt_of_lt_of_le (of_decide_eq_true w) h)

theorem Sys2Proof.Laws.CommandFamily.captureEnd (d : Nat) (p : Nat) : Statement (.captureEnd d p) :=
  fun _ _ h w => decide_eq_true (Nat.lt_of_lt_of_le (of_decide_eq_true w) h)

theorem Sys2Proof.Laws.CommandFamily.wearLevelCheck (d : Nat) : Statement (.wearLevelCheck d) :=
  fun _ _ h w => decide_eq_true (Nat.lt_of_lt_of_le (of_decide_eq_true w) h)

theorem Sys2Proof.Laws.CommandFamily.nvScanDone (d : Nat) : Statement (.nvScanDone d) :=
  fun _ _ h w => decide_eq_true (Nat.lt_of_lt_of_le (of_decide_eq_true w) h)

theorem Sys2Proof.Laws.CommandFamily.tallyTick (t : Nat) : Statement (.tallyTick t) :=
  fun _ _ h w => decide_eq_true (Nat.lt_of_lt_of_le (of_decide_eq_true w) (Nat.mul_le_mul_left _ h))

theorem Sys2Proof.Laws.CommandFamily.tallyLinkAction (t : Nat) : Statement (.tallyLinkAction t) :=
  fun _ _ h w => decide_eq_true (Nat.lt_of_lt_of_le (of_decide_eq_true w) (Nat.mul_le_mul_left _ h))

theorem Sys2Proof.Laws.CommandFamily.tallyStart (t : Nat) : Statement (.tallyStart t) :=
  fun _ _ h w => decide_eq_true (Nat.lt_of_lt_of_le (of_decide_eq_true w) (Nat.mul_le_mul_left _ h))

theorem Sys2Proof.Laws.CommandFamily.tallyStop (t : Nat) : Statement (.tallyStop t) :=
  fun _ _ h w => decide_eq_true (Nat.lt_of_lt_of_le (of_decide_eq_true w) (Nat.mul_le_mul_left _ h))

theorem Sys2Proof.Laws.CommandFamily.tallyReset (t : Nat) : Statement (.tallyReset t) :=
  fun _ _ h w => decide_eq_true (Nat.lt_of_lt_of_le (of_decide_eq_true w) (Nat.mul_le_mul_left _ h))

theorem Sys2Proof.Laws.CommandFamily.unitStart (u : Nat) (mask : Nat) : Statement (.unitStart u mask) :=
  fun _ _ h w => decide_eq_true (Nat.lt_of_lt_of_le (of_decide_eq_true w) (Nat.mul_le_mul_left _ h))

theorem Sys2Proof.Laws.CommandFamily.unitReset (u : Nat) (mask : Nat) : Statement (.unitReset u mask) :=
  fun _ _ h w => decide_eq_true (Nat.lt_of_lt_of_le (of_decide_eq_true w) (Nat.mul_le_mul_left _ h))

theorem Sys2Proof.Laws.CommandFamily.topWrite (t : Nat) (value : Nat) : Statement (.topWrite t value) :=
  fun _ _ h w => decide_eq_true (Nat.lt_of_lt_of_le (of_decide_eq_true w) (Nat.mul_le_mul_left _ h))

theorem Sys2Proof.Laws.CommandFamily.cmpWrite (t : Nat) (value : Nat) : Statement (.cmpWrite t value) :=
  fun _ _ h w => decide_eq_true (Nat.lt_of_lt_of_le (of_decide_eq_true w) (Nat.mul_le_mul_left _ h))

theorem Sys2Proof.Laws.CommandFamily.tallyCapture (t : Nat) (rising : Bool) : Statement (.tallyCapture t rising) :=
  fun _ _ h w => decide_eq_true (Nat.lt_of_lt_of_le (of_decide_eq_true w) (Nat.mul_le_mul_left _ h))

theorem Sys2Proof.Laws.CommandFamily.tallyPairedRise (t : Nat) : Statement (.tallyPairedRise t) :=
  fun _ _ h w => decide_eq_true (Nat.lt_of_lt_of_le (of_decide_eq_true w) (Nat.mul_le_mul_left _ h))

theorem Sys2Proof.Laws.CommandFamily.tallyPairedFall (t : Nat) : Statement (.tallyPairedFall t) :=
  fun _ _ h w => decide_eq_true (Nat.lt_of_lt_of_le (of_decide_eq_true w) (Nat.mul_le_mul_left _ h))

theorem Sys2Proof.Laws.CommandFamily.matrixRowChange (d : Nat) (r : Nat) (level : Bool) : Statement (.matrixRowChange d r level) := by
  intro a b h w
  have w : (d < a && r < 80) = true := w
  show (d < b && r < 80) = true
  simp only [Bool.and_eq_true, decide_eq_true_eq] at w ⊢
  omega

theorem Sys2Proof.Laws.CommandFamily.crossDieLineFault (d : Nat) (line : Nat) (equal : Bool) :
    Statement (.crossDieLineFault d line equal) := by
  intro a b h w
  have w : (d < a && line < 16) = true := w
  show (d < b && line < 16) = true
  simp only [Bool.and_eq_true, decide_eq_true_eq] at w ⊢
  omega

theorem Sys2Proof.Laws.CommandFamily.stateReqRun (p : Nat) : Statement (.stateReqRun p) :=
  fun _ _ _ h => h

theorem Sys2Proof.Laws.CommandFamily.stateReqHalt (p : Nat) : Statement (.stateReqHalt p) :=
  fun _ _ _ h => h

theorem Sys2Proof.Laws.CommandFamily.parishStateChange (d : Nat) (p : Nat) : Statement (.parishStateChange d p) := by
  intro a b h w
  have w : (d < a && p < 16) = true := w
  show (d < b && p < 16) = true
  simp only [Bool.and_eq_true, decide_eq_true_eq] at w ⊢
  omega

theorem Sys2Proof.Laws.CommandFamily.testTimeExpiry (p : Nat) : Statement (.testTimeExpiry p) :=
  fun _ _ _ h => h

theorem Sys2Proof.Laws.CommandFamily.keyWrite (p : Nat) (session : Nat) (value : List Byte) :
    Statement (.keyWrite p session value) :=
  fun _ _ _ h => h

theorem Sys2Proof.Laws.CommandFamily.sessionOpen (f : HostFrame) : Statement (.sessionOpen f) :=
  fun _ _ _ h => h

theorem Sys2Proof.Laws.CommandFamily.sessionConfirm (f : HostFrame) : Statement (.sessionConfirm f) :=
  fun _ _ _ h => h

theorem Sys2Proof.Laws.CommandFamily.sessionClose (f : HostFrame) : Statement (.sessionClose f) :=
  fun _ _ _ h => h

theorem Sys2Proof.Laws.CommandFamily.sessionIdleExpiry (n : Nat) : Statement (.sessionIdleExpiry n) :=
  fun _ _ _ h => h

theorem Sys2Proof.Laws.CommandFamily.openBlockExpiry (p : Nat) : Statement (.openBlockExpiry p) :=
  fun _ _ _ h => h

theorem Sys2Proof.Laws.CommandFamily.armReqWrite (session : Nat) (value : Nat) (tagged : Bool) :
    Statement (.armReqWrite session value tagged) :=
  fun _ _ _ h => h

theorem Sys2Proof.Laws.CommandFamily.armWindowExpiry : Statement .armWindowExpiry :=
  fun _ _ _ h => h

theorem Sys2Proof.Laws.CommandFamily.fwImageWrite (p : Nat) (session : Nat) (image : List Byte) :
    Statement (.fwImageWrite p session image) :=
  fun _ _ _ h => h

theorem Sys2Proof.Laws.CommandFamily.fwCheckDone : Statement .fwCheckDone :=
  fun _ _ _ h => h

theorem Sys2Proof.Laws.CommandFamily.fwSwitch (p : Nat) (session : Nat) (value : Nat) : Statement (.fwSwitch p session value) :=
  fun _ _ _ h => h

theorem Sys2Proof.Laws.CommandFamily.ethFrameOther (n : Nat) : Statement (.ethFrameOther n) :=
  fun _ _ _ h => h

theorem Sys2Proof.Laws.CommandFamily.adpFrameReject (n : Nat) (fcsOk : Bool) (raw : List Byte) :
    Statement (.adpFrameReject n fcsOk raw) :=
  fun _ _ _ h => h

theorem Sys2Proof.Laws.CommandFamily.adpPing (f : HostFrame) : Statement (.adpPing f) :=
  fun _ _ _ h => h

theorem Sys2Proof.Laws.CommandFamily.adpRead (f : HostFrame) : Statement (.adpRead f) :=
  fun _ _ _ h => h

theorem Sys2Proof.Laws.CommandFamily.adpWrite (f : HostFrame) : Statement (.adpWrite f) :=
  fun _ _ _ h => h

theorem Sys2Proof.Laws.CommandFamily.adpReadBlock (f : HostFrame) : Statement (.adpReadBlock f) :=
  fun _ _ _ h => h

theorem Sys2Proof.Laws.CommandFamily.adpWriteBlock (f : HostFrame) : Statement (.adpWriteBlock f) :=
  fun _ _ _ h => h

theorem Sys2Proof.Laws.CommandFamily.blockTimeoutExpiry (k : Nat) : Statement (.blockTimeoutExpiry k) :=
  fun _ _ _ h => h

theorem Sys2Proof.Laws.CommandFamily.adpAbort (f : HostFrame) : Statement (.adpAbort f) :=
  fun _ _ _ h => h

theorem Sys2Proof.Laws.CommandFamily.adpStreamRequest (f : HostFrame) : Statement (.adpStreamRequest f) :=
  fun _ _ _ h => h

theorem Sys2Proof.Laws.CommandFamily.sleepVoteSleep (f : HostFrame) : Statement (.sleepVoteSleep f) :=
  fun _ _ _ h => h

theorem Sys2Proof.Laws.CommandFamily.sleepVoteStay (f : HostFrame) : Statement (.sleepVoteStay f) :=
  fun _ _ _ h => h

theorem Sys2Proof.Laws.CommandFamily.adpWakeNotice (f : HostFrame) : Statement (.adpWakeNotice f) :=
  fun _ _ _ h => h

theorem Sys2Proof.Laws.CommandFamily.adpHubOpcodeReceived (op : Nat) (f : HostFrame) : Statement (.adpHubOpcodeReceived op f) :=
  fun _ _ _ h => h

theorem Sys2Proof.Laws.CommandFamily.deliveryWindowOpen (n : Nat) (k : Nat) : Statement (.deliveryWindowOpen n k) :=
  fun _ _ _ h => h

theorem Sys2Proof.Laws.CommandFamily.announcePeriodExpiry (n : Nat) : Statement (.announcePeriodExpiry n) :=
  fun _ _ _ h => h

theorem Sys2Proof.Laws.CommandFamily.plcaCycle (n : Nat) : Statement (.plcaCycle n) :=
  fun _ _ _ h => h

theorem Sys2Proof.Laws.CommandFamily.plcaInactive (n : Nat) : Statement (.plcaInactive n) :=
  fun _ _ _ h => h

theorem Sys2Proof.Laws.CommandFamily.linkDown (n : Nat) : Statement (.linkDown n) :=
  fun _ _ _ h => h

theorem Sys2Proof.Laws.CommandFamily.linkUp (n : Nat) : Statement (.linkUp n) :=
  fun _ _ _ h => h

theorem Sys2Proof.Laws.CommandFamily.failback (n : Nat) : Statement (.failback n) :=
  fun _ _ _ h => h

theorem Sys2Proof.Laws.CommandFamily.txDiscardTimeout (n : Nat) : Statement (.txDiscardTimeout n) :=
  fun _ _ _ h => h

theorem Sys2Proof.Laws.CommandFamily.sleepAgreement : Statement .sleepAgreement :=
  fun _ _ _ h => h

theorem Sys2Proof.Laws.CommandFamily.sleepCommitPoint : Statement .sleepCommitPoint :=
  fun _ _ _ h => h

theorem Sys2Proof.Laws.CommandFamily.networkWakeActivity (n : Nat) : Statement (.networkWakeActivity n) :=
  fun _ _ _ h => h

theorem Sys2Proof.Laws.CommandFamily.networkWakePattern (n : Nat) : Statement (.networkWakePattern n) :=
  fun _ _ _ h => h

theorem Sys2Proof.Laws.CommandFamily.commitPending (mask : Nat) (p : Nat) (session : Nat) :
    Statement (.commitPending mask p session) :=
  fun _ _ _ h => h

theorem Sys2Proof.Laws.CommandFamily.applyPending (mask : Nat) (p : Nat) (session : Nat) :
    Statement (.applyPending mask p session) :=
  fun _ _ _ h => h

theorem Sys2Proof.Laws.CommandFamily.discardPending (mask : Nat) (p : Nat) : Statement (.discardPending mask p) :=
  fun _ _ _ h => h

theorem Sys2Proof.Laws.CommandFamily.commitDieApply (d : Nat) : Statement (.commitDieApply d) :=
  fun _ _ h w => decide_eq_true (Nat.lt_of_lt_of_le (of_decide_eq_true w) h)

theorem Sys2Proof.Laws.CommandFamily.persistDone (erases : Nat) : Statement (.persistDone erases) :=
  fun _ _ _ h => h

theorem Sys2Proof.Laws.CommandFamily.soRelease (value : Nat) : Statement (.soRelease value) :=
  fun _ _ _ h => h

theorem Sys2Proof.Laws.CommandFamily.restartDelayExpiry (d : Nat) (o : Nat) : Statement (.restartDelayExpiry d o) := by
  intro a b h w
  have w : (d < a && o < 2) = true := w
  show (d < b && o < 2) = true
  simp only [Bool.and_eq_true, decide_eq_true_eq] at w ⊢
  omega

theorem Sys2Proof.Laws.CommandFamily.twtripInTrip : Statement .twtripInTrip :=
  fun _ _ _ h => h

theorem Sys2Proof.Laws.CommandFamily.lockstepMismatch (d : Nat) : Statement (.lockstepMismatch d) :=
  fun _ _ h w => decide_eq_true (Nat.lt_of_lt_of_le (of_decide_eq_true w) h)

theorem Sys2Proof.Laws.CommandFamily.watchdogService (d : Nat) : Statement (.watchdogService d) :=
  fun _ _ h w => decide_eq_true (Nat.lt_of_lt_of_le (of_decide_eq_true w) h)

theorem Sys2Proof.Laws.CommandFamily.watchdogTimeout (d : Nat) : Statement (.watchdogTimeout d) :=
  fun _ _ h w => decide_eq_true (Nat.lt_of_lt_of_le (of_decide_eq_true w) h)

theorem Sys2Proof.Laws.CommandFamily.clockMonitorFault (d : Nat) (detail : Nat) (measured : Nat) :
    Statement (.clockMonitorFault d detail measured) := by
  intro a b h w
  have w : (d < a && 1 ≤ detail && detail ≤ 6) = true := w
  show (d < b && 1 ≤ detail && detail ≤ 6) = true
  simp only [Bool.and_eq_true, decide_eq_true_eq] at w ⊢
  omega

theorem Sys2Proof.Laws.CommandFamily.supplyMonitorFault (d : Nat) (detail : Nat) (measured : Nat) :
    Statement (.supplyMonitorFault d detail measured) := by
  intro a b h w
  have w : (d < a && 1 ≤ detail && detail ≤ 5) = true := w
  show (d < b && 1 ≤ detail && detail ≤ 5) = true
  simp only [Bool.and_eq_true, decide_eq_true_eq] at w ⊢
  omega

theorem Sys2Proof.Laws.CommandFamily.thermalWarning (d : Nat) (temp : Int) : Statement (.thermalWarning d temp) :=
  fun _ _ h w => decide_eq_true (Nat.lt_of_lt_of_le (of_decide_eq_true w) h)

theorem Sys2Proof.Laws.CommandFamily.thermalShutdown (d : Nat) (temp : Int) (torn : List Nat) (groups : List Nat) :
    Statement (.thermalShutdown d temp torn groups) :=
  fun _ _ h w => decide_eq_true (Nat.lt_of_lt_of_le (of_decide_eq_true w) h)

theorem Sys2Proof.Laws.CommandFamily.tripTestPulseStart (d : Nat) (o : Nat) : Statement (.tripTestPulseStart d o) := by
  intro a b h w
  have w : (d < a && o < 2) = true := w
  show (d < b && o < 2) = true
  simp only [Bool.and_eq_true, decide_eq_true_eq] at w ⊢
  omega

theorem Sys2Proof.Laws.CommandFamily.tripTestDeadline (d : Nat) (kind : Nat) (ok : Bool) (src : Nat) :
    Statement (.tripTestDeadline d kind ok src) := by
  intro a b h w
  have w : (d < a && 1 ≤ kind && kind ≤ 3) = true := w
  show (d < b && 1 ≤ kind && kind ≤ 3) = true
  simp only [Bool.and_eq_true, decide_eq_true_eq] at w ⊢
  omega

theorem Sys2Proof.Laws.CommandFamily.tripTestPulseEnd (d : Nat) : Statement (.tripTestPulseEnd d) :=
  fun _ _ h w => decide_eq_true (Nat.lt_of_lt_of_le (of_decide_eq_true w) h)

theorem Sys2Proof.Laws.CommandFamily.outputReadbackFault (d : Nat) (o : Nat) (high : Bool) :
    Statement (.outputReadbackFault d o high) := by
  intro a b h w
  have w : (d < a && o < 2) = true := w
  show (d < b && o < 2) = true
  simp only [Bool.and_eq_true, decide_eq_true_eq] at w ⊢
  omega

theorem Sys2Proof.Laws.CommandFamily.soCurrentLimitExpiry (d : Nat) (o : Nat) : Statement (.soCurrentLimitExpiry d o) := by
  intro a b h w
  have w : (d < a && o < 2) = true := w
  show (d < b && o < 2) = true
  simp only [Bool.and_eq_true, decide_eq_true_eq] at w ⊢
  omega

theorem Sys2Proof.Laws.CommandFamily.pairDigestCompare (d : Nat) (entry : Nat) : Statement (.pairDigestCompare d entry) :=
  fun _ _ h w => decide_eq_true (Nat.lt_of_lt_of_le (of_decide_eq_true w) h)

theorem Sys2Proof.Laws.CommandFamily.retireEngine (value : Nat) : Statement (.retireEngine value) :=
  fun _ _ _ h => h

theorem Sys2Proof.Laws.CommandFamily.recoveryCauseCleared : Statement .recoveryCauseCleared :=
  fun _ _ _ h => h

theorem Sys2Proof.Laws.CommandFamily.latchReset (value : Nat) : Statement (.latchReset value) :=
  fun _ _ _ h => h

theorem Sys2Proof.Laws.CommandFamily.twinWordSend : Statement .twinWordSend :=
  fun _ _ _ h => h

theorem Sys2Proof.Laws.CommandFamily.twinHello (w : TwinWord) : Statement (.twinHello w) :=
  fun _ _ _ h => h

theorem Sys2Proof.Laws.CommandFamily.twinVerdict (w : TwinWord) : Statement (.twinVerdict w) :=
  fun _ _ _ h => h

theorem Sys2Proof.Laws.CommandFamily.twinDetach (w : TwinWord) : Statement (.twinDetach w) :=
  fun _ _ _ h => h

theorem Sys2Proof.Laws.CommandFamily.twinRest (w : TwinWord) : Statement (.twinRest w) :=
  fun _ _ _ h => h

theorem Sys2Proof.Laws.CommandFamily.twinWordInvalid : Statement .twinWordInvalid :=
  fun _ _ _ h => h

theorem Sys2Proof.Laws.CommandFamily.twinLost : Statement .twinLost :=
  fun _ _ _ h => h

theorem Sys2Proof.Laws.CommandFamily.lostRqTimeExpiry : Statement .lostRqTimeExpiry :=
  fun _ _ _ h => h

theorem Sys2Proof.Laws.CommandFamily.powerCmdRun : Statement .powerCmdRun :=
  fun _ _ _ h => h

theorem Sys2Proof.Laws.CommandFamily.powerCmdSleep : Statement .powerCmdSleep :=
  fun _ _ _ h => h

theorem Sys2Proof.Laws.CommandFamily.powerCmdDeepSleep : Statement .powerCmdDeepSleep :=
  fun _ _ _ h => h

theorem Sys2Proof.Laws.CommandFamily.powerCmdOff : Statement .powerCmdOff :=
  fun _ _ _ h => h

theorem Sys2Proof.Laws.CommandFamily.idleTimeExpiry : Statement .idleTimeExpiry :=
  fun _ _ _ h => h

theorem Sys2Proof.Laws.CommandFamily.sleepTimeExpiry : Statement .sleepTimeExpiry :=
  fun _ _ _ h => h

theorem Sys2Proof.Laws.CommandFamily.deepTimeExpiry : Statement .deepTimeExpiry :=
  fun _ _ _ h => h

theorem Sys2Proof.Laws.CommandFamily.storageTimeExpiry : Statement .storageTimeExpiry :=
  fun _ _ _ h => h

theorem Sys2Proof.Laws.CommandFamily.drainExpiry : Statement .drainExpiry :=
  fun _ _ _ h => h

theorem Sys2Proof.Laws.CommandFamily.powerStateReached : Statement .powerStateReached :=
  fun _ _ _ h => h

theorem Sys2Proof.Laws.CommandFamily.wakePinLevel : Statement .wakePinLevel :=
  fun _ _ _ h => h

theorem Sys2Proof.Laws.CommandFamily.wakePinEdge : Statement .wakePinEdge :=
  fun _ _ _ h => h

theorem Sys2Proof.Laws.CommandFamily.wakePinStart : Statement .wakePinStart :=
  fun _ _ _ h => h

theorem Sys2Proof.Laws.CommandFamily.comparatorWake (n : Nat) : Statement (.comparatorWake n) :=
  fun _ _ h w => decide_eq_true (Nat.lt_of_lt_of_le (of_decide_eq_true w) (Nat.mul_le_mul_left _ h))

theorem Sys2Proof.Laws.CommandFamily.aonTallyWake : Statement .aonTallyWake :=
  fun _ _ _ h => h

theorem Sys2Proof.Laws.CommandFamily.twinWake : Statement .twinWake :=
  fun _ _ _ h => h

theorem Sys2Proof.Laws.CommandFamily.sentinelCrierWake (r : Nat) : Statement (.sentinelCrierWake r) :=
  fun _ _ h w => decide_eq_true (Nat.lt_of_lt_of_le (of_decide_eq_true w) (Nat.mul_le_mul_left _ h))

theorem Sys2Proof.Laws.CommandFamily.wakeAfterExpiry : Statement .wakeAfterExpiry :=
  fun _ _ _ h => h

theorem Sys2Proof.Laws.CommandFamily.returnComplete (origin : Nat) : Statement (.returnComplete origin) :=
  fun _ _ _ h => h

theorem Sys2Proof.Laws.CommandFamily.opSet (value : Nat) : Statement (.opSet value) :=
  fun _ _ _ h => h

theorem Sys2Proof.Laws.CommandFamily.voltageConfirmed (d : Nat) : Statement (.voltageConfirmed d) :=
  fun _ _ h w => decide_eq_true (Nat.lt_of_lt_of_le (of_decide_eq_true w) h)

theorem Sys2Proof.Laws.CommandFamily.opSwitchPause (d : Nat) : Statement (.opSwitchPause d) :=
  fun _ _ h w => decide_eq_true (Nat.lt_of_lt_of_le (of_decide_eq_true w) h)

theorem Sys2Proof.Laws.CommandFamily.sysPllChecked (d : Nat) : Statement (.sysPllChecked d) :=
  fun _ _ h w => decide_eq_true (Nat.lt_of_lt_of_le (of_decide_eq_true w) h)

theorem Sys2Proof.Laws.CommandFamily.relockTimeout (d : Nat) : Statement (.relockTimeout d) :=
  fun _ _ h w => decide_eq_true (Nat.lt_of_lt_of_le (of_decide_eq_true w) h)

theorem Sys2Proof.Laws.CommandFamily.converterDerate (detail : Nat) (item : Nat) (temp : Int) :
    Statement (.converterDerate detail item temp) :=
  fun _ _ _ h => h

theorem Sys2Proof.Laws.CommandFamily.derateClear : Statement .derateClear :=
  fun _ _ _ h => h

theorem Sys2Proof.Laws.CommandFamily.scrubWord (d : Nat) (err : Nat) (kind : Nat) (item : Nat) (sub : Nat) :
    Statement (.scrubWord d err kind item sub) := by
  intro a b h w
  have w : (d < a && err < 4) = true := w
  show (d < b && err < 4) = true
  simp only [Bool.and_eq_true, decide_eq_true_eq] at w ⊢
  omega

theorem Sys2Proof.Laws.CommandFamily.reloadCopyWrite (d : Nat) (idx : Nat) (erases : Nat) :
    Statement (.reloadCopyWrite d idx erases) :=
  fun _ _ h w => decide_eq_true (Nat.lt_of_lt_of_le (of_decide_eq_true w) h)

theorem Sys2Proof.Laws.CommandFamily.reloadApply (d : Nat) (idx : Nat) (bad : List (Nat × Nat)) :
    Statement (.reloadApply d idx bad) :=
  fun _ _ h w => decide_eq_true (Nat.lt_of_lt_of_le (of_decide_eq_true w) h)

theorem Sys2Proof.Laws.CommandFamily.rotaFailover (d : Nat) (bad : List (Nat × Nat)) : Statement (.rotaFailover d bad) :=
  fun _ _ h w => decide_eq_true (Nat.lt_of_lt_of_le (of_decide_eq_true w) h)

theorem Sys2Proof.Laws.CommandFamily.temperatureCheck (d : Nat) (temp : Int) : Statement (.temperatureCheck d temp) :=
  fun _ _ h w => decide_eq_true (Nat.lt_of_lt_of_le (of_decide_eq_true w) h)

theorem Sys2Proof.Laws.CommandFamily.calReq (n : Nat) : Statement (.calReq n) :=
  fun _ _ h w => decide_eq_true (Nat.lt_of_lt_of_le (of_decide_eq_true w) (Nat.mul_le_mul_left _ h))

theorem Sys2Proof.Laws.CommandFamily.calItemDone (n : Nat) (item : Nat) (values : List Int) (bad : List Nat) :
    Statement (.calItemDone n item values bad) := by
  intro a b h w
  have w : (1 ≤ item && item ≤ 10 && (if item ≤ 7 then n < 12 * a else n < a)) = true := w
  show (1 ≤ item && item ≤ 10 && (if item ≤ 7 then n < 12 * b else n < b)) = true
  simp only [Bool.and_eq_true, decide_eq_true_eq] at w ⊢
  by_cases hc : item ≤ 7 <;> simp only [hc, ↓reduceIte, decide_eq_true_eq] at w ⊢ <;> omega

theorem Sys2Proof.Laws.CommandFamily.forcedCalWindow (n : Nat) : Statement (.forcedCalWindow n) :=
  fun _ _ h w => decide_eq_true (Nat.lt_of_lt_of_le (of_decide_eq_true w) (Nat.mul_le_mul_left _ h))

theorem Sys2Proof.Laws.CommandFamily.telemetryInstant : Statement .telemetryInstant :=
  fun _ _ _ h => h

theorem Sys2Proof.Laws.CommandFamily.vinValid (vinMv : Nat) (low : Bool) (strap : Bool) (svcAddr : Nat) (testen : Bool) (nvBad : List (Nat × Nat × Nat)) (fwBad : Nat) :
    Statement (.vinValid vinMv low strap svcAddr testen nvBad fwBad) :=
  fun _ _ _ h => h

theorem Sys2Proof.Laws.CommandFamily.vinDip (torn : List (Nat × Nat)) (masks : List Nat) : Statement (.vinDip torn masks) :=
  fun _ _ _ h => h

theorem Sys2Proof.Laws.CommandFamily.resetWrite (value : Nat) : Statement (.resetWrite value) :=
  fun _ _ _ h => h

theorem Sys2Proof.Laws.CommandFamily.dieStartupTimeout (d : Nat) : Statement (.dieStartupTimeout d) :=
  fun _ _ h w => decide_eq_true (Nat.lt_of_lt_of_le (of_decide_eq_true w) h)

theorem Sys2Proof.Laws.CommandFamily.thermalRestart (temps : List Int) : Statement (.thermalRestart temps) :=
  fun _ _ _ h => h

theorem Sys2Proof.Laws.CommandFamily.selfTest (value : Nat) : Statement (.selfTest value) :=
  fun _ _ _ h => h

theorem Sys2Proof.Laws.CommandFamily.selfTestDone (failed : Nat) : Statement (.selfTestDone failed) :=
  fun _ _ _ h => h

theorem Sys2Proof.Laws.CommandFamily.portLoopL0 (n : Nat) : Statement (.portLoopL0 n) :=
  fun _ _ h w => decide_eq_true (Nat.lt_of_lt_of_le (of_decide_eq_true w) (Nat.mul_le_mul_left _ h))

theorem Sys2Proof.Laws.CommandFamily.portLoopL1 (n : Nat) : Statement (.portLoopL1 n) :=
  fun _ _ h w => decide_eq_true (Nat.lt_of_lt_of_le (of_decide_eq_true w) (Nat.mul_le_mul_left _ h))

theorem Sys2Proof.Laws.CommandFamily.portLoopL2 (n : Nat) : Statement (.portLoopL2 n) :=
  fun _ _ h w => decide_eq_true (Nat.lt_of_lt_of_le (of_decide_eq_true w) (Nat.mul_le_mul_left _ h))

theorem Sys2Proof.Laws.CommandFamily.portLoopL3 (n : Nat) : Statement (.portLoopL3 n) :=
  fun _ _ h w => decide_eq_true (Nat.lt_of_lt_of_le (of_decide_eq_true w) (Nat.mul_le_mul_left _ h))

theorem Sys2Proof.Laws.CommandFamily.netLoopMac (n : Nat) (via : Nat) : Statement (.netLoopMac n via) :=
  fun _ _ _ h => h

theorem Sys2Proof.Laws.CommandFamily.netLoopPcs (n : Nat) (via : Nat) : Statement (.netLoopPcs n via) :=
  fun _ _ _ h => h

theorem Sys2Proof.Laws.CommandFamily.netLoopPma (n : Nat) (via : Nat) : Statement (.netLoopPma n via) :=
  fun _ _ _ h => h

theorem Sys2Proof.Laws.CommandFamily.netLoopRemote (n : Nat) (via : Nat) : Statement (.netLoopRemote n via) :=
  fun _ _ _ h => h

theorem Sys2Proof.Laws.CommandFamily.remoteFrameReflect (n : Nat) (raw : List Byte) : Statement (.remoteFrameReflect n raw) :=
  fun _ _ _ h => h

theorem Sys2Proof.Laws.CommandFamily.loopTimeoutExpiry (n : Nat) : Statement (.loopTimeoutExpiry n) :=
  fun _ _ _ h => h

theorem Sys2Proof.Laws.CommandFamily.twinLoopNear : Statement .twinLoopNear :=
  fun _ _ _ h => h

theorem Sys2Proof.Laws.CommandFamily.twinLoopFar : Statement .twinLoopFar :=
  fun _ _ _ h => h

theorem Sys2Proof.Laws.CommandFamily.ringLoop (l : Nat) : Statement (.ringLoop l) :=
  fun _ _ h w => decide_eq_true (Nat.lt_of_lt_of_le (of_decide_eq_true w) h)

theorem Sys2Proof.Laws.CommandFamily.loopbackDone (kind : Nat) (n : Nat) (firstErr : Nat) (errors : Nat) :
    Statement (.loopbackDone kind n firstErr errors) := by
  intro a b h w
  have w : (kind ≤ 3 && firstErr ≤ 6 && (if kind = 0 then n < 12 * a else if kind = 1 then n < 3 else true)) = true := w
  show (kind ≤ 3 && firstErr ≤ 6 && (if kind = 0 then n < 12 * b else if kind = 1 then n < 3 else true)) = true
  simp only [Bool.and_eq_true, decide_eq_true_eq] at w ⊢
  split at w <;> simp_all <;> omega

theorem Sys2Proof.Laws.CommandFamily.leadHeartbeatSend : Statement .leadHeartbeatSend :=
  fun _ _ _ h => h

theorem Sys2Proof.Laws.CommandFamily.ptpFollowUpReceive (n : Nat) (domain : Nat) (t1 : Int) :
    Statement (.ptpFollowUpReceive n domain t1) :=
  fun _ _ _ h => h

theorem Sys2Proof.Laws.CommandFamily.ptpDelayRequestReceive (n : Nat) (domain : Nat) (peer : Bool) :
    Statement (.ptpDelayRequestReceive n domain peer) :=
  fun _ _ _ h => h

theorem Sys2Proof.Laws.CommandFamily.announceReceiptTimeout (n : Nat) : Statement (.announceReceiptTimeout n) :=
  fun _ _ _ h => h

theorem Sys2Proof.Laws.CommandFamily.quarantineProbePassed (n : Nat) (reason : Nat) :
    Statement (.quarantineProbePassed n reason) :=
  fun _ _ h w => decide_eq_true (Nat.lt_of_lt_of_le (of_decide_eq_true w) (Nat.mul_le_mul_left _ h))

theorem Sys2Proof.Laws.CommandFamily.transmitOpportunity (n : Nat) : Statement (.transmitOpportunity n) :=
  fun _ _ _ h => h

theorem Sys2Proof.Laws.CommandFamily.netLoopStop (n : Nat) (via : Nat) : Statement (.netLoopStop n via) :=
  fun _ _ _ h => h

theorem Sys2Proof.Laws.CommandFamily.twtripInRelease : Statement .twtripInRelease :=
  fun _ _ _ h => h

theorem Sys2Proof.Laws.CommandFamily.monitorReturnToBand (d : Nat) (cls : Nat) (detail : Nat) :
    Statement (.monitorReturnToBand d cls detail) :=
  fun _ _ h w => decide_eq_true (Nat.lt_of_lt_of_le (of_decide_eq_true w) h)

theorem Sys2Proof.Laws.CommandFamily.soCurrentLimitHoldoffEnd (d : Nat) (o : Nat) : Statement (.soCurrentLimitHoldoffEnd d o) := by
  intro a b h w
  have w : (d < a && o < 2) = true := w
  show (d < b && o < 2) = true
  simp only [Bool.and_eq_true, decide_eq_true_eq] at w ⊢
  omega
end

