-- ==== Sys2Proof/Laws/Service.lean ====
section
/-! SUPPORT. What each function of Sys2Proof/Machine/Service.lean can change. -/

namespace Sys2Proof.Machine

theorem serviceBatch_changes (s : State) :
    Changes [.svc, .stream] s (serviceBatch s) := by unfold serviceBatch; exact (by (try dsimp only); split; exacts [(Changes.refl _ _), (by (try dsimp only); split; exacts [(Changes.foldl (fun _ _ => (Changes.after (Changes.refl _ _) (discardOld_changes _ _) rfl)) (Changes.refl _ _)), (Changes.trans (Changes.after (Changes.foldl (fun _ _ => (Changes.after (Changes.refl _ _) (discardOld_changes _ _) rfl)) (Changes.refl _ _)) (markRecs_changes _ _ _) rfl) (fun f hf => by cases f <;> first | (cases hf; done) | dsimp only [Piece.same]))])])

theorem svcSilent_changes (s : State) :
    Changes [.svc, .timers] s (svcSilent s) := by unfold svcSilent; exact (Changes.trans (Changes.after (Changes.refl _ _) (active_changes _) rfl) (fun f hf => by cases f <;> first | (cases hf; done) | dsimp only [Piece.same]))

theorem svcDiscard_changes (s : State) (x1 : Bool) :
    Changes [.svc, .timers] s (svcDiscard s x1) := by unfold svcDiscard; exact (Changes.trans (Changes.after (Changes.refl _ _) (active_changes _) rfl) (fun f hf => by cases f <;> first | (cases hf; done) | dsimp only [Piece.same]))

theorem svcWrite_changes {l : List Piece} {s : State} {cmd : Nat} {data : List Byte} {pec : Option Byte} {t : State → State}
    (h : ∀ x, Changes l x (t x)) (hl : ([.svc, .timers] : List Piece).all (fun f => l.contains f) = true) :
    Changes l s (svcWrite s cmd data pec t) := by
  unfold svcWrite
  refine Changes.ite (Changes.after (Changes.refl _ _) (svcSilent_changes _) ?_)
    (Changes.ite (Changes.after (Changes.refl _ _) (svcDiscard_changes _ _) ?_) (Changes.trans (Changes.after (Changes.refl _ _)
      (m := [.svc, .timers]) (fun f hf => by cases f <;> first | (cases hf; done) | rfl) ?_) (h _))) <;> simp_all

theorem formChunk_changes (s : State) :
    Changes [.svc, .stream] s (formChunk s) := by unfold formChunk; exact (Changes.ite (Changes.refl _ _) (Changes.ite (Changes.ite (Changes.after (Changes.refl _ _) (serviceBatch_changes _) rfl) (Changes.refl _ _)) (Changes.trans (Changes.ite (Changes.after (Changes.refl _ _) (serviceBatch_changes _) rfl) (Changes.refl _ _)) (fun f hf => by cases f <;> first | (cases hf; done) | dsimp only [Piece.same]))))

theorem execSvcRecordsAck_changes (x0 : Byte) (x1 : Option Byte) (s : State) :
    ChangesOnly [.svc, .stream, .timers] s (execSvcRecordsAck x0 x1 s) := by
  unfold execSvcRecordsAck
  refine ChangesOnly.next (svcWrite_changes (fun u => ?_) rfl)
  dsimp only
  have h1 : Changes [.svc, .stream, .timers] u { deliverKeys u u.svc.chunkTake with svc := { (deliverKeys u u.svc.chunkTake).svc with
      chunk := none, chunkTake := [], chunkSeq := (deliverKeys u u.svc.chunkTake).svc.chunkSeq + 1 } } :=
    Changes.trans (Changes.after (Changes.refl _ _) (deliverKeys_changes _ _) rfl)
      (fun f hf => by cases f <;> first | (cases hf; done) | dsimp only [Piece.same])
  exact Changes.ite (Changes.ite (Changes.after h1 (formChunk_changes _) rfl) h1)
    (Changes.after (Changes.refl _ _) (svcDiscard_changes _ _) rfl)

theorem svcAnswer_changes (s : State) (x1 : Nat) (x2 : List Byte) :
    Changes [.svc, .timers] s (svcAnswer s x1 x2) := by unfold svcAnswer; exact (Changes.trans (Changes.after (Changes.refl _ _) (active_changes _) rfl) (fun f hf => by cases f <;> first | (cases hf; done) | dsimp only [Piece.same]))

theorem execSvcResult_changes (s : State) :
    ChangesOnly [.svc, .timers] s (execSvcResult s) := by unfold execSvcResult; exact (ChangesOnly.next (Changes.ite (Changes.after (Changes.refl _ _) (svcSilent_changes _) rfl) (Changes.after (Changes.trans (Changes.refl _ _) (fun f hf => by cases f <;> first | (cases hf; done) | dsimp only [Piece.same])) (svcAnswer_changes _ _ _) rfl)))

theorem svcRequest_changes (ops : List Nat) (data : List Byte) (s : State) :
    Changes [.net, .svc, .timers] s (svcRequest ops data s) := by
  unfold svcRequest
  extract_lets op f y s1 code
  have h1 : Changes [.net, .svc, .timers] s s1 := fun f hf => by cases f <;> first | (cases hf; done) | rfl
  refine Changes.ite (Changes.after (Changes.refl _ _) (svcDiscard_changes _ _) rfl) ?_
  refine Changes.ite (Changes.after (Changes.after (Changes.refl _ _) (countBad_changes _ _) rfl) (svcDiscard_changes _ _) rfl) ?_
  refine Changes.ite (Changes.after (b := { holdRequest s1 op f code with svc := s.svc }) ?_ (svcDiscard_changes _ _) rfl)
    (Changes.after h1 (holdRequest_changes _ _ _ _) rfl)
  exact (Changes.after h1 (holdRequest_changes s1 op f code) rfl).trans (fun f hf => by cases f <;> first | (cases hf; done) | rfl)

theorem execSvcObjRead_changes (x0 : List Byte) (x1 : Option Byte) (s : State) :
    ChangesOnly [.net, .svc, .timers] s (execSvcObjRead x0 x1 s) := by
  unfold execSvcObjRead
  exact ChangesOnly.next (svcWrite_changes (fun _ => Changes.after (Changes.refl _ _) (svcRequest_changes _ _ _) rfl) rfl)

theorem execSvcRecords_changes (s : State) :
    ChangesOnly [.svc, .stream, .timers] s (execSvcRecords s) := by unfold execSvcRecords; exact (ChangesOnly.next (Changes.ite (Changes.after (Changes.refl _ _) (svcSilent_changes _) rfl) (Changes.after (Changes.ite (Changes.after (Changes.refl _ _) (formChunk_changes _) rfl) (Changes.refl _ _)) (svcAnswer_changes _ _ _) rfl)))

theorem execSvcSession_changes (x0 : List Byte) (x1 : Option Byte) (s : State) :
    ChangesOnly [.net, .svc, .timers] s (execSvcSession x0 x1 s) := by
  unfold execSvcSession
  exact ChangesOnly.next (svcWrite_changes (fun _ => Changes.after (Changes.refl _ _) (svcRequest_changes _ _ _) rfl) rfl)

theorem execSvcObjWrite_changes (x0 : List Byte) (x1 : Option Byte) (s : State) :
    ChangesOnly [.net, .svc, .timers] s (execSvcObjWrite x0 x1 s) := by
  unfold execSvcObjWrite
  exact ChangesOnly.next (svcWrite_changes (fun _ => Changes.after (Changes.refl _ _) (svcRequest_changes _ _ _) rfl) rfl)

theorem execSvcSclTimeout_changes (x0 : Bool) (s : State) :
    ChangesOnly [.svc, .timers] s (execSvcSclTimeout x0 s) := by unfold execSvcSclTimeout; exact (ChangesOnly.next (Changes.given (Changes.refl _ _) (Changes.ite (Changes.after (Changes.refl _ _) (svcDiscard_changes _ _) rfl) (Changes.after (Changes.refl _ _) (svcSilent_changes _) rfl))))

theorem execSvcStatus_changes (s : State) :
    ChangesOnly [.svc, .timers] s (execSvcStatus s) := by unfold execSvcStatus; exact (ChangesOnly.next (Changes.ite (Changes.after (Changes.refl _ _) (svcSilent_changes _) rfl) (Changes.after (Changes.refl _ _) (svcAnswer_changes _ _ _) rfl)))

theorem execSvcUnknownCommand_changes (s : State) :
    ChangesOnly [.svc, .timers] s (execSvcUnknownCommand s) := by unfold execSvcUnknownCommand; exact (ChangesOnly.next (Changes.after (Changes.refl _ _) (svcSilent_changes _) rfl))

end Sys2Proof.Machine
end

