-- ==== Sys2Proof/Machine/Balls.lean ====
section
/-! DEFINITION. The package: which ball of the array carries which signal (R461 to R465), the figures of consumption (R414) and the
dissipation of the package (R470, R471). None of it is state; it is what a part is made with. -/

namespace Sys2Proof.Machine

/-! ### The ball map (R461 to R465) -/

/-- The signals of the lead die in the order of their block, five to a row (R463). -/
inductive LeadSignal where
  | t1UpP | t1UpN | t1sAP | t1sAN | t1sBP | t1sBN | twtxP | twtxN | twrxP | twrxN
  | twtripOut | twtripIn | svcScl | svcSda | svcAddr0 | svcAddr1 | svcAddr2 | hostWake | wake | rqN | cmpt | testen
deriving DecidableEq, Repr

/-- What a ball carries: one of the seven balls of a port (0 to 3 P0 to P3, 4 EM, 5 VP, 6 PG), a signal of the lead die, a safety
output of a die, the supply, nothing, or ground. -/
inductive Ball where
  | port (n ball : Nat)
  | lead (sig : LeadSignal)
  | safety (d o : Nat)
  | vin
  | nc
  | gnd
deriving DecidableEq, Repr

/-- Rows and columns of the array of a part with so many dies (R461). -/
def arraySide (dies : Nat) : Nat := if dies = 2 then 17 else if dies = 4 then 23 else 33

/-- K, the ports of a band (R462). -/
def bandPorts (dies : Nat) : Nat := if dies = 2 then 12 else if dies = 4 then 16 else 24

/-- Ball number `ball` of port n stands at a row and a column, both counted from 1 (R462). -/
def portBall (dies n ball : Nat) : Nat × Nat := (1 + 8 * (n / bandPorts dies) + ball, n % bandPorts dies + 1)

/-- The block of the lead die, row by row; none is ground (R463). -/
def leadBlock : List (Option LeadSignal) :=
  [some .t1UpP, some .t1UpN, none, some .t1sAP, some .t1sAN,
   none, none, none, some .t1sBP, some .t1sBN,
   some .twtxP, some .twtxN, none, some .twrxP, some .twrxN,
   some .twtripOut, some .twtripIn, none, some .svcScl, some .svcSda,
   some .svcAddr0, some .svcAddr1, some .svcAddr2, some .hostWake, some .wake,
   some .rqN, some .cmpt, some .testen, none, none]

/-- Row U, in which the safety outputs stand. -/
def rowU : Nat := 16

/-- Whether a ball is one of VIN (R464). -/
def vinBall (dies row col : Nat) : Bool :=
  if dies = 2 then row == 17 && decide (10 ≤ col)
  else if dies = 4 then (row == 22 || row == 23) && decide (18 ≤ col)
  else row == 33 && decide (18 ≤ col)

/-- Whether a ball is not connected (R464). -/
def ncBall (dies row col : Nat) : Bool :=
  if dies = 2 then row == 17 && decide (col ≤ 4)
  else if dies = 4 then (row == 16 && decide (17 ≤ col)) || (row == 8 && col == 23)
  else row == 33 && decide (col ≤ 16)

/-- What the ball at a row and a column of the array carries (R462 to R464). -/
def ballAt (dies row col : Nat) : Ball :=
  let k := bandPorts dies
  let n := (row - 1) / 8 * k + (col - 1)
  if col ≤ k ∧ (row - 1) % 8 < 7 ∧ n < 12 * dies then .port n ((row - 1) % 8)
  else if k < col ∧ col ≤ k + 5 ∧ row ≤ 6 then
    match nth none leadBlock (5 * (row - 1) + (col - k - 1)) with
    | some g => .lead g
    | none => .gnd
  else if row = rowU ∧ col ≤ 2 * dies then .safety ((col - 1) / 2) ((col - 1) % 2)
  else if vinBall dies row col then .vin
  else if ncBall dies row col then .nc
  else .gnd

/-- Every ball of a part's array, row by row. -/
def allBalls (dies : Nat) : List Ball :=
  (List.range (arraySide dies)).flatMap (fun r => (List.range (arraySide dies)).map (fun c => ballAt dies (r + 1) (c + 1)))

/-- How many balls of a part pass a test. -/
def ballCount (dies : Nat) (f : Ball → Bool) : Nat := ((allBalls dies).filter f).length

/-- The letters that name the rows in one round of the series (R461). -/
def rowLetters : List String :=
  ["A", "B", "C", "D", "E", "F", "G", "H", "J", "K", "L", "M", "N", "P", "T", "U", "V", "W", "Y"]

/-- The name of a row, counted from 1 (R461). -/
def rowName (row : Nat) : String :=
  if row ≤ 19 then nth "" rowLetters (row - 1) else "A" ++ nth "" rowLetters (row - 20)

/-! ### Consumption and dissipation (R414, R470, R471) -/

/-- Core power of a part in RUN at an operating point, in mW: typical, and the maximum that R414 gives for eight dies. -/
def runPower (dies point : Nat) : Nat :=
  if dies = 2 then nth 0 [600, 450, 360] point
  else if dies = 4 then nth 0 [1100, 800, 620] point
  else nth 0 [2100, 1500, 1150] point

/-- The maximum of R414 for eight dies in RUN, in mW. -/
def runPowerMax (point : Nat) : Nat := nth 0 [2900, 2100, 1600] point

/-- The bound of the core power at a junction temperature of 125 °C, in µW (R470). -/
def hotCore (point : Nat) : Nat := 1150 * runPowerMax point

/-- Dissipation of the package in µW (R470), from the core power, the power at the VP balls and in the emitters, each in µW, and the
load currents of the safety outputs in mA. -/
def dissipation (core vp em : Nat) (loads : List Nat) : Nat :=
  core + 15 * vp / 100 + em + (loads.map (fun i => i * i * 3 / 2)).sum

/-- θJA in °C per W (R471). -/
def thetaJa (dies : Nat) : Nat := if dies = 2 then 14 else if dies = 4 then 11 else 9

/-- Junction temperature in µ°C at an ambient temperature in °C for a dissipation in µW. -/
def junction (dies ambient power : Nat) : Nat := ambient * 1000000 + thetaJa dies * power

/-- What the integrator must keep, which the hub does not check: at most 4.5 W, and at most 125 °C at the junction (R470). -/
def withinThermal (dies ambient power : Nat) : Bool :=
  decide (power ≤ 4500000) && decide (junction dies ambient power ≤ 125000000)

end Sys2Proof.Machine
end

