-- ==== Sys2Proof/Tests/Slice0.lean ====
section
/-! SUPPORT. Small tests: commands that the check of operands refuses, engine words written out from the encodings of the spec, worked
examples of the spec, and for every statement with hypotheses a state and operands that meet them. -/

-- The tests are checked one after another, so that the checks do not wait for each other in threads of their own.
set_option Elab.async false

namespace Sys2Proof.Tests

open Sys2Proof Sys2Proof.Machine

/-- Context 0 of engine 0 runs on a word at address 0. -/
def running (w : BitVec 32) (y : Ctx := {}) (x : Engine := {}) : State :=
  { State.reset with engine := [(0, { x with running := some 0, prog := [w], ctxs := [(0, { y with live := true, budgetEnd := y.budgetEnd + 1000000000000 })] })] }

/-- Context 0 of engine 0 runs on an instruction at address 0. -/
def onto (i : Instr) (y : Ctx := {}) (x : Engine := {}) : State := running ((encodeWord i).getD 0) y x

/-- The same machine with some sensor ports. -/
def atPorts (s : State) (p : Tbl Port) : State := { s with port := p }

/-- The same machine with one sensor port, powered. -/
def powered (s : State) (n : Nat) : State := { s with port := [(n, { powered := true })] }

/-- The same machine with one ownership entry damaged. -/
def disowned (s : State) (sub n : Nat) : State := { s with reeve := { s.reeve with ownDamaged := [(sub, n)] } }

/-- The same machine with settings in force. -/
def set (s : State) (c : Tbl (List Byte)) : State := { s with conf := c }

/-- Word 0 of a descriptor that samples INPUT 0 once at the shortest interval that R127 admits. -/
def oneSample : Memory := [(1, 1), (2, 0x20)]

/-- The last port of die 0 with an operation in the last slot at the head of its queue. -/
def opState (p : Port) (y : Slot) : State :=
  { State.reset with
    port := [(11, { p with powered := true, queue := [511] })]
    die := [(0, { slots := [(511, { y with port := 11 })] })] }

/-- The last port of the part, powered. -/
def portState (p : Port) : State := { State.reset with port := [(95, { p with powered := true })] }

/-- The part has started and the link of port 2 is up. -/
def liveState : State :=
  { State.reset with dictReady := true, netPorts := [(2, { link := true })], power := { State.reset.power with vinOk := true } }

/-- The same machine after 4 s. -/
def late (s : State) : State := { s with time := { s.time with elapsed := 1000000000 } }

/-- Every sensor port allocated to parish 0. -/
def allPorts : Nat × List Byte := (okey (allocIdx 0) 1, List.replicate 12 0xFF)

/-- Every stream allocated to parish 0. -/
def allStreams : Nat × List Byte := (okey (allocIdx 0) 4, [0, 0, 0xFF, 0x0F])

/-- Every engine allocated to parish 0. -/
def allEngines : Nat × List Byte := (okey (allocIdx 0) 2, List.replicate 24 0xFF)

/-- The machine with the power part changed. -/
def withPower (s : State) (p : Power) : State := { s with power := p }

/-! ### Worked examples of the spec -/

/-- The CRCs of R11 and R171 over the string 123456789, and the check value of an SMBus PEC, which R100 fixes by its polynomial. -/
theorem test_crc_check_values :
    let m : List Byte := [0x31, 0x32, 0x33, 0x34, 0x35, 0x36, 0x37, 0x38, 0x39]
    crc32 m = 0xCBF43926 ∧ crc16 m = 0x29B1 ∧ crc8 m = 0xF4 := by
  decide +kernel

/-- The cliff program's words at 0x040 to 0x059 (chapter "Tap Engines"). -/
theorem test_decode_cliff_program :
    [0x04400001, 0x20800100, 0x0C880004, 0x54800000, 0x2080F30C, 0x54800004, 0xACC40000, 0xD50C0000, 0x80800057, 0x41400040].map
        (fun n => decodeWord 77 (BitVec.ofNat 32 n)) =
      [some (.addi 77 1 0 1), some (.lui 77 2 0x100), some (.ori 77 2 2 4), some (.sw 77 2 0 0), some (.lui 77 2 0xF30C),
        some (.sw 77 2 0 4), some (.issueAna 77 3 1 0 0), some (.awaitComp 77 4 3), some (.branch 77 2 0x57), some (.lw 77 5 0 0x40)] ∧
    [0xCDD40000, 0x00148001, 0x81000052, 0x65800F20, 0xC5C88000, 0xD8000000, 0x0583FFFF, 0x80000053].map
        (fun n => decodeWord 77 (BitVec.ofNat 32 n)) =
      [some (.sieveOffer 77 7 5), some (.sub 77 0 5 2), some (.branch 77 4 0x52), some (.ioOut 77 6 0 0xF20), some (.emit 77 7 2 2),
        some (.yield 77), some (.addi 77 6 0 0x3FFFF), some (.branch 77 0 0x53)] := by
  decide +kernel

/-- The battery program's words that the cliff program has not. -/
theorem test_decode_battery_program :
    [0xA0C40000, 0x19900008, 0x099801FF, 0x24180010, 0xC5C92000].map (fun n => decodeWord 27 (BitVec.ofNat 32 n)) =
      [some (.issueTw 27 3 1 0 0), some (.shri 27 6 4 8), some (.andi 27 6 6 0x1FF), some (.cmpi 27 6 16), some (.emitS 27 7 2 4)] := by
  decide +kernel

/-- Reserved words: opcode 0x3F, function 0x13 of opcode 0, condition 13. -/
theorem test_decode_reserved :
    [0xFC000000, 0x00000013, 0x83400000].map (fun n => decodeWord 0 (BitVec.ofNat 32 n)) = [none, none, none] := by
  decide +kernel

/-- Entries 1, 8 and 11 of the mower's rota (chapter "The Rota"). -/
theorem test_rota_entries :
    entryOfWord 0x000000288001F40C 0x70 = { engine := 5, entryPt := 0x40, budget := 500, flags := 0x0C, stale := 0x70 } ∧
      entryOfWord 0x03F7A0610003E841 0xA0 =
        { offset := 0x03F7A0, engine := 12, entryPt := 0x80, hint := 0, budget := 1000, flags := 0x41, stale := 0xA0 } ∧
      entryOfWord 0x11DA50080000FAFA 0xFFFF = { offset := 0x11DA50, engine := 1, budget := 250, flags := 0xFA, stale := 0xFFFF } := by
  decide +kernel

/-- The battery descriptor D0 = 0x0017_4A2C, D1 = 0x0800_1000: a block read of at most 16 bytes with PEC. -/
theorem test_two_wire_descriptor :
    twOk 0x00174A2C 0x08001000 = true ∧ twType 0x00174A2C = 7 ∧ bitOf (0x00174A2C : Word).toNat 20 = true ∧
      field (0x08001000 : Word).toNat 15 8 = 16 := by
  decide

/-- Steps 1, 4 and 7 of the auto-ranging example: VALUE = 2 × raw at range 1 and 4 × raw at range 2, with ideal trims. -/
theorem test_sample_values : sampleValue {} 1 20480 = 40960 ∧ sampleValue {} 1 30720 = 61440 ∧ sampleValue {} 2 20480 = 81920 := by
  decide

/-- Stamps of records C and D of the era example: 999,999,000.00 ns and 123,456,789.25 ns (chapter "Time"). -/
theorem test_stamps :
    stampOf ((0x6A3FFFFD * 1000000000 + 999999000) * 4) = 0xFFFFDEE6B1860 ∧
      stampOf ((0x6A400002 * 1000000000 + 123456789) * 4 + 1) = 0x000021D6F3455 := by
  decide

/-- Step 1 of the brush-motor example: counts 0 up, 625 up, 1,250 down and 625 down. -/
theorem test_tally_unit_start :
    let ch (cfg phase : Nat) : Tally := { cfg := cfg, phase := phase, top := 1250, topAct := 1250, cmp := 500, cmpAct := 500 }
    let s := { State.reset with tally := [(68, ch 0x8A 0), (69, ch 0x8A 625), (70, ch 0x88A 1250), (71, ch 0x88A 625)] }
    (match exec (.unitStart 17 0xF) s with
      | .next t => [68, 69, 70, 71].map (fun k => ((t.tallyAt k).state, (t.tallyAt k).count, (t.tallyAt k).down))
      | _ => []) = [(1, 0, false), (1, 625, false), (1, 1250, true), (1, 625, true)] := by
  decide +kernel

/-- ADDS clamps and sets V; ADD wraps and sets C and V (R157, R158): the destination is also a source. -/
theorem test_add_wraps_and_adds_clamps :
    (match exec (.add 0 1 1 1) (onto (.add 0 1 1 1) { regs := [(1, 0x80000000)] }) with
      | .next t => (regOf t 0 0 1, flagsOf t 0 0, (ctxOf t 0 0).pc)
      | _ => (1, {}, 0)) = (0, { z := true, n := false, c := true, v := true }, 1) ∧
    (match exec (.adds 0 1 1 1) (onto (.adds 0 1 1 1) { regs := [(1, 0x80000000)], c := true }) with
      | .next t => (regOf t 0 0 1, flagsOf t 0 0, (ctxOf t 0 0).pc)
      | _ => (1, {}, 0)) = (0x80000000, { z := false, n := true, c := true, v := true }, 1) := by
  decide +kernel

/-- SW at the last word writes the least significant byte first (R11, R159). -/
theorem test_store_word_byte_order :
    (match exec (.sw 0 1 0 1020) (onto (.sw 0 1 0 1020) { regs := [(1, 0x11223344)] }) with
      | .next t => (t.engAt 0).scratch
      | _ => []) = [(1020, 0x44), (1021, 0x33), (1022, 0x22), (1023, 0x11)] := by
  decide +kernel

/-- A tick of 4 ns carries from 999,999,998 ns into the next second (R36). -/
theorem test_time_tick_carries :
    (match exec .timeTick { State.reset with dictReady := true, time := { seconds := 7, nanos := 999999998 } } with
      | .next t => (t.time.seconds, t.time.nanos)
      | _ => (0, 0)) = (8, 2) := by
  decide +kernel

/-- The step takes the front of the queue; a command of a missing die faults by name (R6). -/
theorem test_step_takes_the_front :
    step { State.reset with pending := [.frameBegin 8, .timeTick] } = .fault (.noSuchResource "die") :=
  rfl

/-- The height record at offset 40 of the batch that the era-wrap example decodes: stream 0x6A0, SEQ 0x3FE, parish 3, 65 mm. -/
theorem test_record_native :
    recNative { stream := 0x6A0, stamp := 0xFFFFFED39FB01, pcode := 3, seq := 0x3FE, words := [0x41] } =
      [0x01, 0xFB, 0x39, 0xED, 0xFF, 0xFF, 0x0F, 0x6A, 0x03, 0x00, 0xFE, 0x13, 0x41, 0, 0, 0] := by
  decide +kernel

/-- The header of the SH-12 example (R446): stream 0x41 at 1,001.7 s. -/
theorem test_record_v1 :
    (recV1 State.reset { stream := 0x41, stamp := stampOf 4006800000000, seq := 0x17, words := [5] }).take 8 =
      [0x00, 0x01, 0xF9, 0x39, 0x41, 0x00, 0x17, 0x01] := by
  decide +kernel

/-! ### The check of operands -/

/-- The greatest and the least operand of each kind that each command takes are well formed on a part of 8 dies, part 1. -/
theorem test_wf_takes_1 :
    ([.leadHeartbeat 7, .leadLost 7, .ringFrameReceive 7 0 0 0 true, .ringFrameReceive 0 7 0 0 true, .ringLinkLost 7,
      .sidebandPairFault 7 0, .safetyOutputTripRequest 7 0 true, .matrixTripConfirmed 7 0, .tsecLoRead 191 0,
      .ptpSyncReceive 2 0 true 0, .ptpAnnounceReceive 2 0 0 0 0 0 0 0 0, .ptpDelayResponseReceive 2 0 0 none,
      .ptpMessageDiscard 2, .ptpSyncSend 2, .ptpDelayRequestSend 2, .ptpAnnounceSend 2, .syncTimeout 2,
      .portModeIdleEnd 95, .vpOnWrite 95 true, .pgood 95, .vpAverageOverload 95, .vpPeakOverload 95, .emCfgWrite 95 0,
      .governorGrant 7 0, .emitterPulseDone 95 true true, .quarantineProbe 95 0 0, .quarCtlRelease 95, .quarCtlHold 95,
      .quarCtlProbe 95, .uartRxLowTimeout 95, .pinEdge 95 0 true 0, .pinEdge 0 3 true 0, .portOperationStart 95 0,
      .twStart 95 0, .arbitrationLost 95, .twTransferDone 95 0 [] 0 0, .busTimeout 95 true, .busRecoveryDone 95 true,
      .spiTransferDone 95 [], .uartIdleGap 95, .uartTransferDone 95 [] 0 0 0, .svcObjRead (List.replicate 255 0) none,
      .svcObjWrite (List.replicate 255 0) none, .svcSession (List.replicate 255 0) none, .adcConversionDone 95 0 true 0 0,
      .adcConversionDone 0 (-32768) true 0 0, .adcConversionDone 0 32767 true 0 0, .rangeSettled 95, .anaOperationDone 95,
      .codeBurstDone 95 true true, .singleSlopeEnd 95 0 true true, .comparatorEdge 95 0 true 0, .comparatorEdge 0 1 true 0,
      .majoritySample 95 0, .majoritySample 0 2, .tripFilterExpiry 95 0, .tripFilterExpiry 0 2, .cmpLatchClear 95 0,
      .cmpDacWrite 95 0, .pgStart 95 0, .pgStart 0 1, .pgStop 95 0, .pgStop 0 1, .pgPeriodStart 95 0, .pgPeriodStart 0 1,
      .pgPulseEnd 95 0, .pgPulseEnd 0 1, .pgTrip 95 0, .pgTrip 0 1, .pgHeldClear 95 0, .pgHeldClear 0 1,
      .contextLaunch 7 0, .contextDispatch 191, .add 191 0 0 0, .sub 191 0 0 0, .and 191 0 0 0, .or 191 0 0 0,
      .xor 191 0 0 0, .shl 191 0 0 0, .shr 191 0 0 0] :
      List Instr).all (fun i => i.wf) = true := by
  decide +kernel

/-- The greatest and the least operand of each kind that each command takes are well formed on a part of 8 dies, part 2. -/
theorem test_wf_takes_2 :
    ([.sar 191 0 0 0, .adds 191 0 0 0, .subs 191 0 0 0, .mul 191 0 0 0, .mulh 191 0 0 0, .mulhu 191 0 0 0, .mulq 191 0 0 0,
      .min 191 0 0 0, .max 191 0 0 0, .minu 191 0 0 0, .maxu 191 0 0 0, .abs 191 0 0, .addi 191 0 0 0, .andi 191 0 0 0,
      .ori 191 0 0 0, .xori 191 0 0 0, .shli 191 0 0 0, .shri 191 0 0 0, .sari 191 0 0 0, .lui 191 0 0, .cmpi 191 0 0,
      .addsi 191 0 0 0, .lw 191 0 0 0, .lh 191 0 0 0, .lhu 191 0 0 0, .lb 191 0 0 0, .lbu 191 0 0 0, .sw 191 0 0 0,
      .sh 191 0 0 0, .sb 191 0 0 0, .ioIn 191 0 0 0, .ioOut 191 0 0 0, .pairWordWrite 191 0, .registerWrite 191 0 0,
      .branch 191 0 0, .branch 0 12 0, .jal 191 0 0, .jr 191 0, .issueTw 191 0 0 0 0, .issueSpi 191 0 0 0 0,
      .issueUart 191 0 0 0 0, .issueAna 191 0 0 0 0, .issuePulse 191 0 0, .transactionSlotFree 7, .stampRead 191 0 0,
      .emit 191 0 0 0, .emitS 191 0 0 0, .millSubmit 191 0 0 0, .sieveOffer 191 0 0, .signalLow 191 0, .signalHigh 191 0,
      .signalPulse 191 0, .awaitComp 191 0 0, .awaitEdge 191 0 0 0 1, .awaitEdge 0 0 0 0 1, .awaitTime 191 0 0 0,
      .awaitLine 191 0 0 true, .awaitResume 191 0, .yield 191, .trap 191 0, .reservedOpcode 191, .pcend 191, .frameBegin 7,
      .entryNominalInstant 7 0, .windowEnd 7 0, .nextImageWrite 7 0 0 [], .nextImageWrite 0 15 0 [],
      .millOutputComputed 127, .millSlot 127, .millRound 7, .sieveOfferEval 7, .sieveTimerExpiry 511,
      .sieveSilenceExpiry 511, .maxAgeExpiry 4095, .batchAssemble 15, .crierWake 15, .wakeRetryExpiry 15,
      .logFlushExpiry 7 0, .nvPageWriteDone 7 0 0 true, .logTrigger 15] :
      List Instr).all (fun i => i.wf) = true := by
  decide +kernel

/-- The greatest and the least operand of each kind that each command takes are well formed on a part of 8 dies, part 3. -/
theorem test_wf_takes_3 :
    ([.captureStart 7 0, .captureEnd 7 0, .wearLevelCheck 7, .nvScanDone 7, .tallyTick 255, .tallyLinkAction 255,
      .tallyStart 255, .tallyStop 255, .tallyReset 255, .unitStart 63 0, .unitReset 63 0, .topWrite 255 0, .cmpWrite 255 0,
      .tallyCapture 255 true, .tallyPairedRise 255, .tallyPairedFall 255, .matrixRowChange 7 0 true,
      .matrixRowChange 0 79 true, .crossDieLineFault 7 0 true, .crossDieLineFault 0 15 true, .stateReqRun 15,
      .stateReqHalt 15, .parishStateChange 7 0, .parishStateChange 0 15, .testTimeExpiry 15, .keyWrite 15 0 [],
      .sessionOpen { port := 2 }, .sessionConfirm { port := 2 }, .sessionClose { port := 2 }, .openBlockExpiry 15,
      .fwImageWrite 15 0 [], .fwSwitch 15 0 0, .ethFrameOther 2, .adpFrameReject 2 true [], .adpPing { port := 2 },
      .adpRead { port := 2 }, .adpWrite { port := 2 }, .adpReadBlock { port := 2 }, .adpWriteBlock { port := 2 },
      .adpAbort { port := 2 }, .adpStreamRequest { port := 2 }, .sleepVoteSleep { port := 2 },
      .sleepVoteStay { port := 2 }, .adpWakeNotice { port := 2 }, .adpHubOpcodeReceived 5 { port := 2 },
      .adpHubOpcodeReceived 15 {}, .adpHubOpcodeReceived 12 {}, .deliveryWindowOpen 2 0, .deliveryWindowOpen 0 7,
      .announcePeriodExpiry 2, .plcaCycle 2, .plcaInactive 2, .linkDown 2, .linkUp 2, .failback 2, .txDiscardTimeout 2,
      .networkWakeActivity 2, .networkWakePattern 2, .commitPending 0 15 0, .applyPending 0 15 0, .discardPending 0 15,
      .commitDieApply 7, .soRelease 65535, .restartDelayExpiry 7 0, .restartDelayExpiry 0 1, .lockstepMismatch 7,
      .watchdogService 7, .watchdogTimeout 7, .clockMonitorFault 7 3 0, .clockMonitorFault 0 1 0, .clockMonitorFault 0 6 0,
      .supplyMonitorFault 7 3 0, .supplyMonitorFault 0 1 0, .supplyMonitorFault 0 5 0, .thermalWarning 7 0,
      .thermalShutdown 7 0 [] [], .tripTestPulseStart 7 0, .tripTestPulseStart 0 1, .tripTestDeadline 7 1 true 0,
      .tripTestDeadline 0 1 true 0] :
      List Instr).all (fun i => i.wf) = true := by
  decide +kernel

/-- The greatest and the least operand of each kind that each command takes are well formed on a part of 8 dies, part 4. -/
theorem test_wf_takes_4 :
    ([.tripTestDeadline 0 3 true 0, .tripTestPulseEnd 7, .outputReadbackFault 7 0 true, .outputReadbackFault 0 1 true,
      .soCurrentLimitExpiry 7 0, .soCurrentLimitExpiry 0 1, .pairDigestCompare 7 0, .comparatorWake 95,
      .sentinelCrierWake 511, .voltageConfirmed 7, .opSwitchPause 7, .sysPllChecked 7, .relockTimeout 7,
      .converterDerate 6 0 0, .scrubWord 7 0 0 0 0, .scrubWord 0 3 0 0 0, .reloadCopyWrite 7 0 0, .reloadApply 7 0 [],
      .rotaFailover 7 [], .temperatureCheck 7 0, .calReq 95, .calItemDone 0 1 [] [], .calItemDone 0 10 [] [],
      .calItemDone 7 8 [] [], .forcedCalWindow 95, .dieStartupTimeout 7, .portLoopL0 95, .portLoopL1 95, .portLoopL2 95,
      .portLoopL3 95, .netLoopMac 2 0, .netLoopPcs 2 0, .netLoopPma 2 0, .netLoopRemote 2 0, .remoteFrameReflect 2 [],
      .loopTimeoutExpiry 2, .ringLoop 7, .loopbackDone 3 0 0 0, .loopbackDone 1 0 6 0, .loopbackDone 1 2 0 0,
      .ptpFollowUpReceive 2 0 0, .ptpDelayRequestReceive 2 0 true, .announceReceiptTimeout 2, .quarantineProbePassed 95 0,
      .transmitOpportunity 2, .netLoopStop 2 0, .monitorReturnToBand 7 0 0, .soCurrentLimitHoldoffEnd 7 0,
      .soCurrentLimitHoldoffEnd 0 1] :
      List Instr).all (fun i => i.wf) = true := by
  decide +kernel

/-- The first operand past each bound is refused, part 1. -/
theorem test_wf_refuses_1 :
    ([.leadHeartbeat 8, .leadLost 8, .ringFrameReceive 8 0 0 0 true, .ringFrameReceive 0 8 0 0 true, .ringLinkLost 8,
      .sidebandPairFault 8 0, .safetyOutputTripRequest 8 0 true, .matrixTripConfirmed 8 0, .tsecLoRead 192 0,
      .ptpSyncReceive 3 0 true 0, .ptpAnnounceReceive 3 0 0 0 0 0 0 0 0, .ptpDelayResponseReceive 3 0 0 none,
      .ptpMessageDiscard 3, .ptpSyncSend 3, .ptpDelayRequestSend 3, .ptpAnnounceSend 3, .syncTimeout 3,
      .portModeIdleEnd 96, .vpOnWrite 96 true, .pgood 96, .vpAverageOverload 96, .vpPeakOverload 96, .emCfgWrite 96 0,
      .governorGrant 8 0, .emitterPulseDone 96 true true, .quarantineProbe 96 0 0, .quarCtlRelease 96, .quarCtlHold 96,
      .quarCtlProbe 96, .uartRxLowTimeout 96, .pinEdge 96 0 true 0, .pinEdge 0 4 true 0, .portOperationStart 96 0,
      .twStart 96 0, .arbitrationLost 96, .twTransferDone 96 0 [] 0 0, .busTimeout 96 true, .busRecoveryDone 96 true,
      .spiTransferDone 96 [], .uartIdleGap 96, .uartTransferDone 96 [] 0 0 0, .svcObjRead (List.replicate 256 0) none,
      .svcObjWrite (List.replicate 256 0) none, .svcSession (List.replicate 256 0) none, .adcConversionDone 96 0 true 0 0,
      .adcConversionDone 0 (-32769) true 0 0, .adcConversionDone 0 32768 true 0 0, .rangeSettled 96, .anaOperationDone 96,
      .codeBurstDone 96 true true, .singleSlopeEnd 96 0 true true, .comparatorEdge 96 0 true 0, .comparatorEdge 0 2 true 0,
      .majoritySample 96 0, .majoritySample 0 3, .tripFilterExpiry 96 0, .tripFilterExpiry 0 3, .cmpLatchClear 96 0,
      .cmpDacWrite 96 0, .pgStart 96 0, .pgStart 0 2, .pgStop 96 0, .pgStop 0 2, .pgPeriodStart 96 0, .pgPeriodStart 0 2,
      .pgPulseEnd 96 0, .pgPulseEnd 0 2, .pgTrip 96 0, .pgTrip 0 2, .pgHeldClear 96 0, .pgHeldClear 0 2,
      .contextLaunch 8 0, .contextDispatch 192, .add 192 0 0 0, .sub 192 0 0 0, .and 192 0 0 0, .or 192 0 0 0,
      .xor 192 0 0 0, .shl 192 0 0 0, .shr 192 0 0 0] :
      List Instr).all (fun i => !i.wf) = true := by
  decide +kernel

/-- The first operand past each bound is refused, part 2. -/
theorem test_wf_refuses_2 :
    ([.sar 192 0 0 0, .adds 192 0 0 0, .subs 192 0 0 0, .mul 192 0 0 0, .mulh 192 0 0 0, .mulhu 192 0 0 0, .mulq 192 0 0 0,
      .min 192 0 0 0, .max 192 0 0 0, .minu 192 0 0 0, .maxu 192 0 0 0, .abs 192 0 0, .addi 192 0 0 0, .andi 192 0 0 0,
      .ori 192 0 0 0, .xori 192 0 0 0, .shli 192 0 0 0, .shri 192 0 0 0, .sari 192 0 0 0, .lui 192 0 0, .cmpi 192 0 0,
      .addsi 192 0 0 0, .lw 192 0 0 0, .lh 192 0 0 0, .lhu 192 0 0 0, .lb 192 0 0 0, .lbu 192 0 0 0, .sw 192 0 0 0,
      .sh 192 0 0 0, .sb 192 0 0 0, .ioIn 192 0 0 0, .ioOut 192 0 0 0, .pairWordWrite 192 0, .registerWrite 192 0 0,
      .branch 192 0 0, .branch 0 13 0, .jal 192 0 0, .jr 192 0, .issueTw 192 0 0 0 0, .issueSpi 192 0 0 0 0,
      .issueUart 192 0 0 0 0, .issueAna 192 0 0 0 0, .issuePulse 192 0 0, .transactionSlotFree 8, .stampRead 192 0 0,
      .emit 192 0 0 0, .emitS 192 0 0 0, .millSubmit 192 0 0 0, .sieveOffer 192 0 0, .signalLow 192 0, .signalHigh 192 0,
      .signalPulse 192 0, .awaitComp 192 0 0, .awaitEdge 192 0 0 0 1, .awaitEdge 0 0 0 0 0, .awaitTime 192 0 0 0,
      .awaitLine 192 0 0 true, .awaitResume 192 0, .yield 192, .trap 192 0, .reservedOpcode 192, .pcend 192, .frameBegin 8,
      .entryNominalInstant 8 0, .windowEnd 8 0, .nextImageWrite 8 0 0 [], .nextImageWrite 0 16 0 [],
      .millOutputComputed 128, .millSlot 128, .millRound 8, .sieveOfferEval 8, .sieveTimerExpiry 512,
      .sieveSilenceExpiry 512, .maxAgeExpiry 4096, .batchAssemble 16, .crierWake 16, .wakeRetryExpiry 16,
      .logFlushExpiry 8 0, .nvPageWriteDone 8 0 0 true, .logTrigger 16] :
      List Instr).all (fun i => !i.wf) = true := by
  decide +kernel

/-- The first operand past each bound is refused, part 3. -/
theorem test_wf_refuses_3 :
    ([.captureStart 8 0, .captureEnd 8 0, .wearLevelCheck 8, .nvScanDone 8, .tallyTick 256, .tallyLinkAction 256,
      .tallyStart 256, .tallyStop 256, .tallyReset 256, .unitStart 64 0, .unitReset 64 0, .topWrite 256 0, .cmpWrite 256 0,
      .tallyCapture 256 true, .tallyPairedRise 256, .tallyPairedFall 256, .matrixRowChange 8 0 true,
      .matrixRowChange 0 80 true, .crossDieLineFault 8 0 true, .crossDieLineFault 0 16 true, .stateReqRun 16,
      .stateReqHalt 16, .parishStateChange 8 0, .parishStateChange 0 16, .testTimeExpiry 16, .keyWrite 16 0 [],
      .sessionOpen { port := 3 }, .sessionConfirm { port := 3 }, .sessionClose { port := 3 }, .openBlockExpiry 16,
      .fwImageWrite 16 0 [], .fwSwitch 16 0 0, .ethFrameOther 3, .adpFrameReject 3 true [], .adpPing { port := 3 },
      .adpRead { port := 3 }, .adpWrite { port := 3 }, .adpReadBlock { port := 3 }, .adpWriteBlock { port := 3 },
      .adpAbort { port := 3 }, .adpStreamRequest { port := 3 }, .sleepVoteSleep { port := 3 },
      .sleepVoteStay { port := 3 }, .adpWakeNotice { port := 3 }, .adpHubOpcodeReceived 5 { port := 3 },
      .adpHubOpcodeReceived 16 {}, .adpHubOpcodeReceived 7 {}, .deliveryWindowOpen 3 0, .deliveryWindowOpen 0 8,
      .announcePeriodExpiry 3, .plcaCycle 3, .plcaInactive 3, .linkDown 3, .linkUp 3, .failback 3, .txDiscardTimeout 3,
      .networkWakeActivity 3, .networkWakePattern 3, .commitPending 0 16 0, .applyPending 0 16 0, .discardPending 0 16,
      .commitDieApply 8, .soRelease 65536, .restartDelayExpiry 8 0, .restartDelayExpiry 0 2, .lockstepMismatch 8,
      .watchdogService 8, .watchdogTimeout 8, .clockMonitorFault 8 3 0, .clockMonitorFault 0 0 0, .clockMonitorFault 0 7 0,
      .supplyMonitorFault 8 3 0, .supplyMonitorFault 0 0 0, .supplyMonitorFault 0 6 0, .thermalWarning 8 0,
      .thermalShutdown 8 0 [] [], .tripTestPulseStart 8 0, .tripTestPulseStart 0 2, .tripTestDeadline 8 1 true 0,
      .tripTestDeadline 0 0 true 0] :
      List Instr).all (fun i => !i.wf) = true := by
  decide +kernel

/-- The first operand past each bound is refused, part 4. -/
theorem test_wf_refuses_4 :
    ([.tripTestDeadline 0 4 true 0, .tripTestPulseEnd 8, .outputReadbackFault 8 0 true, .outputReadbackFault 0 2 true,
      .soCurrentLimitExpiry 8 0, .soCurrentLimitExpiry 0 2, .pairDigestCompare 8 0, .comparatorWake 96,
      .sentinelCrierWake 512, .voltageConfirmed 8, .opSwitchPause 8, .sysPllChecked 8, .relockTimeout 8,
      .converterDerate 5 0 0, .scrubWord 8 0 0 0 0, .scrubWord 0 4 0 0 0, .reloadCopyWrite 8 0 0, .reloadApply 8 0 [],
      .rotaFailover 8 [], .temperatureCheck 8 0, .calReq 96, .calItemDone 0 0 [] [], .calItemDone 0 11 [] [],
      .calItemDone 8 8 [] [], .forcedCalWindow 96, .dieStartupTimeout 8, .portLoopL0 96, .portLoopL1 96, .portLoopL2 96,
      .portLoopL3 96, .netLoopMac 3 0, .netLoopPcs 3 0, .netLoopPma 3 0, .netLoopRemote 3 0, .remoteFrameReflect 3 [],
      .loopTimeoutExpiry 3, .ringLoop 8, .loopbackDone 4 0 0 0, .loopbackDone 1 0 7 0, .loopbackDone 1 3 0 0,
      .ptpFollowUpReceive 3 0 0, .ptpDelayRequestReceive 3 0 true, .announceReceiptTimeout 3, .quarantineProbePassed 96 0,
      .transmitOpportunity 3, .netLoopStop 3 0, .monitorReturnToBand 8 0 0, .soCurrentLimitHoldoffEnd 8 0,
      .soCurrentLimitHoldoffEnd 0 2] :
      List Instr).all (fun i => !i.wf) = true := by
  decide +kernel

/-! ### States and operands that meet the hypotheses of each statement -/

theorem test_met_SumsDifferencesAndShiftsSetFlags :
    (∀ i ∈ [Instr.add 0 1 2 3, .sub 0 0 15 8, .addi 0 7 1 0x3FFFF, .cmpi 0 1 0x20000], Runs (onto i) 0 0 i) ∧
      ∀ i ∈ [Instr.shl 0 1 2 3, .shr 0 1 2 3, .sar 0 8 9 10, .shli 0 1 2 0, .shri 0 1 2 31, .sari 0 1 2 1],
        Runs (onto i) 0 0 i := by
  decide +kernel

theorem test_met_LogicProductsExtremaAndSaturation :
    (∀ i ∈ [Instr.and 0 1 2 3, .or 0 1 2 3, .xor 0 1 2 3, .andi 0 1 2 0x3FFFF, .ori 0 1 2 1, .xori 0 1 2 0, .mul 0 1 2 3,
        .mulh 0 1 2 3, .mulhu 0 1 2 3, .min 0 1 2 3, .max 0 1 2 3, .minu 0 1 2 3, .maxu 0 1 2 3, .lui 0 1 0x3FFFF],
        Runs (onto i) 0 0 i) ∧
      ∀ i ∈ [Instr.adds 0 1 2 3, .subs 0 1 2 3, .addsi 0 1 2 0x20000, .mulq 0 1 2 3, .abs 0 1 2], Runs (onto i) 0 0 i := by
  decide +kernel

/-- The last aligned address of each width, and an address beside it that the statement's other branch takes. -/
theorem test_met_LoadsAndStoresReachAlignedScratch :
    (∀ i ∈ [Instr.lw 0 1 0 1020, .lw 0 1 0 1021, .lh 0 1 0 1022, .lh 0 1 0 1023, .lhu 0 1 0 0, .lhu 0 1 0 1024, .lb 0 1 0 1023,
        .lb 0 1 0 1024, .lbu 0 1 0 1023, .lbu 0 1 0 0x3FFFF], Runs (onto i) 0 0 i) ∧
      ∀ i ∈ [Instr.sw 0 1 0 1020, .sw 0 1 0 1022, .sh 0 1 0 1022, .sh 0 1 0 1024, .sb 0 1 0 1023, .sb 0 1 0 1024],
        Runs (onto i) 0 0 i ∧ ScratchSound (onto i) := by
  decide +kernel

/-- IN, or OUT, at an address. -/
def ioOp (out : Bool) (a : Nat) : Instr :=
  if out then .ioOut 0 1 0 (BitVec.ofNat 18 a) else .ioIn 0 1 0 (BitVec.ofNat 18 a)

/-- IN and OUT at each kind of address: not a word's, another parish's port, a port whose domain is down, a port, and the
engine's own space up to its last word. -/
theorem test_met_InAndOutReachTheIoSpace :
    (∀ out ∈ [false, true], ∀ a ∈ [2, 0xFFE, 0x1000], Runs (onto (ioOp out a)) 0 0 (ioOp out a) ∧
        (addrOf (onto (ioOp out a)) 0 0 0 (BitVec.ofNat 18 a) % 4 ≠ 0 ∨ 0xFFF < addrOf (onto (ioOp out a)) 0 0 0 (BitVec.ofNat 18 a))) ∧
      (∀ out ∈ [false, true], ∀ a ∈ [0x2C8, 0x2CC, 0x2D0], addrOf (onto (ioOp out a)) 0 0 0 (BitVec.ofNat 18 a) = a ∧
        (∀ s ∈ [disowned (onto (ioOp out a)) 1 11], Runs s 0 0 (ioOp out a) ∧ ¬Owns s 0 (portOwner s 11)) ∧
        (∀ s ∈ [onto (ioOp out a)], Runs s 0 0 (ioOp out a) ∧ Owns s 0 (portOwner s 11) ∧ domainOn s 11 = false) ∧
        ∀ s ∈ [powered (onto (ioOp out a)) 11],
          Runs s 0 0 (ioOp out a) ∧ Owns s 0 (portOwner s 11) ∧ domainOn s 11 = true) ∧
      ∀ out ∈ [false, true],
        ∀ a ∈ [0xF00, 0xF04, 0xF08, 0xF0C, 0xF10, 0xF14, 0xF18, 0xF20, 0xF24, 0x300, 0xEFC, 0xF28, 0xFFC],
          Runs (onto (ioOp out a)) 0 0 (ioOp out a) ∧ addrOf (onto (ioOp out a)) 0 0 0 (BitVec.ofNat 18 a) = a := by
  refine ⟨?_, ?_, ?_⟩ <;> decide +kernel

/-- A context runs on engine 0, and port 11 is its parish's and powered. -/
theorem test_met_InAndOutReachTheIoSpace_registers :
    let s := powered (running 0) 11
    (0 < 24 * usedDies s ∧ (s.engAt 0).running = some 0) ∧ Owns s 0 (portOwner s 11) ∧ domainOn s 11 = true := by
  decide +kernel

theorem test_met_BranchesJumpsAndFaults :
    (∀ cond ∈ List.range 13, Runs (onto (.branch 0 (BitVec.ofNat 4 cond) 0x3FF)) 0 0 (.branch 0 (BitVec.ofNat 4 cond) 0x3FF)) ∧
      Runs (onto (.jal 0 1 0x3FF)) 0 0 (.jal 0 1 0x3FF) ∧
      (∀ v ∈ [0x3FF, 0x400], Runs (onto (.jr 0 1) { regs := [(1, BitVec.ofNat 32 v)] }) 0 0 (.jr 0 1) ∧
        (regOf (onto (.jr 0 1) { regs := [(1, BitVec.ofNat 32 v)] }) 0 0 1).toNat = v) ∧
      Runs (onto (.trap 0 0xFF)) 0 0 (.trap 0 0xFF) ∧
      (∀ s ∈ [running 0xFFFFFFFF], (s.engAt 0).running = some 0 ∧ (ctxOf s 0 0).live = true ∧ (ctxOf s 0 0).slotWait = false ∧
        (ctxOf s 0 0).pc < 1024 ∧ decodeWord 0 (nth 0 (s.engAt 0).prog (ctxOf s 0 0).pc) = none) ∧
      ∀ s ∈ [running 0 { pc := 1024 }], (s.engAt 0).running = some 0 ∧ (ctxOf s 0 0).live = true ∧ (ctxOf s 0 0).pc = 1024 := by
  decide +kernel

/-- The five operations: past the last port, at a port of another parish, at a port in another mode, at a port that fits with a slot
free and with none, and at a port whose domain is down. -/
theorem test_met_PortOperationsTakeASlotAndATicket :
    (∀ i ∈ [Instr.issueTw 0 1 2 0 0, .issueSpi 0 1 2 0 0, .issueUart 0 1 2 0 0, .issueAna 0 1 2 0 0, .issuePulse 0 1 2],
      (∀ s ∈ [onto i { regs := [(2, 12)] }], Runs s 0 0 i ∧ (regOf s 0 0 2).toNat = 12) ∧
      (∀ s ∈ [disowned (onto i { regs := [(2, 11)] }) 1 11],
        Runs s 0 0 i ∧ (regOf s 0 0 2).toNat = 11 ∧ ¬Owns s 0 (portOwner s 11)) ∧
      ∀ s ∈ [onto i { regs := [(2, 11)] }], Owns s 0 (portOwner s 11) ∧ domainOn s 11 = false ∧ (s.dieAt 0).freeSlots ≠ []) ∧
    (∀ p ∈ [(Instr.issueTw 0 1 2 0 0, 0), (.issueSpi 0 1 2 0 0, 1), (.issueUart 0 1 2 0 0, 2), (.issueAna 0 1 2 0 0, 3), (.issuePulse 0 1 2, 4)],
      ∀ s ∈ [powered (onto p.1 { regs := [(2, 11)] }) 11],
        Runs s 0 0 p.1 ∧ Owns s 0 (portOwner s 11) ∧ domainOn s 11 = true ∧ modeFits s 11 p.2 = false) := by
  refine ⟨?_, ?_⟩ <;> decide +kernel

/-- A port that fits each operation, with a slot free. -/
theorem test_met_PortOperationsTakeASlotAndATicket_fits :
    ∀ p ∈ [(Instr.issueTw 0 1 2 0 0, 0, twOk), (.issueSpi 0 1 2 0 0, 1, spiOk), (.issueUart 0 1 2 0 0, 2, uartOk),
        (.issueAna 0 1 2 0 0, 3, anaOk State.reset 11), (.issuePulse 0 1 2, 4, twOk)],
      ∀ s ∈ [set (atPorts (onto p.1 { regs := [(2, 11)] } { scratch := if p.2.1 = 3 then oneSample else [] })
          [(11, { powered := true, mode := p.2.1 + 1 })]) [(okey (portIdx 11 2) 1, [1])]],
        Runs s 0 0 p.1 ∧ Owns s 0 (portOwner s 11) ∧ domainOn s 11 = true ∧ modeFits s 11 p.2.1 = true ∧
          p.2.2 (Memory.readWord (s.engAt 0).scratch 0) (Memory.readWord (s.engAt 0).scratch 4) = true ∧
          (ctxOf s 0 0).tickets.length < 8 ∧ (s.dieAt 0).freeSlots ≠ [] := by
  decide +kernel

/-- A table that gives every key of a list one value gives it that value. -/
theorem tget_map_const (d v : Slot) (l : List Nat) (j : Nat) (h : j ∈ l) : tget d (l.map (fun k => (k, v))) j = v := by
  induction l with
  | nil => simp at h
  | cons a t ih =>
    simp only [List.map_cons, tget]
    split
    · rfl
    · exact ih ((List.mem_cons.1 h).resolve_left ‹_›)

/-- A die with every slot taken. -/
def fullDie : Die := { slots := (List.range 512).map (fun k => (k, { state := 1 })) }

/-- The same port with every slot of the die taken. -/
theorem test_met_PortOperationsTakeASlotAndATicket_full :
    fullDie.freeSlots = [] ∧
      ∀ s ∈ [{ onto (.issueTw 0 1 2 0 0) { regs := [(2, 11)] } with
          port := [(11, { powered := true, mode := 1 })], die := [(0, fullDie)] }],
        Runs s 0 0 (.issueTw 0 1 2 0 0) ∧ Owns s 0 (portOwner s 11) ∧ domainOn s 11 = true ∧ modeFits s 11 0 = true ∧ twOk 0 0 = true := by
  refine ⟨List.filter_eq_nil_iff.2 fun k hk => ?_, by decide +kernel⟩
  simp [Die.slotAt, fullDie, tget_map_const _ _ _ k hk]

/-- AWAIT of each kind. -/
theorem test_met_AwaitReturnsSuspendsAndResumes :
    (∀ s ∈ [onto (.awaitComp 0 1 2) { regs := [(2, 0x401)] }],
      Runs s 0 0 (.awaitComp 0 1 2) ∧ (ctxOf s 0 0).tickets.contains (regOf s 0 0 2).toNat = false) ∧
    (∀ st ∈ [1, 4], ∀ s ∈ [{ onto (.awaitComp 0 1 2) { regs := [(2, 0x401)], tickets := [0x401] } with
        die := [(0, { slots := [(1, { state := st, gen := 2 })] })] }],
      Runs s 0 0 (.awaitComp 0 1 2) ∧ (ctxOf s 0 0).tickets.contains (regOf s 0 0 2).toNat = true ∧
        ((s.dieAt 0).slotAt 1).state = st ∧ ((s.dieAt 0).slotAt 1).engine = 0 ∧ ((s.dieAt 0).slotAt 1).ctx = 0 ∧
        (regOf s 0 0 2).toNat = 1 + ((s.dieAt 0).slotAt 1).gen % 128 * 512) ∧
    (∀ s ∈ [onto (.awaitEdge 0 1 2 3 1) { regs := [(2, 12)] }], Runs s 0 0 (.awaitEdge 0 1 2 3 1) ∧ (regOf s 0 0 2).toNat = 12) ∧
    (∀ s ∈ [onto (.awaitEdge 0 1 2 3 1) { regs := [(2, 11)] }], Runs s 0 0 (.awaitEdge 0 1 2 3 1) ∧
      (regOf s 0 0 2).toNat = 11 ∧ Owns s 0 (portOwner s 11) ∧ Runs (disowned s 1 11) 0 0 (.awaitEdge 0 1 2 3 1) ∧
      ¬Owns (disowned s 1 11) 0 (portOwner (disowned s 1 11) 11)) ∧
    Runs (onto (.awaitTime 0 1 2 0xFFFF)) 0 0 (.awaitTime 0 1 2 0xFFFF) := by
  refine ⟨?_, ?_, ?_, ?_, ?_⟩ <;> decide +kernel

theorem test_met_AwaitReturnsSuspendsAndResumes_line :
    (∀ i ∈ [Instr.awaitLine 0 1 2 false, .awaitLine 0 1 2 true], ∀ s ∈ [onto i { regs := [(2, 64)] }],
      Runs s 0 0 i ∧ (regOf s 0 0 2).toNat = 64) ∧
    (∀ i ∈ [Instr.awaitLine 0 1 2 false, .awaitLine 0 1 2 true], ∀ s ∈ [onto i { regs := [(2, 63)] }],
      Runs s 0 0 i ∧ (regOf s 0 0 2).toNat = 63 ∧ Owns s 0 (colOwner s 0 63) ∧ (s.colAt 63).level = false) ∧
    (∀ i ∈ [Instr.awaitLine 0 1 2 false, .awaitLine 0 1 2 true], ∀ s ∈ [disowned (onto i { regs := [(2, 63)] }) 0xA 63],
      Runs s 0 0 i ∧ (regOf s 0 0 2).toNat = 63 ∧ ¬Owns s 0 (colOwner s 0 63)) ∧
    ∀ i ∈ [Instr.awaitLine 0 1 2 false, .awaitLine 0 1 2 true],
      ∀ s ∈ [{ onto i { regs := [(2, 63)] } with col := [(63, { level := true })] }],
        Runs s 0 0 i ∧ (regOf s 0 0 2).toNat = 63 ∧ Owns s 0 (colOwner s 0 63) ∧ (s.colAt 63).level = true := by
  refine ⟨?_, ?_, ?_, ?_⟩ <;> decide +kernel

/-- A context whose condition is met, one that waits for a slot, and one at the front of an idle engine's queue. -/
theorem test_met_AwaitReturnsSuspendsAndResumes_later :
    (∀ a ∈ [({ kind := 1, met := some 5 } : Await), { kind := 2, due := 0 }, { kind := 3, arg := 63 }, { kind := 3, sub := 1, met := some 5 }],
      ∀ s ∈ [{ running 0 { await := some a } with col := [(63, { level := true, stamp := 5 })] }],
        (ctxOf s 0 0).await = some a ∧ (ctxOf s 0 0).live = true ∧ (s.engAt 0).ready.contains 0 = false ∧
        ((a.kind = 1 ∧ a.met = some 5) ∨ (a.kind = 2 ∧ a.due ≤ 4 * s.time.elapsed) ∨
          (a.kind = 3 ∧ a.sub = 0 ∧ (s.colAt a.arg).level = true ∧ (s.colAt a.arg).stamp = 5) ∨
          (a.kind = 3 ∧ a.sub = 1 ∧ a.met = some 5))) ∧
    (∀ s ∈ [{ running 0 with die := [(0, { slotWaiters := [(0, 0)] })] }], (s.dieAt 0).slotWaiters = [(0, 0)] ∧
      (s.dieAt 0).freeSlots ≠ [] ∧ (s.engAt 0).ready.contains 0 = false) ∧
    ∀ s ∈ [{ State.reset with engine := [(0, { ready := [0] })] }], (s.engAt 0).running = none ∧ (s.engAt 0).ready = [0] := by
  refine ⟨?_, ?_, ?_⟩ <;> decide +kernel

theorem test_met_StampCopiesTheContextStamp :
    Runs (onto (.stampRead 0 0 0)) 0 0 (.stampRead 0 0 0) ∧ Runs (onto (.stampRead 0 15 15)) 0 0 (.stampRead 0 15 15) := by
  decide

/-- EMIT and EMIT.S past the last stream, with a payload past the scratch, to another parish's stream, to a ring with room and to a
stream without a ring; and YIELD. -/
theorem test_met_EmitAndYield :
    (∀ i ∈ [Instr.emit 0 1 2 2, .emitS 0 1 2 2], ∀ s ∈ [onto i { regs := [(1, 0x1F0)] }],
      Runs s 0 0 i ∧ 0x1EF < (regOf s 0 0 1).toNat) ∧
    (∀ i ∈ [Instr.emit 0 1 2 2, .emitS 0 1 2 2], ∀ s ∈ [onto i { regs := [(1, 0x1EF), (2, 1020)] }],
      Runs s 0 0 i ∧ ¬((regOf s 0 0 2).toNat % 4 = 0 ∧ (regOf s 0 0 2).toNat + 4 * 2 ≤ 1024)) ∧
    (∀ i ∈ [Instr.emit 0 1 2 2, .emitS 0 1 2 2], ∀ s ∈ [disowned (onto i { regs := [(1, 0x1EF), (2, 1016)] }) 4 0x1EF],
      Runs s 0 0 i ∧ (regOf s 0 0 1).toNat = 0x1EF ∧ (regOf s 0 0 2).toNat = 1016 ∧ ¬Owns s 0 (streamOwner s 0x1EF)) ∧
    (∀ i ∈ [Instr.emit 0 1 2 2, .emitS 0 1 2 2], ∀ s ∈ [onto i { regs := [(1, 0x1EF), (2, 1016)] }],
      Runs s 0 0 i ∧ (regOf s 0 0 1).toNat = 0x1EF ∧ Owns s 0 (streamOwner s 0x1EF) ∧ ringSize s 0x1EF = 0) ∧
    (∀ i ∈ [Instr.emit 0 1 2 2, .emitS 0 1 2 2],
      ∀ s ∈ [set (onto i { regs := [(1, 0x1EF), (2, 1016)] }) [(okey 0x71EF 1, [1]), allStreams]],
        Runs s 0 0 i ∧ (regOf s 0 0 1).toNat = 0x1EF ∧ Owns s 0 (streamOwner s 0x1EF) ∧ 0 < ringSize s 0x1EF ∧
          recBytes (s.streamAt 0x1EF).ring + (12 + 4 * 2) ≤ 256 * ringSize s 0x1EF) ∧
    ∀ f ∈ [0, 4], Runs (onto (.yield 0) { flags := f }) 0 0 (.yield 0) ∧ bitOf f 2 = decide (f = 4) := by
  refine ⟨?_, ?_, ?_, ?_, ?_, ?_⟩ <;> decide +kernel

/-- SIEVE past the last rule, to another parish's rule, to a rule that takes no offers, and to one that does. -/
theorem test_met_SieveMillAndSignalInstructions :
    (∀ s ∈ [onto (.sieveOffer 0 1 2) { regs := [(1, 64)] }], Runs s 0 0 (.sieveOffer 0 1 2) ∧ (regOf s 0 0 1).toNat = 64) ∧
    (∀ s ∈ [onto (.sieveOffer 0 1 2) { regs := [(1, 63)] }], Runs s 0 0 (.sieveOffer 0 1 2) ∧ (regOf s 0 0 1).toNat = 63 ∧
      Owns s 0 (ruleOwner s 63) ∧ ¬((s.ruleAt 63).img.present = true ∧ (s.ruleAt 63).img.srcKind = 1) ∧
      Runs (disowned s 7 63) 0 0 (.sieveOffer 0 1 2) ∧ ¬Owns (disowned s 7 63) 0 (ruleOwner (disowned s 7 63) 63)) ∧
    (∀ n ∈ [63, 64], ∀ s ∈ [{ onto (.sieveOffer 0 1 2) { regs := [(1, 63)] } with
        rule := [(63, { img := { present := true, srcKind := 1 } })], die := [(0, { offers := List.replicate n {} })] }],
      Runs s 0 0 (.sieveOffer 0 1 2) ∧ Owns s 0 (ruleOwner s 63) ∧ (s.ruleAt 63).img.present = true ∧ (s.ruleAt 63).img.srcKind = 1 ∧
        (s.dieAt 0).offers.length = n) := by
  refine ⟨?_, ?_, ?_⟩ <;> decide +kernel

/-- MILL past the last channel, to another parish's channel, to one that is off, and to one that takes its first sample. -/
theorem test_met_SieveMillAndSignalInstructions_mill :
    (∀ s ∈ [onto (.millSubmit 0 1 2 3) { regs := [(1, 16)] }], Runs s 0 0 (.millSubmit 0 1 2 3) ∧ (regOf s 0 0 1).toNat = 16) ∧
    (∀ s ∈ [disowned (onto (.millSubmit 0 1 2 3) { regs := [(1, 15)] }) 6 15], Runs s 0 0 (.millSubmit 0 1 2 3) ∧
      (regOf s 0 0 1).toNat = 15 ∧ ¬Owns s 0 (millOwner s 15)) ∧
    ∀ on ∈ [false, true], ∀ s ∈ [{ onto (.millSubmit 0 1 2 3) { regs := [(1, 15)] } with mill := [(15, { img := { enable := on } })] }],
      Runs s 0 0 (.millSubmit 0 1 2 3) ∧ Owns s 0 (millOwner s 15) ∧ (s.millAt 15).img.enable = on ∧ (s.millAt 15).lastIn = none ∧
        (regOf s 0 0 2).getLsbD 30 = false := by
  refine ⟨?_, ?_, ?_⟩ <;> decide +kernel

/-- SIGNAL past the last line, of a line that no row of the parish takes, and of one that a row takes. -/
theorem test_met_SieveMillAndSignalInstructions_signal :
    (∀ i ∈ [Instr.signalLow 0 1, .signalHigh 0 1, .signalPulse 0 1], ∀ s ∈ [onto i { regs := [(1, 64)] }],
      Runs s 0 0 i ∧ (regOf s 0 0 1).toNat = 64) ∧
    ∀ i ∈ [Instr.signalLow 0 1, .signalHigh 0 1, .signalPulse 0 1], ∀ r ∈ [[], [(0, { src := 0x8000 + 63 })]],
      ∀ s ∈ [{ onto i { regs := [(1, 63)] } with row := r }], Runs s 0 0 i ∧ (regOf s 0 0 1).toNat = 63 ∧ (engOwner s 0).isSome = true ∧
        s.row.any (fun x => x.1 / 256 == 0 && x.2.src == 0x8000 + 63 && rowOwner s 0 (x.1 % 256) == engOwner s 0) = !r.isEmpty := by
  refine ⟨?_, ?_⟩ <;> decide +kernel

theorem test_met_PortModeSupplyAndEmitterRegisters :
    (∀ s ∈ [late (portState { nextMode := some 4, modeAt := 999997500 })], hasPort s 95 ∧ (s.portAt 95).nextMode = some 4 ∧
      (s.portAt 95).mode = 0 ∧ (s.portAt 95).modeAt + 2500 ≤ s.time.elapsed) ∧
    (∀ l ∈ [[], [allPorts]], ∀ s ∈ [set (portState {}) l], hasPort s 95 ∧ domainOn s 95 = true ∧ vpBarred s 95 = l.isEmpty) ∧
    (∀ s ∈ [portState { vpOn := true, quar := [{ code := 3, probing := true }, { code := 1 }] }], hasPort s 95 ∧
      (s.portAt 95).vpClosed = true) ∧
    ∀ s ∈ [opState {} { state := 3, kind := 2 }], hasPort s 11 ∧ HeadOp s 11 511 3 2 := by
  decide +kernel

/-- Each cause enters quarantine, each reason is probed and passed. -/
theorem test_met_QuarantineIsEnteredProbedAndLeft :
    (hasPort State.reset 95 ∧ domainOn State.reset 95 = false) ∧
    (∀ s ∈ [{ liveState with die := [(7, { lost := true })] }], hasPort s 95 ∧ dieOff s (95 / 12) = true) ∧
    (∀ s ∈ [late (opState { mode := 3, vpOn := true, pgood := true, overWins := 3 } { state := 2, kind := 2 })], hasPort s 11 ∧
      (s.portAt 11).vpClosed = true ∧ 3 ≤ (s.portAt 11).overWins ∧ (s.portAt 11).mode = 3 ∧ domainOn s 11 = true ∧ dieOff s (11 / 12) = false ∧
      pinSteady s 11 (rxdPin s 11) false (250000 * cfg s (0x4000 + 64 * 11) 8 100) = true ∧ (∀ code ∈ [2, 3, 4, 5], (s.portAt 11).holds code = false) ∧
      (∀ k ∈ (s.portAt 11).queue, (slotOf s 11 k).port = 11 ∧ (slotOf s 11 k).state = 2 ∧ (slotOf s 11 k).orphan = false)) ∧
    ∀ reason ∈ [1, 2, 3, 4], ∀ s ∈ [late (portState {
        pinIn := 2, pgood := true, pgoodAt := 997500000, recovering := true
        quar := [{ code := reason, probing := true, nextAt := 1000000000 }] })],
      hasPort s 95 ∧ domainOn s 95 = true ∧ dieOff s (95 / 12) = false ∧
      (s.portAt 95).holds reason = true ∧ (s.portAt 95).loopDepth = 0 ∧ (s.portAt 95).recovering = true ∧
      (s.portAt 95).pgood = true ∧ (s.portAt 95).pgoodAt + 2500000 ≤ s.time.elapsed ∧
      pinSteady s 95 (rxdPin s 95) true 250000 = true ∧
      ∃ r ∈ (s.portAt 95).quar, r.code = reason ∧ r.backoff = 10 ∧ r.probing = true ∧ r.nextAt ≤ s.time.elapsed := by
  refine ⟨?_, ?_, ?_, ?_⟩ <;> decide +kernel

/-- The fourth slot is granted to the port of parish 1, to the oldest request, or to the lower port. -/
theorem test_met_EmitterPulsesHoldGovernorSlots :
    (∀ s ∈ [{ opState {} { state := 2, kind := 4 } with
        die := [(0, { govWait := [3, 11], govHeld := [0, 1, 2], slots := [(511, { state := 2, kind := 4, port := 11 })] })]
        conf := [(okey (allocIdx 1) 1, [0, 8])] }],
      0 < usedDies s ∧ 11 ∈ (s.dieAt 0).govWait ∧ (∀ j ∈ (s.dieAt 0).govWait, j ≠ 11 → portOwner s 11 = some 1 ∧ portOwner s j ≠ some 1) ∧
        (s.dieAt 0).govHeld.length < 4 ∧ portReady s 11 = true ∧ (s.portAt 11).calItem ≠ 6 ∧ (s.portAt 11).queue.head? = some 511 ∧ (slotOf s 11 511).state = 2) ∧
    (∀ p ∈ [(11, 3, 7), (3, 11, 0)], ∀ s ∈ [{ State.reset with
        port := [(p.1, { powered := true, queue := [511] }), (p.2.1, { powered := true, queue := [510] })]
        die := [(0, { govWait := [11, 3], slots := [(511, { state := 2, kind := 4, port := p.1 }), (510, { heldAt := p.2.2 })] })] }],
      p.1 ∈ (s.dieAt 0).govWait ∧ (∀ j ∈ (s.dieAt 0).govWait, j ≠ p.1 → portOwner s p.1 ≠ some 1 ∧ portOwner s j ≠ some 1 ∧
          (govAsked s p.1 < govAsked s j ∨ (govAsked s p.1 = govAsked s j ∧ p.1 < j))) ∧
        (s.dieAt 0).govHeld.length < 4 ∧ portReady s p.1 = true ∧ (s.portAt p.1).calItem ≠ 6 ∧
        (s.portAt p.1).queue.head? = some 511 ∧ (slotOf s p.1 511).state = 2) ∧
    ∀ s ∈ [opState {} { state := 3, kind := 4 }], hasPort s 11 ∧ HeadOp s 11 511 3 4 := by
  decide +kernel

/-- A transfer that waits for its data-ready edge and one that does not; a block read of one byte, and of more than its limit. -/
theorem test_met_TwoWireTransfersTimeOutAndRecover :
    (∀ d0 ∈ [0, 0x200000], ∀ s ∈ [late (opState { mode := 1, pinIn := 3, edgeLatch := [(4, 9)] } { state := 2, d0 := BitVec.ofNat 32 d0 })],
      hasPort s 11 ∧ HeadOp s 11 511 2 0 ∧ portReady s 11 = true ∧ (s.portAt 11).mode = 1 ∧ busFree s 11 = true ∧
        bitOf (slotOf s 11 511).d0.toNat 21 = decide (d0 = 0x200000) ∧ (slotOf s 11 511).edgeTaken = false ∧
        (s.portAt 11).edgeLatch.find? (fun e => e.1 == drdyKey (slotOf s 11 511).d0) = some (drdyKey (slotOf s 11 511).d0, 9)) ∧
    (∀ ty ∈ [5, 7, 11], ∀ r ∈ [2, 3], ∀ s ∈ [opState { mode := 1 } { state := 3, d0 := BitVec.ofNat 32 (65536 * ty), d1 := 0x100, retries := r }],
      HeadOp s 11 511 3 0 ∧ (slotOf s 11 511).aborted = false ∧ 1 ≤ (twSends (slotOf s 11 511).d0 (slotOf s 11 511).wdata).length ∧ twType (slotOf s 11 511).d0 = ty ∧
        ([0xAA] : List Byte).length = field (slotOf s 11 511).d1.toNat 15 8 ∧
        field (slotOf s 11 511).d1.toNat 15 8 < (2 : Byte).toNat ∧
        (decide ((slotOf s 11 511).retries < cfg s (0x4000 + 64 * 11 + 4) 9 3)) = decide (r = 2) ∧ ScratchSound s) ∧
    (∀ rec ∈ [false, true], ∀ o ∈ [false, true], ∀ s ∈ [late (opState { mode := 1, recovering := rec } { state := 3, orphan := o })],
      (s.portAt 11).mode = 1 ∧ domainOn s 11 = true ∧ (s.portAt 11).quar = [] ∧ (s.portAt 11).recovering = rec ∧ HeadOp s 11 511 3 0 ∧
        (slotOf s 11 511).orphan = o ∧ ((s.engAt 0).ctxAt 0).budgetEnd ≤ s.time.elapsed ∧ (slotOf s 11 511).needsGov = false ∧
        ∀ p ∈ [0, 1], pinSteady s 11 p false (250000 * cfg s (0x4000 + 64 * 11 + 4) (if p = 1 then 0xB else 0xA) 25) = true) ∧
    ∀ r ∈ [none, some 511], ∀ s ∈ [opState { recovering := true, recSlot := r } { state := 3, status := 13 }],
      (s.portAt 11).recovering = true ∧ (s.portAt 11).holds 1 = false ∧ (s.portAt 11).recSlot = r ∧
        (slotOf s 11 511).port = 11 ∧ ∀ k ∈ (s.portAt 11).queue, (slotOf s 11 k).port = 11 := by
  refine ⟨?_, ?_, ?_, ?_⟩ <;> decide +kernel

/-- An SPI transfer of one byte with a read buffer; a UART reception that ends by count, by an error, and past its buffer. -/
theorem test_met_SpiAndUartTransfersEnd :
    (∀ s ∈ [opState {} { state := 3, kind := 1, d0 := 0x101 }], hasPort s 11 ∧ ScratchSound s ∧ HeadOp s 11 511 3 1 ∧
      ([0x5A] : List Byte).length = field (slotOf s 11 511).d0.toNat 7 0 ∧ bitOf (slotOf s 11 511).d0.toNat 8 = true) ∧
    (∀ s ∈ [opState {} { state := 3, kind := 1, orphan := true }], HeadOp s 11 511 3 1 ∧ field (slotOf s 11 511).d0.toNat 7 0 = 0 ∧
      (List.replicate 256 (0 : Byte)).length = 256 ∧ (slotOf s 11 511).orphan = true) ∧
    ∀ p ∈ [(0, [(1 : Byte)]), (0, [1, 2]), (4, []), (5, [1]), (7, [1])], ∀ s ∈ [opState {} { state := 3, kind := 2, d0 := 0x200 }],
      HeadOp s 11 511 3 2 ∧ field (slotOf s 11 511).d0.toNat 17 9 = 1 ∧ uartEnded (s.portAt 11) 1 p.2 p.1 = true := by
  refine ⟨?_, ?_, ?_⟩ <;> decide +kernel

theorem test_met_PortOperationsReachThePins :
    (∀ p ∈ [(1, 2, 0), (2, 3, 0), (3, 4, 0), (3, 4, 8)], ∀ s ∈ [opState { mode := p.2.1 } { state := 2, kind := p.1, d0 := BitVec.ofNat 32 p.2.2 }],
      hasPort s 11 ∧ portReady s 11 = true ∧ HeadOp s 11 511 2 p.1 ∧ (s.portAt 11).mode = p.2.1 ∧
        field (slotOf s 11 511).d0.toNat 3 2 = p.2.2 / 4 ∧ (s.portAt 11).calOffline = false ∧ (s.portAt 11).settling = false) ∧
    ∀ held ∈ [[], [0, 1, 2], [0, 1, 2, 3]], ∀ s ∈ [{ set (opState {} {}) [(okey (portIdx 11 2) 1, [1])] with
        die := [(0, { govHeld := held, slots := [(511, { state := 2, kind := 4, port := 11 })] })] }],
      portReady s 11 = true ∧ HeadOp s 11 511 2 4 ∧ modeFits s 11 4 = true ∧ (s.dieAt 0).govWait = [] ∧ 11 ∉ (s.dieAt 0).govWait ∧
        decide ((s.dieAt 0).govHeld.length < 4) = decide (held.length < 4) := by
  refine ⟨?_, ?_⟩ <;> decide +kernel

/-- A conversion with room for its sample, and the ends of the three kinds of operation. -/
theorem test_met_ConversionsAndAnalogueOperations :
    (∀ raw ∈ [(-32768 : Int), 0, 32767], ∀ s ∈ [opState { mode := 4 } { state := 3, kind := 3, d0 := 0x100 }], hasPort s 11 ∧
      HeadOp s 11 511 3 3 ∧ field (slotOf s 11 511).d0.toNat 3 2 = 0 ∧ cfg s (0x4000 + 64 * 11 + 8) 3 0 = 0 ∧
      (s.portAt 11).stepped = false ∧ (s.portAt 11).patchNext = false ∧
      (s.portAt 11).samples.length < anaCount (slotOf s 11 511).d0 ∧
      -(2 ^ 26) ≤ sampleValue (s.portAt 11) (rangeOf s 11 0) raw ∧ sampleValue (s.portAt 11) (rangeOf s 11 0) raw < 2 ^ 26) ∧
    ((32768 : Int) < -32768 ∨ 32767 < (32768 : Int)) ∧
    (∀ s ∈ [opState { mode := 4, samples := [{}] } { state := 3, kind := 3, d0 := 0x100 }], HeadOp s 11 511 3 3 ∧ ScratchSound s ∧
      field (slotOf s 11 511).d0.toNat 3 2 = 0 ∧ (s.portAt 11).samples.length = anaCount (slotOf s 11 511).d0 ∧
      (s.portAt 11).patchNext = false) ∧
    (∀ s ∈ [opState { mode := 4, samples := List.replicate 16 {} } { state := 3, kind := 3, d0 := 4, d1 := 0x100 }],
      HeadOp s 11 511 3 3 ∧ ScratchSound s ∧ field (slotOf s 11 511).d0.toNat 3 2 = 1 ∧
      (s.portAt 11).samples.length = 16 * (field (slotOf s 11 511).d1.toNat 10 9 + 1) ∧ bitOf (slotOf s 11 511).d1.toNat 8 = true) ∧
    ∀ q ∈ [(0, 0, some 4), (1, 0, none), (0xFF, 0xFF, none), (1, 0, some 3)],
      ∀ s ∈ [late (set (opState { mode := 4, rampEdge := q.2.2 } { state := 3, kind := 3, d0 := 8 })
          [(okey (portIdx 11 12) 2, [BitVec.ofNat 8 q.1, BitVec.ofNat 8 q.2.1])])],
        HeadOp s 11 511 3 3 ∧ field (slotOf s 11 511).d0.toNat 3 2 = 2 ∧ rampEndAt s 11 < 2 ^ 26 ∧
        rampEndAt s 11 ≤ 16 * (s.time.elapsed - (s.portAt 11).rampAt) ∧ (∀ u, (s.portAt 11).rampEdge = some u → u ≤ rampEndAt s 11) ∧
        decide (cfg s (0x4000 + 64 * 11 + 12) 2 0 = 0) = decide (q.1 = 0) := by
  refine ⟨?_, ?_, ?_, ?_, ?_⟩ <;> decide +kernel

theorem test_met_ComparatorsTripLatchAndClear :
    ∀ o ∈ [false, true], ∀ s ∈ [late (portState { mode := 4, cmpOff := false, c0 := { out := o }, c1 := { out := o }, win := { out := true } })],
      hasPort s 95 ∧ (s.portAt 95).powered = true ∧ (s.portAt 95).cmpOff = false ∧ (s.portAt 95).c0.out = o ∧ (s.portAt 95).c1.out = o ∧
      (∀ j ∈ [0, 1, 2], 0 + filterTicks (cfg s (0x4000 + 64 * 95 + 9 + j) 0xD 0) ≤ s.time.elapsed) ∧ domainOn s 95 = true ∧ (s.portAt 95).mode = 4 ∧ (s.portAt 95).win.out = true ∧
      ∀ j ∈ [0, 1, 2], cfg s (0x4000 + 64 * 95 + 9 + j) 0xC 0 = 0 ∧ cfg s (0x4000 + 64 * 95 + 9 + j) 0xD 0 = 0 := by
  decide +kernel

/-- A generator that is idle, one that runs, one that is held, and one whose trip truncates or shuts down. -/
theorem test_met_PulseGeneratorsRunStopAndTrip :
    (∀ g ∈ [0, 1], ∀ s ∈ [set (portState { mode := 4 }) [(okey (0x4000 + 64 * 95 + 13 + g) 1, [1])]], hasPort s 95 ∧
      domainOn s 95 = true ∧ (s.portAt 95).mode = 4 ∧ cfg s (0x4000 + 64 * 95 + 13 + g) 1 0 ≠ 0 ∧ (portPg (s.portAt 95) g).run = false ∧ padsHeld s 95 = false) ∧
    (∀ g ∈ [0, 1], ∀ h ∈ [false, true], ∀ a ∈ [none, some 5],
      ∀ s ∈ [late (portState { pg0 := { run := true, held := h, periodAt := a }, pg1 := { run := true, held := h, periodAt := a } })],
      (∀ b, a = some b → b + cfg s (0x4000 + 64 * 95 + 13 + g) 2 0 ≤ s.time.elapsed ∧
        b + cfg s (0x4000 + 64 * 95 + 13 + g) 3 0 ≤ s.time.elapsed) ∧
      (portPg (s.portAt 95) g).run = true ∧ (portPg (s.portAt 95) g).out = false ∧ (portPg (s.portAt 95) g).held = h ∧
        pgTripped s 95 g = false ∧ cfg s (0x4000 + 64 * 95 + 13 + g) 8 0 ≠ 1 ∧ cfg s (0x4000 + 64 * 95 + 13 + g) 6 0 = 0) ∧
    ∀ g ∈ [0, 1], ∀ act ∈ [1, 2], ∀ p ∈ [({ run := true, out := true } : PulseGen)],
      ∀ s ∈ [set (portState { pg0 := p, pg1 := p, c0 := { filtered := true } })
        [(okey (0x4000 + 64 * 95 + 13 + g) 6, [1]), (okey (0x4000 + 64 * 95 + 13 + g) 7, [BitVec.ofNat 8 act])]],
      (portPg (s.portAt 95) g).out = true ∧ pgTripped s 95 g = true ∧ pgAct s 95 g = act := by
  refine ⟨?_, ?_, ?_⟩ <;> decide +kernel

/-- An engine's context that owns a port in DIGITAL mode, whose pin 3 a column drives or none does; a port in UNCONFIGURED, one on a
lost die, and one whose VP switch is closed. -/
theorem test_met_BallsShowWhatAPortDrives :
    (∀ c ∈ [[], [(5, { dest := 0x5000 + 4 * 11 + 3, level := true })]],
      ∀ s ∈ [{ set (atPorts (running 0) [(11, { powered := true, mode := 5, pinOe := 8 })]) [(okey (portIdx 11 0) 1, [5])] with col := c }],
        0 < 24 * usedDies s ∧ (s.engAt 0).running = some 0 ∧ Owns s 0 (portOwner s 11) ∧ domainOn s 11 = true ∧ pinsWork s 11 = true ∧
          (s.portAt 11).mode = 5 ∧ modeOf s 11 = 5) ∧
    ((portState {}).portAt 95).mode = 0 ∧ (({ State.reset with die := [(7, { lost := true })] } : State).dieAt (95 / 12)).lost = true ∧
    ((portState { vpOn := true, vpSel := 1 }).portAt 95).vpClosed = true := by
  decide +kernel

/-- No slew, a slew of a whole step, and the last of one; the time base before its carry. -/
theorem test_met_TimeTickAddsTheEffectiveIncrement :
    ∀ sl ∈ [none, some ({ residual := 1 } : Slew), some { residual := -10000000 }],
      ∀ s ∈ [{ liveState with time := { nanos := 999999999, frac := 4294967295, rateForce := 0x40083126F, slewLimit := 1000, slew := sl } }],
        timeRuns s = true ∧ TimeSound s.time := by
  decide +kernel

/-- The least RATE that a retune follows, above and below, after 10 s. -/
theorem test_met_TimeWritesWaitForTheAlignmentFrame :
    ∀ r ∈ [0x400000000 + 343598, 0x400000000 - 343598],
      ∀ s ∈ [{ liveState with servo := { status := 2 }, time := { rate := r, farAt := some 5, elapsed := 2500000005 } }],
        s.servo.status = 2 ∧ s.time.farAt = some 5 ∧ 5 + 2500000000 ≤ s.time.elapsed ∧
          343597 < ((s.time.rate : Int) - 0x400000000).natAbs := by
  decide +kernel

theorem test_met_AlignmentFramesAndSlews :
    (∀ p ∈ [(none, none), (none, some ((5 : Int), true)), (none, some (5, false)), (none, some (0, false)), (some 7, some (5, false))],
      ∀ s ∈ [{ liveState with time := { setPend := p.1, offPend := p.2 } }],
        timeRuns s = true ∧ s.time.setPend = p.1 ∧ s.time.offPend = p.2) ∧
    ∀ s ∈ [{ liveState with time := { slew := some { residual := -1717985 } } }], timeRuns s = true ∧
      TimeSound s.time ∧ s.time.slew = some { residual := -1717985 } ∧
      (-1717985 : Int).natAbs < s.time.slewLimit * (4 * 2 ^ 32) / 1000000 := by
  decide +kernel

/-- A port that hears its domain, as a follower and as the grandmaster; one that steers the time base and one that does not. -/
theorem test_met_PtpMessagesAreTakenAndSent :
    (∀ st ∈ [6, 8, 9], ∀ s ∈ [{ liveState with
        ptp := [(2, { state := st, syncIngress := some 5, syncPair := some (1, 2), reqEgress := some 3 })] }],
      portLive s 2 = true ∧ ptpHears s 2 0 = true ∧ ptpEnabled s 2 = true ∧ (s.ptpAt 2).state = st ∧ steers s 2 = true ∧ steerPort s 2 = true ∧
        (s.ptpAt 2).syncIngress = some 5 ∧ (s.ptpAt 2).syncPair = some (1, 2) ∧ (s.ptpAt 2).reqEgress = some 3 ∧
        cfg s (0x3100 + 16 * 2) 4 2 ≠ 0) ∧
    (∀ s ∈ [set liveState [(okey 0x3020 1, [0]), (okey 0x3120 2, [1]), (okey 0x3120 4, [0])]], steers s 2 = false ∧ steerPort s 2 = true ∧
      steerPort s 1 = false ∧ ptpEnabled s 2 = true ∧ (s.ptpAt 2).state ≠ 6 ∧ (s.ptpAt 2).state ≠ 3 ∧ ptpHears s 2 0 = true ∧ cfg s (0x3100 + 16 * 2) 2 0 = 1 ∧ cfg s (0x3100 + 16 * 2) 4 2 = 0 ∧ (s.ptpAt 2).gmPrio = 0 ∧
      (s.ptpAt 2).gm = 0) ∧
    (∀ st ∈ [1, 2, 3], ∀ s ∈ [late { liveState with servo := { status := st } }], steers s 2 = true ∧ s.servo.status = st ∧
      s.servo.heardAt + cfg s 0x3020 7 4 * syncTicks s 2 ≤ s.time.elapsed) ∧
    ∀ s ∈ [set liveState [(okey 0x3120 4, [2])]], ptpEnabled s 2 = true ∧ cfg s (0x3100 + 16 * 2) 4 2 = 2 ∧ (s.ptpAt 2).state ≠ 6 ∧
      (s.ptpAt 2).state ≠ 3 := by
  decide +kernel

/-- A request in RUN, in the state itself, on the way into one, during the start-up of parish 1 and while a point switches; each
expiry. -/
theorem test_met_PowerEntriesBeginDrainAndReturn :
    (∀ target ∈ [2, 3, 4], ∀ st ∈ [target - 1, target], ∀ s ∈ [withPower liveState { state := st }],
      s.power.state = st ∧ s.power.state ≤ 4 ∧ s.power.opBusy = false ∧ starting s = false) ∧
    (∀ s ∈ [{ liveState with parish := [(1, { state := 1 })] }], starting s = true) ∧
    (∀ p ∈ [({ state := 5 } : Power), { state := 6 }, { opBusy := true }], p.state = 5 ∨ p.state = 6 ∨ p.opBusy = true) ∧
    (∀ st ∈ [0, 1, 2, 3], ∀ s ∈ [{ set (withPower liveState { state := st, lprcAt := 5, lprc := 5 + 32768 * 3600 })
        [(okey 0xC000 3, [1]), (okey 0xC000 4, [1]), (okey 0xC000 5, [1])] with timers := { idleRun := 250000, sleepRun := 250000000 } }],
      s.power.state = st ∧ 25000 * cfg s 0xC000 2 10 ≤ s.timers.idleRun ∧ 250000000 * cfg s 0xC000 3 0 ≤ s.timers.sleepRun ∧
      s.power.lprcAt + 32768 * (3600 * cfg s 0xC000 5 0) ≤ s.power.lprc ∧ s.power.lprcAt + 32768 * cfg s 0xC000 4 0 ≤ s.power.lprc ∧
      s.dictReady = true ∧ cfg s 0xC000 2 10 ≠ 0 ∧ s.net.waiting = [] ∧ parishState s 1 ≠ 2 ∧ cfg s 0x0800 6 0 = 0 ∧
      cfg s 0xC000 3 0 ≠ 0 ∧ cfg s 0xC000 4 0 ≠ 0 ∧ cfg s 0xC000 5 0 ≠ 0 ∧ s.power.opBusy = false) ∧
    (∀ s ∈ [{ withPower liveState { state := 5, enteredAt := 7 } with time := { elapsed := 50007 } }], s.power.state = 5 ∧
      s.power.drained = false ∧ s.power.enteredAt + 50000 ≤ s.time.elapsed) ∧
    (∀ target ∈ [2, 3, 4], ∀ s ∈ [withPower liveState { state := 5, drained := true, target := target, lprcEnd := 4 }],
      inFinal s = true ∧ 4 ≤ s.power.lprcEnd ∧ s.power.target = target ∧ s.power.pendReq ≠ 1) ∧
    ∀ s ∈ [withPower liveState { state := 6, target := 3 }], s.power.state = 6 ∧ s.power.pendReq = 0 := by
  decide +kernel

/-- Each wake source enabled, in SLEEP. -/
theorem test_met_WakesStartTheReturnOrAreLatched :
    (∀ v ∈ [1, 2], ∀ e ∈ [false, true], ∀ s ∈ [set (withPower liveState { state := if e then 5 else 2, drained := e })
        [(okey 0xC000 7, [BitVec.ofNat 8 v]), (okey 0x0830 10, [BitVec.ofNat 8 v])]],
      2 ≤ s.power.state ∧ inFinal s = e ∧ cfg s 0xC000 7 1 = v ∧ cfg s (0x0810 + 16 * 2) 1 1 = 1 ∧ cfg s (0x0810 + 16 * 2) 0xA 2 = v) ∧
    (∀ s ∈ [{ set (withPower liveState { state := 2, lprc := 32768 }) [(okey 0xC000 6, [1]), (okey 0xC000 8, [1])] with
        tally := [(3, { matched := true })], svc := { awake := false }, parish := [(0, { hostAsleep := true })] }],
      2 ≤ s.power.state ∧ (s.tallyAt 3).matched = true ∧ cfg s 0xC000 8 0 = 1 ∧ cfg s 0xC000 6 0 ≠ 0 ∧ s.svc.awake = false ∧
        s.svc.wokenAt = none ∧ s.power.state ≠ 4 ∧ inFinal s = false ∧ 32768 * cfg s 0xC000 6 0 ≤ s.power.lprc ∧ sinceWake s 0 (cfg s (granIdx 0) 8 100) = false ∧ 63 < usedDies s * 64 ∧ s.power.state = 2 ∧ ruleOwner s 63 = some 0 ∧ (s.parAt 0).hostAsleep = true) ∧
    ∀ s ∈ [set (withPower liveState { state := 2 }) [(okey 0xC000 9, List.replicate 12 0xFF), (okey (padIdx 95) 6, [8])]],
      2 ≤ s.power.state ∧ hasPort s 95 ∧ wakePort s 95 = true := by
  refine ⟨?_, ?_, ?_⟩ <;> decide +kernel

/-- A point that SUPPORTED does not name, one that it names, one that parish 1 or derating forbids, and a switch under way. -/
theorem test_met_OperatingPointsSwitchAndDerate :
    (∀ s ∈ [liveState], ∃ d < 8, d < usedDies s ∧ (0xFFFD : Nat) / 4 ^ d % 4 ≠ 3 ∧
      bitOf (cfg s (0xC010 + d) 2 1) ((0xFFFD : Nat) / 4 ^ d % 4) = false) ∧
    (∀ st ∈ [0, 1, 5, 6], ∀ s ∈ [set (withPower liveState { state := st }) [(okey 0xC010 2, [7])]],
      (∀ d < 8, (0xFFFE : Nat) / 4 ^ d % 4 ≠ 3 → bitOf (cfg s (0xC010 + d) 2 1) ((0xFFFE : Nat) / 4 ^ d % 4) = true) ∧
        parishState s 1 ≠ 2 ∧ s.power.stepDown = false ∧ s.power.opBusy = false ∧ s.power.state = st ∧
        (s.dieAt 0).lost = false ∧ (s.dieAt 0).logicOn = true ∧ (s.dieAt 0).opPoint = 0 ∧ ∀ d < 8, (s.dieAt d).onFrc = false) ∧
    (∀ s ∈ [{ liveState with die := [(7, { coreMv := 800, coreSet := 900, voltAt := 5 })], time := { elapsed := 1255 } }],
      (s.dieAt 7).coreMv ≠ (s.dieAt 7).coreSet ∧ (s.dieAt 7).voltAt + 1250 ≤ s.time.elapsed) ∧
    (∀ s ∈ [{ set liveState [(okey 0xC010 2, [7]), (okey (allocIdx 1) 1, [1])] with
        parish := [(1, { state := 2 })], power := { stepDown := true }, die := [(0, { opPoint := 2 })] }],
      parishState s 1 = 2 ∧ decided s 1 = 2 ∧ parishOnDie s 1 0 = true ∧ s.power.stepDown = true ∧ (0xFFFD : Nat) % 4 < (s.dieAt 0).opPoint) ∧
    (∀ frc ∈ [false, true], ∀ mv ∈ [0, 2000], ∀ s ∈ [{ liveState with
        die := [(7, { opTarget := some 1, voltOk := true, onFrc := frc, coreMv := mv })], time := { elapsed := 50000 } }],
      7 < usedDies s ∧ (s.dieAt 7).relockAt + 2500 ≤ s.time.elapsed ∧ s.time.elapsed ≤ (s.dieAt 7).relockAt + 50000 ∧
        decide (pointMv 1 ≤ (s.dieAt 7).coreMv) = decide (mv = 2000) ∧ (s.dieAt 7).opTarget = some 1 ∧ (s.dieAt 7).voltOk = true ∧ (s.dieAt 7).onFrc = frc ∧
        s.power.opAt ≤ s.time.elapsed ∧ s.power.pendReq = 0 ∧ (s.dieAt 7).active.valid = false ∧
        ∀ j < 7, (s.dieAt j).opTarget = none) ∧
    ∀ s ∈ [{ liveState with die := [(3, { opTarget := some 1 })], power := { convHot := true, thermHot := true, hotAt := 5 }
                            time := { elapsed := 2500000005 } }],
      (∃ j < 8, j ≠ 7 ∧ (s.dieAt j).opTarget.isSome = true) ∧ s.power.convHot = true ∧ s.power.hotAt + 2500000000 ≤ s.time.elapsed ∧
        ∀ d < 8, (s.dieAt d).temp < 1250 := by
  refine ⟨?_, ?_, ?_, ?_, ?_, ?_⟩ <;> decide +kernel

/-- A part that runs, one without supply, one that heat stopped, and one in STORAGE; with firmware that passes and with none. -/
theorem test_met_ResetsLoseAndKeep :
    (∀ bad ∈ [0, 1, 3], ∀ s ∈ [{ liveState with fw := { badSlots := bad } }], s.power.vinOk = true ∧ s.power.thermDown = false ∧
      7 < usedDies s ∧ ((∃ k < 2, (k = s.fw.nextSlot.getD s.fw.slot ∨ k = 1 - s.fw.nextSlot.getD s.fw.slot) ∧
        bitOf s.fw.badSlots k = false ∧ s.fw.security ≤ tget s.fw.security s.fw.slotSecurity k) ↔ bad ≠ 3)) ∧
    (State.reset.power.vinOk = false ∧ State.reset.power.thermDown = false) ∧
    (∀ s ∈ [withPower liveState { vinOk := true, thermDown := true }], s.power.thermDown = true ∧ s.power.vinOk = true ∧
      (List.replicate 8 (1249 : Int)).length = s.dies ∧ ∀ c ∈ List.replicate 8 (1249 : Int), c < 1250) ∧
    ∀ s ∈ [withPower liveState { vinOk := true, state := 4 }], s.power.state = 4 ∧ s.power.vinOk = true ∧ s.power.thermDown = false := by
  refine ⟨?_, ?_, ?_, ?_⟩ <;> decide +kernel

/-- With and without safety outputs, on die 0 and another; each edge of the watchdog's window. -/
theorem test_met_DieFaultsLoseOrResetTheDie :
    (∀ so ∈ [0, 1], ∀ d ∈ [0, 7], ∀ s ∈ [set liveState [(okey 0xD000 4, [BitVec.ofNat 8 so])]],
      d < usedDies s ∧ (s.dieAt d).lost = false ∧ (s.dieAt d).logicOn = true ∧ decide (cfg s 0xD000 4 0 = 0) = decide (so = 0) ∧ (s.dieAt d).wdServed = false ∧
        s.testen = false ∧ (s.dieAt d).frames = 0 ∧ s.dictReady = true ∧ FaultDue s d 3 1 0) ∧
    (∀ now ∈ [187504, 187505, 312505, 312506], ∀ s ∈ [{ liveState with time := { elapsed := now }, die := [(7, { wdSince := 5, wdServed := true })] }],
      (s.dieAt 7).wdServed = true ∧ (s.dieAt 7).wdSince = 5 ∧
        (s.time.elapsed < 5 + 187500 ∨ (5 + 187500 ≤ s.time.elapsed ∧ s.time.elapsed ≤ 5 + 312500) ∨ 5 + 312500 < s.time.elapsed)) ∧
    ∀ r ∈ [0, 1], ∀ s ∈ [{ liveState with die := [(7, { onFrc := true, opTarget := some 1, relocks := r })], time := { elapsed := 50000 } }],
      (s.dieAt 7).onFrc = true ∧ (s.dieAt 7).relockAt + 50000 ≤ s.time.elapsed ∧ (s.dieAt 7).opTarget.isSome = true ∧ (s.dieAt 7).relocks = r ∧ s.power.pendReq = 0 := by
  refine ⟨?_, ?_, ?_⟩ <;> decide +kernel

/-- A sensor port in a loopback, one of a parish in TEST or HALT, one of parish 0 in production mode, one that is turned away. -/
theorem test_met_LoopbacksAndSelfTestsRun_ports :
    (∀ dp ∈ [0, 1, 2, 3, 4], ∀ s ∈ [{ portState { loopDepth := dp } with dictReady := true }], hasPort s 95 ∧
      dieOff s (95 / 12) = false ∧ (s.portAt 95).loopDepth = dp ∧ s.test.prodMode = false ∧ portOwner s 95 = some 0 ∧ parishState s 0 = 2) ∧
    (∀ st ∈ [1, 4], ∀ s ∈ [{ set (opState {} { state := 2 }) [(okey (allocIdx 1) 1, [0, 8])] with parish := [(1, { state := st })] }],
      hasPort s 11 ∧ dieOff s (11 / 12) = false ∧ (s.portAt 11).loopDepth = 0 ∧ portOwner s 11 = some 1 ∧ parishState s 1 = st ∧
        ∀ k ∈ (s.portAt 11).queue, (slotOf s 11 k).port = 11 ∧ (slotOf s 11 k).state = 2 ∧ (slotOf s 11 k).orphan = false) ∧
    ∀ s ∈ [{ portState {} with test := { prodMode := true } }], dieOff s (95 / 12) = false ∧ s.test.prodMode = true ∧ portOwner s 95 ≠ some 1 ∧
      (s.portAt 95).queue = [] := by
  refine ⟨?_, ?_, ?_⟩ <;> decide +kernel

/-- A network port in each loopback, in production mode and out of it. -/
theorem test_met_LoopbacksAndSelfTestsRun_net :
    (∀ dp ∈ [0, 1, 3, 4], ∀ m ∈ [false, true], ∀ s ∈ [{ liveState with
        netPorts := [(2, { link := true, loopDepth := dp })], test := { prodMode := m }, time := { elapsed := 2500000000 } }],
      (s.netAt 2).loopDepth = dp ∧ s.test.prodMode = m ∧ s.dictReady = true ∧ (s.netAt 2).link = true ∧
        (s.netAt 2).remoteDue = false ∧ (s.netAt 2).loopAt + 250000000 * cfg s 0xF000 5 10 ≤ s.time.elapsed) ∧
    (List.replicate 6 (1 : Byte)).length = 6 := by
  refine ⟨?_, ?_⟩ <;> decide +kernel

/-- The twin and a ring link: in a loopback, free and permitted, free and forbidden; the self-test under way. -/
theorem test_met_LoopbacksAndSelfTestsRun_links :
    (∀ dp ∈ [0, 1, 2], ∀ m ∈ [false, true], ∀ s ∈ [{ liveState with twin := { loopDepth := dp }, test := { prodMode := m } }],
      s.twin.loopDepth = dp ∧ parishState s 1 ≠ 2 ∧ s.test.prodMode = m ∧ parishState s 1 ≠ 1 ∧ parishState s 1 ≠ 4) ∧
    (∀ s ∈ [{ liveState with test := { prodMode := true, selfRun := 1 } }], 7 < s.dies ∧ tget 0 s.test.ringLoop 7 = 0 ∧
      s.test.prodMode = true ∧ (∀ e ∈ s.test.ringLoop, e.2 = 0) ∧ s.test.selfRun = 1 ∧
      ∀ d < 8, reachesLead { s with test := { s.test with ringLoop := tput s.test.ringLoop 7 1 } } d = true) ∧
    (∀ s ∈ [{ liveState with test := { prodMode := true, ringLoop := [(7, 1)] } }], tget 0 s.test.ringLoop 7 = 1 ∧
      tget 0 s.test.ringLoop 6 = 0 ∧ ∃ e ∈ s.test.ringLoop, e.2 ≠ 0) := by
  refine ⟨?_, ?_, ?_⟩ <;> decide +kernel

/-- A host's frame of parish 0. -/
def plain (objs : Nat) (pl : List Byte) : HostFrame := { src := 0x024144500099, objCount := objs, payload := pl }

theorem test_met_RequestsArriveWaitOrAreRejected :
    (∀ n ∈ [0, 64], ∀ f ∈ [plain 0 (List.replicate n 7)], ServedAtOnce liveState f ∧ f.parish < 16 ∧ PlainFrame f ∧ f.session = 0 ∧
      f.objCount = 0 ∧ f.payload.length ≤ 64) ∧
    (∀ n ∈ [1, 31, 32], ∀ s ∈ [{ liveState with net := { waiting := List.replicate n {} } }], portLive s 2 = true ∧ s.net.waiting ≠ [] ∧
      s.net.waiting.length = n) ∧
    ∀ s ∈ [{ liveState with net := { waiting := [{ op := 0, frame := plain 0 [] }] } }], s.net.waiting = [{ op := 0, frame := plain 0 [] }] ∧
      s.dictReady = true ∧ s.power.state = 0 ∧ s.fw.boot = false ∧ PlainFrame (plain 0 []) ∧ (plain 0 []).port < 3 := by
  refine ⟨?_, ?_, ?_⟩ <;> decide +kernel

/-- The broadcast address, a source, the default ETHERTYPE and 24 bytes of header: of another version, and with a CRC of zero. -/
theorem test_met_RequestsArriveWaitOrAreRejected_raw :
    ∀ v ∈ [0x20, 0x10], ∀ raw ∈ [List.replicate 12 (0xFF : Byte) ++ [0x88, 0xB5] ++ BitVec.ofNat 8 v :: List.replicate 23 0],
      portLive liveState 2 = true ∧ beNat (raw.take 6) = 2 ^ 48 - 1 ∧ beNat ((raw.drop 12).take 2) = cfg liveState 0x0800 2 0x88B5 ∧
        raw.drop 14 ≠ [] ∧ (getLe (raw.drop 14) 0 1 / 16 ≠ 1 ∨ (24 ≤ (raw.drop 14).length ∧ getLe (raw.drop 14) 0 1 / 16 = 1 ∧
          crc16 ((raw.drop 14).take 12 ++ [nth 0 (raw.drop 14) 14, nth 0 (raw.drop 14) 15]) ≠ getLe (raw.drop 14) 12 2)) := by
  decide +kernel

/-- The part with an unconfirmed or an open session 16 of parish 0. -/
def withSession (isOpen : Bool) : State := { liveState with sessions := [{ num := 16, isOpen := isOpen, src := 0x024144500099 }] }

theorem test_met_SessionsOpenConfirmAndClose :
    (∀ f ∈ [plain 0 [1, 0, 0, 0, 1, 2, 3, 4, 5, 6, 7, 8]], ServedAtOnce liveState f ∧ f.parish < 16 ∧ f.objCount = 0 ∧ PlainFrame f ∧
      f.session = 0 ∧ f.payload.length = 12 ∧ getLe f.payload 1 3 = 0 ∧ (liveState.parAt 0).openBlocked = false ∧
      liveState.sessions.length < 16) ∧
    (∀ o ∈ [false, true], ∀ f ∈ [{ plain 0 [2, 0, 0, 0, 0, 0, 0, 0, 0, 0, 0, 0] with session := 16 }], ∀ s ∈ [withSession o],
      ServedAtOnce s f ∧ PlainFrame f ∧ f.payload.length = 12 ∧ getLe f.payload 1 3 = 0 ∧ getLe f.payload 4 8 = 0 ∧
      (s.parAt 0).key = none ∧ secured s 0 = false ∧ s.net.blocks = [] ∧
      ∃ x ∈ s.sessions, findSession s f.session = some x ∧ x.parish = f.parish ∧ x.isOpen = o ∧ (o = true → InSession s f x)) ∧
    (∀ f ∈ [{ plain 0 [] with session := 16 }], ServedAtOnce (withSession true) f ∧ PlainFrame f ∧ PlainFrame { f with objCount := 1 } ∧
      InSession (withSession true) f { num := 16, isOpen := true, src := 0x024144500099 }) ∧
    (∀ del ∈ [1, 2], ∀ s ∈ [set (withSession true) [(okey 0x71EF 4, [BitVec.ofNat 8 del])]], (0xEF : Byte).toNat + 256 * (1 : Byte).toNat = 0x1EF ∧
      0x1EF < usedDies s * 512 ∧ secured s 0 = false ∧ streamOwner s 0x1EF = some 0 ∧ streamDelivery s 0x1EF = del) ∧
    ∀ t ∈ [(1 : Byte), 2], ∀ f ∈ [plain 0 [1, t, 0, 0]], ServedAtOnce liveState f ∧ f.objCount = 0 ∧ PlainFrame f ∧ f.session = 0 ∧
      secured liveState 0 = false := by
  refine ⟨?_, ?_, ?_, ?_, ?_⟩ <;> decide +kernel

/-- A confirmation whose tag is made with the key that the session derives. -/
theorem test_met_SessionsOpenConfirmAndClose_tagged :
    let kp : List Byte := List.replicate 16 0x2B
    let s := { withSession false with parish := [(0, { key := some kp })] }
    let g : HostFrame := { plain 0 [2, 0, 0, 0, 0, 0, 0, 0, 0, 0, 0, 0] with session := 16, flags := 2 }
    let ks := sessionKey kp 0 16 [] []
    let f := { g with tag := frameTag ks 11 g }
    f.flags = 2 ∧ (s.parAt f.parish).key = some kp ∧ f.tag = frameTag ks 11 { f with payload := 2 :: f.payload.drop 1 } ∧
      f.port < 3 ∧ portLive s f.port = true ∧ s.net.waiting = [] ∧ s.fw.boot = false ∧
      findSession s f.session = some { num := 16, src := 0x024144500099 } :=
  ⟨rfl, rfl, rfl, (by decide : (2 : Nat) < 3), rfl, rfl, rfl, rfl⟩

/-- A READ, the WRITE entry that R318 gives, and block reads of the least and the greatest length. -/
theorem test_met_ReadsWritesBlocksAndFirmware :
    (∀ f ∈ [plain 1 [0, 0, 1, 0]], ServedAtOnce liveState f ∧ PlainFrame f ∧ f.session = 0 ∧ secured liveState f.parish = false ∧
      f.objCount = 1 ∧ readCode (arrived liveState f) { op := 1 } (nativeIndex (arrived liveState f) 0) 1 = 0 ∧
      4 + (readValue (arrived liveState f) (nativeIndex (arrived liveState f) 0) 1).length + 3 ≤ 1476) ∧
    (∀ f ∈ [plain 1 [0x44, 0x4A, 3, 0, 2, 0, 0, 0, 0x8C, 0, 0, 0]], f.payload.length ≤ 1476 ∧
      parseWrites 1 f.payload = some [(0x4A44, 3, [0x8C, 0])] ∧
      (writeEntries (arrived liveState f) { op := 2 } [(0x4A44, 3, [0x8C, 0])]).1.power.state ≠ 5) ∧
    (∀ n ∈ [1, 1464], readCode (arrived liveState {}) { op := 3 } (nativeIndex (arrived liveState {}) 0) 1 = 0 ∧
      (n = leNat [(1 : Byte), 0] ∨ n = leNat [(0xB8 : Byte), 5])) := by
  refine ⟨?_, ?_, ?_⟩ <;> decide +kernel

/-- A first segment of the greatest length, an ABORT that names the transfer and one that does not, a transfer that expires. -/
theorem test_met_ReadsWritesBlocksAndFirmware_blocks :
    (∀ f ∈ [plain 1 ([0x00, 0x6C, 1, 0, 0, 0, 0, 0, 0xB5, 5, 0, 0, 0xB4, 5, 0, 0] ++ List.replicate 1460 0)], ServedAtOnce liveState f ∧ PlainFrame f ∧
      f.payload = f.payload.take 16 ++ List.replicate 1460 0 ∧ (f.payload.take 16).length = 16 ∧ getLe (f.payload.take 16) 3 1 = 0 ∧
      getLe (f.payload.take 16) 14 2 = 0 ∧ getLe (f.payload.take 16) 12 2 = 1460 ∧ getLe (f.payload.take 16) 4 4 = 0 ∧
      1460 < getLe (f.payload.take 16) 8 4 ∧ segmentCode (arrived liveState f) { op := 4 } f = 0 ∧
      nativeIndex (arrived liveState f) (getLe (f.payload.take 16) 0 2) ≠ 0xF800) ∧
    (∀ src ∈ [0x024144500099, 0x024144500098], ∀ s ∈ [{ liveState with
        net := { blocks := [{ port := 2, src := src, index := 0x6C00, transIds := [1, 9] }] }, time := { elapsed := 250000000 } }],
      ∀ f ∈ [plain 0 [9, 0, 0, 0, 0, 0]], ServedAtOnce s f ∧ PlainFrame f ∧ f.payload.length = 6 ∧ getLe f.payload 4 2 = 0 ∧
        ∃ b ∈ s.net.blocks, s.net.blocks = [b] ∧ b.index ≠ 0xF800 ∧ b.session = 0 ∧ b.parish = f.parish ∧ b.port < 3 ∧
          getLe f.payload 0 4 ∈ b.transIds ∧ b.lastAt + 250000 * cfg s 0x0800 5 1000 ≤ s.time.elapsed) ∧
    ∀ st ∈ [2, 3], ∀ s ∈ [{ set liveState [(okey (allocIdx 0) 0xE, [0, 0xF8, 0, 0xF8])] with fw := { state := st } }], s.dictReady = true ∧
      inRanges s 0 0xF800 = true ∧ s.fw.state = st := by
  refine ⟨?_, ?_, ?_⟩ <;> decide +kernel

/-- The last channel of the part, stopped, running and stopping; before, on and past its top, in each direction. -/
theorem test_met_TallyChannelsAndTheMatrix :
    (∀ st ∈ [0, 1, 2], ∀ dir ∈ [0, 1, 2], ∀ n ∈ [0, 999, 1000],
      ∀ s ∈ [{ liveState with tally := [(255, { cfg := 2 + 4 * dir, state := st, count := n, top := 1000, topAct := 1000, link := [3] })] }],
        255 < usedDies s * 32 ∧ tallyLive s 255 = true ∧ (s.tallyAt 255).widthCode = 2 ∧ (s.tallyAt 255).stopped = false ∧
          (s.tallyAt 255).link.contains 4 = false ∧ (s.tallyAt 255).link.contains 3 = true ∧ (s.tallyAt 254).wide = false ∧
          (s.tallyAt 255).state = st ∧ (s.tallyAt 255).copyDue = false ∧ (s.tallyAt 255).clk = 0 ∧ (s.dieAt 7).onFrc = false ∧
          field (s.tallyAt 255).cfg 19 14 = 0 ∧ (s.tallyAt 255).count < 2 ^ 32 ∧ (s.tallyAt 255).topAct < 2 ^ 32 ∧
          (s.tallyAt 255).dir = dir) ∧
    (∀ s ∈ [{ liveState with die := [(7, { logicOn := false })] }], 255 < usedDies s * 32 ∧ tallyLive s 255 = false) ∧
    ∀ s ∈ [{ liveState with tally := [(252, { cfg := 1, state := 2 })] }], 252 = 4 * 63 ∧ tallyLive s 252 = true ∧
      ∀ c < 4, (s.tallyAt (252 + c)).widthCode ≠ 3 ∧ (s.tallyAt (252 + c)).stopped = false := by
  refine ⟨?_, ?_, ?_⟩ <;> decide +kernel

/-- A capture below and at its prescale in RUN, and a paired measurement in TEST. -/
theorem test_met_TallyChannelsAndTheMatrix_captures :
    (∀ n ∈ [0, 1], ∀ s ∈ [late { liveState with
        tally := [(255, { cfg := 1 + 2 ^ 20 + 2 ^ 21, capSrc := 4096 + 47, capPresc := 2, prescCnt := n, widthCnt := some 5 })],
        port := [(95, { pinIn := 8, pinAt := [(3, 5)] })] }],
      tallyLive s 255 = true ∧ (s.tallyAt 255).edgeSeen ≠ edgeMark s 255 ∧
        pinHeld s (255 / 32 * 12 + 47 / 4) (47 % 4) true (field (s.tallyAt 255).cfg 25 22 + 1) = true ∧ (s.tallyAt 255).widthCode = 1 ∧ (s.tallyAt 255).clk ≠ 1 ∧ (s.tallyAt 255).capSrc = 4096 + 47 ∧
        bitOf (s.portAt (255 / 32 * 12 + 47 / 4)).pinIn.toNat (47 % 4) = true ∧ tallyOwner s (255 / 4) = some 0 ∧ parStateOn s 0 7 = 2 ∧
        bitOf (s.tallyAt 255).cfg 20 = true ∧ bitOf (s.tallyAt 255).cfg 21 = true ∧ bitOf (s.tallyAt 255).cfg 26 = false ∧
        ((s.tallyAt 255).prescCnt + 1 < (s.tallyAt 255).capPresc ∨ (s.tallyAt 255).capPresc ≤ (s.tallyAt 255).prescCnt + 1)) ∧
    ∀ pin ∈ [0, 8], ∀ s ∈ [late { set liveState [(okey (allocIdx 1) 8, List.replicate 8 0x80)] with
        tally := [(255, { cfg := 1, capSrc := 4096 + 47, widthCnt := some 5 })], parish := [(1, { state := 1 })],
        port := [(95, { pinIn := BitVec.ofNat 4 pin, pinAt := [(3, 5)] })] }],
      (s.tallyAt 255).edgeSeen ≠ edgeMark s 255 ∧ (s.tallyAt 255).clk ≠ 1 ∧
      pinHeld s (255 / 32 * 12 + 47 / 4) (47 % 4) (decide (pin = 8)) (field (s.tallyAt 255).cfg 25 22 + 1) = true ∧
      tallyOwner s (255 / 4) = some 1 ∧ parStateOn s 1 7 = 1 ∧ (s.tallyAt 255).widthCnt = some 5 ∧
        bitOf (s.portAt (255 / 32 * 12 + 47 / 4)).pinIn.toNat (47 % 4) = decide (pin = 8) := by
  refine ⟨?_, ?_⟩ <;> decide +kernel

/-- The last row of the part, of a channel whose output changed, and a column that it feeds; the last cross-die line. -/
theorem test_met_TallyChannelsAndTheMatrix_rows :
    (∀ up ∈ [false, true], ∀ s ∈ [{ liveState with
        tally := [(255, { cmpOut := up })], row := [(256 * 7 + 63, { src := 3 * 4096 + 31, level := !up })], col := [(256 * 7 + 63, { rows := 2 ^ 63 })] }],
      7 < usedDies s ∧ (s.dieAt 7).logicOn = true ∧ (s.dieAt 7).lost = false ∧ (s.rowAt (256 * 7 + 63)).level ≠ up ∧
        rowSource s 7 63 up = up ∧ rowFiltered s 7 63 up = true ∧ bitOf (s.colAt (256 * 7 + 63)).rows 63 = true ∧ (s.colAt (256 * 7 + 63)).failed = false) ∧
    ∀ s ∈ [{ liveState with col := [(256 * 7 + 63, { dest := 8 * 4096 + 15 })] }], lineColumns s 15 = [(7, 63)] ∧
      (s.dieAt 7).lost = false ∧ (s.dieAt 7).logicOn = true ∧ bitOf (s.dieAt 7).crossFail 15 = false ∧ FaultDue s 7 0x0C 5 15 := by
  refine ⟨?_, ?_⟩ <;> decide +kernel

/-- Release by hand and by the hub; an output off that reads high and one on that reads low. -/
theorem test_met_SafetyOutputsAreReleasedAndRequested :
    (∀ a ∈ [0, 1], ∀ s ∈ [late { set liveState [(okey 0xD000 7, [BitVec.ofNat 8 a])] with
        die := [(7, { soFree := [(1, 5)], curHold := 2 })] }],
      (s.dieAt 7).logicOn = true ∧ (s.dieAt 7).lost = false ∧ thas (s.dieAt 7).soFree 1 = true ∧
      tget 0 (s.dieAt 7).soFree 1 + 250000 * cfg s 0xD000 8 500 ≤ s.time.elapsed ∧ tget 0 (s.dieAt 7).soAt 1 + 250000 < s.time.elapsed ∧
      bitOf (s.dieAt 7).curHold 1 = true ∧ tget 0 (s.dieAt 7).curAt 1 + 2500000 ≤ s.time.elapsed ∧ decide (cfg s 0xD000 7 0 = 1) = decide (a = 1) ∧
      decided s 1 ≠ 3 ∧ 7 < usedDies s ∧ soRequested s 7 1 = false ∧ (s.dieAt 7).test = none ∧ bitOf (s.dieAt 7).soOut 1 = false) ∧
    (∀ s ∈ [{ set liveState [(okey 0xD000 4, [0xFF, 0xFF])] with parish := [(1, { state := 2 })], die := [(7, { soOut := 3, soReleased := 3 })] }],
      soRequested s 7 1 = false ∧ outputsHeld s = false ∧ bitOf (s.dieAt 7).soOut 1 = true ∧ decided s 1 = 2 ∧
        cfg s 0xD000 4 0 ≠ 0 ∧ FaultDue s 7 0x0A 1 15) := by
  refine ⟨?_, ?_⟩ <;> decide +kernel

/-- A digest, absent for 0. -/
def digest (n : Nat) : Option (BitVec 32) := if n = 0 then none else some (BitVec.ofNat 32 n)

/-- A die without a test, one in a test of each output, running and ended; pairs that agree, differ and lack a digest. -/
theorem test_met_TripTestsPairsAndRecovery :
    (∀ st ∈ [1, 2, 3], ∀ o ∈ [0, 1], ∀ s ∈ [{ liveState with
        parish := [(1, { state := st })], time := { nanos := 2000000 * o } }],
      7 < usedDies s ∧ pulseDue s o = true ∧ (s.dieAt 7).logicOn = true ∧ parishState s 1 = st ∧
      (s.dieAt 7).paused = false ∧ s.power.opBusy = false ∧ (s.dieAt 7).lost = false ∧ (s.dieAt 7).test = none) ∧
    (∀ o ∈ [0, 1], ∀ e ∈ [false, true], ∀ s ∈ [{ set liveState [(okey 0xD000 4, [0xFF, 0xFF])] with
        parish := [(1, { state := 2 })], die := [(7, { soReleased := 3, test := some { output := o, ended := e, at_ := 5 } })]
        time := { elapsed := 2505 } }],
      5 + 2500 ≤ s.time.elapsed ∧
      (s.dieAt 7).test = some { output := o, ended := e, at_ := 5 } ∧ soRequested s 7 o = false ∧
        soEnergise (s.modDie 7 (fun y => { y with test := none })) 7 o (soRequested s 7 o) = true) ∧
    (∀ p ∈ [(5, 5), (5, 6), (0, 5), (5, 0), (0, 0)],
      ∀ s ∈ [{ liveState with die := [(0, { prevDigests := [(2, digest p.2)] }),
        (7, { prevDigests := [(1, digest p.1)], active := { pairs := [{ entry := 1, partner := 2, die := 0 }] } })] }],
        (s.dieAt 7).pairDone.contains 1 = false ∧ (s.dieAt 7).logicOn = true ∧ (s.dieAt 7).lost = false ∧ (s.dieAt 7).active.pairs.find? (fun q => q.entry == 1) = some { entry := 1, partner := 2, die := 0 } ∧
          tget none (s.dieAt 7).prevDigests 1 = digest p.1 ∧ tget none (s.dieAt 0).prevDigests 2 = digest p.2 ∧ cfg s 0xD000 0xA 0 < 1) ∧
    ∀ s ∈ [late { liveState with parish := [(1, { state := 3 })], reeve := { heldAt := 975000000 } }], decided s 1 = 3 ∧
      recoveryHeld s = false ∧ s.reeve.heldAt + 25000000 ≤ s.time.elapsed := by
  refine ⟨?_, ?_, ?_, ?_⟩ <;> decide +kernel

/-- The twin paired with a part of another serial number. -/
def twinState (v : Twin) : State := { liveState with twin := v, conf := [(okey 0xD800 1, [1])] }

/-- A word that follows the last one, where sequence numbers wrap, and one that does not; each state of the link. -/
theorem test_met_TwinWordsPairAndCompare :
    (∀ st ∈ [0, 1, 2, 3], ∀ s ∈ [twinState { state := st, rxSeq := some 65535 }], twinLive s = true ∧ s.twin.todo = [] ∧ s.twin.state = st ∧
      (s.twin.todo = [] ∧ (s.twin.state = 0 ∨ s.twin.state = 2 ∨ (s.twin.state ≠ 0 ∧ s.twin.state ≠ 2))) ∧ cfg s 0xD800 1 0 = 1 ∧
      ∀ w ∈ [({} : TwinWord), { seq := 65535 }], w.wires < 4 ∧ decide (w.seq = (65535 + 1) % 65536) = decide (w.seq = 0)) ∧
    (∀ s ∈ [twinState { todo := [3, 4] }], s.twin.todo.head? = some 3) ∧
    (∀ s ∈ [{ twinState { state := 1, refusedAt := some 5 } with time := { elapsed := 250000005 } }], s.twin.state = 1 ∧
      (({} : TwinWord).states / 16 ≠ s.dies) ∧ ∃ n ∈ [5], s.twin.refusedAt = some n ∧ n + 250000000 ≤ s.time.elapsed) ∧
    (∀ s ∈ [twinState { state := 2, reqRun := 4 }], ∀ off ∈ [0, 1], ∀ w ∈ [({ reqOff := off } : TwinWord)], s.twin.reqRun = cfg s 0xD800 5 4 ∧
      bitOf w.wires 0 = s.reeve.twtripIn ∧ decide (w.reqOff = ownReqOff s) = decide (off = 0)) ∧
    (∀ s ∈ [{ twinState { state := 2, heardAt := 1 } with time := { elapsed := 375001 } }], s.twin.state = 2 ∧
      s.twin.heardAt + 375000 ≤ s.time.elapsed) ∧
    ∀ s ∈ [{ twinState { state := 3, lostAt := 1 } with time := { elapsed := 15000000001 } }], s.twin.state = 3 ∧
      s.twin.lostAt + 250000000 * cfg s 0xD800 6 60 ≤ s.time.elapsed := by
  refine ⟨?_, ?_, ?_, ?_, ?_, ?_⟩ <;> decide +kernel

/-- A greeting that matches, the first and the third of a run. -/
theorem test_met_TwinWordsPairAndCompare_hit (n : Nat) :
    let s := twinState { state := 1, matched := n }
    let w : TwinWord := { digest := safetyDigest s, code := 0, states := 128, serial := 7 }
    w.digest = safetyDigest s ∧ w.code = cfg s 0xD800 2 0 ∧ w.states / 16 = s.dies ∧ w.serial ≠ s.serial ∧ s.twin.matched = n ∧
      twinLive s = true :=
  ⟨rfl, rfl, (by decide : (128 : Nat) / 16 = State.reset.dies), (by decide : (7 : Nat) ≠ 0x5C4E0001), rfl, rfl⟩

theorem test_met_EnginesAreRetiredAndTheLatchReset :
    (∀ e ∈ [0, 191, 192], ∀ s ∈ [set liveState [(okey (allocIdx 1) 2, List.replicate 23 0 ++ [0x80])]],
      decide (e < usedDies s * 24 ∧ engOwner s e = some 1) = decide (e = 191)) ∧
    (∀ l ∈ [false, true], ∀ s ∈ [{ liveState with reeve := { latched := l } }], s.reeve.latched = l ∧ recoveryHeld s = false) ∧
    (∀ sec ∈ [0, 1], ∀ s ∈ [{ set liveState [(okey 0x2102 3, [BitVec.ofNat 8 sec])] with
        sessions := [{ num := 16, parish := 1, isOpen := true }, { num := 1 }] }],
      decide (cfg s 0x2102 3 0 = 1) = decide (sec = 1) ∧
        (∃ x ∈ s.sessions, findSession s 16 = some x ∧ x.isOpen = true ∧ x.parish = 1) ∧
        ∃ x ∈ s.sessions, findSession s 1 = some x ∧ x.isOpen = false) ∧
    ∀ s ∈ [{ liveState with parish := [(1, { armed := some (1, 16), armAt := 2 })], time := { elapsed := 2500000002 } }],
      (s.parAt 1).armed = some (1, 16) ∧ (s.parAt 1).armAt + 250000000 * cfg s 0x2102 8 10 ≤ s.time.elapsed := by
  refine ⟨?_, ?_, ?_, ?_⟩ <;> decide +kernel

/-- A value that is not the digest: the digest has 32 bits. -/
theorem test_met_EnginesAreRetiredAndTheLatchReset_value : ∃ v, v ≠ safetyDigest liveState := ⟨_, Nat.succ_ne_self _⟩

theorem test_met_LinksFailOverAndFramesAreSent :
    (∀ s ∈ [{ liveState with time := { elapsed := 2500000000 } }], portLive s 2 = true ∧ cfg s 0x0800 4 10 ≠ 0 ∧
      (s.netAt 2).announceAt + 250000000 * cfg s 0x0800 4 10 ≤ s.time.elapsed ∧ (s.netAt 2).remoteDue = false ∧ readyFrames (s.netAt 2) = []) ∧
    (∀ id ∈ [0, 1], ∀ s ∈ [{ set liveState [(okey 0x0820 3, [1]), (okey 0x0820 4, [BitVec.ofNat 8 id])] with netPorts := [(1, { link := true })] }],
      portLive s 1 = true ∧ cfg s (0x0810 + 16 * 1) 3 0 = 1 ∧ cfg s (0x0810 + 16 * 1) 4 1 = id) ∧
    (∀ n ∈ [0, 99999], ∀ s ∈ [{ set liveState [(okey 0x0831 1, leBytes 4 1000), (okey 0x0831 10, leBytes 8 (2 ^ 40 + 100 * 2 ^ 20))] with
        netPorts := [(2, { link := true, waiting := [{ op := 7, windowed := true }] })], time := { nanos := n } }],
      portLive s 2 = true ∧ windowIsOpen s 2 7 = true ∧ bitOf (field (windowWord s 2 7) 55 40) 0 = true) ∧
    (∀ wd ∈ [false, true], ∀ op ∈ [5, 7, 8, 9, 17], ∀ s ∈ [{ liveState with
        netPorts := [(2, { link := true, mac := [{ op := op, windowed := wd }] })] }],
      portLive s 2 = true ∧ (s.netAt 2).remoteDue = false ∧ readyFrames (s.netAt 2) ≠ [] ∧ (∀ f ∈ readyFrames (s.netAt 2), f.parish < 16) ∧
        (wd = true → ∀ f ∈ readyFrames (s.netAt 2), mayBegin s 2 f = false)) := by
  refine ⟨?_, ?_, ?_, ?_⟩ <;> decide +kernel

/-- A link that fails with its fallback up or down, one that comes up with a notice owed, one that failed over, one without a link. -/
theorem test_met_LinksFailOverAndFramesAreSent_links :
    (∀ l ∈ [false, true], ∀ s ∈ [{ liveState with netPorts := [(0, { link := l, failedOver := none }), (1, { link := true })] }],
      (s.netAt 0).link = l ∧ (1 : Nat) ≠ 0 ∧ cfg s (0x0810 + 16 * 1) 1 1 = 1 ∧ (s.netAt 1).link = true ∧ cfg s (0x0810 + 16 * 0) 0xB 1 = 1) ∧
    (∀ owed ∈ [0, 4], ∀ s ∈ [{ liveState with netPorts := [], power := { noticeOwed := owed } }], s.dictReady = true ∧ s.power.state < 2 ∧
      cfg s (0x0810 + 16 * 2) 1 1 = 1 ∧ (s.netAt 2).link = false ∧ (s.netAt 2).loopDepth = 0 ∧ (s.netAt 2).failedOver = none ∧
      bitOf s.power.noticeOwed 2 = decide (owed = 4) ∧ ¬((255 : Nat) < 3)) ∧
    ∀ s ∈ [{ liveState with netPorts := [(2, { link := true, failedOver := some 0, upAt := 1 })], time := { elapsed := 1250000001 } }],
      (s.netAt 2).failedOver.isSome = true ∧ cfg s (0x0810 + 16 * 2) 1 1 = 1 ∧ (s.netAt 2).link = true ∧
      cfg s (0x0810 + 16 * 2) 0xC 5 ≠ 0 ∧ (s.netAt 2).upAt + 250000000 * cfg s (0x0810 + 16 * 2) 0xC 5 ≤ s.time.elapsed := by
  refine ⟨?_, ?_, ?_⟩ <;> decide +kernel

/-- Parish 1 votes and sleeps. -/
theorem test_met_VotesWakesAndBatches :
    (∀ s ∈ [{ set liveState [(okey 0x0800 6, [2])] with parish := [(1, { hostAsleep := true, voteTarget := 1 })] }], s.dictReady = true ∧
      s.power.state < 2 ∧ s.net.voteState = 0 ∧ (∀ q < 16, bitOf (cfg s 0x0800 6 0) q = decide (q = 1)) ∧ (s.parAt 1).hostAsleep = true ∧
      voteBlocked s = false ∧ portLive s 2 = true) ∧
    (∀ tgt ∈ [1, 2], ∀ p ∈ [false, true], ∀ s ∈ [{ set liveState [(okey 0x0800 6, [2])] with
        parish := [(1, { wake := { pending := p } })], net := { voteState := 1, voteTarget := tgt }, time := { elapsed := 500000 } }],
      s.net.voteState = 1 ∧ s.net.voteAt + 250000 * cfg s 0x0800 7 2 ≤ s.time.elapsed ∧ s.power.state < 2 ∧ voteBlocked s = p ∧
        s.power.opBusy = false ∧ s.net.voteTarget = tgt) ∧
    wakeHeld liveState = false ∧
    (∀ pd ∈ [false, true], ∀ s ∈ [{ liveState with
        parish := [(15, { hostAsleep := true, wake := { reasons := 4, pending := pd, asked := true, lastAt := some 0 } })], time := { elapsed := 2500000000 } }],
      (s.parAt 15).hostAsleep = true ∧ (s.parAt 15).wake.reasons ≠ 0 ∧ s.power.state < 3 ∧ (s.parAt 15).wake.pending = pd ∧ (s.parAt 15).wake.asked = true ∧ (s.parAt 15).wake.lastAt = some 0 ∧
        bitOf (cfg s 0x0800 6 0) 15 = false ∧ 250000 * cfg s (0x9100 + 16 * 15) 8 100 ≤ s.time.elapsed ∧
        250000000 * cfg s (0x9100 + 16 * 15) 7 10 ≤ s.time.elapsed) := by
  refine ⟨?_, ?_, by decide +kernel, ?_⟩ <;> decide +kernel

/-- A record of parish 0's last stream: aged, and due to be sent. -/
theorem test_met_VotesWakesAndBatches_stream :
    (∀ a ∈ [false, true], ∀ s ∈ [{ set liveState [(okey 0x71EF 1, [1]), (okey 0x71EF 4, [1]), (okey 0x71EF 5, [1])] with
        parish := [(0, { hostAsleep := a })], stream := [(0x1EF, { ring := [{ stream := 0x1EF }] })], time := { elapsed := 250000 } }],
      0x1EF < usedDies s * 512 ∧ streamOwner s 0x1EF = some 0 ∧ agedRecord s 0x1EF = true ∧ (s.parAt 0).hostAsleep = a ∧
        bitOf (cfg s 0x9100 5 10) 2 = false) ∧
    (∀ l ∈ [none, some 249999], ∀ s ∈ [{ set liveState [(okey 0x9100 5, [4]), (okey 0x71EF 1, [1]), (okey 0x71EF 4, [1]), (okey 0x71EF 5, [1])] with
        parish := [(0, { wake := { lastAt := l } })], stream := [(0x1EF, { ring := [{ stream := 0x1EF }] })], time := { elapsed := 250000 } }],
      agedRecord s 0x1EF = true ∧ (s.parAt 0).wake.pending = false ∧ sinceWake s 0 (cfg s (0x9100 + 16 * 0) 8 100) = l.isSome ∧ bitOf (cfg s (0x9100 + 16 * 0) 5 10) 2 = true) ∧
    ∀ due ∈ [false, true], ∀ s ∈ [{ set liveState [(okey 0x71EF 1, [1]), (okey 0x71EF 4, [1])] with
        parish := [(0, { deliverAll := due })], stream := [(0x1EF, { ring := [{ stream := 0x1EF }] })] }],
      s.dictReady = true ∧ s.power.state < 2 ∧ (s.dieAt 0).lost = false ∧ (s.parAt 0).pulls = [] ∧ s.cmpt = false ∧
        (s.parAt 0).hostAsleep = false ∧ pushDue s 0 = due ∧ pushStreams s 0 = [0x1EF] ∧
        toTake s 0 0x1EF false = [{ stream := 0x1EF }] ∧ s.time.epoch = 0 ∧ s.time.elapsed ≤ 2 ^ 18 * 250000000 ∧ recOutSize s { stream := 0x1EF } ≤ 1400 ∧
        1420 ≤ cfg s (0x9100 + 16 * 0) 2 16 * 1024 ∧ windowNames s (destOf s 0).2 0 = false := by
  refine ⟨?_, ?_, ?_⟩ <;> decide +kernel

theorem test_met_TemperatureStartsCalibrationRuns :
    (∀ s ∈ [liveState], 7 < usedDies s ∧ (s.dieAt 7).logicOn = true ∧ (s.dieAt 7).lost = false ∧ (s.portAt 95).gapOpen = false ∧
      (10 * cfg s 0xE000 1 8 < ((331 : Int) - (s.dieAt 7).cal.temp).natAbs ∧ (s.dieAt 7).cal.due = 0) ∧
      ¬10 * cfg s 0xE000 1 8 < ((330 : Int) - (s.dieAt 7).cal.temp).natAbs) ∧
    (∀ s ∈ [{ liveState with die := [(7, { lost := true })] }], hasPort s 95 ∧ dieOff s (95 / 12) = true) ∧
    (∀ r ∈ [0, 2], ∀ s ∈ [portState { calRun := r, calDue := r }], hasPort s 95 ∧ dieOff s (95 / 12) = false ∧ (s.portAt 95).calRun = r ∧ (s.portAt 95).gapOpen = false) ∧
    (∀ j ∈ [1, 2, 3, 5, 7], ∀ s ∈ [{ portState { calRun := 190, calDue := 2 ^ j, calTemp := 90, calForcedAt := some 1 } with
        time := { elapsed := 2500001 } }],
      2 * (10 * cfg s 0xE000 1 8) ≤ ((s.dieAt (95 / 12)).temp - (s.portAt 95).calTemp).natAbs ∧ (s.portAt 95).calRun ≠ 0 ∧
        (s.portAt 95).calDue &&& 174 ≠ 0 ∧ (s.portAt 95).calOffline = false ∧ activeOp s 95 3 = none ∧ domainOn s 95 = true ∧
        (s.portAt 95).inQuarantine = false ∧ (s.portAt 95).calForcedAt = some 1 ∧ (1 : Nat) + 2500000 ≤ s.time.elapsed) ∧
    (∀ j ∈ [1, 5, 7], ∀ s ∈ [portState { calItem := j, calDue := 2 ^ j, trim := [(1, 4096)] }], bitOf (s.portAt 95).calDue j = true ∧
      (s.portAt 95).calItem = j ∧ (8192 : Int).natAbs ≤ (if j = 1 then 16384 else if j = 5 then 20000 else 100000) ∧
      ((8192 : Int) - 4096).natAbs ≤ 4096 ∧ ¬((8193 : Int) - 4096).natAbs ≤ 4096) ∧
    ∀ s ∈ [{ liveState with die := [(7, { cal := { due := 1280 } })] }], bitOf (s.dieAt 7).cal.due 8 = true ∧
      (∀ w ∈ [(100 : Int), 500], 100 ≤ w ∧ w ≤ 500) ∧ bitOf (s.dieAt 7).cal.due 10 = true ∧ bitOf (s.dieAt 7).cal.cells 2 = false ∧
      (1000 : Int).natAbs < 200 * ((1006 : Int) - 1000).natAbs := by
  refine ⟨?_, ?_, ?_, ?_, ?_, ?_⟩ <;> decide +kernel

/-- A word of each kind on the last die; the scrub at its last word; days within and past the limit. -/
theorem test_met_ScrubbingCorrectsCountsAndSetsAside :
    (∀ at_ ∈ [0, 65535], ∀ n ∈ [0, 64], ∀ s ∈ [{ liveState with die := [(7, { scrub := { scrubAt := at_, ceDay := List.replicate n 0 } })] }],
      7 < usedDies s ∧ (s.dieAt 7).logicOn = true ∧ (s.dieAt 7).lost = false ∧
        decide (((s.dieAt 7).scrub.ceDay.filter (fun a => decide (s.time.elapsed < a + 21600000000000))).length + 1 ≤ cfg s 0xE000 2 64) =
          decide (n = 0)) ∧
    ∀ s ∈ [{ liveState with rule := [(511, { img := { present := true } })], mill := [(127, { next := some {} })] }],
      s.commit.state ≠ 2 ∧ (s.millAt 127).next = some {} ∧ (s.ruleAt 511).img.srcKind ≠ 6 ∧ 191 / 24 = 7 ∧ (s.engAt 191).reloaded = false ∧
      (s.dieAt 7).rotaState ≠ 3 ∧ 127 / 16 = 7 ∧ 511 / 64 = 7 ∧ (s.ruleAt 511).img.present = true ∧ (s.ruleAt 511).img.type ≠ 5 ∧
      (s.ruleAt 511).img.type ≠ 7 ∧ (256 * 7 + 79) / 256 = 7 ∧ (256 * 7 + 79) % 256 < 80 ∧ 63 / 8 = 7 ∧ (layOf s.dies 0x4000).isSome = true := by
  refine ⟨?_, ?_⟩ <;> decide +kernel

/-- A copy to write, a shadow to restore, a rule whose copy is complete and one whose copy is not, a damaged rota, the instant of telemetry. -/
theorem test_met_ReloadCopiesRestoreWhatFailed :
    (∀ s ∈ [{ liveState with die := [(7, { reloadTodo := [0x8400 + 511], fwErases := 19999 })] }], 0x8400 + 511 ∈ (s.dieAt 7).reloadTodo ∧
      s.commit.state ≠ 3 ∧ (s.dieAt 7).logicOn = true ∧ (s.dieAt 7).fwErases < 20000) ∧
    (∀ s ∈ [{ liveState with die := [(0, { shadowBad := [0x4000] })] }], 0x4000 ∈ (s.dieAt 0).shadowBad) ∧
    (∀ n ∈ [0, 1], ∀ s ∈ [{ liveState with
        die := [(7, { reloadDue := [(0x8400 + 511, 1)], reload := if n = 0 then [] else [(okey (0x8400 + 511) 1, [7])]
                      reloadCrc := [(0x8400 + 511, crc32 [7])] })],
        time := { elapsed := 500001 } }],
      (s.dieAt 7).reloadDue.find? (fun e => e.1 == 0x8400 + 511) = some (0x8400 + 511, 1) ∧ 1 + 500000 ≤ s.time.elapsed ∧
        (s.dieAt 7).active.valid = false ∧ 0x8400 + 511 ∉ (s.dieAt 7).reloadFailed ∧ s.dies ≤ 8 ∧ 511 / 64 = 7 ∧
        copyGood s 7 (0x8400 + 511) [] = decide (n = 1) ∧ copyGood s 7 (0x8400 + 511) [(0, 1)] = false) ∧
    (∀ s ∈ [{ liveState with die := [(7, { rotaDamaged := [3] })] }], (s.dieAt 7).rotaDamaged ≠ [] ∧ (s.dieAt 7).rotaState ≠ 2 ∧
      (s.dieAt 7).rotaState ≠ 3 ∧ (s.dieAt 7).failover = false ∧ (s.dieAt 7).rotaNone = false ∧ copyGood s 7 (0x6C00 + 128 * 7) [] = false) ∧
    ∀ s ∈ [{ liveState with time := { nanos := 3 } }], s.dictReady = true ∧ cfg s 0xE000 3 1000 ≠ 0 ∧ (s.dieAt 0).tele.lastAt ≠ some s.time.elapsed ∧
      (((fineOf s.time % (cfg s 0xE000 3 1000 * 1000000 * 2 ^ 32) : Nat) : Int) < s.time.increment) ∧
      ∀ r ∈ (s.streamAt (7 * 512 + 0x1F4)).ring, r.pinned = false := by
  refine ⟨?_, ?_, ?_, ?_, ?_⟩ <;> decide +kernel

/-- A rota image without entries, of 2 ms frames, for a die (R199). -/
def emptyRota (d : Byte) : List Byte :=
  let b := leBytes 4 0x524F5431 ++ [1, 0, d, 0] ++ leBytes 4 200000 ++ List.replicate 8 0 ++ List.replicate 48 0xFF ++ List.replicate 10 0
  b ++ leBytes 2 (crc16 b)

/-- A rota copy that passes the checks of an image. -/
theorem test_met_ReloadCopiesRestoreWhatFailed_rota :
    ∀ s ∈ [{ liveState with die := [(7, { rotaDamaged := [3], reload := [(okey (0x6C00 + 128 * 7) 1, emptyRota 7)]
                                          reloadCrc := [(0x6C00 + 128 * 7, crc32 (emptyRota 7))] })] }],
      copyGood s 7 (0x6C00 + 128 * 7) [] = true ∧ rotaCopy s 7 [] = emptyRota 7 ∧ rotaRefuse s 7 ((rotaOwner s 7).getD 0) (emptyRota 7) false = none ∧
        (s.dieAt 7).rotaState ≠ 2 ∧ (s.dieAt 7).rotaState ≠ 3 := by
  decide +kernel

/-- Regions of parish 15 on the last die: none, one, a capture under way and at its end, an open page, a page to write. -/
theorem test_met_CapturesStartAndEnd :
    (∀ n ∈ [0, 1], ∀ s ∈ [set liveState [(okey (allocIdx 15) 0xB, List.replicate 7 0 ++ [BitVec.ofNat 8 n])]],
      7 < usedDies s ∧ decide (logBlocks s 15 7 = 0) = decide (n = 0)) ∧
    (∀ s ∈ [{ liveState with die := [(7, { regions := [(15, { capActive := true, capTo := 5 })] })], time := { elapsed := 5 } }],
      ((s.dieAt 7).regionAt 15).capActive = true ∧ ((s.dieAt 7).regionAt 15).capDrain = false ∧ ((s.dieAt 7).regionAt 15).capTo ≤ s.time.elapsed) ∧
    (∀ s ∈ [{ liveState with
        die := [(7, { regions := [(15, { openPage := some { recs := [{ entered := 1 }] } })] })], time := { elapsed := 250000001 } }],
      ∃ pg ∈ ((s.dieAt 7).regionAt 15).openPage.toList, ∃ r ∈ pg.recs.head?.toList,
        r.entered + 250000 * cfg s (0x9100 + 16 * 15) 0xC 1000 ≤ s.time.elapsed) ∧
    (∀ w ∈ [0, 99999], ∀ s ∈ [{ liveState with
        die := [(7, { scanDone := true, pageWrites := [(64, w)], regions := [(15, { blocks := [1], queue := [{}] })] })] }],
      ((s.dieAt 7).regionAt 15).queue = [{}] ∧ (s.dieAt 7).scanDone = true ∧ (s.dieAt 7).logicOn = true ∧ (s.dieAt 7).lost = false ∧
        0 < regionSize (s.dieAt 7) ((s.dieAt 7).regionAt 15) ∧ tget 0 (s.dieAt 7).pageWrites (physPage (s.dieAt 7) ((s.dieAt 7).regionAt 15)) = w ∧ w < 100000) ∧
    ∀ s ∈ [liveState], s.dictReady = true ∧ (s.dieAt 7).logicOn = true ∧ (s.dieAt 7).scanDone = false ∧
      (s.dieAt 7).active.valid = false := by
  refine ⟨?_, ?_, ?_, ?_, ?_⟩ <;> decide +kernel

/-- Regions whose mean wear is apart by the limit, and by one more. -/
theorem test_met_CapturesStartAndEnd_wear :
    ∀ n ∈ [128000, 128001], ∀ s ∈ [{ liveState with
        die := [(7, { pageWrites := [(64, n)], regions := [(1, { blocks := [1] }), (2, { blocks := [2] })] })] }],
      decide (regionMean (s.dieAt 7) ((s.dieAt 7).regionAt 2) + 131072000 < regionMean (s.dieAt 7) ((s.dieAt 7).regionAt 1)) = decide (n = 128001) ∧
        argMax (fun p => regionMean (s.dieAt 7) ((s.dieAt 7).regionAt p)) [1, 2] = some 1 ∧
        argMin (fun p => regionMean (s.dieAt 7) ((s.dieAt 7).regionAt p)) [1, 2] = some 2 ∧
        ((s.dieAt 7).regions.filter (fun e => !e.2.blocks.isEmpty)).map (·.1) = [1, 2] ∧
        (argMin (blockWrites (s.dieAt 7)) ((s.dieAt 7).spareBlocks.filter (fun k => !(s.dieAt 7).remap.any (fun e => e.2 / 64 == k)))).isSome = true ∧
        argMax (blockWrites (s.dieAt 7)) ((s.dieAt 7).regionAt 1).blocks = some 1 ∧
        argMin (blockWrites (s.dieAt 7)) ((s.dieAt 7).regionAt 2).blocks = some 2 ∧ (s.dieAt 7).logicOn = true := by
  decide +kernel

/-- Parish 0, parish 1 in RECOVERY, another parish in TEST and in RECOVERY, a change half taken, and one at its last die. -/
theorem test_met_ParishStatesKeysAndSessions :
    (∀ st ∈ [0, 1, 3, 4], ∀ s ∈ [{ liveState with parish := [(15, { state := st })], time := { elapsed := 25000000 } }],
      (s.parAt 15).target = none ∧ (s.parAt 15).state = st ∧ causeHolds s 15 = false ∧ decided s 15 = st ∧
        (s.parAt 15).since + 250000 * cfg s (0x2000 + 256 * 15) 3 100 ≤ s.time.elapsed) ∧
    (∀ tgt ∈ [2, 4], ∀ s ∈ [{ liveState with parish := [(15, { target := some tgt, taken := [0] })] }], (s.parAt 15).target = some tgt ∧
      decided s 15 = tgt ∧ starting s = false ∧ (s.dieAt 7).active.valid = false ∧ 7 ∉ (s.parAt 15).taken ∧ 7 < usedDies s ∧ portOwner s 95 = some 0 ∧
      (∀ j < 8, j = 7 ∨ j ∈ (s.parAt 15).taken ∨ parishOnDie s 15 j = false)) ∧
    (∀ s ∈ [{ set liveState [(okey (allocIdx 15) 1, [0, 1])] with parish := [(15, { target := some 4, taken := [] })] }],
      (∃ j < 8, j ≠ 7 ∧ j ∉ (s.parAt 15).taken ∧ parishOnDie s 15 j = true ∧ (s.dieAt j).lost = false)) ∧
    (∀ s ∈ [{ liveState with parish := [(15, { target := some 4 })], die := [(7, { active := { valid := true, frameLen := 200000 }, frameStart := some 0 })] }],
      (s.dieAt 7).active.valid = true ∧ (s.dieAt 7).logicOn = true ∧ (s.dieAt 7).lost = false ∧ (s.dieAt 7).leadLost = false ∧
        atBoundary s 7 = false) ∧
    (∀ s ∈ [{ liveState with parish := [(1, { state := 3 })], reeve := { clear100 := true } }], (s.parAt 1).target = none ∧
      (s.parAt 1).state = 3 ∧ causeHolds s 1 = false ∧ s.reeve.clear100 = true) ∧
    (∀ s ∈ [{ liveState with
        parish := [(15, { state := 3, cause := [2] })], die := [(7, { lost := true })]
        conf := [(okey (allocIdx 15) 1, List.replicate 12 0x80)] }], decided s 15 = 3 ∧ causeHolds s 15 = true) ∧
    ∀ o ∈ [false, true], ∀ s ∈ [{ liveState with
        parish := [(15, { key := some (List.replicate 16 7), openBlocked := true })]
        sessions := [{ num := 16, parish := 15, isOpen := o }], time := { elapsed := 15000000000 } }],
      (List.replicate 16 (0 : Byte)).length = 16 ∧ (s.parAt 15).key = some (List.replicate 16 7) ∧ (s.parAt 14).key = none ∧
        findSession s 16 = some { num := 16, parish := 15, isOpen := o } ∧ 0 + 250000000 * cfg s (0x2002 + 256 * 15) 4 60 ≤ s.time.elapsed ∧
        (s.parAt 15).openBlocked = true ∧ (s.parAt 15).openBlockedAt + 250000000 ≤ s.time.elapsed := by
  refine ⟨?_, ?_, ?_, ?_, ?_, ?_, ?_⟩ <;> decide +kernel

/-- A frame whose header is sound, of an opcode and of length. -/
def header (op len : Nat) : List Byte :=
  let h := [BitVec.ofNat 8 (16 + op), 0, 0, 0, 0, 0, 0, 0] ++ leBytes 2 len ++ [0, 0]
  h ++ leBytes 2 (crc16 (h ++ [0, 0])) ++ List.replicate 10 0

/-- Awake, woken 200 µs ago and asleep; a response waiting; sound requests of each kind, of another opcode, and a header of another version. -/
theorem test_met_ServicePortRequestsAndChunks :
    (∀ a ∈ [false, true], ∀ b ∈ [false, true], ∀ r ∈ [false, true], ∀ s ∈ [{ liveState with svc := { awake := a, busy := b, ready := r } }],
      s.svc.awake = a ∧ s.svc.busy = b ∧ s.svc.ready = r ∧ s.net.waiting.length < 32 ∧ s.svc.discarded < 256) ∧
    (∀ op ∈ [1, 2, 3, 4, 11, 7], ∀ data ∈ [header op 0], data.length ≤ 255 ∧ 24 ≤ data.length ∧ getLe data 0 1 / 16 = 1 ∧
      headerOk data = true ∧ lengthOk data = true ∧ getLe data 0 1 % 16 = op) ∧
    (∀ a ∈ [none, some 0, some 1], ∀ s ∈ [{ liveState with svc := { awake := false, wokenAt := a }, time := { elapsed := 50000 } }],
      svcAwake s = decide (a = some 0) ∧ s.svc.wokenAt = a) ∧
    (∀ c ∈ [0x0101, 0x0102], ∀ q ∈ [({ op := 7, code := c, frame := { port := 3 } } : Request)],
      ∀ s ∈ [{ liveState with net := { liveState.net with waiting := [q] } }],
        s.net.waiting = q :: [] ∧ q.code = c ∧ 3 ≤ q.frame.port ∧ s.dictReady = true ∧ s.power.state < 2) ∧
    (¬(24 ≤ ([] : List Byte).length)) ∧
    (∀ s ∈ [{ liveState with svc := { chunk := some [0, 0] } }], s.svc.chunk = some [0, 0]) ∧
    (∀ s ∈ [liveState], s.svc.chunk = none ∧ s.svc.batchRest = [] ∧ serviceParish s = none ∧ s.dictReady = true ∧ s.power.state < 2 ∧
      (s.dieAt 0).lost = false) ∧
    ∀ n ∈ [1, 253], ∀ s ∈ [{ liveState with svc := { batchRest := [(List.replicate n 1, [])] } }], s.svc.chunk = none ∧
      s.svc.batchRest = [(List.replicate n 1, [])] ∧ (List.replicate n (1 : Byte)).length ≤ 253 := by
  refine ⟨?_, ?_, ?_, ?_, ?_, ?_, ?_, ?_⟩ <;> decide +kernel

/-- Heartbeats not yet sent and sent 100 us ago, two dies, a die that has and has not missed five; a frame for its receiver and one to
send on, with a number to accept and an earlier one; links up, and lost during a loopback. -/
theorem test_met_HeartbeatsAndLinkFrames :
    (∀ a ∈ [none, some 0], ∀ s ∈ [{ liveState with dies := 2, die := [(0, { hbSentAt := a })], time := { elapsed := 25000 } }], usedDies s = 2 ∧
      s.dies = 2 ∧ (s.dieAt 1).lost = false ∧ linksUp s 0 1 = true ∧ reaches s 0 1 = true ∧ (s.dieAt 0).hbSentAt = a) ∧
    (∀ n ∈ [124999, 125000], ∀ s ∈ [{ liveState with time := { elapsed := n } }], (s.dieAt 7).lost = false ∧ (s.dieAt 7).leadLost = false ∧
      (s.dieAt 7).logicOn = true ∧ decide ((s.dieAt 7).hbAt + 125000 ≤ s.time.elapsed) = decide (n = 125000)) ∧
    (∀ dst ∈ [6, 0], ∀ s ∈ [{ liveState with die := [(6, { rxSeq := [(6, 5)] }), (7, { unacked := [(6, [{ src := 7, dst := dst }])] })] }],
      7 < usedDies s ∧ 6 < s.dies ∧ linkEnds s 6 = (6, 7) ∧ linkUp s 6 = true ∧ (s.dieAt 6).lost = false ∧ tget 0 (s.dieAt 6).rxSeq 6 = 5 ∧
        tget [] (s.dieAt 7).unacked 6 = { src := 7, dst := dst } :: []) ∧
    ∀ lp ∈ [0, 1], ∀ s ∈ [{ liveState with test := { ringLoop := [(7, lp)] } }], 7 < s.dies ∧ 7 ∉ s.test.linkDown ∧
      tget 0 s.test.ringLoop 7 = lp := by
  refine ⟨?_, ?_, ?_, ?_⟩ <;> decide +kernel

theorem test_met_TripRoutesReachTheOutputs :
    ∀ s ∈ [{ liveState with col := [(7 * 256 + 63, { dest := 6 * 4096 + 1, level := true })] }], 7 < usedDies s ∧
      (s.colAt (7 * 256 + 63)).level = true ∧ (s.colAt (7 * 256 + 63)).dest / 4096 = 6 := by
  decide +kernel

/-- A set that nobody may commit, an empty one, one that a running commit meets, one that fails a check and one that passes. -/
theorem test_met_CommitsAreCheckedAcceptedAndPersisted :
    (∀ st ∈ [0, 1, 2, 3], ∀ s ∈ [{ liveState with commit := { state := st } }], s.commit.state = st ∧ commitKeys s 0xFFFF = []) ∧
    (∀ s ∈ [{ liveState with pend := [(okey 0x7000 1, [1])] }], commitKeys s 1 = [okey 0x7000 1] ∧ s.commit.state = 0 ∧
      commitFails s 0 (commitKeys s 1) = none ∧ (∀ d < 8, okey (0x6C00 + 128 * d) 1 ∉ commitKeys s 1)) ∧
    (∀ s ∈ [{ liveState with pend := [(okey 0x6C00 1, [1])] }], commitKeys s 1 = [okey 0x6C00 1] ∧ (s.dieAt 0).rotaState = 0 ∧
      ∃ f ∈ (commitFails s 0 (commitKeys s 1)).toList, f.code ≠ 0) ∧
    ∀ s ∈ [{ liveState with
        sessions := [{ num := 16, parish := 1, isOpen := true }], parish := [(1, { armed := some (1, 16) })] }],
      openOf s 1 16 = true ∧ (s.parAt 1).armed = some (1, 16) ∧ (s.dieAt 0).fwErases < 20000 := by
  refine ⟨?_, ?_, ?_, ?_⟩ <;> decide +kernel

/-- An image that its writer owns, one it does not, one too long, one of a die that is off and one while its rota is written. -/
theorem test_met_CommitsApplyAndFramesBegin :
    (∀ st ∈ [0, 1, 2, 3], ∀ off ∈ [false, true], ∀ s ∈ [{ set liveState [(okey (allocIdx 0) 0xE, [0x80, 0x6F, 0x80, 0x6F])] with
        die := [(7, { rotaState := st, lost := off })] }],
      7 < usedDies s ∧ 7 < s.dies ∧ s.dies ≤ 8 ∧ rotaOwner s 7 = some 0 ∧ inRanges s 0 (0x6C00 + 128 * 7) = true ∧
        (s.dieAt 7).lost = off ∧ (s.dieAt 7).logicOn = true ∧ (s.dieAt 7).rotaState = st ∧ commitBusy s = false ∧ rotaOwner s 7 ≠ some 15) ∧
    (∀ ps ∈ [false, true], ∀ s ∈ [{ liveState with
        commit := { state := 2, keys := [okey 0x7E00 1], todo := [7, 255], persist := ps }, pend := [(okey 0x7E00 1, [1])] }],
      s.commit.state = 2 ∧ atT s = true ∧ (s.dieAt 7).lost = false ∧ (s.dieAt 7).leadLost = false ∧ (s.dieAt 7).active.valid = false ∧ loopHolds s = false ∧
        7 ∈ s.commit.todo ∧ 255 ∈ s.commit.todo ∧ (∀ k ∈ s.commit.keys, keyLay s k = some (.stream 0xE00) ∧ keyDie s k = some 7) ∧
        s.pend.find? (fun e => e.1 == okey 0x7E00 1) = some (okey 0x7E00 1, [1])) ∧
    atBoundary liveState 7 = false ∧
    ∀ s ∈ [{ liveState with die := [(7, { active := { valid := true, frameLen := 200000 } })], startAnchor := 128 }], atBoundary s 7 = true ∧
      s.commit.state ≠ 2 ∧ (s.dieAt 7).failover = false ∧ (s.dieAt 7).pointDue = none ∧ (s.dieAt 7).bankTurn = none ∧ starting s = false ∧ bitOf s.startAnchor 7 = true ∧
      ∀ p < 16, (s.parAt p).target = none := by
  refine ⟨?_, ?_, ?_, ?_⟩ <;> decide +kernel

/-- Die 7 with one entry of engine 0 at the start of frame 0, and the rising edge that its launch pin names. -/
def entryState (flags bench hint state : Nat) (edge : Bool) : State :=
  { set liveState [allEngines] with
    die := [(7, { active := { frameLen := 200000, entries := [{ flags := flags, hint := hint }], launchPin := [0x40] }, frameStart := some 0 })]
    engine := [(168, { bench := bench, state := state })]
    port := if edge then [(84, { edgeStamp := [(edgeKey 0 true, 5)] })] else [] }

/-- An entry without and with an edge to wait for, a gap, an engine with a free context, without one, and halted. -/
theorem test_met_EntriesLaunchContextsAtTheirInstants :
    (∀ flags ∈ [0, 1, 2], ∀ bench ∈ [0, 1], ∀ hint ∈ [0, 1], ∀ st ∈ [1, 2], ∀ edge ∈ [false, true],
      ∀ s ∈ [entryState flags bench hint st edge], 7 < usedDies s ∧ (s.dieAt 7).lost = false ∧ (s.dieAt 7).logicOn = true ∧
        0 ∉ (s.dieAt 7).instants ∧ (s.dieAt 7).active.entries[0]? = some { flags := flags, hint := hint } ∧
        (s.dieAt 7).frameStart = some 0 ∧ (s.dieAt 7).active.frameLen ≠ 0 ∧
        (s.dieAt 7).frameN % ((field flags 7 4 + 1 : Nat) : Int) = ((0 / (s.dieAt 7).active.frameLen : Nat) : Int) ∧
        (0 : Int) ≤ (fineOf s.time : Int)) ∧
    (∀ s ∈ [entryState 1 1 0 1 true], entryFirst s 7 0 0 = true ∧ engNamed s 168 = true ∧ (s.dieAt 7).opens = [] ∧ parishLaunches s (engParish s 168) 7 = true ∧ (s.dieAt 7).rotaNone = false ∧
      0 ∉ (s.dieAt 7).rotaDamaged ∧ engHalted s 168 = false ∧ entryEngine (s.dieAt 7) 7 {} = 168 ∧
      edgeFor s 7 { flags := 1 } (fineStamp 0) = some 5 ∧ 0 < (s.engAt 168).bench ∧ (ctxOf s 168 0).live = false) ∧
    (∀ s ∈ [entryState 1 0 0 2 false], edgeFor s 7 { flags := 1 } (fineStamp 0) = none ∧ (s.engAt 168).bench = 0 ∧ engHalted s 168 = true) ∧
    (∀ s ∈ [{ entryState 0 1 0 1 false with
        conf := [], die := [(7, { active := { frameLen := 200000, entries := [{}, {}] }, frameStart := some 0 })] }],
      entryFirst s 7 0 0 = true ∧ entryFirst s 7 1 0 = false ∧ engNamed s 168 = false) ∧
    ∀ s ∈ [{ entryState 0 1 0 1 false with reeve := { ownDamaged := [] }, parish := [(15, { state := 4 })], conf := [(okey (allocIdx 15) 2, List.replicate 24 0xFF)] }],
      parishLaunches s (engParish s 168) 7 = false := by
  refine ⟨?_, ?_, ?_, ?_, ?_⟩ <;> decide +kernel

/-- Die 7 with a window of entry 0 open until tick 5, at a tick. -/
def windowState (flags : Nat) (ctx : Option Nat) (live : Bool) (now : Nat) : State :=
  { liveState with
    die := [(7, { active := { entries := [{ flags := flags }] }, opens := [{ engine := 168, ctx := ctx, endAt := 5 }] })]
    engine := [(168, { running := ctx, ctxs := [(0, { live := live })] })]
    time := { elapsed := now } }

/-- A window before its end, of a gap, one that launched nothing, one whose context runs and one whose context ended; an edge on each
kind of pin, with an operation that waits for data ready and a context that waits for the edge. -/
theorem test_met_WindowsEndAndPinEdgesAreStamped :
    (∀ flags ∈ [0, 2], ∀ live ∈ [false, true], ∀ now ∈ [4, 5], ∀ s ∈ [windowState flags (some 0) live now], 7 < usedDies s ∧
      (s.dieAt 7).opens.find? (fun v => v.entry == 0) = some { engine := 168, ctx := some 0, endAt := 5 } ∧
      (s.dieAt 7).active.entries[0]? = some { flags := flags } ∧ (ctxOf s 168 0).live = live ∧ (ctxOf s 168 0).entry = 0) ∧
    (∀ s ∈ [windowState 0 none false 5], (s.dieAt 7).opens.find? (fun v => v.entry == 0) = some { engine := 168, ctx := none, endAt := 5 } ∧
      (5 : Nat) ≤ s.time.elapsed) ∧
    (∀ pin ∈ [0, 1, 3], ∀ s ∈ [{ opState { mode := 1 } {} with
        die := [(0, { slots := [(511, { state := 1, port := 11, d0 := 0x600000 })] })]
        engine := [(0, { ctxs := [(0, { live := true, await := some { kind := 1, arg := 11, sub := pin + 12 } })] })] }],
      11 < usedDies s * 12 ∧ domainOn s 11 = true ∧ (s.portAt 11).mode = 1 ∧ (s.portAt 11).queue = [511] ∧ (slotOf s 11 511).state = 1 ∧
        decide (drdyKey (slotOf s 11 511).d0 = edgeKey pin false) = decide (pin = 3) ∧ (ctxOf s 0 0).live = true ∧
        (ctxOf s 0 0).await = some { kind := 1, arg := 11, sub := pin + 12 } ∧ (pin + 12) % 4 = pin ∧ bitOf (pin + 12) 3 = true ∧
        bitOf (pin + 12) 2 = true) ∧
    domainOn State.reset 11 = false := by
  refine ⟨?_, ?_, ?_, ?_⟩ <;> decide +kernel

/-- An output to compute, before and after another channel's; outputs to release; images in wait. -/
theorem test_met_MillOutputsAreComputedAndReleased :
    (∀ r ∈ [0, 1], ∀ s ∈ [{ liveState with mill := [(126, { waiting := [{ round := 1 - r }] }), (127, { waiting := [{ ready := true }, { round := r }] })] }],
      127 < usedDies s * 16 ∧ (s.millAt 127).waiting = [{ ready := true }] ++ { round := r } :: [] ∧
        (s.millAt 126).waiting.find? (fun o => !o.ready) = some { round := 1 - r }) ∧
    (∀ s ∈ [{ set liveState [allStreams, (okey 0x7E00 1, [1])] with
        mill := [(127, { waiting := [{ ready := true, stream := 0 }] })], die := [(7, { round := 1 })] }],
      releasable (s.dieAt 7).round (s.millAt 127).waiting = [{ ready := true, stream := 0 }] ∧ (s.dieAt 7).logicOn = true ∧ (s.millAt 127).halted = false ∧
        ringSize s (7 * 512) ≠ 0 ∧ streamPolicy s (7 * 512) = 0 ∧
        ∀ r ∈ (s.streamAt (7 * 512)).ring, r.pinned = false) ∧
    releasable 0 [{ ready := true }] = [] ∧
    ∀ l ∈ [none, some 1, some 3], ∀ s ∈ [{ liveState with
        die := [(7, { lag := 2, lagNext := l, oldLags := [(4, 1), (5, 2)] })], mill := [(127, { next := some {}, img := { enable := true } })] }],
      7 < usedDies s ∧ (s.dieAt 7).logicOn = true ∧ (s.dieAt 7).lagNext = l ∧ (s.millAt 127).next = some {} := by
  refine ⟨?_, ?_, ?_, ?_⟩ <;> decide +kernel

/-- Die 7 with its last rule and an offer to it. -/
def ruleState (type : Nat) (primed out : Bool) (v : Int) (now : Nat := 0) : State :=
  { liveState with
    rule := [(511, {
      img := { present := true, type := type, a := 10, b := 5, n := 1, t := 4, silence := 1 }
      primed := primed, out := out, lastC := true, arrivals := [0], hist := [1] })]
    die := [(7, { offers := [{ rule := 63, value := v }] })]
    time := { elapsed := now } }

/-- Each kind of rule with each bound of its values, primed and not; a rule that is absent. -/
theorem test_met_RulesJudgeTheirOffers :
    (∀ ty ∈ [0, 1, 3, 4, 6], ∀ pr ∈ [false, true], ∀ out ∈ [false, true], ∀ v ∈ [(4 : Int), 5, 10, 11], ∀ s ∈ [ruleState ty pr out v],
      511 < usedDies s * 64 ∧ (s.ruleAt 511).img.present = true ∧ thas (s.dieAt 7).reloadDue (0x8400 + 511) = false ∧
        ruleOwner s 511 = some 0 ∧ parStateOn s 0 7 ≠ 4 ∧ (s.dieAt 7).offers = [{ rule := 63, value := v }] ∧ (s.dieAt 7).logicOn = true ∧
        expiryWaits s 7 = false ∧ (s.ruleAt 511).img.srcKind ≠ 6 ∧ (s.ruleAt 511).img.type = ty ∧ (s.ruleAt 511).primed = pr ∧ (s.ruleAt 511).out = out) ∧
    (∀ ty ∈ [3, 4], ∀ now ∈ [249999, 250000], ∀ s ∈ [ruleState ty true (decide (ty = 3)) 0 now], (s.ruleAt 511).arrivals[(s.ruleAt 511).img.n - 1]? = some 0 ∧ (s.ruleAt 511).arrivals.head? = some 0 ∧
      (s.ruleAt 511).lastC = true ∧ (0 + (s.ruleAt 511).img.t * 250 + 249) / 250 * 250 ≤ s.time.elapsed ∧ (s.ruleAt 511).img.silence ≠ 0 ∧
      decide (((s.ruleAt 511).heard + (s.ruleAt 511).img.silence * 250000 + 249) / 250 * 250 ≤ s.time.elapsed) = decide (now = 250000) ∧ (s.ruleAt 511).hist ≠ []) ∧
    (∀ s ∈ [ruleState 3 true true 0], s.time.elapsed < (0 + (s.ruleAt 511).img.t * 250 + 249) / 250 * 250) ∧
    (∀ s ∈ [ruleState 4 true false 0 250000], expiryWaits s 7 = true) ∧
    (∀ s ∈ [liveState], (s.dieAt 7).offers = [] ∧ (s.ruleAt 511).img.present = false) := by
  refine ⟨?_, ?_, ?_, ?_, ?_⟩ <;> decide +kernel

/-- A waiting command; an empty queue in RUN, asleep and at the end of an entry. -/
theorem test_met_StepRunsTheFrontCommand :
    ({ State.reset with pending := [.timeTick] } : State).pending = .timeTick :: [] ∧ State.reset.pending = [] ∧ inFinal State.reset = false ∧
      (∀ st ∈ [0, 2, 3, 5], ∀ s ∈ [withPower State.reset { State.reset.power with state := st }],
        s.pending = [] ∧ s.power.state = st ∧ inFinal s = decide (st = 5)) := by
  decide +kernel

theorem test_met_EncodingAndDecodingAgree :
    (Instr.addi 191 15 1 0x3FFFF).wf = true ∧ encodeWord (.addi 191 15 1 0x3FFFF) = some 0x07C7FFFF ∧
      decodeWord 191 0x07C7FFFF = some (.addi 191 15 1 0x3FFFF) := by
  decide

theorem test_met_EveryStepKeepsTheInvariant : Sound State.reset ∧ step State.reset = .next State.reset := by
  exact ⟨by decide, rfl⟩

/-- Parts of 2, 4 and 8 dies, with a command at the last number of each kind of unit, and the first number past it. -/
theorem test_met_EveryWellFormedCommandCompletes :
    ∀ n ∈ [2, 4, 8], ∀ s ∈ [{ State.reset with dies := n }], Genuine s ∧
      (∀ i ∈ [Instr.frameBegin (n - 1), .calReq (12 * n - 1), .contextDispatch (24 * n - 1), .stateReqRun 15, .linkUp 2],
        i.wfFor (usedDies s) = true) ∧ usedDies s ≤ n ∧ usedDies s * 12 ≤ 12 * n ∧ usedDies s * 24 ≤ 24 * n ∧ usedDies s * 32 ≤ 32 * n := by
  decide

end Sys2Proof.Tests
end

section
/-! PROOF. Every step keeps the factory identity, the scratch memories' canonical form and the rates (O59). -/

namespace Sys2Proof.Machine

/-! ### The scratch memories and the rates -/

/-- RATE as written and in force lies within R37, and the fraction of a nanosecond is below one (R36). -/
def RatesSound (t : TimeBase) : Prop := rateInRange t.rate ∧ rateInRange t.rateForce ∧ t.frac < 2 ^ 32

/-- The time base after reset (R37, R438). -/
theorem RatesSound.reset : RatesSound {} := ⟨by decide, by decide, by decide⟩

theorem RatesSound.tick {t : TimeBase} (h : RatesSound t) : RatesSound t.tick := by
  obtain ⟨hrate, hforce, -⟩ := h
  unfold TimeBase.tick TimeBase.advance
  dsimp only
  split
  · exact ⟨hrate, hforce, Nat.mod_lt _ (by decide)⟩
  · exact ⟨hrate, hforce, Nat.mod_lt _ (by decide)⟩

theorem RatesSound.moved {t : TimeBase} (h : RatesSound t) {off : Int} : RatesSound (t.moved off) := by
  obtain ⟨hrate, hforce, -⟩ := h
  exact ⟨hrate, hforce, Nat.mod_lt _ (by decide)⟩

theorem RatesSound.steer {t : TimeBase} (h : RatesSound t) {v : Nat} (hv : rateInRange v) : RatesSound (t.steer v) := by
  obtain ⟨-, hforce, hfrac⟩ := h
  exact ⟨hv, hforce, hfrac⟩

theorem RatesSound.atWhole {t : TimeBase} (h : RatesSound t) : RatesSound { t with frac := 0 } := by
  obtain ⟨hrate, hforce, -⟩ := h
  exact ⟨hrate, hforce, Nat.two_pow_pos 32⟩

theorem clampRate_inRange (v : Int) : rateInRange (clampRate v) := by
  unfold clampRate clampInt
  split
  · decide
  · split
    · decide
    · omega

/-- The part of Sound that speaks of pieces which commands change: the engines and the time base. -/
structure Regular (s : State) : Prop where
  scratch : ScratchSound s
  rates : RatesSound s.time

theorem sound_iff (s : State) : Sound s ↔ Genuine s ∧ Regular s :=
  ⟨fun ⟨hg, hm, hr⟩ => ⟨hg, hm, hr⟩, fun ⟨hg, hm, hr⟩ => ⟨hg, hm, hr⟩⟩

/-- An effect on other pieces than the engines and the time base. -/
theorem Regular.after {l : List Piece} {s t : State} (h : Regular s) (c : Changes l s t)
    (hl : (l.contains .engine || l.contains .time) = false) : Regular t := by
  obtain ⟨he, ht⟩ := Bool.or_eq_false_iff.mp hl
  have hengine : t.engine = s.engine := c .engine he
  have htime : t.time = s.time := c .time ht
  refine ⟨?_, htime ▸ h.rates⟩
  unfold ScratchSound
  rw [hengine]
  exact h.scratch

/-- An update of fields other than the engines, the rates and the fraction. Inside a chain, where `t` is known only from what follows,
the equation is given as `(by exact rfl)`, which waits for it. -/
theorem Regular.congr {s t : State} (h : Regular s)
    (e : (t.engine, t.time.rate, t.time.rateForce, t.time.frac) = (s.engine, s.time.rate, s.time.rateForce, s.time.frac)) :
    Regular t := by
  obtain ⟨hscratch, hrates⟩ := h
  obtain ⟨hengine, hrate, hforce, hfrac⟩ : t.engine = s.engine ∧ t.time.rate = s.time.rate ∧ t.time.rateForce = s.time.rateForce ∧
      t.time.frac = s.time.frac := by simpa using e
  refine ⟨?_, ?_⟩
  · unfold ScratchSound
    rw [hengine]
    exact hscratch
  · unfold RatesSound
    rw [hrate, hforce, hfrac]
    exact hrates

/-- An update of the time base that leaves the rates and the fraction sound. -/
theorem Regular.withTime {s t : State} (h : Regular s) (ht : RatesSound t.time) (he : t.engine = s.engine) : Regular t := by
  refine ⟨?_, ht⟩
  unfold ScratchSound
  rw [he]
  exact h.scratch

theorem Regular.ite {a b : State} {p : Prop} {_ : Decidable p} (h : Regular a) (k : Regular b) : Regular (if p then a else b) := by
  split <;> assumption

theorem Regular.given {a b : State} {q : Bool} (h : Regular a) (k : Regular b) : Regular (given q a b) := by
  cases q <;> assumption

theorem Regular.foldl {α : Type} {g : State → α → State} {b : State} {xs : List α} (hg : ∀ x i, Regular x → Regular (g x i))
    (h : Regular b) : Regular (xs.foldl g b) := by
  induction xs generalizing b with
  | nil => exact h
  | cons i t ih => exact ih (hg b i h)

/-- Whatever next state a command answers is regular. -/
def RegularNext (r : Result State) : Prop := ∀ t, r = .next t → Regular t

theorem RegularNext.next {t : State} (h : Regular t) : RegularNext (.next t) := by
  rintro u ⟨⟩
  exact h

theorem RegularNext.fault (r : Fault) : RegularNext (.fault r) := by
  rintro u ⟨⟩

theorem RegularNext.ite {a b : Result State} {p : Prop} {_ : Decidable p} (h : RegularNext a) (k : RegularNext b) :
    RegularNext (if p then a else b) := by
  split <;> assumption

theorem RegularNext.withUnit {c : Bool} {u : String} {t : State} (h : Regular t) : RegularNext (withUnit c u t) := by
  cases c
  · exact .fault _
  · exact .next h

theorem mem_tput {α : Type} {t : Tbl α} {k : Nat} {v : α} {e : Nat × α} (h : e ∈ tput t k v) : e ∈ t ∨ e = (k, v) := by
  induction t with
  | nil => simpa [tput] using h
  | cons f t ih =>
    obtain ⟨j, w⟩ := f
    unfold tput at h
    split at h
    · simpa [or_comm, or_assoc] using h
    · split at h
      · rcases List.mem_cons.mp h with h | h
        · exact .inr h
        · exact .inl (List.mem_cons_of_mem _ h)
      · rcases List.mem_cons.mp h with h | h
        · exact .inl (h ▸ List.mem_cons_self)
        · exact (ih h).imp (List.mem_cons_of_mem _) id

theorem tget_mem_or_default {α : Type} (dflt : α) (t : Tbl α) (k : Nat) : (k, tget dflt t k) ∈ t ∨ tget dflt t k = dflt := by
  induction t with
  | nil => exact .inr rfl
  | cons f t ih =>
    obtain ⟨j, w⟩ := f
    unfold tget
    split
    · subst_vars
      exact .inl List.mem_cons_self
    · exact ih.imp (List.mem_cons_of_mem _) id

/-- The scratch memory of every engine of a regular machine is in canonical form, listed or not. -/
theorem Regular.engAt {s : State} (h : Regular s) (e : Nat) : Memory.wf (s.engAt e).scratch = true := by
  unfold State.engAt
  rcases tget_mem_or_default {} s.engine e with hm | hd
  · exact h.scratch _ hm
  · rw [hd]
    rfl

/-- A reset leaves no engine listed and the time base at its reset values (R438). -/
theorem resetPart_regular (s : State) (cause : Nat) : Regular (resetPart s cause) := by
  refine ⟨?_, .reset⟩
  rintro e ⟨⟩

section
variable {s : State} (h : Regular s)
include h

/-! ### Updates of one piece -/

/-- An engine changed, with its scratch memory left in canonical form. -/
theorem Regular.modEng {k : Nat} {g : Engine → Engine}
    (hg : ∀ x, Memory.wf x.scratch = true → Memory.wf (g x).scratch = true) :
    Regular (s.modEng k g) := by
  refine ⟨fun e he => ?_, h.rates⟩
  rcases mem_tput he with he | rfl
  · exact h.scratch e he
  · exact hg _ (h.engAt k)

/-- Every engine changed, each with its scratch memory left in canonical form. -/
theorem Regular.mapEngines {t : State} {g : Nat × Engine → Nat × Engine} (he : t.engine = s.engine.map g)
    (hg : ∀ e, Memory.wf e.2.scratch = true → Memory.wf (g e).2.scratch = true) (ht : t.time = s.time) : Regular t := by
  refine ⟨fun e hm => ?_, ht ▸ h.rates⟩
  rw [he] at hm
  obtain ⟨x, hx, rfl⟩ := List.mem_map.mp hm
  exact hg x (h.scratch x hx)

theorem Regular.modCtx {e c : Nat} {f : Ctx → Ctx} : Regular (s.modCtx e c f) := h.modEng (fun _ => id)

theorem Regular.modDie {k : Nat} {g : Die → Die} : Regular (s.modDie k g) := h.after (State.modDie_changes _ _ _) rfl

theorem Regular.modSlot {d k : Nat} {g : Slot → Slot} : Regular (s.modSlot d k g) := h.after (State.modSlot_changes _ _ _ _) rfl

theorem Regular.modPort {k : Nat} {g : Port → Port} : Regular (s.modPort k g) := h.after (State.modPort_changes _ _ _) rfl

theorem Regular.modPar {k : Nat} {g : Parish → Parish} : Regular (s.modPar k g) := h.after (State.modPar_changes _ _ _) rfl

theorem Regular.modMill {k : Nat} {g : MillChan → MillChan} : Regular (s.modMill k g) := h.after (State.modMill_changes _ _ _) rfl

theorem Regular.modRule {k : Nat} {g : Rule → Rule} : Regular (s.modRule k g) := h.after (State.modRule_changes _ _ _) rfl

theorem Regular.modTally {k : Nat} {g : Tally → Tally} : Regular (s.modTally k g) := h.after (State.modTally_changes _ _ _) rfl

theorem Regular.modRow {k : Nat} {g : Row → Row} : Regular (s.modRow k g) := h.after (State.modRow_changes _ _ _) rfl

theorem Regular.modCol {k : Nat} {g : Col → Col} : Regular (s.modCol k g) := h.after (State.modCol_changes _ _ _) rfl

theorem Regular.modPtp {k : Nat} {g : PtpPort → PtpPort} : Regular (s.modPtp k g) := h.after (State.modPtp_changes _ _ _) rfl

/-! ### Contexts, operations and registers -/

/-- The effect of a command of a context that runs. -/
theorem onCtx_regular {e : Nat} {i : Instr} {f : Engine → Nat → Ctx → State} (hf : ∀ x c y, Regular (f x c y)) :
    RegularNext (onCtx s e i f) := by
  unfold onCtx
  refine .withUnit ?_
  dsimp only
  split
  · exact h
  · exact .given h (hf _ _ _)

theorem dieReaction_regular {d cls detail item : Nat} : Regular (dieReaction s d cls detail item) := by
  unfold dieReaction
  extract_lets s1
  have h1 : Regular s1 := h.after (raiseFault_changes _ _ _ _ _ _ _ _) rfl
  exact .ite h1 (.ite (resetPart_regular _ _) (h1.after (loseDie_changes _ _) rfl))

theorem nextPc_regular {e c : Nat} : Regular (nextPc s e c) := by
  unfold nextPc
  exact h.modCtx

theorem writeReg_regular {e c : Nat} {r : BitVec 4} {v : Word} : Regular (writeReg s e c r v) := by
  unfold writeReg
  exact .ite h (.ite h.modCtx (h.modEng (fun _ => id)))

theorem retireSlot_regular {d k : Nat} : Regular (retireSlot s d k) := by
  unfold retireSlot
  exact h.modSlot.modCtx

theorem completeOp_regular {d k status count : Nat} : Regular (completeOp s d k status count) := by
  unfold completeOp
  extract_lets x n s1 s2 s3
  have h2 : Regular s2 := h.modPort.modSlot
  have h3 : Regular s3 := .ite (retireSlot_regular h2) h2.modCtx
  exact h3.after (enterIdleMode_changes _ _) rfl

theorem abortOp_regular {d k status : Nat} {recover : Bool} : Regular (abortOp s d k status recover) := by
  unfold abortOp
  extract_lets x s1
  have h1 : Regular s1 := h.after (emitterCancel_changes _ _ _) rfl
  exact .ite h (.ite (.ite h1 h1.modPort.modSlot) (completeOp_regular h1))

theorem freeCtx_regular {e c : Nat} : Regular (freeCtx s e c) := by
  unfold freeCtx
  exact (h.modEng (by exact fun _ => id)).modDie

theorem endCtx_regular {e c : Nat} {budget : Option Nat} : Regular (endCtx s e c budget) := by
  unfold endCtx
  refine freeCtx_regular ?_
  refine .foldl (fun _ _ h => ?_) (h.modEng (fun _ => id))
  refine .ite (retireSlot_regular h.modSlot) ?_
  split
  · exact h.modSlot
  · exact abortOp_regular h.modSlot

theorem engineFault_regular {e c detail pc operand : Nat} : Regular (engineFault s e c detail pc operand) := by
  unfold engineFault
  extract_lets x p word s1 s2
  have h2 : Regular s2 := (h.modEng (by exact fun _ => id)).after (faultRecord_changes _ _ _ _ _ _ _) rfl
  exact .ite (h2.after (violationCount_changes _ _) rfl) h2

theorem faultEnd_regular {e c detail operand : Nat} : Regular (faultEnd s e c detail operand) := by
  unfold faultEnd
  exact endCtx_regular (engineFault_regular h)

theorem writeScratch_regular {e a : Nat} {bs : List Byte} : Regular (writeScratch s e a bs) :=
  h.modEng fun _ hw => Memory.writeBytes_wf a bs hw

theorem resultBytes_regular {d k a : Nat} {bs : List Byte} : Regular (resultBytes s d k a bs) := by
  unfold resultBytes
  exact .ite h (writeScratch_regular h)

theorem leaveEngine_regular {e : Nat} : Regular (leaveEngine s e) := by
  unfold leaveEngine
  exact h.modEng (fun _ => id)

theorem makeReady_regular {e c : Nat} : Regular (makeReady s e c) := by
  unfold makeReady
  exact (h.modEng (by exact fun _ => id)).modCtx

/-! ### Ports: quarantine and the ends of transfers -/

theorem quarantineOps_regular {n : Nat} : Regular (quarantineOps s n) := by
  unfold quarantineOps
  exact .foldl (fun _ _ h => .ite (completeOp_regular (h.after (emitterCancel_changes _ _ _) rfl)) h) h

theorem quarantineAdd_regular {n code : Nat} : Regular (quarantineAdd s n code) := by
  unfold quarantineAdd
  exact .ite (h.after (modVp_changes _ _ _) rfl) ((((quarantineOps_regular h).after (stopEmitterItem_changes _ _) rfl).after
    (modVp_changes
    _ _ _) rfl).after (raiseFault_changes _ _ _ _ _ _ _ _) rfl)

theorem writeQuarCtl_regular {n v : Nat} : Regular (writeQuarCtl s n v) := by
  unfold writeQuarCtl
  dsimp only
  split
  · exact h.modPort.after (quarantineLeave_changes _ _ _) rfl
  · exact .ite h.modPort (quarantineAdd_regular h.modPort)
  · exact .foldl (fun _ _ h => .ite (h.after (probeStart_changes _ _ _ _) rfl) h) h.modPort

theorem execUartTransferDone_regular {n : Nat} {rx : List Byte} {err lag bins : Nat} :
    RegularNext (execUartTransferDone n rx err lag bins s) := by
  unfold execUartTransferDone
  refine .withUnit ?_
  dsimp only
  split
  · exact h
  · exact .given h (completeOp_regular (Regular.ite (Regular.ite (resultBytes_regular h) h).modSlot (.ite (resultBytes_regular h)
      h)).modPort)

theorem execVpAverageOverload_regular {n : Nat} : RegularNext (execVpAverageOverload n s) := by
  unfold execVpAverageOverload
  exact .withUnit (.given h (quarantineAdd_regular h.modPort))

theorem quarCtlWrite_regular {n v : Nat} : Regular (quarCtlWrite s n v) := by
  unfold quarCtlWrite
  exact .ite ((writeQuarCtl_regular h).after (withStatus_changes _ _) rfl) (h.after (withStatus_changes _ _) rfl)

theorem execQuarCtlHold_regular {n : Nat} : RegularNext (execQuarCtlHold n s) := by
  unfold execQuarCtlHold
  exact .next (.given (h.after (withStatus_changes _ _) rfl) (quarCtlWrite_regular h))

theorem execBusRecoveryDone_regular {n : Nat} {isFree : Bool} : RegularNext (execBusRecoveryDone n isFree s) := by
  unfold execBusRecoveryDone
  extract_lets x s1 s2
  have h1 : Regular s1 := h.modPort
  have h2 : Regular s2 := by
    unfold s2
    split
    · exact h1
    · exact completeOp_regular h1
  exact .withUnit (.given h (.ite (h.after (recoveryProbeEnd_changes _ _ _) rfl) (.ite h2 (quarantineAdd_regular h2))))

theorem execTwTransferDone_regular {n nak : Nat} {rx : List Byte} {pec : Byte} {rise : Nat} :
    RegularNext (execTwTransferDone n nak rx pec rise s) := by
  unfold execTwTransferDone
  refine .withUnit ?_
  dsimp only
  split
  · exact h
  · exact .given h (completeOp_regular (.ite (resultBytes_regular h.modPort) h.modPort))

theorem execUartRxLowTimeout_regular {n : Nat} : RegularNext (execUartRxLowTimeout n s) := by
  unfold execUartRxLowTimeout
  exact .withUnit (.given h (quarantineAdd_regular h))

theorem execArbitrationLost_regular {n : Nat} : RegularNext (execArbitrationLost n s) := by
  unfold execArbitrationLost
  refine .withUnit ?_
  dsimp only
  split
  · exact h
  · exact .ite h (.ite h.modPort.modSlot (completeOp_regular h.modPort.modPort))

theorem execVpPeakOverload_regular {n : Nat} : RegularNext (execVpPeakOverload n s) := by
  unfold execVpPeakOverload
  exact .withUnit (.given h (quarantineAdd_regular h.modPort))

theorem execEmitterPulseDone_regular {n : Nat} {isOpen noreg : Bool} : RegularNext (execEmitterPulseDone n isOpen noreg s) := by
  unfold execEmitterPulseDone
  refine .withUnit ?_
  split
  · exact h
  · exact completeOp_regular (h.modPort.after (emitterStop_changes _ _) rfl)

theorem execQuarCtlRelease_regular {n : Nat} : RegularNext (execQuarCtlRelease n s) := by
  unfold execQuarCtlRelease
  exact .next (.given (h.after (withStatus_changes _ _) rfl) (quarCtlWrite_regular h))

theorem execQuarCtlProbe_regular {n : Nat} : RegularNext (execQuarCtlProbe n s) := by
  unfold execQuarCtlProbe
  exact .next (.given (h.after (withStatus_changes _ _) rfl) (quarCtlWrite_regular h))

theorem execBusTimeout_regular {n : Nat} {sda : Bool} : RegularNext (execBusTimeout n sda s) := by
  unfold execBusTimeout
  refine .withUnit ?_
  refine .given h ?_
  refine .ite h.modPort ?_
  split
  · exact h.modPort.modPort
  · exact .ite (abortOp_regular h.modPort) (completeOp_regular h.modPort.modPort).modPort

theorem execSpiTransferDone_regular {n : Nat} {rx : List Byte} : RegularNext (execSpiTransferDone n rx s) := by
  unfold execSpiTransferDone
  refine .withUnit ?_
  dsimp only
  split
  · exact h
  · exact .given h (completeOp_regular (.ite (resultBytes_regular h) h))

theorem execAnaOperationDone_regular {n : Nat} : RegularNext (execAnaOperationDone n s) := by
  unfold execAnaOperationDone
  refine .withUnit ?_
  dsimp only
  split
  · exact h
  · exact .given h (completeOp_regular (resultBytes_regular (h.after (markSamples_changes _ _ _ _) rfl)))

theorem execCodeBurstDone_regular {n : Nat} {isOpen noreg : Bool} : RegularNext (execCodeBurstDone n isOpen noreg s) := by
  unfold execCodeBurstDone
  extract_lets d x clip range big
  refine .withUnit ?_
  split
  · exact h
  · extract_lets y spc inp on off w0 w1 raw ws s0 s1 s2
    have h0 : Regular s0 := .ite h ((h.after (burstWord_changes _ _ _ _) rfl).after (burstWord_changes _ _ _ _) rfl)
    have h1 : Regular s1 := h0.modPort.after (emitterStop_changes _ _) rfl
    have h2 : Regular s2 := (h1.after (applyRange_changes _ _ _ _ _) rfl).modPort
    exact .given h (.ite (completeOp_regular h2)
      (completeOp_regular (resultBytes_regular (h2.after (markSamples_changes _ _ _ _) rfl))))

theorem execSingleSlopeEnd_regular {n elapsed : Nat} {rampEnd atMax : Bool} :
    RegularNext (execSingleSlopeEnd n elapsed rampEnd atMax s) := by
  unfold execSingleSlopeEnd
  refine .withUnit ?_
  dsimp only
  split
  · exact h
  · exact .given h (completeOp_regular (resultBytes_regular h.modSlot))

/-! ### The instructions of the tap engines -/

theorem foldPair_regular {e c : Nat} {v : Word} : Regular (foldPair s e c v) := by
  unfold foldPair
  exact h.modCtx

theorem writeEngReg_regular {e c addr : Nat} {v : Word} : Regular (writeEngReg s e c addr v) := by
  unfold writeEngReg
  exact .ite (foldPair_regular h) h

theorem latchTime_regular {e : Nat} : Regular (latchTime s e) := by
  unfold latchTime
  exact h.modEng (fun _ => id)

theorem loadOp_regular {e : Nat} {i : Instr} {rd ra : BitVec 4} {imm : BitVec 18} {n : Nat} {f : Memory → Nat → Word} :
    RegularNext (loadOp s e i rd ra imm n f) := by
  unfold loadOp
  exact onCtx_regular h (fun _ _ _ => .ite (nextPc_regular (writeReg_regular h)) (faultEnd_regular h))

theorem aluEnd_regular {e c : Nat} {rd : BitVec 4} {r : Word × Flags} : Regular (aluEnd s e c rd r) := by
  unfold aluEnd
  exact nextPc_regular (writeReg_regular h.modCtx)

theorem aluR_regular {e : Nat} {i : Instr} {rd ra rb : BitVec 4} {f : Flags → Word → Word → Word × Flags} :
    RegularNext (aluR s e i rd ra rb f) := by
  unfold aluR
  exact onCtx_regular h (fun _ _ _ => aluEnd_regular h)

theorem execPcend_regular {e : Nat} : RegularNext (execPcend e s) := by
  unfold execPcend
  refine .withUnit ?_
  dsimp only
  split
  · exact h
  · exact .given h (faultEnd_regular h)

theorem jumpTo_regular {e c pc : Nat} : Regular (jumpTo s e c pc) := by
  unfold jumpTo
  exact h.modCtx

theorem aluI_regular {e : Nat} {i : Instr} {rd ra : BitVec 4} {f : Flags → Word → Word × Flags} : RegularNext (aluI s e i rd ra f)
  := by
  unfold aluI
  exact onCtx_regular h (fun _ _ _ => aluEnd_regular h)

theorem ioWrite_regular {e c pc addr : Nat} {v : Word} : Regular (ioWrite s e c pc addr v) := by
  unfold ioWrite
  exact .ite (.ite (h.after (writePortReg_changes _ _ _ _) rfl) ((engineFault_regular h).modEng (fun _ => id)))
    (writeEngReg_regular h)

theorem execRegisterWrite_regular {e addr : Nat} {value : Word} : RegularNext (execRegisterWrite e addr value s) := by
  unfold execRegisterWrite
  refine .withUnit ?_
  split
  · exact h
  · exact .given h (ioWrite_regular h)

theorem storeOp_regular {e : Nat} {i : Instr} {rd ra : BitVec 4} {imm : BitVec 18} {n : Nat} :
    RegularNext (storeOp s e i rd ra imm n) := by
  unfold storeOp
  exact onCtx_regular h (fun _ _ _ => .ite (nextPc_regular (writeScratch_regular h)) (faultEnd_regular h))

theorem execTsecLoRead_regular {e : Nat} {rd : BitVec 4} : RegularNext (execTsecLoRead e rd s) := by
  unfold execTsecLoRead
  refine .withUnit ?_
  split
  · exact latchTime_regular h
  · exact writeReg_regular (latchTime_regular h)

theorem execLui_regular {e : Nat} {rd : BitVec 4} {imm : BitVec 18} : RegularNext (execLui e rd imm s) := by
  unfold execLui
  exact onCtx_regular h (fun _ _ _ => nextPc_regular (writeReg_regular h))

theorem execIoOut_regular {e : Nat} {rd ra : BitVec 4} {imm : BitVec 18} : RegularNext (execIoOut e rd ra imm s) := by
  unfold execIoOut
  exact onCtx_regular h (fun _ _ _ => .ite (faultEnd_regular h) (.ite (faultEnd_regular h) (nextPc_regular (ioWrite_regular h))))

theorem execReservedOpcode_regular {e : Nat} : RegularNext (execReservedOpcode e s) := by
  unfold execReservedOpcode
  refine .withUnit ?_
  dsimp only
  split
  · exact h
  · exact .given h (faultEnd_regular h)

theorem execBranch_regular {e : Nat} {cond : BitVec 4} {tgt : BitVec 10} : RegularNext (execBranch e cond tgt s) := by
  unfold execBranch
  exact onCtx_regular h (fun _ _ _ => .ite (jumpTo_regular h) (nextPc_regular h))

theorem execPairWordWrite_regular {e : Nat} {value : Word} : RegularNext (execPairWordWrite e value s) := by
  unfold execPairWordWrite
  refine .withUnit ?_
  split
  · exact h
  · exact foldPair_regular h

theorem execCmpi_regular {e : Nat} {ra : BitVec 4} {imm : BitVec 18} : RegularNext (execCmpi e ra imm s) := by
  unfold execCmpi
  exact onCtx_regular h (fun _ _ _ => nextPc_regular h.modCtx)

theorem execIoIn_regular {e : Nat} {rd ra : BitVec 4} {imm : BitVec 18} : RegularNext (execIoIn e rd ra imm s) := by
  unfold execIoIn
  have written {t : State} (ht : Regular t) {c : Nat} {v : Word} : Regular (nextPc (writeReg t e c rd v) e c) :=
    nextPc_regular (writeReg_regular ht)
  exact onCtx_regular h (fun _ _ _ => .ite (faultEnd_regular h) (.ite
    (.ite (faultEnd_regular h) (.ite (written (engineFault_regular h)) (written h)))
    (.ite (written (latchTime_regular h)) (written h))))

theorem execJal_regular {e : Nat} {rd : BitVec 4} {tgt : BitVec 10} : RegularNext (execJal e rd tgt s) := by
  unfold execJal
  exact onCtx_regular h (fun _ _ _ => jumpTo_regular (writeReg_regular h))

theorem execJr_regular {e : Nat} {ra : BitVec 4} : RegularNext (execJr e ra s) := by
  unfold execJr
  exact onCtx_regular h (fun _ _ _ => .ite (jumpTo_regular h) (faultEnd_regular h))

theorem awaitReturn_regular {e c : Nat} {a : Await} : Regular (awaitReturn s e c a) := by
  unfold awaitReturn
  dsimp only
  split
  · exact nextPc_regular (writeReg_regular (retireSlot_regular h).modCtx)
  · exact nextPc_regular (writeReg_regular h.modCtx)
  · exact nextPc_regular (writeReg_regular h.modCtx)
  · exact nextPc_regular (writeReg_regular h.modCtx)

theorem takeEngine_regular {e c : Nat} {rest : List Nat} : Regular (takeEngine s e c rest) := by
  unfold takeEngine
  dsimp only
  split
  · exact awaitReturn_regular (h.modEng (by exact fun _ => id))
  · exact .ite (h.modEng (fun _ => id)) (h.modEng (by exact fun _ => id)).modCtx.modDie

theorem emitOp_regular {e : Nat} {i : Instr} {rs ra n : BitVec 4} {stale : Bool} : RegularNext (emitOp s e i rs ra n stale) := by
  unfold emitOp
  exact onCtx_regular h (fun _ _ _ => .ite (faultEnd_regular h) (.ite (faultEnd_regular h) (.ite (faultEnd_regular h)
    (nextPc_regular (h.after (putRecord_changes _ _ _) rfl)))))

theorem awaitStart_regular {e c : Nat} {a : Await} : Regular (awaitStart s e c a) := by
  unfold awaitStart
  exact .ite (awaitReturn_regular h) (leaveEngine_regular h.modCtx)

theorem execAwaitComp_regular {e : Nat} {rd ra : BitVec 4} : RegularNext (execAwaitComp e rd ra s) := by
  unfold execAwaitComp
  exact onCtx_regular h (fun _ _ _ => .ite (awaitStart_regular h) (faultEnd_regular h))

theorem signalOp_regular {e : Nat} {i : Instr} {ra : BitVec 4} {f : Engine → Nat → Engine} (hf : ∀ x l, (f x l).scratch = x.scratch) :
    RegularNext (signalOp s e i ra f) := by
  unfold signalOp
  exact onCtx_regular h (fun _ _ _ => .ite (faultEnd_regular h) (.ite (faultEnd_regular h)
    (nextPc_regular (h.modEng fun x hw => (hf x _).symm ▸ hw))))

theorem execAwaitTime_regular {e : Nat} {rd ra : BitVec 4} {units : BitVec 16} : RegularNext (execAwaitTime e rd ra units s) := by
  unfold execAwaitTime
  exact onCtx_regular h (fun _ _ _ => awaitStart_regular h)

theorem waitForSlot_regular {e c : Nat} : Regular (waitForSlot s e c) := by
  unfold waitForSlot
  exact (leaveEngine_regular h.modCtx).modDie

theorem takeSlot_regular {e c : Nat} {rd : BitVec 4} {n kind : Nat} {d0 d1 : Word} : Regular (takeSlot s e c rd n kind d0 d1) := by
  unfold takeSlot
  extract_lets d x y p pick k gen s1 s2 s3 s4 s5
  have h3 : Regular s3 := (h.after (State.draw_changes _ _) rfl).modSlot.modDie.modPort
  have h5 : Regular s5 := nextPc_regular (writeReg_regular h3.modCtx)
  split
  · exact completeOp_regular h5
  · exact h5

theorem issueOp_regular {e : Nat} {i : Instr} {kind : Nat} {rd rh : BitVec 4} {desc : Engine → Ctx → Nat × Word × Word}
    {ok : Nat → Nat → Word → Word → Bool} : RegularNext (issueOp s e i kind rd rh desc ok) := by
  unfold issueOp
  exact onCtx_regular h (fun _ _ _ => .ite (faultEnd_regular h) (.ite (faultEnd_regular h) (.ite (waitForSlot_regular h)
    (.ite (takeSlot_regular (engineFault_regular h)) (.ite (faultEnd_regular h) (.ite (faultEnd_regular h)
      (.ite (faultEnd_regular h) (takeSlot_regular h))))))))

theorem execStampRead_regular {e : Nat} {rd ra : BitVec 4} : RegularNext (execStampRead e rd ra s) := by
  unfold execStampRead
  exact onCtx_regular h (fun _ _ _ => nextPc_regular (writeReg_regular (writeReg_regular h)))

theorem execAwaitResume_regular {e c : Nat} : RegularNext (execAwaitResume e c s) := by
  unfold execAwaitResume
  refine .withUnit ?_
  dsimp only
  split
  · exact h
  · exact .given h (makeReady_regular h.modCtx)

theorem execContextDispatch_regular {e : Nat} : RegularNext (execContextDispatch e s) := by
  unfold execContextDispatch
  refine .withUnit ?_
  dsimp only
  split
  · exact .given h (takeEngine_regular h)
  · exact h

theorem execTransactionSlotFree_regular {d : Nat} : RegularNext (execTransactionSlotFree d s) := by
  unfold execTransactionSlotFree
  refine .withUnit ?_
  split
  · exact h
  · exact .given h (makeReady_regular h.modDie.modCtx)

theorem execSieveOffer_regular {e : Nat} {rr ra : BitVec 4} : RegularNext (execSieveOffer e rr ra s) := by
  unfold execSieveOffer
  exact onCtx_regular h (fun _ _ _ => .ite (faultEnd_regular h) (.ite (faultEnd_regular h) (.ite (faultEnd_regular h)
    (nextPc_regular (h.after (offerTo_changes _ _ _ _) rfl)))))

theorem execAwaitEdge_regular {e : Nat} {rd ra : BitVec 4} {pin edge : BitVec 2} : RegularNext (execAwaitEdge e rd ra pin edge s)
  := by
  unfold execAwaitEdge
  exact onCtx_regular h (fun _ _ _ => .ite (faultEnd_regular h) (.ite (faultEnd_regular h) (awaitStart_regular h)))

theorem execAwaitLine_regular {e : Nat} {rd ra : BitVec 4} {rise : Bool} : RegularNext (execAwaitLine e rd ra rise s) := by
  unfold execAwaitLine
  exact onCtx_regular h (fun _ _ _ => .ite (faultEnd_regular h) (.ite (faultEnd_regular h) (awaitStart_regular h)))

theorem execYield_regular {e : Nat} : RegularNext (execYield e s) := by
  unfold execYield
  exact onCtx_regular h (fun _ _ _ => endCtx_regular (h.after (closeDigest_changes _ _ _) rfl))

theorem execTrap_regular {e : Nat} {code : BitVec 8} : RegularNext (execTrap e code s) := by
  unfold execTrap
  exact onCtx_regular h (fun _ _ _ => faultEnd_regular h)

/-! ### The rota: launches, edges and windows -/

theorem launchEntry_regular {d i : Nat} {r : RotaEntry} {w : OpenWindow} {stamp : Stamp} :
    Regular (launchEntry s d i r w stamp) := by
  unfold launchEntry
  refine .ite ((h.after (markWindow_changes _ _ _ _) rfl).after (missEntry_changes _ _ _ _ _) rfl) ?_
  dsimp only
  split
  · exact ((engineFault_regular h).after (markWindow_changes _ _ _ _) rfl).after (missEntry_changes _ _ _ _ _) rfl
  · exact (makeReady_regular (h.modEng (by exact fun _ => id))).after (markWindow_changes _ _ _ _) rfl

theorem nominalInstant_regular {d i : Nat} {r : RotaEntry} {f : Int} : Regular (nominalInstant s d i r f) := by
  unfold nominalInstant
  extract_lets x nom s1 w opened
  have h1 : Regular s1 := h.modDie
  have hopened : Regular opened := h1.modDie
  refine .ite (hopened.after (openGap_changes _ _ _ _) rfl) (.ite h1 (.ite (h1.after (missEntry_changes _ _ _ _ _) rfl)
    (.ite (h1.after (missEntry_changes _ _ _ _ _) rfl) (.ite ?_ (launchEntry_regular hopened)))))
  split
  · exact launchEntry_regular hopened
  · exact hopened

theorem execEntryNominalInstant_regular {d entry : Nat} : RegularNext (execEntryNominalInstant d entry s) := by
  unfold execEntryNominalInstant
  refine .withUnit ?_
  split
  · exact h
  · exact .given h (nominalInstant_regular h)

theorem launchOnEdge_regular {d half pin : Nat} {rising : Bool} {st : Stamp} : Regular (launchOnEdge s d half pin rising st) := by
  unfold launchOnEdge
  refine .foldl (fun _ _ h => ?_) h
  split
  · exact h
  · exact .ite (launchEntry_regular h) h

theorem meetEdges_regular {d half pin : Nat} {rising : Bool} {st : Stamp} : Regular (meetEdges s d half pin rising st) := by
  refine h.mapEngines rfl (fun e hw => ?_) rfl
  split
  · exact hw
  · exact hw

theorem execPinEdge_regular {n pin : Nat} {rising : Bool} {bins : Nat} : RegularNext (execPinEdge n pin rising bins s) := by
  unfold execPinEdge
  exact .withUnit (.given h (launchOnEdge_regular (meetEdges_regular (.ite (h.modPort.after (wakeEdgeOp_changes _ _ _) rfl)
    h.modPort))))

theorem execContextLaunch_regular {d entry : Nat} : RegularNext (execContextLaunch d entry s) := by
  unfold execContextLaunch
  refine .withUnit ?_
  split
  · exact .given h (nominalInstant_regular h)
  · split
    · split
      · exact .given h (launchEntry_regular h)
      · exact h
    · exact h

theorem abortOrphans_regular {d e i : Nat} : Regular (abortOrphans s d e i) := by
  unfold abortOrphans
  exact .foldl (fun _ _ h => abortOp_regular h) h

theorem closeWindow_regular {d : Nat} {w : OpenWindow} {r : RotaEntry} : Regular (closeWindow s d w r) := by
  unfold closeWindow
  extract_lets s1 s2
  have h1 : Regular s1 := h.modDie
  have h2 : Regular s2 := by
    unfold s2
    split
    · exact (endCtx_regular h1).after (missEntry_changes _ _ _ _ _) rfl
    · exact .ite (h1.after (missEntry_changes _ _ _ _ _) rfl) h1
  exact .ite (h1.after (closeGap_changes _ _) rfl) (abortOrphans_regular h2)

theorem execWindowEnd_regular {d entry : Nat} : RegularNext (execWindowEnd d entry s) := by
  unfold execWindowEnd
  refine .withUnit ?_
  split
  · exact .given h (closeWindow_regular h)
  · exact h

/-! ### The matrix and the mills -/

theorem meetLine_regular {d c : Nat} {st : Stamp} : Regular (meetLine s d c st) := by
  refine h.mapEngines rfl (fun e hw => ?_) rfl
  split
  · exact hw
  · exact hw

theorem turnCol_regular {d c : Nat} {st : Option Stamp} : Regular (turnCol s d c st) := by
  unfold turnCol
  exact .ite h.modCol (meetLine_regular h.modCol)

theorem refreshCols_regular {d : Nat} {cols : List Nat} {st : Option Stamp} : Regular (refreshCols s d cols st) := by
  unfold refreshCols
  extract_lets moved rose s1
  have h1 : Regular s1 := (Regular.foldl (fun _ _ h => turnCol_regular h) h).after (tallyRises_changes _ _ _) rfl
  exact .foldl (fun _ _ h => h.after (colActs_changes _ _ _ _) rfl) h1

theorem applyMatrix_regular {d : Nat} : Regular (applyMatrix s d) := by
  unfold applyMatrix
  extract_lets base s1 s2
  have h1 : Regular s1 := .foldl (fun _ _ h => .ite h (.ite h.modRow h.modRow.modRow)) h
  have h2 : Regular s2 := .foldl (fun _ _ h => .ite h (Regular.ite h (h.modCol.after (colActs_changes _ _ _ _) rfl)).modCol) h1
  exact refreshCols_regular h2

theorem setRow_regular {d r : Nat} {level : Bool} : Regular (setRow s d r level) := by
  unfold setRow
  exact refreshCols_regular h.modRow

theorem refreshCol_regular {d c : Nat} {st : Option Stamp} : Regular (refreshCol s d c st) := by
  unfold refreshCol
  exact refreshCols_regular h

theorem endPulse_regular {d r : Nat} : Regular (endPulse s d r) := by
  unfold endPulse
  refine .ite h ?_
  split
  · exact h.modTally
  · exact h.modTally
  · exact h.modTally
  · exact h.modRule
  · exact .foldl (fun _ _ h => h.modEng (fun _ => id)) h
  · exact h

theorem execMatrixRowChange_regular {d r : Nat} {level : Bool} : RegularNext (execMatrixRowChange d r level s) := by
  unfold execMatrixRowChange
  extract_lets x live s1 s2
  have h1 : Regular s1 := .ite h (endPulse_regular h)
  have h2 : Regular s2 := .ite h1.modDie h1
  exact .ite (.fault _) (.withUnit (.given h (setRow_regular h2)))

theorem execCrossDieLineFault_regular {d line : Nat} {equal : Bool} : RegularNext (execCrossDieLineFault d line equal s) := by
  unfold execCrossDieLineFault
  refine .ite (.fault _) ?_
  refine .withUnit ?_
  dsimp only
  split
  · exact h
  · exact .given h ((setRow_regular h.modDie).after (raiseFault_changes _ _ _ _ _ _ _ _) rfl)

theorem execMillSubmit_regular {e : Nat} {rc ra rb : BitVec 4} : RegularNext (execMillSubmit e rc ra rb s) := by
  unfold execMillSubmit
  exact onCtx_regular h (fun _ _ _ => .ite (faultEnd_regular h) (.ite (faultEnd_regular h) (nextPc_regular h.modMill)))

/-! ### The time base and its servo -/

theorem writeTimeSet_regular {v : Nat} : Regular (writeTimeSet s v) := by
  unfold writeTimeSet
  exact .ite (h.after (withStatus_changes _ _) rfl)
    (.ite (h.after (withStatus_changes _ _) rfl) ((h.congr (by exact rfl)).after (withStatus_changes _ _) rfl))

theorem writeRate_regular {v : Nat} : Regular (writeRate s v) := by
  unfold writeRate
  split
  · exact h.after (withStatus_changes _ _) rfl
  · have hv : rateInRange v := by omega
    have hsteered : Regular { s with time := s.time.steer v } := h.withTime (h.rates.steer hv) rfl
    exact .ite (h.after (withStatus_changes _ _) rfl) (hsteered.after (withStatus_changes _ _) rfl)

theorem writeOffset_regular {v : Int} : Regular (writeOffset s v) := by
  unfold writeOffset
  exact .ite (h.after (withStatus_changes _ _) rfl)
    (.ite (h.after (withStatus_changes _ _) rfl) ((h.congr (by exact rfl)).after (withStatus_changes _ _) rfl))

theorem servoLoop_regular {off : Int} : Regular (servoLoop s off) := h.withTime (h.rates.steer (clampRate_inRange _)) rfl

theorem servoAcquire_regular {off : Int} : Regular (servoAcquire s off) := by
  unfold servoAcquire
  dsimp only
  split
  · exact .ite ((servoLoop_regular h).after (servoLock_changes _ _) rfl) (h.congr rfl)
  · exact .ite ((h.congr (by exact rfl)).congr (by exact rfl))
      ((servoLoop_regular (h.congr (by exact rfl))).after (servoLock_changes _ _) rfl)

theorem servoMeasure_regular {off : Int} {gm : Nat} : Regular (servoMeasure s off gm) := by
  unfold servoMeasure
  have tracked : Regular (servoLock (servoLoop s off) off) := (servoLoop_regular h).after (servoLock_changes _ _) rfl
  dsimp only
  split
  · exact servoAcquire_regular (h.congr (by exact rfl))
  · exact tracked
  · exact tracked
  · exact .ite (h.congr rfl) (h.congr rfl)
  · exact h

theorem wrapAnchors_regular {before : TimeBase} : Regular (wrapAnchors before s) := by
  unfold wrapAnchors
  extract_lets sec t0 atWrap put
  have hput (reason : Nat) : Regular (put reason) := h.withTime h.rates ((anchorAll_changes atWrap reason) .engine rfl)
  exact .ite h (.ite (hput 2) (.ite (hput 1) h))

theorem execTimeTick_regular : RegularNext (execTimeTick s) := by
  unfold execTimeTick
  have h1 : Regular { s with time := s.time.tick } := h.withTime h.rates.tick rfl
  exact .next (.given h ((wrapAnchors_regular h1).after (everyTick_changes _) rfl))

theorem applyStep_regular {off : Int} : Regular (applyStep s off) := by
  unfold applyStep
  exact (h.withTime h.rates.moved (by exact rfl)).after (anchorAll_changes _ _) rfl

theorem applyTimePending_regular : Regular (applyTimePending s) := by
  unfold applyTimePending
  extract_lets t s1
  have h1 : Regular s1 := by
    unfold s1
    split
    · exact applyStep_regular h
    · exact applyStep_regular h
    · exact h.congr rfl
    · exact h
  obtain ⟨hrate, hforce, -⟩ := h.rates
  obtain ⟨hrate1, -, hfrac1⟩ := h1.rates
  refine h1.withTime ⟨hrate1, ?_, hfrac1⟩ rfl
  dsimp only
  split
  · exact hrate
  · exact hforce

theorem execPtpAnnounceReceive_regular {n domain p1 cls acc var p2 gm : Nat} {utc : Int} :
    RegularNext (execPtpAnnounceReceive n domain p1 cls acc var p2 gm utc s) := by
  unfold execPtpAnnounceReceive
  extract_lets s1 v role x s2 s3
  have h1 : Regular s1 := h.after (countRx_changes _ _) rfl
  have h3 : Regular s3 := (h1.after (newGrandmaster_changes _ _ _) rfl).modPtp
  exact .withUnit (.given h (.ite h1 (.ite (.ite h1.modPtp h1) (.ite (.ite (h3.congr rfl) h3) h1))))

theorem execTimeAlignFrame_regular {held : Nat} : RegularNext (execTimeAlignFrame held s) := by
  unfold execTimeAlignFrame
  exact .next (.given h (.foldl (fun _ _ h => h.after (alignDie_changes _ _ _) rfl) (.foldl (fun _ _ h => .ite (h.after
    (ringSend_changes _ _) rfl) h) (applyTimePending_regular h))))

theorem execSlewComplete_regular : RegularNext (execSlewComplete s) := by
  unfold execSlewComplete
  have h1 : Regular { s with time := { s.time.tick with slew := none } } := h.withTime h.rates.tick rfl
  exact .next (.given h ((wrapAnchors_regular h1).after (everyTick_changes _) rfl))

theorem execRefRetune_regular {effect : Int} : RegularNext (execRefRetune effect s) := by
  unfold execRefRetune
  exact .next (.given h (h.withTime (RatesSound.steer h.rates (clampRate_inRange _)) rfl))

theorem execOffsetAdjWrite_regular {value : Int} : RegularNext (execOffsetAdjWrite value s) := by
  unfold execOffsetAdjWrite
  exact .next (writeOffset_regular h)

theorem execRateWrite_regular {value : Nat} : RegularNext (execRateWrite value s) := by
  unfold execRateWrite
  exact .next (writeRate_regular h)

theorem execTimeSetWrite_regular {value : Nat} : RegularNext (execTimeSetWrite value s) := by
  unfold execTimeSetWrite
  exact .next (writeTimeSet_regular h)

theorem ptpOffset_regular {n : Nat} {t1 t2 : Int} : Regular (ptpOffset s n t1 t2) := by
  unfold ptpOffset
  extract_lets x off s1 v0 s2
  have h1 : Regular s1 := h.modPtp
  have h2 : Regular s2 := h1.congr rfl
  exact .ite (.ite h2 (servoMeasure_regular h2)) h1

theorem execPtpSyncReceive_regular {n domain : Nat} {twoStep : Bool} {t1 : Int} :
    RegularNext (execPtpSyncReceive n domain twoStep t1 s) := by
  unfold execPtpSyncReceive
  extract_lets s1
  have h1 : Regular s1 := h.after (countRx_changes _ _) rfl
  exact .withUnit (.given h (.ite (.ite h1.modPtp (ptpOffset_regular h1)) h1))

theorem execPtpFollowUpReceive_regular {n domain : Nat} {t1 : Int} : RegularNext (execPtpFollowUpReceive n domain t1 s) := by
  unfold execPtpFollowUpReceive
  extract_lets s1
  have h1 : Regular s1 := h.after (countRx_changes _ _) rfl
  refine .withUnit (.given h ?_)
  split
  · exact .ite (ptpOffset_regular h1) h1
  · exact h1

/-! ### Parish states, restart and the commit -/

theorem haltOutputs_regular {d p : Nat} : Regular (haltOutputs s d p) := by
  unfold haltOutputs
  extract_lets s1
  have h1 : Regular s1 := .foldl (fun _ _ h => .ite (setRow_regular h) h) h
  exact .foldl (fun _ _ h => .ite ((h.after (unprimeRule_changes _ _ _ _) rfl).after (afterRule_changes _ _ _ _) rfl) h) h1

theorem haltContexts_regular {d p : Nat} : Regular (haltContexts s d p) := by
  unfold haltContexts
  exact .foldl (fun _ _ h => .ite (.foldl (fun _ _ h => endCtx_regular h) h) h) h

theorem enterOnDie_regular {d p st : Nat} : Regular (enterOnDie s d p st) := by
  unfold enterOnDie
  extract_lets s1
  have h1 : Regular s1 := h.after (switchCaptures_changes _ _ _) rfl
  exact .ite (haltOutputs_regular (haltContexts_regular (h1.after (haltPorts_changes _ _ _) rfl))) h1

theorem takeState_regular {d p : Nat} : Regular (takeState s d p) := by
  unfold takeState
  dsimp only
  split
  · exact h
  · exact .ite h ((enterOnDie_regular h.modPar).after (completeState_changes _ _) rfl)

theorem applyPackageKeys_regular {old : State} {keys : List Nat} : Regular (applyPackageKeys old s keys) := by
  unfold applyPackageKeys
  extract_lets t0 s1 s2 s3 s4
  have h1 : Regular s1 := .ite (h.congr rfl) h
  have h2 : Regular s2 := .ite ((Regular.foldl (fun _ _ h => h.after (ptpStart_changes _ _) rfl) h1).after (applyServo_changes _) rfl) h1
  have h3 : Regular s3 := .ite (h2.after (cancelVote_changes _) rfl) h2
  have h4 : Regular s4 := .foldl (fun _ _ h => (h.after (dropLink_changes _ _ _) rfl).after (holdWindows_changes _ _ _ _) rfl) h3
  exact (h4.after (applyTwin_changes _ _) rfl).after (soRefresh_changes _) rfl

theorem applyEngine_regular {e : Nat} : Regular (applyEngine s e) := by
  unfold applyEngine
  exact ((Regular.foldl (fun _ _ h => endCtx_regular h) h).modEng fun _ _ => Memory.writeBytes_wf _ _ rfl).modDie

theorem applyDieKeys_regular {old : State} {d : Nat} {keys : List Nat} : Regular (applyDieKeys old s d keys) := by
  unfold applyDieKeys
  extract_lets engs mills rules tallies streams ports lines s1 s2 s3 s4 s5 s6 s7 s8 todo
  have h2 : Regular s2 := (Regular.foldl (fun _ _ h => applyEngine_regular h) h).after (applyMills_changes _ _ _) rfl
  have h3 : Regular s3 := .foldl (fun _ _ h => .ite h (h.after (applyRule_changes _ _ _) rfl)) h2
  have h4 : Regular s4 := .foldl (fun _ _ h => h.after (applyTally_changes _ _) rfl) h3
  have h5 : Regular s5 := .ite h4 (applyMatrix_regular (.foldl (fun _ _ h => .ite h.modRow h.modCol) h4))
  have h6 : Regular s6 := .foldl (fun _ _ h => .ite h (h.after (clearStream_changes _ _) rfl)) h5
  have h7 : Regular s7 := .foldl (fun _ _ h => h.after (applyPort_changes _ _ _ _) rfl) h6
  have h8 : Regular s8 := .ite (h7.after (swapRota_changes _ _) rfl) h7
  exact h8.modDie.after (soRefresh_changes _) rfl

theorem bootDie_regular {d : Nat} : Regular (bootDie s d) := by
  unfold bootDie
  exact applyDieKeys_regular (.foldl (fun _ _ h => h.after (bootRefuse_changes _ _) rfl) h)

theorem bootPackage_regular : Regular (bootPackage s) := by
  unfold bootPackage
  extract_lets dies s1 t0 s2 keys s3 s3a s3b s4 bare s5
  have h1 : Regular s1 := .foldl (fun _ _ h => h.after (loadRota_changes _ _) rfl) h
  have h2 : Regular s2 := h1.withTime h1.rates.atWhole rfl
  have h3 : Regular s3 := applyPackageKeys_regular (h2.congr (by exact rfl))
  have h3a : Regular s3a := .foldl (fun _ _ h => h.modDie) h3
  have h3b : Regular s3b := .foldl (fun _ _ h => h.after (takeOwnership_changes _ _ _) rfl) h3a
  have h4 : Regular s4 := .foldl (fun _ _ h => h.after (ptpStart_changes _ _) rfl)
    (.foldl (fun _ _ h => h.after (enterTest_changes _ _) rfl) h3b)
  have h5 : Regular s5 := .foldl (fun _ _ h => (bootDie_regular h).modDie) h4
  exact .ite h ((Regular.ite (h5.after (applyServo_changes _) rfl) h5).after (soRefresh_changes _) rfl)

theorem restart_regular : Regular (restart s) := by
  unfold restart
  exact .ite h (bootPackage_regular (h.after (startUp_changes _) rfl))

theorem packageApply_regular : Regular (packageApply s) := by
  unfold packageApply
  extract_lets keys cand s1 s2
  have h1 : Regular s1 := applyPackageKeys_regular ((h.after (holdOwn_changes _) rfl).after (moveKeys_changes _ _) rfl)
  have h2 : Regular s2 := .foldl (fun _ _ h => h.after (enterTest_changes _ _) rfl) h1
  exact .ite (h2.congr rfl) h

theorem dieApply_regular {d : Nat} : Regular (dieApply s d) := by
  unfold dieApply
  extract_lets s0 keys waits now later own u c0 s1
  have h0 : Regular s0 := packageApply_regular h
  have hown : Regular own :=
    .ite (((h0.after (releaseOwn_changes _ _) rfl).after (takeOwnership_changes _ _ _) rfl).after (nameMoves_changes _ _ _) rfl) h0
  have hu : Regular u := applyDieKeys_regular (hown.after (moveKeys_changes _ _) rfl)
  have h1 : Regular s1 := .ite (hu.congr rfl) h0
  exact (h1.after (portsApply_changes _ _) rfl).after (commitSettle_changes _) rfl

theorem startAnchor_regular {d : Nat} : Regular (startAnchor s d) := by
  unfold startAnchor
  extract_lets s0 s1
  have h0 : Regular s0 := .ite (h.after (applyServo_changes _) rfl) h
  have h1 : Regular s1 := .ite h0 (bootDie_regular h0).modDie
  exact .ite h ((h1.congr (by exact rfl)).after (ringEnter_changes _ _ _) rfl)

theorem boundary_regular {d : Nat} : Regular (boundary s d) := by
  unfold boundary
  extract_lets s0 s1 s2 s3 s4
  have h1 : Regular s1 := startAnchor_regular (h.modDie.after (turnBank_changes _ _) rfl)
  have h2 : Regular s2 := .ite (dieApply_regular h1) h1
  have h4 : Regular s4 := .foldl (fun _ _ h => .ite (takeState_regular h) h) (h2.after (failoverSwap_changes _ _) rfl)
  exact h4.modDie

theorem execCommitDieApply_regular {d : Nat} : RegularNext (execCommitDieApply d s) := by
  unfold execCommitDieApply
  have hp : Regular (packageApply s) := packageApply_regular h
  exact .withUnit (.ite
    (.given h (.ite (dieApply_regular h) ((hp.after (portsApply_changes _ _) rfl).after (commitSettle_changes _) rfl)))
    (.given h (hp.after (commitSettle_changes _) rfl)))

/-! ### Retired engines, power states and the return -/

theorem haltEngine_regular {e : Nat} {retired : Bool} : Regular (haltEngine s e retired) := by
  unfold haltEngine
  extract_lets s1 s2
  have h2 : Regular s2 := (Regular.foldl (fun _ _ h => endCtx_regular h) h).modEng (fun _ => id)
  split
  · exact h2.after (parishRecover_changes _ _ _) rfl
  · exact h2

theorem retireEngine_regular {e : Nat} : Regular (retireEngine s e) := by
  unfold retireEngine
  exact (haltEngine_regular h).after (requestReason_changes _ _ _) rfl

theorem writeRetire_regular {value : Nat} : Regular (writeRetire s value) := by
  unfold writeRetire
  exact .ite (h.after (withStatus_changes _ _) rfl) ((retireEngine_regular h).after (withStatus_changes _ _) rfl)

theorem execRetireEngine_regular {value : Nat} : RegularNext (execRetireEngine value s) := by
  unfold execRetireEngine
  exact .next (writeRetire_regular h)

omit h in
theorem enterOff_regular : Regular (enterOff s) := (resetPart_regular s 0).congr rfl

theorem returnDie_regular {d : Nat} : Regular (returnDie s d) := by
  unfold returnDie
  extract_lets s1 mill eng port s2 s3
  have h1 : Regular s1 := h.modDie
  have h2 : Regular s2 := by
    refine h1.mapEngines rfl (fun e hw => ?_) rfl
    unfold eng
    split
    · exact Memory.writeBytes_wf _ _ rfl
    · exact hw
  have h3 : Regular s3 := .foldl (fun _ _ h => h.after (applyRule_changes _ _ _) rfl) h2
  exact .ite h (.foldl (fun _ _ h => h.after (returnTally_changes _ _) rfl) h3)

theorem restoreTime_regular : Regular (restoreTime s) := by
  unfold restoreTime
  extract_lets off t0 s1 s2
  have h1 : Regular s1 := applyStep_regular (h.congr (by exact rfl))
  have h2 : Regular s2 := h1.after (anchorAll_changes _ _) rfl
  exact .ite h2 (h2.congr rfl)

theorem drainCtx_regular {e c : Nat} : Regular (drainCtx s e c) := by
  unfold drainCtx
  extract_lets d y due ports s1 s2
  have h1 : Regular s1 := endCtx_regular h
  have h2 : Regular s2 := .ite (h1.after (missEntry_changes _ _ _ _ _) rfl) h1
  exact .foldl (fun _ _ h => h.after (faultItem_changes _ _ _ _ _ _ _) rfl) h2

theorem execDrainExpiry_regular : RegularNext (execDrainExpiry s) := by
  unfold execDrainExpiry
  extract_lets live s1 left s2 s3 s4
  have h1 : Regular s1 := .foldl (fun _ _ h => drainCtx_regular h) h
  have h2 : Regular s2 := .foldl (fun _ _ h => abortOp_regular h) h1
  have h3 : Regular s3 := .foldl (fun _ _ h => h.after (endWindows_changes _ _) rfl) h2
  have h4 : Regular s4 := .ite h3 (h3.after (closePages_changes _) rfl)
  exact .next (.given h (h4.congr rfl))

theorem execPowerStateReached_regular : RegularNext (execPowerStateReached s) := by
  unfold execPowerStateReached
  extract_lets s0 s1 n0 p0 s2
  have h0 : Regular s0 := (Regular.foldl (fun _ _ h => h.after (endWindows_changes _ _) rfl) h).after (sleepClocks_changes _) rfl
  have h1 : Regular s1 := .ite (h0.after (enterSleep_changes _) rfl) (h0.after (enterDeep_changes _) rfl)
  have h2 : Regular s2 := h1.congr rfl
  exact .next (.given h (.ite enterOff_regular (.ite (h2.after (startReturn_changes _) rfl)
    (.ite ((h2.congr (by exact rfl)).after (requestState_changes _ _ _) rfl) h2))))

theorem execReturnComplete_regular {origin : Nat} : RegularNext (execReturnComplete origin s) := by
  unfold execReturnComplete
  extract_lets from_ cause s0 s1 s2 ns ports v0 r0 p0 s3
  have h0 : Regular s0 := (h.after (restorePorts_changes _) rfl).modDie
  have h1 : Regular s1 :=
    .foldl (fun _ _ h => returnDie_regular h) ((h0.after (leaveSentinel_changes _) rfl).after (freeTallies_changes _ _) rfl)
  have h2 : Regular s2 := .ite (restoreTime_regular h1) h1
  have h3 : Regular s3 := h2.congr rfl
  exact .next (.given h
    (((h3.after (soRefresh_changes _) rfl).after (powerRecord_changes _ _ _ _ _) rfl).after (servePending_changes _) rfl))

/-! ### Control memory: scrub and reload -/

theorem programDamaged_regular {d e pc : Nat} : Regular (programDamaged s d e pc) := by
  unfold programDamaged
  extract_lets x safety s1 s2
  have h1 : Regular s1 := engineFault_regular h
  have h2 : Regular s2 := .ite ((haltEngine_regular h1).after (reloadWaits_changes _ _ _) rfl)
    (.ite (retireEngine_regular h1) (haltEngine_regular h1))
  exact .ite (h2.after (dangerReaction_changes _ _) rfl) h2

theorem lineDamaged_regular {d j : Nat} : Regular (lineDamaged s d j) := by
  unfold lineDamaged
  extract_lets c s1 dest
  have h1 : Regular s1 := refreshCol_regular h.modCol
  exact .ite (setRow_regular h.modRow) (.ite (h1.modDie.after (soRefresh_changes _) rfl) (h1.after (soRefresh_changes _) rfl))

theorem uncorrectable_regular {d kind item sub : Nat} : Regular (uncorrectable s d kind item sub) := by
  unfold uncorrectable
  dsimp only
  split
  · exact programDamaged_regular h
  · exact ((haltEngine_regular h).after (reloadWaits_changes _ _ _) rfl).after (memoryFault_changes _ _ _ _ _) rfl
  · exact h.modDie.after (memoryFault_changes _ _ _ _ _) rfl
  · exact (h.after (nextRotaDamaged_changes _ _) rfl).after (memoryFault_changes _ _ _ _ _) rfl
  · exact (h.after (ownershipDamaged_changes _ _ _) rfl).after (memoryFault_changes _ _ _ _ _) rfl
  · exact (Regular.ite (h.after (nextMillDamaged_changes _ _ _) rfl) (h.modMill.after (reloadWaits_changes _ _ _) rfl)).after
      (memoryFault_changes _ _ _ _ _) rfl
  · exact (Regular.ite (h.after (nextMillDamaged_changes _ _ _) rfl) (h.modMill.after (reloadWaits_changes _ _ _) rfl)).after
      (memoryFault_changes _ _ _ _ _) rfl
  · exact (((h.after (ruleDamaged_changes _ _) rfl).after (reloadWaits_changes _ _ _) rfl).after (soRefresh_changes _) rfl).after
      (memoryFault_changes _ _ _ _ _) rfl
  · exact ((lineDamaged_regular h).after (reloadWaits_changes _ _ _) rfl).after (memoryFault_changes _ _ _ _ _) rfl
  · exact (Regular.foldl (fun _ _ h => h.modTally.after (reloadWaits_changes _ _ _) rfl) h).after (memoryFault_changes _ _ _ _ _) rfl
  · exact h.modDie.after (memoryFault_changes _ _ _ _ _) rfl
  · exact (h.congr (by exact rfl)).after (memoryFault_changes _ _ _ _ _) rfl
  · exact h

theorem execScrubWord_regular {d err kind item sub : Nat} : RegularNext (execScrubWord d err kind item sub s) := by
  unfold execScrubWord
  have corrected : Regular (Machine.corrected s d) := h.after (corrected_changes _ _) rfl
  exact .ite (.fault _) (.ite (.fault _) (.withUnit (.given h
    ((Regular.ite h (.ite corrected (.ite h.modDie (uncorrectable_regular h.modDie)))).after (scrubNext_changes _ _) rfl))))

theorem reapply_regular {d idx : Nat} : Regular (reapply s d idx) := by
  unfold reapply
  extract_lets s1 s2
  have h2 : Regular s2 := (applyDieKeys_regular h).modDie
  split
  · exact h2.modEng (fun _ => id)
  · exact h2

theorem execReloadApply_regular {d idx : Nat} {bad : List (Nat × Nat)} : RegularNext (execReloadApply d idx bad s) := by
  unfold execReloadApply
  extract_lets x s1
  have h1 : Regular s1 := h.modDie
  refine .withUnit (.ite (h1.congr rfl) ?_)
  split
  · exact h
  · exact .given h (.ite (reapply_regular h) (h.modDie.after (faultItem_changes _ _ _ _ _ _ _) rfl))

/-! ### Resets, loopbacks and the monitors -/

theorem writeReset_regular {v : Nat} : Regular (writeReset s v) := by
  unfold writeReset
  exact .ite (restart_regular (resetPart_regular _ _)) (h.after (withStatus_changes _ _) rfl)

theorem portLoopAct_regular {n depth : Nat} : Regular (portLoopAct s n depth) := by
  unfold portLoopAct
  exact .ite h (quarantineOps_regular h).modPort

theorem writePortLoop_regular {n depth : Nat} : Regular (writePortLoop s n depth) := by
  unfold writePortLoop
  exact .ite ((portLoopAct_regular h).after (withStatus_changes _ _) rfl) (h.after (withStatus_changes _ _) rfl)

theorem execParishStateChange_regular {d p : Nat} : RegularNext (execParishStateChange d p s) := by
  unfold execParishStateChange
  exact .ite (.fault _) (.withUnit (.given h ((takeState_regular h).after (startOver_changes _ _) rfl)))

theorem execVinDip_regular {torn : List (Nat × Nat)} {masks : List Nat} : RegularNext (execVinDip torn masks s) := by
  unfold execVinDip
  extract_lets s1
  have h1 : Regular s1 := resetPart_regular _ _
  exact .next (.given h (h1.congr rfl))

theorem execFrameBegin_regular {d : Nat} : RegularNext (execFrameBegin d s) := by
  unfold execFrameBegin
  exact .withUnit (.given h (((boundary_regular (h.after (pointRecord_changes _ _) rfl)).after (beginFrame_changes _ _) rfl).after
    (startOver_changes _ _) rfl))

theorem execPortLoopL3_regular {n : Nat} : RegularNext (execPortLoopL3 n s) := by
  unfold execPortLoopL3
  exact .next (.given (h.after (withStatus_changes _ _) rfl) (writePortLoop_regular h))

theorem rebooted_regular {before : State} : Regular (rebooted before s) := by
  unfold rebooted
  exact .ite (restart_regular h) h

theorem execWatchdogService_regular {d : Nat} : RegularNext (execWatchdogService d s) := by
  unfold execWatchdogService
  extract_lets since s1
  have h1 : Regular s1 := h.modDie
  exact .withUnit (.given h (.ite h1 (.ite (rebooted_regular (dieReaction_regular h1))
    (.ite (rebooted_regular (dieReaction_regular h1)) h1))))

theorem execResetWrite_regular {value : Nat} : RegularNext (execResetWrite value s) := by
  unfold execResetWrite
  exact .next (writeReset_regular h)

theorem execWakePinStart_regular : RegularNext (execWakePinStart s) := by
  unfold execWakePinStart
  exact .next (.given h (restart_regular (h.congr (by exact rfl))))

theorem execVinValid_regular {vinMv : Nat} {low strap : Bool} {svcAddr : Nat} {testen : Bool} {nvBad : List (Nat × Nat × Nat)}
    {fwBad : Nat} : RegularNext (execVinValid vinMv low strap svcAddr testen nvBad fwBad s) := by
  unfold execVinValid
  exact .next (.given h (restart_regular (h.congr (by exact rfl))))

theorem execLockstepMismatch_regular {d : Nat} : RegularNext (execLockstepMismatch d s) := by
  unfold execLockstepMismatch
  exact .withUnit (.given h (rebooted_regular (dieReaction_regular h)))

theorem execWatchdogTimeout_regular {d : Nat} : RegularNext (execWatchdogTimeout d s) := by
  unfold execWatchdogTimeout
  exact .withUnit (.given h (rebooted_regular (dieReaction_regular h)))

theorem execThermalShutdown_regular {d : Nat} {temp : Int} {torn groups : List Nat} :
    RegularNext (execThermalShutdown d temp torn groups s) := by
  unfold execThermalShutdown
  extract_lets s1 s2
  have h2 : Regular s2 := resetPart_regular _ _
  exact .withUnit (.given h (h2.congr rfl))

theorem execRelockTimeout_regular {d : Nat} : RegularNext (execRelockTimeout d s) := by
  unfold execRelockTimeout
  extract_lets x s1 s2
  have h1 : Regular s1 := h.modDie
  have h2 : Regular s2 := h1.modDie.after (raiseFault_changes _ _ _ _ _ _ _ _) rfl
  exact .withUnit (.given h (.ite (h1.after (faultItem_changes _ _ _ _ _ _ _) rfl)
    (.ite (rebooted_regular (resetPart_regular _ _)) ((h2.after (loseDie_changes _ _) rfl).after (opDone_changes _) rfl))))

theorem execThermalRestart_regular {temps : List Int} : RegularNext (execThermalRestart temps s) := by
  unfold execThermalRestart
  exact .next (.given h (restart_regular ((Regular.foldl (fun _ _ h => h.modDie) h).congr (by exact rfl))))

theorem execPortLoopL0_regular {n : Nat} : RegularNext (execPortLoopL0 n s) := by
  unfold execPortLoopL0
  exact .next (.given (h.after (withStatus_changes _ _) rfl) (writePortLoop_regular h))

theorem execPortLoopL1_regular {n : Nat} : RegularNext (execPortLoopL1 n s) := by
  unfold execPortLoopL1
  exact .next (.given (h.after (withStatus_changes _ _) rfl) (writePortLoop_regular h))

theorem execPortLoopL2_regular {n : Nat} : RegularNext (execPortLoopL2 n s) := by
  unfold execPortLoopL2
  exact .next (.given (h.after (withStatus_changes _ _) rfl) (writePortLoop_regular h))

/-! ### Objects written over ADP and by the firmware -/

theorem directWrite_regular {w : Who} {l : Lay} {sub : Nat} {r : ObjRow} {b : List Byte} :
    Regular (directWrite s w l sub r b) := by
  unfold directWrite
  dsimp only
  split
  · exact h.after (writeCommit_changes _ _ _) rfl
  · exact (h.congr (by exact rfl)).after (withStatus_changes _ _) rfl
  · exact .ite (h.after (withStatus_changes _ _) rfl) ((h.congr (by exact rfl)).after (withStatus_changes _ _) rfl)
  · exact h.after (writeStateReq_changes _ _ _) rfl
  · exact .ite ((h.after (keyAct_changes _ _ _) rfl).after (withStatus_changes _ _) rfl) (h.after (withStatus_changes _ _) rfl)
  · exact h.after (writeArm_changes _ _ _ _) rfl
  · exact writeRate_regular h
  · exact writeOffset_regular h
  · exact writeTimeSet_regular h
  · exact (h.congr (by exact rfl)).after (withStatus_changes _ _) rfl
  · exact h.after (writeReacquire_changes _ _) rfl
  · exact (writeQuarCtl_regular h).after (withStatus_changes _ _) rfl
  · exact (h.after (writeLogTrigger_changes _ _ _) rfl).after (withStatus_changes _ _) rfl
  · exact (h.after (State.modRegion_changes _ _ _ _) rfl).after (withStatus_changes _ _) rfl
  · exact h.after (writeTop_changes _ _ _) rfl
  · exact h.after (writeCmp_changes _ _ _) rfl
  · exact h.after (writeTallyCtl_changes _ _ _) rfl
  · exact h.after (writeUnitCtl_changes _ _ _) rfl
  · exact h.after (writeRelease_changes _ _) rfl
  · exact h.after (writeLatchReset_changes _ _ _) rfl
  · exact writeRetire_regular h
  · exact h.after (writePowerCmd_changes _ _) rfl
  · exact h.after (writeOpSet_changes _ _) rfl
  · exact h.after (writeCalReq_changes _ _ _) rfl
  · exact writeReset_regular h
  · exact h.after (writeSelfTest_changes _ _) rfl
  · exact writePortLoop_regular h
  · exact .ite ((h.after (netLoopAct_changes _ _ _ _) rfl).after (withStatus_changes _ _) rfl) (h.after (withStatus_changes _ _) rfl)
  · exact h.after (writeTwinLoop_changes _ _) rfl
  · exact h.after (writeRingLoop_changes _ _ _) rfl
  · exact h.after (withStatus_changes _ _) rfl

theorem entryAct_regular {w : Who} {i sub : Nat} {b : List Byte} : Regular (entryAct s w i sub b) := by
  unfold entryAct
  split
  · exact h
  · exact (Regular.ite (h.after (pendWrite_changes _ _ _ _) rfl) (directWrite_regular h)).after (followGen_changes _ _ _ _) rfl

theorem judgeEntries_regular {w : Who} {es : List WriteEntry} {left : State} (hl : Regular left) :
    Regular (judgeEntries w s left es).1 ∧ Regular (judgeEntries w s left es).2.1 := by
  induction es generalizing s left with
  | nil => exact ⟨h, hl⟩
  | cons e t ih =>
    simp only [judgeEntries]
    split
    · exact ih (entryAct_regular h) hl
    · exact ih h (hl.after (entryLeaves_changes _ _ _ _ _ _ _) rfl)

theorem writeEntries_regular {w : Who} {es : List WriteEntry} : Regular (writeEntries s w es).1 := by
  unfold writeEntries
  extract_lets s0 j
  have h0 : Regular s0 := .foldl (fun _ _ h => h.after (forwardFor_changes _ _ _ _) rfl) h
  obtain ⟨hgood, hleft⟩ := judgeEntries_regular h0 (w := w) (es := es) h0
  split
  · exact hgood
  · exact hleft

theorem writeOne_regular {w : Who} {i sub : Nat} {b : List Byte} : Regular (writeOne s w i sub b) := by
  unfold writeOne
  exact (writeEntries_regular h).after (withStatus_changes _ _) rfl

theorem execNextImageWrite_regular {d p session : Nat} {image : List Byte} : RegularNext (execNextImageWrite d p session image s)
  := by
  unfold execNextImageWrite
  exact .withUnit (.given (h.after (withStatus_changes _ _) rfl) (writeOne_regular h))

theorem serveWrite_regular {w : Who} {f : HostFrame} : Regular (serveWrite s w f).state := by
  unfold serveWrite
  exact writeEntries_regular h

theorem serveWriteBlock_regular {w : Who} {f : HostFrame} : Regular (serveWriteBlock s w f).state := by
  unfold serveWriteBlock
  extract_lets pl i sub off total code mine before data s1
  have h1 : Regular s1 := h.after (closeXfers_changes _ _) rfl
  split
  · exact h.after (segmentLeaves_changes _ _ _ _) rfl
  · split
    · exact writeEntries_regular h1
    · exact h1.congr rfl

theorem serveOp_regular {op : Nat} {f : HostFrame} {x : Option Session} : Regular (serveOp s op f x).state := by
  unfold serveOp
  dsimp only
  split
  · exact h
  · exact h.after (serveRead_changes _ _ _) rfl
  · exact serveWrite_regular h
  · exact h.after (serveReadBlock_changes _ _ _) rfl
  · exact serveWriteBlock_regular h
  · exact h.after (serveAbort_changes _ _) rfl
  · exact h.after (serveStream_changes _ _) rfl
  · exact h.after (serveVote_changes _ _) rfl
  · exact (h.after (ackWake_changes _ _) rfl).after (statusAnswer_changes _ _ _) rfl
  · exact h.after (statusAnswer_changes _ _ _) rfl

theorem serveRequest_regular {op : Nat} {f : HostFrame} : Regular (serveRequest s op f) := by
  unfold serveRequest
  extract_lets w a b g c key s1 s2
  have hw : Regular w := h.after (wakeIdle_changes _) rfl
  have hg : Regular g.1 := hw.after (gate_changes _ _ _) rfl
  have hc : Regular c.state := serveOp_regular (hg.after (sessionActs_changes _ _ _ _) rfl)
  have h1 : Regular s1 := hc.after (respond_changes _ _ _ _) rfl
  have h2 : Regular s2 := .ite (h1.after (sendBefore_changes _ _) rfl) h1
  exact .ite (hw.after (respond_changes _ _ _ _) rfl) (.ite (hw.after (dropRequest_changes _ _) rfl)
    (.ite ((hw.after (openSession_changes _ _) rfl).after (respond_changes _ _ _ _) rfl)
    (.ite ((hw.after (confirmSession_changes _ _) rfl).after (respond_changes _ _ _ _) rfl)
    (.ite (hg.after (respond_changes _ _ _ _) rfl) (.ite (hc.after (dropRequest_changes _ _) rfl)
      (.ite (h2.after (endSession_changes _ _) rfl) h2))))))

theorem receiveAdp_regular {op : Nat} {f : HostFrame} : Regular (receiveAdp s op f) := by
  unfold receiveAdp
  extract_lets s1
  have h1 : Regular s1 := (h.after (countRx_changes _ _) rfl).after (active_changes _) rfl
  exact .ite (serveRequest_regular h1) (h1.after (holdRequest_changes _ _ _ _) rfl)

theorem hostFrame_regular {op : Nat} {f : HostFrame} : RegularNext (hostFrame op f s) := by
  unfold hostFrame
  exact .withUnit (.given h (receiveAdp_regular h))

theorem execStewardServeRequest_regular : RegularNext (execStewardServeRequest s) := by
  unfold execStewardServeRequest
  refine .next ?_
  dsimp only
  split
  · exact h
  · exact .given h (.ite (serveRequest_regular (h.congr (by exact rfl)))
      (((h.congr (by exact rfl)).after (wakeIdle_changes _) rfl).after (respond_changes _ _ _ _) rfl))

theorem execAdpHubOpcodeReceived_regular {op : Nat} {f : HostFrame} : RegularNext (execAdpHubOpcodeReceived op f s) := by
  unfold execAdpHubOpcodeReceived
  exact .ite (.fault _) (hostFrame_regular h)

theorem execFwImageWrite_regular {p session : Nat} {image : List Byte} : RegularNext (execFwImageWrite p session image s) := by
  unfold execFwImageWrite
  exact .withUnit (.given h (writeOne_regular h))

theorem execFwSwitch_regular {p session value : Nat} : RegularNext (execFwSwitch p session value s) := by
  unfold execFwSwitch
  exact .withUnit (.given h (writeOne_regular h))

end

/-! ### Every step keeps the invariant -/

/-- The pieces that no command changes: the queue, which the step itself advances, and the factory identity. -/
def Piece.untouched : List Piece := [.pending, .dies, .serial, .mac]

/-- Whatever next state a command answers from s has the queue and the factory identity of s and is regular. -/
def Keeps (s : State) (r : Result State) : Prop := ∀ t, r = .next t → (∀ f ∈ Piece.untouched, f.same s t) ∧ Regular t

theorem ChangesOnly.keeps {l : List Piece} {s : State} {r : Result State} (c : ChangesOnly l s r) (k : RegularNext r)
    (hl : (Piece.untouched.all fun f => !l.contains f) = true := by exact rfl) : Keeps s r := fun t ht =>
  ⟨fun f hf => c t ht f (by simpa using List.all_eq_true.mp hl f hf), k t ht⟩

/-- A command that changes neither the engines nor the time base. -/
theorem ChangesOnly.keepsRest {l : List Piece} {s : State} {r : Result State} (c : ChangesOnly l s r) (h : Regular s)
    (hl : (Piece.untouched.all fun f => !l.contains f) = true := by exact rfl)
    (hr : (l.contains .engine || l.contains .time) = false := by exact rfl) : Keeps s r :=
  c.keeps (fun t ht => h.after (c t ht) hr) hl

/-- No command changes the queue or the factory identity, and each leaves a regular machine regular. -/
theorem exec_keeps {s : State} (h : Regular s) (i : Instr) : Keeps s (exec i s) :=
  match i with
  | .leadHeartbeat .. => (execLeadHeartbeat_changes _ _).keepsRest h
  | .leadLost .. => (execLeadLost_changes _ _).keepsRest h
  | .ringFrameReceive .. => (execRingFrameReceive_changes _ _ _ _ _ _).keepsRest h
  | .ringLinkLost .. => (execRingLinkLost_changes _ _).keepsRest h
  | .sidebandPairFault .. => (execSidebandPairFault_changes _ _ _).keepsRest h
  | .safetyOutputTripRequest .. => (execSafetyOutputTripRequest_changes _ _ _ _).keepsRest h
  | .matrixTripConfirmed .. => (execMatrixTripConfirmed_changes _ _ _).keepsRest h
  | .timeAlignFrame .. => (execTimeAlignFrame_changes _ _).keeps (execTimeAlignFrame_regular h)
  | .timeTick => (execTimeTick_changes _).keeps (execTimeTick_regular h)
  | .slewComplete => (execSlewComplete_changes _).keeps (execSlewComplete_regular h)
  | .rateWrite .. => (execRateWrite_changes _ _).keeps (execRateWrite_regular h)
  | .offsetAdjWrite .. => (execOffsetAdjWrite_changes _ _).keeps (execOffsetAdjWrite_regular h)
  | .timeSetWrite .. => (execTimeSetWrite_changes _ _).keeps (execTimeSetWrite_regular h)
  | .reacquireWrite .. => (execReacquireWrite_changes _ _).keepsRest h
  | .refRetune .. => (execRefRetune_changes _ _).keeps (execRefRetune_regular h)
  | .tsecLoRead .. => (execTsecLoRead_changes _ _ _).keeps (execTsecLoRead_regular h)
  | .ptpSyncReceive .. => (execPtpSyncReceive_changes _ _ _ _ _).keeps (execPtpSyncReceive_regular h)
  | .ptpAnnounceReceive .. => (execPtpAnnounceReceive_changes _ _ _ _ _ _ _ _ _ _).keeps (execPtpAnnounceReceive_regular h)
  | .ptpDelayResponseReceive .. => (execPtpDelayResponseReceive_changes _ _ _ _ _).keepsRest h
  | .ptpMessageDiscard .. => (execPtpMessageDiscard_changes _ _).keepsRest h
  | .ptpSyncSend .. => (execPtpSyncSend_changes _ _).keepsRest h
  | .ptpDelayRequestSend .. => (execPtpDelayRequestSend_changes _ _).keepsRest h
  | .ptpAnnounceSend .. => (execPtpAnnounceSend_changes _ _).keepsRest h
  | .syncTimeout .. => (execSyncTimeout_changes _ _).keepsRest h
  | .portModeIdleEnd .. => (execPortModeIdleEnd_changes _ _).keepsRest h
  | .vpOnWrite .. => (execVpOnWrite_changes _ _ _).keepsRest h
  | .pgood .. => (execPgood_changes _ _).keepsRest h
  | .vpAverageOverload .. => (execVpAverageOverload_changes _ _).keeps (execVpAverageOverload_regular h)
  | .vpPeakOverload .. => (execVpPeakOverload_changes _ _).keeps (execVpPeakOverload_regular h)
  | .emCfgWrite .. => (execEmCfgWrite_changes _ _ _).keepsRest h
  | .governorGrant .. => (execGovernorGrant_changes _ _ _).keepsRest h
  | .emitterPulseDone .. => (execEmitterPulseDone_changes _ _ _ _).keeps (execEmitterPulseDone_regular h)
  | .quarantineProbe .. => (execQuarantineProbe_changes _ _ _ _).keepsRest h
  | .quarCtlRelease .. => (execQuarCtlRelease_changes _ _).keeps (execQuarCtlRelease_regular h)
  | .quarCtlHold .. => (execQuarCtlHold_changes _ _).keeps (execQuarCtlHold_regular h)
  | .quarCtlProbe .. => (execQuarCtlProbe_changes _ _).keeps (execQuarCtlProbe_regular h)
  | .uartRxLowTimeout .. => (execUartRxLowTimeout_changes _ _).keeps (execUartRxLowTimeout_regular h)
  | .pinEdge .. => (execPinEdge_changes _ _ _ _ _).keeps (execPinEdge_regular h)
  | .portOperationStart .. => (execPortOperationStart_changes _ _ _).keepsRest h
  | .twStart .. => (execTwStart_changes _ _ _).keepsRest h
  | .arbitrationLost .. => (execArbitrationLost_changes _ _).keeps (execArbitrationLost_regular h)
  | .twTransferDone .. => (execTwTransferDone_changes _ _ _ _ _ _).keeps (execTwTransferDone_regular h)
  | .busTimeout .. => (execBusTimeout_changes _ _ _).keeps (execBusTimeout_regular h)
  | .busRecoveryDone .. => (execBusRecoveryDone_changes _ _ _).keeps (execBusRecoveryDone_regular h)
  | .spiTransferDone .. => (execSpiTransferDone_changes _ _ _).keeps (execSpiTransferDone_regular h)
  | .uartIdleGap .. => (execUartIdleGap_changes _ _).keepsRest h
  | .uartTransferDone .. => (execUartTransferDone_changes _ _ _ _ _ _).keeps (execUartTransferDone_regular h)
  | .svcStatus => (execSvcStatus_changes _).keepsRest h
  | .svcResult => (execSvcResult_changes _).keepsRest h
  | .svcObjRead .. => (execSvcObjRead_changes _ _ _).keepsRest h
  | .svcObjWrite .. => (execSvcObjWrite_changes _ _ _).keepsRest h
  | .svcSession .. => (execSvcSession_changes _ _ _).keepsRest h
  | .svcRecords => (execSvcRecords_changes _).keepsRest h
  | .svcRecordsAck .. => (execSvcRecordsAck_changes _ _ _).keepsRest h
  | .svcUnknownCommand => (execSvcUnknownCommand_changes _).keepsRest h
  | .svcSclTimeout .. => (execSvcSclTimeout_changes _ _).keepsRest h
  | .svcAddressWake => (execSvcAddressWake_changes _).keepsRest h
  | .stewardServeRequest => (execStewardServeRequest_changes _).keeps (execStewardServeRequest_regular h)
  | .adcConversionDone .. => (execAdcConversionDone_changes _ _ _ _ _ _).keepsRest h
  | .rangeSettled .. => (execRangeSettled_changes _ _).keepsRest h
  | .anaOperationDone .. => (execAnaOperationDone_changes _ _).keeps (execAnaOperationDone_regular h)
  | .codeBurstDone .. => (execCodeBurstDone_changes _ _ _ _).keeps (execCodeBurstDone_regular h)
  | .singleSlopeEnd .. => (execSingleSlopeEnd_changes _ _ _ _ _).keeps (execSingleSlopeEnd_regular h)
  | .comparatorEdge .. => (execComparatorEdge_changes _ _ _ _ _).keepsRest h
  | .majoritySample .. => (execMajoritySample_changes _ _ _).keepsRest h
  | .tripFilterExpiry .. => (execTripFilterExpiry_changes _ _ _).keepsRest h
  | .cmpLatchClear .. => (execCmpLatchClear_changes _ _ _).keepsRest h
  | .cmpDacWrite .. => (execCmpDacWrite_changes _ _ _).keepsRest h
  | .pgStart .. => (execPgStart_changes _ _ _).keepsRest h
  | .pgStop .. => (execPgStop_changes _ _ _).keepsRest h
  | .pgPeriodStart .. => (execPgPeriodStart_changes _ _ _).keepsRest h
  | .pgPulseEnd .. => (execPgPulseEnd_changes _ _ _).keepsRest h
  | .pgTrip .. => (execPgTrip_changes _ _ _).keepsRest h
  | .pgHeldClear .. => (execPgHeldClear_changes _ _ _).keepsRest h
  | .contextLaunch .. => (execContextLaunch_changes _ _ _).keeps (execContextLaunch_regular h)
  | .contextDispatch .. => (execContextDispatch_changes _ _).keeps (execContextDispatch_regular h)
  | .add .. => (execAdd_changes _ _ _ _ _).keeps (aluR_regular h)
  | .sub .. => (execSub_changes _ _ _ _ _).keeps (aluR_regular h)
  | .and .. => (execAnd_changes _ _ _ _ _).keeps (aluR_regular h)
  | .or .. => (execOr_changes _ _ _ _ _).keeps (aluR_regular h)
  | .xor .. => (execXor_changes _ _ _ _ _).keeps (aluR_regular h)
  | .shl .. => (execShl_changes _ _ _ _ _).keeps (aluR_regular h)
  | .shr .. => (execShr_changes _ _ _ _ _).keeps (aluR_regular h)
  | .sar .. => (execSar_changes _ _ _ _ _).keeps (aluR_regular h)
  | .adds .. => (execAdds_changes _ _ _ _ _).keeps (aluR_regular h)
  | .subs .. => (execSubs_changes _ _ _ _ _).keeps (aluR_regular h)
  | .mul .. => (execMul_changes _ _ _ _ _).keeps (aluR_regular h)
  | .mulh .. => (execMulh_changes _ _ _ _ _).keeps (aluR_regular h)
  | .mulhu .. => (execMulhu_changes _ _ _ _ _).keeps (aluR_regular h)
  | .mulq .. => (execMulq_changes _ _ _ _ _).keeps (aluR_regular h)
  | .min .. => (execMin_changes _ _ _ _ _).keeps (aluR_regular h)
  | .max .. => (execMax_changes _ _ _ _ _).keeps (aluR_regular h)
  | .minu .. => (execMinu_changes _ _ _ _ _).keeps (aluR_regular h)
  | .maxu .. => (execMaxu_changes _ _ _ _ _).keeps (aluR_regular h)
  | .abs .. => (execAbs_changes _ _ _ _).keeps (aluI_regular h)
  | .addi .. => (execAddi_changes _ _ _ _ _).keeps (aluI_regular h)
  | .andi .. => (execAndi_changes _ _ _ _ _).keeps (aluI_regular h)
  | .ori .. => (execOri_changes _ _ _ _ _).keeps (aluI_regular h)
  | .xori .. => (execXori_changes _ _ _ _ _).keeps (aluI_regular h)
  | .shli .. => (execShli_changes _ _ _ _ _).keeps (aluI_regular h)
  | .shri .. => (execShri_changes _ _ _ _ _).keeps (aluI_regular h)
  | .sari .. => (execSari_changes _ _ _ _ _).keeps (aluI_regular h)
  | .lui .. => (execLui_changes _ _ _ _).keeps (execLui_regular h)
  | .cmpi .. => (execCmpi_changes _ _ _ _).keeps (execCmpi_regular h)
  | .addsi .. => (execAddsi_changes _ _ _ _ _).keeps (aluI_regular h)
  | .lw .. => (execLw_changes _ _ _ _ _).keeps (loadOp_regular h)
  | .lh .. => (execLh_changes _ _ _ _ _).keeps (loadOp_regular h)
  | .lhu .. => (execLhu_changes _ _ _ _ _).keeps (loadOp_regular h)
  | .lb .. => (execLb_changes _ _ _ _ _).keeps (loadOp_regular h)
  | .lbu .. => (execLbu_changes _ _ _ _ _).keeps (loadOp_regular h)
  | .sw .. => (execSw_changes _ _ _ _ _).keeps (storeOp_regular h)
  | .sh .. => (execSh_changes _ _ _ _ _).keeps (storeOp_regular h)
  | .sb .. => (execSb_changes _ _ _ _ _).keeps (storeOp_regular h)
  | .ioIn .. => (execIoIn_changes _ _ _ _ _).keeps (execIoIn_regular h)
  | .ioOut .. => (execIoOut_changes _ _ _ _ _).keeps (execIoOut_regular h)
  | .pairWordWrite .. => (execPairWordWrite_changes _ _ _).keeps (execPairWordWrite_regular h)
  | .registerWrite .. => (execRegisterWrite_changes _ _ _ _).keeps (execRegisterWrite_regular h)
  | .branch .. => (execBranch_changes _ _ _ _).keeps (execBranch_regular h)
  | .jal .. => (execJal_changes _ _ _ _).keeps (execJal_regular h)
  | .jr .. => (execJr_changes _ _ _).keeps (execJr_regular h)
  | .issueTw .. => (execIssueTw_changes _ _ _ _ _ _).keeps (issueOp_regular h)
  | .issueSpi .. => (execIssueSpi_changes _ _ _ _ _ _).keeps (issueOp_regular h)
  | .issueUart .. => (execIssueUart_changes _ _ _ _ _ _).keeps (issueOp_regular h)
  | .issueAna .. => (execIssueAna_changes _ _ _ _ _ _).keeps (issueOp_regular h)
  | .issuePulse .. => (execIssuePulse_changes _ _ _ _).keeps (issueOp_regular h)
  | .transactionSlotFree .. => (execTransactionSlotFree_changes _ _).keeps (execTransactionSlotFree_regular h)
  | .stampRead .. => (execStampRead_changes _ _ _ _).keeps (execStampRead_regular h)
  | .emit .. => (execEmit_changes _ _ _ _ _).keeps (emitOp_regular h)
  | .emitS .. => (execEmitS_changes _ _ _ _ _).keeps (emitOp_regular h)
  | .millSubmit .. => (execMillSubmit_changes _ _ _ _ _).keeps (execMillSubmit_regular h)
  | .sieveOffer .. => (execSieveOffer_changes _ _ _ _).keeps (execSieveOffer_regular h)
  | .signalLow .. => (execSignalLow_changes _ _ _).keeps (signalOp_regular h (fun _ _ => rfl))
  | .signalHigh .. => (execSignalHigh_changes _ _ _).keeps (signalOp_regular h (fun _ _ => rfl))
  | .signalPulse .. => (execSignalPulse_changes _ _ _).keeps (signalOp_regular h (fun _ _ => rfl))
  | .awaitComp .. => (execAwaitComp_changes _ _ _ _).keeps (execAwaitComp_regular h)
  | .awaitEdge .. => (execAwaitEdge_changes _ _ _ _ _ _).keeps (execAwaitEdge_regular h)
  | .awaitTime .. => (execAwaitTime_changes _ _ _ _ _).keeps (execAwaitTime_regular h)
  | .awaitLine .. => (execAwaitLine_changes _ _ _ _ _).keeps (execAwaitLine_regular h)
  | .awaitResume .. => (execAwaitResume_changes _ _ _).keeps (execAwaitResume_regular h)
  | .yield .. => (execYield_changes _ _).keeps (execYield_regular h)
  | .trap .. => (execTrap_changes _ _ _).keeps (execTrap_regular h)
  | .reservedOpcode .. => (execReservedOpcode_changes _ _).keeps (execReservedOpcode_regular h)
  | .pcend .. => (execPcend_changes _ _).keeps (execPcend_regular h)
  | .frameBegin .. => (execFrameBegin_changes _ _).keeps (execFrameBegin_regular h)
  | .entryNominalInstant .. => (execEntryNominalInstant_changes _ _ _).keeps (execEntryNominalInstant_regular h)
  | .windowEnd .. => (execWindowEnd_changes _ _ _).keeps (execWindowEnd_regular h)
  | .nextImageWrite .. => (execNextImageWrite_changes _ _ _ _ _).keeps (execNextImageWrite_regular h)
  | .millOutputComputed .. => (execMillOutputComputed_changes _ _).keepsRest h
  | .millSlot .. => (execMillSlot_changes _ _).keepsRest h
  | .millRound .. => (execMillRound_changes _ _).keepsRest h
  | .sieveOfferEval .. => (execSieveOfferEval_changes _ _).keepsRest h
  | .sieveTimerExpiry .. => (execSieveTimerExpiry_changes _ _).keepsRest h
  | .sieveSilenceExpiry .. => (execSieveSilenceExpiry_changes _ _).keepsRest h
  | .maxAgeExpiry .. => (execMaxAgeExpiry_changes _ _).keepsRest h
  | .batchAssemble .. => (execBatchAssemble_changes _ _).keepsRest h
  | .crierWake .. => (execCrierWake_changes _ _).keepsRest h
  | .wakeHoldExpiry => (execWakeHoldExpiry_changes _).keepsRest h
  | .wakeRetryExpiry .. => (execWakeRetryExpiry_changes _ _).keepsRest h
  | .logFlushExpiry .. => (execLogFlushExpiry_changes _ _ _).keepsRest h
  | .nvPageWriteDone .. => (execNvPageWriteDone_changes _ _ _ _ _).keepsRest h
  | .logTrigger .. => (execLogTrigger_changes _ _).keepsRest h
  | .captureStart .. => (execCaptureStart_changes _ _ _).keepsRest h
  | .captureEnd .. => (execCaptureEnd_changes _ _ _).keepsRest h
  | .wearLevelCheck .. => (execWearLevelCheck_changes _ _).keepsRest h
  | .nvScanDone .. => (execNvScanDone_changes _ _).keepsRest h
  | .tallyTick .. => (execTallyTick_changes _ _).keepsRest h
  | .tallyLinkAction .. => (execTallyLinkAction_changes _ _).keepsRest h
  | .tallyStart .. => (execTallyStart_changes _ _).keepsRest h
  | .tallyStop .. => (execTallyStop_changes _ _).keepsRest h
  | .tallyReset .. => (execTallyReset_changes _ _).keepsRest h
  | .unitStart .. => (execUnitStart_changes _ _ _).keepsRest h
  | .unitReset .. => (execUnitReset_changes _ _ _).keepsRest h
  | .topWrite .. => (execTopWrite_changes _ _ _).keepsRest h
  | .cmpWrite .. => (execCmpWrite_changes _ _ _).keepsRest h
  | .tallyCapture .. => (execTallyCapture_changes _ _ _).keepsRest h
  | .tallyPairedRise .. => (execTallyPairedRise_changes _ _).keepsRest h
  | .tallyPairedFall .. => (execTallyPairedFall_changes _ _).keepsRest h
  | .matrixRowChange .. => (execMatrixRowChange_changes _ _ _ _).keeps (execMatrixRowChange_regular h)
  | .crossDieLineFault .. => (execCrossDieLineFault_changes _ _ _ _).keeps (execCrossDieLineFault_regular h)
  | .stateReqRun .. => (execStateReqRun_changes _ _).keepsRest h
  | .stateReqHalt .. => (execStateReqHalt_changes _ _).keepsRest h
  | .parishStateChange .. => (execParishStateChange_changes _ _ _).keeps (execParishStateChange_regular h)
  | .testTimeExpiry .. => (execTestTimeExpiry_changes _ _).keepsRest h
  | .keyWrite .. => (execKeyWrite_changes _ _ _ _).keepsRest h
  | .sessionOpen .. => (execSessionOpen_changes _ _).keeps (hostFrame_regular h)
  | .sessionConfirm .. => (execSessionConfirm_changes _ _).keeps (hostFrame_regular h)
  | .sessionClose .. => (execSessionClose_changes _ _).keeps (hostFrame_regular h)
  | .sessionIdleExpiry .. => (execSessionIdleExpiry_changes _ _).keepsRest h
  | .openBlockExpiry .. => (execOpenBlockExpiry_changes _ _).keepsRest h
  | .armReqWrite .. => (execArmReqWrite_changes _ _ _ _).keepsRest h
  | .armWindowExpiry => (execArmWindowExpiry_changes _).keepsRest h
  | .fwImageWrite .. => (execFwImageWrite_changes _ _ _ _).keeps (execFwImageWrite_regular h)
  | .fwCheckDone => (execFwCheckDone_changes _).keepsRest h
  | .fwSwitch .. => (execFwSwitch_changes _ _ _ _).keeps (execFwSwitch_regular h)
  | .ethFrameOther .. => (execEthFrameOther_changes _ _).keepsRest h
  | .adpFrameReject .. => (execAdpFrameReject_changes _ _ _ _).keepsRest h
  | .adpPing .. => (execAdpPing_changes _ _).keeps (hostFrame_regular h)
  | .adpRead .. => (execAdpRead_changes _ _).keeps (hostFrame_regular h)
  | .adpWrite .. => (execAdpWrite_changes _ _).keeps (hostFrame_regular h)
  | .adpReadBlock .. => (execAdpReadBlock_changes _ _).keeps (hostFrame_regular h)
  | .adpWriteBlock .. => (execAdpWriteBlock_changes _ _).keeps (hostFrame_regular h)
  | .blockTimeoutExpiry .. => (execBlockTimeoutExpiry_changes _ _).keepsRest h
  | .adpAbort .. => (execAdpAbort_changes _ _).keeps (hostFrame_regular h)
  | .adpStreamRequest .. => (execAdpStreamRequest_changes _ _).keeps (hostFrame_regular h)
  | .sleepVoteSleep .. => (execSleepVoteSleep_changes _ _).keeps (hostFrame_regular h)
  | .sleepVoteStay .. => (execSleepVoteStay_changes _ _).keeps (hostFrame_regular h)
  | .adpWakeNotice .. => (execAdpWakeNotice_changes _ _).keeps (hostFrame_regular h)
  | .adpHubOpcodeReceived .. => (execAdpHubOpcodeReceived_changes _ _ _).keeps (execAdpHubOpcodeReceived_regular h)
  | .deliveryWindowOpen .. => (execDeliveryWindowOpen_changes _ _ _).keepsRest h
  | .announcePeriodExpiry .. => (execAnnouncePeriodExpiry_changes _ _).keepsRest h
  | .plcaCycle .. => (execPlcaCycle_changes _ _).keepsRest h
  | .plcaInactive .. => (execPlcaInactive_changes _ _).keepsRest h
  | .linkDown .. => (execLinkDown_changes _ _).keepsRest h
  | .linkUp .. => (execLinkUp_changes _ _).keepsRest h
  | .failback .. => (execFailback_changes _ _).keepsRest h
  | .txDiscardTimeout .. => (execTxDiscardTimeout_changes _ _).keepsRest h
  | .sleepAgreement => (execSleepAgreement_changes _).keepsRest h
  | .sleepCommitPoint => (execSleepCommitPoint_changes _).keepsRest h
  | .networkWakeActivity .. => (execNetworkWakeActivity_changes _ _).keepsRest h
  | .networkWakePattern .. => (execNetworkWakePattern_changes _ _).keepsRest h
  | .commitPending .. => (execCommitPending_changes _ _ _ _).keepsRest h
  | .applyPending .. => (execApplyPending_changes _ _ _ _).keepsRest h
  | .discardPending .. => (execDiscardPending_changes _ _ _).keepsRest h
  | .commitDieApply .. => (execCommitDieApply_changes _ _).keeps (execCommitDieApply_regular h)
  | .persistDone .. => (execPersistDone_changes _ _).keepsRest h
  | .soRelease .. => (execSoRelease_changes _ _).keepsRest h
  | .restartDelayExpiry .. => (execRestartDelayExpiry_changes _ _ _).keepsRest h
  | .twtripInTrip => (execTwtripInTrip_changes _).keepsRest h
  | .lockstepMismatch .. => (execLockstepMismatch_changes _ _).keeps (execLockstepMismatch_regular h)
  | .watchdogService .. => (execWatchdogService_changes _ _).keeps (execWatchdogService_regular h)
  | .watchdogTimeout .. => (execWatchdogTimeout_changes _ _).keeps (execWatchdogTimeout_regular h)
  | .clockMonitorFault .. => (execClockMonitorFault_changes _ _ _ _).keepsRest h
  | .supplyMonitorFault .. => (execSupplyMonitorFault_changes _ _ _ _).keepsRest h
  | .thermalWarning .. => (execThermalWarning_changes _ _ _).keepsRest h
  | .thermalShutdown .. => (execThermalShutdown_changes _ _ _ _ _).keeps (execThermalShutdown_regular h)
  | .tripTestPulseStart .. => (execTripTestPulseStart_changes _ _ _).keepsRest h
  | .tripTestDeadline .. => (execTripTestDeadline_changes _ _ _ _ _).keepsRest h
  | .tripTestPulseEnd .. => (execTripTestPulseEnd_changes _ _).keepsRest h
  | .outputReadbackFault .. => (execOutputReadbackFault_changes _ _ _ _).keepsRest h
  | .soCurrentLimitExpiry .. => (execSoCurrentLimitExpiry_changes _ _ _).keepsRest h
  | .pairDigestCompare .. => (execPairDigestCompare_changes _ _ _).keepsRest h
  | .retireEngine .. => (execRetireEngine_changes _ _).keeps (execRetireEngine_regular h)
  | .recoveryCauseCleared => (execRecoveryCauseCleared_changes _).keepsRest h
  | .latchReset .. => (execLatchReset_changes _ _).keepsRest h
  | .twinWordSend => (execTwinWordSend_changes _).keepsRest h
  | .twinHello .. => (execTwinHello_changes _ _).keepsRest h
  | .twinVerdict .. => (execTwinVerdict_changes _ _).keepsRest h
  | .twinDetach .. => (execTwinDetach_changes _ _).keepsRest h
  | .twinRest .. => (execTwinRest_changes _ _).keepsRest h
  | .twinWordInvalid => (execTwinWordInvalid_changes _).keepsRest h
  | .twinLost => (execTwinLost_changes _).keepsRest h
  | .lostRqTimeExpiry => (execLostRqTimeExpiry_changes _).keepsRest h
  | .powerCmdRun => (execPowerCmdRun_changes _).keepsRest h
  | .powerCmdSleep => (execPowerCmdSleep_changes _).keepsRest h
  | .powerCmdDeepSleep => (execPowerCmdDeepSleep_changes _).keepsRest h
  | .powerCmdOff => (execPowerCmdOff_changes _).keepsRest h
  | .idleTimeExpiry => (execIdleTimeExpiry_changes _).keepsRest h
  | .sleepTimeExpiry => (execSleepTimeExpiry_changes _).keepsRest h
  | .deepTimeExpiry => (execDeepTimeExpiry_changes _).keepsRest h
  | .storageTimeExpiry => (execStorageTimeExpiry_changes _).keepsRest h
  | .drainExpiry => (execDrainExpiry_changes _).keeps (execDrainExpiry_regular h)
  | .powerStateReached => (execPowerStateReached_changes _).keeps (execPowerStateReached_regular h)
  | .wakePinLevel => (execWakePinLevel_changes _).keepsRest h
  | .wakePinEdge => (execWakePinEdge_changes _).keepsRest h
  | .wakePinStart => (execWakePinStart_changes _).keeps (execWakePinStart_regular h)
  | .comparatorWake .. => (execComparatorWake_changes _ _).keepsRest h
  | .aonTallyWake => (execAonTallyWake_changes _).keepsRest h
  | .twinWake => (execTwinWake_changes _).keepsRest h
  | .sentinelCrierWake .. => (execSentinelCrierWake_changes _ _).keepsRest h
  | .wakeAfterExpiry => (execWakeAfterExpiry_changes _).keepsRest h
  | .returnComplete .. => (execReturnComplete_changes _ _).keeps (execReturnComplete_regular h)
  | .opSet .. => (execOpSet_changes _ _).keepsRest h
  | .voltageConfirmed .. => (execVoltageConfirmed_changes _ _).keepsRest h
  | .opSwitchPause .. => (execOpSwitchPause_changes _ _).keepsRest h
  | .sysPllChecked .. => (execSysPllChecked_changes _ _).keepsRest h
  | .relockTimeout .. => (execRelockTimeout_changes _ _).keeps (execRelockTimeout_regular h)
  | .converterDerate .. => (execConverterDerate_changes _ _ _ _).keepsRest h
  | .derateClear => (execDerateClear_changes _).keepsRest h
  | .scrubWord .. => (execScrubWord_changes _ _ _ _ _ _).keeps (execScrubWord_regular h)
  | .reloadCopyWrite .. => (execReloadCopyWrite_changes _ _ _ _).keepsRest h
  | .reloadApply .. => (execReloadApply_changes _ _ _ _).keeps (execReloadApply_regular h)
  | .rotaFailover .. => (execRotaFailover_changes _ _ _).keepsRest h
  | .temperatureCheck .. => (execTemperatureCheck_changes _ _ _).keepsRest h
  | .calReq .. => (execCalReq_changes _ _).keepsRest h
  | .calItemDone .. => (execCalItemDone_changes _ _ _ _ _).keepsRest h
  | .forcedCalWindow .. => (execForcedCalWindow_changes _ _).keepsRest h
  | .telemetryInstant => (execTelemetryInstant_changes _).keepsRest h
  | .vinValid .. => (execVinValid_changes _ _ _ _ _ _ _ _).keeps (execVinValid_regular h)
  | .vinDip .. => (execVinDip_changes _ _ _).keeps (execVinDip_regular h)
  | .resetWrite .. => (execResetWrite_changes _ _).keeps (execResetWrite_regular h)
  | .dieStartupTimeout .. => (execDieStartupTimeout_changes _ _).keepsRest h
  | .thermalRestart .. => (execThermalRestart_changes _ _).keeps (execThermalRestart_regular h)
  | .selfTest .. => (execSelfTest_changes _ _).keepsRest h
  | .selfTestDone .. => (execSelfTestDone_changes _ _).keepsRest h
  | .portLoopL0 .. => (execPortLoopL0_changes _ _).keeps (execPortLoopL0_regular h)
  | .portLoopL1 .. => (execPortLoopL1_changes _ _).keeps (execPortLoopL1_regular h)
  | .portLoopL2 .. => (execPortLoopL2_changes _ _).keeps (execPortLoopL2_regular h)
  | .portLoopL3 .. => (execPortLoopL3_changes _ _).keeps (execPortLoopL3_regular h)
  | .netLoopMac .. => (execNetLoopMac_changes _ _ _).keepsRest h
  | .netLoopPcs .. => (execNetLoopPcs_changes _ _ _).keepsRest h
  | .netLoopPma .. => (execNetLoopPma_changes _ _ _).keepsRest h
  | .netLoopRemote .. => (execNetLoopRemote_changes _ _ _).keepsRest h
  | .remoteFrameReflect .. => (execRemoteFrameReflect_changes _ _ _).keepsRest h
  | .loopTimeoutExpiry .. => (execLoopTimeoutExpiry_changes _ _).keepsRest h
  | .twinLoopNear => (execTwinLoopNear_changes _).keepsRest h
  | .twinLoopFar => (execTwinLoopFar_changes _).keepsRest h
  | .ringLoop .. => (execRingLoop_changes _ _).keepsRest h
  | .loopbackDone .. => (execLoopbackDone_changes _ _ _ _ _).keepsRest h
  | .leadHeartbeatSend => (execLeadHeartbeatSend_changes _).keepsRest h
  | .ptpFollowUpReceive .. => (execPtpFollowUpReceive_changes _ _ _ _).keeps (execPtpFollowUpReceive_regular h)
  | .ptpDelayRequestReceive .. => (execPtpDelayRequestReceive_changes _ _ _ _).keepsRest h
  | .announceReceiptTimeout .. => (execAnnounceReceiptTimeout_changes _ _).keepsRest h
  | .quarantineProbePassed .. => (execQuarantineProbePassed_changes _ _ _).keepsRest h
  | .transmitOpportunity .. => (execTransmitOpportunity_changes _ _).keepsRest h
  | .netLoopStop .. => (execNetLoopStop_changes _ _ _).keepsRest h
  | .twtripInRelease => (execTwtripInRelease_changes _).keepsRest h
  | .monitorReturnToBand .. => (execMonitorReturnToBand_changes _ _ _ _).keepsRest h
  | .soCurrentLimitHoldoffEnd .. => (execSoCurrentLimitHoldoffEnd_changes _ _ _).keepsRest h

/-- A machine with the queue and the identity of a sound one, and regular itself, is sound. -/
theorem Sound.of_keeps {s t : State} {r : Result State} (hs : Sound s) (k : Keeps s r) (ht : r = .next t) :
    Sound t ∧ t.dies = s.dies ∧ t.serial = s.serial ∧ t.mac = s.mac ∧ t.pending = s.pending := by
  obtain ⟨hsame, hregular⟩ := k t ht
  have hpending : t.pending = s.pending := hsame .pending (by decide)
  have hdies : t.dies = s.dies := hsame .dies (by decide)
  have hserial : t.serial = s.serial := hsame .serial (by decide)
  have hmac : t.mac = s.mac := hsame .mac (by decide)
  obtain ⟨hgenuine, -⟩ := (sound_iff s).mp hs
  refine ⟨(sound_iff t).mpr ⟨?_, hregular⟩, hdies, hserial, hmac, hpending⟩
  unfold Genuine
  rw [hdies, hserial, hmac]
  exact hgenuine

/-- Settles O59: an empty queue idles, which changes the power state alone, and the front command keeps the invariant on the machine
with the queue's rest. -/
theorem everyStepKeepsTheInvariant : Obligations.EveryStepKeepsTheInvariant := by
  intro s t hs hstep
  unfold step at hstep
  split at hstep
  · next hempty =>
    have k : Keeps s (.next (idle s)) := (ChangesOnly.next (idle_changes s)).keepsRest ((sound_iff s).mp hs).2
    simpa [hempty] using Sound.of_keeps hs k hstep
  · next c rest hfront =>
    rw [hfront]
    have hs' : Sound { s with pending := rest } := hs
    exact Sound.of_keeps hs' (exec_keeps ((sound_iff _).mp hs').2 c) hstep

end Sys2Proof.Machine
end

section
/-! PROOF. O60: every command well formed on the part answers a next state, and a command of a unit the part does not have stops or is
answered with 0x0101. -/

namespace Sys2Proof.Machine

/-! ### What answers -/

/-- The command ends with a next state: it neither stops nor is refused. -/
def Answers (r : Result State) : Prop := ∃ t, r = .next t

theorem Answers.next {t : State} : Answers (.next t) := ⟨t, rfl⟩

theorem Answers.of_eq {r r' : Result State} (h : r = r') (a : Answers r') : Answers r := h ▸ a

theorem Answers.withUnit {c : Bool} {u : String} {t : State} (h : c = true) : Answers (withUnit c u t) := h ▸ .next

/-- Past a guard whose premise fails. -/
theorem Answers.past {p : Prop} [Decidable p] {f : Fault} {r : Result State} (hp : ¬ p) (a : Answers r) :
    Answers (if p then .fault f else r) := by rwa [if_neg hp]

section
variable {s t : State}

theorem Answers.withDie {d : Nat} (h : decide (d < usedDies s) = true) : Answers (withDie s d t) := .withUnit h

theorem Answers.withNet {n : Nat} (h : decide (n < 3) = true) : Answers (withNet n t) := .withUnit h

theorem Answers.withParish {p : Nat} (h : decide (p < 16) = true) : Answers (withParish p t) := .withUnit h

theorem Answers.withPort {n : Nat} (h : decide (n < 12 * usedDies s) = true) : Answers (withPort s n t) :=
  .withUnit (Nat.mul_comm .. ▸ h)

theorem Answers.withEngine {e : Nat} (h : decide (e < 24 * usedDies s) = true) : Answers (withEngine s e t) :=
  .withUnit (Nat.mul_comm .. ▸ h)

theorem Answers.withStream {k : Nat} (h : decide (k < 512 * usedDies s) = true) : Answers (withStream s k t) :=
  .withUnit (Nat.mul_comm .. ▸ h)

theorem Answers.withMill {c : Nat} (h : decide (c < 16 * usedDies s) = true) : Answers (withMill s c t) :=
  .withUnit (Nat.mul_comm .. ▸ h)

theorem Answers.withRule {r : Nat} (h : decide (r < 64 * usedDies s) = true) : Answers (withRule s r t) :=
  .withUnit (Nat.mul_comm .. ▸ h)

theorem Answers.withTally {k : Nat} (h : decide (k < 32 * usedDies s) = true) : Answers (withTally s k t) :=
  .withUnit (Nat.mul_comm .. ▸ h)

/-- A tally unit holds four channels (R346). -/
theorem Answers.tallyUnit {u : Nat} (h : decide (u < 8 * usedDies s) = true) : Answers (Machine.withTally s (u * 4) t) := by
  have hu : u < 8 * usedDies s := of_decide_eq_true h
  exact .withTally (decide_eq_true (by omega))

theorem Answers.onCtx {e : Nat} {i : Instr} {f : Engine → Nat → Ctx → State} (h : decide (e < 24 * usedDies s) = true) :
    Answers (onCtx s e i f) := .withEngine h

theorem Answers.aluR {e : Nat} {i : Instr} {rd ra rb : BitVec 4} {f : Flags → Word → Word → Word × Flags}
    (h : decide (e < 24 * usedDies s) = true) : Answers (aluR s e i rd ra rb f) := .onCtx h

theorem Answers.aluI {e : Nat} {i : Instr} {rd ra : BitVec 4} {f : Flags → Word → Word × Flags}
    (h : decide (e < 24 * usedDies s) = true) : Answers (aluI s e i rd ra f) := .onCtx h

theorem Answers.loadOp {e : Nat} {i : Instr} {rd ra : BitVec 4} {imm : BitVec 18} {n : Nat} {f : Memory → Nat → Word}
    (h : decide (e < 24 * usedDies s) = true) : Answers (loadOp s e i rd ra imm n f) := .onCtx h

theorem Answers.storeOp {e : Nat} {i : Instr} {rd ra : BitVec 4} {imm : BitVec 18} {n : Nat}
    (h : decide (e < 24 * usedDies s) = true) : Answers (storeOp s e i rd ra imm n) := .onCtx h

theorem Answers.issueOp {e : Nat} {i : Instr} {kind : Nat} {rd rh : BitVec 4} {desc : Engine → Ctx → Nat × Word × Word}
    {ok : Nat → Nat → Word → Word → Bool} (h : decide (e < 24 * usedDies s) = true) : Answers (issueOp s e i kind rd rh desc ok) :=
  .onCtx h

theorem Answers.emitOp {e : Nat} {i : Instr} {rs ra n : BitVec 4} {stale : Bool} (h : decide (e < 24 * usedDies s) = true) :
    Answers (emitOp s e i rs ra n stale) := .onCtx h

theorem Answers.signalOp {e : Nat} {i : Instr} {ra : BitVec 4} {f : Engine → Nat → Engine} (h : decide (e < 24 * usedDies s) = true) :
    Answers (signalOp s e i ra f) := .onCtx h

theorem Answers.hostFrame {op : Nat} {f : HostFrame} (h : decide (f.port < 3) = true) : Answers (hostFrame op f s) := .withNet h

/-! ### A unit and an operand -/

/-- A die, then what the rest of the premise gives. -/
theorem Answers.dieAnd {d : Nat} {c : Bool} {f : Fault} {r : Result State} (h : (decide (d < usedDies s) && c) = true)
    (a : c = true → Answers r) : Answers (if usedDies s ≤ d then .fault f else r) :=
  .past (Nat.not_le_of_lt (of_decide_eq_true (Bool.and_elim_left h))) (a (Bool.and_elim_right h))

/-- A die and an operand between two codes. -/
theorem Answers.dieBetween {d k lo hi : Nat} {f : Fault} {u : String}
    (h : (decide (d < usedDies s) && decide (lo ≤ k) && decide (k ≤ hi)) = true) :
    Answers (if usedDies s ≤ d then .fault f else Machine.withUnit (decide (lo ≤ k ∧ k ≤ hi)) u t) :=
  .dieAnd (Bool.and_assoc .. ▸ h) (fun hk => .withUnit (by rwa [Bool.decide_and]))

/-- A port and the number of one of its parts. -/
theorem Answers.portOperand {n k top : Nat} {f : Fault} (h : (decide (n < 12 * usedDies s) && decide (k ≤ top)) = true) :
    Answers (if top < k then .fault f else Machine.withPort s n t) :=
  .past (Nat.not_lt_of_le (of_decide_eq_true (Bool.and_elim_right h))) (.withPort (Bool.and_elim_left h))

/-- The dies in use are among those of the part, so a ring link of theirs exists. -/
theorem ringLink_lt {link : Nat} (hg : Genuine s) (h : decide (link < usedDies s) = true) : decide (link < s.dies) = true := by
  obtain ⟨hdies, -⟩ := hg
  have hlink : link < usedDies s := of_decide_eq_true h
  have hused : usedDies s ≤ s.dies := by
    unfold usedDies
    split <;> omega
  exact decide_eq_true (hlink.trans_le hused)

end

/-! ### Commands with operand codes of their own -/

section
variable {s : State}

theorem execPinEdge_answers {n pin : Nat} {level : Bool} {bins : Nat}
    (h : (Instr.pinEdge n pin level bins).wfFor (usedDies s) = true) : Answers (execPinEdge n pin level bins s) := by
  have ⟨hn, hpin⟩ : n < 12 * usedDies s ∧ pin < 4 := by simpa [Instr.wfFor] using h
  exact .withUnit (decide_eq_true ⟨by omega, hpin⟩)

theorem execConverterDerate_answers {detail item : Nat} {temp : Int}
    (h : (Instr.converterDerate detail item temp).wfFor (usedDies s) = true) : Answers (execConverterDerate detail item temp s) :=
  .withUnit (by simpa [Instr.wfFor, or_assoc] using h)

theorem execAdcConversionDone_answers {n : Nat} {raw : Int} {outside : Bool} {lag bins : Nat}
    (h : (Instr.adcConversionDone n raw outside lag bins).wfFor (usedDies s) = true) :
    Answers (execAdcConversionDone n raw outside lag bins s) := by
  have hraw : -32768 ≤ raw ∧ raw ≤ 32767 := of_decide_eq_true (Bool.and_elim_right h)
  exact .past (by omega) (.withPort (Bool.and_elim_left h))

theorem execDeliveryWindowOpen_answers {n k : Nat} (h : (Instr.deliveryWindowOpen n k).wfFor (usedDies s) = true) :
    Answers (execDeliveryWindowOpen n k s) := by
  have hk : k < 8 := of_decide_eq_true (Bool.and_elim_right h)
  exact .past (by omega) (.withNet (Bool.and_elim_left h))

theorem execSoRelease_answers {value : Nat} (h : (Instr.soRelease value).wfFor (usedDies s) = true) :
    Answers (execSoRelease value s) := by
  have hvalue : value < 65536 := of_decide_eq_true h
  unfold execSoRelease
  rw [if_pos hvalue]
  exact .next

/-- The opcodes of the hub's own answers are 5, 8 and those from 12 on. -/
theorem execAdpHubOpcodeReceived_answers {op : Nat} {f : HostFrame}
    (h : (Instr.adpHubOpcodeReceived op f).wfFor (usedDies s) = true) : Answers (execAdpHubOpcodeReceived op f s) := by
  have ⟨⟨hport, hop⟩, hcode⟩ : (f.port < 3 ∧ op < 16) ∧ ((op = 5 ∨ op = 8) ∨ 12 ≤ op) := by simpa [Instr.wfFor] using h
  have hhub : ¬ (16 ≤ op ∨ hostOp op = true) := by
    simp only [hostOp, Bool.or_eq_true, decide_eq_true_eq, beq_iff_eq]
    omega
  exact .past hhub (.hostFrame (decide_eq_true hport))

/-- Items 1 to 7 are a port's, 8 to 10 a die's. -/
theorem execCalItemDone_answers {n item : Nat} {values : List Int} {bad : List Nat}
    (h : (Instr.calItemDone n item values bad).wfFor (usedDies s) = true) : Answers (execCalItemDone n item values bad s) := by
  have hcode : 1 ≤ item ∧ item ≤ 10 := by simpa using Bool.and_elim_left h
  have hunit := Bool.and_elim_right h
  refine .past (by omega) ?_
  split
  · next hport => exact .withPort (by simpa [hport] using hunit)
  · next hport => exact .withDie (by simpa [hport] using hunit)

/-- Every result but that of an uncorrectable error, whose structure the state decides. -/
theorem execScrubWord_answers {d err kind item sub : Nat} (h : (Instr.scrubWord d err kind item sub).wfFor (usedDies s) = true)
    (herr : err ≠ 2) : Answers (execScrubWord d err kind item sub s) := by
  have hcode : err < 4 := of_decide_eq_true (Bool.and_elim_right h)
  exact .dieAnd h (fun _ => .past (by omega) (.withUnit (by simp [herr])))

/-- Every loopback but a ring's, whose link the state decides. -/
theorem execLoopbackDone_answers {kind n firstErr errors : Nat}
    (h : (Instr.loopbackDone kind n firstErr errors).wfFor (usedDies s) = true) (hring : kind ≠ 3) :
    Answers (execLoopbackDone kind n firstErr errors s) := by
  have hcode : kind ≤ 3 ∧ firstErr ≤ 6 := by simpa using Bool.and_elim_left h
  have hunit := Bool.and_elim_right h
  refine .past (by omega) ?_
  split
  · next hport => exact .withPort (by simpa [hport] using hunit)
  · split
    · next hnet => exact .withNet (by simpa [hnet] using hunit)
    · rw [if_pos (by omega)]
      exact .next

end

/-! ### The commands -/

/-- Every command with its units among the dies in use and its codes in their fields, but for an uncorrectable error of the scrub and the
end of a ring loopback. -/
theorem exec_answers {s : State} (hg : Genuine s) (i : Instr) (hwf : i.wfFor (usedDies s) = true)
    (hscrub : ∀ d kind item sub, i ≠ .scrubWord d 2 kind item sub) (hloop : ∀ n err count, i ≠ .loopbackDone 3 n err count) :
    Answers (exec i s) :=
  match i, hwf with
  | .leadHeartbeat .., w => .withDie w
  | .leadLost .., w => .withDie w
  | .ringFrameReceive .., w => .dieAnd w (fun hlink => .withUnit (ringLink_lt hg hlink))
  | .ringLinkLost .., w => .withUnit (ringLink_lt hg w)
  | .sidebandPairFault .., w => .withDie w
  | .safetyOutputTripRequest .., w => .withDie w
  | .matrixTripConfirmed .., w => .withDie w
  | .timeAlignFrame .., _ => .next
  | .timeTick, _ => .next
  | .slewComplete, _ => .next
  | .rateWrite .., _ => .next
  | .offsetAdjWrite .., _ => .next
  | .timeSetWrite .., _ => .next
  | .reacquireWrite .., _ => .next
  | .refRetune .., _ => .next
  | .tsecLoRead .., w => .withEngine w
  | .ptpSyncReceive .., w => .withNet w
  | .ptpAnnounceReceive .., w => .withNet w
  | .ptpDelayResponseReceive .., w => .withNet w
  | .ptpMessageDiscard .., w => .withNet w
  | .ptpSyncSend .., w => .withNet w
  | .ptpDelayRequestSend .., w => .withNet w
  | .ptpAnnounceSend .., w => .withNet w
  | .syncTimeout .., w => .withNet w
  | .portModeIdleEnd .., w => .withPort w
  | .vpOnWrite .., w => .withPort w
  | .pgood .., w => .withPort w
  | .vpAverageOverload .., w => .withPort w
  | .vpPeakOverload .., w => .withPort w
  | .emCfgWrite .., w => .withPort w
  | .governorGrant .., w => .withDie w
  | .emitterPulseDone .., w => .withPort w
  | .quarantineProbe .., w => .withPort w
  | .quarCtlRelease .., _ => .next
  | .quarCtlHold .., _ => .next
  | .quarCtlProbe .., _ => .next
  | .uartRxLowTimeout .., w => .withPort w
  | .pinEdge .., w => execPinEdge_answers w
  | .portOperationStart .., w => .withPort w
  | .twStart .., w => .withPort w
  | .arbitrationLost .., w => .withPort w
  | .twTransferDone .., w => .withPort w
  | .busTimeout .., w => .withPort w
  | .busRecoveryDone .., w => .withPort w
  | .spiTransferDone .., w => .withPort w
  | .uartIdleGap .., w => .withPort w
  | .uartTransferDone .., w => .withPort w
  | .svcStatus, _ => .next
  | .svcResult, _ => .next
  | .svcObjRead .., _ => .next
  | .svcObjWrite .., _ => .next
  | .svcSession .., _ => .next
  | .svcRecords, _ => .next
  | .svcRecordsAck .., _ => .next
  | .svcUnknownCommand, _ => .next
  | .svcSclTimeout .., _ => .next
  | .svcAddressWake, _ => .next
  | .stewardServeRequest, _ => .next
  | .adcConversionDone .., w => execAdcConversionDone_answers w
  | .rangeSettled .., w => .withPort w
  | .anaOperationDone .., w => .withPort w
  | .codeBurstDone .., w => .withPort w
  | .singleSlopeEnd .., w => .withPort w
  | .comparatorEdge .., w => .portOperand w
  | .majoritySample .., w => .portOperand w
  | .tripFilterExpiry .., w => .portOperand w
  | .cmpLatchClear .., _ => .next
  | .cmpDacWrite .., w => .withPort w
  | .pgStart .., w => .portOperand w
  | .pgStop .., w => .portOperand w
  | .pgPeriodStart .., w => .portOperand w
  | .pgPulseEnd .., w => .portOperand w
  | .pgTrip .., w => .portOperand w
  | .pgHeldClear .., w => .portOperand w
  | .contextLaunch .., w => .withDie w
  | .contextDispatch .., w => .withEngine w
  | .add .., w => .of_eq (exec_add ..) (.aluR w)
  | .sub .., w => .of_eq (exec_sub ..) (.aluR w)
  | .and .., w => .of_eq (exec_and ..) (.aluR w)
  | .or .., w => .of_eq (exec_or ..) (.aluR w)
  | .xor .., w => .of_eq (exec_xor ..) (.aluR w)
  | .shl .., w => .of_eq (exec_shl ..) (.aluR w)
  | .shr .., w => .of_eq (exec_shr ..) (.aluR w)
  | .sar .., w => .of_eq (exec_sar ..) (.aluR w)
  | .adds .., w => .of_eq (exec_adds ..) (.aluR w)
  | .subs .., w => .of_eq (exec_subs ..) (.aluR w)
  | .mul .., w => .of_eq (exec_mul ..) (.aluR w)
  | .mulh .., w => .of_eq (exec_mulh ..) (.aluR w)
  | .mulhu .., w => .of_eq (exec_mulhu ..) (.aluR w)
  | .mulq .., w => .of_eq (exec_mulq ..) (.aluR w)
  | .min .., w => .of_eq (exec_min ..) (.aluR w)
  | .max .., w => .of_eq (exec_max ..) (.aluR w)
  | .minu .., w => .of_eq (exec_minu ..) (.aluR w)
  | .maxu .., w => .of_eq (exec_maxu ..) (.aluR w)
  | .abs .., w => .of_eq (exec_abs ..) (.aluI w)
  | .addi .., w => .of_eq (exec_addi ..) (.aluI w)
  | .andi .., w => .of_eq (exec_andi ..) (.aluI w)
  | .ori .., w => .of_eq (exec_ori ..) (.aluI w)
  | .xori .., w => .of_eq (exec_xori ..) (.aluI w)
  | .shli .., w => .of_eq (exec_shli ..) (.aluI w)
  | .shri .., w => .of_eq (exec_shri ..) (.aluI w)
  | .sari .., w => .of_eq (exec_sari ..) (.aluI w)
  | .lui .., w => .of_eq (exec_lui ..) (.onCtx w)
  | .cmpi .., w => .of_eq (exec_cmpi ..) (.onCtx w)
  | .addsi .., w => .of_eq (exec_addsi ..) (.aluI w)
  | .lw .., w => .of_eq (exec_lw ..) (.loadOp w)
  | .lh .., w => .of_eq (exec_lh ..) (.loadOp w)
  | .lhu .., w => .of_eq (exec_lhu ..) (.loadOp w)
  | .lb .., w => .of_eq (exec_lb ..) (.loadOp w)
  | .lbu .., w => .of_eq (exec_lbu ..) (.loadOp w)
  | .sw .., w => .of_eq (exec_sw ..) (.storeOp w)
  | .sh .., w => .of_eq (exec_sh ..) (.storeOp w)
  | .sb .., w => .of_eq (exec_sb ..) (.storeOp w)
  | .ioIn .., w => .of_eq (exec_ioIn ..) (.onCtx w)
  | .ioOut .., w => .of_eq (exec_ioOut ..) (.onCtx w)
  | .pairWordWrite .., w => .withEngine w
  | .registerWrite .., w => .withEngine w
  | .branch .., w => .of_eq (exec_branch ..) (.onCtx (Bool.and_elim_left w))
  | .jal .., w => .of_eq (exec_jal ..) (.onCtx w)
  | .jr .., w => .of_eq (exec_jr ..) (.onCtx w)
  | .issueTw .., w => .of_eq (exec_issueTw ..) (.issueOp w)
  | .issueSpi .., w => .of_eq (exec_issueSpi ..) (.issueOp w)
  | .issueUart .., w => .of_eq (exec_issueUart ..) (.issueOp w)
  | .issueAna .., w => .of_eq (exec_issueAna ..) (.issueOp w)
  | .issuePulse .., w => .of_eq (exec_issuePulse ..) (.issueOp w)
  | .transactionSlotFree .., w => .withDie w
  | .stampRead .., w => .of_eq (exec_stampRead ..) (.onCtx w)
  | .emit .., w => .of_eq (exec_emit ..) (.emitOp w)
  | .emitS .., w => .of_eq (exec_emitS ..) (.emitOp w)
  | .millSubmit .., w => .of_eq (exec_millSubmit ..) (.onCtx w)
  | .sieveOffer .., w => .of_eq (exec_sieveOffer ..) (.onCtx w)
  | .signalLow .., w => .of_eq (exec_signalLow ..) (.signalOp w)
  | .signalHigh .., w => .of_eq (exec_signalHigh ..) (.signalOp w)
  | .signalPulse .., w => .of_eq (exec_signalPulse ..) (.signalOp w)
  | .awaitComp .., w => .of_eq (exec_awaitComp ..) (.onCtx w)
  | .awaitEdge .., w => .of_eq (exec_awaitEdge ..) (.onCtx (Bool.and_elim_left w))
  | .awaitTime .., w => .of_eq (exec_awaitTime ..) (.onCtx w)
  | .awaitLine .., w => .of_eq (exec_awaitLine ..) (.onCtx w)
  | .awaitResume .., w => .withEngine w
  | .yield .., w => .of_eq (exec_yield ..) (.onCtx w)
  | .trap .., w => .of_eq (exec_trap ..) (.onCtx w)
  | .reservedOpcode .., w => .withEngine w
  | .pcend .., w => .withEngine w
  | .frameBegin .., w => .withDie w
  | .entryNominalInstant .., w => .withDie w
  | .windowEnd .., w => .withDie w
  | .nextImageWrite .., w => .withParish (Bool.and_elim_right w)
  | .millOutputComputed .., w => .withMill w
  | .millSlot .., w => .withMill w
  | .millRound .., w => .withDie w
  | .sieveOfferEval .., w => .withDie w
  | .sieveTimerExpiry .., w => .withRule w
  | .sieveSilenceExpiry .., w => .withRule w
  | .maxAgeExpiry .., w => .withStream w
  | .batchAssemble .., w => .withParish w
  | .crierWake .., w => .withParish w
  | .wakeHoldExpiry, _ => .next
  | .wakeRetryExpiry .., w => .withParish w
  | .logFlushExpiry .., w => .withDie w
  | .nvPageWriteDone .., w => .withDie w
  | .logTrigger .., _ => .next
  | .captureStart .., w => .withDie w
  | .captureEnd .., w => .withDie w
  | .wearLevelCheck .., w => .withDie w
  | .nvScanDone .., w => .withDie w
  | .tallyTick .., w => .withTally w
  | .tallyLinkAction .., w => .withTally w
  | .tallyStart .., _ => .next
  | .tallyStop .., _ => .next
  | .tallyReset .., _ => .next
  | .unitStart .., w => .tallyUnit w
  | .unitReset .., w => .tallyUnit w
  | .topWrite .., _ => .next
  | .cmpWrite .., _ => .next
  | .tallyCapture .., w => .withTally w
  | .tallyPairedRise .., w => .withTally w
  | .tallyPairedFall .., w => .withTally w
  | .matrixRowChange .., w => .dieAnd w .withUnit
  | .crossDieLineFault .., w => .dieAnd w .withUnit
  | .stateReqRun .., _ => .next
  | .stateReqHalt .., _ => .next
  | .parishStateChange .., w => .dieAnd w .withParish
  | .testTimeExpiry .., w => .withParish w
  | .keyWrite .., _ => .next
  | .sessionOpen .., w => .hostFrame w
  | .sessionConfirm .., w => .hostFrame w
  | .sessionClose .., w => .hostFrame w
  | .sessionIdleExpiry .., _ => .next
  | .openBlockExpiry .., w => .withParish w
  | .armReqWrite .., _ => .next
  | .armWindowExpiry, _ => .next
  | .fwImageWrite .., w => .withParish w
  | .fwCheckDone, _ => .next
  | .fwSwitch .., w => .withParish w
  | .ethFrameOther .., w => .withNet w
  | .adpFrameReject .., w => .withNet w
  | .adpPing .., w => .hostFrame w
  | .adpRead .., w => .hostFrame w
  | .adpWrite .., w => .hostFrame w
  | .adpReadBlock .., w => .hostFrame w
  | .adpWriteBlock .., w => .hostFrame w
  | .blockTimeoutExpiry .., _ => .next
  | .adpAbort .., w => .hostFrame w
  | .adpStreamRequest .., w => .hostFrame w
  | .sleepVoteSleep .., w => .hostFrame w
  | .sleepVoteStay .., w => .hostFrame w
  | .adpWakeNotice .., w => .hostFrame w
  | .adpHubOpcodeReceived .., w => execAdpHubOpcodeReceived_answers w
  | .deliveryWindowOpen .., w => execDeliveryWindowOpen_answers w
  | .announcePeriodExpiry .., w => .withNet w
  | .plcaCycle .., w => .withNet w
  | .plcaInactive .., w => .withNet w
  | .linkDown .., w => .withNet w
  | .linkUp .., w => .withNet w
  | .failback .., w => .withNet w
  | .txDiscardTimeout .., w => .withNet w
  | .sleepAgreement, _ => .next
  | .sleepCommitPoint, _ => .next
  | .networkWakeActivity .., w => .withNet w
  | .networkWakePattern .., w => .withNet w
  | .commitPending .., w => .withParish w
  | .applyPending .., w => .withParish w
  | .discardPending .., w => .withParish w
  | .commitDieApply .., w => .withDie w
  | .persistDone .., _ => .next
  | .soRelease .., w => execSoRelease_answers w
  | .restartDelayExpiry .., w => .dieAnd w .withUnit
  | .twtripInTrip, _ => .next
  | .lockstepMismatch .., w => .withDie w
  | .watchdogService .., w => .withDie w
  | .watchdogTimeout .., w => .withDie w
  | .clockMonitorFault .., w => .dieBetween w
  | .supplyMonitorFault .., w => .dieBetween w
  | .thermalWarning .., w => .withDie w
  | .thermalShutdown .., w => .withDie w
  | .tripTestPulseStart .., w => .dieAnd w .withUnit
  | .tripTestDeadline .., w => .dieBetween w
  | .tripTestPulseEnd .., w => .withDie w
  | .outputReadbackFault .., w => .dieAnd w .withUnit
  | .soCurrentLimitExpiry .., w => .dieAnd w .withUnit
  | .pairDigestCompare .., w => .withDie w
  | .retireEngine .., _ => .next
  | .recoveryCauseCleared, _ => .next
  | .latchReset .., _ => .next
  | .twinWordSend, _ => .next
  | .twinHello .., _ => .next
  | .twinVerdict .., _ => .next
  | .twinDetach .., _ => .next
  | .twinRest .., _ => .next
  | .twinWordInvalid, _ => .next
  | .twinLost, _ => .next
  | .lostRqTimeExpiry, _ => .next
  | .powerCmdRun, _ => .next
  | .powerCmdSleep, _ => .next
  | .powerCmdDeepSleep, _ => .next
  | .powerCmdOff, _ => .next
  | .idleTimeExpiry, _ => .next
  | .sleepTimeExpiry, _ => .next
  | .deepTimeExpiry, _ => .next
  | .storageTimeExpiry, _ => .next
  | .drainExpiry, _ => .next
  | .powerStateReached, _ => .next
  | .wakePinLevel, _ => .next
  | .wakePinEdge, _ => .next
  | .wakePinStart, _ => .next
  | .comparatorWake .., w => .withPort w
  | .aonTallyWake, _ => .next
  | .twinWake, _ => .next
  | .sentinelCrierWake .., w => .withRule w
  | .wakeAfterExpiry, _ => .next
  | .returnComplete .., _ => .next
  | .opSet .., _ => .next
  | .voltageConfirmed .., w => .withDie w
  | .opSwitchPause .., w => .withDie w
  | .sysPllChecked .., w => .withDie w
  | .relockTimeout .., w => .withDie w
  | .converterDerate .., w => execConverterDerate_answers w
  | .derateClear, _ => .next
  | .scrubWord d _ kind item sub, w => execScrubWord_answers w (fun herr => hscrub d kind item sub (herr ▸ rfl))
  | .reloadCopyWrite .., w => .withDie w
  | .reloadApply .., w => .withDie w
  | .rotaFailover .., w => .withDie w
  | .temperatureCheck .., w => .withDie w
  | .calReq .., _ => .next
  | .calItemDone .., w => execCalItemDone_answers w
  | .forcedCalWindow .., w => .withPort w
  | .telemetryInstant, _ => .next
  | .vinValid .., _ => .next
  | .vinDip .., _ => .next
  | .resetWrite .., _ => .next
  | .dieStartupTimeout .., w => .withDie w
  | .thermalRestart .., _ => .next
  | .selfTest .., _ => .next
  | .selfTestDone .., _ => .next
  | .portLoopL0 .., _ => .next
  | .portLoopL1 .., _ => .next
  | .portLoopL2 .., _ => .next
  | .portLoopL3 .., _ => .next
  | .netLoopMac .., _ => .next
  | .netLoopPcs .., _ => .next
  | .netLoopPma .., _ => .next
  | .netLoopRemote .., _ => .next
  | .remoteFrameReflect .., w => .withNet w
  | .loopTimeoutExpiry .., w => .withNet w
  | .twinLoopNear, _ => .next
  | .twinLoopFar, _ => .next
  | .ringLoop .., _ => .next
  | .loopbackDone _ n firstErr errors, w => execLoopbackDone_answers w (fun hkind => hloop n firstErr errors (hkind ▸ rfl))
  | .leadHeartbeatSend, _ => .next
  | .ptpFollowUpReceive .., w => .withNet w
  | .ptpDelayRequestReceive .., w => .withNet w
  | .announceReceiptTimeout .., w => .withNet w
  | .quarantineProbePassed .., w => .withPort w
  | .transmitOpportunity .., w => .withNet w
  | .netLoopStop .., _ => .next
  | .twtripInRelease, _ => .next
  | .monitorReturnToBand .., w => .withDie w
  | .soCurrentLimitHoldoffEnd .., w => .dieAnd w .withUnit

/-! ### Units the part does not have -/

section
variable (s : State)

theorem withUnit_missing {p : Prop} [Decidable p] {u : String} {t : State} (h : ¬ p) :
    withUnit (decide p) u t = .fault (.noSuchResource u) := by rw [decide_eq_false h]; rfl

/-- A write of an object of a missing unit does nothing but answer 0x0101. -/
theorem accessCode_missing {p : Prop} [Decidable p] {inRange off : Bool} {t : State} (h : ¬ p) :
    (.next (given (accessCode (decide p) inRange off == 0) (withStatus s (accessCode (decide p) inRange off)) t) : Result State) =
      .next (answered s 0x0101) := by rw [decide_eq_false h]; rfl

/-- The event commands stop. -/
theorem event_of_missing_unit :
    (∀ d, usedDies s ≤ d → exec (.frameBegin d) s = .fault (.noSuchResource "die")) ∧
      (∀ n, usedDies s * 12 ≤ n → exec (.uartIdleGap n) s = .fault (.noSuchResource "port")) ∧
      (∀ e, usedDies s * 24 ≤ e → exec (.contextDispatch e) s = .fault (.noSuchResource "engine")) ∧
      (∀ p, 16 ≤ p → exec (.testTimeExpiry p) s = .fault (.noSuchResource "parish")) ∧
      (∀ n, 3 ≤ n → exec (.linkUp n) s = .fault (.noSuchResource "network port")) :=
  ⟨fun _ h => withUnit_missing h.not_gt, fun _ h => withUnit_missing h.not_gt, fun _ h => withUnit_missing h.not_gt,
    fun _ h => withUnit_missing h.not_gt, fun _ h => withUnit_missing h.not_gt⟩

theorem portWrite_of_missing_port {n : Nat} {i : Instr} (h : usedDies s * 12 ≤ n)
    (hi : i ∈ [.calReq n, .quarCtlHold n, .quarCtlRelease n, .quarCtlProbe n, .portLoopL0 n, .portLoopL1 n, .portLoopL2 n,
      .portLoopL3 n]) : exec i s = .next (answered s 0x0101) := by
  have hmissing : ¬ n < usedDies s * 12 := h.not_gt
  simp only [List.mem_cons, List.not_mem_nil, or_false] at hi
  obtain rfl | rfl | rfl | rfl | rfl | rfl | rfl | rfl := hi <;> exact accessCode_missing s hmissing

theorem tallyWrite_of_missing_channel {k v : Nat} {i : Instr} (h : usedDies s * 32 ≤ k)
    (hi : i ∈ [.tallyStart k, .tallyStop k, .tallyReset k, .topWrite k v, .cmpWrite k v]) :
    exec i s = .next (answered s 0x0101) := by
  have hmissing : ¬ k < usedDies s * 32 := h.not_gt
  simp only [List.mem_cons, List.not_mem_nil, or_false] at hi
  obtain rfl | rfl | rfl | rfl | rfl := hi <;> exact accessCode_missing s hmissing

theorem parishWrite_of_missing_parish {p session : Nat} {value : List Byte} {i : Instr} (h : 16 ≤ p)
    (hi : i ∈ [.stateReqRun p, .stateReqHalt p, .keyWrite p session value, .logTrigger p]) :
    exec i s = .next (answered s 0x0101) := by
  have hmissing : ¬ p < 16 := h.not_gt
  simp only [List.mem_cons, List.not_mem_nil, or_false] at hi
  obtain rfl | rfl | rfl | rfl := hi <;> exact accessCode_missing s hmissing

theorem nextImageWrite_of_missing_die {d p session : Nat} {image : List Byte} (hd : usedDies s ≤ d) (hp : p < 16) :
    exec (.nextImageWrite d p session image) s = .next (answered s 0x0101) := by
  rw [exec_nextImageWrite, execNextImageWrite, decide_eq_false hd.not_gt, withParish, decide_eq_true hp]
  rfl

end

/-- Settles O60: the table `exec_answers`, and the answers for the units the part does not have. -/
theorem everyWellFormedCommandCompletes : Obligations.EveryWellFormedCommandCompletes := by
  refine ⟨fun s i hg hwf hscrub hloop => exec_answers hg i hwf hscrub hloop, fun s => ?_⟩
  obtain ⟨hdie, hport, hengine, hparish, hnet⟩ := event_of_missing_unit s
  exact ⟨hdie, hport, hengine, hparish, hnet, fun _ _ h => portWrite_of_missing_port s h,
    fun _ _ _ h => tallyWrite_of_missing_channel s h, fun _ _ _ _ h => parishWrite_of_missing_parish s h,
    fun _ _ _ _ hd hp => nextImageWrite_of_missing_die s hd hp⟩

end Sys2Proof.Machine
end

section
/-! PROOF. The bits of a mask, the safety outputs after a refresh, and what a fault and its reaction leave: the layer of O23, O47 and
O48. -/

namespace Sys2Proof.Machine

/-! ### Bits of a mask -/

theorem bitOf_eq_testBit (x i : Nat) : bitOf x i = x.testBit i := by
  rw [bitOf, Nat.testBit_eq_decide_div_mod_eq]
  rfl

/-- A number in which bit i is clear: what stands above the bit, and what stands below. -/
theorem split_of_bit_clear {x i : Nat} (h : bitOf x i = false) : ∃ q r, r < 2 ^ i ∧ x = 2 ^ (i + 1) * q + r := by
  have heven : x / 2 ^ i % 2 = 0 := by
    have hne : ¬ x / 2 ^ i % 2 = 1 := by simpa [bitOf] using h
    omega
  refine ⟨x / 2 ^ i / 2, x % 2 ^ i, Nat.mod_lt _ (Nat.two_pow_pos i), ?_⟩
  have hq : 2 * (x / 2 ^ i / 2) = x / 2 ^ i := by omega
  rw [Nat.pow_succ, Nat.mul_assoc, hq, Nat.div_add_mod]

theorem bitOf_add_two_pow {x i : Nat} (h : bitOf x i = false) (j : Nat) : bitOf (x + 2 ^ i) j = (decide (i = j) || bitOf x j) := by
  obtain ⟨q, r, hr, rfl⟩ := split_of_bit_clear h
  have hhigh : 2 ^ i + r < 2 ^ (i + 1) := by omega
  have hlow : r < 2 ^ (i + 1) := by omega
  rw [Nat.add_assoc, Nat.add_comm r, bitOf_eq_testBit, bitOf_eq_testBit, Nat.testBit_two_pow_mul_add _ hhigh,
    Nat.testBit_two_pow_mul_add _ hlow]
  rcases Nat.lt_trichotomy j i with hj | rfl | hj
  · simp [hj.ne', Nat.testBit_two_pow_add_gt hj]
  · simp [Nat.testBit_two_pow_add_eq, Nat.testBit_lt_two_pow hr]
  · simp [hj.ne, show ¬ j < i + 1 by omega]

@[simp] theorem bitOf_setBit (x i j : Nat) : bitOf (setBit x i) j = (decide (i = j) || bitOf x j) := by
  unfold setBit
  split
  · next hset =>
    by_cases hij : i = j
    · simp [← hij, hset]
    · simp [hij]
  · next hclear => exact bitOf_add_two_pow (by simpa using hclear) j

/-- Clearing a set bit undoes setting it. -/
theorem setBit_sub_two_pow {x i : Nat} (h : bitOf x i = true) : setBit (x - 2 ^ i) i = x ∧ bitOf (x - 2 ^ i) i = false := by
  have hodd : x / 2 ^ i % 2 = 1 := by simpa [bitOf] using h
  have hle : 2 ^ i ≤ x := Nat.le_of_not_lt fun hlt => by simp [Nat.div_eq_of_lt hlt] at hodd
  have hdiv : x / 2 ^ i = (x - 2 ^ i) / 2 ^ i + 1 := Nat.div_eq_sub_div (Nat.two_pow_pos i) hle
  have hclear : bitOf (x - 2 ^ i) i = false := by
    simp [bitOf]
    omega
  refine ⟨?_, hclear⟩
  simp [setBit, hclear, Nat.sub_add_cancel hle]

@[simp] theorem bitOf_clrBit (x i j : Nat) : bitOf (clrBit x i) j = (!decide (i = j) && bitOf x j) := by
  unfold clrBit
  split
  · next hset =>
    obtain ⟨hset', hclear⟩ := setBit_sub_two_pow hset
    have hj := bitOf_setBit (x - 2 ^ i) i j
    rw [hset'] at hj
    by_cases hij : i = j
    · simp [← hij, hclear]
    · simpa [hij] using hj.symm
  · next hclear =>
    by_cases hij : i = j
    · simp [← hij, hclear]
    · simp [hij]

@[simp] theorem bitOf_putBit (x i j : Nat) (b : Bool) : bitOf (putBit x i b) j = if i = j then b else bitOf x j := by
  cases b <;> by_cases hij : i = j <;> simp [putBit, hij]

/-! ### Folds -/

/-- One step of a fold brings a property about and every other keeps it. -/
theorem foldl_of_mem {α β : Type} {g : β → α → β} {P : β → Prop} {a : α} {l : List α} (b : β) (hset : ∀ x, P (g x a))
    (hkeep : ∀ x i, i ≠ a → P x → P (g x i)) (ha : a ∈ l) : P (l.foldl g b) := by
  induction l generalizing b with
  | nil => exact absurd ha List.not_mem_nil
  | cons i l ih =>
    by_cases hal : a ∈ l
    · exact ih _ hal
    · obtain rfl : a = i := (List.mem_cons.mp ha).resolve_right hal
      refine List.foldlRecOn l g (hset b) fun x hx i hi => hkeep x i ?_ hx
      rintro rfl
      exact hal hi

/-! ### What a die keeps -/

/-- A die but for its NV log, on which a record or a capture acts. -/
def Die.besideLog (x : Die) : Die := { x with regions := [] }

/-- A die but for what a fault record writes: when it was written last, how many were withheld, and the NV log. -/
def Die.besideRecords (x : Die) : Die := { x.besideLog with faultAt := [], faultSpoil := [] }

/-- A die but for what a refresh of the safety outputs sets. -/
def Die.besideOutputs (x : Die) : Die :=
  { x.besideLog with soOut := 0, soPin := 0, soReleased := 0, soAt := [], soFree := [], test := none }

/-- A die but for what a fault and its reaction set. -/
def Die.besideReaction (x : Die) : Die := { x.besideOutputs with faultAt := [], faultSpoil := [] }

theorem besideReaction_of_besideRecords {x y : Die} (h : y.besideRecords = x.besideRecords) : y.besideReaction = x.besideReaction :=
  congrArg (fun z : Die => { z with soOut := 0, soPin := 0, soReleased := 0, soAt := [], soFree := [], test := none }) h

theorem besideReaction_of_besideOutputs {x y : Die} (h : y.besideOutputs = x.besideOutputs) : y.besideReaction = x.besideReaction :=
  congrArg (fun z : Die => { z with faultAt := [], faultSpoil := [] }) h

theorem besideRecords_of_besideLog {x y : Die} (h : y.besideLog = x.besideLog) : y.besideRecords = x.besideRecords :=
  congrArg (fun z : Die => { z with faultAt := [], faultSpoil := [] }) h

theorem besideOutputs_of_besideLog {x y : Die} (h : y.besideLog = x.besideLog) : y.besideOutputs = x.besideOutputs :=
  congrArg (fun z : Die => { z with soOut := 0, soPin := 0, soReleased := 0, soAt := [], soFree := [], test := none }) h

theorem dieAt_of_die {s t : State} (h : t.die = s.die) (d : Nat) : t.dieAt d = s.dieAt d := by rw [State.dieAt, h, State.dieAt]

/-- What an update of one die leaves of it stays on every die. -/
theorem modDie_keeps {α : Type} (p : Die → α) (s : State) (k d : Nat) {g : Die → Die} (hg : ∀ x, p (g x) = p x) :
    p ((s.modDie k g).dieAt d) = p (s.dieAt d) := by
  by_cases hd : d = k
  · rw [hd, State.modDie_dieAt, hg]
  · rw [State.modDie_dieAt_other _ _ _ _ hd]

theorem usedDies_of_changes {l : List Piece} {s t : State} (h : Changes l s t)
    (hl : (l.contains .cmpt || l.contains .dies) = false) : usedDies t = usedDies s := by
  obtain ⟨hc, hd⟩ := Bool.or_eq_false_iff.mp hl
  have hcmpt : t.cmpt = s.cmpt := h .cmpt hc
  have hdies : t.dies = s.dies := h .dies hd
  simp only [usedDies, hcmpt, hdies]

/-! ### Captures -/

theorem captureTrigger_besideLog (s : State) (k p d : Nat) : ((captureTrigger s k p).dieAt d).besideLog = (s.dieAt d).besideLog := by
  unfold captureTrigger
  split
  · rfl
  · dsimp only
    refine List.foldlRecOn (motive := fun x : State => (x.dieAt d).besideLog = (s.dieAt d).besideLog) _ _ ?_ fun _ hx _ _ => hx
    exact modDie_keeps Die.besideLog s k d fun _ => rfl

/-! ### What requests and holds the outputs -/

/-- From s to t nothing changes that requests an output or holds the outputs off. -/
structure Refreshed (s t : State) : Prop where
  changes : Changes [.die, .stream, .reeve] s t
  reeve : t.reeve = { s.reeve with twtripOut := t.reeve.twtripOut }
  die : ∀ d, (t.dieAt d).besideOutputs = (s.dieAt d).besideOutputs

theorem Refreshed.refl (s : State) : Refreshed s s := ⟨.refl _ _, rfl, fun _ => rfl⟩

theorem Refreshed.trans {s t u : State} (h : Refreshed s t) (k : Refreshed t u) : Refreshed s u :=
  ⟨h.changes.trans k.changes, by rw [k.reeve, h.reeve], fun d => (k.die d).trans (h.die d)⟩

section
variable {s t : State} (h : Refreshed s t)
include h

theorem Refreshed.soUsed : soUsed t = soUsed s := by
  have hconf : t.conf = s.conf := h.changes .conf rfl
  simp only [Machine.soUsed, cfg, hconf]

theorem Refreshed.usedDies : usedDies t = usedDies s := usedDies_of_changes h.changes rfl

theorem Refreshed.outputsHeld : outputsHeld t = outputsHeld s := by
  have hparish : t.parish = s.parish := h.changes .parish rfl
  rw [Machine.outputsHeld, Machine.outputsHeld, h.reeve]
  simp only [parishState, decided, State.parAt, hparish]

theorem Refreshed.sinkSince (n : Nat) : sinkSince t n = sinkSince s n := by
  have hport : t.port = s.port := h.changes .port rfl
  have htime : t.time = s.time := h.changes .time rfl
  have hslots : (t.dieAt (portDie n)).slots = (s.dieAt (portDie n)).slots := (congrArg Die.slots (h.die (portDie n)) :)
  unfold Machine.sinkSince State.portAt State.ticks
  rw [hport, htime, hslots]

theorem Refreshed.tripPasses : tripPasses t = tripPasses s := by
  funext n j
  have hport : t.port = s.port := h.changes .port rfl
  have htime : t.time = s.time := h.changes .time rfl
  have hconf : t.conf = s.conf := h.changes .conf rfl
  unfold Machine.tripPasses gateFrom State.portAt State.ticks cfg
  rw [hport, htime, hconf, h.sinkSince]

theorem Refreshed.tripMapReq : tripMapReq t = tripMapReq s := by
  have hport : t.port = s.port := h.changes .port rfl
  have hconf : t.conf = s.conf := h.changes .conf rfl
  unfold Machine.tripMapReq tripSo tripMap cfg
  rw [hport, hconf, h.tripPasses]

theorem Refreshed.verdictMapReq : verdictMapReq t = verdictMapReq s := by
  have hrule : t.rule = s.rule := h.changes .rule rfl
  have hconf : t.conf = s.conf := h.changes .conf rfl
  simp only [Machine.verdictMapReq, cfg, hrule, hconf]

theorem Refreshed.twinTripActs : twinTripActs t = twinTripActs s := by
  have htwin : t.twin = s.twin := h.changes .twin rfl
  rw [Machine.twinTripActs, Machine.twinTripActs, h.reeve, htwin]

theorem Refreshed.soRequested (d o : Nat) : soRequested t d o = soRequested s d o := by
  have hconf : t.conf = s.conf := h.changes .conf rfl
  have hdirect : (t.dieAt d).directReq = (s.dieAt d).directReq := (congrArg Die.directReq (h.die d) :)
  have hmatrix : (t.dieAt d).matrixReq = (s.dieAt d).matrixReq := (congrArg Die.matrixReq (h.die d) :)
  simp only [Machine.soRequested, cfg, hconf, hdirect, hmatrix, h.tripMapReq, h.verdictMapReq, h.twinTripActs]

/-- Whether an output is energised follows from what the die keeps, its releases and its test pulse. -/
theorem Refreshed.soEnergise {d : Nat} (o : Nat) (req : Bool) (hreleased : (t.dieAt d).soReleased = (s.dieAt d).soReleased)
    (htest : ((t.dieAt d).test.map (fun p => p.output == o && !p.ended)).getD false =
      ((s.dieAt d).test.map (fun p => p.output == o && !p.ended)).getD false) :
    soEnergise t d o req = soEnergise s d o req := by
  have hcurOff : (t.dieAt d).curOff = (s.dieAt d).curOff := (congrArg Die.curOff (h.die d) :)
  have hcurHold : (t.dieAt d).curHold = (s.dieAt d).curHold := (congrArg Die.curHold (h.die d) :)
  have hlead : (t.dieAt d).leadLost = (s.dieAt d).leadLost := (congrArg Die.leadLost (h.die d) :)
  have hlost : (t.dieAt d).lost = (s.dieAt d).lost := (congrArg Die.lost (h.die d) :)
  have hlogic : (t.dieAt d).logicOn = (s.dieAt d).logicOn := (congrArg Die.logicOn (h.die d) :)
  simp only [Machine.soEnergise, h.soUsed, h.outputsHeld, hreleased, htest, hcurOff, hcurHold, hlead, hlost, hlogic]

end

/-! ### The refresh of the outputs -/

/-- Die d's outputs are what R363 lets be energised, and none that is requested off is released (R366). -/
structure Settled (t : State) (d : Nat) : Prop where
  out : (t.dieAt d).soOut = b2n (soEnergise t d 0 (soRequested t d 0)) + 2 * b2n (soEnergise t d 1 (soRequested t d 1))
  released : ∀ o, o < 2 → soRequested t d o = true → bitOf (t.dieAt d).soReleased o = false

/-- The bit of each output in a mask of both. -/
theorem bitOf_outputs (f : Nat → Bool) {o : Nat} (ho : o < 2) : bitOf (b2n (f 0) + 2 * b2n (f 1)) o = f o := by
  obtain rfl | rfl : o = 0 ∨ o = 1 := by omega
  · cases f 0 <;> cases f 1 <;> rfl
  · cases f 0 <;> cases f 1 <;> rfl

theorem Settled.bitOf_soOut {t : State} {d o : Nat} (h : Settled t d) (ho : o < 2) :
    bitOf (t.dieAt d).soOut o = soEnergise t d o (soRequested t d o) := by
  rw [h.out, bitOf_outputs (fun o => soEnergise t d o (soRequested t d o)) ho]

/-- A requested output is off and not released (R27, R366). -/
theorem Settled.off_of_requested {t : State} {d o : Nat} (h : Settled t d) (ho : o < 2) (hreq : soRequested t d o = true) :
    bitOf (t.dieAt d).soOut o = false ∧ bitOf (t.dieAt d).soReleased o = false :=
  ⟨by rw [h.bitOf_soOut ho, hreq]; simp [soEnergise], h.released o ho hreq⟩

/-- A die that has lost its lead has both outputs off (R18). -/
theorem Settled.soOut_of_leadLost {t : State} {d : Nat} (h : Settled t d) (hlead : (t.dieAt d).leadLost = true) :
    (t.dieAt d).soOut = 0 := by
  rw [h.out]
  simp [soEnergise, hlead, b2n]

/-- What changes no request and leaves die d but for its NV log leaves its outputs settled. -/
theorem Settled.of_refreshed {s t : State} {d : Nat} (h : Refreshed s t) (hd : (t.dieAt d).besideLog = (s.dieAt d).besideLog)
    (hs : Settled s d) : Settled t d := by
  have hreleased : (t.dieAt d).soReleased = (s.dieAt d).soReleased := (congrArg Die.soReleased hd :)
  have htest : (t.dieAt d).test = (s.dieAt d).test := (congrArg Die.test hd :)
  have hout : (t.dieAt d).soOut = (s.dieAt d).soOut := (congrArg Die.soOut hd :)
  refine ⟨?_, fun o ho hreq => ?_⟩
  · rw [hout, hs.out, h.soRequested, h.soRequested, h.soEnergise 0 _ hreleased (by rw [htest]),
      h.soEnergise 1 _ hreleased (by rw [htest])]
  · rw [hreleased]
    exact hs.released o ho (h.soRequested d o ▸ hreq)

theorem soRefreshDie_dieAt_other (s : State) {d k : Nat} (h : d ≠ k) : (soRefreshDie s k).dieAt d = s.dieAt d := by
  simp [soRefreshDie, h]

theorem soRefreshDie_besideOutputs (s : State) (k d : Nat) :
    ((soRefreshDie s k).dieAt d).besideOutputs = (s.dieAt d).besideOutputs := by
  by_cases hd : d = k
  · simp [hd, soRefreshDie, Die.besideOutputs, Die.besideLog]
  · rw [soRefreshDie_dieAt_other s hd]

theorem soRefreshDie_refreshed (s : State) (k : Nat) : Refreshed s (soRefreshDie s k) :=
  ⟨.after (.refl _ _) (soRefreshDie_changes s k) rfl, rfl, soRefreshDie_besideOutputs s k⟩

/-- The releases that a refresh leaves a die: a request, or anything that holds every output, takes a release away (R366). -/
def releasesLeft (s : State) (d : Nat) : Nat :=
  b2n (bitOf (s.dieAt d).soReleased 0 && !soRequested s d 0 && !outputsHeld s) +
    2 * b2n (bitOf (s.dieAt d).soReleased 1 && !soRequested s d 1 && !outputsHeld s)

/-- The machine with the releases that a refresh leaves a die, from which the refresh finds what to energise. -/
def withReleasesLeft (s : State) (d : Nat) : State := s.modDie d (fun x => { x with soReleased := releasesLeft s d })

theorem soRefreshDie_soReleased (s : State) (d : Nat) : ((soRefreshDie s d).dieAt d).soReleased = releasesLeft s d := by
  simp [soRefreshDie, releasesLeft]

theorem soRefreshDie_soOut (s : State) (d : Nat) : ((soRefreshDie s d).dieAt d).soOut =
    b2n (soEnergise (withReleasesLeft s d) d 0 (soRequested s d 0)) +
      2 * b2n (soEnergise (withReleasesLeft s d) d 1 (soRequested s d 1)) := by
  simp [soRefreshDie, withReleasesLeft, releasesLeft]

/-- A refresh leaves which output is under test, and until when. -/
theorem soRefreshDie_pulse (s : State) (d o : Nat) :
    ((soRefreshDie s d).dieAt d).test.map (fun p => p.output == o && !p.ended) =
      (s.dieAt d).test.map (fun p => p.output == o && !p.ended) := by
  simp [soRefreshDie, Function.comp_def]

theorem soRefreshDie_settled (s : State) (d : Nat) : Settled (soRefreshDie s d) d := by
  have h := soRefreshDie_refreshed s d
  refine ⟨?_, fun o ho hreq => ?_⟩
  · have hrel : Refreshed (withReleasesLeft s d) (soRefreshDie s d) := by
      refine ⟨.after (.refl _ _) (State.modDie_changes (withReleasesLeft s d) d _) rfl, rfl, fun k => ?_⟩
      have hleft : ((withReleasesLeft s d).dieAt k).besideOutputs = (s.dieAt k).besideOutputs :=
        modDie_keeps Die.besideOutputs s d k fun _ => rfl
      exact (h.die k).trans hleft.symm
    have hreleased : ((soRefreshDie s d).dieAt d).soReleased = ((withReleasesLeft s d).dieAt d).soReleased := by
      simp [soRefreshDie_soReleased, withReleasesLeft]
    have henergise (o : Nat) (req : Bool) : soEnergise (soRefreshDie s d) d o req = soEnergise (withReleasesLeft s d) d o req :=
      hrel.soEnergise o req hreleased (by rw [soRefreshDie_pulse]; simp [withReleasesLeft])
    rw [h.soRequested, h.soRequested, henergise, henergise, soRefreshDie_soOut]
  · rw [h.soRequested] at hreq
    rw [soRefreshDie_soReleased, releasesLeft,
      bitOf_outputs (fun o => bitOf (s.dieAt d).soReleased o && !soRequested s d o && !outputsHeld s) ho, hreq]
    simp

theorem captureTrigger_refreshed (s : State) (k p : Nat) : Refreshed s (captureTrigger s k p) :=
  have h := captureTrigger_changes s k p
  ⟨.after (.refl _ _) h rfl, by rw [h .reeve rfl], fun d => besideOutputs_of_besideLog (captureTrigger_besideLog s k p d)⟩

theorem changes_reeve (s : State) (q : Reeve) : Changes [.reeve] s { s with reeve := q } := by
  intro f hf
  cases f <;> simp_all [Piece.same]

/-- Captures on dies change no request, and leave each die but for its NV log. -/
theorem captures_refreshed (s : State) (c : Nat → Bool) (ds : List Nat) :
    Refreshed s (ds.foldl (fun x d => if c d then captureTrigger x d 1 else x) s) ∧
      ∀ d, ((ds.foldl (fun x d => if c d then captureTrigger x d 1 else x) s).dieAt d).besideLog = (s.dieAt d).besideLog := by
  refine List.foldlRecOn (motive := fun x => Refreshed s x ∧ ∀ d, (x.dieAt d).besideLog = (s.dieAt d).besideLog) ds _
    ⟨.refl s, fun _ => rfl⟩ fun x ⟨hx, hlog⟩ k _ => ?_
  split
  · exact ⟨hx.trans (captureTrigger_refreshed x k 1), fun d => (captureTrigger_besideLog x k 1 d).trans (hlog d)⟩
  · exact ⟨hx, hlog⟩

/-- A refresh changes no request, and every output of the part is settled after it. -/
theorem soRefresh_settles (s : State) : Refreshed s (soRefresh s) ∧ ∀ d, d < usedDies s → Settled (soRefresh s) d := by
  unfold soRefresh
  extract_lets s1 q s2
  have h1 : Refreshed s s1 := List.foldlRecOn _ _ (.refl s) fun x hx k _ => hx.trans (soRefreshDie_refreshed x k)
  have hset : ∀ d, d < usedDies s → Settled s1 d := fun d hd =>
    foldl_of_mem (P := fun x => Settled x d) s (fun x => soRefreshDie_settled x d)
      (fun x k hk hx => hx.of_refreshed (soRefreshDie_refreshed x k) (by rw [soRefreshDie_dieAt_other x hk.symm]))
      (List.mem_range.mpr hd)
  have h2 : Refreshed s1 s2 := ⟨.after (.refl _ _) (changes_reeve s1 _) rfl, rfl, fun _ => rfl⟩
  obtain ⟨h3, hlog⟩ := captures_refreshed s2
    (fun d => !(s2.dieAt d).lost && (List.range 2).any (droveSafe (s.dieAt d) (s2.dieAt d))) (List.range (usedDies s))
  exact ⟨(h1.trans h2).trans h3, fun d hd => (hset d hd).of_refreshed (h2.trans h3) (hlog d)⟩

theorem soRefresh_refreshed (s : State) : Refreshed s (soRefresh s) := (soRefresh_settles s).1

theorem soRefresh_settled {s : State} {d : Nat} (hd : d < usedDies s) : Settled (soRefresh s) d := (soRefresh_settles s).2 d hd

/-- After a refresh the outputs of the part follow R363. -/
theorem soRefresh_outputsFollow (s : State) : OutputsFollow (soRefresh s) := fun _ _ hd ho =>
  (soRefresh_settled ((soRefresh_refreshed s).usedDies ▸ hd)).bitOf_soOut ho

theorem soRefresh_directReq (s : State) (d : Nat) : ((soRefresh s).dieAt d).directReq = (s.dieAt d).directReq :=
  (congrArg Die.directReq ((soRefresh_refreshed s).die d) :)

theorem soRefresh_matrixReq (s : State) (d : Nat) : ((soRefresh s).dieAt d).matrixReq = (s.dieAt d).matrixReq :=
  (congrArg Die.matrixReq ((soRefresh_refreshed s).die d) :)

theorem soRefresh_leadLost (s : State) (d : Nat) : ((soRefresh s).dieAt d).leadLost = (s.dieAt d).leadLost :=
  (congrArg Die.leadLost ((soRefresh_refreshed s).die d) :)

theorem soRefresh_faultAt (s : State) (d : Nat) : ((soRefresh s).dieAt d).faultAt = (s.dieAt d).faultAt :=
  (congrArg Die.faultAt ((soRefresh_refreshed s).die d) :)

/-! ### Fault records -/

theorem logContinuous_besideLog (s : State) (k : Nat) (r : Rec) (d : Nat) :
    ((logContinuous s k r).dieAt d).besideLog = (s.dieAt d).besideLog := by
  unfold logContinuous
  split
  · split
    · rfl
    · dsimp only
      split
      · rfl
      · exact modDie_keeps Die.besideLog s (streamDie k) d fun _ => rfl
  · rfl

/-- A record that enters a ring leaves every die but for its NV log. -/
theorem ringEnter_besideLog (s : State) (k : Nat) (r : Rec) (d : Nat) :
    ((ringEnter s k r).dieAt d).besideLog = (s.dieAt d).besideLog := by
  unfold ringEnter
  extract_lets cap bump
  split
  · rfl
  · split
    · rfl
    · next ring n _ =>
      dsimp only
      rw [dieAt_of_die ((markReasons_changes _ _) .die rfl), logContinuous_besideLog]
      rfl

theorem faultRecord_besideRecords (s : State) (k cls detail par key : Nat) (mk : Nat → List Word) (d : Nat) :
    ((faultRecord s k cls detail par key mk).dieAt d).besideRecords = (s.dieAt d).besideRecords := by
  unfold faultRecord
  extract_lets x last fw r s1 s2 q s3
  split
  · exact modDie_keeps Die.besideRecords s k d fun _ => rfl
  · have h3 : (s3.dieAt d).besideRecords = (s.dieAt d).besideRecords :=
      (besideRecords_of_besideLog (ringEnter_besideLog s1 _ r d)).trans (modDie_keeps Die.besideRecords s k d fun _ => rfl)
    split
    · exact h3
    · rw [dieAt_of_die ((crierReason_changes _ _ _ _) .die rfl)]
      exact h3

/-- The reeve once it has recorded a fault. -/
def Reeve.recording (q : Reeve) (fw : Nat) (at_ : Stamp) : Reeve :=
  { q with faults := q.faults + 1, lastFault := fw, lastFaultStamp := at_ }

/-- A fault record whose last one of the same key is 100 ms old, or that has none, is written (R370). -/
theorem faultRecord_reeve {s : State} {k cls detail par key : Nat} (mk : Nat → List Word)
    (hdue : ∀ e ∈ (s.dieAt k).faultAt, e.1 = key → e.2 + 25000000 ≤ s.time.elapsed) :
    (faultRecord s k cls detail par key mk).reeve = s.reeve.recording (faultWord cls detail par) s.nowStamp := by
  unfold faultRecord
  extract_lets x last fw r s1 s2 q s3
  have h3 : s3.reeve = s.reeve.recording fw s.nowStamp := by
    have h2 : s2.reeve = s.reeve := (ringEnter_changes s1 _ r) .reeve rfl
    simp only [s3, q, h2, r]
    rfl
  split
  · next hwithheld =>
    obtain ⟨t, hlast, ht⟩ := (Option.any_eq_true _ _).mp hwithheld
    obtain ⟨e, he, rfl⟩ := Option.map_eq_some_iff.mp hlast
    have hold := hdue e (List.mem_of_find?_eq_some he) (by simpa using List.find?_some he)
    have hnew : s.time.elapsed < e.2 + 25000000 := of_decide_eq_true ht
    omega
  · split
    · exact h3
    · rw [(crierReason_changes _ _ _ _) .reeve rfl]
      exact h3

theorem faultRecord_rqReason (s : State) (k cls detail par key : Nat) (mk : Nat → List Word) :
    (faultRecord s k cls detail par key mk).reeve.rqReason = s.reeve.rqReason := by
  unfold faultRecord
  extract_lets x last fw r s1 s2 q s3
  have h2 : s2.reeve = s.reeve := (ringEnter_changes s1 _ r) .reeve rfl
  have h3 : s3.reeve.rqReason = s.reeve.rqReason := (congrArg Reeve.rqReason h2 :)
  split
  · rfl
  · split
    · exact h3
    · rw [(crierReason_changes _ _ _ _) .reeve rfl]
      exact h3

/-! ### Reactions to faults -/

/-- What the reeve has told of faults: their count, and the last one. -/
def Reeve.told (q : Reeve) : BitVec 32 × Nat := (q.faults, q.lastFault)

theorem judgeDangerous_told (s : State) (key : Nat × Nat × Nat × Nat) : (judgeDangerous s key).reeve.told = s.reeve.told := by
  unfold judgeDangerous
  extract_lets q fw consequence q1
  split
  · split
    · rfl
    · split <;> rfl
  · rfl

theorem causeSeen_told (s : State) (p : Nat) : (causeSeen s p).reeve.told = s.reeve.told := by
  unfold causeSeen
  split <;> rfl

theorem parishRecover_told (s : State) (p cause : Nat) : (parishRecover s p cause).reeve.told = s.reeve.told := by
  unfold parishRecover
  split
  · rfl
  · dsimp only
    split
    · rw [(decideState_changes _ _ _) .reeve rfl]
      exact causeSeen_told s p
    · split
      · exact causeSeen_told s p
      · rfl

theorem soRefresh_told (s : State) : (soRefresh s).reeve.told = s.reeve.told := by
  rw [(soRefresh_refreshed s).reeve]
  rfl

/-- The reaction to a dangerous fault: none with no safety output in use, else a refresh of the outputs of a machine with the dies
as they were (R369, R371). -/
theorem dangerReaction_cases (s : State) (key : Nat × Nat × Nat × Nat) : dangerReaction s key = s ∨
    ∃ u, dangerReaction s key = soRefresh u ∧ Changes [.parish, .reeve] s u ∧ u.reeve.told = s.reeve.told := by
  unfold dangerReaction
  split
  · exact .inl rfl
  · have hjudged := judgeDangerous_changes s key
    have htold := judgeDangerous_told s key
    refine .inr ?_
    dsimp only
    split
    · refine ⟨_, rfl, ?_, (parishRecover_told _ _ _).trans htold⟩
      exact .after (.after (.after (.refl _ _) hjudged rfl) (changes_reeve _ _) rfl) (parishRecover_changes _ _ _) rfl
    · exact ⟨_, rfl, .after (.refl _ _) hjudged rfl, htold⟩

theorem dangerReaction_told (s : State) (key : Nat × Nat × Nat × Nat) : (dangerReaction s key).reeve.told = s.reeve.told := by
  obtain h | ⟨u, h, -, htold⟩ := dangerReaction_cases s key
  · rw [h]
  · rw [h, soRefresh_told, htold]

theorem dangerReaction_besideOutputs (s : State) (key : Nat × Nat × Nat × Nat) (d : Nat) :
    ((dangerReaction s key).dieAt d).besideOutputs = (s.dieAt d).besideOutputs := by
  obtain h | ⟨u, h, hu, -⟩ := dangerReaction_cases s key
  · rw [h]
  · rw [h, (soRefresh_refreshed u).die, dieAt_of_die (hu .die rfl)]

/-- After the reaction the outputs of a die are settled, or as they were. -/
theorem dangerReaction_outputs {s : State} {d : Nat} (key : Nat × Nat × Nat × Nat) (hd : d < usedDies s) :
    Settled (dangerReaction s key) d ∨ (dangerReaction s key).dieAt d = s.dieAt d := by
  obtain h | ⟨u, h, hu, -⟩ := dangerReaction_cases s key
  · exact .inr (by rw [h])
  · rw [h]
    exact .inl (soRefresh_settled (usedDies_of_changes hu rfl ▸ hd))

/-! ### Faults -/

section
variable {x y : Die} (h : y.besideReaction = x.besideReaction)
include h

theorem directReq_of_besideReaction : y.directReq = x.directReq := (congrArg Die.directReq h :)

theorem leadLost_of_besideReaction : y.leadLost = x.leadLost := (congrArg Die.leadLost h :)

theorem stopAtFrame_of_besideReaction : y.stopAtFrame = x.stopAtFrame := (congrArg Die.stopAtFrame h :)

theorem aligned_of_besideReaction : y.aligned = x.aligned := (congrArg Die.aligned h :)

theorem lost_of_besideReaction : y.lost = x.lost := (congrArg Die.lost h :)

theorem unacked_of_besideReaction : y.unacked = x.unacked := (congrArg Die.unacked h :)

end

section
variable (s : State) (k cls detail item a b : Nat) (dangerous : Bool)

/-- A fault leaves a die but for its safety outputs, its fault records and its NV log. -/
theorem raiseFault_besideReaction (d : Nat) :
    ((raiseFault s k cls detail item a b dangerous).dieAt d).besideReaction = (s.dieAt d).besideReaction := by
  have hitem := besideReaction_of_besideRecords (faultRecord_besideRecords s k cls detail (faultParish s cls detail item)
    (faultKey cls detail item) (fun sp => [BitVec.ofNat 32 (k % 8 + item % 65536 * 256), BitVec.ofNat 32 a, BitVec.ofNat 32 b,
      BitVec.ofNat 32 sp]) d)
  unfold raiseFault
  dsimp only
  split
  · exact (besideReaction_of_besideOutputs (dangerReaction_besideOutputs _ _ d)).trans hitem
  · exact hitem

theorem raiseFault_directReq (d : Nat) :
    ((raiseFault s k cls detail item a b dangerous).dieAt d).directReq = (s.dieAt d).directReq :=
  directReq_of_besideReaction (raiseFault_besideReaction s k cls detail item a b dangerous d)

theorem raiseFault_told_eq : (raiseFault s k cls detail item a b dangerous).reeve.told =
    (faultItem s k cls detail item a b).reeve.told := by
  unfold raiseFault
  dsimp only
  split
  · exact dangerReaction_told _ _
  · rfl

/-- A fault leaves the outputs of a die settled, or as they were. -/
theorem raiseFault_outputs {d : Nat} (hd : d < usedDies s) : Settled (raiseFault s k cls detail item a b dangerous) d ∨
    ((raiseFault s k cls detail item a b dangerous).dieAt d).soOut = (s.dieAt d).soOut := by
  have hitem : ((faultItem s k cls detail item a b).dieAt d).soOut = (s.dieAt d).soOut :=
    (congrArg Die.soOut (faultRecord_besideRecords _ _ _ _ _ _ _ d) :)
  have hused := usedDies_of_changes (faultItem_changes s k cls detail item a b) rfl
  unfold raiseFault
  dsimp only
  split
  · exact (dangerReaction_outputs _ (hused ▸ hd)).imp_right fun h => by rw [h, hitem]
  · exact .inr hitem

end

/-- A fault raised on a machine that has told of the same faults as s, at the same time and with the same records of the die. -/
theorem raiseFault_faultTold {s u : State} {d : Nat} (cls detail item a b : Nat) (dangerous : Bool)
    (hat : (u.dieAt d).faultAt = (s.dieAt d).faultAt) (htime : u.time = s.time) (htold : u.reeve.told = s.reeve.told) :
    FaultTold s (raiseFault u d cls detail item a b dangerous) d cls detail item (faultParish u cls detail item) := by
  intro hdue
  have hitem : (faultItem u d cls detail item a b).reeve =
      u.reeve.recording (faultWord cls detail (faultParish u cls detail item)) u.nowStamp :=
    faultRecord_reeve _ (by rw [hat, htime]; exact hdue)
  have heq := raiseFault_told_eq u d cls detail item a b dangerous
  rw [hitem] at heq
  have hfaults : u.reeve.faults = s.reeve.faults := (congrArg Prod.fst htold :)
  exact ⟨hfaults ▸ (congrArg Prod.fst heq :), (congrArg Prod.snd heq :)⟩

/-! ### A die of the part -/

theorem withDie_of_lt {s : State} {d : Nat} (t : State) (hd : d < usedDies s) : withDie s d t = .next t := by
  rw [withDie, decide_eq_true hd, withUnit_true]

end Sys2Proof.Machine
end

section
/-! PROOF. O48: the routes by which trips reach the safety outputs. -/

namespace Sys2Proof.Machine

theorem soRequested_of_directReq {t : State} {d o : Nat} (h : bitOf (t.dieAt d).directReq o = true) : soRequested t d o = true := by
  simp [soRequested, h]

theorem soRequested_of_matrixReq {t : State} {d o : Nat} (h : bitOf (t.dieAt d).matrixReq o = true) : soRequested t d o = true := by
  simp [soRequested, h]

/-! ### Direct and sideband requests (R27) -/

/-- A mask of requests with those on the outputs of another mask made or withdrawn. -/
def putRequests (outputs : Nat) (on : Bool) (m : Nat) : Nat :=
  (List.range 2).foldl (fun a o => if bitOf outputs o then putBit a o on else a) m

theorem bitOf_putRequests (outputs : Nat) (on : Bool) (m : Nat) {o : Nat} (ho : o < 2) :
    bitOf (putRequests outputs on m) o = if bitOf outputs o = true then on else bitOf m o := by
  obtain rfl | rfl : o = 0 ∨ o = 1 := by omega
  · cases h0 : bitOf outputs 0 <;> cases h1 : bitOf outputs 1 <;> simp [putRequests, List.range_succ, h0, h1]
  · cases h0 : bitOf outputs 0 <;> cases h1 : bitOf outputs 1 <;> simp [putRequests, List.range_succ, h0, h1]

/-- The machine with a request made on, or withdrawn from, the outputs of a die, before the outputs follow. -/
def putDirect (s : State) (d outputs : Nat) (on : Bool) : State :=
  s.modDie d (fun x => { x with directReq := putRequests outputs on x.directReq })

theorem directRequest_eq (s : State) (d outputs : Nat) (on : Bool) :
    directRequest s d outputs on = soRefresh (putDirect s d outputs on) := rfl

theorem directRequest_directReq (s : State) (d outputs : Nat) (on : Bool) {o : Nat} (ho : o < 2) :
    bitOf ((directRequest s d outputs on).dieAt d).directReq o =
      if bitOf outputs o = true then on else bitOf (s.dieAt d).directReq o := by
  rw [directRequest_eq, soRefresh_directReq, putDirect, State.modDie_dieAt]
  exact bitOf_putRequests outputs on _ ho

theorem directRequest_directReq_other (s : State) {d j : Nat} (outputs : Nat) (on : Bool) (hj : j ≠ d) :
    ((directRequest s d outputs on).dieAt j).directReq = (s.dieAt j).directReq := by
  rw [directRequest_eq, soRefresh_directReq, putDirect, State.modDie_dieAt_other _ _ _ _ hj]

theorem directRequest_settled {s : State} {d : Nat} (outputs : Nat) (on : Bool) (hd : d < usedDies s) :
    Settled (directRequest s d outputs on) d := soRefresh_settled (s := putDirect s d outputs on) hd

/-- A request of the direct or sideband route acts at once. -/
theorem directRequest_off {s : State} {d o : Nat} (outputs : Nat) (hd : d < usedDies s) (ho : o < 2) (hout : bitOf outputs o = true) :
    bitOf ((directRequest s d outputs true).dieAt d).soOut o = false ∧
      bitOf ((directRequest s d outputs true).dieAt d).soReleased o = false :=
  (directRequest_settled outputs true hd).off_of_requested ho
    (soRequested_of_directReq (by rw [directRequest_directReq s d outputs true ho, if_pos hout]))

/-- The machine with a request of the matrix made on an output of a die, before the outputs follow. -/
def putMatrix (s : State) (d o : Nat) : State := s.modDie d (fun x => { x with matrixReq := setBit x.matrixReq o })

/-! ### The commands -/

theorem pairFault_faultTold (s : State) (d outputs : Nat) :
    FaultTold s (raiseFault (directRequest s d outputs true) d 0x0C 4 d 0 0 true) d 0x0C 4 d 0 := by
  refine raiseFault_faultTold 0x0C 4 d 0 0 true ?_ ((directRequest_changes s d outputs true) .time rfl) ?_
  · rw [directRequest_eq, soRefresh_faultAt, putDirect, State.modDie_dieAt]
  · rw [directRequest_eq, soRefresh_told]
    rfl

section
variable {s : State} {d : Nat} (hd : d < usedDies s)
include hd

theorem exec_safetyOutputTripRequest_eq (outputs : Nat) (on : Bool) :
    exec (.safetyOutputTripRequest d outputs on) s = .next (directRequest s d outputs on) := by
  rw [exec_safetyOutputTripRequest, execSafetyOutputTripRequest, withDie_of_lt _ hd]

/-- The machine after equal levels on a pair: the request of its outputs, and the fault (R23). -/
theorem exec_sidebandPairFault_eq (outputs : Nat) : exec (.sidebandPairFault d outputs) s =
    .next (raiseFault (directRequest s d outputs true) d 0x0C 4 d 0 0 true) := by
  rw [exec_sidebandPairFault, execSidebandPairFault, withDie_of_lt _ hd]

/-- The fault of a pair leaves the requests that it made, and the outputs off. -/
theorem pairFault_off (outputs : Nat) {o : Nat} (ho : o < 2) (hout : bitOf outputs o = true) :
    let t := raiseFault (directRequest s d outputs true) d 0x0C 4 d 0 0 true
    bitOf (t.dieAt d).directReq o = true ∧ bitOf (t.dieAt d).soOut o = false := by
  intro t
  have hreq : bitOf (t.dieAt d).directReq o = true := by
    rw [raiseFault_directReq, directRequest_directReq s d outputs true ho, if_pos hout]
  refine ⟨hreq, ?_⟩
  have hused : d < usedDies (directRequest s d outputs true) := by
    rwa [usedDies_of_changes (directRequest_changes s d outputs true) rfl]
  obtain hset | hsame := raiseFault_outputs (directRequest s d outputs true) d 0x0C 4 d 0 0 true hused
  · exact (hset.off_of_requested ho (soRequested_of_directReq hreq)).1
  · rw [hsame]
    exact (directRequest_off outputs hd ho hout).1

theorem exec_matrixTripConfirmed_eq {c : Nat} (hlevel : (s.colAt (d * 256 + c)).level = true)
    (hkind : (s.colAt (d * 256 + c)).dest / 4096 = 6) :
    exec (.matrixTripConfirmed d c) s = .next (soRefresh (putMatrix s d ((s.colAt (d * 256 + c)).dest % 2))) := by
  rw [exec_matrixTripConfirmed, execMatrixTripConfirmed, withDie_of_lt _ hd]
  simp [rk, hlevel, hkind, putMatrix]

/-- A confirmed request of the matrix acts at once. -/
theorem putMatrix_off {o : Nat} (ho : o < 2) :
    let t := soRefresh (putMatrix s d o)
    bitOf (t.dieAt d).matrixReq o = true ∧ bitOf (t.dieAt d).soOut o = false ∧ bitOf (t.dieAt d).soReleased o = false := by
  intro t
  have hreq : bitOf (t.dieAt d).matrixReq o = true := by
    rw [soRefresh_matrixReq, putMatrix, State.modDie_dieAt]
    simp
  exact ⟨hreq, (soRefresh_settled (s := putMatrix s d o) hd).off_of_requested ho (soRequested_of_matrixReq hreq)⟩

end

/-- Settles O48: each route refreshes the outputs, and a requested output is off whatever the reaction to a pair's fault does. -/
theorem tripRoutesReachTheOutputs : Obligations.TripRoutesReachTheOutputs := by
  intro s d hd
  refine ⟨fun outputs on => ⟨_, exec_safetyOutputTripRequest_eq hd outputs on, ?_, fun o ho => ?_, fun j hj => ?_, ?_⟩,
    fun outputs => ⟨_, exec_sidebandPairFault_eq hd outputs, pairFault_faultTold s d outputs,
      fun o ho => pairFault_off hd outputs ho, ?_⟩,
    fun c _ hlevel hkind => ?_⟩
  · exact soRefresh_outputsFollow (putDirect s d outputs on)
  · refine ⟨directRequest_directReq s d outputs on ho, ?_⟩
    rintro hout rfl
    exact directRequest_off outputs hd ho hout
  · exact directRequest_directReq_other s outputs on hj
  · exact directRequest_changes s d outputs on
  · exact execSidebandPairFault_changes d outputs s _ (exec_sidebandPairFault_eq hd outputs)
  · have hexec := exec_matrixTripConfirmed_eq hd hlevel hkind
    obtain ⟨hreq, hout, hreleased⟩ := putMatrix_off hd (Nat.mod_lt (s.colAt (d * 256 + c)).dest (Nat.two_pos))
    exact ⟨_, hexec, soRefresh_outputsFollow _, hreq, hout, hreleased, execMatrixTripConfirmed_changes d c s _ hexec⟩

end Sys2Proof.Machine
end

section
/-! PROOF. O47: the heartbeats, frames and links of the die ring. -/

namespace Sys2Proof.Machine

/-! ### Paths -/

section
variable {l : List Piece} {s t : State} (h : Changes l s t) (hl : (l.contains .dies || l.contains .test) = false)
include h hl

/-- What leaves the dies and the links of the ring leaves what each die reaches. -/
theorem reaches_of_changes (a b : Nat) : reaches t a b = reaches s a b := by
  obtain ⟨hd, ht⟩ := Bool.or_eq_false_iff.mp hl
  have hdies : t.dies = s.dies := h .dies hd
  have htest : t.test = s.test := h .test ht
  unfold reaches linksUp hopsUp linkUp
  rw [hdies, htest]

theorem cutOff_of_changes (d : Nat) : cutOff t d = cutOff s d := by
  obtain ⟨hd, ht⟩ := Bool.or_eq_false_iff.mp hl
  have hdies : t.dies = s.dies := h .dies hd
  have htest : t.test = s.test := h .test ht
  unfold cutOff reachesLead linkUp
  rw [reaches_of_changes h hl, hdies, htest]

end

/-! ### Frames on the links -/

/-- A frame waits at a die for a link to carry it. -/
def Waits (s : State) (d : Nat) (f : RingFrame) : Prop := ∃ l, f ∈ tget [] (s.dieAt d).unacked l

theorem mem_placeFrame {f g : RingFrame} {l : List RingFrame} : g ∈ placeFrame f l ↔ g = f ∨ g ∈ l := by
  induction l with
  | nil => simp [placeFrame]
  | cons i l ih =>
    unfold placeFrame
    split
    · simp
    · simp [ih, or_left_comm]

/-- From s to t die k has taken up frames for its links, and nothing else has changed. -/
structure TookUp (k : Nat) (s t : State) : Prop where
  changes : Changes [.die] s t
  other : ∀ j, j ≠ k → t.dieAt j = s.dieAt j
  die : t.dieAt k = { s.dieAt k with unacked := (t.dieAt k).unacked }
  waits : ∀ f, Waits s k f → Waits t k f

theorem TookUp.refl (k : Nat) (s : State) : TookUp k s s := ⟨.refl _ _, fun _ _ => rfl, rfl, fun _ hf => hf⟩

theorem TookUp.trans {k : Nat} {s t u : State} (h : TookUp k s t) (g : TookUp k t u) : TookUp k s u :=
  ⟨h.changes.trans g.changes, fun j hj => (g.other j hj).trans (h.other j hj), by rw [g.die, h.die],
    fun f hf => g.waits f (h.waits f hf)⟩

theorem TookUp.lost {k : Nat} {s t : State} (h : TookUp k s t) (d : Nat) : (t.dieAt d).lost = (s.dieAt d).lost := by
  by_cases hd : d = k
  · rw [hd, h.die]
  · rw [h.other d hd]

theorem keepFrame_tookUp (s : State) (d : Nat) (f : RingFrame) : TookUp d s (keepFrame s d f) := by
  refine ⟨keepFrame_changes s d f, fun j hj => ?_, ?_, ?_⟩
  · simp [keepFrame, hj]
  · simp [keepFrame]
  · rintro g ⟨l, hg⟩
    refine ⟨l, ?_⟩
    by_cases hl : l = linkOut s d f.dst
    · subst hl
      simp [keepFrame, mem_placeFrame, hg]
    · simp [keepFrame, hl, hg]

theorem keepFrame_waits (s : State) (d : Nat) (f : RingFrame) : Waits (keepFrame s d f) d f :=
  ⟨linkOut s d f.dst, by simp [keepFrame, mem_placeFrame]⟩

theorem ringSend_tookUp (s : State) (f : RingFrame) : TookUp f.src s (ringSend s f) := by
  unfold ringSend
  split
  · exact .refl _ _
  · exact keepFrame_tookUp s f.src f

/-- A frame sets out for another die that the ring reaches (R445). -/
theorem ringSend_of_reaches {s : State} {f : RingFrame} (hne : f.src ≠ f.dst) (hcmpt : s.cmpt = false)
    (hreach : reaches s f.src f.dst = true) : ringSend s f = keepFrame s f.src f := by
  simp [ringSend, hne, hcmpt, hreach]

/-! ### Heartbeats sent (R18, R19) -/

/-- The heartbeat of die 0 to another die that is not lost. -/
def sendHeartbeat (s : State) (d : Nat) : State := if (s.dieAt d).lost then s else ringSend s { src := 0, dst := d }

/-- The machine with the instant of die 0's heartbeats noted. -/
def heartbeatNoted (s : State) : State := s.modDie 0 (fun x => { x with hbSentAt := some s.time.elapsed })

/-- The machine after die 0 has sent its heartbeats. -/
def heartbeatsSent (s : State) : State := ((List.range (usedDies s)).drop 1).foldl sendHeartbeat (heartbeatNoted s)

theorem exec_leadHeartbeatSend_eq {s : State} (hdue : ∀ a, (s.dieAt 0).hbSentAt = some a → a + 25000 ≤ s.time.elapsed) :
    exec .leadHeartbeatSend s = .next (heartbeatsSent s) := by
  have hall : (s.dieAt 0).hbSentAt.all (fun t => decide (t + heartbeatTicks ≤ s.ticks)) = true := by
    rw [Option.all_eq_true]
    exact fun a ha => decide_eq_true (hdue a ha)
  rw [exec_leadHeartbeatSend, execLeadHeartbeatSend, hall, given_true]
  rfl

theorem sendHeartbeat_tookUp (s : State) (d : Nat) : TookUp 0 s (sendHeartbeat s d) := by
  unfold sendHeartbeat
  split
  · exact .refl _ _
  · exact ringSend_tookUp s { src := 0, dst := d }

theorem sendHeartbeat_waits {s : State} {d : Nat} (hd : d ≠ 0) (hlost : (s.dieAt d).lost = false) (hcmpt : s.cmpt = false)
    (hreach : reaches s 0 d = true) : Waits (sendHeartbeat s d) 0 { src := 0, dst := d } := by
  rw [sendHeartbeat, hlost, if_neg (by decide), ringSend_of_reaches hd.symm hcmpt hreach]
  exact keepFrame_waits s 0 _

/-- Heartbeats to a list of dies: each that is reached has its own waiting. -/
theorem sendHeartbeats (ds : List Nat) (s : State) : TookUp 0 s (ds.foldl sendHeartbeat s) ∧
    ∀ d ∈ ds, d ≠ 0 → (s.dieAt d).lost = false → s.cmpt = false → reaches s 0 d = true →
      Waits (ds.foldl sendHeartbeat s) 0 { src := 0, dst := d } := by
  induction ds generalizing s with
  | nil => exact ⟨.refl _ _, fun d hd => absurd hd List.not_mem_nil⟩
  | cons k ds ih =>
    have hk := sendHeartbeat_tookUp s k
    obtain ⟨htook, hwaits⟩ := ih (sendHeartbeat s k)
    refine ⟨hk.trans htook, fun d hd hne hlost hcmpt hreach => ?_⟩
    obtain rfl | hd := List.mem_cons.mp hd
    · exact htook.waits _ (sendHeartbeat_waits hne hlost hcmpt hreach)
    · exact hwaits d hd hne ((hk.lost d).trans hlost) ((hk.changes .cmpt rfl).trans hcmpt)
        ((reaches_of_changes hk.changes rfl 0 d).trans hreach)

/-- In SH-12 mode die 0 alone is in use (R445). -/
theorem cmpt_of_usedDies {s : State} (h : 1 < usedDies s) : s.cmpt = false := by
  by_contra hc
  simp only [usedDies, if_pos (Bool.eq_true_of_not_eq_false hc)] at h
  omega

theorem mem_otherDies {n d : Nat} (hpos : 0 < d) (hd : d < n) : d ∈ (List.range n).drop 1 := by
  rw [List.range_eq_range', List.drop_range', List.mem_range'_1]
  omega

theorem heartbeatsSent_tookUp (s : State) : TookUp 0 (heartbeatNoted s) (heartbeatsSent s) := (sendHeartbeats _ _).1

theorem heartbeatsSent_waits {s : State} {d : Nat} (hpos : 0 < d) (hd : d < usedDies s) (hlost : (s.dieAt d).lost = false)
    (hreach : reaches s 0 d = true) : Waits (heartbeatsSent s) 0 { src := 0, dst := d } := by
  have hcmpt : s.cmpt = false := cmpt_of_usedDies (by omega)
  refine (sendHeartbeats _ _).2 d (mem_otherDies hpos hd) hpos.ne' ?_ hcmpt hreach
  rwa [heartbeatNoted, State.modDie_dieAt_other _ _ _ _ hpos.ne']

/-- With two dies the heartbeat takes its place on link 0, among the frames that it carries to die 1. -/
theorem heartbeatsSent_two {s : State} (hused : usedDies s = 2) (hdies : s.dies = 2) (hlost : (s.dieAt 1).lost = false)
    (hlink : linksUp s 0 1 = true) : ((heartbeatsSent s).dieAt 0).unacked =
      tput (s.dieAt 0).unacked 0 (placeFrame { src := 0, dst := 1 } (tget [] (s.dieAt 0).unacked 0)) := by
  have hcmpt : (heartbeatNoted s).cmpt = false := cmpt_of_usedDies (s := s) (by omega)
  have hout : linkOut (heartbeatNoted s) 0 1 = 0 := by
    have hup : linksUp (heartbeatNoted s) 0 1 = true := hlink
    have hn : (heartbeatNoted s).dies = 2 := hdies
    simp [linkOut, hopsUp, hn, hup]
  have hreach : reaches (heartbeatNoted s) 0 1 = true := by
    have hup : linksUp (heartbeatNoted s) 0 1 = true := hlink
    have hn : (heartbeatNoted s).dies = 2 := hdies
    simp [reaches, hopsUp, hn, hup]
  have hone : ((heartbeatNoted s).dieAt 1).lost = false := by
    rwa [heartbeatNoted, State.modDie_dieAt_other _ _ _ _ (by decide)]
  have hsent : heartbeatsSent s = keepFrame (heartbeatNoted s) 0 { src := 0, dst := 1 } := by
    rw [heartbeatsSent, hused]
    show sendHeartbeat (heartbeatNoted s) 1 = _
    rw [sendHeartbeat, hone, if_neg (by decide), ringSend_of_reaches (f := { src := 0, dst := 1 }) (by decide) hcmpt hreach]
  rw [hsent, keepFrame, hout]
  simp [heartbeatNoted]

/-! ### Heartbeats received and missed (R18) -/

theorem exec_leadHeartbeat_eq {s : State} {d : Nat} (hpos : 0 < d) (hd : d < usedDies s) (hlost : (s.dieAt d).lost = false) :
    exec (.leadHeartbeat d) s = .next (s.modDie d (fun x => { x with hbAt := s.time.elapsed })) := by
  have hne : (d != 0) = true := bne_iff_ne.mpr hpos.ne'
  rw [exec_leadHeartbeat, execLeadHeartbeat, withDie_of_lt _ hd, hlost, hne]
  rfl

/-- Five heartbeats of 100 us are missed from 500 us on. -/
theorem hbMissed_ge_iff (s : State) (d : Nat) : 5 ≤ hbMissed s d ↔ (s.dieAt d).hbAt + 125000 ≤ s.time.elapsed := by
  unfold hbMissed heartbeatTicks State.ticks
  omega

theorem exec_leadLost_early {s : State} {d : Nat} (hd : d < usedDies s) (hearly : s.time.elapsed < (s.dieAt d).hbAt + 125000) :
    exec (.leadLost d) s = .next s := by
  have hmissed : decide (5 ≤ hbMissed s d) = false := decide_eq_false (by rw [hbMissed_ge_iff]; omega)
  rw [exec_leadLost, execLeadLost, withDie_of_lt _ hd, hmissed, Bool.and_false, given_false]

/-- The machine with a die that has lost its lead: its rota stops at the frame boundary (R18). -/
def withoutLead (s : State) (d : Nat) : State := s.modDie d (fun x => { x with leadLost := true, stopAtFrame := true })

/-- The machine after the fault of a die that has lost its lead. -/
def leadLostTold (s : State) (d : Nat) : State := raiseFault (soRefresh (withoutLead s d)) d 0x0C 3 d 0 0 true

section
variable {s : State} {d : Nat} (hd : d < usedDies s)

include hd in
theorem exec_leadLost_eq (hpos : 0 < d) (hlost : (s.dieAt d).lost = false) (hlogic : (s.dieAt d).logicOn = true)
    (hlead : (s.dieAt d).leadLost = false) (hmissed : (s.dieAt d).hbAt + 125000 ≤ s.time.elapsed) :
    exec (.leadLost d) s = .next (leadLostTold s d) := by
  have hne : (d != 0) = true := bne_iff_ne.mpr hpos.ne'
  have hfive : decide (5 ≤ hbMissed s d) = true := decide_eq_true ((hbMissed_ge_iff s d).mpr hmissed)
  rw [exec_leadLost, execLeadLost, withDie_of_lt _ hd, hlost, hlogic, hlead, hne, hfive]
  rfl

theorem leadLostTold_die (s : State) (d : Nat) :
    ((leadLostTold s d).dieAt d).leadLost = true ∧ ((leadLostTold s d).dieAt d).stopAtFrame = true := by
  have h := (raiseFault_besideReaction (soRefresh (withoutLead s d)) d 0x0C 3 d 0 0 true d).trans
    (besideReaction_of_besideOutputs ((soRefresh_refreshed (withoutLead s d)).die d))
  have hdie : (withoutLead s d).dieAt d = { s.dieAt d with leadLost := true, stopAtFrame := true } := State.modDie_dieAt _ _ _
  rw [hdie] at h
  exact ⟨leadLost_of_besideReaction h, stopAtFrame_of_besideReaction h⟩

include hd in
/-- Its outputs are off, whatever the reaction to the fault does. -/
theorem leadLostTold_soOut : ((leadLostTold s d).dieAt d).soOut = 0 := by
  have hused : d < usedDies (soRefresh (withoutLead s d)) := (soRefresh_refreshed (withoutLead s d)).usedDies ▸ hd
  obtain hset | hsame := raiseFault_outputs (soRefresh (withoutLead s d)) d 0x0C 3 d 0 0 true hused
  · exact hset.soOut_of_leadLost (leadLostTold_die s d).1
  · have hlead : ((soRefresh (withoutLead s d)).dieAt d).leadLost = true := by
      rw [soRefresh_leadLost, withoutLead, State.modDie_dieAt]
    rw [leadLostTold, hsame, (soRefresh_settled (s := withoutLead s d) hd).soOut_of_leadLost hlead]

theorem leadLostTold_faultTold (s : State) (d : Nat) : FaultTold s (leadLostTold s d) d 0x0C 3 d 0 := by
  refine raiseFault_faultTold 0x0C 3 d 0 0 true ?_ ((soRefresh_changes (withoutLead s d)) .time rfl) ?_
  · rw [soRefresh_faultAt, withoutLead, State.modDie_dieAt]
  · rw [soRefresh_told]
    rfl

end

/-! ### Link frames (R21) -/

/-- What a good frame at the end of a link that carries traffic does: it is taken as the next one, acknowledged as one accepted
before, or neither. -/
def frameArrives (s : State) (d link seq cls : Nat) : State :=
  let src := linkPeer s link d
  let last := tget 0 (s.dieAt d).rxSeq link
  if seq ≤ last then s.modDie src (fun x => { x with acks := tput x.acks link (max seq (tget 0 x.acks link)) })
  else match tget [] (s.dieAt src).unacked link with
    | [] => s
    | f :: rest => given (decide (seq = last + 1) && f.cls == cls) s (
        let s1 := s.modDie src (fun x => { x with acks := tput x.acks link seq, unacked := tput x.unacked link rest })
        takeFrame (s1.modDie d (fun x => { x with rxSeq := tput x.rxSeq link seq })) d f)

section
variable {s : State} {d link seq cls : Nat} (hd : d < usedDies s) (hlink : link < s.dies)
include hd hlink

theorem exec_ringFrameReceive_eq (ok : Bool) : exec (.ringFrameReceive d link seq cls ok) s =
    .next (given (ok && ((linkEnds s link).1 == d || (linkEnds s link).2 == d) && linkUp s link && !(s.dieAt d).lost) s
      (frameArrives s d link seq cls)) := by
  rw [exec_ringFrameReceive, execRingFrameReceive, if_neg (Nat.not_le.mpr hd), decide_eq_true hlink, withUnit_true]
  rfl

theorem exec_ringFrameReceive_bad {ok : Bool} (h : ok = false ∨ ((linkEnds s link).1 ≠ d ∧ (linkEnds s link).2 ≠ d)) :
    exec (.ringFrameReceive d link seq cls ok) s = .next s := by
  rw [exec_ringFrameReceive_eq hd hlink]
  obtain rfl | ⟨h1, h2⟩ := h
  · rfl
  · rw [beq_false_of_ne h1, beq_false_of_ne h2, Bool.or_self, Bool.and_false, Bool.false_and, Bool.false_and, given_false]

theorem exec_ringFrameReceive_good (hend : (linkEnds s link).1 = d ∨ (linkEnds s link).2 = d) (hup : linkUp s link = true)
    (hlost : (s.dieAt d).lost = false) :
    exec (.ringFrameReceive d link seq cls true) s = .next (frameArrives s d link seq cls) := by
  rw [exec_ringFrameReceive_eq hd hlink]
  obtain h | h := hend <;> simp [h, hup, hlost]

end

section
variable {s : State} {d link seq cls : Nat}

/-- One that was accepted before is acknowledged alone. -/
theorem frameArrives_again (h : seq ≤ tget 0 (s.dieAt d).rxSeq link) : frameArrives s d link seq cls =
    s.modDie (linkPeer s link d) (fun x => { x with acks := tput x.acks link (max seq (tget 0 x.acks link)) }) := if_pos h

/-- One that is not the next frame of its sender does nothing. -/
theorem frameArrives_stray (h : tget 0 (s.dieAt d).rxSeq link < seq)
    (hstray : ∀ f, (tget [] (s.dieAt (linkPeer s link d)).unacked link).head? = some f →
      seq ≠ tget 0 (s.dieAt d).rxSeq link + 1 ∨ f.cls ≠ cls) : frameArrives s d link seq cls = s := by
  unfold frameArrives
  dsimp only
  rw [if_neg (Nat.not_le.mpr h)]
  split
  · rfl
  · next f rest hfront =>
    have hno : (decide (seq = tget 0 (s.dieAt d).rxSeq link + 1) && f.cls == cls) = false :=
      Bool.and_eq_false_iff.mpr ((hstray f (by rw [hfront, List.head?_cons])).imp decide_eq_false beq_false_of_ne)
    rw [hno, given_false]

/-- The machine with the next frame of a link acknowledged to its sender and accepted by its receiver. -/
def frameAccepted (s : State) (d link seq : Nat) (rest : List RingFrame) : State :=
  (s.modDie (linkPeer s link d) (fun x => { x with acks := tput x.acks link seq, unacked := tput x.unacked link rest })).modDie d
    (fun x => { x with rxSeq := tput x.rxSeq link seq })

theorem frameArrives_next {f : RingFrame} {rest : List RingFrame} (hseq : seq = tget 0 (s.dieAt d).rxSeq link + 1)
    (hfront : tget [] (s.dieAt (linkPeer s link d)).unacked link = f :: rest) (hcls : f.cls = cls) :
    frameArrives s d link seq cls = takeFrame (frameAccepted s d link seq rest) d f := by
  have hyes : (decide (seq = tget 0 (s.dieAt d).rxSeq link + 1) && f.cls == cls) = true := by simp [hseq, hcls]
  unfold frameArrives
  dsimp only
  rw [if_neg (by omega), hfront]
  dsimp only
  rw [hyes, given_true]
  rfl

end

/-- What a die does with an accepted frame changes that die alone; its own frame is delivered, another waits for a link on (R20). -/
theorem takeFrame_dieAt (s : State) (d : Nat) (f : RingFrame) :
    (∀ j, j ≠ d → (takeFrame s d f).dieAt j = s.dieAt j) ∧ ((takeFrame s d f).dieAt d).rxSeq = (s.dieAt d).rxSeq ∧
      (f.dst = d → ((takeFrame s d f).dieAt d).delivered = (s.dieAt d).delivered + 1 ∧
        ((takeFrame s d f).dieAt d).unacked = (s.dieAt d).unacked) ∧
      (f.dst ≠ d → ((takeFrame s d f).dieAt d).delivered = (s.dieAt d).delivered ∧ Waits (takeFrame s d f) d f) := by
  unfold takeFrame
  split
  · next hdst =>
    refine ⟨fun j hj => State.modDie_dieAt_other _ _ _ _ hj, ?_, fun _ => ?_, fun hne => absurd hdst hne⟩
    · rw [State.modDie_dieAt]
    · rw [State.modDie_dieAt]
      exact ⟨rfl, rfl⟩
  · next hdst =>
    have h := keepFrame_tookUp s d f
    refine ⟨h.other, ?_, fun heq => absurd heq hdst, fun _ => ⟨?_, keepFrame_waits s d f⟩⟩
    · rw [h.die]
    · rw [h.die]

theorem frameAccepted_dieAt {s : State} {d link seq : Nat} (rest : List RingFrame) (hne : linkPeer s link d ≠ d) :
    (∀ j, j ≠ d → j ≠ linkPeer s link d → (frameAccepted s d link seq rest).dieAt j = s.dieAt j) ∧
      (frameAccepted s d link seq rest).dieAt (linkPeer s link d) = { s.dieAt (linkPeer s link d) with
        acks := tput (s.dieAt (linkPeer s link d)).acks link seq
        unacked := tput (s.dieAt (linkPeer s link d)).unacked link rest } ∧
      (frameAccepted s d link seq rest).dieAt d = { s.dieAt d with rxSeq := tput (s.dieAt d).rxSeq link seq } := by
  refine ⟨fun j hj hj' => ?_, ?_, ?_⟩
  · simp [frameAccepted, hj, hj']
  · simp [frameAccepted, hne]
  · simp [frameAccepted, hne.symm]

/-! ### Lost dies (R22) -/

/-- A die as a lost one: it stops, but for the logic of the lead die. -/
def Die.stopped (d : Nat) (x : Die) : Die :=
  { x with
    lost := true, up := false, leadLost := true, stopAtFrame := true, logicOn := d == 0 && x.logicOn, test := none, opens := [] }

theorem requestReason_besideReaction (s : State) (bit k d : Nat) :
    ((requestReason s bit k).dieAt d).besideReaction = (s.dieAt d).besideReaction := by
  unfold requestReason
  dsimp only
  split
  · rfl
  · exact besideReaction_of_besideRecords (faultRecord_besideRecords _ _ _ _ _ _ _ d)

theorem requestReason_rqReason (s : State) (bit k : Nat) :
    (requestReason s bit k).reeve.rqReason = setBit s.reeve.rqReason bit := by
  unfold requestReason
  dsimp only
  split
  · rfl
  · exact faultRecord_rqReason _ _ _ _ _ _ _

/-- Once a die is lost the replacement request holds reason 1. -/
theorem loseDie_reason {s : State} (d : Nat) (h : bitOf s.reeve.rqReason 1 = true) : bitOf (loseDie s d).reeve.rqReason 1 = true := by
  unfold loseDie
  dsimp only
  split
  · exact h
  · rw [requestReason_rqReason, bitOf_setBit]
    rfl

theorem loseDie_besideReaction {s : State} {d : Nat} (h : (s.dieAt d).lost = false) (j : Nat) :
    ((loseDie s d).dieAt j).besideReaction = ((s.modDie d (Die.stopped d)).dieAt j).besideReaction := by
  unfold loseDie
  rw [h, if_neg (by decide)]
  extract_lets s1 s2 s3
  have h3 : Changes [.port, .parish, .reeve] s1 s3 :=
    .foldl (fun x p => .ite (.after (.refl _ _) (parishRecover_changes x p 2) rfl) (.refl _ _))
      (.after (.refl _ _) (floatPorts_changes s1 d) rfl)
  rw [requestReason_besideReaction, raiseFault_besideReaction, besideReaction_of_besideOutputs ((soRefresh_refreshed s3).die j),
    dieAt_of_die (h3 .die rfl)]
  rfl

theorem loseDie_lost (s : State) (d j : Nat) : ((loseDie s d).dieAt j).lost = (decide (j = d) || (s.dieAt j).lost) := by
  cases h : (s.dieAt d).lost
  · rw [lost_of_besideReaction (loseDie_besideReaction h j)]
    by_cases hj : j = d
    · simp [hj, Die.stopped]
    · simp [hj]
  · rw [loseDie, if_pos h]
    by_cases hj : j = d
    · simp [hj, h]
    · simp [hj]

theorem loseDie_unacked (s : State) (d j : Nat) : ((loseDie s d).dieAt j).unacked = (s.dieAt j).unacked := by
  cases h : (s.dieAt d).lost
  · rw [unacked_of_besideReaction (loseDie_besideReaction h j)]
    by_cases hj : j = d
    · simp [hj, Die.stopped]
    · simp [hj]
  · rw [loseDie, if_pos h]

/-- A die is lost where it is cut off. -/
def loseIfCutOff (s : State) (d : Nat) : State := if cutOff s d then loseDie s d else s

theorem loseIfCutOff_changes (s : State) (d : Nat) :
    Changes [.die, .port, .stream, .parish, .reeve, .timers] s (loseIfCutOff s d) := .ite (loseDie_changes s d) (.refl _ _)

theorem loseIfCutOff_lost (s : State) (d j : Nat) :
    ((loseIfCutOff s d).dieAt j).lost = ((s.dieAt j).lost || (decide (j = d) && cutOff s j)) := by
  unfold loseIfCutOff
  by_cases hj : j = d
  · subst hj
    cases cutOff s j <;> simp [loseDie_lost]
  · cases cutOff s d <;> simp [loseDie_lost, hj]

/-- Of a list of dies those that are cut off are lost. -/
theorem loseCutOff_lost (ds : List Nat) (s : State) (j : Nat) :
    ((ds.foldl loseIfCutOff s).dieAt j).lost = ((s.dieAt j).lost || (decide (j ∈ ds) && cutOff s j)) := by
  induction ds generalizing s with
  | nil => simp
  | cons d ds ih =>
    rw [List.foldl_cons, ih, loseIfCutOff_lost, cutOff_of_changes (loseIfCutOff_changes s d) rfl]
    by_cases hj : j = d <;> cases cutOff s j <;> simp [hj]

/-! ### Lost links (R21) -/

theorem resend_unacked (s : State) (d link other j : Nat) : tget [] ((resend s d link other).dieAt j).unacked link =
    if j = d then [] else tget [] (s.dieAt j).unacked link := by
  by_cases hj : j = d
  · simp [resend, hj]
  · simp [resend, hj]

theorem resend_lost (s : State) (d link other j : Nat) : ((resend s d link other).dieAt j).lost = (s.dieAt j).lost :=
  modDie_keeps Die.lost s d j fun _ => rfl

/-- The machine with a link declared lost and its frames on their way round. -/
def linkDropped (s : State) (l : Nat) : State :=
  resend (resend { s with test := { s.test with linkDown := addOnce s.test.linkDown l } } l l ((l + s.dies - 1) % s.dies))
    ((l + 1) % s.dies) l ((l + 1) % s.dies)

/-- The machine with the loss of a link recorded and asked to be replaced. -/
def linkLossTold (s : State) (l : Nat) : State := requestReason (raiseFault (linkDropped s l) 0 0x0C 1 l 0 0 false) 1 l

/-- The machine after a lost link: outside its loopback the loss is told, and the dies that are cut off are lost, the lead die last. -/
def linkLost (s : State) (l : Nat) : State :=
  if tget 0 s.test.ringLoop l ≠ 0 then linkDropped s l
  else if usedDies s = 1 then linkLossTold s l
  else ((List.range (usedDies s)).drop 1 ++ [0]).foldl loseIfCutOff (linkLossTold s l)

theorem exec_ringLinkLost_eq {s : State} {l : Nat} (hl : l < s.dies) (hup : l ∉ s.test.linkDown) :
    exec (.ringLinkLost l) s = .next (linkLost s l) := by
  have hnew : (!s.test.linkDown.contains l) = true := by simpa using hup
  rw [exec_ringLinkLost, execRingLinkLost, decide_eq_true hl, withUnit_true, hnew, given_true]
  rfl

theorem linkDropped_changes (s : State) (l : Nat) : Changes [.die, .test] s (linkDropped s l) := by
  have htest : Changes [.test] s { s with test := { s.test with linkDown := addOnce s.test.linkDown l } } := by
    intro f hf
    cases f <;> simp_all [Piece.same]
  exact .after (.after (.after (.refl _ _) htest rfl) (resend_changes _ _ _ _) rfl) (resend_changes _ _ _ _) rfl

theorem mem_linkDropped (s : State) (l j : Nat) : j ∈ (linkDropped s l).test.linkDown ↔ j = l ∨ j ∈ s.test.linkDown := by
  show j ∈ addOnce s.test.linkDown l ↔ _
  unfold addOnce
  split
  · next hmem =>
    have hl : l ∈ s.test.linkDown := by simpa using hmem
    exact ⟨.inr, fun h => h.elim (fun hj => hj ▸ hl) id⟩
  · simp [or_comm]

theorem linkDropped_unacked (s : State) (l : Nat) : tget [] ((linkDropped s l).dieAt l).unacked l = [] ∧
    tget [] ((linkDropped s l).dieAt ((l + 1) % s.dies)).unacked l = [] := by
  refine ⟨?_, ?_⟩
  · rw [linkDropped, resend_unacked, resend_unacked, if_pos rfl, ite_self]
  · rw [linkDropped, resend_unacked, if_pos rfl]

theorem linkDropped_lost (s : State) (l d : Nat) : ((linkDropped s l).dieAt d).lost = (s.dieAt d).lost := by
  rw [linkDropped, resend_lost, resend_lost]
  rfl

theorem linkLossTold_changes (s : State) (l : Nat) :
    Changes [.die, .stream, .parish, .reeve, .timers] (linkDropped s l) (linkLossTold s l) :=
  (raiseFault_changes _ _ _ _ _ _ _ _).trans (requestReason_changes _ _ _)

theorem linkLossTold_besideReaction (s : State) (l d : Nat) :
    ((linkLossTold s l).dieAt d).besideReaction = ((linkDropped s l).dieAt d).besideReaction := by
  rw [linkLossTold, requestReason_besideReaction, raiseFault_besideReaction]

theorem linkLossTold_reason (s : State) (l : Nat) : bitOf (linkLossTold s l).reeve.rqReason 1 = true := by
  rw [linkLossTold, requestReason_rqReason, bitOf_setBit]
  rfl

theorem loseCutOff_changes (ds : List Nat) (s : State) :
    Changes [.die, .port, .stream, .parish, .reeve, .timers] s (ds.foldl loseIfCutOff s) :=
  .foldl (fun x d => loseIfCutOff_changes x d) (.refl _ _)

theorem loseCutOff_unacked (ds : List Nat) (s : State) (j : Nat) :
    ((ds.foldl loseIfCutOff s).dieAt j).unacked = (s.dieAt j).unacked := by
  refine List.foldlRecOn (motive := fun x : State => (x.dieAt j).unacked = (s.dieAt j).unacked) ds loseIfCutOff rfl fun x hx d _ => ?_
  unfold loseIfCutOff
  split
  · rw [loseDie_unacked, hx]
  · exact hx

theorem loseCutOff_reason (ds : List Nat) {s : State} (h : bitOf s.reeve.rqReason 1 = true) :
    bitOf (ds.foldl loseIfCutOff s).reeve.rqReason 1 = true := by
  refine List.foldlRecOn (motive := fun x : State => bitOf x.reeve.rqReason 1 = true) ds loseIfCutOff h fun x hx d _ => ?_
  unfold loseIfCutOff
  split
  · exact loseDie_reason d hx
  · exact hx

/-- What follows a dropped link leaves the links and their frames. -/
theorem linkLost_keeps (s : State) (l : Nat) : (linkLost s l).test = (linkDropped s l).test ∧
    ∀ j, ((linkLost s l).dieAt j).unacked = ((linkDropped s l).dieAt j).unacked := by
  have htold := linkLossTold_changes s l
  have hunacked (j : Nat) : ((linkLossTold s l).dieAt j).unacked = ((linkDropped s l).dieAt j).unacked :=
    unacked_of_besideReaction (linkLossTold_besideReaction s l j)
  unfold linkLost
  split
  · exact ⟨rfl, fun _ => rfl⟩
  · split
    · exact ⟨htold .test rfl, hunacked⟩
    · exact ⟨((loseCutOff_changes _ _) .test rfl).trans (htold .test rfl), fun j => (loseCutOff_unacked _ _ j).trans (hunacked j)⟩

section
variable {s : State} {l : Nat} (hloop : tget 0 s.test.ringLoop l = 0)
include hloop

/-- Outside its loopback the loss of a link is a reason of the replacement request. -/
theorem linkLost_reason : bitOf (linkLost s l).reeve.rqReason 1 = true := by
  rw [linkLost, if_neg (not_not.mpr hloop)]
  split
  · exact linkLossTold_reason s l
  · exact loseCutOff_reason _ (linkLossTold_reason s l)

/-- Every die in use that is cut off is lost, the lead die too. -/
theorem linkLost_lost {d : Nat} (hd : d < usedDies s) (hused : 1 < usedDies s) :
    ((linkLost s l).dieAt d).lost = ((s.dieAt d).lost || cutOff (linkLost s l) d) := by
  have hmem : d ∈ (List.range (usedDies s)).drop 1 ++ [0] := by
    obtain rfl | hpos := Nat.eq_zero_or_pos d
    · simp
    · exact List.mem_append_left _ (mem_otherDies hpos hd)
  rw [linkLost, if_neg (not_not.mpr hloop), if_neg hused.ne', loseCutOff_lost, cutOff_of_changes (loseCutOff_changes _ _) rfl,
    decide_eq_true hmem, Bool.true_and, lost_of_besideReaction (linkLossTold_besideReaction s l d), linkDropped_lost]

end

/-! ### The statement -/

/-- Heartbeats sent (R18, R19). -/
theorem leadHeartbeatSend_effect {s : State} (hdue : ∀ a, (s.dieAt 0).hbSentAt = some a → a + 25000 ≤ s.time.elapsed) :
    ∃ t, exec .leadHeartbeatSend s = .next t ∧ Changes [.die] s t ∧ (t.dieAt 0).hbSentAt = some s.time.elapsed ∧
      (∀ d, d ≠ 0 → t.dieAt d = s.dieAt d) ∧
      (∀ d, 0 < d → d < usedDies s → (s.dieAt d).lost = false → reaches s 0 d = true → Waits t 0 { src := 0, dst := d }) ∧
      (usedDies s = 2 → s.dies = 2 → (s.dieAt 1).lost = false → linksUp s 0 1 = true →
        tget [] (t.dieAt 0).unacked 0 = placeFrame { src := 0, dst := 1 } (tget [] (s.dieAt 0).unacked 0) ∧
        ∀ j, j ≠ 0 → tget [] (t.dieAt 0).unacked j = tget [] (s.dieAt 0).unacked j) := by
  have hexec := exec_leadHeartbeatSend_eq hdue
  have htook := heartbeatsSent_tookUp s
  refine ⟨_, hexec, execLeadHeartbeatSend_changes s _ hexec, ?_, fun d hd => ?_, fun d hpos hd => heartbeatsSent_waits hpos hd,
    fun hused hdies hlost hlink => ?_⟩
  · rw [htook.die, heartbeatNoted, State.modDie_dieAt]
  · rw [htook.other d hd, heartbeatNoted, State.modDie_dieAt_other _ _ _ _ hd]
  · rw [heartbeatsSent_two hused hdies hlost hlink]
    exact ⟨tget_tput_same _ _ _ _, fun j hj => tget_tput_other _ _ _ _ _ hj⟩

/-- The next frame of a link leaves its sender, and is delivered or sent on (R20, R21). -/
theorem ringFrameReceive_next {s : State} {d link : Nat} {f : RingFrame} {rest : List RingFrame} (hd : d < usedDies s)
    (hlink : link < s.dies) (hend : (linkEnds s link).1 = d ∨ (linkEnds s link).2 = d) (hne : linkPeer s link d ≠ d)
    (hup : linkUp s link = true) (hlost : (s.dieAt d).lost = false)
    (hfront : tget [] (s.dieAt (linkPeer s link d)).unacked link = f :: rest) :
    ∃ t, exec (.ringFrameReceive d link (tget 0 (s.dieAt d).rxSeq link + 1) f.cls true) s = .next t ∧ Changes [.die] s t ∧
      (∀ j, j ≠ d → j ≠ linkPeer s link d → t.dieAt j = s.dieAt j) ∧
      tget 0 (t.dieAt (linkPeer s link d)).acks link = tget 0 (s.dieAt d).rxSeq link + 1 ∧
      tget [] (t.dieAt (linkPeer s link d)).unacked link = rest ∧
      tget 0 (t.dieAt d).rxSeq link = tget 0 (s.dieAt d).rxSeq link + 1 ∧
      (f.dst = d → (t.dieAt d).delivered = (s.dieAt d).delivered + 1 ∧ (t.dieAt d).unacked = (s.dieAt d).unacked) ∧
      (f.dst ≠ d → (t.dieAt d).delivered = (s.dieAt d).delivered ∧ Waits t d f) := by
  have hexec := exec_ringFrameReceive_good (seq := tget 0 (s.dieAt d).rxSeq link + 1) (cls := f.cls) hd hlink hend hup hlost
  rw [frameArrives_next rfl hfront rfl] at hexec
  obtain ⟨hother, hsender, hreceiver⟩ := frameAccepted_dieAt (seq := tget 0 (s.dieAt d).rxSeq link + 1) rest hne
  obtain ⟨htake, hseq, hmine, hon⟩ := takeFrame_dieAt (frameAccepted s d link (tget 0 (s.dieAt d).rxSeq link + 1) rest) d f
  rw [hreceiver] at hseq hmine hon
  refine ⟨_, hexec, execRingFrameReceive_changes _ _ _ _ _ _ _ hexec, fun j hj hj' => (htake j hj).trans (hother j hj hj'),
    ?_, ?_, ?_, hmine, hon⟩
  · rw [htake _ hne, hsender, tget_tput_same]
  · rw [htake _ hne, hsender, tget_tput_same]
  · rw [hseq, tget_tput_same]

/-- A lost link (R21, R22, R454). -/
theorem ringLinkLost_effect {s : State} {l : Nat} (hl : l < s.dies) (hup : l ∉ s.test.linkDown) :
    ∃ t, exec (.ringLinkLost l) s = .next t ∧ l ∈ t.test.linkDown ∧
      (∀ j, j ∈ t.test.linkDown → j = l ∨ j ∈ s.test.linkDown) ∧
      tget [] (t.dieAt l).unacked l = [] ∧ tget [] (t.dieAt ((l + 1) % s.dies)).unacked l = [] ∧
      (tget 0 s.test.ringLoop l ≠ 0 → Changes [.die, .test] s t) ∧
      (tget 0 s.test.ringLoop l = 0 → bitOf t.reeve.rqReason 1 = true ∧
        (∀ d, d < usedDies s → 1 < usedDies s → (t.dieAt d).lost = ((s.dieAt d).lost || cutOff t d))) ∧
      Changes [.die, .port, .stream, .parish, .reeve, .timers, .test] s t := by
  have hexec := exec_ringLinkLost_eq hl hup
  obtain ⟨htest, hunacked⟩ := linkLost_keeps s l
  obtain ⟨hhere, hnext⟩ := linkDropped_unacked s l
  refine ⟨_, hexec, ?_, fun j hj => ?_, ?_, ?_, fun hloop => ?_, fun hloop => ?_, execRingLinkLost_changes l s _ hexec⟩
  · rw [htest]
    exact (mem_linkDropped s l l).mpr (.inl rfl)
  · rw [htest] at hj
    exact (mem_linkDropped s l j).mp hj
  · rw [hunacked, hhere]
  · rw [hunacked, hnext]
  · rw [linkLost, if_pos hloop]
    exact linkDropped_changes s l
  · exact ⟨linkLost_reason hloop, fun d hd hused => linkLost_lost hloop hd hused⟩

/-- Settles O47: heartbeats, frames and links each by the effect of their commands. -/
theorem heartbeatsAndLinkFrames : Obligations.HeartbeatsAndLinkFrames := by
  refine ⟨fun s => ⟨leadHeartbeatSend_effect, fun d hpos hd hlost => ⟨exec_leadHeartbeat_eq hpos hd hlost,
    exec_leadLost_early hd, fun hlogic hlead hmissed => ?_⟩, fun d link seq cls ok hd hlink => ?_⟩,
    fun s l hl hup => ringLinkLost_effect hl hup⟩
  · have hexec := exec_leadLost_eq hd hpos hlost hlogic hlead hmissed
    obtain ⟨hleadLost, hstop⟩ := leadLostTold_die s d
    exact ⟨_, hexec, hleadLost, hstop, leadLostTold_soOut hd, leadLostTold_faultTold s d, execLeadLost_changes d s _ hexec⟩
  · refine ⟨exec_ringFrameReceive_bad hd hlink, ?_⟩
    rintro rfl hend hne hup hlost
    have hexec := exec_ringFrameReceive_good (seq := seq) (cls := cls) hd hlink hend hup hlost
    refine ⟨fun hle => ?_, ?_, fun hlt hstray => ?_⟩
    · rw [hexec, frameArrives_again hle]
      rfl
    · rintro f rest rfl hfront rfl
      exact ringFrameReceive_next hd hlink hend hne hup hlost hfront
    · rw [hexec, frameArrives_stray hlt hstray]

end Sys2Proof.Machine
end

section
/-! PROOF. O23: the alignment frame, and the end of a slew. -/

namespace Sys2Proof.Machine

/-! ### Network time -/

/-- The time base moved by an offset stands at the sum, modulo the wrap of SECONDS (R35, R43). -/
theorem fineOf_moved (t : TimeBase) (off : Int) : (fineOf (t.moved off) : Int) = (fineOf t + off) % timeSpan := by
  have hspan : ((2 ^ 48 * 1000000000 * 2 ^ 32 : Nat) : Int) = timeSpan := rfl
  unfold TimeBase.moved
  extract_lets f n
  have hlt : f < (2 ^ 48 * 1000000000 * 2 ^ 32 : Nat) := Int.emod_lt_of_pos _ (by decide)
  have hnn : 0 ≤ f := Int.emod_nonneg _ (by decide)
  have hfine : fineOf { t with seconds := BitVec.ofNat 48 (n / 1000000000), nanos := n % 1000000000, frac := f.toNat % 2 ^ 32 } =
      f.toNat := by
    simp only [fineOf, BitVec.toNat_ofNat, n]
    omega
  rw [hfine, Int.toNat_of_nonneg hnn, ← hspan]
  rfl

/-- An increment that carries at most one second moves network time by as much, modulo the wrap of SECONDS (R36). -/
theorem fineOf_advance {t : TimeBase} {inc : Int} (hnanos : t.nanos < 1000000000) (hfrac : t.frac < 2 ^ 32) (hpos : 0 ≤ inc)
    (hsmall : inc < 1000000000 * 2 ^ 32) : (fineOf (t.advance inc) : Int) = (fineOf t + inc) % timeSpan := by
  have hseconds := t.seconds.isLt
  unfold TimeBase.advance
  extract_lets f
  have hf : (f : Int) = ((t.nanos * 2 ^ 32 + t.frac : Nat) : Int) + inc := Int.toNat_of_nonneg (by omega)
  split
  · have hone : (1 : BitVec 48).toNat = 1 := rfl
    simp only [fineOf, timeSpan, BitVec.toNat_add, hone]
    omega
  · simp only [fineOf, timeSpan]
    omega

theorem satInt_eq (x : Int) : satInt 64 x = max (-(2 ^ 63)) (min (2 ^ 63 - 1) x) := by
  unfold satInt clampInt
  split
  · omega
  · split <;> omega

/-! ### What waits for the alignment frame (R41 to R44) -/

/-- The time base after a step (R43). -/
def TimeBase.stepped (t : TimeBase) (off : Int) : TimeBase :=
  { t.moved off with
    slew := none, epoch := t.epoch + 1, lastStep := satInt 64 (off / 65536), epochFrom := (t.moved off).quarters
    closes := tput t.closes t.epoch.toNat t.quarters }

theorem applyStep_time (s : State) (off : Int) : (applyStep s off).time = s.time.stepped off := (anchorAll_changes _ 4) .time rfl

/-- The time base once the offset that waits has taken effect: a step, TIME_SET before OFFSET_ADJ, or a slew (R41, R42). -/
def TimeBase.offsetTaken (t : TimeBase) : TimeBase :=
  match t.setPend, t.offPend with
  | some off, _ => t.stepped off
  | none, some (off, true) => t.stepped (off * 65536)
  | none, some (off, false) => { t with slew := if off = 0 then none else some { residual := off * 65536 } }
  | none, none => t

/-- The time base with RATE and SLEW_LIMIT of another one in force, and nothing waiting (R41). -/
def TimeBase.withPending (u t : TimeBase) : TimeBase :=
  { u with
    rateForce := if t.ratePend then t.rate else t.rateForce, ratePend := false
    slewLimit := t.slewLimitPend.getD t.slewLimit, slewLimitPend := none
    offPend := none, setPend := none }

theorem offsetTaken_rate (t : TimeBase) : t.offsetTaken.rate = t.rate ∧ t.offsetTaken.elapsed = t.elapsed := by
  unfold TimeBase.offsetTaken
  split <;> exact ⟨rfl, rfl⟩

theorem offsetTaken_of_step {t : TimeBase} {off : Int}
    (h : t.setPend = some off ∨ (t.setPend = none ∧ ∃ o, t.offPend = some (o, true) ∧ off = o * 65536)) :
    t.offsetTaken = t.stepped off := by
  obtain hset | ⟨hset, o, hoff, rfl⟩ := h
  · simp [TimeBase.offsetTaken, hset]
  · simp [TimeBase.offsetTaken, hset, hoff]

theorem offsetTaken_of_slew {t : TimeBase} {o : Int} (hset : t.setPend = none) (hoff : t.offPend = some (o, false)) :
    t.offsetTaken = { t with slew := if o = 0 then none else some { residual := o * 65536 } } := by
  simp only [TimeBase.offsetTaken, hset, hoff]

theorem offsetTaken_of_none {t : TimeBase} (hset : t.setPend = none) (hoff : t.offPend = none) : t.offsetTaken = t := by
  simp only [TimeBase.offsetTaken, hset, hoff]

theorem applyTimePending_time (s : State) : (applyTimePending s).time = s.time.offsetTaken.withPending s.time := by
  unfold applyTimePending
  dsimp only
  split
  · next off hset =>
    rw [offsetTaken_of_step (.inl hset), applyStep_time]
    rfl
  · next o hset hoff =>
    rw [offsetTaken_of_step (.inr ⟨hset, o, hoff, rfl⟩), applyStep_time]
    rfl
  · next o hset hoff =>
    rw [offsetTaken_of_slew hset hoff]
    rfl
  · next hset hoff =>
    rw [offsetTaken_of_none hset hoff]
    rfl

/-! ### The alignment frame (R24) -/

theorem alignDie_dieAt_aligned (held : Nat) (s : State) (k d : Nat) :
    ((alignDie held s k).dieAt d).aligned = if d = k then bitOf held d else (s.dieAt d).aligned := by
  have hmod : ((s.modDie k (fun x => { x with aligned := bitOf held k })).dieAt d).aligned =
      if d = k then bitOf held d else (s.dieAt d).aligned := by
    split
    · next hd => rw [hd, State.modDie_dieAt]
    · next hd => rw [State.modDie_dieAt_other _ _ _ _ hd]
  unfold alignDie
  dsimp only
  split
  · exact (aligned_of_besideReaction (raiseFault_besideReaction _ _ _ _ _ _ _ _ d)).trans hmod
  · exact hmod

/-- The machine after an alignment frame: what waited is in force, the frame has set out to the other dies, and each die
has taken it. -/
def alignedState (held : Nat) (s : State) : State :=
  (List.range (usedDies s)).foldl (alignDie held) (((List.range (usedDies s)).drop 1).foldl (fun (x : State) d =>
    if (x.dieAt d).logicOn && !(x.dieAt d).lost then ringSend x { cls := 1, src := 0, dst := d } else x) (applyTimePending s))

theorem exec_timeAlignFrame_eq {s : State} (held : Nat) (hrun : timeRuns s = true) :
    exec (.timeAlignFrame held) s = .next (alignedState held s) := by
  rw [exec_timeAlignFrame, execTimeAlignFrame, hrun, given_true]
  rfl

theorem alignedState_aligned (held : Nat) (s : State) {d : Nat} (hd : d < usedDies s) :
    ((alignedState held s).dieAt d).aligned = bitOf held d := by
  refine foldl_of_mem (P := fun x : State => (x.dieAt d).aligned = bitOf held d) _ (fun x => ?_) (fun x k hk hx => ?_)
    (List.mem_range.mpr hd)
  · rw [alignDie_dieAt_aligned, if_pos rfl]
  · rw [alignDie_dieAt_aligned, if_neg hk.symm, hx]

theorem alignedState_time (held : Nat) (s : State) : (alignedState held s).time = s.time.offsetTaken.withPending s.time := by
  have hchanges : Changes [.die, .stream, .parish, .reeve, .timers] (applyTimePending s) (alignedState held s) :=
    .foldl (fun x d => .after (.refl _ _) (alignDie_changes held x d) rfl)
      (.foldl (fun x d => .ite (.after (.refl _ _) (ringSend_changes x _) rfl) (.refl _ _)) (.refl _ _))
  rw [hchanges .time rfl, applyTimePending_time]

/-! ### The end of a slew (R42) -/

theorem wrapAnchors_time (before : TimeBase) (s : State) : (wrapAnchors before s).time = s.time := by
  unfold wrapAnchors
  split
  · rfl
  · dsimp only
    split
    · rfl
    · split <;> rfl

/-- The machine after the tick that ends a slew. -/
def slewEnded (s : State) : State := everyTick (wrapAnchors s.time { s with time := { s.time.tick with slew := none } })

section
variable {s : State} {sl : Slew} (hslew : s.time.slew = some sl)
  (hsmall : sl.residual.natAbs < s.time.slewLimit * (4 * 2 ^ 32) / 1000000)
include hslew hsmall

/-- The residual is smaller than one tick's slew term. -/
theorem residual_lt_slewTerm : sl.residual.natAbs < s.time.slewTerm.natAbs := by
  simp only [TimeBase.slewTerm, hslew]
  split <;> omega

theorem exec_slewComplete_eq (hrun : timeRuns s = true) : exec .slewComplete s = .next (slewEnded s) := by
  rw [exec_slewComplete, execSlewComplete, hslew]
  simp only [hrun, decide_eq_true (residual_lt_slewTerm hslew hsmall), Bool.and_self, given_true]
  rfl

/-- The last tick of a slew adds RATE and the whole residual. -/
theorem tick_of_last : s.time.tick = { s.time.advance (s.time.rateForce + sl.residual) with
    elapsed := s.time.elapsed + 1, slew := slewAfter sl sl.residual } := by
  have hterm : s.time.tickTerm = sl.residual := by
    have hlt := residual_lt_slewTerm hslew hsmall
    simp only [TimeBase.tickTerm, hslew, if_pos hlt]
  unfold TimeBase.tick
  rw [hterm, hslew]
  rfl

theorem slewEnded_time : (slewEnded s).time = { s.time.advance (s.time.rateForce + sl.residual) with
    elapsed := s.time.elapsed + 1, slew := none } := by
  rw [slewEnded, (everyTick_changes _) .time rfl, wrapAnchors_time, tick_of_last hslew hsmall]

end

/-- An increment leaves RATE and EPOCH. -/
theorem advance_rate (t : TimeBase) (inc : Int) : (t.advance inc).rate = t.rate ∧ (t.advance inc).epoch = t.epoch := by
  unfold TimeBase.advance
  dsimp only
  split <;> exact ⟨rfl, rfl⟩

/-- Settles O23: the frame's effect on the time base is that of what waits, and the last tick of a slew carries at most one second. -/
theorem alignmentFramesAndSlews : Obligations.AlignmentFramesAndSlews := by
  refine ⟨fun s held hrun => ?_, fun s sl hrun hsound hslew hsmall => ?_⟩
  · have hexec := exec_timeAlignFrame_eq held hrun
    have htime := alignedState_time held s
    obtain ⟨hrate, helapsed⟩ := offsetTaken_rate s.time
    refine ⟨_, hexec, execTimeAlignFrame_changes held s _ hexec, fun d hd => alignedState_aligned held s hd, ?_⟩
    rw [htime]
    refine ⟨rfl, hrate, rfl, rfl, rfl, rfl, rfl, helapsed, fun off hoff => ?_, fun o hset hoff => ?_, fun hset hoff => ?_⟩
    · rw [offsetTaken_of_step hoff]
      exact ⟨fineOf_moved s.time off, rfl, rfl, satInt_eq _⟩
    · rw [offsetTaken_of_slew hset hoff]
      exact ⟨rfl, rfl, rfl⟩
    · rw [offsetTaken_of_none hset hoff]
      exact ⟨rfl, rfl, rfl⟩
  · have hexec := exec_slewComplete_eq hslew hsmall hrun
    obtain ⟨hnanos, hfrac, -, ⟨hforce, hforce'⟩, hlimit⟩ := hsound
    obtain ⟨hrate, hepoch⟩ := advance_rate s.time (s.time.rateForce + sl.residual)
    refine ⟨_, hexec, ?_⟩
    rw [slewEnded_time hslew hsmall]
    refine ⟨fineOf_advance hnanos hfrac ?_ ?_, rfl, rfl, hrate, hepoch, execSlewComplete_changes s _ hexec⟩
    · omega
    · omega

end Sys2Proof.Machine
end

section
/-! PROOF. O22: the writes of the time base, and the retune of REF. -/

namespace Sys2Proof.Machine

theorem withStatus_eq_answered (s : State) (code : Nat) : withStatus s code = answered s code := rfl

theorem fine_eq_fineOf (t : TimeBase) : t.fine = fineOf t := rfl

theorem servoBuiltin_iff (s : State) : servoBuiltin s = true ↔ cfg s 0x3020 1 1 = 1 := beq_iff_eq

/-! ### Writes (R37, R41 to R43, R48) -/

/-- The order of the checks of RATE, OFFSET_ADJ and TIME_SET: the range, then the mode (R328). -/
theorem guarded_write (s t : State) (bad : Prop) [Decidable bad] :
    (if bad then withStatus s 0x0302 else if servoBuiltin s then withStatus s 0x0403 else t) =
      if bad then answered s 0x0302 else if cfg s 0x3020 1 1 = 1 then answered s 0x0403 else t := by
  simp only [withStatus_eq_answered, servoBuiltin_iff]

theorem writeRate_eq (s : State) (v : Nat) : writeRate s v =
    if ¬rateInRange v then answered s 0x0302 else if cfg s 0x3020 1 1 = 1 then answered s 0x0403
    else answered { s with time := s.time.steer v } 0 := by
  have hrange : (v < 0x3FF7CED91 ∨ 0x40083126F < v) ↔ ¬rateInRange v := by omega
  simp only [writeRate, hrange, guarded_write]
  rfl

/-- The steered time base: the span far from nominal goes on, begins or ends (R38). -/
theorem steer_eq (t : TimeBase) (v : Nat) : t.steer v = { t with
    rate := v, ratePend := true
    farAt := if 343597 < ((v : Int) - 0x400000000).natAbs then some (t.farAt.getD t.elapsed) else none } := by
  unfold TimeBase.steer rateFar
  cases t.farAt <;> simp

theorem time96Fine_eq (v : Nat) : time96Fine v =
    (v / 2 ^ 48 % 2 ^ 48 * 1000000000 + v / 2 ^ 16 % 2 ^ 30) * 2 ^ 32 + v % 2 ^ 16 * 2 ^ 16 := by
  simp [time96Fine, field]

theorem writeOffset_eq (s : State) (v : Int) : writeOffset s v =
    if v < -(2 ^ 63) ∨ 2 ^ 63 ≤ v then answered s 0x0302 else if cfg s 0x3020 1 1 = 1 then answered s 0x0403
    else answered { s with time := { s.time with offPend := some (v, decide (s.time.adjMode = 1)) } } 0 := guarded_write s _ _

theorem writeTimeSet_eq (s : State) (v : Nat) : writeTimeSet s v =
    if 1000000000 ≤ v / 2 ^ 16 % 2 ^ 30 then answered s 0x0302 else if cfg s 0x3020 1 1 = 1 then answered s 0x0403
    else answered { s with time := { s.time with setPend := some ((time96Fine v : Int) - fineOf s.time) } } 0 := guarded_write s _ _

theorem writeReacquire_eq (s : State) (v : Nat) : writeReacquire s v =
    if 1 < v then answered s 0x0302
    else if v = 1 ∧ cfg s 0x3020 1 1 = 1 then answered { s with servo := s.servo.acquire s.time.elapsed true } 0
    else answered s 0 := by
  simp only [writeReacquire, servoBuiltin_iff]
  rfl

/-! ### The retune of REF (R38) -/

theorem clampRate_eq (v : Int) : (clampRate v : Int) = max 0x3FF7CED91 (min 0x40083126F v) := by
  unfold clampRate clampInt
  split
  · omega
  · split <;> omega

/-- The time base after a retune of REF: one step toward nominal, with its measured effect in RATE. -/
def TimeBase.retuned (t : TimeBase) (effect : Int) : TimeBase :=
  { t with refTune := if 0 < (t.rate : Int) - 0x400000000 then t.refTune + 1 else t.refTune - 1, farAt := none }.steer
    (clampRate ((t.rate : Int) + effect))

theorem execRefRetune_eq (s : State) (effect : Int) : execRefRetune effect s = .next (given
    (s.servo.status == 2 && s.time.farAt.any (fun t => decide (t + msTicks 10000 ≤ s.ticks))) s
    { s with time := s.time.retuned effect }) := rfl

theorem exec_refRetune_eq {s : State} {effect : Int} {since : Nat} (hlocked : s.servo.status = 2)
    (hfar : s.time.farAt = some since) (hspan : since + 2500000000 ≤ s.time.elapsed) :
    exec (.refRetune effect) s = .next { s with time := s.time.retuned effect } := by
  have hms : msTicks 10000 = 2500000000 := by decide
  have hdue : s.time.farAt.any (fun t => decide (t + msTicks 10000 ≤ s.ticks)) = true := by
    rw [hfar, Option.any_some, hms]
    exact decide_eq_true hspan
  rw [exec_refRetune, execRefRetune_eq, hlocked, hdue, beq_self_eq_true, Bool.and_self, given_true]

theorem retuned_refTune (t : TimeBase) (effect : Int) :
    (t.retuned effect).refTune = t.refTune + (if 0x400000000 < t.rate then 1 else -1) := by
  have hdev : (0 < (t.rate : Int) - 0x400000000) ↔ 0x400000000 < t.rate := by omega
  simp only [TimeBase.retuned, TimeBase.steer, hdev]
  split
  · rfl
  · rfl

/-- Settles O22: each write by the order of its checks, and the retune by the time base that it leaves. -/
theorem timeWritesWaitForTheAlignmentFrame : Obligations.TimeWritesWaitForTheAlignmentFrame := by
  intro s
  refine ⟨fun v => ?_, fun v => ?_, fun v => ?_, fun v => ?_, fun effect since hlocked hfar hspan => ?_⟩
  · rw [exec_rateWrite, execRateWrite, writeRate_eq, steer_eq]
  · rw [exec_offsetAdjWrite, execOffsetAdjWrite, writeOffset_eq]
  · rw [exec_timeSetWrite, execTimeSetWrite, writeTimeSet_eq, time96Fine_eq]
  · rw [exec_reacquireWrite, execReacquireWrite, writeReacquire_eq]
    rfl
  · have hexec := exec_refRetune_eq (effect := effect) hlocked hfar hspan
    exact ⟨_, hexec, execRefRetune_changes effect s _ hexec, rfl, retuned_refTune s.time effect, clampRate_eq _⟩

end Sys2Proof.Machine
end

section
/-! PROOF. O21: a tick of the TIME clock. -/

namespace Sys2Proof.Machine

/-! ### The time base (R36, R42) -/

/-- The slew term of a tick (R42): the whole remainder once it is smaller than one term. -/
def TimeBase.slewStep (t : TimeBase) : Int :=
  let lim : Int := (t.slewLimit * (4 * 2 ^ 32) / 1000000 : Nat)
  match t.slew with
  | none => 0
  | some sl => if (sl.residual.natAbs : Int) < lim then sl.residual else if sl.residual < 0 then -lim else lim

theorem tickTerm_eq_slewStep (t : TimeBase) : t.tickTerm = t.slewStep := by
  unfold TimeBase.tickTerm TimeBase.slewStep TimeBase.slewTerm
  cases t.slew with
  | none => rfl
  | some sl =>
    by_cases hneg : sl.residual < 0
    · simp only [if_pos hneg]
      split <;> split <;> omega
    · simp only [if_neg hneg]
      split <;> split <;> omega

/-- At 1,000 ppm, the greatest SLEW_LIMIT, the term is at most a thousandth of 4 ns. -/
theorem slewStep_bound {t : TimeBase} (h : t.slewLimit ≤ 1000) : |t.slewStep| ≤ 17179869 := by
  have hlim : t.slewLimit * (4 * 2 ^ 32) / 1000000 ≤ 17179869 := by omega
  unfold TimeBase.slewStep
  generalize t.slewLimit * (4 * 2 ^ 32) / 1000000 = m at hlim
  rw [abs_le]
  dsimp only
  split
  · omega
  · split
    · omega
    · split <;> omega

theorem slewAfter_residual (sl : Slew) (term : Int) :
    (slewAfter sl term).map (·.residual) = if sl.residual = term then none else some (sl.residual - term) := by
  simp only [slewAfter, sub_eq_zero]
  split
  · rfl
  · rfl

theorem tick_slew (t : TimeBase) : t.tick.slew.map (·.residual) =
    t.slew.bind (fun sl => if sl.residual = t.slewStep then none else some (sl.residual - t.slewStep)) := by
  have htick : t.tick.slew = t.slew.bind (fun sl => slewAfter sl t.slewStep) := by
    rw [← tickTerm_eq_slewStep]
    rfl
  rw [htick]
  cases t.slew with
  | none => rfl
  | some sl => exact slewAfter_residual sl t.slewStep

/-- A tick with sound rates moves network time by RATE and the slew term. -/
theorem fineOf_tick {t : TimeBase} (h : TimeSound t) : (fineOf t.tick : Int) = (fineOf t + (t.rateForce + t.slewStep)) % timeSpan := by
  obtain ⟨hnanos, hfrac, -, ⟨hforce, hforce'⟩, hlimit⟩ := h
  obtain ⟨hlow, hhigh⟩ := abs_le.mp (slewStep_bound hlimit)
  have hfine : fineOf t.tick = fineOf (t.advance (t.rateForce + t.slewStep)) := by
    rw [← tickTerm_eq_slewStep]
    rfl
  rw [hfine]
  exact fineOf_advance hnanos hfrac (by omega) (by omega)

/-- An increment that carries at most one second leaves NANOSECONDS and FRACTION within their fields. -/
theorem advance_within {t : TimeBase} {inc : Int} (hnanos : t.nanos < 1000000000) (hfrac : t.frac < 2 ^ 32)
    (hsmall : inc < 1000000000 * 2 ^ 32) : (t.advance inc).nanos < 1000000000 ∧ (t.advance inc).frac < 2 ^ 32 := by
  unfold TimeBase.advance
  extract_lets f
  have hf : f < 2 * (1000000000 * 2 ^ 32) := by omega
  split
  · exact ⟨by dsimp only; omega, Nat.mod_lt _ (by decide)⟩
  · exact ⟨by dsimp only; omega, Nat.mod_lt _ (by decide)⟩

theorem tick_within {t : TimeBase} (h : TimeSound t) : t.tick.nanos < 1000000000 ∧ t.tick.frac < 2 ^ 32 := by
  obtain ⟨hnanos, hfrac, -, ⟨-, hforce⟩, hlimit⟩ := h
  obtain ⟨-, hhigh⟩ := abs_le.mp (slewStep_bound hlimit)
  exact advance_within hnanos hfrac (by rw [tickTerm_eq_slewStep]; omega)

/-- What a tick leaves of the time base. -/
theorem tick_frame (t : TimeBase) : t.tick = { t with
    seconds := t.tick.seconds, nanos := t.tick.nanos, frac := t.tick.frac, elapsed := t.tick.elapsed, slew := t.tick.slew } := by
  unfold TimeBase.tick TimeBase.advance
  dsimp only
  split <;> rfl

/-! ### What else a tick brings (R60, R87, R382, R405) -/

/-- From s to t every parish keeps its state and the change decided for it, and the idle timer to IDLE stands. -/
structure KeepsStates (s t : State) : Prop where
  decided : ∀ p, Machine.decided t p = Machine.decided s p
  idleRun : t.timers.idleRun = s.timers.idleRun

theorem KeepsStates.refl (s : State) : KeepsStates s s := ⟨fun _ => rfl, rfl⟩

theorem KeepsStates.trans {s t u : State} (h : KeepsStates s t) (k : KeepsStates t u) : KeepsStates s u :=
  ⟨fun p => (k.decided p).trans (h.decided p), k.idleRun.trans h.idleRun⟩

theorem decided_of_parish {s t : State} (h : t.parish = s.parish) (p : Nat) : decided t p = decided s p := by
  simp only [decided, State.parAt, h]

theorem KeepsStates.of_changes {l : List Piece} {s t : State} (h : Changes l s t)
    (hl : (l.contains .parish || l.contains .timers) = false) : KeepsStates s t := by
  obtain ⟨hp, ht⟩ := Bool.or_eq_false_iff.mp hl
  have htimers : t.timers = s.timers := h .timers ht
  exact ⟨decided_of_parish (h .parish hp), by rw [htimers]⟩

/-- A reason for the crier touches no parish's state. -/
theorem crierReason_keepsStates (s : State) (p bit rule : Nat) : KeepsStates s (crierReason s p bit rule) := by
  unfold crierReason
  dsimp only
  split
  · refine ⟨fun q => ?_, rfl⟩
    by_cases hq : q = p
    · subst hq
      simp [Machine.decided, active, State.modPar, State.parAt]
    · simp [Machine.decided, active, State.modPar, State.parAt, hq]
  · exact .refl s

theorem markReasons_keepsStates (s : State) (k : Nat) : KeepsStates s (markReasons s k) := by
  unfold markReasons
  split
  · exact .refl s
  · next p _ =>
    split
    · extract_lets wm s1
      have h1 : KeepsStates s s1 := by
        unfold s1
        split
        · exact crierReason_keepsStates s p 0 _
        · exact .refl s
      split
      · exact h1.trans (crierReason_keepsStates s1 p 1 _)
      · exact h1
    · exact .refl s

theorem ringEnter_keepsStates (s : State) (k : Nat) (r : Rec) : KeepsStates s (ringEnter s k r) := by
  unfold ringEnter
  extract_lets cap bump
  split
  · exact .of_changes (State.modStream_changes s k _) rfl
  · split
    · exact .of_changes (State.modStream_changes s k _) rfl
    · have hlogged {u : State} (r : Rec) (h : KeepsStates s u) : KeepsStates s (logContinuous u k r) :=
        h.trans (.of_changes (logContinuous_changes u k r) rfl)
      exact (hlogged _ (.of_changes (State.modStream_changes s k _) rfl)).trans (markReasons_keepsStates _ k)

theorem anchorAll_keepsStates (s : State) (reason : Nat) : KeepsStates s (anchorAll s reason) :=
  List.foldlRecOn _ _ (.refl s) fun _ hx d _ => hx.trans (ringEnter_keepsStates _ (d * 512 + 0x1F0) _)

theorem wrapAnchors_keepsStates (before : TimeBase) (s : State) : KeepsStates s (wrapAnchors before s) := by
  have hput (reason : Nat) : KeepsStates s
      { anchorAll { s with time := { s.time with nanos := 0, frac := 0 } } reason with time := s.time } :=
    ⟨(anchorAll_keepsStates _ reason).decided, (anchorAll_keepsStates _ reason).idleRun⟩
  unfold wrapAnchors
  split
  · exact .refl s
  · dsimp only
    split
    · exact hput 2
    · split
      · exact hput 1
      · exact .refl s

theorem wrapAnchors_same {before : TimeBase} {s : State} (h : s.time.seconds = before.seconds) : wrapAnchors before s = s := by
  rw [wrapAnchors, if_pos h.symm]

/-- No window of VP ends within a millisecond (R87). -/
theorem everyTick_port {s : State} (h : s.time.elapsed % 250000 ≠ 0) : (everyTick s).port = s.port := by
  have hvp : vpWindows s = s := if_neg h
  rw [everyTick, (watchCauses_changes _) .port rfl, (idleClock_changes _) .port rfl, hvp]

/-- A cause is noted while parish 1 is in RECOVERY alone (R382). -/
theorem everyTick_reeve {s : State} (h : decided s 1 ≠ 3) : (everyTick s).reeve = s.reeve := by
  have hparish : (idleClock (vpWindows s)).parish = s.parish :=
    ((idleClock_changes _) .parish rfl).trans ((vpWindows_changes s) .parish rfl)
  have hwatch : watchCauses (idleClock (vpWindows s)) = idleClock (vpWindows s) :=
    if_neg fun hc => h ((decided_of_parish hparish 1).symm.trans hc.1)
  rw [everyTick, hwatch, (idleClock_changes _) .reeve rfl, (vpWindows_changes s) .reeve rfl]

/-- In RUN the timer to IDLE counts while no request waits (R405). -/
theorem everyTick_idleRun {s : State} (h : s.power.state = 0) :
    (everyTick s).timers.idleRun = if s.net.waiting = [] then s.timers.idleRun + 1 else 0 := by
  have hvp := vpWindows_changes s
  have hpower : (vpWindows s).power = s.power := hvp .power rfl
  have hnet : (vpWindows s).net = s.net := hvp .net rfl
  have htimers : (vpWindows s).timers = s.timers := hvp .timers rfl
  rw [everyTick, (watchCauses_changes _) .timers rfl, idleClock, if_pos (hpower ▸ h)]
  simp [hnet, htimers]

/-! ### The tick -/

/-- The machine after a tick. -/
def ticked (s : State) : State := everyTick (wrapAnchors s.time { s with time := s.time.tick })

theorem exec_timeTick_eq {s : State} (h : timeRuns s = true) : exec .timeTick s = .next (ticked s) := by
  rw [exec_timeTick, execTimeTick, h, given_true]
  rfl

theorem ticked_time (s : State) : (ticked s).time = s.time.tick := by
  rw [ticked, (everyTick_changes _) .time rfl, wrapAnchors_time]

theorem setTime_changes (s : State) (t : TimeBase) : Changes [.time] s { s with time := t } := by
  intro f hf
  cases f with
  | time => cases hf
  | _ => rfl

theorem ticked_changes_of_seconds {s : State} (h : (ticked s).time.seconds = s.time.seconds) :
    Changes [.time, .port, .reeve, .timers] s (ticked s) := by
  rw [ticked_time] at h
  rw [ticked, wrapAnchors_same h]
  exact .after (.after (.refl _ _) (setTime_changes s _) rfl) (everyTick_changes _) rfl

theorem ticked_port {s : State} (h : (ticked s).time.elapsed % 250000 ≠ 0) : (ticked s).port = s.port := by
  rw [ticked_time] at h
  have hwrap := wrapAnchors_changes s.time { s with time := s.time.tick }
  rw [ticked, everyTick_port (by rwa [wrapAnchors_time]), hwrap .port rfl]

theorem ticked_reeve {s : State} (h : decided s 1 ≠ 3) : (ticked s).reeve = s.reeve := by
  have hkeep := wrapAnchors_keepsStates s.time { s with time := s.time.tick }
  have hwrap := wrapAnchors_changes s.time { s with time := s.time.tick }
  rw [ticked, everyTick_reeve fun hc => h ((hkeep.decided 1).symm.trans hc), hwrap .reeve rfl]

theorem ticked_idleRun {s : State} (h : s.power.state = 0) :
    (ticked s).timers.idleRun = if s.net.waiting = [] then s.timers.idleRun + 1 else 0 := by
  have hwrap := wrapAnchors_changes s.time { s with time := s.time.tick }
  have hpower : (wrapAnchors s.time { s with time := s.time.tick }).power = s.power := hwrap .power rfl
  have hnet : (wrapAnchors s.time { s with time := s.time.tick }).net = s.net := hwrap .net rfl
  rw [ticked, everyTick_idleRun (by rw [hpower, h]), hnet, (wrapAnchors_keepsStates _ _).idleRun]

/-- Settles O21: the tick's time base is that of the increment, and the rest of the machine follows R60, R87, R382 and R405. -/
theorem timeTickAddsTheEffectiveIncrement : Obligations.TimeTickAddsTheEffectiveIncrement := by
  intro s hrun hsound t0 lim term
  have hexec := exec_timeTick_eq hrun
  have hterm : term = s.time.slewStep := rfl
  obtain ⟨hnanos, hfrac⟩ := tick_within hsound
  refine ⟨_, hexec, ?_⟩
  refine ⟨?_, ?_, ?_, ?_, ?_, ?_, execTimeTick_changes s _ hexec, ticked_changes_of_seconds, ticked_port, ticked_reeve,
    ticked_idleRun⟩
  · rw [ticked_time, hterm]
    exact fineOf_tick hsound
  · rwa [ticked_time]
  · rwa [ticked_time]
  · rw [ticked_time]
    rfl
  · rw [ticked_time, hterm]
    exact tick_slew s.time
  · rw [ticked_time]
    exact tick_frame s.time

end Sys2Proof.Machine
end

section
/-! PROOF. O4: IN, OUT and the writes of registers; and what a fault and a latch of the time registers leave of an engine. -/

namespace Sys2Proof.Machine

/-! ### What the shared operations leave of an engine -/

/-- From s to t engine e keeps its contexts and its shared registers. -/
structure KeepsRegs (s t : State) (e : Nat) : Prop where
  ctxs : (t.engAt e).ctxs = (s.engAt e).ctxs
  shared : (t.engAt e).shared = (s.engAt e).shared

section
variable {s t u : State} {e c : Nat}

theorem KeepsRegs.ctxOf (h : KeepsRegs s t e) (k : Nat) : ctxOf t e k = ctxOf s e k := by
  simp only [Machine.ctxOf, Engine.ctxAt, h.ctxs]

theorem KeepsRegs.regOf (h : KeepsRegs s t e) (k : Nat) (r : BitVec 4) : regOf t e k r = regOf s e k r := by
  simp only [Machine.regOf, h.ctxOf, readReg, h.shared]

theorem KeepsRegs.of_engine (h : t.engine = s.engine) : KeepsRegs s t e := by
  have he := engAt_of_engine h e
  exact ⟨by rw [he], by rw [he]⟩

/-- A register written after an effect that keeps the registers. -/
theorem WroteReg.after {rd : BitVec 4} {v : Word} (h : KeepsRegs s u e) (k : WroteReg u t e c rd v) : WroteReg s t e c rd v :=
  fun r => by rw [k r, h.regOf c r]

/-- A write to w0 is no write. -/
theorem WroteReg.of_regOf (h : ∀ r, regOf t e c r = regOf s e c r) : WroteReg s t e c 0 0 := fun r => by
  rw [h r, if_neg]
  rintro ⟨rfl, hne⟩
  exact hne rfl

theorem CtxStep.engAt {y : Ctx} (h : CtxStep s t e c y) :
    t.engAt e = { s.engAt e with ctxs := (t.engAt e).ctxs, shared := (t.engAt e).shared } := h.2.2.1

theorem CtxStep.changes {y : Ctx} (h : CtxStep s t e c y) : Changes [.engine] s t := h.1

theorem CtxStep.others {y : Ctx} (h : CtxStep s t e c y) {j : Nat} (hj : j ≠ e) : t.engAt j = s.engAt j := h.2.1 j hj

theorem CtxStep.ctx {y : Ctx} (h : CtxStep s t e c y) : ctxOf t e c = { y with regs := (ctxOf t e c).regs } := h.2.2.2.2

end

theorem nextPc_step (s : State) (e c : Nat) : CtxStep s (nextPc s e c) e c { ctxOf s e c with pc := (ctxOf s e c).pc + 1 } :=
  modCtx_step s e c _

theorem nextPc_regOf (s : State) (e c : Nat) (r : BitVec 4) : regOf (nextPc s e c) e c r = regOf s e c r :=
  modCtx_regs s e c _ rfl r

/-- The PC's advance leaves every field of the context but the PC. -/
theorem nextPc_ctxOf (s : State) (e c : Nat) : ctxOf (nextPc s e c) e c = { ctxOf s e c with pc := (ctxOf s e c).pc + 1 } := by
  simp [nextPc, State.modCtx, ctxOf]

theorem nextPc_computes (s : State) (e c : Nat) : Computes s (nextPc s e c) e c 0 0 (flagsOf s e c) :=
  ⟨nextPc_step s e c, .of_regOf (nextPc_regOf s e c)⟩

section
variable (s : State) (e c detail pc operand : Nat)

/-- A fault counts on its engine and is named there; nothing else of the engines changes (R177). -/
theorem engineFault_engine : (engineFault s e c detail pc operand).engine = (s.modEng e (fun y => { y with
    faults := y.faults + 1, lastFault := detail % 256 + pc % 1024 * 256 })).engine := by
  unfold engineFault
  dsimp only
  split
  · exact ((violationCount_changes _ _) .engine rfl).trans ((faultRecord_changes _ _ _ _ _ _ _) .engine rfl)
  · exact (faultRecord_changes _ _ _ _ _ _ _) .engine rfl

theorem engineFault_engAt : (engineFault s e c detail pc operand).engAt e = { s.engAt e with
    faults := (s.engAt e).faults + 1, lastFault := detail % 256 + pc % 1024 * 256 } := by
  rw [engAt_of_engine (engineFault_engine s e c detail pc operand), State.modEng_engAt]

theorem engineFault_keepsRegs : KeepsRegs s (engineFault s e c detail pc operand) e :=
  ⟨by rw [engineFault_engAt], by rw [engineFault_engAt]⟩

end

theorem latchTime_engAt (s : State) (e : Nat) : (latchTime s e).engAt e = { s.engAt e with
    tsecHi := (s.time.seconds >>> 32).setWidth 32, tns := BitVec.ofNat 32 s.time.nanos, tfrac := BitVec.ofNat 32 s.time.frac } := by
  have hhi : (s.time.seconds >>> 32).setWidth 32 = BitVec.ofNat 32 (s.time.seconds.toNat / 2 ^ 32) := by
    apply BitVec.eq_of_toNat_eq
    simp [Nat.shiftRight_eq_div_pow]
  rw [hhi, latchTime, State.modEng_engAt]

theorem latchTime_engAt_other (s : State) {e j : Nat} (hj : j ≠ e) : (latchTime s e).engAt j = s.engAt j :=
  State.modEng_engAt_other _ _ _ _ hj

theorem latchTime_keepsRegs (s : State) (e : Nat) : KeepsRegs s (latchTime s e) e := by
  constructor
  · rw [latchTime_engAt]
  · rw [latchTime_engAt]

theorem tsecLo_eq (s : State) : tsecLo s = s.time.seconds.setWidth 32 := by
  apply BitVec.eq_of_toNat_eq
  simp [tsecLo]

/-- A read of TSEC_LO: its word to rd, and the other time registers latched (R40). -/
theorem tsecLoWritten (s : State) (e c : Nat) (rd : BitVec 4) :
    let t := writeReg (latchTime s e) e c rd (tsecLo s)
    WroteReg s t e c rd (s.time.seconds.setWidth 32) ∧ ctxOf t e c = { ctxOf s e c with regs := (ctxOf t e c).regs } ∧
      t.engAt e = { (latchTime s e).engAt e with ctxs := (t.engAt e).ctxs, shared := (t.engAt e).shared } ∧
      (∀ j, j ≠ e → t.engAt j = s.engAt j) ∧ Changes [.engine] s t := by
  intro t
  obtain ⟨hstep, hwrote⟩ := writeReg_step (latchTime s e) e c rd (tsecLo s)
  have hkeep := latchTime_keepsRegs s e
  refine ⟨tsecLo_eq s ▸ hwrote.after hkeep, ?_, hstep.engAt, fun j hj => ?_, (latchTime_changes s e).trans hstep.changes⟩
  · exact (hkeep.ctxOf c ▸ hstep.ctx :)
  · rw [hstep.others hj, latchTime_engAt_other s hj]

/-! ### Addresses of the I/O space (R13, R154, R160) -/

theorem ownsFor_iff (s : State) (e : Nat) (o : Option Nat) : ownsFor s e o = true ↔ Owns s e o := by
  simp [ownsFor, Owns]

theorem ownsFor_eq_false (s : State) (e : Nat) (o : Option Nat) : ownsFor s e o = false ↔ ¬Owns s e o := by
  rw [← ownsFor_iff, Bool.not_eq_true]

theorem engReg_reserved (s : State) (e c : Nat) {a : Nat} (h : a < 0xF00 ∨ 0xF28 ≤ a) : engReg s e c a = 0 := by
  unfold engReg
  dsimp only
  split
  case h_10 => rfl
  all_goals omega

theorem ofNat_eq_setWidth (v : Word) : BitVec.ofNat 4 v.toNat = v.setWidth 4 := BitVec.ofNat_toNat 4 v

theorem ofNat_div_eq_extract (v : Word) : BitVec.ofNat 4 (v.toNat / 16) = v.extractLsb' 4 4 := by
  apply BitVec.eq_of_toNat_eq
  simp [BitVec.extractLsb'_toNat, Nat.shiftRight_eq_div_pow]

theorem writePortReg_pinOut (s : State) (n : Nat) (v : Word) :
    writePortReg s n 0x08 v.toNat = s.modPort n (fun p => { p with pinOut := v.setWidth 4 }) := by
  rw [← ofNat_eq_setWidth]
  rfl

theorem writePortReg_pinOe (s : State) (n : Nat) (v : Word) :
    writePortReg s n 0x0C v.toNat = s.modPort n (fun p => { p with pinOe := v.setWidth 4 }) := by
  rw [← ofNat_eq_setWidth]
  rfl

theorem writePortReg_pinEdge (s : State) (n : Nat) (v : Word) : writePortReg s n 0x10 v.toNat =
    s.modPort n (fun p => { p with rise := p.rise &&& ~~~v.setWidth 4, fall := p.fall &&& ~~~v.extractLsb' 4 4 }) := by
  rw [← ofNat_eq_setWidth, ← ofNat_div_eq_extract]
  rfl

/-! ### IN (R160) -/

/-- The machine after a context reads an I/O address. -/
def inEffect (s : State) (e c : Nat) (rd : BitVec 4) (a : Nat) : State :=
  if a % 4 ≠ 0 ∨ 0xFFF < a then faultEnd s e c 2 a
  else if a < 0x300 then
    if !ownsFor s e (portOwner s (ioPort e a)) then faultEnd s e c 3 a
    else if !domainOn s (ioPort e a) then nextPc (writeReg (engineFault s e c 4 (ctxOf s e c).pc a) e c rd 0) e c
    else nextPc (writeReg s e c rd (BitVec.ofNat 32 (portReg s (ioPort e a) (a % 64)))) e c
  else if a = 0xF00 then nextPc (writeReg (latchTime s e) e c rd (tsecLo s)) e c
  else nextPc (writeReg s e c rd (engReg s e c a)) e c

section
variable {s : State} {e c : Nat}

section
variable {rd ra : BitVec 4} {imm : BitVec 18} (h : Runs s e c (.ioIn e rd ra imm))
include h

theorem exec_ioIn_eq : exec (.ioIn e rd ra imm) s = .next (inEffect s e c rd (addrOf s e c ra imm)) := by
  rw [exec_ioIn, execIoIn, onCtx_runs _ h]
  rfl

end

section
variable {a : Nat} (rd : BitVec 4) (halign : a % 4 = 0)

theorem inEffect_bad (h : a % 4 ≠ 0 ∨ 0xFFF < a) : inEffect s e c rd a = faultEnd s e c 2 a := if_pos h

include halign

theorem inEffect_foreign (hport : a < 0x300) (h : ¬Owns s e (portOwner s (ioPort e a))) :
    inEffect s e c rd a = faultEnd s e c 3 a := by
  have hin : ¬(a % 4 ≠ 0 ∨ 0xFFF < a) := by omega
  simp [inEffect, hin, hport, (ownsFor_eq_false _ _ _).mpr h]

theorem inEffect_off (hport : a < 0x300) (h : Owns s e (portOwner s (ioPort e a))) (hoff : domainOn s (ioPort e a) = false) :
    inEffect s e c rd a = nextPc (writeReg (engineFault s e c 4 (ctxOf s e c).pc a) e c rd 0) e c := by
  have hin : ¬(a % 4 ≠ 0 ∨ 0xFFF < a) := by omega
  simp [inEffect, hin, hport, (ownsFor_iff _ _ _).mpr h, hoff]

theorem inEffect_port (hport : a < 0x300) (h : Owns s e (portOwner s (ioPort e a))) (hon : domainOn s (ioPort e a) = true) :
    inEffect s e c rd a = nextPc (writeReg s e c rd (BitVec.ofNat 32 (portReg s (ioPort e a) (a % 64)))) e c := by
  have hin : ¬(a % 4 ≠ 0 ∨ 0xFFF < a) := by omega
  simp [inEffect, hin, hport, (ownsFor_iff _ _ _).mpr h, hon]

theorem inEffect_engine (hport : 0x300 ≤ a) (hend : a ≤ 0xFFF) (hne : a ≠ 0xF00) :
    inEffect s e c rd a = nextPc (writeReg s e c rd (engReg s e c a)) e c := by
  have hin : ¬(a % 4 ≠ 0 ∨ 0xFFF < a) := by omega
  have hlow : ¬a < 0x300 := by omega
  simp [inEffect, hin, hlow, hne]

end

/-- A read of a block that is off (R88): zero, and the fault; the context goes on. -/
theorem offRead_effect (hpc : (ctxOf s e c).pc < 1024) (hrun : (s.engAt e).running = some c) (rd : BitVec 4) (a : Nat) :
    let t := nextPc (writeReg (engineFault s e c 4 (ctxOf s e c).pc a) e c rd 0) e c
    WroteReg s t e c rd 0 ∧ (ctxOf t e c).pc = (ctxOf s e c).pc + 1 ∧ (t.engAt e).running = some c ∧
      (t.engAt e).faults = (s.engAt e).faults + 1 ∧ (t.engAt e).lastFault = 4 + 256 * (ctxOf s e c).pc ∧
      (t.engAt e).scratch = (s.engAt e).scratch ∧ Changes [.die, .engine, .stream, .parish, .reeve, .timers] s t := by
  intro t
  have hkeep := engineFault_keepsRegs s e c 4 (ctxOf s e c).pc a
  obtain ⟨hstep, hwrote⟩ := writeNext_computes (engineFault s e c 4 (ctxOf s e c).pc a) e c rd 0
  have heng := hstep.engAt
  rw [engineFault_engAt] at heng
  refine ⟨hwrote.after hkeep, ?_, ?_, ?_, ?_, ?_, .after (engineFault_changes _ _ _ _ _ _) hstep.changes rfl⟩
  · rw [hstep.ctx, hkeep.ctxOf]
  · rw [heng, ← hrun]
  · rw [heng]
  · rw [heng]
    simp only
    omega
  · rw [heng]

/-- A read of TSEC_LO by IN (R40). -/
theorem tsecRead_effect (rd : BitVec 4) :
    let t := nextPc (writeReg (latchTime s e) e c rd (tsecLo s)) e c
    WroteReg s t e c rd (s.time.seconds.setWidth 32) ∧
      ctxOf t e c = { ctxOf s e c with pc := (ctxOf s e c).pc + 1, regs := (ctxOf t e c).regs } ∧
      (t.engAt e).tsecHi = (s.time.seconds >>> 32).setWidth 32 ∧ (t.engAt e).tns = BitVec.ofNat 32 s.time.nanos ∧
      (t.engAt e).tfrac = BitVec.ofNat 32 s.time.frac ∧ (t.engAt e).scratch = (s.engAt e).scratch ∧ Changes [.engine] s t := by
  intro t
  obtain ⟨hwrote, hctx, heng, -, hchanges⟩ := tsecLoWritten s e c rd
  have hstep := nextPc_step (writeReg (latchTime s e) e c rd (tsecLo s)) e c
  have heng' := hstep.engAt
  rw [heng, latchTime_engAt] at heng'
  refine ⟨fun r => (nextPc_regOf _ e c r).trans (hwrote r), ?_, ?_, ?_, ?_, ?_, hchanges.trans hstep.changes⟩
  · rw [hstep.ctx, hctx]
  · rw [heng']
  · rw [heng']
  · rw [heng']
  · rw [heng']

end

/-! ### OUT (R87, R88, R160, R175) -/

/-- The machine after a context writes an I/O address. -/
def outEffect (s : State) (e c a : Nat) (v : Word) : State :=
  if a % 4 ≠ 0 ∨ 0xFFF < a then faultEnd s e c 2 a
  else if a < 0x300 ∧ ownsFor s e (portOwner s (ioPort e a)) = false then faultEnd s e c 3 a
  else nextPc (ioWrite s e c (ctxOf s e c).pc a v) e c

/-- The digest of a context that folds a word: in an entry with the safety-pair flag alone (R175). -/
def folded (y : Ctx) (v : Word) : BitVec 32 :=
  if bitOf y.flags 2 then BitVec.ofNat 32 (crc32Fold y.digest.toNat (leBytes 4 v.toNat)) else y.digest

theorem foldPair_eq (s : State) (e c : Nat) (v : Word) :
    foldPair s e c v = s.modCtx e c (fun y => { y with digest := folded y v }) := by
  unfold foldPair folded
  congr 1
  funext y
  split <;> rfl

theorem foldPair_step (s : State) (e c : Nat) (v : Word) :
    CtxStep s (foldPair s e c v) e c { ctxOf s e c with digest := folded (ctxOf s e c) v } ∧
      ∀ r, regOf (foldPair s e c v) e c r = regOf s e c r := by
  rw [foldPair_eq]
  exact ⟨modCtx_step s e c _, modCtx_regs s e c _ rfl⟩

section
variable {s : State} {e c : Nat}

theorem exec_ioOut_eq {rd ra : BitVec 4} {imm : BitVec 18} (h : Runs s e c (.ioOut e rd ra imm)) :
    exec (.ioOut e rd ra imm) s = .next (outEffect s e c (addrOf s e c ra imm) (regOf s e c rd)) := by
  rw [exec_ioOut, execIoOut, onCtx_runs _ h]
  rfl

section
variable {a : Nat} (v : Word)

theorem outEffect_bad (h : a % 4 ≠ 0 ∨ 0xFFF < a) : outEffect s e c a v = faultEnd s e c 2 a := if_pos h

theorem outEffect_foreign (halign : a % 4 = 0) (hport : a < 0x300) (h : ¬Owns s e (portOwner s (ioPort e a))) :
    outEffect s e c a v = faultEnd s e c 3 a := by
  have hin : ¬(a % 4 ≠ 0 ∨ 0xFFF < a) := by omega
  simp [outEffect, hin, hport, (ownsFor_eq_false _ _ _).mpr h]

/-- A write to an owned port or to an engine register goes on to the next word. -/
theorem outEffect_write (halign : a % 4 = 0) (hend : a ≤ 0xFFF) (h : a < 0x300 → Owns s e (portOwner s (ioPort e a))) :
    outEffect s e c a v = nextPc (ioWrite s e c (ctxOf s e c).pc a v) e c := by
  have hin : ¬(a % 4 ≠ 0 ∨ 0xFFF < a) := by omega
  have hown : ¬(a < 0x300 ∧ ownsFor s e (portOwner s (ioPort e a)) = false) := by
    rintro ⟨hport, hown⟩
    exact (ownsFor_eq_false _ _ _).mp hown (h hport)
  rw [outEffect, if_neg hin, if_neg hown]

end

theorem ioWrite_port {pc a : Nat} {v : Word} (hport : a < 0x300) (hon : domainOn s (ioPort e a) = true) :
    ioWrite s e c pc a v = writePortReg s (ioPort e a) (a % 64) v.toNat := by
  rw [ioWrite, if_pos hport, if_pos hon]

theorem ioWrite_pair {pc : Nat} {v : Word} : ioWrite s e c pc 0xF20 v = foldPair s e c v := rfl

theorem ioWrite_ignored {pc a : Nat} {v : Word} (hport : 0x300 ≤ a) (hne : a ≠ 0xF20) : ioWrite s e c pc a v = s := by
  rw [ioWrite, if_neg (by omega), writeEngReg, if_neg hne]

/-- A dropped write to a block that is off (R88). -/
theorem offWrite_effect (hpc : (ctxOf s e c).pc < 1024) {a : Nat} (v : Word) (hport : a < 0x300)
    (hoff : domainOn s (ioPort e a) = false) :
    let t := nextPc (ioWrite s e c (ctxOf s e c).pc a v) e c
    (t.engAt e).dropped = (if (s.engAt e).dropped < 65535 then (s.engAt e).dropped + 1 else 65535) ∧
      (t.engAt e).faults = (s.engAt e).faults + 1 ∧ (t.engAt e).lastFault = 4 + 256 * (ctxOf s e c).pc ∧
      ctxOf t e c = { ctxOf s e c with pc := (ctxOf s e c).pc + 1 } ∧ (t.engAt e).scratch = (s.engAt e).scratch ∧
      Changes [.die, .engine, .stream, .parish, .reeve, .timers] s t := by
  intro t
  have hwrite : ioWrite s e c (ctxOf s e c).pc a v =
      (engineFault s e c 4 (ctxOf s e c).pc a).modEng e (fun x => { x with dropped := satInc 65535 x.dropped }) := by
    rw [ioWrite, if_pos hport, hoff, if_neg Bool.false_ne_true]
  have hkeep : KeepsRegs s (ioWrite s e c (ctxOf s e c).pc a v) e := by
    rw [hwrite]
    constructor
    · rw [State.modEng_engAt, engineFault_engAt]
    · rw [State.modEng_engAt, engineFault_engAt]
  have hstep := nextPc_step (ioWrite s e c (ctxOf s e c).pc a v) e c
  have heng := hstep.engAt
  rw [hwrite, State.modEng_engAt, engineFault_engAt, ← hwrite] at heng
  refine ⟨?_, ?_, ?_, ?_, ?_, .after ?_ hstep.changes rfl⟩
  · rw [heng]
    rfl
  · rw [heng]
  · rw [heng]
    simp only
    omega
  · rw [nextPc_ctxOf, hkeep.ctxOf]
  · rw [heng]
  · rw [hwrite]
    exact .after (engineFault_changes _ _ _ _ _ _) (State.modEng_changes _ _ _) rfl

/-- A change of a port's pins by OUT: those bits of that port alone, and the PC. -/
theorem pinsWritten (n : Nat) (g : Port → Port) :
    let t := nextPc (s.modPort n g) e c
    t.portAt n = g (s.portAt n) ∧ (∀ j, j ≠ n → t.portAt j = s.portAt j) ∧ (∀ r, regOf t e c r = regOf s e c r) ∧
      ctxOf t e c = { ctxOf s e c with pc := (ctxOf s e c).pc + 1 } ∧ Changes [.port, .engine] s t := by
  intro t
  have hport : ∀ j, t.portAt j = (s.modPort n g).portAt j := fun j => rfl
  refine ⟨?_, fun j hj => ?_, nextPc_regOf _ e c, nextPc_ctxOf _ e c, ?_⟩
  · rw [hport, State.modPort_portAt]
  · rw [hport, State.modPort_portAt_other _ _ _ _ hj]
  · exact .after (.after (.refl _ _) (State.modPort_changes s n g) rfl) (nextPc_changes _ e c) rfl

/-- A write of PAIR_WORD by OUT (R175). -/
theorem pairWritten (v : Word) :
    CtxStep s (nextPc (foldPair s e c v) e c) e c
        { ctxOf s e c with pc := (ctxOf s e c).pc + 1, digest := folded (ctxOf s e c) v } ∧
      WroteReg s (nextPc (foldPair s e c v) e c) e c 0 0 := by
  obtain ⟨hstep, hregs⟩ := foldPair_step s e c v
  have hctx : ctxOf (foldPair s e c v) e c = { ctxOf s e c with digest := folded (ctxOf s e c) v } := by
    rw [foldPair_eq]
    simp [State.modCtx, ctxOf]
  have hnext := nextPc_step (foldPair s e c v) e c
  rw [hctx] at hnext
  exact ⟨hstep.trans hnext, .of_regOf fun r => (nextPc_regOf _ e c r).trans (hregs r)⟩

end

/-! ### The register effects as commands of their own -/

section
variable {s : State} {e c : Nat} (he : e < 24 * usedDies s)
include he

theorem withEngine_of_lt (t : State) : withEngine s e t = .next t := by
  have h : e < usedDies s * 24 := by omega
  rw [withEngine, decide_eq_true h, withUnit_true]

variable (hrun : (s.engAt e).running = some c)
include hrun

theorem exec_pairWordWrite_eq (v : Word) : exec (.pairWordWrite e v) s = .next (foldPair s e c v) := by
  rw [exec_pairWordWrite, execPairWordWrite, withEngine_of_lt he, hrun]

theorem exec_registerWrite_eq {a : Nat} (v : Word) (halign : a % 4 = 0) (hend : a ≤ 0xFFF)
    (hport : a < 0x300 → Owns s e (portOwner s (ioPort e a)) ∧ domainOn s (ioPort e a) = true) :
    exec (.registerWrite e a v) s = .next (ioWrite s e c (ctxOf s e c).pc a v) := by
  have hreach : (decide (0x300 ≤ a) || (ownsFor s e (portOwner s (ioPort e a)) && domainOn s (ioPort e a))) = true := by
    by_cases h : a < 0x300
    · obtain ⟨hown, hon⟩ := hport h
      rw [(ownsFor_iff _ _ _).mpr hown, hon, Bool.and_self, Bool.or_true]
    · simp [Nat.le_of_not_lt h]
  rw [exec_registerWrite, execRegisterWrite, withEngine_of_lt he, hrun]
  simp only [halign, hend, hreach, decide_true, beq_self_eq_true, Bool.and_self, given_true]
  rfl

theorem exec_tsecLoRead_eq (rd : BitVec 4) :
    exec (.tsecLoRead e rd) s = .next (writeReg (latchTime s e) e c rd (tsecLo s)) := by
  rw [exec_tsecLoRead, execTsecLoRead, withEngine_of_lt he, hrun]

end

/-! ### The statement -/

theorem ioIn_effect {s : State} {e c : Nat} {rd ra : BitVec 4} {imm : BitVec 18} (h : Runs s e c (.ioIn e rd ra imm)) {t : State}
    (ht : inEffect s e c rd (addrOf s e c ra imm) = t) : exec (.ioIn e rd ra imm) s = .next t := by
  rw [exec_ioIn_eq h, ht]

theorem ioOut_effect {s : State} {e c : Nat} {rd ra : BitVec 4} {imm : BitVec 18} (h : Runs s e c (.ioOut e rd ra imm)) {t : State}
    (ht : outEffect s e c (addrOf s e c ra imm) (regOf s e c rd) = t) : exec (.ioOut e rd ra imm) s = .next t := by
  rw [exec_ioOut_eq h, ht]

/-- Settles O4: IN and OUT by the kind of their address, and the register effects as commands of their own. -/
theorem inAndOutReachTheIoSpace : Obligations.InAndOutReachTheIoSpace := by
  refine ⟨fun s e c rd ra imm h => ?_, fun s e c rd ra imm h => ?_, fun s e c he hrun => ?_⟩
  · obtain ⟨-, hrun, -, -, -, hpc, -⟩ := id h
    intro a x y n reads
    have heng (hport : 0x300 ≤ a) (hend : a ≤ 0xFFF) (hne : a ≠ 0xF00) (halign : a % 4 = 0) : reads (engReg s e c a) :=
      ⟨_, ioIn_effect h (inEffect_engine rd halign hport hend hne), writeNext_computes s e c rd _⟩
    refine ⟨fun hbad => ?_, fun halign hport hown => ?_, fun halign hport hown hoff => ?_, fun halign hport hown hon => ?_,
      fun ha => ?_, fun ha => ?_, fun ha => ?_, fun ha => ?_, fun ha => ?_, fun ha => ?_, fun ha => ?_, fun ha => ?_,
      fun halign hport hres hend => ?_⟩
    · exact ⟨_, ioIn_effect h (inEffect_bad rd hbad), faultEnd_ends s e c 2 _ (by decide) hpc hrun⟩
    · exact ⟨_, ioIn_effect h (inEffect_foreign rd halign hport hown), faultEnd_ends s e c 3 _ (by decide) hpc hrun⟩
    · exact ⟨_, ioIn_effect h (inEffect_off rd halign hport hown hoff), offRead_effect hpc hrun rd _⟩
    · exact ⟨_, ioIn_effect h (inEffect_port rd halign hport hown hon), writeNext_computes s e c rd _⟩
    · have hin : inEffect s e c rd a = nextPc (writeReg (latchTime s e) e c rd (tsecLo s)) e c := by rw [ha]; rfl
      exact ⟨_, ioIn_effect h hin, tsecRead_effect rd⟩
    · exact (congrArg (engReg s e c) ha ▸ heng (by omega) (by omega) (by omega) (by omega) :)
    · exact (congrArg (engReg s e c) ha ▸ heng (by omega) (by omega) (by omega) (by omega) :)
    · exact (congrArg (engReg s e c) ha ▸ heng (by omega) (by omega) (by omega) (by omega) :)
    · exact (congrArg (engReg s e c) ha ▸ heng (by omega) (by omega) (by omega) (by omega) :)
    · exact (congrArg (engReg s e c) ha ▸ heng (by omega) (by omega) (by omega) (by omega) :)
    · exact (congrArg (engReg s e c) ha ▸ heng (by omega) (by omega) (by omega) (by omega) :)
    · exact (congrArg (engReg s e c) ha ▸ heng (by omega) (by omega) (by omega) (by omega) :)
    · exact (engReg_reserved s e c hres ▸ heng hport hend (by omega) halign :)
  · obtain ⟨-, hrun, -, -, -, hpc, -⟩ := id h
    intro a v x y n go pins
    have hpins (off : Nat) (g : Port → Port) (hreg : writePortReg s n off v.toNat = s.modPort n g) (hoff : off % 4 = 0)
        (hport : a < 0x300) (ha : a % 64 = off) (hown : Owns s e (portOwner s n)) (hon : domainOn s n = true) : pins g := by
      have hw := outEffect_write (c := c) v (by omega) (by omega) fun _ => hown
      rw [ioWrite_port hport hon, ha, show ioPort e a = n from rfl, hreg] at hw
      exact ⟨_, ioOut_effect h hw, pinsWritten n g⟩
    refine ⟨fun hbad => ?_, fun halign hport hown => ?_, fun halign hport hown hoff => ?_,
      fun hport ha => hpins _ _ (writePortReg_pinOut s n v) rfl hport ha,
      fun hport ha => hpins _ _ (writePortReg_pinOe s n v) rfl hport ha,
      fun hport ha => hpins _ _ (writePortReg_pinEdge s n v) rfl hport ha, fun ha => ?_, fun halign hport hend hne => ?_⟩
    · exact ⟨_, ioOut_effect h (outEffect_bad v hbad), faultEnd_ends s e c 2 _ (by decide) hpc hrun⟩
    · exact ⟨_, ioOut_effect h (outEffect_foreign v halign hport hown), faultEnd_ends s e c 3 _ (by decide) hpc hrun⟩
    · exact ⟨_, ioOut_effect h (outEffect_write v halign (by omega) fun _ => hown), offWrite_effect hpc v hport hoff⟩
    · have hw := outEffect_write (s := s) (e := e) (c := c) (a := a) v (by omega) (by omega) (fun hport => by omega)
      rw [ha, ioWrite_pair, ← ha] at hw
      exact ⟨_, ioOut_effect h hw, pairWritten v⟩
    · have hw := outEffect_write (s := s) (e := e) (c := c) (a := a) v halign hend (fun h => by omega)
      rw [ioWrite_ignored hport hne] at hw
      exact ⟨_, ioOut_effect h hw, nextPc_computes s e c⟩
  · intro y fold
    refine ⟨fun v => ?_, fun v => ?_, fun k v hk hown hon => ?_, fun rd => ?_⟩
    · obtain ⟨hstep, hregs⟩ := foldPair_step s e c v
      exact ⟨_, exec_pairWordWrite_eq he hrun v, hstep, .of_regOf hregs⟩
    · obtain ⟨hstep, hregs⟩ := foldPair_step s e c v
      exact ⟨_, exec_registerWrite_eq he hrun v rfl (by decide) (fun h => absurd h (by decide)), hstep, .of_regOf hregs⟩
    · have hport : ioPort e (64 * k + 0x08) = e / 24 * 12 + k := by
        unfold ioPort engDie
        omega
      rw [exec_registerWrite_eq he hrun v (by omega) (by omega) fun _ => by rw [hport]; exact ⟨hown, hon⟩,
        ioWrite_port (by omega) (by rwa [hport]), hport, show (64 * k + 0x08) % 64 = 0x08 by omega, writePortReg_pinOut]
    · obtain ⟨hwrote, hctx, heng, hother, hchanges⟩ := tsecLoWritten s e c rd
      rw [latchTime_engAt] at heng
      exact ⟨_, exec_tsecLoRead_eq he hrun rd, hwrote, hctx, by rw [heng], by rw [heng], by rw [heng], hother, hchanges⟩

end Sys2Proof.Machine
end

section
/-! PROOF. O24: PTP messages received, sent and missed. -/

namespace Sys2Proof.Machine

theorem withNet_of_lt {n : Nat} (t : State) (hn : n < 3) : withNet n t = .next t := by
  rw [withNet, decide_eq_true hn, withUnit_true]

/-! ### A received frame (R341) -/

/-- From s to t one frame more is counted at port n, and no other port's state changes. -/
def RxCounted (s t : State) (n : Nat) : Prop :=
  (t.netAt n).rxFrames = (s.netAt n).rxFrames + 1 ∧ ∀ j, j ≠ n → t.netAt j = s.netAt j

theorem countRx_rxCounted (s : State) (n : Nat) : RxCounted s (countRx s n) n :=
  ⟨by rw [countRx, State.modNet_netAt], fun _ hj => State.modNet_netAt_other _ _ _ _ hj⟩

/-- A frame counted, with an effect that leaves the network ports. -/
theorem RxCounted.of_changes {l : List Piece} {s t : State} {n : Nat} (h : Changes l (countRx s n) t)
    (hl : l.contains .netPorts = false) : RxCounted s t n := by
  have hports : t.netPorts = (countRx s n).netPorts := h .netPorts hl
  have hat (j : Nat) : t.netAt j = (countRx s n).netAt j := by rw [State.netAt, hports, State.netAt]
  obtain ⟨hcount, hother⟩ := countRx_rxCounted s n
  exact ⟨by rw [hat, hcount], fun j hj => by rw [hat, hother j hj]⟩

/-! ### The servo's reports (R48, R55) -/

/-- What the servo reports of its last measurement. -/
def Servo.reports (v : Servo) : Int × Nat := (v.lastOffset, v.meanPath)

theorem servoLock_reports (s : State) (off : Int) : (servoLock s off).servo.reports = s.servo.reports := by
  unfold servoLock
  dsimp only
  split_ifs <;> rfl

theorem servoAcquire_reports (s : State) (off : Int) : (servoAcquire s off).servo.reports = s.servo.reports := by
  unfold servoAcquire
  split
  · split
    · exact servoLock_reports _ _
    · rfl
  · dsimp only
    split
    · rfl
    · exact servoLock_reports _ _

theorem servoMeasure_reports (s : State) (off : Int) (gm : Nat) : (servoMeasure s off gm).servo.reports = s.servo.reports := by
  unfold servoMeasure
  dsimp only
  split
  · exact servoAcquire_reports _ _
  · exact servoLock_reports _ _
  · exact servoLock_reports _ _
  · split_ifs <;> rfl
  · rfl

/-! ### Offset measurements (R48, R50, R51) -/

/-- A port's PTP state once an offset measurement of it is complete. -/
def PtpPort.measured (x : PtpPort) (t1 t2 : Int) : PtpPort :=
  { x with
    offset := t2 - t1 - x.pathDelay, syncPair := some (t1, t2), syncIngress := none
    state := if x.state = 8 ∨ x.state = 4 then 9 else x.state }

/-- A measurement on a port that is not the steering port is that port's alone. -/
theorem ptpOffset_elsewhere {s : State} {n : Nat} (t1 t2 : Int) (h : steerPort s n = false) :
    ptpOffset s n t1 t2 = s.modPtp n (fun x => x.measured t1 t2) := by
  unfold ptpOffset
  rw [h]
  rfl

/-- A measurement on the steering port is reported, before the servo takes it. -/
def offsetReported (s : State) (n : Nat) (t1 t2 : Int) : State :=
  let u := s.modPtp n (fun x => x.measured t1 t2)
  { u with servo := { u.servo with
      lastOffset := t2 - t1 - (s.ptpAt n).pathDelay, meanPath := (s.ptpAt n).pathDelay, heardAt := s.ticks } }

theorem ptpOffset_steering {s : State} {n : Nat} (t1 t2 : Int) (h : steerPort s n = true) : ptpOffset s n t1 t2 =
    if s.startAnchor = 0 ∨ servoBuiltin s = false then offsetReported s n t1 t2
    else servoMeasure (offsetReported s n t1 t2) (-(t2 - t1 - (s.ptpAt n).pathDelay)) (s.ptpAt n).gm := by
  unfold ptpOffset
  rw [h]
  rfl

theorem ptpOffset_ptp (s : State) (n : Nat) (t1 t2 : Int) :
    (ptpOffset s n t1 t2).ptp = (s.modPtp n (fun x => x.measured t1 t2)).ptp := by
  cases h : steerPort s n with
  | false => rw [ptpOffset_elsewhere t1 t2 h]
  | true =>
    rw [ptpOffset_steering t1 t2 h]
    split
    · rfl
    · exact (servoMeasure_changes _ _ _) .ptp rfl

theorem ptpOffset_reports {s : State} {n : Nat} (t1 t2 : Int) (h : steerPort s n = true) :
    (ptpOffset s n t1 t2).servo.reports = (t2 - t1 - (s.ptpAt n).pathDelay, (s.ptpAt n).pathDelay) := by
  rw [ptpOffset_steering t1 t2 h]
  split
  · rfl
  · exact servoMeasure_reports _ _ _

/-- Only a servo that steers by the port touches the time base. -/
theorem ptpOffset_time {s : State} {n : Nat} (t1 t2 : Int) (h : steers s n = false) : (ptpOffset s n t1 t2).time = s.time := by
  cases hport : steerPort s n with
  | false =>
    rw [ptpOffset_elsewhere t1 t2 hport]
    rfl
  | true =>
    have hmode : servoBuiltin s = false := by simpa [steers, hport] using h
    rw [ptpOffset_steering t1 t2 hport, if_pos (.inr hmode)]
    rfl

/-- What a complete offset measurement leaves, as R48, R50 and R51 give it. -/
structure Measured (s t : State) (n : Nat) (t1 t2 : Int) : Prop where
  offset : (t.ptpAt n).offset = t2 - t1 - (s.ptpAt n).pathDelay
  ingress : (t.ptpAt n).syncIngress = none
  pair : (t.ptpAt n).syncPair = some (t1, t2)
  others : ∀ j, j ≠ n → t.ptpAt j = s.ptpAt j
  counts : RxCounted s t n
  elsewhere : steerPort s n = false → Changes [.ptp, .netPorts] s t
  lastOffset : steerPort s n = true → t.servo.lastOffset = t2 - t1 - (s.ptpAt n).pathDelay
  meanPath : steerPort s n = true → t.servo.meanPath = (s.ptpAt n).pathDelay
  changes : Changes [.time, .servo, .ptp, .netPorts] s t
  time : steers s n = false → t.time = s.time

theorem ptpOffset_measured (s : State) (n : Nat) (t1 t2 : Int) : Measured s (ptpOffset (countRx s n) n t1 t2) n t1 t2 := by
  have hptp (j : Nat) : (ptpOffset (countRx s n) n t1 t2).ptpAt j =
      ((countRx s n).modPtp n (fun x => x.measured t1 t2)).ptpAt j := by
    rw [State.ptpAt, ptpOffset_ptp, State.ptpAt]
  have hmine : (ptpOffset (countRx s n) n t1 t2).ptpAt n = (s.ptpAt n).measured t1 t2 := by
    rw [hptp, State.modPtp_ptpAt]
    rfl
  have hchanges := ptpOffset_changes (countRx s n) n t1 t2
  refine ⟨by rw [hmine]; rfl, by rw [hmine]; rfl, by rw [hmine]; rfl, fun j hj => ?_, .of_changes hchanges rfl, fun h => ?_,
    fun h => (congrArg Prod.fst (ptpOffset_reports (s := countRx s n) t1 t2 h) :),
    fun h => (congrArg Prod.snd (ptpOffset_reports (s := countRx s n) t1 t2 h) :),
    .after (.after (.refl _ _) (countRx_changes s n) rfl) hchanges rfl, fun h => ptpOffset_time t1 t2 h⟩
  · rw [hptp, State.modPtp_ptpAt_other _ _ _ _ hj]
    rfl
  · rw [ptpOffset_elsewhere (s := countRx s n) t1 t2 h]
    exact .after (.after (.refl _ _) (countRx_changes s n) rfl) (State.modPtp_changes _ n _) rfl

section
variable {s : State} {n domain : Nat} (hn : n < 3) (hlive : portLive s n = true)
include hn hlive

theorem exec_ptpMessageDiscard_eq : exec (.ptpMessageDiscard n) s = .next (countRx s n) := by
  rw [exec_ptpMessageDiscard, execPtpMessageDiscard, withNet_of_lt _ hn, hlive, given_true]

section
variable (hhears : ptpHears s n domain = true) (hrole : (s.ptpAt n).state ≠ 6)
include hhears hrole

theorem exec_ptpSyncReceive_eq (twoStep : Bool) (t1 : Int) : exec (.ptpSyncReceive n domain twoStep t1) s = .next (
    if twoStep then (countRx s n).modPtp n (fun x => { x with syncIngress := some (ingressNs s n) })
    else ptpOffset (countRx s n) n t1 (ingressNs s n)) := by
  have hwant : (ptpHears s n domain && (s.ptpAt n).state != 6) = true := by simp [hhears, hrole]
  rw [exec_ptpSyncReceive, execPtpSyncReceive, withNet_of_lt _ hn, hlive, given_true]
  simp only [hwant, if_true]

theorem exec_ptpFollowUpReceive_eq (t1 : Int) {t2 : Int} (h : (s.ptpAt n).syncIngress = some t2) :
    exec (.ptpFollowUpReceive n domain t1) s = .next (ptpOffset (countRx s n) n t1 t2) := by
  have hwant : (ptpHears s n domain && (s.ptpAt n).state != 6) = true := by simp [hhears, hrole]
  rw [exec_ptpFollowUpReceive, execPtpFollowUpReceive, withNet_of_lt _ hn, hlive, given_true]
  simp only [h, hwant, if_true]

end

omit hn hlive in
/-- A two-step Sync keeps its receive time (R51). -/
theorem syncKept (v : Int) : let t := (countRx s n).modPtp n (fun x => { x with syncIngress := some v })
    t.ptpAt n = { s.ptpAt n with syncIngress := some v } ∧ RxCounted s t n ∧ Changes [.ptp, .netPorts] s t := by
  have hchanges := State.modPtp_changes (countRx s n) n (fun x => { x with syncIngress := some v })
  exact ⟨State.modPtp_ptpAt _ _ _, .of_changes hchanges rfl, .after (.after (.refl _ _) (countRx_changes s n) rfl) hchanges rfl⟩

end

/-! ### Delay responses (R51) -/

/-- A halved delay held to 32 bits; below zero the rounding does not show. -/
theorem delay_held (x : Int) : ((clampInt 0 4294967295 (x.tdiv 2)).toNat : Int) = max 0 (min 4294967295 (x / 2)) := by
  by_cases h : 0 ≤ x
  · rw [Int.tdiv_eq_ediv_of_nonneg h]
    unfold clampInt
    split
    · omega
    · split <;> omega
  · have hneg : x.tdiv 2 ≤ 0 := by
      have := Int.neg_tdiv (a := x) (b := 2)
      have := Int.tdiv_nonneg (a := -x) (b := 2) (by omega) (by omega)
      omega
    unfold clampInt
    split
    · omega
    · split <;> omega

/-- The machine once port n has taken a path delay of the halved value x. -/
def delayTaken (s : State) (n : Nat) (x : Int) : State :=
  let v := (clampInt 0 4294967295 (x.tdiv 2)).toNat
  let u := (countRx s n).modPtp n (fun y => { y with pathDelay := v, reqEgress := none })
  if steerPort s n then { u with servo := { u.servo with meanPath := v } } else u

theorem delayTaken_effect (s : State) (n : Nat) (x : Int) : RxCounted s (delayTaken s n x) n ∧
    (((delayTaken s n x).ptpAt n).pathDelay : Int) = max 0 (min 4294967295 (x / 2)) ∧
      ((delayTaken s n x).ptpAt n).reqEgress = none := by
  have hchanges := State.modPtp_changes (countRx s n) n (fun y => { y with
    pathDelay := (clampInt 0 4294967295 (x.tdiv 2)).toNat, reqEgress := none })
  have hport : (delayTaken s n x).ptpAt n = { s.ptpAt n with
      pathDelay := (clampInt 0 4294967295 (x.tdiv 2)).toNat, reqEgress := none } := by
    have hptp : (delayTaken s n x).ptp = ((countRx s n).modPtp n (fun y => { y with
        pathDelay := (clampInt 0 4294967295 (x.tdiv 2)).toNat, reqEgress := none })).ptp := by
      unfold delayTaken
      dsimp only
      split <;> rfl
    rw [State.ptpAt, hptp]
    exact State.modPtp_ptpAt _ _ _
  refine ⟨?_, ?_, ?_⟩
  · have hcount := RxCounted.of_changes (s := s) hchanges rfl
    unfold delayTaken
    dsimp only
    split
    · exact hcount
    · exact hcount
  · rw [hport]
    exact delay_held x
  · rw [hport]

section
variable {s : State} {n domain : Nat} (hn : n < 3) (hlive : portLive s n = true) (hhears : ptpHears s n domain = true)
include hn hlive hhears

theorem exec_ptpDelayResponse_endToEnd {t1 t2 t3 : Int} (t4 : Int) (hpair : (s.ptpAt n).syncPair = some (t1, t2))
    (hreq : (s.ptpAt n).reqEgress = some t3) :
    exec (.ptpDelayResponseReceive n domain t4 none) s = .next (delayTaken s n ((t2 - t1) + (t4 - t3))) := by
  rw [exec_ptpDelayResponseReceive, execPtpDelayResponseReceive, withNet_of_lt _ hn, hlive, given_true]
  simp only [hhears, hpair, hreq]
  rfl

theorem exec_ptpDelayResponse_peer {t3 : Int} (t4 r : Int) (hreq : (s.ptpAt n).reqEgress = some t3) :
    exec (.ptpDelayResponseReceive n domain t4 (some r)) s = .next (delayTaken s n (ingressNs s n - t3 - r)) := by
  rw [exec_ptpDelayResponseReceive, execPtpDelayResponseReceive, withNet_of_lt _ hn, hlive, given_true]
  simp only [hhears, hreq]
  rfl

/-! ### Delay requests and Announces received (R49, R51, R52) -/

theorem exec_ptpDelayRequestReceive_eq {peer : Bool}
    (hrole : if peer then cfg s (0x3100 + 16 * n) 2 0 = 1 else (s.ptpAt n).state = 6) :
    exec (.ptpDelayRequestReceive n domain peer) s =
      .next (enqueueFrame (countRx s n) n (ptpFrame 19 (ptpStamp (ingressNs s n)))) := by
  have hanswers : (if peer then cfg s (ptpIdx n) 2 0 == 1 else (s.ptpAt n).state == 6) = true := by
    cases peer <;> simpa [ptpIdx] using hrole
  rw [exec_ptpDelayRequestReceive, execPtpDelayRequestReceive, withNet_of_lt _ hn, hlive, given_true]
  simp only [hhears, hanswers, Bool.and_self, if_true]

/-- The machine once a port that hears its first master has taken its Announce. -/
def masterHeard (s : State) (n gm vector : Nat) (utc : Int) : State :=
  let u := (newGrandmaster (countRx s n) n gm).modPtp n (fun y => { y with
    gm := gm, gmPrio := vector, state := if y.state = 9 then 9 else 8 })
  if steerPort s n then { u with time := { u.time with utcOffset := utc } } else u

theorem exec_ptpAnnounceReceive_eq (p1 cls acc var p2 gm : Nat) (utc : Int) (hrole : cfg s (0x3100 + 16 * n) 4 2 = 0)
    (hprio : (s.ptpAt n).gmPrio = 0) : exec (.ptpAnnounceReceive n domain p1 cls acc var p2 gm utc) s =
      .next (masterHeard s n gm (ptpVector p1 cls acc var p2 gm) utc) := by
  have hrole' : cfg s (ptpIdx n) 4 2 = 0 := hrole
  rw [exec_ptpAnnounceReceive, execPtpAnnounceReceive, withNet_of_lt _ hn, hlive, given_true]
  simp only [hhears, hrole', hprio, Bool.not_true, Bool.false_eq_true, if_false, true_or, or_true, if_true, false_and, or_self,
    OfNat.zero_ne_ofNat, zero_ne_one]
  rfl

end

theorem masterHeard_effect (s : State) (n gm vector : Nat) (utc : Int) :
    let t := masterHeard s n gm vector utc
    RxCounted s t n ∧ (t.ptpAt n).gm = gm ∧ (t.ptpAt n).state = (if (s.ptpAt n).state = 9 then 9 else 8) ∧
      (steerPort s n = true → t.time.utcOffset = utc) ∧ (steerPort s n = false → t.time = s.time) := by
  have hgm := newGrandmaster_changes (countRx s n) n gm
  have hptp : (newGrandmaster (countRx s n) n gm).ptpAt n = s.ptpAt n := by
    rw [State.ptpAt, hgm .ptp rfl]
    rfl
  have hcount := RxCounted.of_changes (s := s) (.after (.after (.refl [.servo, .ptp] _) hgm rfl) (State.modPtp_changes _ n
    (fun y => { y with gm := gm, gmPrio := vector, state := if y.state = 9 then 9 else 8 })) rfl) rfl
  intro t
  cases hport : steerPort s n with
  | false =>
    have ht : t = (newGrandmaster (countRx s n) n gm).modPtp n (fun y => { y with
        gm := gm, gmPrio := vector, state := if y.state = 9 then 9 else 8 }) := by
      simp only [t, masterHeard, hport]
      rfl
    rw [ht]
    refine ⟨hcount, by rw [State.modPtp_ptpAt], by rw [State.modPtp_ptpAt, hptp], nofun, fun _ => hgm .time rfl⟩
  | true =>
    have ht (j : Nat) : t.ptpAt j = ((newGrandmaster (countRx s n) n gm).modPtp n (fun y => { y with
        gm := gm, gmPrio := vector, state := if y.state = 9 then 9 else 8 })).ptpAt j := by
      simp only [t, masterHeard, hport]
      rfl
    refine ⟨?_, by rw [ht, State.modPtp_ptpAt], by rw [ht, State.modPtp_ptpAt, hptp], fun _ => ?_, nofun⟩
    · simp only [t, masterHeard, hport]
      exact hcount
    · simp only [t, masterHeard, hport]
      rfl

/-! ### Messages sent (R51, R53, R54) -/

/-- The machine once port n has queued a PTP message. -/
def ptpQueued (s : State) (n : Nat) (f : Frame) : State := (enqueueFrame s n f).modPtp n (fun x => { x with sent := x.sent + 1 })

theorem enqueueFrame_netAt_other (s : State) {n j : Nat} (f : Frame) (hj : j ≠ n) : (enqueueFrame s n f).netAt j = s.netAt j :=
  State.modNet_netAt_other _ _ _ _ hj

theorem ptpQueued_effect (s : State) (n : Nat) (f : Frame) :
    let t := ptpQueued s n f
    (t.netAt n).waiting = (s.netAt n).waiting ++ [{ f with since := s.time.elapsed }] ∧
      t.ptpAt n = { s.ptpAt n with sent := (s.ptpAt n).sent + 1 } ∧
      (∀ j, j ≠ n → t.netAt j = s.netAt j ∧ t.ptpAt j = s.ptpAt j) ∧ Changes [.ptp, .netPorts] s t := by
  refine ⟨?_, State.modPtp_ptpAt _ _ _, fun j hj => ⟨enqueueFrame_netAt_other s f hj, State.modPtp_ptpAt_other _ _ _ _ hj⟩,
    .after (.after (.refl _ _) (enqueueFrame_changes s n f) rfl) (State.modPtp_changes _ n _) rfl⟩
  have hwait : ((enqueueFrame s n f).netAt n).waiting = (s.netAt n).waiting ++ [{ f with since := s.time.elapsed }] := by
    rw [enqueueFrame, State.modNet_netAt]
    rfl
  exact hwait

section
variable {s : State} {n : Nat} (hn : n < 3) (hlive : portLive s n = true) (henabled : ptpEnabled s n = true)
include hn hlive henabled

theorem exec_ptpSyncSend_eq (hrole : (s.ptpAt n).state = 6) : exec (.ptpSyncSend n) s =
    .next (ptpQueued s n { ptpFrame 16 [] with flags := if cfg s (ptpIdx n) 5 1 = 1 then 0 else 2 }) := by
  rw [exec_ptpSyncSend, execPtpSyncSend, withNet_of_lt _ hn, hlive, henabled, hrole]
  rfl

theorem exec_ptpDelayRequestSend_eq (hrole : (s.ptpAt n).state = 8 ∨ (s.ptpAt n).state = 9) :
    exec (.ptpDelayRequestSend n) s = .next (ptpQueued s n (ptpFrame 17 [])) := by
  have hfollows : ((s.ptpAt n).state == 8 || (s.ptpAt n).state == 9 || cfg s (ptpIdx n) 2 0 == 1) = true := by
    obtain h | h := hrole <;> simp [h]
  rw [exec_ptpDelayRequestSend, execPtpDelayRequestSend, withNet_of_lt _ hn, hlive, henabled, hfollows]
  rfl

theorem exec_ptpAnnounceSend_eq (hrole : (s.ptpAt n).state = 6) : ∃ pl, exec (.ptpAnnounceSend n) s =
    .next (ptpQueued s n (ptpFrame 18 pl)) := by
  rw [exec_ptpAnnounceSend, execPtpAnnounceSend, withNet_of_lt _ hn, hlive, henabled, hrole]
  exact ⟨_, rfl⟩

end

/-! ### Timeouts (R48, R49, R51) -/

section
variable {s : State} {n : Nat} (hn : n < 3)
include hn

theorem exec_syncTimeout_eq (hsteers : steers s n = true) (hstatus : s.servo.status = 1 ∨ s.servo.status = 2 ∨ s.servo.status = 3)
    (hdue : s.servo.heardAt + cfg s 0x3020 7 4 * syncTicks s n ≤ s.time.elapsed) : exec (.syncTimeout n) s =
      .next { s with servo := { s.servo with status := 4, valid := 0, count := 0, meas := [] } } := by
  have hdue' : decide (s.servo.heardAt + cfg s 0x3020 7 4 * syncTicks s n ≤ s.ticks) = true := decide_eq_true hdue
  rw [exec_syncTimeout, execSyncTimeout, withNet_of_lt _ hn, hsteers, hdue', Bool.and_self, given_true, servoHoldover,
    if_pos hstatus]

variable (henabled : ptpEnabled s n = true) (hmaster : (s.ptpAt n).state ≠ 6) (hoff : (s.ptpAt n).state ≠ 3)
include henabled hmaster hoff

theorem exec_announceReceiptTimeout_eq : exec (.announceReceiptTimeout n) s = .next (
    if cfg s (ptpIdx n) 4 2 = 0 then s.modPtp n PtpPort.listen
    else (newGrandmaster s n (ownIdentity s)).modPtp n (fun x => x.master (ownIdentity s) (ownVector s n))) := by
  have hfollows : (ptpEnabled s n && (s.ptpAt n).state != 6 && (s.ptpAt n).state != 3) = true := by simp [henabled, hmaster, hoff]
  rw [exec_announceReceiptTimeout, execAnnounceReceiptTimeout, withNet_of_lt _ hn, hfollows, given_true]

end

/-- A port that takes the master role names the hub's own identity (R54). -/
theorem ownMaster_effect (s : State) (n : Nat) :
    let t := (newGrandmaster s n (ownIdentity s)).modPtp n (fun x => x.master (ownIdentity s) (ownVector s n))
    (t.ptpAt n).state = 6 ∧ (t.ptpAt n).gm = ownIdentity s ∧ (∀ j, j ≠ n → t.ptpAt j = s.ptpAt j) ∧ Changes [.servo, .ptp] s t := by
  have hgm := newGrandmaster_changes s n (ownIdentity s)
  refine ⟨by rw [State.modPtp_ptpAt]; rfl, by rw [State.modPtp_ptpAt]; rfl, fun j hj => ?_,
    .after (.after (.refl _ _) hgm rfl) (State.modPtp_changes _ n _) rfl⟩
  rw [State.modPtp_ptpAt_other _ _ _ _ hj, State.ptpAt, hgm .ptp rfl, State.ptpAt]

/-! ### The statement -/

/-- Settles O24: each message and each timeout by the effect of its command. -/
theorem ptpMessagesAreTakenAndSent : Obligations.PtpMessagesAreTakenAndSent := by
  refine ⟨fun s n domain hn hlive => ?_, fun s n hn => ?_⟩
  · intro x now counts measured
    have hmeasured {t : State} {t1 t2 : Int} (h : Measured s t n t1 t2) : measured t t1 t2 :=
      ⟨h.offset, h.ingress, h.pair, h.others, h.counts, h.elsewhere, fun hs => ⟨h.lastOffset hs, h.meanPath hs, h.changes⟩, h.time⟩
    refine ⟨⟨_, exec_ptpMessageDiscard_eq hn hlive, countRx_rxCounted s n, countRx_changes s n⟩,
      fun hhears hrole t1 => ?_, fun hhears hrole t1 => ?_, fun t1 t2 hhears hrole hsync => ?_,
      fun t1 t2 t3 t4 hhears hpair hreq => ?_, fun t3 t4 r hhears hreq => ?_, fun peer hhears hrole => ?_,
      fun p1 cls acc var p2 gm utc hhears hrole hprio _ => ?_⟩
    · exact ⟨_, exec_ptpSyncReceive_eq hn hlive hhears hrole false t1, hmeasured (ptpOffset_measured s n t1 _)⟩
    · exact ⟨_, exec_ptpSyncReceive_eq hn hlive hhears hrole true t1, syncKept _⟩
    · exact ⟨_, exec_ptpFollowUpReceive_eq hn hlive hhears hrole t1 hsync, hmeasured (ptpOffset_measured s n t1 t2)⟩
    · exact ⟨_, exec_ptpDelayResponse_endToEnd hn hlive hhears t4 hpair hreq, delayTaken_effect s n _⟩
    · exact ⟨_, exec_ptpDelayResponse_peer hn hlive hhears t4 r hreq, delayTaken_effect s n _⟩
    · refine ⟨_, exec_ptpDelayRequestReceive_eq hn hlive hhears hrole, ?_, ?_,
        .after (.after (.refl _ _) (countRx_changes s n) rfl) (enqueueFrame_changes _ n _) rfl⟩
      · simp [enqueueFrame, countRx]
      · simp [enqueueFrame, countRx]
    · exact ⟨_, exec_ptpAnnounceReceive_eq hn hlive hhears p1 cls acc var p2 gm utc hrole hprio, masterHeard_effect s n gm _ utc⟩
  · intro x sends
    have hsends {i : Instr} {f : Frame} (h : exec i s = .next (ptpQueued s n f)) : sends i f.op := by
      obtain ⟨hwait, hport, hother, hchanges⟩ := ptpQueued_effect s n f
      exact ⟨_, _, h, hwait, rfl, rfl, hport, hother, hchanges⟩
    refine ⟨fun hlive henabled hrole => hsends (exec_ptpSyncSend_eq hn hlive henabled hrole),
      fun hlive henabled hrole => hsends (exec_ptpDelayRequestSend_eq hn hlive henabled hrole), fun hlive henabled hrole => ?_,
      exec_syncTimeout_eq hn, fun henabled hrole hmaster hoff => ?_, fun henabled hrole hmaster hoff => ?_⟩
    · obtain ⟨pl, h⟩ := exec_ptpAnnounceSend_eq hn hlive henabled hrole
      exact hsends h
    · rw [exec_announceReceiptTimeout_eq hn henabled hmaster hoff, if_pos (by exact hrole)]
      rfl
    · have hexec := exec_announceReceiptTimeout_eq hn henabled hmaster hoff
      rw [if_neg (by exact hrole)] at hexec
      exact ⟨_, hexec, ownMaster_effect s n⟩

end Sys2Proof.Machine
end

section
/-! PROOF. O7: a dispatched COMP wait retires its slot for whichever context the slot names. -/

namespace Sys2Proof.Machine

/-- Refutes O7: the dispatch clause keeps every other context of the engine, with no hypothesis on whose slot the wait names. In
the state below context 0 waits for the completed slot 5 of context 1, and its dispatch takes ticket 5 out of context 1. -/
theorem not_awaitReturnsSuspendsAndResumes : ¬ Obligations.AwaitReturnsSuspendsAndResumes := by
  intro h
  let s : State := { State.reset with
    die := [(0, { slots := [(5, { state := 4, engine := 0, ctx := 1 })] })]
    engine := [(0, {
      ctxs := [(0, { live := true, began := true, await := some { kind := 0, arg := 5 }, budgetEnd := 1 }),
        (1, { live := true, tickets := [5] })]
      ready := [0] })] }
  obtain ⟨-, -, hdispatch⟩ := h.2 s 0 0 (by decide)
  obtain ⟨t, hexec, -, -, hother, -⟩ := hdispatch [] rfl rfl (by decide) (by decide) (by decide)
  have hnext : exec (.contextDispatch 0) s = .next (takeEngine s 0 0 []) := rfl
  obtain rfl : takeEngine s 0 0 [] = t := by simpa [hnext] using hexec
  have hkept := congrArg Ctx.tickets (hother 1 (by decide))
  exact absurd hkept (by decide)

end Sys2Proof.Machine
end

section
/-! PROOF. O17: the start of a port operation. -/

namespace Sys2Proof.Machine

/-! ### Slots of a port's die -/

theorem modSlot_slotOf (s : State) (n k : Nat) (g : Slot → Slot) : slotOf (s.modSlot (n / 12) k g) n k = g (slotOf s n k) := by
  simp [slotOf, State.modSlot, Die.slotAt]

theorem modSlot_slotOf_other (s : State) (n : Nat) {j k : Nat} (g : Slot → Slot) (h : j ≠ k) :
    slotOf (s.modSlot (n / 12) k g) n j = slotOf s n j := by
  simp [slotOf, State.modSlot, Die.slotAt, h]

/-- From s to t slot k of port n's die becomes y, and the die's other slots and the port's queue stay. -/
structure SlotTaken (s t : State) (n k : Nat) (y : Slot) : Prop where
  slot : slotOf t n k = y
  queue : (t.portAt n).queue = (s.portAt n).queue
  others : ∀ j, j ≠ k → slotOf t n j = slotOf s n j

theorem modSlot_taken (s : State) (n k : Nat) (g : Slot → Slot) : SlotTaken s (s.modSlot (n / 12) k g) n k (g (slotOf s n k)) :=
  ⟨modSlot_slotOf _ _ _ _, rfl, fun _ hj => modSlot_slotOf_other _ _ _ hj⟩

theorem modPort_modSlot_taken (s : State) (n k : Nat) (p : Port → Port) (g : Slot → Slot)
    (hp : (p (s.portAt n)).queue = (s.portAt n).queue) :
    SlotTaken s ((s.modPort n p).modSlot (n / 12) k g) n k (g (slotOf s n k)) := by
  obtain ⟨hslot, hqueue, hothers⟩ := modSlot_taken (s.modPort n p) n k g
  exact ⟨hslot, by rw [hqueue, State.modPort_portAt, hp], hothers⟩

theorem modSlot_portOnly (s : State) (n k : Nat) (g : Slot → Slot) : PortOnly [.die] s (s.modSlot (n / 12) k g) n :=
  ⟨fun _ _ => rfl, State.modSlot_changes _ _ _ _⟩

theorem modPort_modSlot_portOnly (s : State) (n k : Nat) (p : Port → Port) (g : Slot → Slot) :
    PortOnly [.die, .port] s ((s.modPort n p).modSlot (n / 12) k g) n :=
  ⟨fun _ hj => State.modPort_portAt_other _ _ _ _ hj,
    .after (.after (.refl _ _) (State.modPort_changes _ _ _) rfl) (State.modSlot_changes _ _ _ _) rfl⟩

/-! ### The operation at the head of the queue (R57, R162) -/

/-- An operation that runs: ACTIVE, with its stamp and the bytes it sends. -/
def Slot.running (y : Slot) (stamped : Bool) (stamp : BitVec 52) (bytes : List Byte) : Slot :=
  { y with state := 3, stamped := stamped, stamp := stamp, wdata := bytes }

/-- The samples of a port before its first conversion. -/
def Port.noSamples (x : Port) : Port := { x with samples := [], stepped := false, patchNext := false }

/-- A port whose ramp starts at a tick. -/
def Port.rampsAt (x : Port) (at_ : Nat) : Port := { x with rampRestarts := x.rampRestarts + 1, rampAt := at_, rampEdge := none }

theorem headSlot_of_headOp {s : State} {n k state kind : Nat} (h : HeadOp s n k state kind) : headSlot s n state = some k := by
  obtain ⟨hhead, hstate, -, -⟩ := h
  obtain ⟨rest, hqueue⟩ := List.head?_eq_some_iff.mp hhead
  have hstate' : ((s.dieAt (portDie n)).slotAt k).state = state := hstate
  simp only [headSlot, hqueue, hstate', if_true]

section
variable {s : State} {n k : Nat} (bins : Nat) (hport : hasPort s n) (hready : portReady s n = true)
include hport hready

theorem exec_start_spi (h : HeadOp s n k 2 1) (hmode : (s.portAt n).mode = 2) : exec (.portOperationStart n bins) s =
    .next (s.modSlot (n / 12) k fun z => z.running true (captureAt s n 3 bins) (sendBytes s (slotOf s n k))) := by
  have hkind : ((s.dieAt (portDie n)).slotAt k).kind = 1 := h.2.2.1
  have hfits : modeFits s n 1 = true := beq_iff_eq.mpr hmode
  rw [exec_portOperationStart, execPortOperationStart, withPort, decide_eq_true hport, withUnit_true, headSlot_of_headOp h]
  simp only [hready, hkind, hfits, Bool.and_self, given_true]
  rfl

theorem exec_start_uart (h : HeadOp s n k 2 2) (hmode : (s.portAt n).mode = 3) : exec (.portOperationStart n bins) s =
    .next ((s.modPort n fun x => { x with uartIdle := false }).modSlot (n / 12) k fun z =>
      z.running (field (slotOf s n k).d0.toNat 8 0 != 0)
        (if field (slotOf s n k).d0.toNat 8 0 != 0 then captureAt s n 0 bins else z.stamp) (sendBytes s (slotOf s n k))) := by
  have hkind : ((s.dieAt (portDie n)).slotAt k).kind = 2 := h.2.2.1
  have hfits : modeFits s n 2 = true := beq_iff_eq.mpr hmode
  rw [exec_portOperationStart, execPortOperationStart, withPort, decide_eq_true hport, withUnit_true, headSlot_of_headOp h]
  simp only [hready, hkind, hfits, Bool.and_self, given_true]
  rfl

section
variable (h : HeadOp s n k 2 3) (hmode : (s.portAt n).mode = 4)
include h hmode

theorem exec_start_conversions (hana : anaKind (slotOf s n k).d0 = 0) (hcal : (s.portAt n).calOffline = false)
    (hsettled : (s.portAt n).settling = false) : exec (.portOperationStart n bins) s =
      .next ((s.modPort n Port.noSamples).modSlot (n / 12) k fun z =>
        z.running true (captureAt s n 5 bins) (sendBytes s (slotOf s n k))) := by
  have hkind : ((s.dieAt (portDie n)).slotAt k).kind = 3 := h.2.2.1
  have hfits : modeFits s n 3 = true := beq_iff_eq.mpr hmode
  have hana' : anaKind ((s.dieAt (portDie n)).slotAt k).d0 = 0 := hana
  rw [exec_portOperationStart, execPortOperationStart, withPort, decide_eq_true hport, withUnit_true, headSlot_of_headOp h]
  simp only [hready, hkind, hfits, hana', hcal, hsettled, Bool.not_false, Bool.and_self, given_true, if_true]
  rfl

theorem exec_start_ramp (hana : anaKind (slotOf s n k).d0 = 2) : exec (.portOperationStart n bins) s =
    .next ((s.modPort n fun x => x.rampsAt s.ticks).modSlot (n / 12) k fun z =>
      z.running false z.stamp (sendBytes s (slotOf s n k))) := by
  have hkind : ((s.dieAt (portDie n)).slotAt k).kind = 3 := h.2.2.1
  have hfits : modeFits s n 3 = true := beq_iff_eq.mpr hmode
  have hana' : anaKind ((s.dieAt (portDie n)).slotAt k).d0 = 2 := hana
  rw [exec_portOperationStart, execPortOperationStart, withPort, decide_eq_true hport, withUnit_true, headSlot_of_headOp h]
  simp only [hready, hkind, hfits, hana', Bool.and_self, given_true]
  rfl

end

theorem exec_start_pulse (h : HeadOp s n k 2 4) (hfits : modeFits s n 4 = true) : exec (.portOperationStart n bins) s =
    .next (emitterRequest s n k bins) := by
  have hkind : ((s.dieAt (portDie n)).slotAt k).kind = 4 := h.2.2.1
  rw [exec_portOperationStart, execPortOperationStart, withPort, decide_eq_true hport, withUnit_true, headSlot_of_headOp h]
  simp only [hready, hkind, hfits, Bool.and_self, given_true]

end

/-! ### What an operation sends (R98, R163, R164) -/

theorem sendBytes_spi {s : State} {y : Slot} (h : y.kind = 1) : sendBytes s y =
    Memory.readBytes (s.engAt y.engine).scratch (4 * field y.d1.toNat 7 0)
      (if field y.d0.toNat 7 0 = 0 then 256 else field y.d0.toNat 7 0) := by
  simp only [sendBytes, h, Nat.mul_comm 4, spiLen]

theorem sendBytes_uart {s : State} {y : Slot} (h : y.kind = 2) : sendBytes s y =
    Memory.readBytes (s.engAt y.engine).scratch (4 * field y.d1.toNat 7 0) (field y.d0.toNat 8 0) := by
  simp only [sendBytes, h, Nat.mul_comm 4]

theorem sendBytes_ana {s : State} {y : Slot} (h : y.kind = 3) : sendBytes s y = [] := by
  simp only [sendBytes, h]

/-! ### The request of an emitter (R79) -/

theorem mem_addOnce (l : List Nat) (k : Nat) : k ∈ addOnce l k := by
  unfold addOnce
  split
  · simpa using ‹l.contains k = true›
  · simp

theorem emitterRequest_granted {s : State} {n : Nat} (k bins : Nat) (hwait : (s.dieAt (n / 12)).govWait = [])
    (hheld : (s.dieAt (n / 12)).govHeld.length < 4) : emitterRequest s n k bins = emitterFire s n k bins false := by
  have hwait' : (s.dieAt (portDie n)).govWait = [] := hwait
  have hheld' : (s.dieAt (portDie n)).govHeld.length < 4 := hheld
  simp [emitterRequest, hwait', hheld']

/-- An emitter that is granted its slot at once sinks from now on. -/
theorem emitterFire_effect (s : State) (n k bins : Nat) :
    let t := emitterFire s n k bins false
    (t.portAt n).emSink = true ∧ n ∈ (t.dieAt (n / 12)).govHeld ∧
      slotOf t n k = { slotOf s n k with state := 3, stamped := true, stamp := captureAt s n 4 bins } ∧
        PortOnly [.die, .port] s t n := by
  have hslot : slotOf (emitterStart s n) n k = slotOf s n k := by
    simp [slotOf, emitterStart, portDie, Die.slotAt]
  refine ⟨?_, ?_, ?_, fun j hj => ?_, emitterFire_changes _ _ _ _ _⟩
  · simp [emitterFire, emitterStart, State.modSlot]
  · simp [emitterFire, emitterStart, State.modSlot, portDie, mem_addOnce]
  · have := modSlot_slotOf (emitterStart s n) n k fun x => { x with
      state := 3, stamped := true, stamp := captureAt s n 4 bins, deferred := x.deferred || false }
    rw [hslot, Bool.or_false] at this
    exact this
  · simp [emitterFire, emitterStart, State.modSlot, hj]

/-- The machine once an emitter's request waits behind the earlier ones. -/
def emitterWaits (s : State) (n k : Nat) : State :=
  ((s.modDie (n / 12) fun y => { y with govWait := y.govWait ++ [n] }).modSlot (n / 12) k fun y =>
    { y with heldAt := s.ticks }).modPort n fun y => { y with emBusy := true }

theorem emitterRequest_waits {s : State} {n : Nat} (k bins : Nat) (hnew : n ∉ (s.dieAt (n / 12)).govWait)
    (hfull : (s.dieAt (n / 12)).govWait ≠ [] ∨ 4 ≤ (s.dieAt (n / 12)).govHeld.length) :
    emitterRequest s n k bins = emitterWaits s n k := by
  have hnew' : (s.dieAt (portDie n)).govWait.contains n = false := by simpa [portDie] using hnew
  have hfull' : ¬((s.dieAt (portDie n)).govHeld.length < 4 ∧ (s.dieAt (portDie n)).govWait = []) := by
    rintro ⟨hheld, hwait⟩
    exact hfull.elim (· hwait) (Nat.not_le.mpr hheld)
  unfold emitterRequest
  dsimp only
  rw [hnew', if_neg Bool.false_ne_true, if_neg hfull']
  rfl

theorem emitterWaits_effect (s : State) (n k : Nat) :
    let t := emitterWaits s n k
    (t.dieAt (n / 12)).govWait = (s.dieAt (n / 12)).govWait ++ [n] ∧
      slotOf t n k = { slotOf s n k with heldAt := s.ticks } ∧ t.portAt n = { s.portAt n with emBusy := true } ∧
        PortOnly [.die, .port] s t n := by
  refine ⟨?_, ?_, ?_, fun j hj => ?_, ?_⟩
  · simp [emitterWaits, State.modSlot]
  · simp [emitterWaits, State.modSlot, slotOf, Die.slotAt]
  · simp [emitterWaits, State.modSlot]
  · simp [emitterWaits, State.modSlot, hj]
  · exact .after (.after (.after (.refl _ _) (State.modDie_changes _ _ _) rfl) (State.modSlot_changes _ _ _ _) rfl)
      (State.modPort_changes _ _ _) rfl

/-! ### The statement -/

/-- Settles O17: each kind of operation by what its start leaves. -/
theorem portOperationsReachThePins : Obligations.PortOperationsReachThePins := by
  intro s n k bins hport hready x y d m starts
  have hstarts {t : State} {y' : Slot} {l : List Piece} (hexec : exec (.portOperationStart n bins) s = .next t)
      (htaken : SlotTaken s t n k y') (honly : PortOnly l s t n) : starts y' l :=
    ⟨t, hexec, htaken.slot, htaken.queue, htaken.others, honly⟩
  refine ⟨fun h hmode => ?_, fun h hmode => ?_, fun h hmode hana hcal hsettled => ?_, fun h hmode hana => ?_,
    fun h hfits hwait hheld => ?_, fun h hfits hnew hfull => ?_⟩
  · rw [← sendBytes_spi h.2.2.1]
    exact hstarts (exec_start_spi bins hport hready h hmode) (modSlot_taken s n k _) (modSlot_portOnly s n k _)
  · rw [← sendBytes_uart h.2.2.1]
    have htaken := modPort_modSlot_taken s n k (fun x => { x with uartIdle := false }) (fun z =>
      z.running (field (slotOf s n k).d0.toNat 8 0 != 0)
        (if field (slotOf s n k).d0.toNat 8 0 != 0 then captureAt s n 0 bins else z.stamp) (sendBytes s (slotOf s n k))) rfl
    have hslot : (if field y.d0.toNat 8 0 != 0 then captureAt s n 0 bins else y.stamp) =
        if field y.d0.toNat 8 0 = 0 then y.stamp else captureAt s n 0 bins := by simp
    rw [Slot.running, hslot] at htaken
    exact hstarts (exec_start_uart bins hport hready h hmode) htaken (modPort_modSlot_portOnly s n k _ _)
  · rw [← sendBytes_ana (s := s) h.2.2.1]
    exact hstarts (exec_start_conversions bins hport hready h hmode hana hcal hsettled)
      (modPort_modSlot_taken s n k Port.noSamples _ rfl) (modPort_modSlot_portOnly s n k _ _)
  · refine ⟨_, exec_start_ramp bins hport hready h hmode hana, ?_, ?_, modPort_modSlot_portOnly s n k _ _⟩
    swap
    · exact State.modPort_portAt s n fun x => x.rampsAt s.ticks
    rw [← sendBytes_ana (s := s) h.2.2.1]
    exact modSlot_slotOf _ _ _ _
  · rw [exec_start_pulse bins hport hready h hfits, emitterRequest_granted k bins hwait hheld]
    exact ⟨_, rfl, emitterFire_effect s n k bins⟩
  · rw [exec_start_pulse bins hport hready h hfits, emitterRequest_waits k bins hnew hfull]
    exact ⟨_, rfl, emitterWaits_effect s n k⟩

end Sys2Proof.Machine
end

section
/-! PROOF. O52: the end of a window, and a confirmed edge of a pin. -/

namespace Sys2Proof.Machine

/-! ### What a record leaves of a die (R216, R238) -/

/-- A die but for what a record and its offers set. -/
def Die.besideOffers (x : Die) : Die :=
  { x with
    regions := [], soOut := 0, soPin := 0, soReleased := 0, soAt := [], soFree := [], test := none, faultAt := [], faultSpoil := []
    offers := [], offerDrops := 0 }

theorem besideOffers_of_besideReaction {x y : Die} (h : y.besideReaction = x.besideReaction) : y.besideOffers = x.besideOffers :=
  congrArg (fun z : Die => { z with offers := [], offerDrops := 0 }) h

theorem offerTo_besideOffers (s : State) (g : Nat) (v : Int) (st : Stamp) (d : Nat) :
    ((offerTo s g v st).dieAt d).besideOffers = (s.dieAt d).besideOffers := by
  unfold offerTo
  dsimp only
  split
  · exact (besideOffers_of_besideReaction (raiseFault_besideReaction _ _ _ _ _ _ _ _ d)).trans
      (modDie_keeps Die.besideOffers s _ d fun _ => rfl)
  · exact modDie_keeps Die.besideOffers s _ d fun _ => rfl

theorem recordOffers_besideOffers (s : State) (k : Nat) (r : Rec) (d : Nat) :
    ((recordOffers s k r).dieAt d).besideOffers = (s.dieAt d).besideOffers := by
  unfold recordOffers
  refine List.foldlRecOn (motive := fun x : State => (x.dieAt d).besideOffers = (s.dieAt d).besideOffers) _ _ rfl
    fun x hx g _ => ?_
  split
  · exact (offerTo_besideOffers x g _ _ d).trans hx
  · exact hx

theorem putRecord_besideOffers (s : State) (k : Nat) (r : Rec) (d : Nat) :
    ((putRecord s k r).dieAt d).besideOffers = (s.dieAt d).besideOffers := by
  have hring := besideOffers_of_besideReaction (besideReaction_of_besideRecords (besideRecords_of_besideLog
    (ringEnter_besideLog s k r d)))
  unfold putRecord
  dsimp only
  split
  · exact hring
  · exact (recordOffers_besideOffers _ k r d).trans hring

/-! ### Missed entries (R188, R189) -/

/-- A die whose entries were missed once more for a cause. -/
def Die.countMiss (x : Die) (cause : Nat) : Die :=
  { x with missed := x.missed + 1, missedBy := tput x.missedBy cause (satInc 65535 (tget 0 x.missedBy cause)) }

theorem missEntry_besideOffers (s : State) (k i cause : Nat) (st : Stamp) (d : Nat) :
    ((missEntry s k i cause st).dieAt d).besideOffers = ((s.modDie k fun x => x.countMiss cause).dieAt d).besideOffers := by
  unfold missEntry
  dsimp only
  split
  · rfl
  · split
    · rfl
    · exact putRecord_besideOffers _ _ _ d

/-! ### The windows and misses of a die -/

/-- The open windows of a die, and its misses. -/
def Die.windows (x : Die) : List OpenWindow × BitVec 32 × Tbl Nat := (x.opens, x.missed, x.missedBy)

theorem windows_of_besideOffers {x y : Die} (h : y.besideOffers = x.besideOffers) : y.windows = x.windows :=
  (congrArg Die.windows h :)

theorem missEntry_windows (s : State) (d i cause : Nat) (st : Stamp) : ((missEntry s d i cause st).dieAt d).windows =
    ((s.dieAt d).opens, (s.dieAt d).missed + 1,
      tput (s.dieAt d).missedBy cause (satInc 65535 (tget 0 (s.dieAt d).missedBy cause))) := by
  rw [windows_of_besideOffers (missEntry_besideOffers s d i cause st d), State.modDie_dieAt]
  rfl

/-- From s to t the windows and misses of the dies stay, and which context each engine runs and which contexts live. -/
structure KeepsRuns (s t : State) : Prop where
  windows : ∀ d, (t.dieAt d).windows = (s.dieAt d).windows
  running : ∀ e, (t.engAt e).running = (s.engAt e).running
  live : ∀ e c, (ctxOf t e c).live = (ctxOf s e c).live

namespace KeepsRuns

variable {s t u : State}

theorem refl (s : State) : KeepsRuns s s := ⟨fun _ => rfl, fun _ => rfl, fun _ _ => rfl⟩

theorem trans (h : KeepsRuns s t) (k : KeepsRuns t u) : KeepsRuns s u :=
  ⟨fun d => (k.windows d).trans (h.windows d), fun e => (k.running e).trans (h.running e),
    fun e c => (k.live e c).trans (h.live e c)⟩

theorem of_engine (h : t.engine = s.engine) (hd : ∀ d, (t.dieAt d).windows = (s.dieAt d).windows) : KeepsRuns s t :=
  ⟨hd, fun e => by rw [engAt_of_engine h], fun e c => by rw [ctxOf, engAt_of_engine h, ctxOf]⟩

theorem of_changes {l : List Piece} (h : Changes l s t) (hl : (l.contains .engine || l.contains .die) = false) : KeepsRuns s t := by
  obtain ⟨heng, hdie⟩ := Bool.or_eq_false_iff.mp hl
  exact of_engine (h .engine heng) fun d => by rw [dieAt_of_die (h .die hdie)]

theorem modDie (s : State) (k : Nat) {g : Die → Die} (hg : ∀ x, (g x).windows = x.windows) : KeepsRuns s (s.modDie k g) :=
  of_engine rfl fun d => modDie_keeps Die.windows s k d hg

theorem modSlot (s : State) (d k : Nat) (g : Slot → Slot) : KeepsRuns s (s.modSlot d k g) := modDie s d fun _ => rfl

theorem modCtx (s : State) (e c : Nat) {g : Ctx → Ctx} (hg : ∀ y, (g y).live = y.live) : KeepsRuns s (s.modCtx e c g) := by
  obtain ⟨hother, hmine, hctx⟩ := modCtx_only s e c g
  refine ⟨fun _ => rfl, fun j => ?_, fun j k => ?_⟩
  · by_cases hj : j = e
    · rw [hj, hmine]
    · rw [hother j hj]
  · by_cases hj : j = e
    · by_cases hk : k = c
      · rw [hj, hk, (modCtx_step s e c g).ctx, hg]
      · rw [hj, hctx k hk]
    · rw [ctxOf, hother j hj, ctxOf]

theorem foldl {α : Type} {g : State → α → State} (hg : ∀ x i, KeepsRuns x (g x i)) (l : List α) (s : State) :
    KeepsRuns s (l.foldl g s) :=
  List.foldlRecOn l g (refl s) fun x hx i _ => hx.trans (hg x i)

end KeepsRuns

/-! ### Ends of operations (R85, R153, R190) -/

theorem retireSlot_keepsRuns (s : State) (d k : Nat) : KeepsRuns s (retireSlot s d k) := by
  unfold retireSlot
  exact (KeepsRuns.modSlot s d k _).trans (.modCtx _ _ _ fun _ => rfl)

theorem completeOp_keepsRuns (s : State) (d k status count : Nat) : KeepsRuns s (completeOp s d k status count) := by
  unfold completeOp
  extract_lets x n s1 s2 s3
  have h2 : KeepsRuns s s2 := (KeepsRuns.of_changes (State.modPort_changes s n _) rfl).trans (.modSlot s1 d k _)
  refine KeepsRuns.trans ?_ (.of_changes (enterIdleMode_changes s3 n) rfl)
  simp only [s3]
  split
  · exact h2.trans (retireSlot_keepsRuns s2 d k)
  · exact h2.trans (.modCtx _ _ _ fun _ => rfl)

theorem emitterStop_keepsRuns (s : State) (n : Nat) : KeepsRuns s (emitterStop s n) := by
  refine .of_engine ((emitterStop_changes s n) .engine rfl) fun d => ?_
  exact (congrArg Die.windows ((soRefresh_refreshed _).die d) :).trans (modDie_keeps Die.windows _ _ d fun _ => rfl)

theorem emitterCancel_keepsRuns (s : State) (d k : Nat) : KeepsRuns s (emitterCancel s d k) := by
  unfold emitterCancel
  dsimp only
  split
  · exact .refl s
  · split
    · exact emitterStop_keepsRuns s _
    · split
      · exact .modDie s d fun _ => rfl
      · exact .refl s

theorem abortOp_keepsRuns (s : State) (d k status : Nat) (recover : Bool) : KeepsRuns s (abortOp s d k status recover) := by
  unfold abortOp
  extract_lets x s1
  have h1 : KeepsRuns s s1 := emitterCancel_keepsRuns s d k
  split
  · exact .refl s
  · split
    · split
      · exact h1
      · exact (h1.trans (.of_changes (State.modPort_changes s1 _ _) rfl)).trans (.modSlot _ d k _)
    · exact h1.trans (completeOp_keepsRuns s1 d k status _)

theorem abortOrphans_keepsRuns (s : State) (d e i : Nat) : KeepsRuns s (abortOrphans s d e i) :=
  .foldl (fun x k => abortOp_keepsRuns x d k 12 true) _ s

/-! ### A context ends by budget (R153) -/

theorem tget_tdel_same {α : Type} (dflt : α) (t : Tbl α) (k : Nat) : tget dflt (tdel t k) k = dflt := by
  induction t with
  | nil => rfl
  | cons a t ih =>
    obtain ⟨j, v⟩ := a
    unfold tdel at ih ⊢
    by_cases hj : j = k
    · simp [hj, ih]
    · simp [hj, tget, Ne.symm hj, ih]

/-- Once context c is freed it lives no more, and the engine that ran it is free. -/
theorem freeCtx_effect (s : State) (e c : Nat) : (∀ d, ((freeCtx s e c).dieAt d).windows = (s.dieAt d).windows) ∧
    (ctxOf (freeCtx s e c) e c).live = false ∧
      ((s.engAt e).running = some c → ((freeCtx s e c).engAt e).running = none) := by
  refine ⟨fun d => modDie_keeps Die.windows _ _ d fun _ => rfl, ?_, fun h => ?_⟩
  · simp [freeCtx, ctxOf, Engine.ctxAt, tget_tdel_same]
  · simp [freeCtx, h]

theorem endCtx_budget_effect (s : State) (e c : Nat) : (∀ d, ((endCtx s e c (some 12)).dieAt d).windows = (s.dieAt d).windows) ∧
    (ctxOf (endCtx s e c (some 12)) e c).live = false ∧
      ((s.engAt e).running = some c → ((endCtx s e c (some 12)).engAt e).running = none) := by
  unfold endCtx
  extract_lets ks d s1 s2
  have h1 : KeepsRuns s s1 := by
    refine ⟨fun _ => rfl, fun j => ?_, fun j k => ?_⟩
    · by_cases hj : j = e
      · simp [s1, hj]
      · simp [s1, hj]
    · by_cases hj : j = e
      · simp [s1, hj, ctxOf, Engine.ctxAt]
      · simp [s1, hj, ctxOf]
  have h2 : KeepsRuns s s2 := by
    refine h1.trans (.foldl (fun x k => ?_) ks s1)
    have hslot : KeepsRuns x (x.modSlot d k fun z => { z with orphan := true }) := .modSlot x d k _
    dsimp only
    split
    · exact hslot.trans (retireSlot_keepsRuns _ d k)
    · exact hslot.trans (abortOp_keepsRuns _ d k 12 _)
  obtain ⟨hwin, hlive, hrun⟩ := freeCtx_effect s2 e c
  exact ⟨fun j => (hwin j).trans (h2.windows j), hlive, fun h => hrun ((h2.running e).trans h)⟩

/-! ### WINDOW_END (R188, R190, R194) -/

/-- The window of an entry is taken from its die. -/
def windowTaken (s : State) (d : Nat) (w : OpenWindow) : State :=
  s.modDie d fun x => { x with opens := x.opens.filter fun v => v.entry != w.entry }

theorem windowTaken_windows (s : State) (d : Nat) (w : OpenWindow) : ((windowTaken s d w).dieAt d).windows =
    ((s.dieAt d).opens.filter (fun v => v.entry != w.entry), (s.dieAt d).missed, (s.dieAt d).missedBy) := by
  rw [windowTaken, State.modDie_dieAt]
  rfl

/-- What a closed window leaves of its die: the window is gone, and the misses are as given. -/
structure Closed (s t : State) (d : Nat) (w : OpenWindow) (missed : BitVec 32) (missedBy : Tbl Nat) : Prop where
  opens : (t.dieAt d).opens = (s.dieAt d).opens.filter fun v => v.entry != w.entry
  missed : (t.dieAt d).missed = missed
  missedBy : (t.dieAt d).missedBy = missedBy

theorem closed_iff {s t : State} {d : Nat} {w : OpenWindow} {m : BitVec 32} {by_ : Tbl Nat} : Closed s t d w m by_ ↔
    (t.dieAt d).windows = ((s.dieAt d).opens.filter (fun v => v.entry != w.entry), m, by_) := by
  simp only [Die.windows, Prod.mk.injEq]
  exact ⟨fun h => ⟨h.opens, h.missed, h.missedBy⟩, fun ⟨hopens, hmissed, hby⟩ => ⟨hopens, hmissed, hby⟩⟩

theorem Closed.keepsRuns {s t u : State} {d : Nat} {w : OpenWindow} {m : BitVec 32} {by_ : Tbl Nat} (h : Closed s t d w m by_)
    (k : KeepsRuns t u) : Closed s u d w m by_ :=
  closed_iff.mpr ((k.windows d).trans (closed_iff.mp h))

/-- A miss that is counted as the window closes. -/
theorem missEntry_closed {s t : State} {d : Nat} {w : OpenWindow} (i cause : Nat) (st : Stamp)
    (h : Closed s t d w (s.dieAt d).missed (s.dieAt d).missedBy) : Closed s (missEntry t d i cause st) d w ((s.dieAt d).missed + 1)
      (tput (s.dieAt d).missedBy cause (counted 65535 (tget 0 (s.dieAt d).missedBy cause))) := by
  refine closed_iff.mpr ?_
  rw [missEntry_windows, h.opens, h.missed, h.missedBy]
  rfl

theorem windowTaken_closed (s : State) (d : Nat) (w : OpenWindow) :
    Closed s (windowTaken s d w) d w (s.dieAt d).missed (s.dieAt d).missedBy :=
  closed_iff.mpr (windowTaken_windows s d w)

section
variable {s : State} {d : Nat} {w : OpenWindow} {r : RotaEntry}

theorem stopEmitterItem_effect (s : State) (n : Nat) : KeepsRuns s (stopEmitterItem s n) ∧
    ((stopEmitterItem s n).portAt n).gapOpen = (s.portAt n).gapOpen := by
  unfold stopEmitterItem
  split
  · refine ⟨(KeepsRuns.of_changes (State.modPort_changes s n _) rfl).trans (emitterStop_keepsRuns _ n), ?_⟩
    have hport : ∀ u : State, ((soRefresh u).portAt n) = u.portAt n := fun u => by
      rw [State.portAt, (soRefresh_changes u) .port rfl, State.portAt]
    simp [emitterStop, hport]
  · exact ⟨.refl s, rfl⟩

/-- A gap gives the chain back: no calibration holds the port, and no miss is counted. -/
theorem closeWindow_gap (hgap : r.gap = true) : Closed s (closeWindow s d w r) d w (s.dieAt d).missed (s.dieAt d).missedBy ∧
    ((closeWindow s d w r).portAt (d * 12 + r.engine % 12)).gapOpen = false ∧
      ((closeWindow s d w r).portAt (d * 12 + r.engine % 12)).calOffline = false := by
  have heq : closeWindow s d w r = closeGap (windowTaken s d w) (d * 12 + r.engine % 12) := if_pos hgap
  rw [heq, closeGap, dropItem]
  obtain ⟨hkeep, hopen⟩ := stopEmitterItem_effect
    ((windowTaken s d w).modPort (d * 12 + r.engine % 12) fun x => { x with gapOpen := false, gapEmitter := false })
    (d * 12 + r.engine % 12)
  refine ⟨(((windowTaken_closed s d w).keepsRuns (.of_changes (State.modPort_changes _ _ _) rfl)).keepsRuns hkeep).keepsRuns
    (.of_changes (State.modPort_changes _ _ _) rfl), ?_, ?_⟩
  · rw [State.modPort_portAt]
    simpa using hopen
  · rw [State.modPort_portAt]

variable (hgap : r.gap = false)
include hgap

/-- An entry whose edge never came is missed with cause 3. -/
theorem closeWindow_edge (hctx : w.ctx = none) (hdone : w.done = false) : closeWindow s d w r =
    abortOrphans (missEntry (windowTaken s d w) d w.entry 3 w.nominal) d w.engine w.entry := by
  simp only [closeWindow, hgap, windowLive, hctx, hdone, Bool.false_eq_true, if_false, Option.isNone_none, Bool.not_false,
    Bool.and_self, if_true]
  rfl

variable {c : Nat} (hctx : w.ctx = some c)
include hctx

/-- A context that still lives ends by budget, and its entry is missed with cause 1. -/
theorem closeWindow_live (hlive : (ctxOf s w.engine c).live = true) (hentry : (ctxOf s w.engine c).entry = w.entry) :
    closeWindow s d w r = abortOrphans (missEntry (endCtx (windowTaken s d w) w.engine c (some 12)) d w.entry 1
      (ctxOf s w.engine c).launchStamp) d w.engine w.entry := by
  have hwin : windowLive s w = some c := by
    have hlive' : ((s.engAt w.engine).ctxAt c).live = true := hlive
    have hentry' : ((s.engAt w.engine).ctxAt c).entry = w.entry := hentry
    simp [windowLive, hctx, hlive', hentry']
  simp only [closeWindow, hgap, hwin, Bool.false_eq_true, if_false]
  rfl

/-- A context that has ended leaves only its orphans to be aborted. -/
theorem closeWindow_ended (hlive : (ctxOf s w.engine c).live = false) :
    closeWindow s d w r = abortOrphans (windowTaken s d w) d w.engine w.entry := by
  have hwin : windowLive s w = none := by
    have hlive' : ((s.engAt w.engine).ctxAt c).live = false := hlive
    simp [windowLive, hctx, hlive']
  simp only [closeWindow, hgap, hwin, hctx, Bool.false_eq_true, if_false, Option.isNone_some, Bool.false_and]
  rfl

end

theorem exec_windowEnd_eq {s : State} {d i : Nat} {w : OpenWindow} {r : RotaEntry} (hd : d < usedDies s)
    (hw : (s.dieAt d).opens.find? (fun v => v.entry == i) = some w) (hr : (s.dieAt d).active.entries[i]? = some r) :
    exec (.windowEnd d i) s = .next (if w.endAt ≤ s.time.elapsed then closeWindow s d w r else s) := by
  have hr' : (s.dieAt d).entryAt i = some r := hr
  rw [exec_windowEnd, execWindowEnd, withDie, decide_eq_true hd, withUnit_true, hw, hr']
  simp only [given, decide_eq_true_eq]
  rfl

/-! ### PIN_EDGE: what a launch leaves (R57, R151, R187) -/

/-- From s to t every context that lives stays as it is. -/
def KeepsLive (s t : State) : Prop := ∀ e c, (ctxOf s e c).live = true → ctxOf t e c = ctxOf s e c

theorem KeepsLive.trans {s t u : State} (h : KeepsLive s t) (k : KeepsLive t u) : KeepsLive s u :=
  fun e c hlive => (k e c (by rwa [h e c hlive])).trans (h e c hlive)

theorem KeepsLive.of_engine {s t : State} (h : t.engine = s.engine) : KeepsLive s t :=
  fun e c _ => by rw [ctxOf, engAt_of_engine h, ctxOf]

theorem KeepsLive.of_ctxOnly {s t : State} {e c : Nat} (h : CtxOnly s t e c) (hfree : (ctxOf s e c).live = false) : KeepsLive s t := by
  obtain ⟨hother, -, hctx⟩ := h
  intro j k hlive
  by_cases hj : j = e
  · subst hj
    exact hctx k fun hk => by simp [hk, hfree] at hlive
  · rw [ctxOf, hother j hj, ctxOf]

theorem live_of_isFree {b live : Bool} (h : (b && !live) = true) : live = false := by
  simpa using (Bool.and_eq_true_iff.mp h).2

theorem freeContext_free {x : Engine} {hint c : Nat} (h : freeContext x hint = some c) : (x.ctxAt c).live = false := by
  unfold freeContext at h
  dsimp only at h
  split at h
  · next hfree =>
    obtain rfl := Option.some.inj h
    exact live_of_isFree hfree
  · have hfree := List.find?_some h
    exact live_of_isFree hfree

/-- From s to t the dies keep their slots and the engines their live contexts. -/
structure KeepsOps (s t : State) : Prop where
  slots : ∀ d, (t.dieAt d).slots = (s.dieAt d).slots
  live : KeepsLive s t

theorem KeepsOps.refl (s : State) : KeepsOps s s := ⟨fun _ => rfl, fun _ _ _ => rfl⟩

theorem KeepsOps.trans {s t u : State} (h : KeepsOps s t) (k : KeepsOps t u) : KeepsOps s u :=
  ⟨fun d => (k.slots d).trans (h.slots d), h.live.trans k.live⟩

theorem slots_of_besideOffers {x y : Die} (h : y.besideOffers = x.besideOffers) : y.slots = x.slots := (congrArg Die.slots h :)

theorem missEntry_keepsOps (s : State) (d i cause : Nat) (st : Stamp) : KeepsOps s (missEntry s d i cause st) := by
  refine ⟨fun k => ?_, .of_engine ((missEntry_changes s d i cause st) .engine rfl)⟩
  rw [slots_of_besideOffers (missEntry_besideOffers s d i cause st k)]
  exact modDie_keeps Die.slots s d k fun _ => rfl

theorem markWindow_keepsOps (s : State) (d i : Nat) (f : OpenWindow → OpenWindow) : KeepsOps s (markWindow s d i f) :=
  ⟨fun k => modDie_keeps Die.slots s d k fun _ => rfl, .of_engine rfl⟩

theorem engineFault_keepsOps (s : State) (e c detail pc operand : Nat) : KeepsOps s (engineFault s e c detail pc operand) := by
  refine ⟨fun k => ?_, fun j i _ => ?_⟩
  · have hrec := fun u p key mk => (congrArg Die.slots (faultRecord_besideRecords u (engDie e) 1 detail p key mk k) :)
    unfold engineFault
    dsimp only
    split
    · rw [dieAt_of_die ((violationCount_changes _ _) .die rfl)]
      exact hrec _ _ _ _
    · exact hrec _ _ _ _
  · by_cases hj : j = e
    · rw [hj, (engineFault_keepsRegs s e c detail pc operand).ctxOf]
    · rw [ctxOf, engAt_of_engine (engineFault_engine s e c detail pc operand), State.modEng_engAt_other _ _ _ _ hj, ctxOf]

/-- A launch writes a context that is free. -/
theorem launch_keepsOps (s : State) {e c : Nat} (y : Ctx) {g : Engine → Engine} (hg : ∀ z, (g z).ctxs = tput z.ctxs c y)
    (hfree : (ctxOf s e c).live = false) : KeepsOps s (makeReady (s.modEng e g) e c) := by
  refine ⟨fun _ => rfl, fun j k hlive => ?_⟩
  by_cases hj : j = e
  · have hk : k ≠ c := by
      rintro rfl
      simp [hj, hfree] at hlive
    simp [makeReady, hj, ctxOf, State.modCtx, Engine.ctxAt, hg, hk]
  · simp [makeReady, hj, ctxOf, State.modCtx]

theorem launchEntry_keepsOps (s : State) (d i : Nat) (r : RotaEntry) (w : OpenWindow) (st : Stamp) :
    KeepsOps s (launchEntry s d i r w st) := by
  unfold launchEntry
  extract_lets e x
  split
  · exact (markWindow_keepsOps s d i _).trans (missEntry_keepsOps _ d i 4 w.nominal)
  · split
    · exact ((engineFault_keepsOps s e r.hint 7 r.entryPt i).trans (markWindow_keepsOps _ d i _)).trans
        (missEntry_keepsOps _ d i 2 w.nominal)
    · next c hfree =>
      exact (launch_keepsOps s _ (fun _ => rfl) (freeContext_free hfree)).trans (markWindow_keepsOps _ d i _)

theorem launchOnEdge_keepsOps (s : State) (d h pin : Nat) (rising : Bool) (st : Stamp) :
    KeepsOps s (launchOnEdge s d h pin rising st) := by
  unfold launchOnEdge
  refine List.foldlRecOn (motive := KeepsOps s) _ _ (.refl s) fun x hx w _ => ?_
  split
  · exact hx
  · split
    · exact hx.trans (launchEntry_keepsOps x d w.entry _ w st)
    · exact hx

/-! ### PIN_EDGE: the contexts and the operation that wait for the edge (R102, R167) -/

theorem tget_map {α : Type} (g : Nat → α → α) (dflt : α) (t : Tbl α) (k : Nat) (hg : g k dflt = dflt) :
    tget dflt (t.map fun e => (e.1, g e.1 e.2)) k = g k (tget dflt t k) := by
  induction t with
  | nil => exact hg.symm
  | cons a t ih =>
    obtain ⟨j, v⟩ := a
    by_cases hk : k = j
    · simp [tget, hk]
    · simp [tget, hk, ih]

/-- An engine whose contexts have looked at an edge. -/
def Engine.meets (x : Engine) (h pin : Nat) (rising : Bool) (st : Stamp) : Engine :=
  { x with ctxs := x.ctxs.map fun c => (c.1, meetEdge h pin rising st c.2) }

theorem meetEdges_engine (s : State) (d h pin : Nat) (rising : Bool) (st : Stamp) : (meetEdges s d h pin rising st).engine =
    s.engine.map fun e => (e.1, if engDie e.1 = d then e.2.meets h pin rising st else e.2) := by
  refine List.map_congr_left fun e _ => ?_
  split
  · rfl
  · rfl

/-- Every context of the die's engines looks at the edge. -/
theorem meetEdges_ctx (s : State) {d e : Nat} (c h pin : Nat) (rising : Bool) (st : Stamp) (he : engDie e = d) :
    ctxOf (meetEdges s d h pin rising st) e c = meetEdge h pin rising st (ctxOf s e c) := by
  have heng : (meetEdges s d h pin rising st).engAt e = (s.engAt e).meets h pin rising st := by
    have hmap := tget_map (fun j (x : Engine) => if engDie j = d then x.meets h pin rising st else x) {} s.engine e (ite_self _)
    rw [State.engAt, meetEdges_engine, hmap, if_pos he, State.engAt]
  rw [ctxOf, heng]
  exact tget_map (fun _ => meetEdge h pin rising st) {} (s.engAt e).ctxs c rfl

theorem meetEdge_met {h pin : Nat} {rising : Bool} {y : Ctx} {a : Await} (st : Stamp) (hawait : y.await = some a)
    (hkind : a.kind = 1) (hmet : a.met = none) (harg : a.arg = h) (hpin : a.sub % 4 = pin)
    (hedge : bitOf a.sub (if rising = true then 2 else 3) = true) :
    meetEdge h pin rising st y = { y with await := some { a with met := some st } } := by
  simp only [meetEdge, hawait, hkind, hmet, harg, hpin, hedge, and_self, if_true]

theorem meetEdge_live (h pin : Nat) (rising : Bool) (st : Stamp) (y : Ctx) : (meetEdge h pin rising st y).live = y.live := by
  unfold meetEdge
  split
  · rfl
  · split_ifs <;> rfl

/-- The operation at the head of the queue that waits for the edge may start. -/
theorem wakeEdgeOp_head {s : State} {n k key : Nat} {rest : List Nat} (hqueue : (s.portAt n).queue = k :: rest)
    (hstate : (slotOf s n k).state = 1) (hkey : drdyKey (slotOf s n k).d0 = key) : (slotOf (wakeEdgeOp s n key) n k).state = 2 := by
  have hstate' : ((s.dieAt (portDie n)).slotAt k).state = 1 := hstate
  have hkey' : drdyKey ((s.dieAt (portDie n)).slotAt k).d0 = key := hkey
  have hwake : wakeEdgeOp s n key = s.modSlot (n / 12) k fun y => { y with state := 2 } := by
    simp only [wakeEdgeOp, hqueue, List.find?_cons, hstate', hkey', beq_self_eq_true, Bool.and_self]
    rfl
  simp [hwake, slotOf, State.modSlot, Die.slotAt]

/-- A port after an edge of a pin is confirmed and stamped. -/
def Port.edgeSeen (x : Port) (pin : Nat) (rising : Bool) (st : Stamp) (at_ : Nat) (busy : Bool) : Port :=
  let bit : BitVec 4 := BitVec.ofNat 4 (2 ^ pin)
  { x with
    pinIn := if rising then x.pinIn ||| bit else x.pinIn &&& ~~~bit
    rise := if rising then x.rise ||| bit else x.rise
    fall := if rising then x.fall else x.fall ||| bit
    edgeStamp := tput x.edgeStamp (edgeKey pin rising) st, pinAt := tput x.pinAt pin at_, busBusy := busy
    edgeLatch := if x.mode = 1 ∧ 2 ≤ pin then tput x.edgeLatch (edgeKey pin rising) st else x.edgeLatch }

/-- The machine with the edge in its port, and the operation that waits for it woken. -/
def edgeTaken (s : State) (n pin : Nat) (rising : Bool) (bins : Nat) : State :=
  let s1 := s.modPort n fun x => x.edgeSeen pin rising (captureAt s n pin bins) s.ticks (busSeen s n pin rising)
  if (s.portAt n).mode = 1 ∧ 2 ≤ pin then wakeEdgeOp s1 n (edgeKey pin rising) else s1

/-- The machine after a confirmed edge. -/
def afterEdge (s : State) (n pin : Nat) (rising : Bool) (bins : Nat) : State :=
  let st := captureAt s n pin bins
  launchOnEdge (meetEdges (edgeTaken s n pin rising bins) (n / 12) (n % 12) pin rising st) (n / 12) (n % 12) pin rising st

theorem exec_pinEdge_eq {s : State} {n pin : Nat} (rising : Bool) (bins : Nat) (hn : n < usedDies s * 12) (hpin : pin < 4) :
    exec (.pinEdge n pin rising bins) s = .next (given (domainOn s n) s (afterEdge s n pin rising bins)) := by
  rw [exec_pinEdge, execPinEdge, decide_eq_true ⟨hn, hpin⟩, withUnit_true]
  rfl

section
variable (s : State) (n pin : Nat) (rising : Bool) (bins : Nat)

theorem edgeTaken_port : (edgeTaken s n pin rising bins).port = (s.modPort n fun x =>
    x.edgeSeen pin rising (captureAt s n pin bins) s.ticks (busSeen s n pin rising)).port := by
  unfold edgeTaken
  dsimp only
  split
  · exact (wakeEdgeOp_changes _ _ _) .port rfl
  · rfl

theorem edgeTaken_engine : (edgeTaken s n pin rising bins).engine = s.engine := by
  unfold edgeTaken
  dsimp only
  split
  · exact (wakeEdgeOp_changes _ _ _) .engine rfl
  · rfl

theorem afterEdge_portAt (j : Nat) : (afterEdge s n pin rising bins).portAt j = (s.modPort n fun x =>
    x.edgeSeen pin rising (captureAt s n pin bins) s.ticks (busSeen s n pin rising)).portAt j := by
  rw [State.portAt, afterEdge, (launchOnEdge_changes _ _ _ _ _ _) .port rfl, (meetEdges_changes _ _ _ _ _ _) .port rfl,
    edgeTaken_port, State.portAt]

theorem afterEdge_slots (d : Nat) : ((afterEdge s n pin rising bins).dieAt d).slots =
    ((edgeTaken s n pin rising bins).dieAt d).slots :=
  (launchOnEdge_keepsOps _ _ _ _ _ _).slots d

end

/-- A live context of the port's die ends up as the edge left it: a launch takes free contexts alone. -/
theorem afterEdge_ctx {s : State} {n e c : Nat} (pin : Nat) (rising : Bool) (bins : Nat) (he : e / 24 = n / 12)
    (hlive : (ctxOf s e c).live = true) : ctxOf (afterEdge s n pin rising bins) e c =
      meetEdge (n % 12) pin rising (captureAt s n pin bins) (ctxOf s e c) := by
  have hmeet : ctxOf (meetEdges (edgeTaken s n pin rising bins) (n / 12) (n % 12) pin rising (captureAt s n pin bins)) e c =
      meetEdge (n % 12) pin rising (captureAt s n pin bins) (ctxOf s e c) := by
    rw [meetEdges_ctx _ c _ _ _ _ he, ctxOf, engAt_of_engine (edgeTaken_engine s n pin rising bins), ctxOf]
  rw [← hmeet]
  refine (launchOnEdge_keepsOps _ _ _ _ _ _).live e c ?_
  rw [hmeet, meetEdge_live, hlive]

/-! ### The statement -/

/-- Settles O52: a window by how it closes, and an edge by the port, the operation and the contexts that see it. -/
theorem windowsEndAndPinEdgesAreStamped : Obligations.WindowsEndAndPinEdgesAreStamped := by
  refine ⟨fun s d i w r hd => ?_, fun s n pin rising bins hn hpin => ?_⟩
  · intro x hw hr closed
    have hexec := exec_windowEnd_eq hd hw hr
    obtain rfl : w.entry = i := by simpa using List.find?_some hw
    refine ⟨fun hbefore => by rw [hexec, if_neg (Nat.not_le.mpr hbefore)], fun hend => ?_⟩
    rw [if_pos hend] at hexec
    refine ⟨fun hgap => ?_, fun hgap hctx hdone => ?_, fun c hgap hctx hlive hentry => ?_, fun c hgap hctx hlive => ?_⟩
    · obtain ⟨hclosed, hopen, hchain⟩ := closeWindow_gap (s := s) (d := d) (w := w) hgap
      exact ⟨_, hexec, hclosed.opens, hopen, hchain, hclosed.missed⟩
    · rw [closeWindow_edge hgap hctx hdone] at hexec
      have hclosed := (missEntry_closed w.entry 3 w.nominal (windowTaken_closed s d w)).keepsRuns
        (abortOrphans_keepsRuns _ d w.engine w.entry)
      exact ⟨_, hexec, hclosed.opens, hclosed.missed, by rw [hclosed.missedBy, tget_tput_same]⟩
    · rw [closeWindow_live hgap hctx hlive hentry] at hexec
      obtain ⟨hwin, hdead, hfree⟩ := endCtx_budget_effect (windowTaken s d w) w.engine c
      have hended : Closed s (endCtx (windowTaken s d w) w.engine c (some 12)) d w (s.dieAt d).missed (s.dieAt d).missedBy :=
        closed_iff.mpr ((hwin d).trans (windowTaken_windows s d w))
      have hclosed := missEntry_closed w.entry 1 (ctxOf s w.engine c).launchStamp hended
      have hmiss := missEntry_changes (endCtx (windowTaken s d w) w.engine c (some 12)) d w.entry 1
        (ctxOf s w.engine c).launchStamp
      have heng := engAt_of_engine (hmiss .engine rfl) w.engine
      have habort := abortOrphans_keepsRuns (missEntry (endCtx (windowTaken s d w) w.engine c (some 12)) d w.entry 1
        (ctxOf s w.engine c).launchStamp) d w.engine w.entry
      have hfinal := hclosed.keepsRuns habort
      refine ⟨_, hexec, hfinal.opens, ?_, fun hrun => ?_, hfinal.missed, by rw [hfinal.missedBy, tget_tput_same]⟩
      · rw [habort.live, ctxOf, heng]
        exact hdead
      · rw [habort.running, heng]
        exact hfree hrun
    · rw [closeWindow_ended hgap hctx hlive] at hexec
      have hclosed := (windowTaken_closed s d w).keepsRuns (abortOrphans_keepsRuns _ d w.engine w.entry)
      exact ⟨_, hexec, hclosed.opens, hclosed.missed, hclosed.missedBy⟩
  · intro x st key bit
    have hexec := exec_pinEdge_eq rising bins hn hpin
    refine ⟨fun hoff => by rw [hexec, hoff, given_false], fun hon => ?_⟩
    rw [hon, given_true] at hexec
    refine ⟨_, hexec, fun j hj => ?_, ?_, fun k rest hmode hpins hqueue hstate hkey => ?_,
      fun e c a he hlive hawait hkind hmet harg hsub hedge => ?_, execPinEdge_changes n pin rising bins s _ hexec⟩
    · rw [afterEdge_portAt, State.modPort_portAt_other _ _ _ _ hj]
    · rw [afterEdge_portAt, State.modPort_portAt]
      rfl
    · have hslot : slotOf (afterEdge s n pin rising bins) n k = slotOf (edgeTaken s n pin rising bins) n k := by
        rw [slotOf, Die.slotAt, afterEdge_slots, slotOf, Die.slotAt]
      rw [hslot, edgeTaken, if_pos ⟨hmode, hpins⟩]
      refine wakeEdgeOp_head (rest := rest) ?_ hstate hkey
      rw [State.modPort_portAt]
      exact hqueue
    · rw [afterEdge_ctx pin rising bins he hlive, meetEdge_met _ hawait hkind hmet harg hsub hedge]

end Sys2Proof.Machine
end

section
/-! PROOF. The ends of port operations, an emitter that stops and the VP switch: the layer of O11, O12, O13 and O16. -/

namespace Sys2Proof.Machine

/-! ### Ports of the part -/

theorem withPort_of_hasPort {s : State} {n : Nat} (t : State) (hn : hasPort s n) : withPort s n t = .next t := by
  rw [withPort, decide_eq_true hn, withUnit_true]

theorem portAt_of_port {s t : State} (h : t.port = s.port) (n : Nat) : t.portAt n = s.portAt n := by
  rw [State.portAt, h, State.portAt]

/-- What changes port n alone within some pieces does so within more. -/
theorem PortOnly.mono {l m : List Piece} {s t : State} {n : Nat} (h : PortOnly l s t n)
    (hm : l.all (fun f => m.contains f) = true) : PortOnly m s t n := ⟨h.1, .after (.refl _ _) h.2 hm⟩

theorem PortOnly.trans {l : List Piece} {s t u : State} {n : Nat} (h : PortOnly l s t n) (k : PortOnly l t u n) : PortOnly l s u n :=
  ⟨fun j hj => (k.1 j hj).trans (h.1 j hj), h.2.trans k.2⟩

theorem modPort_portOnly (s : State) (n : Nat) (g : Port → Port) : PortOnly [.port] s (s.modPort n g) n :=
  ⟨fun _ hj => State.modPort_portAt_other _ _ _ _ hj, State.modPort_changes s n g⟩

/-- A port but for what the end of its operations and the stop of its emitter write. -/
def Port.besideOps (x : Port) : Port :=
  { x with
    opStatus := 0, opCount := 0, failed := 0, queue := [], emBusy := false, mode := 0, modeAt := 0, pinOe := 0, emSink := false
    c0 := {}, c1 := {}, win := {} }

/-- From s to t port n alone changes among the ports, and it only by ends of operations and stops of its emitter. -/
structure EndsAtPort (s t : State) (n : Nat) : Prop where
  others : ∀ j, j ≠ n → t.portAt j = s.portAt j
  port : (t.portAt n).besideOps = (s.portAt n).besideOps

namespace EndsAtPort

variable {s t u : State} {n : Nat}

theorem refl (s : State) (n : Nat) : EndsAtPort s s n := ⟨fun _ _ => rfl, rfl⟩

theorem trans (h : EndsAtPort s t n) (k : EndsAtPort t u n) : EndsAtPort s u n :=
  ⟨fun j hj => (k.others j hj).trans (h.others j hj), k.port.trans h.port⟩

theorem of_port (h : t.port = s.port) : EndsAtPort s t n :=
  ⟨fun j _ => portAt_of_port h j, by rw [portAt_of_port h]⟩

theorem modPort (s : State) (n : Nat) {g : Port → Port} (hg : ∀ x, (g x).besideOps = x.besideOps) :
    EndsAtPort s (s.modPort n g) n :=
  ⟨fun _ hj => State.modPort_portAt_other _ _ _ _ hj, by rw [State.modPort_portAt, hg]⟩

end EndsAtPort

theorem slotOf_of_slots {s t : State} {n : Nat} (h : (t.dieAt (n / 12)).slots = (s.dieAt (n / 12)).slots) (k : Nat) :
    slotOf t n k = slotOf s n k := by
  rw [slotOf, Die.slotAt, h, slotOf, Die.slotAt]

/-- A fault leaves the operations. -/
theorem raiseFault_slotOf (s : State) (d cls detail item a b : Nat) (dangerous : Bool) (n k : Nat) :
    slotOf (raiseFault s d cls detail item a b dangerous) n k = slotOf s n k :=
  slotOf_of_slots (slots_of_besideOffers (besideOffers_of_besideReaction
    (raiseFault_besideReaction s d cls detail item a b dangerous (n / 12)))) k

/-! ### The end of an operation (R68, R85, R153) -/

/-- A port that leaves its mode for the one that waits behind it (R68). -/
def Port.idled (x : Port) (at_ : Nat) : Port := { x with mode := 0, modeAt := at_, pinOe := 0, emSink := false }

theorem enterIdleMode_cases (s : State) (n : Nat) :
    enterIdleMode s n = s ∨ enterIdleMode s n = s.modPort n (·.idled s.time.elapsed) := by
  unfold enterIdleMode
  dsimp only
  split
  · exact .inr rfl
  · exact .inl rfl

/-- A port whose operation in slot k ends with a status (R85, R166). -/
def Port.opEnded (x : Port) (k status : Nat) (busy : Bool) : Port :=
  { x with
    opStatus := status, opCount := x.opCount + 1, failed := if status = 0 then x.failed else counted 65535 x.failed
    queue := without x.queue k, emBusy := busy }

/-- A die but for its transaction table. -/
def Die.besideSlots (x : Die) : Die := { x with slots := [] }

@[simp] theorem modPort_slotOf (s : State) (m n k : Nat) (g : Port → Port) : slotOf (s.modPort m g) n k = slotOf s n k := rfl

@[simp] theorem modCtx_slotOf (s : State) (e c n k : Nat) (g : Ctx → Ctx) : slotOf (s.modCtx e c g) n k = slotOf s n k := rfl

@[simp] theorem modSlot_portAt (s : State) (d k j : Nat) (g : Slot → Slot) : (s.modSlot d k g).portAt j = s.portAt j := rfl

theorem modSlot_besideSlots (s : State) (d k i : Nat) (g : Slot → Slot) :
    ((s.modSlot d k g).dieAt i).besideSlots = (s.dieAt i).besideSlots := modDie_keeps Die.besideSlots s d i fun _ => rfl

/-- The machine once an operation's port and slot hold how it ended. -/
def opReported (s : State) (n k status count : Nat) : State :=
  (s.modPort n fun x => x.opEnded k status (if (slotOf s n k).needsGov then
    emitterQueued (s.dieAt (n / 12)) (without x.queue k) else x.emBusy)).modSlot (n / 12) k fun y =>
      { y with state := 4, status := status, count := count }

/-- A context that learns of the end of its operation (R166). -/
def Ctx.opDone (c : Ctx) (y : Slot) (status : Nat) : Ctx :=
  { c with
    stale := c.stale || status != 0 || y.waitedCal, patched := c.patched || y.patched, rangeF := c.rangeF || y.rangeF
    defer := c.defer || y.deferred }

/-- The machine once the operation's context knows of the end, or its slot is free when the context has ended (R153). -/
def opReleased (s : State) (n k status count : Nat) : State :=
  if (slotOf s n k).orphan then retireSlot (opReported s n k status count) (n / 12) k
  else (opReported s n k status count).modCtx (slotOf s n k).engine (slotOf s n k).ctx (·.opDone (slotOf s n k) status)

theorem completeOp_eq {s : State} {n k : Nat} (status count : Nat) (hport : (slotOf s n k).port = n) :
    completeOp s (n / 12) k status count = enterIdleMode (opReleased s n k status count) n := by
  have hslot : ((s.dieAt (n / 12)).slotAt k).port = n := hport
  simp only [completeOp, hslot]
  rfl

section
variable (s : State) (n k status count : Nat)

theorem opReleased_port : (opReleased s n k status count).port = (opReported s n k status count).port := by
  unfold opReleased
  split <;> rfl

theorem opReleased_time : (opReleased s n k status count).time = s.time := by
  unfold opReleased
  split <;> rfl

theorem opReleased_slotOf : slotOf (opReleased s n k status count) n k =
    if (slotOf s n k).orphan then { gen := ((slotOf s n k).gen + 1) % 128 }
    else { slotOf s n k with state := 4, status := status, count := count } := by
  unfold opReleased
  split
  · simp [retireSlot, opReported, modSlot_slotOf]
  · simp [opReported, modSlot_slotOf]

theorem opReleased_slotOf_other {j : Nat} (hj : j ≠ k) : slotOf (opReleased s n k status count) n j = slotOf s n j := by
  unfold opReleased
  split
  · simp [retireSlot, opReported, modSlot_slotOf_other _ n _ hj]
  · simp [opReported, modSlot_slotOf_other _ n _ hj]

theorem opReleased_besideSlots (i : Nat) : ((opReleased s n k status count).dieAt i).besideSlots = (s.dieAt i).besideSlots := by
  have hreported : ((opReported s n k status count).dieAt i).besideSlots = (s.dieAt i).besideSlots := modSlot_besideSlots _ _ _ _ _
  unfold opReleased
  split
  · exact (modSlot_besideSlots (opReported s n k status count) (n / 12) k i fun y => { gen := (y.gen + 1) % 128 }).trans hreported
  · exact hreported

end

section
variable {s : State} {n k : Nat} (status count : Nat) (hport : (slotOf s n k).port = n)
include hport

theorem completeOp_dieAt (i : Nat) : (completeOp s (n / 12) k status count).dieAt i = (opReleased s n k status count).dieAt i := by
  rw [completeOp_eq status count hport]
  exact dieAt_of_die ((enterIdleMode_changes _ n) .die rfl) i

theorem completeOp_slotOf (j : Nat) : slotOf (completeOp s (n / 12) k status count) n j = slotOf (opReleased s n k status count) n j := by
  rw [slotOf, completeOp_dieAt status count hport, slotOf]

theorem completeOp_portAt_other {j : Nat} (hj : j ≠ n) : (completeOp s (n / 12) k status count).portAt j = s.portAt j := by
  have hother : (opReleased s n k status count).portAt j = s.portAt j := by
    rw [portAt_of_port (opReleased_port s n k status count), opReported, modSlot_portAt, State.modPort_portAt_other _ _ _ _ hj]
  rw [completeOp_eq status count hport]
  obtain h | h := enterIdleMode_cases (opReleased s n k status count) n
  · rw [h, hother]
  · rw [h, State.modPort_portAt_other _ _ _ _ hj, hother]

/-- The port as the end of its operation leaves it: in its mode, or on the way to the one that waits. -/
theorem completeOp_portAt :
    let z := (s.portAt n).opEnded k status (if (slotOf s n k).needsGov then
      (without (s.portAt n).queue k).any (fun j => (slotOf s n j).needsGov) else (s.portAt n).emBusy)
    (completeOp s (n / 12) k status count).portAt n = z ∨
      (completeOp s (n / 12) k status count).portAt n = z.idled s.time.elapsed := by
  intro z
  have hmine : (opReleased s n k status count).portAt n = z := by
    rw [portAt_of_port (opReleased_port s n k status count), opReported, modSlot_portAt, State.modPort_portAt]
    rfl
  rw [completeOp_eq status count hport]
  obtain h | h := enterIdleMode_cases (opReleased s n k status count) n
  · exact .inl (by rw [h, hmine])
  · exact .inr (by rw [h, State.modPort_portAt, hmine, opReleased_time])

theorem completeOp_endsAtPort : EndsAtPort s (completeOp s (n / 12) k status count) n := by
  refine ⟨fun j hj => completeOp_portAt_other status count hport hj, ?_⟩
  obtain h | h := completeOp_portAt status count hport
  · rw [h]
    rfl
  · rw [h]
    rfl

theorem completeOp_completed : OpCompleted s (completeOp s (n / 12) k status count) n k status count := by
  unfold OpCompleted
  rw [completeOp_slotOf status count hport, opReleased_slotOf]
  refine ⟨?_, ?_, ?_, ?_, ?_⟩
  case refine_5 =>
    split
    · rfl
    · exact ⟨rfl, rfl, rfl, rfl⟩
  all_goals
    obtain h | h := completeOp_portAt status count hport
    · rw [h]
      rfl
    · rw [h]
      rfl

/-- BUSY stands only for another emitter operation once one has ended (R87). -/
theorem completeOp_emBusy (hgov : (slotOf s n k).needsGov = true) : ((completeOp s (n / 12) k status count).portAt n).emBusy =
    (without (s.portAt n).queue k).any (fun j => (slotOf s n j).needsGov) := by
  have hmine := completeOp_portAt status count hport
  rw [if_pos hgov] at hmine
  obtain h | h := hmine
  · rw [h]
    rfl
  · rw [h]
    rfl

theorem completeOp_emSink (hsink : (s.portAt n).emSink = false) :
    ((completeOp s (n / 12) k status count).portAt n).emSink = false := by
  obtain h | h := completeOp_portAt status count hport
  · rw [h]
    exact hsink
  · rw [h]
    rfl

end

/-! ### An emitter that stops (R79, R90, R191) -/

/-- A trip signal that a gate of the emitter closes (R141). -/
def Comp.gateClosed (c : Comp) (always : Bool) : Comp := { c with gated := c.gated && always, filtered := c.filtered && always }

/-- A port whose emitter stops: it sinks no more, and no trip passes a gate that follows it. -/
def Port.emitterStopped (x : Port) (always0 always1 alwaysWin : Bool) : Port :=
  { x with
    emSink := false, c0 := x.c0.gateClosed always0, c1 := x.c1.gateClosed always1, win := x.win.gateClosed alwaysWin }

/-- The machine once port n's emitter stops and its die's governor has no slot or request of it. -/
def emitterReleased (s : State) (n : Nat) : State :=
  (s.modPort n fun x => x.emitterStopped (cfg s (portIdx n 9) 0xC 0 != 1) (cfg s (portIdx n 10) 0xC 0 != 1)
    (cfg s (portIdx n 11) 0xC 0 != 1)).modDie (n / 12) fun x =>
      { x with govHeld := without x.govHeld n, govWait := without x.govWait n }

theorem emitterStop_eq (s : State) (n : Nat) : emitterStop s n = soRefresh (emitterReleased s n) := rfl

theorem emitterStop_portAt (s : State) (n : Nat) :
    ∃ a0 a1 aw, (emitterStop s n).portAt n = (s.portAt n).emitterStopped a0 a1 aw := by
  rw [emitterStop_eq, portAt_of_port ((soRefresh_changes _) .port rfl), emitterReleased, State.modDie_portAt,
    State.modPort_portAt]
  exact ⟨_, _, _, rfl⟩

/-- It holds no governor slot. -/
theorem emitterStop_govHeld (s : State) (n : Nat) :
    ((emitterStop s n).dieAt (n / 12)).govHeld = without (s.dieAt (n / 12)).govHeld n := by
  rw [emitterStop_eq]
  refine (congrArg Die.govHeld ((soRefresh_refreshed _).die (n / 12)) :).trans ?_
  rw [emitterReleased, State.modDie_dieAt]
  rfl

/-- The slots of the operations stay. -/
theorem emitterStop_slots (s : State) (n d : Nat) : ((emitterStop s n).dieAt d).slots = (s.dieAt d).slots := by
  rw [emitterStop_eq]
  refine (congrArg Die.slots ((soRefresh_refreshed _).die d) :).trans ?_
  exact modDie_keeps Die.slots _ _ d fun _ => rfl

theorem emitterStop_endsAtPort (s : State) (n : Nat) : EndsAtPort s (emitterStop s n) n := by
  refine ⟨fun j hj => ?_, ?_⟩
  · rw [emitterStop_eq, portAt_of_port ((soRefresh_changes _) .port rfl), emitterReleased, State.modDie_portAt,
      State.modPort_portAt_other _ _ _ _ hj]
  · obtain ⟨a0, a1, aw, h⟩ := emitterStop_portAt s n
    rw [h]
    rfl

/-- The emitter side of an operation that ends early, at its port (R81, R90). -/
theorem emitterCancel_effect {s : State} {n k : Nat} (hport : (slotOf s n k).port = n) :
    EndsAtPort s (emitterCancel s (n / 12) k) n ∧ ∀ d, ((emitterCancel s (n / 12) k).dieAt d).slots = (s.dieAt d).slots := by
  have hslot : ((s.dieAt (n / 12)).slotAt k).port = n := hport
  unfold emitterCancel
  dsimp only
  rw [hslot]
  split
  · exact ⟨.refl s n, fun _ => rfl⟩
  · split
    · exact ⟨emitterStop_endsAtPort s n, emitterStop_slots s n⟩
    · split
      · exact ⟨.of_port rfl, fun d => modDie_keeps Die.slots s _ d fun _ => rfl⟩
      · exact ⟨.refl s n, fun _ => rfl⟩

/-! ### The VP switch (R71) -/

theorem modVp_portAt (s : State) (n : Nat) (f : Port → Port) : (modVp s n f).portAt n =
    (s.portAt n).vpSwitch (f (s.portAt n)) (cfg s (0x4000 + 64 * n) 3 0) := State.modPort_portAt _ _ _

theorem modVp_portAt_other (s : State) {n j : Nat} (f : Port → Port) (hj : j ≠ n) : (modVp s n f).portAt j = s.portAt j :=
  State.modPort_portAt_other _ _ _ _ hj

@[simp] theorem modVp_slotOf (s : State) (m n k : Nat) (f : Port → Port) : slotOf (modVp s m f) n k = slotOf s n k := rfl

/-- A port whose switch is open: without PGOOD. -/
def Port.vpOpened (x : Port) : Port := { x with pgood := false, overWins := 0 }

/-- A port whose switch closes: to the rail that VP_SEL names, and without PGOOD at first. -/
def Port.vpStarted (x : Port) (sel : Nat) : Port := { x with vpSel := sel, pgood := false, overWins := 0 }

section
variable {x y : Port} {sel : Nat}

theorem vpSwitch_kept (hx : x.vpClosed = true) (hy : y.vpClosed = true) : x.vpSwitch y sel = y := by
  rw [Port.vpSwitch, if_pos hy, if_pos hx]

theorem vpSwitch_started (hx : ¬x.vpClosed = true) (hy : y.vpClosed = true) : x.vpSwitch y sel = y.vpStarted sel := by
  rw [Port.vpSwitch, if_pos hy, if_neg hx, Port.vpStarted]

theorem vpSwitch_opened (hy : ¬y.vpClosed = true) : x.vpSwitch y sel = y.vpOpened := by
  rw [Port.vpSwitch, if_neg hy, Port.vpOpened]

end

/-- What a port keeps when its switch opens and when it starts stays at any change of the switch. -/
theorem vpSwitch_keeps {α : Type} (p : Port → α) (hopened : ∀ z : Port, p z.vpOpened = p z)
    (hstarted : ∀ (z : Port) sel, p (z.vpStarted sel) = p z) (x y : Port) (sel : Nat) : p (x.vpSwitch y sel) = p y := by
  by_cases hy : y.vpClosed = true
  · by_cases hx : x.vpClosed = true
    · rw [vpSwitch_kept hx hy]
    · rw [vpSwitch_started hx hy, hstarted]
  · rw [vpSwitch_opened hy, hopened]

/-- The switch asks of the port before the change only whether it was closed. -/
theorem vpSwitch_congr {x y : Port} (h : y.vpClosed = x.vpClosed) (z : Port) (sel : Nat) : y.vpSwitch z sel = x.vpSwitch z sel := by
  rw [Port.vpSwitch, h, Port.vpSwitch]

theorem modVp_eq_modPort {s : State} {n : Nat} {f : Port → Port} {z : Port} (h : f (s.portAt n) = z) : modVp s n f =
    s.modPort n fun _ => (s.portAt n).vpSwitch z (cfg s (0x4000 + 64 * n) 3 0) := by
  rw [← h]
  rfl

theorem activeOp_of_headOp {s : State} {n k kind : Nat} (h : HeadOp s n k 3 kind) : activeOp s n kind = some k := by
  have hkind : ((s.dieAt (portDie n)).slotAt k).kind = kind := h.2.2.1
  rw [activeOp, headSlot_of_headOp h, Option.bind_some, if_pos hkind]

end Sys2Proof.Machine
end

section
/-! PROOF. O11: the registers of a port's mode, supply and emitter. -/

namespace Sys2Proof.Machine

/-! ### EM_CFG (R76, R87) -/

/-- A field of a word is its bits. -/
theorem field_toNat (v : Word) (hi lo : Nat) : field v.toNat hi lo = (v.extractLsb' lo (hi + 1 - lo)).toNat := by
  rw [BitVec.extractLsb'_toNat, Nat.shiftRight_eq_div_pow, field]

/-- A value is clamped when it lies outside the limits. -/
theorem clamped_ne_iff {lo hi i : Nat} (h : lo ≤ hi) : max lo (min hi i) ≠ i ↔ i < lo ∨ hi < i := by omega

section
variable {s : State} {n : Nat} (hn : hasPort s n)
include hn

theorem exec_portModeIdleEnd_eq {m : Nat} (hnext : (s.portAt n).nextMode = some m) (hmode : (s.portAt n).mode = 0)
    (hat : (s.portAt n).modeAt + 2500 ≤ s.ticks) : exec (.portModeIdleEnd n) s = .next (s.modPort n fun y => { y with
      mode := m, nextMode := none, modeAt := s.ticks, edgeLatch := [], busBusy := false }) := by
  rw [exec_portModeIdleEnd, execPortModeIdleEnd, withPort_of_hasPort _ hn]
  simp only [hnext, hmode, beq_self_eq_true, Bool.true_and, decide_eq_true hat, given_true]

theorem exec_vpOnWrite_eq (on : Bool) (hon : domainOn s n = true) : exec (.vpOnWrite n on) s =
    .next (s.modPort n fun _ => (s.portAt n).vpSwitch { s.portAt n with vpOn := on && !vpBarred s n }
      (cfg s (0x4000 + 64 * n) 3 0)) := by
  rw [exec_vpOnWrite, execVpOnWrite, withPort_of_hasPort _ hn, hon, given_true, writeVpOn, modVp_eq_modPort rfl]

theorem exec_pgood_eq (hclosed : (s.portAt n).vpClosed = true) :
    exec (.pgood n) s = .next (s.modPort n fun y => { y with pgood := true, pgoodAt := s.ticks }) := by
  rw [exec_pgood, execPgood, withPort_of_hasPort _ hn, hclosed, given_true]

theorem exec_uartIdleGap_eq {k : Nat} (h : HeadOp s n k 3 2) :
    exec (.uartIdleGap n) s = .next (s.modPort n fun y => { y with uartIdle := true }) := by
  rw [exec_uartIdleGap, execUartIdleGap, withPort_of_hasPort _ hn, activeOp_of_headOp h, Option.isSome_some, given_true]

theorem exec_emCfgWrite_eq (v : Word) (hon : domainOn s n = true) {i w : Nat} (hi : (v.extractLsb' 0 8).toNat = i)
    (hw : (v.extractLsb' 8 10).toNat = w) : exec (.emCfgWrite n v) s = .next (s.modPort n fun y => { y with
      emISet := max 10 (min 250 i), emWidth := max 1 (min 1000 w)
      emClamped := y.emClamped || decide (i < 10 ∨ 250 < i ∨ w < 1 ∨ 1000 < w) }) := by
  have hclamped (old : Bool) : (old || max 10 (min 250 i) != i || max 1 (min 1000 w) != w) =
      (old || decide (i < 10 ∨ 250 < i ∨ w < 1 ∨ 1000 < w)) := by
    have hlimits : (max 10 (min 250 i) != i || max 1 (min 1000 w) != w) = decide (i < 10 ∨ 250 < i ∨ w < 1 ∨ 1000 < w) := by
      rw [Bool.eq_iff_iff, Bool.or_eq_true, bne_iff_ne, bne_iff_ne, clamped_ne_iff (by decide), clamped_ne_iff (by decide),
        decide_eq_true_iff, or_assoc]
    rw [Bool.or_assoc, hlimits]
  have hfi : field v.toNat 7 0 = i := (field_toNat v 7 0).trans hi
  have hfw : field v.toNat 17 8 = w := (field_toNat v 17 8).trans hw
  rw [exec_emCfgWrite, execEmCfgWrite, withPort_of_hasPort _ hn, hon, given_true, writeEmCfg, hfi, hfw]
  simp only [hclamped]

end

/-! ### The statement -/

/-- Settles O11: each command by the one change of its port. -/
theorem portModeSupplyAndEmitterRegisters : Obligations.PortModeSupplyAndEmitterRegisters := fun _ _ hn =>
  ⟨fun _ hnext hmode hat => exec_portModeIdleEnd_eq hn hnext hmode hat, fun on hon => exec_vpOnWrite_eq hn on hon,
    exec_pgood_eq hn, fun v hon => exec_emCfgWrite_eq hn v hon rfl rfl, fun _ h => exec_uartIdleGap_eq hn h⟩

end Sys2Proof.Machine
end

section
/-! PROOF. O12: the causes of quarantine, its probes and its ends. -/

namespace Sys2Proof.Machine

/-! ### The operations of a port that enters quarantine (R90) -/

/-- The operations that quarantine ends: the waiting ones, and an active one of the emitter. -/
abbrev Slot.stops (y : Slot) : Prop := y.state = 1 ∨ y.state = 2 ∨ (y.state = 3 ∧ y.needsGov = true)

/-- Quarantine at one operation of port n. -/
def quarantineOp (n : Nat) (s : State) (k : Nat) : State :=
  if (slotOf s n k).stops then completeOp (emitterCancel s (n / 12) k) (n / 12) k 9 (idleCount s (slotOf s n k)) else s

theorem quarantineOps_eq (s : State) (n : Nat) : quarantineOps s n = (s.portAt n).queue.foldl (quarantineOp n) s := rfl

/-- From s to t quarantine has ended the operations of port n in slots l, and no other operation changes. -/
structure OpsQuarantined (s t : State) (n : Nat) (l : List Nat) : Prop where
  ends : EndsAtPort s t n
  kept : ∀ k, ¬(slotOf s n k).stops → slotOf t n k = slotOf s n k
  ended : ∀ k ∈ l, (slotOf s n k).stops → (slotOf s n k).orphan = false →
    (slotOf t n k).state = 4 ∧ (slotOf t n k).status = 9

theorem quarantineOp_effect {s : State} {n k : Nat} (hport : (slotOf s n k).stops → (slotOf s n k).port = n) :
    let t := quarantineOp n s k
    OpsQuarantined s t n [k] ∧ (∀ j, j ≠ k → slotOf t n j = slotOf s n j) ∧ ¬(slotOf t n k).stops := by
  unfold quarantineOp
  split
  · next hstops =>
    obtain ⟨hcancel, hslots⟩ := emitterCancel_effect (hport hstops)
    have hslot : ∀ j, slotOf (emitterCancel s (n / 12) k) n j = slotOf s n j := slotOf_of_slots (hslots _)
    have hport' : (slotOf (emitterCancel s (n / 12) k) n k).port = n := by rw [hslot, hport hstops]
    have hend := completeOp_slotOf 9 (idleCount s (slotOf s n k)) hport'
    have hmine := (hend k).trans (opReleased_slotOf _ n k _ _)
    have hothers : ∀ j, j ≠ k → _ = slotOf s n j := fun j hj =>
      ((hend j).trans (opReleased_slotOf_other _ n k _ _ hj)).trans (hslot j)
    rw [hslot] at hmine
    refine ⟨⟨hcancel.trans (completeOp_endsAtPort 9 _ hport'), fun j hj => hothers j ?_, fun j hj _ horphan => ?_⟩, hothers, ?_⟩
    · rintro rfl
      exact hj hstops
    · obtain rfl := List.mem_singleton.mp hj
      rw [hmine, horphan]
      exact ⟨rfl, rfl⟩
    · rw [hmine]
      split <;> simp [Slot.stops]
  · next hstops =>
    exact ⟨⟨.refl s n, fun _ _ => rfl, fun j hj h _ => absurd (List.mem_singleton.mp hj ▸ h) hstops⟩, fun _ _ => rfl, hstops⟩

theorem quarantineOps_fold {n : Nat} (l : List Nat) (s : State)
    (hport : ∀ k ∈ l, (slotOf s n k).stops → (slotOf s n k).port = n) : OpsQuarantined s (l.foldl (quarantineOp n) s) n l := by
  induction l generalizing s with
  | nil => exact ⟨.refl s n, fun _ _ => rfl, fun _ hk => absurd hk List.not_mem_nil⟩
  | cons i l ih =>
    obtain ⟨hfirst, hother, hdone⟩ := quarantineOp_effect (hport i List.mem_cons_self)
    have hrest : ∀ k ∈ l, (slotOf (quarantineOp n s i) n k).stops → (slotOf (quarantineOp n s i) n k).port = n := by
      intro k hk hstops
      have hne : k ≠ i := by
        rintro rfl
        exact hdone hstops
      rw [hother k hne] at hstops ⊢
      exact hport k (List.mem_cons_of_mem i hk) hstops
    obtain ⟨hends, hkept, hended⟩ := ih _ hrest
    refine ⟨hfirst.ends.trans hends, fun k hk => ?_, fun k hk hstops horphan => ?_⟩
    · have hsame := hfirst.kept k hk
      rw [List.foldl_cons, hkept k (by rwa [hsame]), hsame]
    · rw [List.foldl_cons]
      by_cases hki : k = i
      · subst hki
        rw [hkept k hdone]
        exact hfirst.ended k (List.mem_singleton.mpr rfl) hstops horphan
      · rw [← hother k hki] at hstops horphan
        exact hended k ((List.mem_cons.mp hk).resolve_left hki) hstops horphan

theorem stopEmitterItem_endsAtPort (s : State) (n : Nat) : EndsAtPort s (stopEmitterItem s n) n ∧
    ∀ k, slotOf (stopEmitterItem s n) n k = slotOf s n k := by
  unfold stopEmitterItem
  split
  · let u := s.modPort n fun x => { x with emBusy := false }
    have hu : EndsAtPort s u n := .modPort s n fun _ => rfl
    exact ⟨hu.trans (emitterStop_endsAtPort u n), fun k => slotOf_of_slots (emitterStop_slots u n (n / 12)) k⟩
  · exact ⟨.refl s n, fun _ => rfl⟩

/-! ### The VP switch of a port in quarantine (R71, R89) -/

@[simp] theorem vpSwitch_quar (x y : Port) (sel : Nat) : (x.vpSwitch y sel).quar = y.quar :=
  vpSwitch_keeps Port.quar (fun _ => rfl) (fun _ _ => rfl) x y sel

@[simp] theorem vpSwitch_overload (x y : Port) (sel : Nat) : (x.vpSwitch y sel).overload = y.overload :=
  vpSwitch_keeps Port.overload (fun _ => rfl) (fun _ _ => rfl) x y sel

@[simp] theorem vpSwitch_quarCtl (x y : Port) (sel : Nat) : (x.vpSwitch y sel).quarCtl = y.quarCtl :=
  vpSwitch_keeps Port.quarCtl (fun _ => rfl) (fun _ _ => rfl) x y sel

@[simp] theorem vpSwitch_holds (x y : Port) (sel code : Nat) : (x.vpSwitch y sel).holds code = y.holds code := by
  simp [Port.holds]

theorem vpSwitch_pgood_of_open {y : Port} (h : y.vpClosed = false) (x : Port) (sel : Nat) : (x.vpSwitch y sel).pgood = false := by
  simp [Port.vpSwitch, h]

/-- A probe of an overload reason runs, which closes the switch (R89). -/
def QuarReason.probesSupply (r : QuarReason) : Bool := (r.code == 3 || r.code == 4) && r.probing

theorem vpClosed_eq (x : Port) : x.vpClosed =
    (x.powered && !x.vpSleep && if x.holds 3 || x.holds 4 then x.quar.any QuarReason.probesSupply else x.vpOn) := rfl

/-- An overload reason that no probe of one accompanies holds the switch open (R74, R89). -/
theorem vpClosed_of_overload {x : Port} {code : Nat} (hcode : code = 3 ∨ code = 4) (hheld : x.holds code = true)
    (hprobe : x.quar.any QuarReason.probesSupply = false) : x.vpClosed = false := by
  have hany : (x.holds 3 || x.holds 4) = true := by
    obtain rfl | rfl := hcode
    · rw [hheld, Bool.true_or]
    · rw [hheld, Bool.or_true]
  rw [vpClosed_eq, hany, if_pos rfl, hprobe, Bool.and_false]

/-! ### A reason joins the set (R90, R91, R481) -/

/-- A reason not yet held is not among those whose probe its cause ends; an overload ends those of both overload reasons (R89). -/
theorem map_probeFails {q : List QuarReason} {code : Nat} (h : q.any (fun r => r.code == code) = false) :
    q.map (probeFails code) =
      q.map (fun r => if (code = 3 ∨ code = 4) ∧ (r.code = 3 ∨ r.code = 4) then { r with probing := false } else r) := by
  refine List.map_congr_left fun r hr => ?_
  have hne : r.code ≠ code := by simpa using List.any_eq_false.mp h r hr
  simp [probeFails, hne]

/-- A port that a new reason joins, at a tick (R91, R431, R481). -/
def Port.quarantined (x : Port) (code at_ : Nat) : Port :=
  { x.restartCal at_ with quar := { code := code, backoff := 10, nextAt := at_ + msTicks 10 } :: x.quar.map (probeFails code) }

theorem quarantined_quar (x : Port) (code at_ : Nat) : (x.quarantined code at_).quar =
    { code := code, backoff := 10, nextAt := at_ + 2500000 } :: x.quar.map (probeFails code) := rfl

/-- A machine whose port has ended its operations for quarantine. -/
def opsStopped (s : State) (n : Nat) : State := stopEmitterItem (quarantineOps s n) n

theorem quarantineAdd_new {s : State} {n code : Nat} (hnew : (s.portAt n).holds code = false) : quarantineAdd s n code =
    raiseFault (modVp (opsStopped s n) n (·.quarantined code s.time.elapsed)) (portDie n) 0x0D code n 0 0
      (portOwner s n == some 1) := by
  rw [quarantineAdd, hnew, if_neg Bool.false_ne_true]
  rfl

/-- A new overload reason opens the switch (R74). -/
theorem quarantined_vpClosed {x : Port} {code : Nat} (hcode : code = 3 ∨ code = 4) (at_ : Nat) :
    (x.quarantined code at_).vpClosed = false := by
  refine vpClosed_of_overload hcode (by simp [Port.holds, quarantined_quar]) ?_
  rw [quarantined_quar, List.any_cons, List.any_map, QuarReason.probesSupply, Bool.and_false, Bool.false_or, List.any_eq_false]
  intro r _
  simp only [Function.comp_apply, probeFails, QuarReason.probesSupply]
  split
  · simp
  · next hfails =>
    have hr : ¬(r.code = 3 ∨ r.code = 4) := fun h => hfails (.inr ⟨hcode, h⟩)
    simp [not_or.mp hr]

theorem opsStopped_effect {s : State} {n : Nat} (hport : ∀ k ∈ (s.portAt n).queue, (slotOf s n k).port = n) :
    OpsQuarantined s (opsStopped s n) n (s.portAt n).queue := by
  obtain ⟨hends, hkept, hended⟩ := quarantineOps_fold (s.portAt n).queue s fun k hk _ => hport k hk
  obtain ⟨hitem, hslot⟩ := stopEmitterItem_endsAtPort (quarantineOps s n) n
  rw [← quarantineOps_eq] at hends hkept hended
  refine ⟨hends.trans hitem, fun k hk => (hslot k).trans (hkept k hk), fun k hk hstops horphan => ?_⟩
  rw [opsStopped, hslot]
  exact hended k hk hstops horphan

/-- From s to t a new reason joins the set of port n: its probes and back-off, and the end of the operations that waited. -/
structure Quarantined (s t : State) (n code : Nat) : Prop where
  quar : (t.portAt n).quar = { code := code, backoff := 10, nextAt := s.time.elapsed + 2500000 } :: (s.portAt n).quar.map
    (fun r => if (code = 3 ∨ code = 4) ∧ (r.code = 3 ∨ r.code = 4) then { r with probing := false } else r)
  ops : ∀ k ∈ (s.portAt n).queue, (slotOf s n k).state = 1 ∨ (slotOf s n k).state = 2 → (slotOf s n k).orphan = false →
    (slotOf t n k).state = 4 ∧ (slotOf t n k).status = 9
  only : PortOnly [.die, .port, .engine, .stream, .parish, .reeve, .timers] s t n

section
variable {s : State} {n code : Nat}

theorem quarantineAdd_portAt (hnew : (s.portAt n).holds code = false) (j : Nat) : (quarantineAdd s n code).portAt j =
    (modVp (opsStopped s n) n (·.quarantined code s.time.elapsed)).portAt j := by
  rw [quarantineAdd_new hnew]
  exact portAt_of_port ((raiseFault_changes _ _ _ _ _ _ _ _) .port rfl) j

variable (hnew : (s.portAt n).holds code = false) (hport : ∀ k ∈ (s.portAt n).queue, (slotOf s n k).port = n)
include hnew hport

theorem quarantineAdd_quarantined : Quarantined s (quarantineAdd s n code) n code := by
  have hops := opsStopped_effect hport
  refine ⟨?_, fun k hk hstate horphan => ?_, fun j hj => ?_, quarantineAdd_changes s n code⟩
  · have hquar : ((opsStopped s n).portAt n).quar = (s.portAt n).quar := (congrArg Port.quar hops.ends.port :)
    rw [quarantineAdd_portAt hnew, modVp_portAt, vpSwitch_quar, quarantined_quar, hquar, map_probeFails hnew]
  · have hslot : slotOf (quarantineAdd s n code) n k = slotOf (opsStopped s n) n k := by
      rw [quarantineAdd_new hnew, raiseFault_slotOf, modVp_slotOf]
    rw [hslot]
    exact hops.ended k hk (hstate.imp_right .inl) horphan
  · rw [quarantineAdd_portAt hnew, modVp_portAt_other _ _ hj, hops.ends.others j hj]

/-- OVERLOAD and QUAR_CTL stay as they are. -/
theorem quarantineAdd_marks : ((quarantineAdd s n code).portAt n).overload = (s.portAt n).overload ∧
    ((quarantineAdd s n code).portAt n).quarCtl = (s.portAt n).quarCtl := by
  have hbeside := (opsStopped_effect hport).ends.port
  rw [quarantineAdd_portAt hnew, modVp_portAt, vpSwitch_overload, vpSwitch_quarCtl]
  exact ⟨(congrArg Port.overload hbeside :), (congrArg Port.quarCtl hbeside :)⟩

end

/-- A reason joins on a machine u whose port alone has been marked by the cause. -/
theorem Quarantined.of_marked {s u t : State} {n code : Nat} (hu : PortOnly [.port] s u n)
    (hquar : (u.portAt n).quar = (s.portAt n).quar) (hqueue : (u.portAt n).queue = (s.portAt n).queue)
    (h : Quarantined u t n code) : Quarantined s t n code := by
  have hslot : ∀ k, slotOf u n k = slotOf s n k := slotOf_of_slots (by rw [dieAt_of_die (hu.2 .die rfl)])
  obtain ⟨hq, hops, honly⟩ := h
  rw [hquar, hu.2 .time rfl] at hq
  simp only [hqueue, hslot] at hops
  exact ⟨hq, hops, (hu.mono rfl).trans honly⟩

/-! ### The causes (R74, R88, R89) -/

section
variable {s : State} {n : Nat}

/-- A port at which an overload shows, before its reason joins (R74). -/
def Port.overloadSeen (x : Port) : Port := { x with overload := true, pgood := false }

/-- The machine with that port. -/
def overloaded (s : State) (n : Nat) : State := s.modPort n Port.overloadSeen

section
variable (hn : hasPort s n)
include hn

theorem exec_vpAverageOverload_eq (hclosed : (s.portAt n).vpClosed = true) (hwins : 3 ≤ (s.portAt n).overWins) :
    exec (.vpAverageOverload n) s = .next (quarantineAdd (overloaded s n) n 3) := by
  rw [exec_vpAverageOverload, execVpAverageOverload, withPort_of_hasPort _ hn, hclosed, decide_eq_true hwins, Bool.and_self, given_true]
  rfl

theorem exec_vpPeakOverload_eq (hclosed : (s.portAt n).vpClosed = true) :
    exec (.vpPeakOverload n) s = .next (quarantineAdd (overloaded s n) n 4) := by
  rw [exec_vpPeakOverload, execVpPeakOverload, withPort_of_hasPort _ hn, hclosed, given_true]
  rfl

theorem exec_uartRxLowTimeout_eq (hmode : (s.portAt n).mode = 3) (hon : domainOn s n = true)
    (hlow : pinSteady s n (rxdPin s n) false (250000 * cfg s (0x4000 + 64 * n) 8 100) = true) :
    exec (.uartRxLowTimeout n) s = .next (quarantineAdd s n 2) := by
  have hlow' : pinSteady s n (rxdPin s n) false (msTicks (cfg s (padIdx n) 8 100)) = true := by
    rw [msTicks, Nat.mul_comm]
    exact hlow
  rw [exec_uartRxLowTimeout, execUartRxLowTimeout, withPort_of_hasPort _ hn, hmode, hon, hlow']
  rfl

/-- A write of QUAR_CTL on a die that can be reached. -/
theorem quarCtl_reached (hdie : dieOff s (n / 12) = false) (hon : domainOn s n = true) (v : Nat) :
    given (portCode s n == 0) (withStatus s (portCode s n)) (quarCtlWrite s n v) = withStatus (writeQuarCtl s n v) 0 := by
  rw [(portCode_eq_zero s n).mpr ⟨hn, hdie⟩, quarCtlWrite, hon]
  rfl

/-- A write of QUAR_CTL with the domain or the die off (R88, R412). -/
theorem quarCtl_off (hoff : domainOn s n = false ∨ dieOff s (n / 12) = true) (v : Nat) :
    given (portCode s n == 0) (withStatus s (portCode s n)) (quarCtlWrite s n v) = answered s 0x0401 := by
  by_cases hdie : dieOff s (n / 12) = true
  · have hcode : portCode s n = 0x0401 := by simp [portCode, accessCode, portDie, hn, hdie]
    rw [hcode]
    rfl
  · have hdie' : dieOff s (n / 12) = false := by simpa using hdie
    rw [(portCode_eq_zero s n).mpr ⟨hn, hdie'⟩, quarCtlWrite, hoff.resolve_right hdie]
    rfl

end

end

section
variable {s : State} {n : Nat} (hport : ∀ k ∈ (s.portAt n).queue, (slotOf s n k).port = n)
include hport

/-- An overload's mark and its reason. -/
theorem overload_quarantines {code : Nat} (hcode : code = 3 ∨ code = 4) (hnew : (s.portAt n).holds code = false) :
    let t := quarantineAdd (overloaded s n) n code
    Quarantined s t n code ∧ (t.portAt n).overload = true ∧ (t.portAt n).pgood = false := by
  intro t
  have hmine : (overloaded s n).portAt n = (s.portAt n).overloadSeen := State.modPort_portAt _ _ _
  have hnew' : ((overloaded s n).portAt n).holds code = false := by
    rw [hmine]
    exact hnew
  have hport' : ∀ k ∈ ((overloaded s n).portAt n).queue, (slotOf (overloaded s n) n k).port = n := by
    rw [hmine]
    exact hport
  refine ⟨(quarantineAdd_quarantined hnew' hport').of_marked (u := overloaded s n) (modPort_portOnly s n Port.overloadSeen)
    (by rw [hmine]; rfl) (by rw [hmine]; rfl), ?_, ?_⟩
  · rw [(quarantineAdd_marks hnew' hport').1, hmine]
    rfl
  · simp only [t]
    rw [quarantineAdd_portAt hnew', modVp_portAt]
    exact vpSwitch_pgood_of_open (quarantined_vpClosed hcode _) _ _

/-- A port with QUAR_CTL written. -/
def Port.withQuarCtl (x : Port) (v : Nat) : Port := { x with quarCtl := v }

omit hport in
theorem writeQuarCtl_hold_eq (hnew : (s.portAt n).holds 5 = false) :
    writeQuarCtl s n 1 = quarantineAdd (s.modPort n (·.withQuarCtl 1)) n 5 :=
  if_neg (Bool.eq_false_iff.mp hnew)

/-- The mark of QUAR_CTL = 1 and its reason. -/
theorem hold_quarantines (hnew : (s.portAt n).holds 5 = false) :
    Quarantined s (writeQuarCtl s n 1) n 5 ∧ ((writeQuarCtl s n 1).portAt n).quarCtl = 1 := by
  have hmarked : PortOnly [.port] s (s.modPort n (·.withQuarCtl 1)) n := modPort_portOnly s n _
  have hmine : (s.modPort n (·.withQuarCtl 1)).portAt n = (s.portAt n).withQuarCtl 1 := State.modPort_portAt _ _ _
  rw [writeQuarCtl_hold_eq hnew]
  generalize s.modPort n (·.withQuarCtl 1) = u at hmarked hmine ⊢
  have hnew' : (u.portAt n).holds 5 = false := by
    rw [hmine]
    exact hnew
  have hqueue : (u.portAt n).queue = (s.portAt n).queue := by rw [hmine]; rfl
  have hslot : ∀ k, slotOf u n k = slotOf s n k := slotOf_of_slots (by rw [dieAt_of_die (hmarked.2 .die rfl)])
  have hport' : ∀ k ∈ (u.portAt n).queue, (slotOf u n k).port = n := by
    simpa only [hqueue, hslot] using hport
  refine ⟨(quarantineAdd_quarantined hnew' hport').of_marked hmarked (by rw [hmine]; rfl) hqueue, ?_⟩
  rw [(quarantineAdd_marks hnew' hport').2, hmine]
  rfl

end

/-! ### A reason leaves the set (R90, R481) -/

section
variable {s : State} {n : Nat}

/-- A reason that a port holds ends: the others stay, and the VP switch follows. -/
theorem quarantineLeave_effect {code : Nat} (hheld : (s.portAt n).holds code = true) :
    (quarantineLeave s n code).portAt n = (s.portAt n).vpSwitch
        { s.portAt n with quar := (s.portAt n).quar.filter (·.code ≠ code) } (cfg s (0x4000 + 64 * n) 3 0) ∧
      PortOnly [.die, .port, .stream, .parish, .reeve, .timers] s (quarantineLeave s n code) n := by
  have hport : ∀ j, (quarantineLeave s n code).portAt j =
      (modVp s n fun x => { x with quar := x.quar.filter (·.code ≠ code) }).portAt j := by
    have hne : (fun r : QuarReason => r.code != code) = fun r => decide (r.code ≠ code) := by
      funext r
      by_cases h : r.code = code <;> simp [h]
    rw [quarantineLeave, if_pos hheld, hne]
    exact portAt_of_port ((faultItem_changes _ _ _ _ _ _ _) .port rfl)
  exact ⟨(hport n).trans (modVp_portAt _ _ _),
    fun j hj => (hport j).trans (modVp_portAt_other _ _ hj), quarantineLeave_changes s n code⟩

/-- A reason ends on a machine whose port has taken a mark g that leaves which reasons are held and the VP switch. -/
theorem quarantineLeave_of_marked {code : Nat} {g : Port → Port} (hheld : (g (s.portAt n)).holds code = true)
    (hclosed : (g (s.portAt n)).vpClosed = (s.portAt n).vpClosed) :
    (quarantineLeave (s.modPort n g) n code).portAt n = (s.portAt n).vpSwitch
        { g (s.portAt n) with quar := (g (s.portAt n)).quar.filter (·.code ≠ code) } (cfg s (0x4000 + 64 * n) 3 0) ∧
      PortOnly [.die, .port, .stream, .parish, .reeve, .timers] s (quarantineLeave (s.modPort n g) n code) n := by
  have hmine : (s.modPort n g).portAt n = g (s.portAt n) := State.modPort_portAt s n g
  obtain ⟨hport, honly⟩ := quarantineLeave_effect (s := s.modPort n g) (by rwa [hmine])
  rw [hmine, vpSwitch_congr hclosed] at hport
  exact ⟨hport, ((modPort_portOnly s n g).mono rfl).trans honly⟩

end

/-! ### Probes (R89, R91, R109) -/

theorem holds_of_mem {x : Port} {r : QuarReason} (hr : r ∈ x.quar) : x.holds r.code = true :=
  List.any_eq_true.mpr ⟨r, hr, beq_self_eq_true _⟩

/-- A change of the reasons that leaves their codes and whether an overload reason is probed leaves the VP switch. -/
theorem vpClosed_of_map {x y : Port} {f : QuarReason → QuarReason} (hquar : y.quar = x.quar.map f)
    (hcode : ∀ r, (f r).code = r.code) (hprobe : ∀ r, (f r).probesSupply = r.probesSupply)
    (hrest : y.powered = x.powered ∧ y.vpSleep = x.vpSleep ∧ y.vpOn = x.vpOn) : y.vpClosed = x.vpClosed := by
  obtain ⟨hpowered, hsleep, hon⟩ := hrest
  have hprobed : y.quar.any QuarReason.probesSupply = x.quar.any QuarReason.probesSupply := by
    rw [hquar, List.any_map]
    exact congrArg x.quar.any (funext hprobe)
  have hholds : ∀ c, y.holds c = x.holds c := fun c => by
    simp only [Port.holds, hquar, List.any_map, Function.comp_def, hcode]
  rw [vpClosed_eq, vpClosed_eq, hprobed, hholds, hholds, hpowered, hsleep, hon]

/-- The recovery sequence has ended: counted, and its probe of reason 1 is over (R109). -/
def Port.recoveryOver (x : Port) : Port :=
  { x with
    recovering := false, recoveries := counted 65535 x.recoveries
    quar := x.quar.map (fun r => if r.code = 1 then { r with probing := false } else r) }

theorem recoveryOver_holds (x : Port) (code : Nat) : x.recoveryOver.holds code = x.holds code := by
  have hcode : ∀ r : QuarReason, (if r.code = 1 then { r with probing := false } else r).code = r.code := fun r => by split <;> rfl
  simp only [Port.holds, Port.recoveryOver, List.any_map, Function.comp_def, hcode]

theorem recoveryOver_vpClosed (x : Port) : x.recoveryOver.vpClosed = x.vpClosed := by
  refine vpClosed_of_map (f := fun r => if r.code = 1 then { r with probing := false } else r) rfl (fun r => ?_) (fun r => ?_)
    ⟨rfl, rfl, rfl⟩
  · split <;> rfl
  · split
    · next h => simp [QuarReason.probesSupply, h]
    · rfl

/-- Without reason 1 nothing is left of the mark that the end of its probe set. -/
theorem recoveryOver_filter (x : Port) : x.recoveryOver.quar.filter (·.code ≠ 1) = x.quar.filter (·.code ≠ 1) := by
  rw [Port.recoveryOver, List.filter_map]
  have hcomp : ((fun r : QuarReason => decide (r.code ≠ 1)) ∘ fun r => if r.code = 1 then { r with probing := false } else r) =
      fun r => decide (r.code ≠ 1) := by
    funext r
    by_cases h : r.code = 1 <;> simp [h]
  rw [hcomp]
  refine (List.map_congr_left fun r hr => ?_).trans (List.map_id _)
  rw [if_neg (of_decide_eq_true (List.mem_filter.mp hr).2), id]

section
variable {s : State} {n : Nat} (hn : hasPort s n)
include hn

theorem exec_busRecoveryDone_probe {isFree : Bool} (hrec : (s.portAt n).recovering = true) (hheld : (s.portAt n).holds 1 = true) :
    exec (.busRecoveryDone n isFree) s = .next (if isFree then quarantineLeave (s.modPort n Port.recoveryOver) n 1
      else s.modPort n Port.recoveryOver) := by
  rw [exec_busRecoveryDone, execBusRecoveryDone, withPort_of_hasPort _ hn]
  simp only [hrec, hheld, given_true, if_true]
  rfl

/-- A probe on its own schedule (R91). -/
def QuarReason.reprobed (r : QuarReason) : QuarReason :=
  { r with probing := true, backoff := nextBackoff r.backoff, nextAt := r.nextAt + msTicks (nextBackoff r.backoff) }

theorem exec_quarantineProbe_eq {reason interval : Nat}
    (hdue : ∃ r ∈ (s.portAt n).quar, r.code = reason ∧ r.backoff = interval ∧ r.nextAt ≤ s.time.elapsed)
    (hlo : 1 ≤ reason) (hhi : reason ≤ 4) (hloop : (s.portAt n).loopDepth = 0) :
    exec (.quarantineProbe n reason interval) s = .next (s.modPort n fun _ => (s.portAt n).vpSwitch { s.portAt n with
      recovering := (s.portAt n).recovering || decide (reason = 1)
      quar := (s.portAt n).quar.map (fun r => if r.code = reason then r.reprobed else r) } (cfg s (0x4000 + 64 * n) 3 0)) := by
  obtain ⟨r, hr, rfl, hback, hat⟩ := hdue
  have hany : (s.portAt n).quar.any (fun q => q.code == r.code && q.backoff == interval && decide (q.nextAt ≤ s.ticks)) = true :=
    List.any_eq_true.mpr ⟨r, hr, by
      rw [beq_self_eq_true, hback, beq_self_eq_true]
      exact decide_eq_true hat⟩
  have hrec : (r.code == 1 && (s.portAt n).holds 1) = decide (r.code = 1) := by
    by_cases h : r.code = 1
    · have hheld := holds_of_mem hr
      rw [h] at hheld
      simp [h, hheld]
    · simp [h]
  rw [exec_quarantineProbe, execQuarantineProbe, withPort_of_hasPort _ hn, hany, decide_eq_true hlo, decide_eq_true hhi, hloop,
    probeStart, modVp_eq_modPort rfl, hrec]
  rfl

theorem exec_quarantineProbePassed_eq {reason : Nat} (hprobed : ∃ r ∈ (s.portAt n).quar, r.code = reason ∧ r.probing = true)
    (hlo : 2 ≤ reason) (hhi : reason ≤ 4) (hrx : reason = 2 → pinSteady s n (rxdPin s n) true 250000 = true)
    (hvp : reason ≠ 2 → (s.portAt n).pgood = true ∧ (s.portAt n).pgoodAt + 2500000 ≤ s.time.elapsed) :
    exec (.quarantineProbePassed n reason) s = .next (quarantineLeave s n reason) ∧ (s.portAt n).holds reason = true := by
  obtain ⟨r, hr, rfl, hprobing⟩ := hprobed
  have hany : (s.portAt n).quar.any (fun q => q.code == r.code && q.probing) = true :=
    List.any_eq_true.mpr ⟨r, hr, by simp [hprobing]⟩
  have hpassed : (if r.code = 2 then pinSteady s n (rxdPin s n) true (msTicks 1)
      else (s.portAt n).pgood && decide ((s.portAt n).pgoodAt + msTicks 10 ≤ s.ticks)) = true := by
    split
    · next h => exact hrx h
    · next h =>
      obtain ⟨hgood, hat⟩ := hvp h
      rw [hgood, Bool.true_and]
      exact decide_eq_true hat
  refine ⟨?_, holds_of_mem hr⟩
  rw [exec_quarantineProbePassed, execQuarantineProbePassed, withPort_of_hasPort _ hn]
  simp only [hany, hpassed, decide_eq_true hlo, decide_eq_true hhi, Bool.and_self, given_true]

end

/-! ### QUAR_CTL = 2: every held automatic reason is probed (R91) -/

/-- A port whose reason of a code, where it is held, is probed. -/
def Port.probed (x : Port) (code : Nat) : Port :=
  { x with
    recovering := x.recovering || (code == 1 && x.holds 1)
    quar := x.quar.map (fun r => if r.code = code then { r with probing := true } else r) }

theorem probed_holds (x : Port) (code c : Nat) : (x.probed code).holds c = x.holds c := by
  have hcode : ∀ r : QuarReason, (if r.code = code then { r with probing := true } else r).code = r.code := fun r => by
    split <;> rfl
  simp only [Port.holds, Port.probed, List.any_map, Function.comp_def, hcode]

/-- A reason that is not held is not probed. -/
theorem probed_of_not_held {x : Port} {code : Nat} (h : x.holds code = false) : x.probed code = x := by
  have hmap : x.quar.map (fun r => if r.code = code then { r with probing := true } else r) = x.quar := by
    refine (List.map_congr_left fun r hr => ?_).trans (List.map_id _)
    have hne : r.code ≠ code := by simpa using List.any_eq_false.mp h r hr
    rw [if_neg hne, id]
  have hrec : (code == 1 && x.holds 1) = false := by
    by_cases hcode : code = 1
    · rw [← hcode, h, Bool.and_false]
    · simp [hcode]
  rw [Port.probed, hmap, hrec, Bool.or_false]

/-- A probe never opens the switch. -/
theorem probed_vpClosed {x : Port} (code : Nat) (h : x.vpClosed = true) : (x.probed code).vpClosed = true := by
  have hprobe : x.quar.any QuarReason.probesSupply = true → (x.probed code).quar.any QuarReason.probesSupply = true := by
    intro hany
    obtain ⟨r, hr, hprobes⟩ := List.any_eq_true.mp hany
    refine List.any_eq_true.mpr ⟨_, List.mem_map_of_mem hr, ?_⟩
    obtain ⟨hcode, -⟩ := Bool.and_eq_true_iff.mp hprobes
    split
    · exact Bool.and_eq_true_iff.mpr ⟨hcode, rfl⟩
    · exact hprobes
  rw [vpClosed_eq] at h ⊢
  rw [probed_holds, probed_holds]
  obtain ⟨hpower, hswitch⟩ := Bool.and_eq_true_iff.mp h
  refine Bool.and_eq_true_iff.mpr ⟨hpower, ?_⟩
  split at hswitch
  · next hheld => rw [if_pos hheld, hprobe hswitch]
  · next hheld => rw [if_neg hheld]; exact hswitch

/-- Two changes of the switch in a row are one, where neither opens it. -/
theorem vpSwitch_probed {x y : Port} (sel code : Nat) (hxy : x.vpClosed = true → y.vpClosed = true) :
    (x.vpSwitch y sel).vpSwitch ((x.vpSwitch y sel).probed code) sel = x.vpSwitch (y.probed code) sel := by
  by_cases hy : y.vpClosed = true
  · have hz := probed_vpClosed code hy
    by_cases hx : x.vpClosed = true
    · rw [vpSwitch_kept hx hy, vpSwitch_kept hy hz, vpSwitch_kept hx hz]
    · have hclosed : (y.vpStarted sel).vpClosed = true := hy
      have hprobed : ((y.vpStarted sel).probed code).vpClosed = true := hz
      rw [vpSwitch_started hx hy, vpSwitch_kept hclosed hprobed, vpSwitch_started hx hz]
      rfl
  · have hx : ¬x.vpClosed = true := fun h => hy (hxy h)
    have hopen : ¬y.vpOpened.vpClosed = true := hy
    rw [vpSwitch_opened hy]
    by_cases hz : (y.probed code).vpClosed = true
    · have hprobed : (y.vpOpened.probed code).vpClosed = true := hz
      rw [vpSwitch_started hopen hprobed, vpSwitch_started hx hz]
      rfl
    · have hprobed : ¬(y.vpOpened.probed code).vpClosed = true := hz
      rw [vpSwitch_opened hprobed, vpSwitch_opened hz]
      rfl

/-- One code of a QUAR_CTL probe. -/
def probeHeld (n : Nat) (s : State) (code : Nat) : State := if (s.portAt n).holds code then probeStart s n code false else s

theorem probeStart_portAt (s : State) (n code : Nat) : (probeStart s n code false).portAt n =
    (s.portAt n).vpSwitch ((s.portAt n).probed code) (cfg s (0x4000 + 64 * n) 3 0) := modVp_portAt _ _ _

theorem probeHeld_portOnly (s : State) (n code : Nat) : PortOnly [.port] s (probeHeld n s code) n := by
  unfold probeHeld
  split
  · exact ⟨fun _ hj => modVp_portAt_other _ _ hj, probeStart_changes s n code false⟩
  · exact ⟨fun _ _ => rfl, .refl _ _⟩

theorem cfg_of_portOnly {s t : State} {n : Nat} (h : PortOnly [.port] s t n) (idx sub dflt : Nat) :
    cfg t idx sub dflt = cfg s idx sub dflt := by
  rw [cfg, h.2 .conf rfl, cfg]

/-- Once one reason is probed, the switch has followed and follows the rest. -/
theorem probeHeld_fold_after {x : Port} {n : Nat} (l : List Nat) (s : State) (y : Port) (hxy : x.vpClosed = true → y.vpClosed = true)
    (hport : s.portAt n = x.vpSwitch y (cfg s (0x4000 + 64 * n) 3 0)) :
    (l.foldl (probeHeld n) s).portAt n = x.vpSwitch (l.foldl Port.probed y) (cfg s (0x4000 + 64 * n) 3 0) := by
  induction l generalizing s y with
  | nil => exact hport
  | cons code l ih =>
    have hcfg := cfg_of_portOnly (probeHeld_portOnly s n code) (0x4000 + 64 * n) 3 0
    have hstep : (probeHeld n s code).portAt n = x.vpSwitch (y.probed code) (cfg s (0x4000 + 64 * n) 3 0) := by
      unfold probeHeld
      split
      · rw [probeStart_portAt, hport]
        exact vpSwitch_probed _ code hxy
      · next hheld =>
        have hnot : y.holds code = false := by simpa [hport] using hheld
        rw [hport, probed_of_not_held hnot]
    rw [List.foldl_cons, List.foldl_cons, ← hcfg]
    exact ih _ _ (fun h => probed_vpClosed code (hxy h)) (by rw [hstep, hcfg])

/-- The probes of a list of codes of which the port holds one. -/
theorem probeHeld_fold {n : Nat} (l : List Nat) (s : State) (hheld : ∃ c ∈ l, (s.portAt n).holds c = true) :
    (l.foldl (probeHeld n) s).portAt n = (s.portAt n).vpSwitch (l.foldl Port.probed (s.portAt n)) (cfg s (0x4000 + 64 * n) 3 0) := by
  induction l with
  | nil => obtain ⟨c, hc, -⟩ := hheld; exact absurd hc List.not_mem_nil
  | cons code l ih =>
    rw [List.foldl_cons, List.foldl_cons]
    by_cases hcode : (s.portAt n).holds code = true
    · have hcfg := cfg_of_portOnly (probeHeld_portOnly s n code) (0x4000 + 64 * n) 3 0
      rw [← hcfg]
      refine probeHeld_fold_after l _ _ (probed_vpClosed code) ?_
      rw [hcfg, probeHeld, if_pos hcode, probeStart_portAt]
    · have hnot : (s.portAt n).holds code = false := by simpa using hcode
      obtain ⟨c, hc, hc'⟩ := hheld
      have hrest : c ∈ l := (List.mem_cons.mp hc).resolve_left fun h => hcode (h ▸ hc')
      rw [probed_of_not_held hnot, probeHeld, if_neg hcode]
      exact ih ⟨c, hrest, hc'⟩

/-- Probes touch the reasons and the recovery alone. -/
theorem probed_fold (l : List Nat) (x : Port) : l.foldl Port.probed x = { x with
    recovering := (l.foldl Port.probed x).recovering, quar := (l.foldl Port.probed x).quar } := by
  induction l generalizing x with
  | nil => rfl
  | cons code l ih => exact ih (x.probed code)

theorem probed_automatic (x : Port) : [1, 2, 3, 4].foldl Port.probed x = { x with
    recovering := x.recovering || x.holds 1
    quar := x.quar.map (fun r => if 1 ≤ r.code ∧ r.code ≤ 4 then { r with probing := true } else r) } := by
  have hmap : ([1, 2, 3, 4].foldl Port.probed x).quar =
      x.quar.map (fun r => if 1 ≤ r.code ∧ r.code ≤ 4 then { r with probing := true } else r) := by
    simp only [List.foldl_cons, List.foldl_nil, Port.probed, List.map_map]
    refine List.map_congr_left fun r _ => ?_
    by_cases hr : 1 ≤ r.code ∧ r.code ≤ 4
    · have hcases : r.code = 1 ∨ r.code = 2 ∨ r.code = 3 ∨ r.code = 4 := by omega
      obtain h | h | h | h := hcases <;> simp [h]
    · have hne : r.code ≠ 1 ∧ r.code ≠ 2 ∧ r.code ≠ 3 ∧ r.code ≠ 4 := by omega
      simp [hr, hne]
  have hrec : ([1, 2, 3, 4].foldl Port.probed x).recovering = (x.recovering || x.holds 1) := by simp [Port.probed]
  rw [← hmap, ← hrec]
  exact probed_fold [1, 2, 3, 4] x

/-! ### QUAR_CTL at a port that can be reached (R89, R91, R481) -/

section
variable {s : State} {n : Nat}

theorem withQuarCtl_vpClosed (x : Port) (v : Nat) : (x.withQuarCtl v).vpClosed = x.vpClosed := rfl

theorem withQuarCtl_holds (x : Port) (v code : Nat) : (x.withQuarCtl v).holds code = x.holds code := rfl

/-- QUAR_CTL = 0 on a port that does not hold reason 5. -/
theorem writeQuarCtl_release_of_not_held (h : (s.portAt n).holds 5 = false) :
    writeQuarCtl s n 0 = s.modPort n (·.withQuarCtl 0) := by
  have hnot : ((s.modPort n (·.withQuarCtl 0)).portAt n).holds 5 = false := by rw [State.modPort_portAt, withQuarCtl_holds, h]
  have hleave : writeQuarCtl s n 0 = quarantineLeave (s.modPort n (·.withQuarCtl 0)) n 5 := rfl
  rw [hleave, quarantineLeave, hnot, if_neg Bool.false_ne_true]

theorem writeQuarCtl_release_effect : PortOnly [.die, .port, .stream, .parish, .reeve, .timers] s (writeQuarCtl s n 0) n ∧
    (writeQuarCtl s n 0).portAt n = if (s.portAt n).holds 5 then (s.portAt n).vpSwitch
        { s.portAt n with quarCtl := 0, quar := (s.portAt n).quar.filter (·.code ≠ 5) } (cfg s (0x4000 + 64 * n) 3 0)
      else { s.portAt n with quarCtl := 0 } := by
  by_cases hheld : (s.portAt n).holds 5 = true
  · obtain ⟨hport, honly⟩ := quarantineLeave_of_marked (s := s) (n := n) (g := (·.withQuarCtl 0)) (code := 5)
      (by rw [withQuarCtl_holds, hheld]) rfl
    rw [if_pos hheld]
    exact ⟨honly, hport⟩
  · have hnot : (s.portAt n).holds 5 = false := by simpa using hheld
    rw [if_neg hheld, writeQuarCtl_release_of_not_held hnot]
    exact ⟨(modPort_portOnly _ _ _).mono rfl, State.modPort_portAt _ _ _⟩

theorem writeQuarCtl_probe_effect (h : ∃ c ∈ [1, 2, 3, 4], (s.portAt n).holds c = true) :
    PortOnly [.port] s (writeQuarCtl s n 2) n ∧ (writeQuarCtl s n 2).portAt n = (s.portAt n).vpSwitch { s.portAt n with
      quarCtl := 2, recovering := (s.portAt n).recovering || (s.portAt n).holds 1
      quar := (s.portAt n).quar.map (fun r => if 1 ≤ r.code ∧ r.code ≤ 4 then { r with probing := true } else r) }
        (cfg s (0x4000 + 64 * n) 3 0) := by
  have hfold : writeQuarCtl s n 2 = [1, 2, 3, 4].foldl (probeHeld n) (s.modPort n (·.withQuarCtl 2)) := rfl
  have hmine : (s.modPort n (·.withQuarCtl 2)).portAt n = (s.portAt n).withQuarCtl 2 := State.modPort_portAt _ _ _
  rw [hfold]
  refine ⟨?_, ?_⟩
  · refine List.foldlRecOn (motive := fun u => PortOnly [.port] s u n) _ _ (modPort_portOnly _ _ _) fun u hu c _ => ?_
    exact hu.trans (probeHeld_portOnly u n c)
  · rw [probeHeld_fold _ _ (by rw [hmine]; exact h), hmine, probed_automatic, vpSwitch_congr (withQuarCtl_vpClosed _ _)]
    rfl

end

/-! ### The statement -/

theorem answered_portOnly {l : List Piece} {s t : State} {n : Nat} (h : PortOnly l s t n) (code : Nat) :
    PortOnly (.net :: l) s (withStatus t code) n := by
  refine ⟨h.1, .after (.after (.refl _ _) h.2 ?_) (withStatus_changes t code) ?_⟩
  · exact List.all_eq_true.mpr fun f hf => by simp [hf]
  · simp

theorem withStatus_portAt (s : State) (code n : Nat) : (withStatus s code).portAt n = s.portAt n := rfl

/-- Settles O12: each cause by its mark and the reason that joins, and each end of a probe or reason by what the port keeps. -/
theorem quarantineIsEnteredProbedAndLeft : Obligations.QuarantineIsEnteredProbedAndLeft := by
  refine ⟨fun s n i code hn => ?_, fun s n hn => ?_⟩
  · intro x
    refine ⟨fun hoff => ?_, fun hcause hclosed hwins hreach hlow hnew hport => ?_⟩
    · rw [exec_quarCtlHold, execQuarCtlHold, quarCtl_off hn hoff]
    simp only [List.mem_cons, Prod.mk.injEq, List.not_mem_nil, or_false] at hcause
    obtain ⟨rfl, rfl⟩ | ⟨rfl, rfl⟩ | ⟨rfl, rfl⟩ | ⟨rfl, rfl⟩ := hcause
    · obtain ⟨⟨hquar, hops, honly⟩, hover, hgood⟩ := overload_quarantines hport (.inl rfl) hnew
      exact ⟨_, exec_vpAverageOverload_eq hn (hclosed (.inl rfl)) (hwins rfl), hquar, fun _ => ⟨hover, hgood⟩,
        fun h => absurd h (by decide), hops, honly.mono rfl⟩
    · obtain ⟨⟨hquar, hops, honly⟩, hover, hgood⟩ := overload_quarantines hport (.inr rfl) hnew
      exact ⟨_, exec_vpPeakOverload_eq hn (hclosed (.inr rfl)), hquar, fun _ => ⟨hover, hgood⟩,
        fun h => absurd h (by decide), hops, honly.mono rfl⟩
    · obtain ⟨hmode, hon, hrxd⟩ := hlow rfl
      obtain ⟨hquar, hops, honly⟩ := quarantineAdd_quarantined hnew hport
      exact ⟨_, exec_uartRxLowTimeout_eq hn hmode hon hrxd, hquar, fun h => absurd h (by decide),
        fun h => absurd h (by decide), hops, honly.mono rfl⟩
    · obtain ⟨hon, hdie⟩ := hreach rfl
      obtain ⟨⟨hquar, hops, honly⟩, hctl⟩ := hold_quarantines hport hnew
      refine ⟨withStatus (writeQuarCtl s n 1) 0, ?_, hquar, fun h => absurd h (by decide), fun _ => hctl, hops,
        answered_portOnly honly 0⟩
      rw [exec_quarCtlHold, execQuarCtlHold, quarCtl_reached hn hdie hon]
  · intro x sw next later tells
    refine ⟨fun reason interval hdue hlo hhi hloop => ?_, fun hrec hheld => ⟨?_, ?_⟩, fun reason hprobed hlo hhi hrx hvp => ?_,
      fun hon hdie => ?_, fun hon hdie hheld => ?_, fun hoff => ⟨?_, ?_⟩⟩
    · have hlater : ∀ r, later r = r.reprobed := fun r => by
        simp only [later, next, QuarReason.reprobed, nextBackoff, msTicks, Nat.mul_comm]
      simp only [hlater]
      exact exec_quarantineProbe_eq hn hdue hlo hhi hloop
    · exact exec_busRecoveryDone_probe hn hrec hheld
    · obtain ⟨hport, honly⟩ := quarantineLeave_of_marked (s := s) (n := n) (g := Port.recoveryOver) (code := 1)
        (by rw [recoveryOver_holds, hheld]) (recoveryOver_vpClosed _)
      rw [recoveryOver_filter] at hport
      exact ⟨_, exec_busRecoveryDone_probe hn hrec hheld, honly, hport⟩
    · obtain ⟨hexec, hheld⟩ := exec_quarantineProbePassed_eq hn hprobed hlo hhi hrx hvp
      obtain ⟨hport, honly⟩ := quarantineLeave_effect hheld
      exact ⟨_, hexec, honly, hport⟩
    · obtain ⟨honly, hport⟩ := writeQuarCtl_release_effect (s := s) (n := n)
      refine ⟨withStatus (writeQuarCtl s n 0) 0, ?_, withStatus_lastStatus _ _, answered_portOnly honly 0, ?_⟩
      · rw [exec_quarCtlRelease, execQuarCtlRelease, quarCtl_reached hn hdie hon]
      · exact (withStatus_portAt _ _ _).trans hport
    · obtain ⟨honly, hport⟩ := writeQuarCtl_probe_effect (s := s) (n := n) (by simpa using hheld)
      refine ⟨withStatus (writeQuarCtl s n 2) 0, ?_, answered_portOnly honly 0, ?_⟩
      · rw [exec_quarCtlProbe, execQuarCtlProbe, quarCtl_reached hn hdie hon]
      · exact (withStatus_portAt _ _ _).trans hport
    · rw [exec_quarCtlRelease, execQuarCtlRelease, quarCtl_off hn hoff]
    · rw [exec_quarCtlProbe, execQuarCtlProbe, quarCtl_off hn hoff]

end Sys2Proof.Machine
end

section
/-! PROOF. O13: the governor's grant and the end of a pulse. -/

namespace Sys2Proof.Machine

/-! ### The governor's order (R80) -/

theorem govBefore_iff (s : State) (a b : Nat) : govBefore s a b = true ↔
    (portOwner s a = some 1 ∧ ¬portOwner s b = some 1) ∨ ((portOwner s a = some 1 ↔ portOwner s b = some 1) ∧
      (govAsked s a < govAsked s b ∨ (govAsked s a = govAsked s b ∧ a < b))) := by
  by_cases ha : portOwner s a = some 1 <;> by_cases hb : portOwner s b = some 1 <;> simp [govBefore, ha, hb]

/-- No two ports come before each other. -/
theorem govBefore_asymm {s : State} {a b : Nat} (h : govBefore s a b = true) : govBefore s b a = false := by
  rw [Bool.eq_false_iff, ne_eq, govBefore_iff]
  rw [govBefore_iff] at h
  obtain ⟨ha, hb⟩ | ⟨hiff, hlt⟩ := h
  · rintro (⟨-, hna⟩ | ⟨hiff, -⟩)
    · exact hna ha
    · exact hb (hiff.mpr ha)
  · rintro (⟨hb, hna⟩ | ⟨-, hgt⟩)
    · exact hna (hiff.mpr hb)
    · omega

/-- The first request so far, once port n's is seen. -/
def govPick (s : State) (best : Option Nat) (n : Nat) : Option Nat :=
  match best with
  | none => some n
  | some b => if govBefore s n b then some n else some b

theorem govNext_eq (s : State) (d : Nat) : govNext s d = (s.dieAt d).govWait.foldl (govPick s) none := rfl

theorem govPick_cases (s : State) (best : Option Nat) (i : Nat) : govPick s best i = some i ∨ govPick s best i = best := by
  unfold govPick
  split
  · exact .inl rfl
  · split
    · exact .inl rfl
    · exact .inr rfl

/-- The port that comes before every other is picked once it is seen, and stays. -/
theorem govPick_first {s : State} {n i : Nat} {best : Option Nat}
    (hfirst : ∀ j, i = j ∨ best = some j → j ≠ n → govBefore s n j = true) (hseen : i = n ∨ best = some n) :
    govPick s best i = some n := by
  match best with
  | none => exact congrArg some (hseen.resolve_right (by simp))
  | some b =>
    by_cases hb : b = n
    · by_cases hi : i = n
      · simp [govPick, hb, hi]
      · simp [govPick, hb, govBefore_asymm (hfirst i (.inl rfl) hi)]
    · have hi : i = n := hseen.resolve_right (by simpa using hb)
      simp [govPick, hi, hfirst b (.inr rfl) hb]

theorem govPick_fold {s : State} {n : Nat} (l : List Nat) (best : Option Nat)
    (hfirst : ∀ j, j ∈ l ∨ best = some j → j ≠ n → govBefore s n j = true) (hseen : n ∈ l ∨ best = some n) :
    l.foldl (govPick s) best = some n := by
  induction l generalizing best with
  | nil => exact hseen.resolve_left List.not_mem_nil
  | cons i l ih =>
    refine ih _ (fun j hj => hfirst j ?_) ?_
    · obtain hj | hj := hj
      · exact .inl (List.mem_cons_of_mem i hj)
      · obtain hpick | hpick := govPick_cases s best i
        · exact .inl (List.mem_cons.mpr (.inl (Option.some.inj (hpick ▸ hj)).symm))
        · exact .inr (hpick ▸ hj)
    · by_cases hl : n ∈ l
      · exact .inl hl
      · refine .inr (govPick_first (fun j hj => hfirst j (hj.imp_left ?_)) (hseen.imp_left ?_))
        · rintro rfl
          exact List.mem_cons_self
        · exact fun h => ((List.mem_cons.mp h).resolve_right hl).symm

/-- The governor's next request is that of the waiting port that comes before every other. -/
theorem govNext_first {s : State} {d n : Nat} (hn : n ∈ (s.dieAt d).govWait)
    (hfirst : ∀ j ∈ (s.dieAt d).govWait, j ≠ n → govBefore s n j = true) : govNext s d = some n := by
  rw [govNext_eq]
  exact govPick_fold _ none (fun j hj => hfirst j (hj.resolve_right (by simp))) (.inl hn)

/-! ### A grant (R80, R81) -/

/-- A port whose emitter's request was granted after a wait, in units of 100 ns. -/
def Port.granted (x : Port) (at_ wait : Nat) : Port := { x with emSink := true, emSince := at_, emBusy := true, emDefer := wait }

/-- A die whose governor has granted a slot to port n. -/
def Die.granted (x : Die) (n : Nat) : Die := { x with govHeld := addOnce x.govHeld n, govWait := without x.govWait n }

/-- An emitter operation that runs after its wait. -/
def Slot.granted (y : Slot) (stamp : Stamp) : Slot := { y with state := 3, stamped := true, stamp := stamp, deferred := true }

/-- The machine once a deferred emitter operation has its governor slot. -/
def emitterGranted (s : State) (n k bins wait : Nat) : State :=
  (emitterFire s n k bins true).modPort n fun x => { x with emDefer := wait }

section
variable (s : State) (n k bins wait : Nat)

theorem emitterGranted_portAt : (emitterGranted s n k bins wait).portAt n = (s.portAt n).granted s.ticks wait := by
  rw [emitterGranted, State.modPort_portAt, emitterFire, modSlot_portAt, emitterStart, State.modDie_portAt, State.modPort_portAt]
  rfl

theorem emitterGranted_slotOf : slotOf (emitterGranted s n k bins wait) n k = (slotOf s n k).granted (captureAt s n 4 bins) := by
  have hstart : slotOf (emitterStart s n) n k = slotOf s n k := by
    simp [slotOf, emitterStart, portDie, Die.slotAt]
  rw [emitterGranted, modPort_slotOf]
  refine (modSlot_slotOf (emitterStart s n) n k _).trans ?_
  rw [hstart, Bool.or_true]
  rfl

/-- The port moves from the waiting list to the holders. -/
theorem emitterGranted_governor :
    ((emitterGranted s n k bins wait).dieAt (n / 12)).govWait = without (s.dieAt (n / 12)).govWait n ∧
      n ∈ ((emitterGranted s n k bins wait).dieAt (n / 12)).govHeld := by
  have hdie : (emitterStart s n).dieAt (n / 12) = (s.dieAt (n / 12)).granted n := State.modDie_dieAt _ _ _
  have hbeside : ((emitterGranted s n k bins wait).dieAt (n / 12)).besideSlots = ((s.dieAt (n / 12)).granted n).besideSlots := by
    rw [← hdie, emitterGranted, State.modPort_dieAt, emitterFire, modSlot_besideSlots]
  have hheld : ((emitterGranted s n k bins wait).dieAt (n / 12)).govHeld = addOnce (s.dieAt (n / 12)).govHeld n :=
    (congrArg Die.govHeld hbeside :)
  refine ⟨(congrArg Die.govWait hbeside :), ?_⟩
  rw [hheld]
  exact mem_addOnce _ _

theorem emitterGranted_portOnly : PortOnly [.die, .port] s (emitterGranted s n k bins wait) n := by
  obtain ⟨-, hchanges⟩ : PortOnly [.port] (emitterFire s n k bins true) (emitterGranted s n k bins wait) n :=
    modPort_portOnly _ _ _
  refine ⟨fun j hj => ?_, .trans (emitterFire_changes _ _ _ _ _) (.after (.refl _ _) hchanges rfl)⟩
  rw [emitterGranted, State.modPort_portAt_other _ _ _ _ hj, emitterFire, modSlot_portAt, emitterStart, State.modDie_portAt,
    State.modPort_portAt_other _ _ _ _ hj]

end

/-- An emitter that sinks for a PULSE sinks without a code (R164). -/
theorem emDrive_of_pulse {s : State} {n k : Nat} (hsink : (s.portAt n).emSink = true) (hhead : (s.portAt n).queue.head? = some k)
    (hkind : (slotOf s n k).kind = 4) : emDrive s n = true := by
  have hkind' : (tget {} (s.dieAt (portDie n)).slots k).kind = 4 := hkind
  have hburst : ((s.portAt n).queue.head?.map (fun k => tget {} (s.dieAt (portDie n)).slots k)).filter
      (fun y => y.kind == 3 && y.state == 3) = none := by
    rw [hhead, Option.map_some, Option.filter_eq_none_iff]
    rintro _ ⟨⟩
    rw [hkind']
    exact Bool.false_ne_true
  simp only [emDrive, sinkSince, hsink, hburst]
  rfl

theorem emDrive_of_not_sinking {s : State} {n : Nat} (h : (s.portAt n).emSink = false) : emDrive s n = false := by
  simp [emDrive, sinkSince, h]

theorem headSlot_of_head? {s : State} {n k state : Nat} (hhead : (s.portAt n).queue.head? = some k)
    (hstate : (slotOf s n k).state = state) : headSlot s n state = some k := by
  obtain ⟨rest, hqueue⟩ := List.head?_eq_some_iff.mp hhead
  have hstate' : ((s.dieAt (portDie n)).slotAt k).state = state := hstate
  simp only [headSlot, hqueue, hstate', if_true]

theorem exec_governorGrant_eq {s : State} {n k : Nat} (bins : Nat) (hused : n / 12 < usedDies s) (hnext : govNext s (n / 12) = some n)
    (hfree : (s.dieAt (n / 12)).govHeld.length < 4) (hready : portReady s n = true) (hcal : (s.portAt n).calItem ≠ 6)
    (hslot : headSlot s n 2 = some k) : exec (.governorGrant (n / 12) bins) s =
      .next (emitterGranted s n k bins (min 65535 ((s.time.elapsed - (slotOf s n k).heldAt) * 4 / 100))) := by
  rw [exec_governorGrant, execGovernorGrant, withDie_of_lt _ hused]
  simp only [hnext, hslot, hready, hcal, if_false, decide_eq_true hfree, Bool.and_self, given_true]
  rfl

/-! ### The end of a PULSE (R78, R165) -/

/-- A port whose pulse is judged. -/
def Port.pulseJudged (x : Port) (isOpen noreg a0 a1 aw : Bool) : Port :=
  { x with emOpen := isOpen, emNoreg := noreg }.emitterStopped a0 a1 aw

/-- The machine once a pulse is judged and its emitter stopped. -/
def pulseJudged (s : State) (n : Nat) (isOpen noreg : Bool) : State :=
  emitterStop (s.modPort n fun x => { x with emOpen := isOpen, emNoreg := noreg }) n

theorem exec_emitterPulseDone_eq {s : State} {n k : Nat} (isOpen noreg : Bool) (hn : hasPort s n) (h : HeadOp s n k 3 4) :
    exec (.emitterPulseDone n isOpen noreg) s =
      .next (completeOp (pulseJudged s n isOpen noreg) (n / 12) k (if isOpen = true ∨ noreg = true then 10 else 0) 0) := by
  have hstatus : (if isOpen || noreg then 10 else 0) = if isOpen = true ∨ noreg = true then 10 else 0 := by simp
  rw [exec_emitterPulseDone, execEmitterPulseDone, withPort_of_hasPort _ hn, activeOp_of_headOp h, ← hstatus]
  rfl

section
variable (s : State) (n : Nat) (isOpen noreg : Bool)

theorem pulseJudged_portAt : ∃ a0 a1 aw,
    (pulseJudged s n isOpen noreg).portAt n = (s.portAt n).pulseJudged isOpen noreg a0 a1 aw := by
  obtain ⟨a0, a1, aw, h⟩ := emitterStop_portAt (s.modPort n fun x => { x with emOpen := isOpen, emNoreg := noreg }) n
  rw [State.modPort_portAt] at h
  exact ⟨a0, a1, aw, h⟩

theorem pulseJudged_slotOf (k : Nat) : slotOf (pulseJudged s n isOpen noreg) n k = slotOf s n k :=
  slotOf_of_slots (emitterStop_slots _ n _) k

theorem pulseJudged_govHeld : n ∉ ((pulseJudged s n isOpen noreg).dieAt (n / 12)).govHeld := by
  rw [pulseJudged, emitterStop_govHeld]
  simp [without]

end

/-- An operation completes as it would have before a change that leaves its slot, its queue and the counts of its port. -/
theorem OpCompleted.of_same {s u t : State} {n k status count : Nat} (h : OpCompleted u t n k status count)
    (hslot : slotOf u n k = slotOf s n k) (hqueue : (u.portAt n).queue = (s.portAt n).queue)
    (hcounts : (u.portAt n).opCount = (s.portAt n).opCount ∧ (u.portAt n).failed = (s.portAt n).failed) :
    OpCompleted s t n k status count := by
  obtain ⟨hcount, hfailed⟩ := hcounts
  rw [OpCompleted, hslot, hqueue, hcount, hfailed] at h
  exact h

theorem pulse_ends {s : State} {n k : Nat} (isOpen noreg : Bool) (status : Nat) (hport : (slotOf s n k).port = n) :
    let t := completeOp (pulseJudged s n isOpen noreg) (n / 12) k status 0
    OpCompleted s t n k status 0 ∧ (t.portAt n).emSink = false ∧ (t.portAt n).emOpen = isOpen ∧ (t.portAt n).emNoreg = noreg ∧
      ((slotOf s n k).needsGov = true → (t.portAt n).emBusy = (without (s.portAt n).queue k).any (fun j => (slotOf s n j).needsGov)) ∧
      n ∉ (t.dieAt (n / 12)).govHeld := by
  intro t
  have hslot := pulseJudged_slotOf s n isOpen noreg
  have hport' : (slotOf (pulseJudged s n isOpen noreg) n k).port = n := by rw [hslot, hport]
  obtain ⟨a0, a1, aw, hmine⟩ := pulseJudged_portAt s n isOpen noreg
  have hqueue : ((pulseJudged s n isOpen noreg).portAt n).queue = (s.portAt n).queue := by
    rw [hmine]
    rfl
  have hkept := (completeOp_endsAtPort status 0 hport').port
  rw [hmine] at hkept
  have hheld : (t.dieAt (n / 12)).govHeld = ((pulseJudged s n isOpen noreg).dieAt (n / 12)).govHeld := by
    have hbeside := opReleased_besideSlots (pulseJudged s n isOpen noreg) n k status 0 (n / 12)
    rw [← completeOp_dieAt status 0 hport'] at hbeside
    exact (congrArg Die.govHeld hbeside :)
  refine ⟨?_, completeOp_emSink status 0 hport' ?_, (congrArg Port.emOpen hkept :), (congrArg Port.emNoreg hkept :),
    fun hgov => ?_, ?_⟩
  · refine (completeOp_completed status 0 hport').of_same (hslot k) hqueue ?_
    rw [hmine]
    exact ⟨rfl, rfl⟩
  · rw [hmine]
    rfl
  · have hbusy := completeOp_emBusy status 0 hport' (by rwa [hslot])
    simp only [hqueue, hslot] at hbusy
    exact hbusy
  · rw [hheld]
    exact pulseJudged_govHeld s n isOpen noreg

theorem pulse_portOnly {s : State} {n k : Nat} (isOpen noreg : Bool) (status : Nat) (hport : (slotOf s n k).port = n) :
    PortOnly [.die, .port, .engine, .stream, .reeve] s (completeOp (pulseJudged s n isOpen noreg) (n / 12) k status 0) n := by
  have hport' : (slotOf (pulseJudged s n isOpen noreg) n k).port = n := by rw [pulseJudged_slotOf, hport]
  refine ⟨fun j hj => ?_, ?_⟩
  · rw [completeOp_portAt_other status 0 hport' hj, pulseJudged, (emitterStop_endsAtPort _ n).others j hj,
      State.modPort_portAt_other _ _ _ _ hj]
  · exact .after (.after (.after (.refl _ _) (State.modPort_changes _ _ _) rfl) (emitterStop_changes _ _) rfl)
      (completeOp_changes _ _ _ _ _) rfl

/-! ### The statement -/

/-- Settles O13: the governor's choice by the order of the waiting ports, and a pulse by its judgement, stop and end. -/
theorem emitterPulsesHoldGovernorSlots : Obligations.EmitterPulsesHoldGovernorSlots := by
  refine ⟨fun s d bins n k hused hdie => ?_, fun s n k isOpen noreg hn hhead => ?_⟩
  · subst hdie
    intro w y one hn hfirst hfree hready hcal hhead hstate
    have hnext : govNext s (n / 12) = some n := govNext_first hn fun j hj hne => (govBefore_iff s n j).mpr (hfirst j hj hne)
    obtain ⟨hwait, hheld⟩ := emitterGranted_governor s n k bins (min 65535 ((s.time.elapsed - y.heldAt) * 4 / 100))
    have hport := emitterGranted_portAt s n k bins (min 65535 ((s.time.elapsed - y.heldAt) * 4 / 100))
    have hslot := emitterGranted_slotOf s n k bins (min 65535 ((s.time.elapsed - y.heldAt) * 4 / 100))
    have hwithout : without w n = w.filter (· ≠ n) := List.filter_congr fun j _ => by by_cases h : j = n <;> simp [h]
    refine ⟨_, exec_governorGrant_eq bins hused hnext hfree hready hcal (headSlot_of_head? hhead hstate), ?_, ?_, ?_,
      hwait.trans hwithout, hheld, hslot, fun hkind => emDrive_of_pulse (k := k) ?_ ?_ ?_, emitterGranted_portOnly _ _ _ _ _⟩
    · rw [hport]
      rfl
    · rw [hport]
      rfl
    · rw [hport]
      rfl
    · rw [hport]
      rfl
    · rw [hport]
      exact hhead
    · rw [hslot]
      exact hkind
  · obtain ⟨-, -, -, hport⟩ := id hhead
    obtain ⟨hdone, hsink, hopen, hnoreg, hbusy, hheld⟩ :=
      pulse_ends isOpen noreg (if isOpen = true ∨ noreg = true then 10 else 0) hport
    exact ⟨_, exec_emitterPulseDone_eq isOpen noreg hn hhead, hdone, hsink, emDrive_of_not_sinking hsink, hopen, hnoreg, hbusy,
      hheld, pulse_portOnly isOpen noreg _ hport⟩

end Sys2Proof.Machine
end

section
/-! PROOF. O16: what a port shows at its balls. -/

namespace Sys2Proof.Machine

/-! ### The pins of a port in DIGITAL mode (R67, R279) -/

/-- A pin that no operation mode uses shows its compare output, or GPIO. -/
theorem pinDrive_digital {s : State} {n : Nat} (pin : Nat) (hworks : pinsWork s n = true) (hmode : (s.portAt n).mode = 5)
    (hcfg : modeOf s n = 5) : pinDrive s n pin = ((compareColumn s n pin).map (fun c => PinDrive.level c.level)).getD
      (if (s.portAt n).pinOe.getLsbD pin then .level ((s.portAt n).pinOut.getLsbD pin) else .highZ) := by
  have hfree : pinUsed s n pin = false := by
    rw [pinUsed, hcfg]
    rfl
  rw [pinDrive, hworks, hmode, hfree, BitVec.getLsbD, BitVec.getLsbD, ← bitOf_eq_testBit, ← bitOf_eq_testBit]
  cases compareColumn s n pin <;> rfl

/-- PIN_OUT of a port. -/
def Port.withPinOut (x : Port) (v : Word) : Port := { x with pinOut := v.setWidth 4 }

theorem pinsWork_withPinOut (s : State) (n : Nat) (v : Word) : pinsWork (s.modPort n (·.withPinOut v)) n = pinsWork s n := by
  rw [pinsWork, State.modPort_portAt]
  rfl

theorem pinDrive_withPinOut {s : State} {n pin : Nat} (v : Word) (hpin : pin < 4) (hworks : pinsWork s n = true)
    (hmode : (s.portAt n).mode = 5) (hcfg : modeOf s n = 5) : pinDrive (s.modPort n (·.withPinOut v)) n pin =
      ((compareColumn s n pin).map (fun c => PinDrive.level c.level)).getD
        (if (s.portAt n).pinOe.getLsbD pin then .level (v.getLsbD pin) else .highZ) := by
  have hport : (s.modPort n (·.withPinOut v)).portAt n = (s.portAt n).withPinOut v := State.modPort_portAt _ _ _
  have hbit : (v.setWidth 4).getLsbD pin = v.getLsbD pin := by rw [BitVec.getLsbD_setWidth, decide_eq_true hpin, Bool.true_and]
  rw [pinDrive_digital (s := s.modPort n (·.withPinOut v)) pin (by rw [pinsWork_withPinOut, hworks]) (by rw [hport]; exact hmode) hcfg, hport, ← hbit]
  rfl

theorem exec_pinOutWrite_eq {s : State} {e c h : Nat} (v : Word) (he : e < 24 * usedDies s) (hrun : (s.engAt e).running = some c)
    (hh : h < 12) (hown : Owns s e (portOwner s (e / 24 * 12 + h))) (hon : domainOn s (e / 24 * 12 + h) = true) :
    exec (.registerWrite e (64 * h + 0x08) v) s = .next (s.modPort (e / 24 * 12 + h) (·.withPinOut v)) := by
  have hport : ioPort e (64 * h + 0x08) = e / 24 * 12 + h := by
    unfold ioPort engDie
    omega
  rw [exec_registerWrite_eq he hrun v (by omega) (by omega) fun _ => by rw [hport]; exact ⟨hown, hon⟩,
    ioWrite_port (by omega) (by rwa [hport]), hport, show (64 * h + 0x08) % 64 = 0x08 by omega, writePortReg_pinOut]
  rfl

/-! ### A port that shows nothing (R68, R71) -/

theorem pinDrive_highZ {s : State} {n : Nat} (h : (s.portAt n).mode = 0 ∨ (s.dieAt (portDie n)).lost = true) (pin : Nat) :
    pinDrive s n pin = .highZ := by
  have hworks : pinsWork s n = false := by
    obtain h | h := h <;> simp [pinsWork, h]
  rw [pinDrive, hworks]
  rfl

theorem pinPull_off {s : State} {n : Nat} (h : (s.portAt n).mode = 0 ∨ (s.dieAt (portDie n)).lost = true) (pin : Nat) :
    pinPull s n pin = 0 := by
  obtain h | h := h <;> simp [pinPull, h]

/-! ### The statement -/

/-- Settles O16: PIN_OUT by the pins of a port in DIGITAL mode, and the rest by what holds the port. -/
theorem ballsShowWhatAPortDrives : Obligations.BallsShowWhatAPortDrives := by
  refine ⟨fun s e c h pin v he hrun hh hpin => ?_, fun s n => ⟨fun hoff pin => ?_, fun hclosed => ?_⟩⟩
  · intro n hown hon hworks hmode hcfg
    have hdie : portDie n = n / 12 := rfl
    have hindex : n % 12 = h := by omega
    refine ⟨_, exec_pinOutWrite_eq v he hrun hh hown hon, ?_⟩
    rw [pinDrive_withPinOut v hpin hworks hmode hcfg, compareColumn, hdie, hindex]
    cases s.col.find? (fun q => q.1 / 256 == n / 12 && q.2.dest == 0x5000 + h * 4 + pin) <;> rfl
  · exact ⟨pinDrive_highZ hoff pin, pinPull_off hoff pin⟩
  · rw [vpDrive, hclosed]
    rfl

end Sys2Proof.Machine
end

section
/-! PROOF. O14: a bus timeout that meets the end of a budget, at a slot of another port. -/

namespace Sys2Proof.Machine

/-- A port whose SCL or SDA has been low beyond its timeout (R110). -/
def Port.lineTimedOut (x : Port) (sda : Bool) : Port := { x with sclTo := x.sclTo || !sda, sdaTo := x.sdaTo || sda }

/-- A timeout that meets the end of a budget aborts the transfer in flight, at the port that its slot names (R111, R190). -/
theorem exec_busTimeout_late {s : State} {n k : Nat} {sda : Bool} (hn : hasPort s n) (hmode : (s.portAt n).mode = 1)
    (hon : domainOn s n = true) (hquar : (s.portAt n).quar = [])
    (hlow : pinSteady s n (if sda then 1 else 0) false (250000 * cfg s (0x4000 + 64 * n + 4) (if sda then 0xB else 0xA) 25) = true)
    (hrec : (s.portAt n).recovering = false) (hop : activeOp s n 0 = some k) (hlate : budgetOver s (slotOf s n k) = true) :
    exec (.busTimeout n sda) s = .next (abortOp (s.modPort n (·.lineTimedOut sda)) (n / 12) k 12 true) := by
  have hlow' : pinSteady s n (b2n sda) false (msTicks (if sda then cfg s (portIdx n 4) 0xB 25 else cfg s (portIdx n 4) 0xA 25)) = true := by
    cases sda <;> rw [msTicks, Nat.mul_comm] <;> exact hlow
  have hlate' : budgetOver s ((s.dieAt (portDie n)).slotAt k) = true := hlate
  have hfree : (s.portAt n).inQuarantine = false := by rw [Port.inQuarantine, hquar]; rfl
  rw [exec_busTimeout, execBusTimeout, withPort_of_hasPort _ hn]
  simp only [hmode, hon, hfree, hlow', hrec, hop, hlate', beq_self_eq_true, Bool.not_false, Bool.and_self, given_true, if_true,
    Bool.false_eq_true, if_false]
  rfl

/-- Refutes O14: the clause of BUS_TIMEOUT asks that port n recovers whatever heads its queue, and only the clauses after it ask that
the operation belongs to the port. In the state below the transfer at the head of port 11's queue names port 0, and its budget runs out
at the timeout: the recovery starts at port 0, and port 11 does not recover. -/
theorem not_twoWireTransfersTimeOutAndRecover : ¬ Obligations.TwoWireTransfersTimeOutAndRecover := by
  intro h
  let s : State := { State.reset with
    time := { elapsed := 6250000 }
    port := [(11, { powered := true, mode := 1, queue := [5] })]
    die := [(0, { slots := [(5, { state := 3, kind := 0, port := 0 })] })] }
  have hn : hasPort s 11 := by decide
  have hlow : pinSteady s 11 0 false (250000 * cfg s (0x4000 + 64 * 11 + 4) 0xA 25) = true := by decide
  obtain ⟨-, hstarts⟩ := (h.2 s 11 hn).1 false rfl rfl rfl hlow
  obtain ⟨t, hexec, hrecovers, -⟩ := hstarts rfl
  have hnext := exec_busTimeout_late (s := s) (sda := false) hn rfl rfl rfl hlow rfl rfl (by decide)
  obtain rfl := Host.Outcome.next.inj (hnext.symm.trans hexec)
  exact absurd hrecovers (by decide)

end Sys2Proof.Machine
end

section
/-! PROOF. O46: the service port's transfers, requests and results, and its record chunks. -/

namespace Sys2Proof.Machine

/-! ### Bytes, least significant first (R11) -/

theorem length_leBytes (n v : Nat) : (leBytes n v).length = n := by
  induction n generalizing v with
  | zero => rfl
  | succ n ih => rw [leBytes, List.length_cons, ih]

theorem leNat_leBytes (n v : Nat) : leNat (leBytes n v) = v % 256 ^ n := by
  induction n generalizing v with
  | zero => rw [Nat.pow_zero, Nat.mod_one]; rfl
  | succ n ih =>
    rw [leBytes, leNat, ih, BitVec.toNat_ofNat, (Nat.pow_succ' : 256 ^ (n + 1) = _), Nat.mod_mul]

/-- A number that stands among other bytes is read back. -/
theorem getLe_append {pre : List Byte} {off : Nat} (h : pre.length = off) (n v : Nat) (post : List Byte) :
    getLe (pre ++ (leBytes n v ++ post)) off n = v % 256 ^ n := by
  rw [getLe, slice, ← h, List.drop_left, List.take_left' (length_leBytes n v), leNat_leBytes]

/-! ### Transfers (R113, R115, R119) -/

section
variable {s : State}

theorem svcAwake_iff : svcAwake s = true ↔
    s.svc.awake = true ∨ ∃ a, s.svc.wokenAt = some a ∧ a + 50000 ≤ s.time.elapsed := by
  rw [svcAwake, Bool.or_eq_true, Option.any_eq_true]
  simp only [decide_eq_true_eq]
  rfl

/-- The machine once a transfer has been acknowledged. -/
def svcAcked (s : State) : State := { active s with svc := { s.svc with acked := true } }

/-- The command is a block write that carries frames of the given opcodes under a command code (R114). -/
def FramesWritten (i : Instr) (cmd : Nat) (ops : List Nat) (data : List Byte) (pec : Option Byte) : Prop :=
  (i = .svcObjRead data pec ∧ cmd = 0x10 ∧ ops = [1, 3]) ∨ (i = .svcObjWrite data pec ∧ cmd = 0x11 ∧ ops = [2, 4]) ∨
    (i = .svcSession data pec ∧ cmd = 0x12 ∧ ops = [11])

variable {i : Instr} {cmd : Nat} {ops : List Nat} {data : List Byte} {pec : Option Byte} {t : State → State}

theorem exec_framesWritten (h : FramesWritten i cmd ops data pec) :
    exec i s = .next (svcWrite s cmd data pec (svcRequest ops data)) := by
  obtain ⟨rfl, rfl, rfl⟩ | ⟨rfl, rfl, rfl⟩ | ⟨rfl, rfl, rfl⟩ := h
  · rfl
  · rfl
  · rfl

theorem svcWrite_asleep (h : svcAwake s = false) : svcWrite s cmd data pec t = svcSilent s := by
  rw [svcWrite, h]
  rfl

/-- A block write that is whole and whose PEC holds (R115). -/
abbrev BlockGood (s : State) (cmd : Nat) (data : List Byte) (pec : Option Byte) : Prop :=
  data.length ≤ 255 ∧ pec = some (svcPec s cmd data)

section
variable (hawake : svcAwake s = true)
include hawake

theorem svcWrite_bad (h : ¬BlockGood s cmd data pec) : svcWrite s cmd data pec t = svcDiscard s false := by
  have hbad : 255 < data.length ∨ pec ≠ some (svcPec s cmd data) := by
    rw [BlockGood, not_and_or, Nat.not_le] at h
    exact h
  rw [svcWrite, hawake, Bool.not_true, if_neg Bool.false_ne_true, if_pos hbad]

theorem svcWrite_good (h : BlockGood s cmd data pec) : svcWrite s cmd data pec t = t (svcAcked s) := by
  obtain ⟨hlength, hpec⟩ := h
  have hgood : ¬(255 < data.length ∨ pec ≠ some (svcPec s cmd data)) := by
    rintro (hlong | hwrong)
    · exact absurd hlength (Nat.not_le.mpr hlong)
    · exact hwrong hpec
  rw [svcWrite, hawake, Bool.not_true, if_neg Bool.false_ne_true, if_neg hgood]
  rfl

end

end

/-! ### Requests (R114, R116, R316, R327) -/

/-- The bytes are a frame whose version and header check hold (R316). -/
abbrev HeaderSound (data : List Byte) : Prop := 24 ≤ data.length ∧ getLe data 0 1 / 16 = 1 ∧ headerOk data = true

/-- The code with which a request under a command that carries the given opcodes is answered, 0 for its service (R114, R316). -/
def requestCode (ops : List Nat) (data : List Byte) : Nat :=
  if getLe data 0 1 % 16 ∉ ops then 0x0101 else if lengthOk data = false then 0x0102 else 0

/-- The service port once it holds a request: the last response is gone (R116). -/
def SvcPort.taking (v : SvcPort) : SvcPort := { v with acked := true, response := [], busy := true }

/-- The machine once the request waits for the steward (R116, R327). -/
def requestHeld (s : State) (ops : List Nat) (data : List Byte) : State :=
  { active s with
    svc := s.svc.taking
    net := { s.net with waiting := s.net.waiting ++
      [{ op := getLe data 0 1 % 16, frame := parseFrame 3 0 data, code := requestCode ops data }] } }

/-- The machine once the request met a full queue (R327). -/
def requestRefused (s : State) : State :=
  { svcDiscard s true with net := { s.net with rxBusy := s.net.rxBusy + 1 } }

section
variable {s : State} {ops : List Nat} {data : List Byte}

theorem svcRequest_held (h : s.svc.busy = true ∨ s.svc.ready = true) : svcRequest ops data (svcAcked s) = svcDiscard s true := by
  have hheld : ((svcAcked s).svc.busy || (svcAcked s).svc.ready) = true := Bool.or_eq_true_iff.mpr h
  rw [svcRequest, if_pos hheld]
  rfl

variable (hbusy : s.svc.busy = false) (hready : s.svc.ready = false)
include hbusy hready

theorem svcRequest_badHeader (h : ¬HeaderSound data) :
    svcRequest ops data (svcAcked s) = svcDiscard (countBad (svcAcked s) data) true := by
  have hfree : ¬((svcAcked s).svc.busy || (svcAcked s).svc.ready) = true := by
    simp [svcAcked, hbusy, hready]
  have hbad : data.length < 24 ∨ getLe data 0 1 / 16 ≠ 1 ∨ headerOk data = false := by
    rw [HeaderSound, not_and_or, not_and_or, Nat.not_le, Bool.not_eq_true] at h
    exact h
  rw [svcRequest, if_neg hfree, if_pos hbad]

/-- What a sound request does goes by the room in the queue. -/
theorem svcRequest_sound (h : HeaderSound data) : svcRequest ops data (svcAcked s) =
    if 32 ≤ s.net.waiting.length then requestRefused s else requestHeld s ops data := by
  obtain ⟨hlength, hversion, hcrc⟩ := h
  have hfree : ¬((svcAcked s).svc.busy || (svcAcked s).svc.ready) = true := by
    simp [svcAcked, hbusy, hready]
  have hgood : ¬(data.length < 24 ∨ getLe data 0 1 / 16 ≠ 1 ∨ headerOk data = false) := by
    simp [hlength, hversion, hcrc]
  have hcode : (if !ops.contains (getLe data 0 1 % 16) then 0x0101 else if !lengthOk data then 0x0102 else 0) =
      requestCode ops data := by
    simp [requestCode]
  rw [svcRequest, if_neg hfree, if_neg hgood]
  simp only [hcode, holdRequest]
  by_cases hfull : 32 ≤ s.net.waiting.length
  · have hfull' : 32 ≤ (svcAcked s).net.waiting.length := hfull
    rw [if_pos hfull, if_pos hfull', if_pos hfull']
    rfl
  · have hfull' : ¬32 ≤ (svcAcked s).net.waiting.length := hfull
    rw [if_neg hfull, if_neg hfull', if_neg hfull']
    rfl

end

/-- A frame that fails its header is counted on the network, and nothing waits for it. -/
theorem countBad_waiting (s : State) (data : List Byte) : (countBad s data).net.waiting = s.net.waiting := by
  unfold countBad
  split <;> rfl

/-! ### Results and STATUS (R114, R116, R118) -/

/-- The PEC of a block read (R115). -/
def answerPec (s : State) (cmd : Nat) (data : List Byte) : Byte :=
  BitVec.ofNat 8 (crc8 (leBytes 1 (2 * s.svc.addr) ++ leBytes 1 cmd ++ leBytes 1 (2 * s.svc.addr + 1) ++
    (leBytes 1 data.length ++ data)))

/-- The machine once a block read has been answered. -/
def blockRead (s : State) (data : List Byte) (pec : Byte) : State :=
  { active s with svc := { s.svc with acked := true, lastRead := leBytes 1 data.length ++ data ++ [pec] } }

theorem svcAnswer_eq (s : State) (cmd : Nat) (data : List Byte) :
    svcAnswer s cmd data = blockRead s data (answerPec s cmd data) := rfl

theorem length_statusBlock (s : State) : (statusBlock s).length = 8 := by
  simp only [statusBlock, List.length_append, length_leBytes]

/-- The flags of STATUS (R118). -/
def statusFlags (ready busy waits dict : Bool) : Nat := b2n ready + 2 * b2n busy + 4 * b2n waits + 8 * b2n dict

theorem bitOf_statusFlags (ready busy waits dict : Bool) : bitOf (statusFlags ready busy waits dict % 256) 0 = ready ∧
    bitOf (statusFlags ready busy waits dict % 256) 1 = busy ∧ bitOf (statusFlags ready busy waits dict % 256) 3 = dict := by
  revert ready busy waits dict
  decide

/-- What STATUS gives, field by field (R118). -/
theorem statusBlock_fields (s : State) :
    bitOf (getLe (statusBlock s) 0 1) 0 = s.svc.ready ∧ bitOf (getLe (statusBlock s) 0 1) 1 = s.svc.busy ∧
      bitOf (getLe (statusBlock s) 0 1) 3 = s.dictReady ∧ getLe (statusBlock s) 1 1 = s.svc.discarded % 256 ∧
        getLe (statusBlock s) 2 2 = min 65535 s.svc.response.length := by
  obtain ⟨flags, hflags, hblock⟩ : ∃ flags, (∃ waits, flags = statusFlags s.svc.ready s.svc.busy waits s.dictReady) ∧
      statusBlock s = leBytes 1 flags ++ leBytes 1 s.svc.discarded ++ leBytes 2 (min 65535 s.svc.response.length) ++
        leBytes 4 (serviceBytes s) := ⟨_, ⟨_, rfl⟩, rfl⟩
  have hfirst : getLe (statusBlock s) 0 1 = flags % 256 := by
    rw [hblock, List.append_assoc, List.append_assoc]
    exact getLe_append (pre := []) rfl 1 flags _
  have hsecond : getLe (statusBlock s) 1 1 = s.svc.discarded % 256 := by
    rw [hblock, List.append_assoc, List.append_assoc]
    exact getLe_append (length_leBytes 1 flags) 1 _ _
  have hthird : getLe (statusBlock s) 2 2 = min 65535 s.svc.response.length := by
    rw [hblock, List.append_assoc, getLe_append (by simp [length_leBytes])]
    omega
  obtain ⟨waits, rfl⟩ := hflags
  obtain ⟨hready, hbusy, hdict⟩ := bitOf_statusFlags s.svc.ready s.svc.busy waits s.dictReady
  rw [hfirst]
  exact ⟨hready, hbusy, hdict, hsecond, hthird⟩

section
variable {s : State} (hawake : svcAwake s = true)
include hawake

/-- The part of the response that one block read takes (R114, R116). -/
def resultPart (v : SvcPort) : List Byte := if v.ready then v.response.take 255 else []

/-- The service port once a block read has taken its part of the response. -/
def SvcPort.resultTaken (v : SvcPort) : SvcPort :=
  { v with
    response := v.response.drop (resultPart v).length
    ready := v.ready && !(v.response.drop (resultPart v).length).isEmpty }

theorem exec_svcResult_eq : ∃ pec, exec .svcResult s = .next (blockRead { s with svc := s.svc.resultTaken } (resultPart s.svc) pec) := by
  rw [exec_svcResult, execSvcResult, hawake, Bool.not_true, if_neg Bool.false_ne_true]
  exact ⟨_, rfl⟩

theorem exec_svcStatus_eq : ∃ pec, exec .svcStatus s = .next (blockRead s (statusBlock s) pec) := by
  rw [exec_svcStatus, execSvcStatus, hawake, Bool.not_true, if_neg Bool.false_ne_true]
  exact ⟨_, rfl⟩

theorem exec_svcSclTimeout_eq (mid : Bool) :
    exec (.svcSclTimeout mid) s = .next (if mid then svcDiscard s false else svcSilent s) := by
  rw [exec_svcSclTimeout, execSvcSclTimeout, hawake, given_true]

end

/-! ### The steward's answer to a refused request (R114, R116) -/

/-- A refusal opens with its code, and leaves the machine. -/
theorem refusal_payload (s : State) (op : Nat) (f : HostFrame) (code : Nat) :
    ∃ rest, (refusal s op f code).payload = leBytes 2 code ++ rest := by
  have hcount : ∃ n, (if (op = 1 ∨ op = 2 ∨ op = 7) ∧ 1 ≤ f.objCount ∧ f.objCount ≤ 369 then f.objCount else 1) = n + 1 := by
    refine Nat.exists_eq_add_one.mpr ?_
    split
    · next h => exact h.2.1
    · exact Nat.one_pos
  obtain ⟨n, hn⟩ := hcount
  unfold refusal
  dsimp only
  rw [hn]
  split
  · exact ⟨zeros 2 ++ zeros 8, by simp only [statusBytes, List.append_assoc]⟩
  · exact ⟨zeros 2 ++ (List.replicate n code).flatMap statusBytes, by
      simp only [statusAnswer, List.replicate_succ, List.flatMap_cons, statusBytes, List.append_assoc]⟩

theorem length_adpHeader (op flags parish session trans len count : Nat) :
    (adpHeader op flags parish session trans len count).length = 16 := by
  simp [adpHeader, length_leBytes, zeros]

/-- On the service port an untagged answer is held, its payload from byte 24 on (R116). -/
theorem respond_service {s : State} {f : HostFrame} (a : Answer) (hport : 3 ≤ f.port) : ∃ header, header.length = 24 ∧
    respond s f none a = { s with svc := { s.svc with response := header ++ a.payload, ready := true, busy := false } } := by
  unfold respond
  dsimp only
  rw [if_pos hport]
  refine ⟨_, ?_, rfl⟩
  rw [List.length_append, length_adpHeader]
  rfl

theorem exec_stewardServeRequest_coded {s : State} {q : Request} {rest : List Request} (hwaiting : s.net.waiting = q :: rest)
    (hcode : q.code ≠ 0) (hdict : s.dictReady = true) (hpower : s.power.state < 2) : exec .stewardServeRequest s =
      .next (let u := wakeIdle { s with net := { s.net with waiting := rest } }
        respond u q.frame none (refusal u q.op q.frame q.code)) := by
  rw [exec_stewardServeRequest, execStewardServeRequest]
  simp only [hwaiting, hdict, decide_eq_true hpower, Bool.true_or, Bool.and_self, given_true, if_neg hcode]
/-! ### Record chunks (R117, R241 to R243) -/

theorem chunksRun_iff (s : State) : chunksRun s = true ↔ s.dictReady = true ∧ (s.power.state < 2 ∨ 5 ≤ s.power.state) := by
  rw [chunksRun, Bool.and_eq_true, Bool.or_eq_true, decide_eq_true_iff, decide_eq_true_iff]

/-- A record of a batch on the service port, as bytes, with its key. -/
abbrev BatchItem := List Byte × List (Nat × Nat × Nat)

/-- A record that fits comes first in a chunk. -/
theorem chunkTake_cons {room : Nat} {e : BatchItem} (h : e.1.length ≤ room)
    (l : List BatchItem) : chunkTake room (e :: l) =
      (e :: (chunkTake (room - e.1.length) l).1, (chunkTake (room - e.1.length) l).2) := by
  rw [chunkTake, if_pos h]

theorem chunkTake_room (l : List BatchItem) (room : Nat) :
    ((chunkTake room l).1.flatMap (·.1)).length ≤ room := by
  induction l generalizing room with
  | nil => exact Nat.zero_le _
  | cons e l ih =>
    by_cases h : e.1.length ≤ room
    · have hrest := ih (room - e.1.length)
      rw [chunkTake_cons h, List.flatMap_cons, List.length_append]
      omega
    · rw [chunkTake, if_neg h]
      exact Nat.zero_le _

/-- The service port with its next chunk, of the records that still wait (R117). -/
def chunkFormed (v : SvcPort) : SvcPort :=
  let c := chunkTake 253 v.batchRest
  { v with
    chunk := some ([BitVec.ofNat 8 v.chunkSeq.toNat, if c.2.isEmpty then 0 else 1] ++ c.1.flatMap (·.1))
    chunkTake := c.1.flatMap (·.2), batchRest := c.2 }

section
variable {s : State}

theorem formChunk_of_chunk {c : List Byte} (h : s.svc.chunk = some c) : formChunk s = s := by
  rw [formChunk, h, Option.isSome_some, if_pos rfl]

theorem formChunk_of_rest {e : BatchItem} {rest : List BatchItem}
    (hchunk : s.svc.chunk = none) (hrest : s.svc.batchRest = e :: rest) :
    formChunk s = { s with svc := chunkFormed s.svc } := by
  have hsome : ¬s.svc.chunk.isSome = true := by simp [hchunk]
  have hbatch : ¬s.svc.batchRest.isEmpty = true := by simp [hrest]
  rw [formChunk, if_neg hsome, if_neg hbatch, if_neg hbatch]
  rfl

theorem formChunk_of_none (hchunk : s.svc.chunk = none) (hrest : s.svc.batchRest = []) (hparish : serviceParish s = none) :
    formChunk s = s := by
  have hsome : ¬s.svc.chunk.isSome = true := by simp [hchunk]
  have hbatch : s.svc.batchRest.isEmpty = true := by simp [hrest]
  have hnew : serviceBatch s = s := by rw [serviceBatch, hparish]
  rw [formChunk, if_neg hsome, if_pos hbatch, hnew, if_pos hbatch]

/-- A new batch is assembled, and then, unless it is empty, a chunk of it formed. -/
theorem formChunk_cases (s : State) : formChunk s = s ∨ formChunk s = serviceBatch s ∨
    formChunk s = { s with svc := chunkFormed s.svc } ∨ formChunk s = { serviceBatch s with svc := chunkFormed (serviceBatch s).svc } := by
  unfold formChunk
  dsimp only
  split
  · exact .inl rfl
  · by_cases hbatch : s.svc.batchRest.isEmpty = true
    · rw [if_pos hbatch]
      split
      · exact .inr (.inl rfl)
      · exact .inr (.inr (.inr rfl))
    · rw [if_neg hbatch, if_neg hbatch]
      exact .inr (.inr (.inl rfl))

end

/-- The first record of the batch is in the chunk that is formed, which opens with its number and a byte that says whether more
follows. -/
theorem chunkFormed_effect {v : SvcPort} {e : BatchItem} {rest : List BatchItem}
    (hrest : v.batchRest = e :: rest) (hfits : e.1.length ≤ 253) : ∃ body more, (chunkFormed v).chunk = some (v.chunkSeq :: more :: body) ∧
      body.take e.1.length = e.1 ∧ body.length ≤ 253 ∧ (chunkFormed v).chunkTake.take e.2.length = e.2 ∧
        (more = 0 ↔ (chunkFormed v).batchRest = []) := by
  have hseq : BitVec.ofNat 8 v.chunkSeq.toNat = v.chunkSeq := by simp
  have hroom := chunkTake_room v.batchRest 253
  have htake := chunkTake_cons hfits rest
  refine ⟨(chunkTake 253 v.batchRest).1.flatMap (·.1), if (chunkTake 253 v.batchRest).2.isEmpty then 0 else 1, ?_, ?_, hroom, ?_, ?_⟩
  · simp only [chunkFormed, hseq]
    rfl
  · rw [hrest, htake, List.flatMap_cons, List.take_left]
  · simp only [chunkFormed]
    rw [hrest, htake, List.flatMap_cons, List.take_left]
  · simp only [chunkFormed]
    cases (chunkTake 253 v.batchRest).2 <;> simp

/-! ### What the assembly of a batch leaves (R62, R242) -/

/-- The service port but for the batch that is being delivered and its chunk. -/
def SvcPort.besideChunk (v : SvcPort) : SvcPort := { v with chunk := none, chunkTake := [], batchRest := [] }

theorem svc_of_changes {l : List Piece} {s t : State} (h : Changes l s t) (hl : l.contains .svc = false) : t.svc = s.svc := h .svc hl

theorem serviceBatch_besideChunk (s : State) : (serviceBatch s).svc.besideChunk = s.svc.besideChunk := by
  have hold : ∀ ks : List Nat, (ks.foldl discardOld s).svc = s.svc := fun ks =>
    svc_of_changes (.foldl (fun x k => discardOld_changes x k) (.refl [.stream] s)) rfl
  unfold serviceBatch
  split
  · rfl
  · dsimp only
    split
    · rw [hold]
    · simp only [SvcPort.besideChunk, svc_of_changes (markRecs_changes _ _ _) rfl, hold]

theorem formChunk_besideChunk (s : State) : (formChunk s).svc.besideChunk = s.svc.besideChunk := by
  obtain h | h | h | h := formChunk_cases s
  · rw [h]
  · rw [h, serviceBatch_besideChunk]
  · rw [h]
    rfl
  · rw [h]
    exact serviceBatch_besideChunk s

/-! ### Delivered records stay delivered (R243) -/

/-- Every record of a key has been delivered. -/
def KeyDelivered (s : State) (key : Nat × Nat × Nat) : Prop :=
  ∀ r ∈ (s.streamAt key.1).ring, recKey r = key → r.delivered = true

/-- A stream with the records of some keys marked. -/
def Stream.marked (x : Stream) (keys : List (Nat × Nat × Nat)) (f : Rec → Rec) : Stream :=
  { x with ring := x.ring.map fun r => if keys.contains (recKey r) then f r else r }

theorem markRecs_streamAt (s : State) (keys : List (Nat × Nat × Nat)) (f : Rec → Rec) (k : Nat) : (markRecs s keys f).streamAt k =
    if keys.any (fun q => q.1 == k) then (s.streamAt k).marked keys f else s.streamAt k := by
  have hmap := tget_map (fun j (x : Stream) => if keys.any (fun q => q.1 == j) then x.marked keys f else x) {} s.stream k (by
    split <;> rfl)
  rw [← State.streamAt] at hmap
  rw [← hmap, State.streamAt, markRecs]
  refine congrArg (fun l : Tbl Stream => tget {} l k) (List.map_congr_left fun e _ => ?_)
  split <;> rfl

theorem markRecs_delivered {s : State} {key : Nat × Nat × Nat} {keys : List (Nat × Nat × Nat)} {f : Rec → Rec}
    (hkey : ∀ r, recKey (f r) = recKey r) (hmark : ∀ r, r.delivered = true → (f r).delivered = true)
    (h : KeyDelivered s key ∨ key ∈ keys ∧ ∀ r, (f r).delivered = true) : KeyDelivered (markRecs s keys f) key := by
  intro r hr hrkey
  rw [markRecs_streamAt] at hr
  split at hr
  · obtain ⟨r, hold, rfl⟩ := List.mem_map.mp hr
    by_cases hin : keys.contains (recKey r) = true
    · rw [if_pos hin] at hrkey ⊢
      rw [hkey] at hrkey
      exact h.elim (fun hdone => hmark r (hdone r hold hrkey)) fun hall => hall.2 r
    · rw [if_neg hin] at hrkey ⊢
      refine h.elim (fun hdone => hdone r hold hrkey) fun hall => absurd ?_ hin
      exact List.contains_iff_mem.mpr (hrkey ▸ hall.1)
  · next hnone =>
    refine h.elim (fun hdone => hdone r hr hrkey) fun hall => absurd ?_ hnone
    exact List.any_eq_true.mpr ⟨key, hall.1, beq_self_eq_true _⟩

theorem deliverKeys_delivered (s : State) {keys : List (Nat × Nat × Nat)} {key : Nat × Nat × Nat} (h : key ∈ keys) :
    KeyDelivered (deliverKeys s keys) key :=
  markRecs_delivered (fun _ => rfl) (fun _ _ => rfl) (.inr ⟨h, fun _ => rfl⟩)

theorem lose_ring (x : Stream) (k n : Nat) : (x.lose k n).ring = x.ring := by
  unfold Stream.lose
  split <;> rfl

section
variable {s : State} {key : Nat × Nat × Nat}

/-- What only takes records away leaves the delivered ones delivered. -/
theorem KeyDelivered.of_subset {t : State} (h : KeyDelivered s key) (hring : (t.streamAt key.1).ring ⊆ (s.streamAt key.1).ring) :
    KeyDelivered t key := fun r hr => h r (hring hr)

theorem discardOld_delivered (k : Nat) (h : KeyDelivered s key) : KeyDelivered (discardOld s k) key := by
  refine h.of_subset ?_
  unfold discardOld
  dsimp only
  split
  · exact List.Subset.refl _
  · by_cases hk : key.1 = k
    · subst hk
      rw [State.modStream_streamAt, lose_ring]
      exact List.filter_subset_self _
    · rw [State.modStream_streamAt_other _ _ _ _ hk]
      exact List.Subset.refl _

theorem serviceBatch_delivered (h : KeyDelivered s key) : KeyDelivered (serviceBatch s) key := by
  have hold : ∀ ks : List Nat, KeyDelivered (ks.foldl discardOld s) key := fun ks =>
    List.foldlRecOn (motive := fun x => KeyDelivered x key) ks _ h fun _ hx k _ => discardOld_delivered k hx
  unfold serviceBatch
  split
  · exact h
  · dsimp only
    split
    · exact hold _
    · exact markRecs_delivered (fun _ => rfl) (fun _ hr => hr) (.inl (hold _))

theorem formChunk_delivered (h : KeyDelivered s key) : KeyDelivered (formChunk s) key := by
  obtain hform | hform | hform | hform := formChunk_cases s
  · rwa [hform]
  · rw [hform]
    exact serviceBatch_delivered h
  · rw [hform]
    exact h
  · rw [hform]
    exact serviceBatch_delivered h

end

/-! ### SVC_RECORDS and SVC_RECORDS_ACK (R117, R243) -/

/-- The service port whose chunk has been acknowledged. -/
def SvcPort.chunkFreed (v : SvcPort) : SvcPort := { v with acked := true, chunk := none, chunkTake := [], chunkSeq := v.chunkSeq + 1 }

/-- The machine once the current chunk is acknowledged: its records are delivered, and it is free. -/
def chunkAcked (s : State) : State := { deliverKeys (svcAcked s) s.svc.chunkTake with svc := s.svc.chunkFreed }

section
variable {s : State}

theorem chunksRun_chunkAcked (s : State) : chunksRun (chunkAcked s) = chunksRun s := rfl

theorem chunkAcked_delivered {key : Nat × Nat × Nat} (h : key ∈ s.svc.chunkTake) : KeyDelivered (chunkAcked s) key :=
  deliverKeys_delivered (svcAcked s) h

/-- The machine once the next chunk is formed where the steward runs. -/
def nextChunk (s : State) : State := if chunksRun s then formChunk s else s

theorem nextChunk_besideChunk (s : State) : (nextChunk s).svc.besideChunk = s.svc.besideChunk := by
  unfold nextChunk
  split
  · exact formChunk_besideChunk s
  · rfl

theorem nextChunk_delivered {key : Nat × Nat × Nat} (h : KeyDelivered s key) : KeyDelivered (nextChunk s) key := by
  unfold nextChunk
  split
  · exact formChunk_delivered h
  · exact h

variable (hawake : svcAwake s = true)
include hawake

theorem exec_svcRecords_eq :
    ∃ pec, exec .svcRecords s = .next (blockRead (nextChunk s) ((nextChunk s).svc.chunk.getD []) pec) := by
  rw [exec_svcRecords, execSvcRecords, hawake, Bool.not_true, if_neg Bool.false_ne_true]
  exact ⟨_, rfl⟩

theorem exec_svcRecordsAck_bad {seq : Byte} {pec : Option Byte} (h : pec ≠ some (svcPec s 0x21 [seq])) :
    exec (.svcRecordsAck seq pec) s = .next (svcDiscard s false) := by
  rw [exec_svcRecordsAck, execSvcRecordsAck, svcWrite_bad hawake fun hgood => h hgood.2]

theorem exec_svcRecordsAck_other {seq : Byte} (h : s.svc.chunk = none ∨ seq ≠ s.svc.chunkSeq) :
    exec (.svcRecordsAck seq (some (svcPec s 0x21 [seq]))) s = .next (svcDiscard s true) := by
  have hother : ¬(s.svc.chunk.isSome && s.svc.chunkSeq == seq) = true := by
    obtain h | h := h
    · simp [h]
    · simp [h.symm]
  rw [exec_svcRecordsAck, execSvcRecordsAck, svcWrite_good hawake ⟨by simp, rfl⟩]
  exact congrArg _ (if_neg hother)

theorem exec_svcRecordsAck_current {c : List Byte} (h : s.svc.chunk = some c) :
    exec (.svcRecordsAck s.svc.chunkSeq (some (svcPec s 0x21 [s.svc.chunkSeq]))) s = .next (nextChunk (chunkAcked s)) := by
  have hcurrent : (s.svc.chunk.isSome && s.svc.chunkSeq == s.svc.chunkSeq) = true := by simp [h]
  rw [exec_svcRecordsAck, execSvcRecordsAck, svcWrite_good hawake ⟨by simp, rfl⟩]
  exact congrArg _ (if_pos hcurrent)

end

/-! ### The statement -/

section
variable {s : State}

/-- A frame under a block command, by how far its checks carry it. -/
theorem framesWritten_effect {i : Instr} {cmd : Nat} {ops : List Nat} {data : List Byte} {pec : Option Byte}
    (hawake : svcAwake s = true) (h : FramesWritten i cmd ops data pec) :
    (¬BlockGood s cmd data pec → exec i s = .next (svcDiscard s false)) ∧
      (BlockGood s cmd data pec → s.svc.busy = true ∨ s.svc.ready = true → exec i s = .next (svcDiscard s true)) ∧
      (BlockGood s cmd data pec → s.svc.busy = false → s.svc.ready = false → ¬HeaderSound data → ∃ t, exec i s = .next t ∧
        t.svc = (svcDiscard s true).svc ∧ t.net.waiting = s.net.waiting ∧ Changes [.net, .svc, .timers] s t) ∧
      (BlockGood s cmd data pec → s.svc.busy = false → s.svc.ready = false → HeaderSound data →
        (s.net.waiting.length < 32 → exec i s = .next (requestHeld s ops data)) ∧
        (32 ≤ s.net.waiting.length → exec i s = .next (requestRefused s))) := by
  have hexec := exec_framesWritten (s := s) h
  refine ⟨fun hbad => by rw [hexec, svcWrite_bad hawake hbad], fun hgood hheld => ?_, fun hgood hbusy hready hheader => ?_,
    fun hgood hbusy hready hheader => ⟨fun hroom => ?_, fun hfull => ?_⟩⟩
  · rw [hexec, svcWrite_good hawake hgood, svcRequest_held hheld]
  · have hchanges : Changes [.net, .svc, .timers] s (svcWrite s cmd data pec (svcRequest ops data)) :=
      svcWrite_changes (fun u => svcRequest_changes ops data u) rfl
    rw [svcWrite_good hawake hgood, svcRequest_badHeader hbusy hready hheader] at hexec hchanges
    have hsvc : (countBad (svcAcked s) data).svc = (svcAcked s).svc := svc_of_changes (countBad_changes _ _) rfl
    refine ⟨_, hexec, ?_, countBad_waiting _ _, hchanges⟩
    simp only [svcDiscard, hsvc]
    rfl
  · rw [hexec, svcWrite_good hawake hgood, svcRequest_sound hbusy hready hheader, if_neg (Nat.not_le.mpr hroom)]
  · rw [hexec, svcWrite_good hawake hgood, svcRequest_sound hbusy hready hheader, if_pos hfull]

/-- The steward's answer to a request of the service port that is refused for its opcode or its length. -/
theorem stewardServeRequest_coded {q : Request} {rest : List Request} (hwaiting : s.net.waiting = q :: rest)
    (hcode : q.code = 0x0101 ∨ q.code = 0x0102) (hport : 3 ≤ q.frame.port) (hdict : s.dictReady = true) (hpower : s.power.state < 2) :
    ∃ t, exec .stewardServeRequest s = .next t ∧ t.net = { s.net with waiting := rest } ∧ t.svc.ready = true ∧ t.svc.busy = false ∧
      getLe t.svc.response 24 2 = q.code ∧ Changes [.net, .svc, .timers, .power] s t := by
  have hrange : q.code ≠ 0 ∧ q.code < 256 ^ 2 := by omega
  have hexec := exec_stewardServeRequest_coded hwaiting hrange.1 hdict hpower
  obtain ⟨header, hlength, hanswer⟩ := respond_service (s := wakeIdle { s with net := { s.net with waiting := rest } })
    (refusal (wakeIdle { s with net := { s.net with waiting := rest } }) q.op q.frame q.code) hport
  obtain ⟨tail, htail⟩ := refusal_payload (wakeIdle { s with net := { s.net with waiting := rest } }) q.op q.frame q.code
  rw [htail] at hanswer
  refine ⟨_, hexec.trans (congrArg _ hanswer), rfl, rfl, rfl, ?_, fun f hf => ?_⟩
  · exact (getLe_append hlength 2 q.code tail).trans (Nat.mod_eq_of_lt hrange.2)
  · cases f <;> first | rfl | exact absurd hf (by decide)

/-- The acknowledgement of the current chunk. -/
theorem svcRecordsAck_current {c : List Byte} (hawake : svcAwake s = true) (h : s.svc.chunk = some c) :
    ∃ t, exec (.svcRecordsAck s.svc.chunkSeq (some (svcPec s 0x21 [s.svc.chunkSeq]))) s = .next t ∧
      t.svc.chunkSeq = s.svc.chunkSeq + 1 ∧ t.svc.acked = true ∧ (¬chunksRun s = true → t.svc.chunk = none ∧ t.svc.chunkTake = []) ∧
      (∀ key ∈ s.svc.chunkTake, KeyDelivered t key) ∧ Changes [.svc, .stream, .timers] s t := by
  have hexec := exec_svcRecordsAck_current hawake h
  have hbeside := nextChunk_besideChunk (chunkAcked s)
  refine ⟨_, hexec, (congrArg SvcPort.chunkSeq hbeside :), (congrArg SvcPort.acked hbeside :), fun hstopped => ?_, fun key hkey =>
    nextChunk_delivered (chunkAcked_delivered hkey), execSvcRecordsAck_changes _ _ s _ hexec⟩
  rw [nextChunk, chunksRun_chunkAcked, if_neg hstopped]
  exact ⟨rfl, rfl⟩

/-- A read of the records with a batch to go on with. -/
theorem svcRecords_formed {e : BatchItem} {rest : List BatchItem}
    (hawake : svcAwake s = true) (hchunk : s.svc.chunk = none) (hrun : chunksRun s = true) (hrest : s.svc.batchRest = e :: rest)
    (hfits : e.1.length ≤ 253) : ∃ t body more pec, exec .svcRecords s = .next t ∧
      t.svc.chunk = some (s.svc.chunkSeq :: more :: body) ∧ body.take e.1.length = e.1 ∧ body.length ≤ 253 ∧
      t.svc.chunkTake.take e.2.length = e.2 ∧ (more = 0 ↔ t.svc.batchRest = []) ∧
      t.svc.lastRead = leBytes 1 (body.length + 2) ++ (s.svc.chunkSeq :: more :: body) ++ [pec] ∧
      t.svc.chunkSeq = s.svc.chunkSeq ∧ Changes [.svc, .timers] s t := by
  obtain ⟨pec, hexec⟩ := exec_svcRecords_eq hawake
  obtain ⟨body, more, hformed, hfirst, hroom, hkeys, hmore⟩ := chunkFormed_effect hrest hfits
  rw [nextChunk, if_pos hrun, formChunk_of_rest hchunk hrest] at hexec
  refine ⟨_, body, more, pec, hexec, hformed, hfirst, hroom, hkeys, hmore, ?_, rfl, fun f hf => ?_⟩
  · simp only [blockRead, hformed, Option.getD_some, List.length_cons]
  · cases f <;> first | rfl | exact absurd hf (by decide)

end

/-- Settles O46: a transfer by its acknowledgement and its checks, a request by the room for it, and a chunk by how it is formed and
freed. -/
theorem servicePortRequestsAndChunks : Obligations.ServicePortRequestsAndChunks := by
  refine ⟨fun s => ?_, fun s hawake => ?_⟩
  · intro v u silent lost isWrite
    refine ⟨rfl, fun hasleep => ⟨?_, ?_, ?_, fun q pec => ?_, fun i cmd ops data pec h => ?_, fun b => ?_⟩, fun hwoken => ?_,
      fun q rest hwaiting hcode hport hdict hpower => stewardServeRequest_coded hwaiting hcode hport hdict hpower⟩
    · rw [exec_svcResult, execSvcResult, hasleep]
      rfl
    · rw [exec_svcStatus, execSvcStatus, hasleep]
      rfl
    · rw [exec_svcRecords, execSvcRecords, hasleep]
      rfl
    · rw [exec_svcRecordsAck, execSvcRecordsAck, svcWrite_asleep hasleep]
      rfl
    · rw [exec_framesWritten h, svcWrite_asleep hasleep]
      rfl
    · rw [exec_svcSclTimeout, execSvcSclTimeout, hasleep, given_false]
    · have hawake := svcAwake_iff.mpr hwoken
      refine ⟨exec_svcSclTimeout_eq hawake true, exec_svcSclTimeout_eq hawake false, fun i cmd ops data pec h =>
        framesWritten_effect hawake h, ?_, ?_⟩
      · obtain ⟨pec, hexec⟩ := exec_svcResult_eq hawake
        exact ⟨_, pec, hexec, rfl⟩
      · obtain ⟨pec, hexec⟩ := exec_svcStatus_eq hawake
        obtain ⟨hready, hbusy, hdict, hdiscarded, hwaits⟩ := statusBlock_fields s
        have hlast : leBytes 1 (statusBlock s).length = [8] := by rw [length_statusBlock]; rfl
        rw [blockRead, hlast] at hexec
        exact ⟨_, pec, statusBlock s, hexec, length_statusBlock s, rfl, hready, hbusy, hdict, fun hsmall =>
          hdiscarded.trans (Nat.mod_eq_of_lt hsmall), hwaits⟩
  · intro v u run pecOf
    refine ⟨fun c hc => ?_, fun hnone hstill => ?_, fun e rest hnone hrun hrest hfits =>
      svcRecords_formed hawake hnone ((chunksRun_iff s).mpr hrun) hrest hfits, fun q hother => exec_svcRecordsAck_other hawake hother,
      fun q pec hbad => exec_svcRecordsAck_bad hawake hbad, fun c hc => ?_⟩
    · obtain ⟨pec, hexec⟩ := exec_svcRecords_eq hawake
      have hsame : nextChunk s = s := by rw [nextChunk, formChunk_of_chunk hc, ite_self]
      rw [hsame, hc] at hexec
      exact ⟨pec, hexec⟩
    · obtain ⟨pec, hexec⟩ := exec_svcRecords_eq hawake
      have hsame : nextChunk s = s := by
        unfold nextChunk
        split
        · next hrun =>
          obtain hstopped | ⟨hrest, hparish⟩ := hstill
          · exact absurd ((chunksRun_iff s).mp hrun) hstopped
          · exact formChunk_of_none hnone hrest hparish
        · rfl
      rw [hsame, hnone] at hexec
      exact ⟨pec, hexec⟩
    · obtain ⟨t, hexec, hseq, hacked, hstopped, hdelivered, hchanges⟩ := svcRecordsAck_current hawake hc
      exact ⟨t, hexec, hseq, hacked, fun hrun => hstopped fun h => hrun ((chunksRun_iff s).mp h), hdelivered, hchanges⟩

end Sys2Proof.Machine
end

section
/-! PROOF. O19: the comparators, their latches, filters and DACs. -/

namespace Sys2Proof.Machine

/-! ### The trip signals of a port (R134, R364) -/

@[simp] theorem portComp_setComp_same (x : Port) (j : Nat) (c : Comp) : portComp (setComp x j c) j = c := by
  unfold portComp setComp
  split
  · rfl
  · split <;> rfl

@[simp] theorem setComp_portComp (x : Port) (j : Nat) : setComp x j (portComp x j) = x := by
  unfold portComp setComp
  split
  · rfl
  · split <;> rfl

/-- The setting of a trip signal, by its index as the statement writes it. -/
theorem tripIdx_eq (n j : Nat) : 0x4000 + 64 * n + 9 + j = tripIdx n j := Nat.add_assoc _ _ _

/-- Two changes of a port that agree at its present state. -/
theorem State.modPort_congr {s : State} {n : Nat} {f g : Port → Port} (h : f (s.portAt n) = g (s.portAt n)) :
    s.modPort n f = s.modPort n g := by
  rw [State.modPort, h, State.modPort]

theorem soRefresh_portAt (s : State) (n : Nat) : (soRefresh s).portAt n = s.portAt n :=
  portAt_of_port ((soRefresh_changes s) .port rfl) n

theorem offerFrom_portAt (s : State) (d kind num : Nat) (v : Int) (st : Stamp) (n : Nat) :
    (offerFrom s d kind num v st).portAt n = s.portAt n :=
  portAt_of_port ((offerFrom_changes s d kind num v st) .port rfl) n

/-- Without TRIP_GATE the gate is open from the start (R141). -/
theorem gateFrom_ungated {s : State} {n j : Nat} (h : cfg s (tripIdx n j) 0xC 0 = 0) : gateFrom s n j = some 0 := if_pos h

theorem gateOpen_ungated {s : State} {n j : Nat} (h : cfg s (tripIdx n j) 0xC 0 = 0) : gateOpen s n j = true := by
  rw [gateOpen, gateFrom_ungated h, Option.any_some, decide_eq_true (Nat.zero_le _)]

/-! ### COMPARATOR_EDGE (R132, R134, R138, R141) -/

theorem driveComp_released (s : State) (n j : Nat) (st : Stamp) (c : Comp) :
    (driveComp s n j false st c).gated = false ∧ (driveComp s n j false st c).filtered = false := ⟨rfl, rfl⟩

/-- A trip behind an open gate and without a filter time passes at once (R141). -/
theorem driveComp_filtered {s : State} {n j : Nat} (st : Stamp) (c : Comp) (hgate : cfg s (tripIdx n j) 0xC 0 = 0)
    (hfilter : cfg s (tripIdx n j) 0xD 0 = 0) : (driveComp s n j true st c).filtered = true := by
  rw [driveComp, gateOpen_ungated hgate, hfilter]
  rfl

/-- A comparator whose output was the other one is stamped when it trips. -/
theorem driveComp_edge {s : State} {n j : Nat} {tripped : Bool} (st : Stamp) {c : Comp} (h : c.out = !tripped) :
    (driveComp s n j tripped st c).edge = if tripped = true then st else c.edge := by
  rw [driveComp, h]
  cases tripped <;> rfl

/-- A comparator whose input pairs agree anew (R135). -/
def Comp.agreeing (c : Comp) (at_ : Nat) : Comp := { c with agree := c.agree.map fun _ => at_ }

/-- The machine once comparator j has its new output, with the edge kept for a single-slope conversion. -/
def comparatorDriven (s : State) (n j : Nat) (tripped : Bool) (bins : Nat) : State :=
  (if j = 0 then slopeEdge s n bins (captureAt s n (6 + j) bins) else s).modPort n fun x =>
    setComp x j (driveComp s n j tripped (captureAt s n (6 + j) bins) ((portComp x j).agreeing s.ticks))

theorem slopeEdge_comp (s : State) (n bins : Nat) (st : Stamp) (j : Nat) :
    portComp ((slopeEdge s n bins st).portAt n) j = portComp (s.portAt n) j := by
  unfold slopeEdge
  split
  · rw [State.modPort_portAt]
    rfl
  · rfl

theorem slopeEdge_portAt_other (s : State) {n i : Nat} (bins : Nat) (st : Stamp) (h : i ≠ n) :
    (slopeEdge s n bins st).portAt i = s.portAt i := by
  unfold slopeEdge
  split
  · exact State.modPort_portAt_other _ _ _ _ h
  · rfl

/-- The window follows C0 and C1 and changes neither. -/
theorem windowFollows_comp (s : State) (n : Nat) (st : Stamp) {j : Nat} (hj : j ≤ 1) :
    portComp ((windowFollows s n st).portAt n) j = portComp (s.portAt n) j := by
  unfold windowFollows
  dsimp only
  split
  · rfl
  · rw [State.modPort_portAt]
    obtain rfl | rfl : j = 0 ∨ j = 1 := by omega
    · rfl
    · rfl

theorem windowFollows_portAt_other (s : State) {n i : Nat} (st : Stamp) (h : i ≠ n) :
    (windowFollows s n st).portAt i = s.portAt i := by
  unfold windowFollows
  dsimp only
  split
  · rfl
  · exact State.modPort_portAt_other _ _ _ _ h

section
variable (s : State) (n j : Nat) (tripped : Bool) (bins : Nat)

theorem comparatorDriven_comp : portComp ((comparatorDriven s n j tripped bins).portAt n) j =
    driveComp s n j tripped (captureAt s n (6 + j) bins) ((portComp (s.portAt n) j).agreeing s.ticks) := by
  rw [comparatorDriven, State.modPort_portAt, portComp_setComp_same]
  split
  · rw [slopeEdge_comp]
  · rfl

theorem comparatorDriven_portAt_other {i : Nat} (h : i ≠ n) : (comparatorDriven s n j tripped bins).portAt i = s.portAt i := by
  rw [comparatorDriven, State.modPort_portAt_other _ _ _ _ h]
  split
  · exact slopeEdge_portAt_other s bins _ h
  · rfl

end

theorem exec_comparatorEdge_eq {s : State} {n j : Nat} {tripped : Bool} (bins : Nat) (hn : hasPort s n) (hj : j ≤ 1)
    (hpower : (s.portAt n).powered = true) (hoff : (s.portAt n).cmpOff = false) (hout : (portComp (s.portAt n) j).out = !tripped) :
    exec (.comparatorEdge n j tripped bins) s =
      .next (soRefresh (windowFollows (comparatorDriven s n j tripped bins) n (captureAt s n (6 + j) bins))) := by
  have hnew : ((portComp (s.portAt n) j).out != tripped) = true := by rw [hout, Bool.not_bne_self]
  rw [exec_comparatorEdge, execComparatorEdge, if_neg (Nat.not_lt.mpr hj), withPort_of_hasPort _ hn, hpower, hoff, hnew]
  rfl

/-! ### MAJORITY_SAMPLE (R139, R140) -/

/-- A trip signal with one more sample in its majority filter: a vote that finds the latch clear sets it. -/
def Comp.sampled (c : Comp) (h : List Bool) (vote : Bool) : Comp :=
  if vote = true ∧ c.latch = false then
    { c with hist := h, latch := true, sets := if c.sets = 255 then 255 else c.sets + 1, setStamp := c.edge }
  else { c with hist := h }

theorem sampled_hist (c : Comp) (h : List Bool) (vote : Bool) : (c.sampled h vote).hist = h := by
  unfold Comp.sampled
  split <;> rfl

theorem sampled_latch (c : Comp) (h : List Bool) (vote : Bool) : (c.sampled h vote).latch = (c.latch || vote) := by
  unfold Comp.sampled
  split
  · next hset => rw [hset.1, Bool.or_true]
  · next hkept => cases hlatch : c.latch <;> cases vote <;> simp_all

/-- The machine after a sample: a latch that is set is offered to the sieve. -/
def majoritySampled (s : State) (n j : Nat) : State :=
  let c := portComp (s.portAt n) j
  let h := (c.out :: c.hist).take 15
  let u := s.modPort n fun x => setComp x j (c.sampled h (majorityVote s n j h))
  if majorityVote s n j h = true ∧ c.latch = false then offerFrom u (portDie n) 5 (compSource n j) 1 c.edge else u

theorem exec_majoritySample_eq {s : State} {n j : Nat} (hn : hasPort s n) (hj : j ≤ 2) (hpower : (s.portAt n).powered = true) :
    exec (.majoritySample n j) s = .next (majoritySampled s n j) := by
  rw [exec_majoritySample, execMajoritySample, if_neg (Nat.not_lt.mpr hj), withPort_of_hasPort _ hn, hpower, given_true,
    majoritySampled]
  simp only [Comp.sampled, Bool.and_eq_true, Bool.not_eq_true']
  split <;> rfl

theorem majoritySampled_portAt (s : State) (n j i : Nat) :
    let c := portComp (s.portAt n) j
    let h := (c.out :: c.hist).take 15
    (majoritySampled s n j).portAt i = (s.modPort n fun x => setComp x j (c.sampled h (majorityVote s n j h))).portAt i := by
  intro c h
  rw [majoritySampled]
  split
  · exact offerFrom_portAt _ _ _ _ _ _ i
  · rfl

/-- Without a vote a sample joins the filter and does nothing else. -/
theorem majoritySampled_unset {s : State} {n j : Nat}
    (h : majorityVote s n j (((portComp (s.portAt n) j).out :: (portComp (s.portAt n) j).hist).take 15) = false) :
    majoritySampled s n j = s.modPort n fun x => setComp x j { portComp (s.portAt n) j with
      hist := ((portComp (s.portAt n) j).out :: (portComp (s.portAt n) j).hist).take 15 } := by
  simp only [majoritySampled, h, Comp.sampled, Bool.false_eq_true, false_and, if_false]

/-! ### TRIP_FILTER_EXPIRY (R141) -/

/-- A trip signal that has passed its filter. -/
def Comp.passed (c : Comp) (at_ : Nat) : Comp := { c with gated := true, filtered := true, passedAt := at_ }

theorem filterDue_ungated {s : State} {n j : Nat} (hout : (portComp (s.portAt n) j).out = true)
    (hgate : cfg s (tripIdx n j) 0xC 0 = 0)
    (hdue : (portComp (s.portAt n) j).since + filterTicks (cfg s (tripIdx n j) 0xD 0) ≤ s.ticks) : filterDue s n j = true := by
  rw [filterDue, hout, gateFrom_ungated hgate, Option.any_some, Nat.zero_max, decide_eq_true hdue]
  rfl

theorem exec_tripFilterExpiry_eq {s : State} {n j : Nat} (hn : hasPort s n) (hj : j ≤ 2) (hdue : filterDue s n j = true) :
    exec (.tripFilterExpiry n j) s =
      .next (soRefresh (s.modPort n fun x => setComp x j ((portComp x j).passed s.ticks))) := by
  rw [exec_tripFilterExpiry, execTripFilterExpiry, if_neg (Nat.not_lt.mpr hj), withPort_of_hasPort _ hn, hdue]
  rfl

/-! ### CMP_LATCH_CLEAR (R140) -/

/-- A trip signal whose latch a clear meets: it stays set where the vote is still tripped. -/
def Comp.cleared (c : Comp) (vote : Bool) : Comp := { c with latch := c.latch && vote }

theorem clearLatch_portAt (s : State) (n j : Nat) : (clearLatch s n j).portAt n =
    setComp (s.portAt n) j ((portComp (s.portAt n) j).cleared (majorityVote s n j (portComp (s.portAt n) j).hist)) := by
  unfold clearLatch
  dsimp only
  split
  · next hclears =>
    obtain ⟨-, hvote⟩ := Bool.and_eq_true_iff.mp hclears
    rw [offerFrom_portAt, State.modPort_portAt, Comp.cleared, Bool.eq_false_of_not_eq_true' hvote, Bool.and_false]
  · next hkept =>
    have hlatch : (portComp (s.portAt n) j).cleared (majorityVote s n j (portComp (s.portAt n) j).hist) =
        portComp (s.portAt n) j := by
      have hstays : ((portComp (s.portAt n) j).latch && majorityVote s n j (portComp (s.portAt n) j).hist) =
          (portComp (s.portAt n) j).latch := by
        cases hl : (portComp (s.portAt n) j).latch
        · rfl
        · simpa [hl] using hkept
      rw [Comp.cleared, hstays]
    rw [hlatch, setComp_portComp]

theorem clearLatch_portAt_other (s : State) {n i : Nat} (j : Nat) (h : i ≠ n) : (clearLatch s n j).portAt i = s.portAt i := by
  unfold clearLatch
  dsimp only
  split
  · rw [offerFrom_portAt, State.modPort_portAt_other _ _ _ _ h]
  · rfl

/-- A mask of one bit clears one latch. -/
theorem clearLatches_one (s : State) (n : Nat) {j : Nat} (hj : j ≤ 2) : clearLatches s n (2 ^ j) = clearLatch s n j := by
  obtain rfl | rfl | rfl : j = 0 ∨ j = 1 ∨ j = 2 := by omega
  · rfl
  · rfl
  · rfl

theorem exec_cmpLatchClear_eq {s : State} {n j : Nat} (hn : hasPort s n) (hj : j ≤ 2) (hon : domainOn s n = true) :
    exec (.cmpLatchClear n (2 ^ j)) s = .next (clearLatch s n j) := by
  rw [exec_cmpLatchClear, execCmpLatchClear, decide_eq_true hn, hon, given_true, given_true, clearLatches_one s n hj]

/-! ### CMP_DAC_WRITE (R136, R149) -/

theorem exec_cmpDacWrite_eq {s : State} {n : Nat} (v : Word) (hn : hasPort s n) (hon : domainOn s n = true)
    (hmode : (s.portAt n).mode = 4) : exec (.cmpDacWrite n v) s = .next (s.modPort n fun p => { p with
      dac0 := if dacLocked s n 0 then p.dac0 else (v.extractLsb' 0 10).toNat
      dac1 := if dacLocked s n 1 then p.dac1 else (v.extractLsb' 16 10).toNat
      wrDropped := (p.wrDropped && !v.getLsbD 31) || dacLocked s n 0 || dacLocked s n 1 }) := by
  rw [exec_cmpDacWrite, execCmpDacWrite, withPort_of_hasPort _ hn, hon, hmode, writeCmpDac, bitOf_eq_testBit, field_toNat, field_toNat]
  rfl

/-! ### The statement -/

/-- Settles O19: each event by what its trip signal becomes, and the refresh of the outputs and the offers leave the ports. -/
theorem comparatorsTripLatchAndClear : Obligations.ComparatorsTripLatchAndClear := by
  intro s n j hn hj
  rw [tripIdx_eq]
  intro x c after m votes
  have hvotes : ∀ h, majorityVote s n j h = decide (votes h) := fun _ => rfl
  refine ⟨fun tripped bins hj1 hpower hoff hout => ?_, fun hpower => ?_, fun hout hgate hdue => ?_, fun hon => ?_,
    fun v hon hmode => exec_cmpDacWrite_eq v hn hon hmode⟩
  · have hexec := exec_comparatorEdge_eq bins hn hj1 hpower hoff hout
    have hcomp : after (soRefresh (windowFollows (comparatorDriven s n j tripped bins) n (captureAt s n (6 + j) bins))) =
        driveComp s n j tripped (captureAt s n (6 + j) bins) (c.agreeing s.ticks) := by
      refine (congrArg (portComp · j) (soRefresh_portAt _ n)).trans ?_
      exact (windowFollows_comp _ n _ hj1).trans (comparatorDriven_comp s n j tripped bins)
    refine ⟨_, hexec, ?_, ?_, ?_, fun hoff => ?_, fun hon hgate hfilter => ?_, fun i hi => ?_,
      execComparatorEdge_changes n j tripped bins s _ hexec⟩
    · rw [hcomp]
      rfl
    · rw [hcomp]
      rfl
    · rw [hcomp]
      exact driveComp_edge _ hout
    · rw [hcomp, hoff]
      exact driveComp_released s n j _ _
    · rw [hcomp, hon]
      exact driveComp_filtered _ _ hgate hfilter
    · rw [soRefresh_portAt, windowFollows_portAt_other _ _ hi, comparatorDriven_portAt_other s n j tripped bins hi]
  · intro h
    have hcomp : after (majoritySampled s n j) = c.sampled h (decide (votes h)) := by
      refine (congrArg (portComp · j) (majoritySampled_portAt s n j n)).trans ?_
      rw [State.modPort_portAt]
      exact portComp_setComp_same _ j _
    refine ⟨_, exec_majoritySample_eq hn hj hpower, ?_, fun i hi => ?_, ?_, fun hset hlatch => ?_, fun hunset => ?_⟩
    · rw [hcomp, sampled_hist]
    · rw [majoritySampled_portAt, State.modPort_portAt_other _ _ _ _ hi]
    · rw [hcomp, sampled_latch]
    · rw [hcomp, Comp.sampled, if_pos ⟨decide_eq_true hset, hlatch⟩]
      exact ⟨rfl, rfl⟩
    · exact majoritySampled_unset (decide_eq_false hunset)
  · have hexec := exec_tripFilterExpiry_eq hn hj (filterDue_ungated hout hgate hdue)
    refine ⟨_, hexec, ?_, fun i hi => ?_, execTripFilterExpiry_changes n j s _ hexec⟩
    · refine (congrArg (portComp · j) (soRefresh_portAt _ n)).trans ?_
      rw [State.modPort_portAt]
      exact portComp_setComp_same _ j _
    · rw [soRefresh_portAt, State.modPort_portAt_other _ _ _ _ hi]
  · refine ⟨_, exec_cmpLatchClear_eq hn hj hon, ?_, fun i hi => clearLatch_portAt_other s j hi, clearLatch_changes s n j⟩
    have hcomp : after (clearLatch s n j) = c.cleared (decide (votes c.hist)) :=
      (congrArg (portComp · j) (clearLatch_portAt s n j)).trans (portComp_setComp_same _ j _)
    rw [hcomp]
    rfl

end Sys2Proof.Machine
end

section
/-! PROOF. O20: the pulse generators. -/

namespace Sys2Proof.Machine

/-- The settings of a generator, by its index as the statement writes it. -/
theorem pgIdx_eq (n g : Nat) : 0x4000 + 64 * n + 13 + g = pgIdx n g := Nat.add_assoc _ _ _

theorem withPg_of_le {s : State} {n g : Nat} (t : State) (hn : hasPort s n) (hg : g ≤ 1) : withPg s n g t = .next t := by
  rw [withPg, if_neg (Nat.not_lt.mpr hg), withPort_of_hasPort _ hn]

/-- No trip is present where TRIP_SRC names none. -/
theorem pgTripped_of_noSource {s : State} {n g : Nat} (h : cfg s (pgIdx n g) 6 0 = 0) : pgTripped s n g = false := by
  rw [pgTripped, h]
  rfl

/-! ### The start of a period (R145, R146) -/

/-- A generator whose period starts at a tick. -/
def PulseGen.periodFrom (p : PulseGen) (at_ : Nat) : PulseGen := { p with periodAt := some at_ }

/-- A generator whose pulse starts, with its stamp. -/
def PulseGen.started (p : PulseGen) (stamp : Stamp) : PulseGen := { p with held := false, out := true, startStamp := stamp }

/-- A generator at the start of a period: HELD keeps it, a trip skips its pulse, else the pulse starts (R145, R146). -/
def PulseGen.atPeriod (p : PulseGen) (trip holds : Bool) (act : Nat) (stamp : Stamp) : PulseGen :=
  if p.held && (trip || holds) then p
  else if trip then
    if act = 1 then { p with held := false, trunc := if p.trunc = 255 then 255 else p.trunc + 1 } else { p with held := false }
  else p.started stamp

theorem atPeriod_started {p : PulseGen} (at_ : Nat) (holds : Bool) (act : Nat) (stamp : Stamp) (h : p.held = false) :
    (p.periodFrom at_).atPeriod false holds act stamp = (p.periodFrom at_).started stamp := by
  rw [PulseGen.atPeriod, PulseGen.periodFrom, h]
  rfl

theorem atPeriod_held {p : PulseGen} (at_ : Nat) (trip : Bool) (act : Nat) (stamp : Stamp) (h : p.held = true) :
    (p.periodFrom at_).atPeriod trip true act stamp = p.periodFrom at_ := by
  rw [PulseGen.atPeriod, PulseGen.periodFrom, h, Bool.or_true]
  rfl

/-- The generators of a port. -/
def Port.generators (x : Port) : PulseGen × PulseGen := (x.pg0, x.pg1)

theorem setComp_generators (x : Port) (j : Nat) (c : Comp) : (setComp x j c).generators = x.generators := by
  unfold setComp
  split
  · rfl
  · split <;> rfl

/-- What the start of a PG0 period does besides the pulse: latches clear and a ramp restarts, at the same port. -/
theorem pg0Period_keeps (s : State) (n : Nat) : ((pg0Period s n).portAt n).generators = (s.portAt n).generators ∧
    ∀ i, i ≠ n → (pg0Period s n).portAt i = s.portAt i := by
  unfold pg0Period
  extract_lets s1
  have h1 : (s1.portAt n).generators = (s.portAt n).generators ∧ ∀ i, i ≠ n → s1.portAt i = s.portAt i := by
    refine List.foldlRecOn (motive := fun x : State =>
      (x.portAt n).generators = (s.portAt n).generators ∧ ∀ i, i ≠ n → x.portAt i = s.portAt i) _ _ ⟨rfl, fun _ _ => rfl⟩
        fun x ⟨hmine, hothers⟩ j _ => ?_
    split
    · refine ⟨?_, fun i hi => (clearLatch_portAt_other x j hi).trans (hothers i hi)⟩
      rw [clearLatch_portAt, setComp_generators, hmine]
    · exact ⟨hmine, hothers⟩
  split
  · refine ⟨?_, fun i hi => (State.modPort_portAt_other _ _ _ _ hi).trans (h1.2 i hi)⟩
    rw [State.modPort_portAt]
    exact h1.1
  · exact h1

/-- The machine in which generator g's pulse starts: the start of a period of PG1 does nothing besides. -/
def periodBegun (s : State) (n g : Nat) : State := if g = 0 then pg0Period s n else s

theorem periodBegun_pg (s : State) (n : Nat) {g : Nat} : portPg ((periodBegun s n g).portAt n) g = portPg (s.portAt n) g := by
  unfold periodBegun
  split
  · next hg =>
    subst hg
    exact congrArg Prod.fst (pg0Period_keeps s n).1
  · rfl

theorem periodBegun_untripped {s : State} {n : Nat} (h : cfg s (pgIdx n 0) 6 0 = 0) : pgTripped (periodBegun s n 0) n 0 = false := by
  have hconf : (pg0Period s n).conf = s.conf := (pg0Period_changes s n) .conf rfl
  exact pgTripped_of_noSource (s := pg0Period s n) (by rw [cfg, hconf]; exact h)

section
variable {s : State} {n : Nat} (hn : hasPort s n)
include hn

section
variable {g : Nat} (hg : g ≤ 1)
include hg

/-! ### Starts and stops (R145) -/

theorem exec_pgStart_eq (hon : domainOn s n = true) (hmode : (s.portAt n).mode = 4) (hpg : pgMode s n g ≠ 0)
    (hrun : (portPg (s.portAt n) g).run = false) (hpads : padsHeld s n = false) :
    exec (.pgStart n g) s = .next (s.modPort n fun z => setPg z g { portPg (s.portAt n) g with
      run := true, done := 0, stopping := false, periodAt := none }) := by
  have hpg' : (pgMode s n g != 0) = true := bne_iff_ne.mpr hpg
  rw [exec_pgStart, execPgStart, withPg_of_le _ hn hg, pgStart]
  simp only [hon, hmode, hpg', hrun, hpads, beq_self_eq_true, Bool.not_false, Bool.and_self, given_true]

theorem exec_pgStop_eq (hrun : (portPg (s.portAt n) g).run = true) :
    exec (.pgStop n g) s = .next (s.modPort n fun z => setPg z g (if (portPg (s.portAt n) g).out then
      { portPg (s.portAt n) g with stopping := true } else { portPg (s.portAt n) g with run := false })) := by
  rw [exec_pgStop, execPgStop, withPg_of_le _ hn hg, pgStop]
  simp only [hrun, given_true]

/-! ### The end of a pulse (R145, R146) -/

theorem exec_pgPulseEnd_eq (hout : (portPg (s.portAt n) g).out = true) (hover : pulseOver s n g = true) :
    exec (.pgPulseEnd n g) s = .next (s.modPort n fun z => setPg z g (pgOver s n g (portPg (s.portAt n) g))) := by
  rw [exec_pgPulseEnd, execPgPulseEnd, withPg_of_le _ hn hg, hout, hover, Bool.and_self,
    given_true]
  exact congrArg _ (State.modPort_congr rfl)

section
variable (hout : (portPg (s.portAt n) g).out = true) (htrip : pgTripped s n g = true)
include hout htrip

theorem exec_pgTrip_truncate (hact : pgAct s n g = 1) :
    exec (.pgTrip n g) s = .next (s.modPort n fun z => setPg z g { pgOver s n g (portPg (s.portAt n) g) with
      trunc := if (portPg (s.portAt n) g).trunc = 255 then 255 else (portPg (s.portAt n) g).trunc + 1 }) := by
  rw [exec_pgTrip, execPgTrip, withPg_of_le _ hn hg, hout, htrip, hact]
  rfl

theorem exec_pgTrip_shutdown (hact : pgAct s n g = 2) : exec (.pgTrip n g) s =
    .next (s.modPort n fun z => setPg z g { pgOver s n g (portPg (s.portAt n) g) with held := true }) := by
  rw [exec_pgTrip, execPgTrip, withPg_of_le _ hn hg, hout, htrip, hact]
  rfl

end

theorem exec_pgHeldClear_eq (hon : domainOn s n = true) :
    exec (.pgHeldClear n g) s = .next (s.modPort n fun z => setPg z g { portPg (s.portAt n) g with held := false }) := by
  rw [exec_pgHeldClear, execPgHeldClear, withPg_of_le _ hn hg, hon, given_true, pgHeldClear]
  exact congrArg _ (State.modPort_congr rfl)

/-! ### The start of a period, by what its generator becomes -/

section
variable (hrun : (portPg (s.portAt n) g).run = true) (hout : (portPg (s.portAt n) g).out = false)
  (hdue : nextPeriod s n g ≤ s.ticks)
include hrun hout hdue

theorem exec_pgPeriodStart_eq : exec (.pgPeriodStart n g) s = .next ((periodBegun s n g).modPort n fun z => setPg z g
    (((portPg (s.portAt n) g).periodFrom (nextPeriod s n g)).atPeriod
      (pgTripped (periodBegun s n g) n g && pgAct (periodBegun s n g) n g != 0) (cfg s (pgIdx n g) 8 0 != 1)
      (pgAct (periodBegun s n g) n g) s.nowStamp)) := by
  rw [exec_pgPeriodStart, execPgPeriodStart, withPg_of_le _ hn hg, hrun, hout, decide_eq_true hdue, ← periodBegun_pg s n]
  rfl

theorem exec_pgPeriodStart_starts (hheld : (portPg (s.portAt n) g).held = false)
    (htrip : pgTripped (periodBegun s n g) n g = false) :
    exec (.pgPeriodStart n g) s = .next ((periodBegun s n g).modPort n fun z => setPg z g
      (((portPg (s.portAt n) g).periodFrom (nextPeriod s n g)).started s.nowStamp)) := by
  rw [exec_pgPeriodStart_eq hn hg hrun hout hdue, htrip, Bool.false_and, atPeriod_started _ _ _ _ hheld]

theorem exec_pgPeriodStart_held (hheld : (portPg (s.portAt n) g).held = true) (hclear : cfg s (pgIdx n g) 8 0 ≠ 1) :
    exec (.pgPeriodStart n g) s = .next ((periodBegun s n g).modPort n fun z => setPg z g
      ((portPg (s.portAt n) g).periodFrom (nextPeriod s n g))) := by
  rw [exec_pgPeriodStart_eq hn hg hrun hout hdue, bne_iff_ne.mpr hclear, atPeriod_held _ _ _ _ hheld]

end

end

end

/-! ### The statement -/

/-- Settles O20: each command by what its generator becomes, and a period of PG0 by what its latches and ramp leave. -/
theorem pulseGeneratorsRunStopAndTrip : Obligations.PulseGeneratorsRunStopAndTrip := by
  intro s n g hn hg
  rw [pgIdx_eq]
  intro x p idx mode puts last due started lapsed ended
  refine ⟨fun hon hmode hpg hrun hpads => exec_pgStart_eq hn hg hon hmode hpg hrun hpads, exec_pgStop_eq hn hg, ?_, ?_, ?_,
    fun hout hlapsed => ?_, exec_pgTrip_truncate hn hg, exec_pgTrip_shutdown hn hg, exec_pgHeldClear_eq hn hg⟩
  · rintro rfl hrun hout hheld htrip hdue
    exact exec_pgPeriodStart_starts hn hg hrun hout hdue hheld htrip
  · rintro rfl hrun hout hheld hclear hdue
    exact exec_pgPeriodStart_held hn hg hrun hout hdue hheld hclear
  · rintro rfl hrun hout hheld hsource hdue
    obtain ⟨hmine, hothers⟩ := pg0Period_keeps s n
    refine ⟨_, exec_pgPeriodStart_starts hn hg hrun hout hdue hheld (periodBegun_untripped hsource), ?_, ?_, fun i hi => ?_⟩
    · rw [State.modPort_portAt]
      rfl
    · rw [State.modPort_portAt]
      exact congrArg Prod.snd hmine
    · rw [State.modPort_portAt_other _ _ _ _ hi]
      exact hothers i hi
  · refine exec_pgPulseEnd_eq hn hg hout ?_
    rw [pulseOver, Option.all_eq_true]
    exact fun a ha => decide_eq_true (hlapsed a ha)

end Sys2Proof.Machine
end

section
/-! PROOF. How results reach scratch as an operation ends: the layer of O18. -/

namespace Sys2Proof.Machine

/-! ### What leads up to the end of an operation (R85, R153) -/

theorem ScratchSound.engAt {s : State} (h : ScratchSound s) (e : Nat) : Memory.wf (s.engAt e).scratch = true :=
  Regular.engAt (s := { s with time := {} }) ⟨h, .reset⟩ e

/-- From s to t every scratch memory stays. -/
def KeepsScratch (s t : State) : Prop := ∀ e, (t.engAt e).scratch = (s.engAt e).scratch

theorem KeepsScratch.of_engine {s t : State} (h : t.engine = s.engine) : KeepsScratch s t := fun e => by rw [engAt_of_engine h]

theorem KeepsScratch.trans {s t u : State} (h : KeepsScratch s t) (k : KeepsScratch t u) : KeepsScratch s u :=
  fun e => (k e).trans (h e)

theorem modCtx_keepsScratch (s : State) (e c : Nat) (g : Ctx → Ctx) : KeepsScratch s (s.modCtx e c g) := by
  obtain ⟨hother, hmine, -⟩ := modCtx_only s e c g
  intro j
  by_cases hj : j = e
  · rw [hj, hmine]
  · rw [hother j hj]

theorem completeOp_keepsScratch {s : State} {n k : Nat} (status count : Nat) (hport : (slotOf s n k).port = n) :
    KeepsScratch s (completeOp s (n / 12) k status count) := by
  have hreleased : KeepsScratch s (opReleased s n k status count) := by
    unfold opReleased
    split
    · exact modCtx_keepsScratch ((opReported s n k status count).modSlot (n / 12) k _) _ _ _
    · exact modCtx_keepsScratch (opReported s n k status count) _ _ _
  rw [completeOp_eq status count hport]
  exact hreleased.trans (.of_engine ((enterIdleMode_changes _ n) .engine rfl))

/-- A slot but for what the results of its operation set: the flags of the samples and the stamp. -/
def Slot.besideResults (y : Slot) : Slot := { y with patched := false, rangeF := false, stamped := false, stamp := 0 }

/-- The queue of a port and the counts of its operations. -/
def Port.operations (x : Port) : List Nat × BitVec 16 × Nat := (x.queue, x.opCount, x.failed)

/-- From s to t the operation in slot k of port n is still to end: the slot stays but for its results, and the port's queue and
counts. -/
structure OpPending (s t : State) (n k : Nat) : Prop where
  slot : (slotOf t n k).besideResults = (slotOf s n k).besideResults
  port : (t.portAt n).operations = (s.portAt n).operations

namespace OpPending

variable {s t u : State} {n k : Nat}

theorem trans (h : OpPending s t n k) (g : OpPending t u n k) : OpPending s u n k :=
  ⟨g.slot.trans h.slot, g.port.trans h.port⟩

theorem of_changes {l : List Piece} (h : Changes l s t) (hl : (l.contains .die || l.contains .port) = false) :
    OpPending s t n k := by
  obtain ⟨hdie, hport⟩ := Bool.or_eq_false_iff.mp hl
  exact ⟨by rw [slotOf, dieAt_of_die (h .die hdie), slotOf], by rw [portAt_of_port (h .port hport)]⟩

theorem modSlot (s : State) (n k : Nat) {g : Slot → Slot} (hg : ∀ y, (g y).besideResults = y.besideResults) :
    OpPending s (s.modSlot (n / 12) k g) n k :=
  ⟨by rw [modSlot_slotOf, hg], rfl⟩

variable (h : OpPending s u n k)
include h

theorem slotPort (hport : (slotOf s n k).port = n) : (slotOf u n k).port = n := (congrArg Slot.port h.slot :).trans hport

theorem orphan : (slotOf u n k).orphan = (slotOf s n k).orphan := (congrArg Slot.orphan h.slot :)

theorem completes (status count : Nat) (hport : (slotOf s n k).port = n) :
    OpCompleted s (completeOp u (n / 12) k status count) n k status count := by
  have hgen : (slotOf u n k).gen = (slotOf s n k).gen := (congrArg Slot.gen h.slot :)
  obtain ⟨hqueue, hcount, hfailed⟩ : (u.portAt n).queue = (s.portAt n).queue ∧ (u.portAt n).opCount = (s.portAt n).opCount ∧
      (u.portAt n).failed = (s.portAt n).failed := by simpa [Port.operations] using h.port
  have hdone := completeOp_completed status count (h.slotPort hport)
  rw [OpCompleted, hgen, hqueue, hcount, hfailed, h.orphan] at hdone
  exact hdone

end OpPending

/-! ### Results that reach scratch as an operation completes (R127, R153) -/

/-- The machine once the operation in slot k has its results in scratch and is complete with status OK. -/
def opDelivered (s : State) (n k a : Nat) (bs : List Byte) (count : Nat) : State :=
  completeOp (resultBytes s (n / 12) k a bs) (n / 12) k 0 count

/-- From s to t the operation in slot k completes OK, and its results stand in the scratch of its engine unless its context has
ended. -/
structure Delivered (s t : State) (n k a : Nat) (bs : List Byte) (count : Nat) : Prop where
  completed : OpCompleted s t n k 0 count
  took : (slotOf s n k).orphan = false → ScratchTook s t (slotOf s n k).engine a bs
  orphaned : (slotOf s n k).orphan = true → KeepsScratch s t

theorem resultBytes_of_orphan {s : State} {n k : Nat} (a : Nat) (bs : List Byte) (h : (slotOf s n k).orphan = true) :
    resultBytes s (n / 12) k a bs = s := if_pos h

theorem resultBytes_took {s : State} {n k : Nat} (a : Nat) (bs : List Byte) (hs : ScratchSound s)
    (h : (slotOf s n k).orphan = false) : ScratchTook s (resultBytes s (n / 12) k a bs) (slotOf s n k).engine a bs := by
  have heq : resultBytes s (n / 12) k a bs = writeScratch s (slotOf s n k).engine a bs := if_neg (ne_true_of_eq_false h)
  intro b
  rw [heq, writeScratch, State.modEng_engAt]
  exact Memory.read_writeBytes a b bs (hs.engAt _)

theorem resultBytes_pending (s : State) (n k a : Nat) (bs : List Byte) : OpPending s (resultBytes s (n / 12) k a bs) n k :=
  .of_changes (resultBytes_changes _ _ _ _ _) rfl

section
variable {s u : State} {n k : Nat} (a : Nat) (bs : List Byte) (count : Nat) (h : OpPending s u n k)
  (hport : (slotOf s n k).port = n)
include h hport

theorem opDelivered_delivered (hs : ScratchSound s) (heng : u.engine = s.engine) :
    Delivered s (opDelivered u n k a bs count) n k a bs count := by
  have hall := h.trans (resultBytes_pending u n k a bs)
  have hkeeps := completeOp_keepsScratch 0 count (hall.slotPort hport)
  have hsound : ScratchSound u := by rw [ScratchSound, heng]; exact hs
  have hengine : (slotOf u n k).engine = (slotOf s n k).engine := (congrArg Slot.engine h.slot :)
  refine ⟨hall.completes 0 count hport, fun horphan b => ?_, fun horphan => ?_⟩
  · have htook := resultBytes_took a bs hsound (h.orphan.trans horphan) b
    rw [hengine, engAt_of_engine heng] at htook
    rw [opDelivered, hkeeps, htook]
  · rw [resultBytes_of_orphan a bs (h.orphan.trans horphan)] at hkeeps
    rw [opDelivered, resultBytes_of_orphan a bs (h.orphan.trans horphan)]
    exact (KeepsScratch.of_engine heng).trans hkeeps

theorem opDelivered_portAt_other {j : Nat} (hj : j ≠ n) : (opDelivered u n k a bs count).portAt j = u.portAt j := by
  rw [opDelivered, completeOp_portAt_other 0 count ((h.trans (resultBytes_pending u n k a bs)).slotPort hport) hj]
  exact portAt_of_port ((resultBytes_changes _ _ _ _ _) .port rfl) j

theorem opDelivered_slotOf (horphan : (slotOf s n k).orphan = false) : slotOf (opDelivered u n k a bs count) n k =
    { slotOf u n k with state := 4, status := 0, count := count } := by
  have hall := h.trans (resultBytes_pending u n k a bs)
  have hslot : slotOf (resultBytes u (n / 12) k a bs) n k = slotOf u n k := by
    rw [slotOf, dieAt_of_die ((resultBytes_changes _ _ _ _ _) .die rfl), slotOf]
  rw [opDelivered, completeOp_slotOf 0 count (hall.slotPort hport), opReleased_slotOf, hall.orphan, horphan, hslot]
  rfl

end

/-! ### An emitter that has stopped (R78, R79) -/

/-- Port n's emitter sinks nothing and holds no governor slot. -/
structure EmitterFree (s : State) (n : Nat) : Prop where
  sink : (s.portAt n).emSink = false
  held : n ∉ (s.dieAt (n / 12)).govHeld

namespace EmitterFree

variable {s t : State} {n : Nat}

theorem of_same (h : EmitterFree s n) (hport : t.port = s.port)
    (hdie : (t.dieAt (n / 12)).besideSlots = (s.dieAt (n / 12)).besideSlots) : EmitterFree t n := by
  have hheld : (t.dieAt (n / 12)).govHeld = (s.dieAt (n / 12)).govHeld := (congrArg Die.govHeld hdie :)
  exact ⟨by rw [portAt_of_port hport]; exact h.sink, by rw [hheld]; exact h.held⟩

theorem after_completeOp (h : EmitterFree s n) {k : Nat} (status count : Nat) (hport : (slotOf s n k).port = n) :
    EmitterFree (completeOp s (n / 12) k status count) n := by
  have hdie := opReleased_besideSlots s n k status count (n / 12)
  rw [← completeOp_dieAt status count hport] at hdie
  have hheld : ((completeOp s (n / 12) k status count).dieAt (n / 12)).govHeld = (s.dieAt (n / 12)).govHeld :=
    (congrArg Die.govHeld hdie :)
  exact ⟨completeOp_emSink status count hport h.sink, by rw [hheld]; exact h.held⟩

end EmitterFree

theorem opDelivered_emitterFree {s : State} {n k : Nat} (h : EmitterFree s n) (a : Nat) (bs : List Byte) (count : Nat)
    (hport : (slotOf s n k).port = n) : EmitterFree (opDelivered s n k a bs count) n := by
  have hchanges := resultBytes_changes s (n / 12) k a bs
  refine EmitterFree.after_completeOp (h.of_same (hchanges .port rfl) ?_) 0 count ((resultBytes_pending s n k a bs).slotPort hport)
  rw [dieAt_of_die (hchanges .die rfl)]

end Sys2Proof.Machine
end

section
/-! PROOF. O18: conversions, and the ends of the analogue operations. -/

namespace Sys2Proof.Machine

/-! ### Sample words (R123) -/

theorem b2n_le_one (b : Bool) : b2n b ≤ 1 := by cases b <;> decide

theorem b2n_beq_one (b : Bool) : (b2n b == 1) = b := by cases b <;> rfl

theorem ofInt_lt (w : Nat) (i : Int) : ofInt w i < 2 ^ w := by
  have hpos : (0 : Int) < (2 ^ w : Nat) := by exact_mod_cast Nat.two_pow_pos w
  have hlt := Int.emod_lt_of_pos i hpos
  have hnonneg := Int.emod_nonneg i hpos.ne'
  unfold ofInt
  omega

theorem ofInt_natCast {w n : Nat} (h : n < 2 ^ w) : ofInt w (n : Int) = n := by
  rw [ofInt, ← Int.natCast_mod, Int.toNat_natCast, Nat.mod_eq_of_lt h]

/-- A sample word of a whole conversion is its fields side by side. -/
theorem sampleWord_toNat (v : Int) (clip range : Bool) :
    (sampleWord v clip range false false false).toNat = ofInt 27 v + b2n clip * 2 ^ 27 + b2n range * 2 ^ 28 := by
  have hv := ofInt_lt 27 v
  have hclip := b2n_le_one clip
  have hrange := b2n_le_one range
  have hoff : b2n false = 0 := rfl
  rw [sampleWord, hoff, BitVec.toNat_ofNat, Nat.mod_eq_of_lt (by omega)]
  omega

theorem sampleWord_value {v : Int} (clip range : Bool) (hlo : -(2 ^ 26) ≤ v) (hhi : v < 2 ^ 26) :
    ((sampleWord v clip range false false false).extractLsb' 0 27).toInt = v := by
  have hv := ofInt_lt 27 v
  have hmod : ((ofInt 27 v : Nat) : Int) = v % 2 ^ 27 := Int.toNat_of_nonneg (Int.emod_nonneg _ (by decide))
  have hlow : ((sampleWord v clip range false false false).extractLsb' 0 27).toNat = ofInt 27 v := by
    rw [BitVec.extractLsb'_toNat, Nat.shiftRight_zero, sampleWord_toNat]
    omega
  rw [BitVec.toInt, hlow]
  split <;> omega

section
variable (v : Int) (clip range : Bool)

theorem sampleWord_clip : (sampleWord v clip range false false false).getLsbD 27 = clip := by
  have hv := ofInt_lt 27 v
  have hclip := b2n_le_one clip
  have hbit : (ofInt 27 v + b2n clip * 2 ^ 27 + b2n range * 2 ^ 28) / 2 ^ 27 % 2 = b2n clip := by omega
  rw [BitVec.getLsbD, ← bitOf_eq_testBit, bitOf, sampleWord_toNat, hbit, b2n_beq_one]

theorem sampleWord_range : (sampleWord v clip range false false false).getLsbD 28 = range := by
  have hv := ofInt_lt 27 v
  have hclip := b2n_le_one clip
  have hrange := b2n_le_one range
  have hbit : (ofInt 27 v + b2n clip * 2 ^ 27 + b2n range * 2 ^ 28) / 2 ^ 28 % 2 = b2n range := by omega
  rw [BitVec.getLsbD, ← bitOf_eq_testBit, bitOf, sampleWord_toNat, hbit, b2n_beq_one]

/-- PATCHED, UNSETTLED and CHIP are clear. -/
theorem sampleWord_flags : (sampleWord v clip range false false false).extractLsb' 29 3 = 0 := by
  have hv := ofInt_lt 27 v
  have hclip := b2n_le_one clip
  have hrange := b2n_le_one range
  have hlt : ofInt 27 v + b2n clip * 2 ^ 27 + b2n range * 2 ^ 28 < 2 ^ 29 := by omega
  refine BitVec.eq_of_toNat_eq ?_
  rw [BitVec.extractLsb'_toNat, sampleWord_toNat, Nat.shiftRight_eq_div_pow, Nat.div_eq_of_lt hlt]
  rfl

end

/-! ### A conversion without auto-ranging (R122, R123, R127) -/

/-- Auto-ranging is off while its setting is 0 (R128). -/
theorem arOn_of_zero {s : State} {n : Nat} (h : cfg s (afeIdx n) 3 0 = 0) : arOn s n = false := by
  rw [arOn, h]
  rfl

/-- A port with the hold of a conversion and the input it converts. -/
def Port.held (x : Port) (hold : Stamp) (input : Nat) : Port := { x with lastHold := hold, convInput := input }

/-- A port with one sample more, the first at its range no longer new. -/
def Port.sampled (x : Port) (inp : Nat) (w : Word) (raw : Int) : Port :=
  { x with
    samples := x.samples ++ [{ word := w, raw := raw }], patchNext := false, stepped := false
    newRange := tput x.newRange inp false }

@[simp] theorem held_samples (x : Port) (hold : Stamp) (input : Nat) : (x.held hold input).samples = x.samples := rfl
@[simp] theorem held_queue (x : Port) (hold : Stamp) (input : Nat) : (x.held hold input).queue = x.queue := rfl
@[simp] theorem sampled_samples (x : Port) (inp : Nat) (w : Word) (raw : Int) :
    (x.sampled inp w raw).samples = x.samples ++ [{ word := w, raw := raw }] := rfl
@[simp] theorem sampled_queue (x : Port) (inp : Nat) (w : Word) (raw : Int) : (x.sampled inp w raw).queue = x.queue := rfl

theorem convert_inside {s : State} {n r : Nat} {raw : Int} (hlo : -(2 ^ 26) ≤ sampleValue (s.portAt n) r raw)
    (hhi : sampleValue (s.portAt n) r raw < 2 ^ 26) : convert s n r raw false = (sampleValue (s.portAt n) r raw, s) := by
  have hin : (false || decide (sampleValue (s.portAt n) r raw < -(2 ^ 26)) ||
      decide (2 ^ 26 ≤ sampleValue (s.portAt n) r raw)) = false := by
    rw [decide_eq_false (Int.not_lt.mpr hlo), decide_eq_false (Int.not_le.mpr hhi)]
    rfl
  unfold convert
  dsimp only
  rw [hin]
  rfl

/-- The sample word that a port's conversion delivers. -/
def deliveredWord (s : State) (n inp : Nat) (raw : Int) : Word :=
  sampleWord (sampleValue (s.portAt n) (rangeOf s n inp) raw) (raw == 32767 || raw == -32768) (tget false (s.portAt n).newRange inp)
    false false false

theorem applyRange_off {s : State} {n : Nat} (inp : Nat) (raw : Int) (clip : Bool) (h : arOn s n = false) :
    applyRange s n inp raw clip = s := by
  rw [applyRange, h, if_neg Bool.false_ne_true]

/-- The machine with the hold of a conversion at its port. -/
def conversionHeld (s : State) (n : Nat) (hold : Stamp) (input : Nat) : State := s.modPort n (·.held hold input)

theorem sampleValue_held (x : Port) (hold : Stamp) (input r : Nat) (raw : Int) :
    sampleValue (x.held hold input) r raw = sampleValue x r raw := rfl

theorem rangeOf_held (s : State) (n : Nat) (hold : Stamp) (input inp : Nat) :
    rangeOf (conversionHeld s n hold input) n inp = rangeOf s n inp := by
  rw [rangeOf, conversionHeld, State.modPort_portAt]
  rfl

theorem convSample_plain {s : State} {n : Nat} {raw : Int} {d0 : Word} {inp : Nat} (hold : Stamp)
    (hinp : inputKey s n (anaInput d0) = inp) (har : arOn s n = false)
    (hstep : (s.portAt n).stepped = false) (hpatch : (s.portAt n).patchNext = false)
    (hlo : -(2 ^ 26) ≤ sampleValue (s.portAt n) (rangeOf s n inp) raw)
    (hhi : sampleValue (s.portAt n) (rangeOf s n inp) raw < 2 ^ 26) :
    convSample (conversionHeld s n hold (anaInput d0)) n d0 raw false =
      (conversionHeld s n hold (anaInput d0)).modPort n (·.sampled inp (deliveredWord s n inp raw) raw) := by
  have hport : (conversionHeld s n hold (anaInput d0)).portAt n = (s.portAt n).held hold (anaInput d0) := State.modPort_portAt _ _ _
  have hkey : inputKey (conversionHeld s n hold (anaInput d0)) n (anaInput d0) = inp := hinp
  have hvalue : convert (conversionHeld s n hold (anaInput d0)) n (rangeOf s n inp) raw false =
      (sampleValue (s.portAt n) (rangeOf s n inp) raw, conversionHeld s n hold (anaInput d0)) := by
    rw [convert_inside, hport, sampleValue_held]
    · rwa [hport, sampleValue_held]
    · rwa [hport, sampleValue_held]
  have hstep' : ((s.portAt n).held hold (anaInput d0)).stepped = false := hstep
  have hpatch' : ((s.portAt n).held hold (anaInput d0)).patchNext = false := hpatch
  unfold convSample
  simp only [hkey, rangeOf_held, hvalue, hport, hstep', Bool.false_and, Bool.false_eq_true, if_false]
  rw [applyRange_off _ _ _ (by exact har)]
  refine State.modPort_congr ?_
  rw [hport]
  simp only [hpatch', Bool.false_eq_true, if_false]
  rfl

theorem exec_adcConversionDone_out {s : State} {n : Nat} {raw : Int} (out : Bool) (lag bins : Nat)
    (h : raw < -32768 ∨ 32767 < raw) : exec (.adcConversionDone n raw out lag bins) s = .fault (.noSuchOperand "raw code") := by
  rw [exec_adcConversionDone, execAdcConversionDone, if_pos h]

theorem exec_adcConversionDone_eq {s : State} {n k : Nat} {raw : Int} (out : Bool) (lag bins : Nat) (hn : hasPort s n)
    (h : HeadOp s n k 3 3) (hkind : anaKind (slotOf s n k).d0 = 0) (hlo : -32768 ≤ raw) (hhi : raw ≤ 32767)
    (hpatch : (s.portAt n).patchNext = false) (hroom : (s.portAt n).samples.length < anaCount (slotOf s n k).d0) :
    exec (.adcConversionDone n raw out lag bins) s = .next (convSample
      (conversionHeld s n (captureBack s n 5 lag bins) (anaInput (slotOf s n k).d0)) n (slotOf s n k).d0 raw out) := by
  have hin : ¬(raw < -32768 ∨ 32767 < raw) := not_or.mpr ⟨Int.not_lt.mpr hlo, Int.not_lt.mpr hhi⟩
  have hslot : (s.dieAt (portDie n)).slotAt k = slotOf s n k := rfl
  have hextra : extraSample (s.portAt n) (slotOf s n k).d0 = false := by rw [extraSample, hpatch, Bool.false_and]
  rw [exec_adcConversionDone, execAdcConversionDone, if_neg hin, withPort_of_hasPort _ hn, activeOp_of_headOp h]
  simp only [hslot, hkind, hextra, Bool.false_eq_true, if_false, decide_eq_true hroom, given_true]
  rfl

theorem adcConversionDone_effect {s : State} {n k inp : Nat} {raw : Int} (lag bins : Nat) (hn : hasPort s n)
    (h : HeadOp s n k 3 3) (hkind : anaKind (slotOf s n k).d0 = 0) (hlo : -32768 ≤ raw) (hhi : raw ≤ 32767)
    (har : arOn s n = false) (hinp : inputKey s n (anaInput (slotOf s n k).d0) = inp)
    (hstep : (s.portAt n).stepped = false) (hpatch : (s.portAt n).patchNext = false)
    (hroom : (s.portAt n).samples.length < anaCount (slotOf s n k).d0)
    (hvlo : -(2 ^ 26) ≤ sampleValue (s.portAt n) (rangeOf s n inp) raw)
    (hvhi : sampleValue (s.portAt n) (rangeOf s n inp) raw < 2 ^ 26) :
    ∃ t, exec (.adcConversionDone n raw false lag bins) s = .next t ∧
      (t.portAt n).samples = (s.portAt n).samples ++ [{ word := deliveredWord s n inp raw, raw := raw }] ∧
      (t.portAt n).queue = (s.portAt n).queue ∧ PortOnly [.port] s t n := by
  have hexec := exec_adcConversionDone_eq false lag bins hn h hkind hlo hhi hpatch hroom
  rw [convSample_plain _ hinp har hstep hpatch hvlo hvhi] at hexec
  refine ⟨_, hexec, ?_, ?_, (modPort_portOnly s n _).trans (modPort_portOnly _ n _)⟩
  · rw [State.modPort_portAt, sampled_samples, conversionHeld, State.modPort_portAt, held_samples]
  · rw [State.modPort_portAt, sampled_queue, conversionHeld, State.modPort_portAt, held_queue]

theorem deliveredWord_fields {s : State} {n inp : Nat} {raw : Int}
    (hvlo : -(2 ^ 26) ≤ sampleValue (s.portAt n) (rangeOf s n inp) raw)
    (hvhi : sampleValue (s.portAt n) (rangeOf s n inp) raw < 2 ^ 26) :
    let w := deliveredWord s n inp raw
    (w.extractLsb' 0 27).toInt = sampleValue (s.portAt n) (rangeOf s n inp) raw ∧
      w.getLsbD 27 = decide (raw = 32767 ∨ raw = -32768) ∧ w.getLsbD 28 = tget false (s.portAt n).newRange inp ∧
        w.extractLsb' 29 3 = 0 := by
  refine ⟨sampleWord_value _ _ hvlo hvhi, ?_, sampleWord_range _ _ _, sampleWord_flags _ _ _⟩
  rw [deliveredWord, sampleWord_clip, Bool.decide_or]
  rfl

/-! ### ANA_OPERATION_DONE (R127) -/

/-- The two words of LASTSTAMP: the last hold, low word first. -/
def lastStampWords (x : Port) (d0 : Word) : List Word :=
  if bitOf d0.toNat 4 then [x.lastHold.extractLsb' 0 32, (x.lastHold.extractLsb' 32 20).setWidth 32] else []

theorem markSamples_pending (s : State) (n k : Nat) (ws : List Word) : OpPending s (markSamples s (n / 12) k ws) n k :=
  .modSlot s n k fun _ => rfl

@[simp] theorem markSamples_engine (s : State) (d k : Nat) (ws : List Word) : (markSamples s d k ws).engine = s.engine := rfl
@[simp] theorem markSamples_portAt (s : State) (d k j : Nat) (ws : List Word) : (markSamples s d k ws).portAt j = s.portAt j := rfl

section
variable {s : State} {n k : Nat} (hn : hasPort s n) (h : HeadOp s n k 3 3)
include hn h

theorem exec_anaOperationDone_eq (hkind : anaKind (slotOf s n k).d0 = 0)
    (hall : (s.portAt n).samples.length = anaCount (slotOf s n k).d0) (hpatch : (s.portAt n).patchNext = false) :
    exec (.anaOperationDone n) s = .next (opDelivered (markSamples s (n / 12) k ((s.portAt n).samples.map (·.word))) n k
      (4 * field (slotOf s n k).d1.toNat 7 0)
      (wordsBytes ((s.portAt n).samples.map (·.word) ++ lastStampWords (s.portAt n) (slotOf s n k).d0))
      (s.portAt n).samples.length) := by
  have hslot : (s.dieAt (portDie n)).slotAt k = slotOf s n k := rfl
  rw [exec_anaOperationDone, execAnaOperationDone, withPort_of_hasPort _ hn, activeOp_of_headOp h]
  simp only [hslot, hkind, hall, hpatch, beq_self_eq_true, Bool.not_false, Bool.and_self, given_true, List.length_map,
    Nat.mul_comm _ 4]
  rfl

theorem anaOperationDone_effect (hs : ScratchSound s) (hkind : anaKind (slotOf s n k).d0 = 0)
    (hall : (s.portAt n).samples.length = anaCount (slotOf s n k).d0) (hpatch : (s.portAt n).patchNext = false) :
    ∃ t, exec (.anaOperationDone n) s = .next t ∧ Delivered s t n k (4 * field (slotOf s n k).d1.toNat 7 0)
      (wordsBytes ((s.portAt n).samples.map (·.word) ++ lastStampWords (s.portAt n) (slotOf s n k).d0))
      (s.portAt n).samples.length ∧ PortOnly [.die, .port, .engine] s t n := by
  obtain ⟨-, -, -, hport⟩ := id h
  have hexec := exec_anaOperationDone_eq hn h hkind hall hpatch
  have hpending := markSamples_pending s n k ((s.portAt n).samples.map (·.word))
  refine ⟨_, hexec, opDelivered_delivered _ _ _ hpending hport hs (markSamples_engine _ _ _ _), fun j hj => ?_,
    execAnaOperationDone_changes n s _ hexec⟩
  rw [opDelivered_portAt_other _ _ _ hpending hport hj, markSamples_portAt]

/-! ### SINGLE_SLOPE_END (R138) -/

/-- The machine once the single-slope operation has its stamp. -/
def slopeStamped (s : State) (n k : Nat) (st : Stamp) : State :=
  s.modSlot (n / 12) k fun z => { z with stamped := true, stamp := st }

/-- The stamp of a single-slope conversion: that of its edge, else of its end. -/
def slopeStamp (s : State) (n : Nat) (edge : Bool) : Stamp :=
  if edge then (s.portAt n).rampStamp
  else captureBack s n 6 (s.ticks - (s.portAt n).rampAt - rampEndAt s n / 16) (rampEndAt s n % 16)

/-- Whether a port's ramp stands still. -/
def rampStill (s : State) (n : Nat) : Bool := decide (sgn 16 (cfg s (portIdx n 12) 2 0) = 0)

theorem exec_singleSlopeEnd_eq {v : Nat} {edge : Bool} (hkind : anaKind (slotOf s n k).d0 = 2)
    (hedge : ((s.portAt n).rampEdge.filter fun u => decide (u ≤ rampEndAt s n)) = if edge then some v else none)
    (hend : edge = false → v = rampEndAt s n ∧ rampEndAt s n ≤ 16 * (s.ticks - (s.portAt n).rampAt)) :
    exec (.singleSlopeEnd n v (!edge && !rampStill s n) (!edge && rampStill s n)) s =
      .next (opDelivered (slopeStamped s n k (slopeStamp s n edge)) n k (4 * field (slotOf s n k).d1.toNat 7 0)
        (wordsBytes [sampleWord (v : Nat) (!edge) false false false false]) 1) := by
  have hslot : (s.dieAt (portDie n)).slotAt k = slotOf s n k := rfl
  have hstill : (sgn 16 (cfg s (portIdx n 12) 2 0) == 0) = rampStill s n := rfl
  rw [exec_singleSlopeEnd, execSingleSlopeEnd, withPort_of_hasPort _ hn, activeOp_of_headOp h]
  simp only [hslot, hkind, hedge, hstill, Nat.mul_comm _ 4]
  cases edge
  · obtain ⟨rfl, hdue⟩ := hend rfl
    simp only [Nat.mul_comm _ 16, decide_eq_true hdue, Bool.not_false, Bool.true_and, Bool.false_eq_true, if_false,
      Option.isSome_none, Option.isNone_none, Option.getD_none, Bool.false_or, beq_self_eq_true, given_true]
    rfl
  · simp only [Bool.not_true, Bool.false_and, if_true, Option.isSome_some, Option.isNone_some, Option.getD_some, Bool.true_or,
      beq_self_eq_true, Bool.and_self, given_true]
    rfl

theorem singleSlopeEnd_effect {v : Nat} {edge : Bool} (hs : ScratchSound s) (hkind : anaKind (slotOf s n k).d0 = 2)
    (hedge : ((s.portAt n).rampEdge.filter fun u => decide (u ≤ rampEndAt s n)) = if edge then some v else none)
    (hend : edge = false → v = rampEndAt s n ∧ rampEndAt s n ≤ 16 * (s.ticks - (s.portAt n).rampAt)) :
    ∃ t, exec (.singleSlopeEnd n v (!edge && !rampStill s n) (!edge && rampStill s n)) s = .next t ∧
      Delivered s t n k (4 * field (slotOf s n k).d1.toNat 7 0)
        (wordsBytes [sampleWord (v : Nat) (!edge) false false false false]) 1 ∧
      ((slotOf s n k).orphan = false → (slotOf t n k).stamped = true ∧ (slotOf t n k).stamp = slopeStamp s n edge) ∧
      PortOnly [.die, .port, .engine] s t n := by
  obtain ⟨-, -, -, hport⟩ := id h
  have hexec := exec_singleSlopeEnd_eq hn h hkind hedge hend
  have hpending : OpPending s (slopeStamped s n k (slopeStamp s n edge)) n k := .modSlot s n k fun _ => rfl
  refine ⟨_, hexec, opDelivered_delivered _ _ _ hpending hport hs rfl, fun horphan => ?_,
    fun _ hj => opDelivered_portAt_other _ _ _ hpending hport hj, execSingleSlopeEnd_changes n v _ _ s _ hexec⟩
  rw [opDelivered_slotOf _ _ _ hpending hport horphan, slopeStamped, modSlot_slotOf]
  exact ⟨rfl, rfl⟩

end

/-- VALUE of a single-slope conversion with its flag CLIP, as the bytes of its word. -/
theorem slopeWord_bytes {v : Nat} (clip : Bool) (hv : v < 2 ^ 26) :
    wordsBytes [sampleWord (v : Nat) clip false false false false] = leBytes 4 (v + b2n clip * 2 ^ 27) := by
  have hvalue : ofInt 27 (v : Nat) = v := ofInt_natCast (by omega)
  have hrange : b2n false = 0 := rfl
  rw [wordsBytes, List.flatMap_singleton, sampleWord_toNat, hvalue, hrange, Nat.zero_mul, Nat.add_zero]

/-! ### CODE_BURST_DONE (R78, R148) -/

/-- A port but for what the range rules write (R128). -/
def Port.besideRange (x : Port) : Port :=
  { x with range := [], holdCnt := [], newRange := [], stepped := false, settling := false, rangeChanges := 0 }

/-- A port whose last range change no sample waits for. -/
def Port.unstepped (x : Port) : Port := { x with stepped := false }

theorem unstepped_besideRange (x : Port) : x.unstepped.besideRange = x.besideRange := rfl

theorem applyRange_portAt (s : State) (n inp : Nat) (raw : Int) (clip : Bool) :
    ((applyRange s n inp raw clip).portAt n).besideRange = (s.portAt n).besideRange := by
  unfold applyRange
  dsimp only
  split
  · split
    · rw [State.modPort_portAt]
      rfl
    · rw [State.modPort_portAt]
      rfl
  · rfl

theorem applyRange_portAt_other (s : State) {n j : Nat} (inp : Nat) (raw : Int) (clip : Bool) (hj : j ≠ n) :
    (applyRange s n inp raw clip).portAt j = s.portAt j := by
  unfold applyRange
  dsimp only
  split
  · split
    · exact State.modPort_portAt_other _ _ _ _ hj
    · exact State.modPort_portAt_other _ _ _ _ hj
  · rfl

/-- The machine once a code burst's emitter has stopped and the range rules are applied. -/
def burstStopped (s : State) (n : Nat) (isOpen noreg : Bool) (inp : Nat) (big : Int) (clip : Bool) : State :=
  (applyRange (pulseJudged s n isOpen noreg) n inp big clip).modPort n Port.unstepped

section
variable (s : State) (n : Nat) (isOpen noreg : Bool) (inp : Nat) (big : Int) (clip : Bool)

theorem burstStopped_besideRange : ((burstStopped s n isOpen noreg inp big clip).portAt n).besideRange =
    ((pulseJudged s n isOpen noreg).portAt n).besideRange := by
  rw [burstStopped, State.modPort_portAt, unstepped_besideRange, applyRange_portAt]

theorem burstStopped_dieAt (d : Nat) :
    (burstStopped s n isOpen noreg inp big clip).dieAt d = (pulseJudged s n isOpen noreg).dieAt d :=
  dieAt_of_die ((applyRange_changes (pulseJudged s n isOpen noreg) _ _ _ _) .die rfl) d

theorem burstStopped_engine : (burstStopped s n isOpen noreg inp big clip).engine = s.engine :=
  ((applyRange_changes (pulseJudged s n isOpen noreg) _ _ _ _) .engine rfl).trans ((emitterStop_changes _ _) .engine rfl)

theorem burstStopped_pending (k : Nat) : OpPending s (burstStopped s n isOpen noreg inp big clip) n k := by
  obtain ⟨a0, a1, aw, hmine⟩ := pulseJudged_portAt s n isOpen noreg
  have hport := (congrArg Port.operations (burstStopped_besideRange s n isOpen noreg inp big clip) :)
  rw [hmine] at hport
  refine ⟨?_, hport⟩
  rw [slotOf, burstStopped_dieAt]
  exact congrArg Slot.besideResults (pulseJudged_slotOf s n isOpen noreg k)

theorem burstStopped_emSink : ((burstStopped s n isOpen noreg inp big clip).portAt n).emSink = false := by
  obtain ⟨a0, a1, aw, hmine⟩ := pulseJudged_portAt s n isOpen noreg
  have hsink := (congrArg Port.emSink (burstStopped_besideRange s n isOpen noreg inp big clip) :)
  rw [hmine] at hsink
  exact hsink

theorem burstStopped_govHeld : n ∉ ((burstStopped s n isOpen noreg inp big clip).dieAt (n / 12)).govHeld := by
  rw [burstStopped_dieAt]
  exact pulseJudged_govHeld s n isOpen noreg

theorem burstStopped_portAt_other {j : Nat} (hj : j ≠ n) :
    (burstStopped s n isOpen noreg inp big clip).portAt j = s.portAt j := by
  rw [burstStopped, State.modPort_portAt_other _ _ _ _ hj, applyRange_portAt_other _ _ _ _ hj, pulseJudged,
    (emitterStop_endsAtPort _ n).others j hj, State.modPort_portAt_other _ _ _ _ hj]

end

/-- The results of a code burst: the raw sample words, or the two correlated ones, and the machine that drew them (R148). -/
def burstResults (s : State) (n : Nat) (d1 : Word) (clip range : Bool) : List Word × State :=
  let l := (s.portAt n).samples
  let on := Int.tdiv (chipSum l true) (8 * (anaSpc d1 + 1) : Nat)
  let off := Int.tdiv (chipSum l false) (8 * (anaSpc d1 + 1) : Nat)
  let w0 := burstWord s (on - off) clip range
  let w1 := burstWord w0.2 off clip range
  if bitOf d1.toNat 8 then (l.map (·.word), s) else ([w0.1, w1.1], w1.2)

theorem burstResults_changes (s : State) (n : Nat) (d1 : Word) (clip range : Bool) :
    Changes [.free] s (burstResults s n d1 clip range).2 := by
  unfold burstResults
  dsimp only
  split
  · exact .refl _ _
  · exact (burstWord_changes _ _ _ _).trans (burstWord_changes _ _ _ _)

theorem burstResults_raw (s : State) (n : Nat) {d1 : Word} (clip range : Bool) (h : bitOf d1.toNat 8 = true) :
    (burstResults s n d1 clip range).1 = (s.portAt n).samples.map (·.word) := by
  rw [burstResults, if_pos h]

theorem burstResults_length (s : State) (n : Nat) (d1 : Word) (clip range : Bool) :
    (burstResults s n d1 clip range).1.length = if bitOf d1.toNat 8 then (s.portAt n).samples.length else 2 := by
  unfold burstResults
  dsimp only
  split
  · exact List.length_map _
  · rfl

/-- Whether some sample of a port has a flag, by its bit. -/
def anySample (x : Port) (bit : Nat) : Bool := x.samples.any fun z => z.word.getLsbD bit

/-- The largest raw code of a port's samples, by its size. -/
def largestRaw (x : Port) : Int := x.samples.foldl (fun a z => if a.natAbs < z.raw.natAbs then z.raw else a) 0

/-- The machine once the code burst of a port has its results and its emitter has stopped. -/
def burstEnded (s : State) (n k : Nat) (isOpen noreg : Bool) : State :=
  let y := slotOf s n k
  let x := s.portAt n
  burstStopped (burstResults s n y.d1 (anySample x 27) (anySample x 28)).2 n isOpen noreg (inputKey s n (anaInput y.d0))
    (largestRaw x) (anySample x 27)

/-- The words that a code burst delivers. -/
def burstWords (s : State) (n k : Nat) : List Word :=
  (burstResults s n (slotOf s n k).d1 (anySample (s.portAt n) 27) (anySample (s.portAt n) 28)).1

section
variable (s : State) (n k : Nat) (isOpen noreg : Bool)

theorem burstEnded_engine : (burstEnded s n k isOpen noreg).engine = s.engine :=
  (burstStopped_engine _ _ _ _ _ _ _).trans ((burstResults_changes _ _ _ _ _) .engine rfl)

theorem burstEnded_pending : OpPending s (burstEnded s n k isOpen noreg) n k :=
  .trans (.of_changes (burstResults_changes _ _ _ _ _) rfl) (burstStopped_pending _ _ _ _ _ _ _ k)

theorem burstEnded_portAt_other {j : Nat} (hj : j ≠ n) : (burstEnded s n k isOpen noreg).portAt j = s.portAt j := by
  rw [burstEnded, burstStopped_portAt_other _ _ _ _ _ _ _ hj]
  exact portAt_of_port ((burstResults_changes _ _ _ _ _) .port rfl) j

end

theorem burstEnded_emitterFree (s : State) (n k : Nat) (isOpen noreg : Bool) : EmitterFree (burstEnded s n k isOpen noreg) n :=
  ⟨burstStopped_emSink _ _ _ _ _ _ _, burstStopped_govHeld _ _ _ _ _ _ _⟩

theorem markSamples_emitterFree {s : State} {n : Nat} (h : EmitterFree s n) (k : Nat) (ws : List Word) :
    EmitterFree (markSamples s (n / 12) k ws) n := h.of_same rfl (modSlot_besideSlots s (n / 12) k (n / 12) _)

section
variable {s : State} {n k : Nat} (hn : hasPort s n) (h : HeadOp s n k 3 3) (hkind : anaKind (slotOf s n k).d0 = 1)
  (hall : (s.portAt n).samples.length = 16 * (anaSpc (slotOf s n k).d1 + 1))
include hn h hkind hall

theorem exec_codeBurstDone_eq (isOpen noreg : Bool) : exec (.codeBurstDone n isOpen noreg) s =
    .next (if isOpen || noreg then completeOp (burstEnded s n k isOpen noreg) (n / 12) k 10 0
      else opDelivered (markSamples (burstEnded s n k isOpen noreg) (n / 12) k (burstWords s n k)) n k
        (4 * field (slotOf s n k).d1.toNat 7 0) (wordsBytes (burstWords s n k)) (burstWords s n k).length) := by
  have hslot : (s.dieAt (portDie n)).slotAt k = slotOf s n k := rfl
  rw [exec_codeBurstDone, execCodeBurstDone, withPort_of_hasPort _ hn, activeOp_of_headOp h]
  simp only [hslot, hkind, hall, beq_self_eq_true, Bool.and_self, given_true, Nat.mul_comm _ 4]
  simp only [burstEnded, burstWords, burstResults]
  cases bitOf (slotOf s n k).d1.toNat 8
  · rfl
  · rfl

/-- A code burst whose emitter failed writes nothing. -/
theorem codeBurstDone_failed {isOpen noreg : Bool} (hfailed : isOpen = true ∨ noreg = true) :
    ∃ t, exec (.codeBurstDone n isOpen noreg) s = .next t ∧ OpCompleted s t n k 10 0 ∧ EmitterFree t n ∧ KeepsScratch s t ∧
      ∀ j, j ≠ n → t.portAt j = s.portAt j := by
  obtain ⟨-, -, -, hport⟩ := id h
  have hpending := burstEnded_pending s n k isOpen noreg
  have hport' := hpending.slotPort hport
  refine ⟨_, by rw [exec_codeBurstDone_eq hn h hkind hall, if_pos (Bool.or_eq_true_iff.mpr hfailed)],
    hpending.completes 10 0 hport, (burstEnded_emitterFree s n k isOpen noreg).after_completeOp 10 0 hport',
    .trans (.of_engine (burstEnded_engine s n k isOpen noreg)) (completeOp_keepsScratch 10 0 hport'), fun j hj => ?_⟩
  rw [completeOp_portAt_other 10 0 hport' hj, burstEnded_portAt_other s n k isOpen noreg hj]

theorem codeBurstDone_delivered (hs : ScratchSound s) :
    ∃ t, exec (.codeBurstDone n false false) s = .next t ∧ Delivered s t n k (4 * field (slotOf s n k).d1.toNat 7 0)
      (wordsBytes (burstWords s n k)) (burstWords s n k).length ∧ EmitterFree t n ∧ ∀ j, j ≠ n → t.portAt j = s.portAt j := by
  obtain ⟨-, -, -, hport⟩ := id h
  have hpending := (burstEnded_pending s n k false false).trans (markSamples_pending _ n k (burstWords s n k))
  have hfree := markSamples_emitterFree (burstEnded_emitterFree s n k false false) k (burstWords s n k)
  have hexec := exec_codeBurstDone_eq hn h hkind hall false false
  rw [Bool.or_self, if_neg Bool.false_ne_true] at hexec
  refine ⟨_, hexec, opDelivered_delivered _ _ _ hpending hport hs ((markSamples_engine _ _ _ _).trans (burstEnded_engine s n k false false)),
    opDelivered_emitterFree hfree _ _ _ (hpending.slotPort hport), fun j hj => ?_⟩
  rw [opDelivered_portAt_other _ _ _ hpending hport hj, markSamples_portAt, burstEnded_portAt_other s n k false false hj]

end

/-! ### The statement -/

/-- Settles O18: a conversion by the sample it appends, and the end of each kind of operation by the results it delivers. -/
theorem conversionsAndAnalogueOperations : Obligations.ConversionsAndAnalogueOperations := by
  refine ⟨fun s n k lag bins raw hn => ?_, fun s n k hn h hs => ?_⟩
  · intro x y inp v
    refine ⟨?_, fun hout out => exec_adcConversionDone_out out lag bins hout,
      fun h hkind hlo hhi har hstep hpatch hroom hvlo hvhi => ?_⟩
    · rw [exec_rangeSettled, execRangeSettled, withPort_of_hasPort _ hn]
    · have hinp : inputKey s n (anaInput y.d0) = inp := by
        simp only [inputKey, tiaOn, beq_iff_eq]
        rfl
      have hoff : arOn s n = false := arOn_of_zero har
      obtain ⟨t, hexec, hsamples, hqueue, honly⟩ :=
        adcConversionDone_effect lag bins hn h hkind hlo hhi hoff hinp hstep hpatch hroom hvlo hvhi
      obtain ⟨hvalue, hclip, hrange, hflags⟩ := deliveredWord_fields hvlo hvhi
      exact ⟨t, _, hexec, hsamples, hvalue, hclip, hrange, hflags, hqueue, honly⟩
  · intro x y buf same
    refine ⟨fun hkind hall hpatch => ?_, fun hkind hall isOpen noreg hfailed => ?_, fun hkind hall => ?_, fun hkind => ?_⟩
    · obtain ⟨t, hexec, hdelivered, honly⟩ := anaOperationDone_effect hn h hs hkind hall hpatch
      have htook := hdelivered.took
      rw [wordsBytes, lastStampWords] at htook
      exact ⟨t, hexec, hdelivered.completed, htook, hdelivered.orphaned, honly⟩
    · obtain ⟨t, hexec, hdone, hfree, hscratch, hothers⟩ := codeBurstDone_failed hn h hkind hall hfailed
      exact ⟨t, hexec, hdone, hfree.sink, hfree.held, hscratch, hothers⟩
    · obtain ⟨t, hexec, hdelivered, hfree, hothers⟩ := codeBurstDone_delivered hn h hkind hall hs
      obtain ⟨hdone, htook, horphaned⟩ := hdelivered
      rw [burstWords, burstResults_length] at hdone
      refine ⟨t, hexec, hdone, hfree.sink, hfree.held, fun hraw horphan => ?_, horphaned, hothers⟩
      have hwords := htook horphan
      rw [burstWords, burstResults_raw s n _ _ hraw, wordsBytes, List.flatMap_map] at hwords
      exact hwords
    · intro still gives
      have hgives {v : Nat} {edge : Bool} (hv : v < 2 ^ 26)
          (hedge : (x.rampEdge.filter fun u => decide (u ≤ rampEndAt s n)) = if edge then some v else none)
          (hend : edge = false → v = rampEndAt s n ∧ rampEndAt s n ≤ 16 * (s.ticks - x.rampAt)) :
          gives v (v + b2n (!edge) * 2 ^ 27) edge := by
        obtain ⟨t, hexec, hdelivered, hstamp, honly⟩ := singleSlopeEnd_effect hn h hs hkind hedge hend
        rw [slopeWord_bytes _ hv] at hdelivered
        refine ⟨t, hexec, hdelivered.completed, fun horphan => ?_, hdelivered.orphaned, honly⟩
        obtain ⟨hstamped, hstamp⟩ := hstamp horphan
        refine ⟨hdelivered.took horphan, hstamped, ?_⟩
        rintro rfl
        exact hstamp
      refine ⟨fun u hu hle hlt => ?_, fun hnone hlt hdue => ?_, fun hzero => ?_⟩
      · refine hgives (edge := true) hlt ?_ (fun hedge => absurd hedge (by decide))
        rw [hu, Option.filter_some, decide_eq_true hle]
      · refine hgives (edge := false) hlt ?_ (fun _ => ⟨rfl, hdue⟩)
        rw [hnone]
        rfl
      · have hslope : cfg s (portIdx n 12) 2 0 = 0 := hzero
        rw [rampEndAt, hslope]
        rfl

end Sys2Proof.Machine
end

section
/-! PROOF. O58: the words of the tap engines' instructions. -/

namespace Sys2Proof

/-! ### Fields of a word (R155) -/

theorem eq_append_iff {n m : Nat} (x : BitVec (n + m)) (a : BitVec n) (b : BitVec m) :
    x = a ++ b ↔ x.extractLsb' m n = a ∧ x.extractLsb' 0 m = b := by
  constructor
  · rintro rfl
    exact ⟨BitVec.extractLsb'_append_eq_left, BitVec.extractLsb'_append_eq_right⟩
  · rintro ⟨rfl, rfl⟩
    rw [BitVec.extractLsb'_append_extractLsb'_eq_extractLsb' (by omega), BitVec.extractLsb'_eq_self]

theorem extractLsb'_extractLsb' {n : Nat} (x : BitVec n) (i j k l : Nat) (h : i + j ≤ l) :
    (x.extractLsb' k l).extractLsb' i j = x.extractLsb' (k + i) j := by
  ext q hq
  simp [show i + q < l by omega, Nat.add_assoc]

theorem fmtI_eq_iff (op : BitVec 6) (rd ra : BitVec 4) (imm : BitVec 18) (w : BitVec 32) :
    fmtI op rd ra imm = w ↔ wOp w = op ∧ wRd w = rd ∧ wRa w = ra ∧ wImm w = imm := by
  rw [fmtI, eq_comm, eq_append_iff (m := 18), eq_append_iff (m := 4), eq_append_iff (m := 4)]
  simp [extractLsb'_extractLsb', wOp, wRd, wRa, wImm, and_assoc]

theorem fmtR_eq_iff (op : BitVec 6) (rd ra rb : BitVec 4) (fn : BitVec 5) (w : BitVec 32) :
    fmtR op rd ra rb fn = w ↔ wOp w = op ∧ wRd w = rd ∧ wRa w = ra ∧ wRb w = rb ∧ wMid w = 0 ∧ wFn w = fn := by
  rw [fmtR, eq_comm, eq_append_iff (m := 5), eq_append_iff (m := 9), eq_append_iff (m := 4), eq_append_iff (m := 4),
    eq_append_iff (m := 4)]
  simp [extractLsb'_extractLsb', wOp, wRd, wRa, wRb, wMid, wFn, and_assoc]

theorem fmtJ_eq_iff (op : BitVec 6) (rd ra : BitVec 4) (tgt : BitVec 10) (w : BitVec 32) :
    fmtJ op rd ra tgt = w ↔ wOp w = op ∧ wRd w = rd ∧ wRa w = ra ∧ w.extractLsb' 10 8 = 0 ∧ wTgt w = tgt := by
  rw [fmtJ, eq_comm, eq_append_iff (m := 10), eq_append_iff (m := 8), eq_append_iff (m := 4), eq_append_iff (m := 4)]
  simp [extractLsb'_extractLsb', wOp, wRd, wRa, wTgt, and_assoc]

theorem fmtP_eq_iff (op : BitVec 6) (rd rh ra : BitVec 4) (doff : BitVec 8) (w : BitVec 32) :
    fmtP op rd rh ra doff = w ↔ wOp w = op ∧ wRd w = rd ∧ wRa w = rh ∧ wRb w = ra ∧ wDoff w = doff ∧ w.extractLsb' 0 6 = 0 := by
  rw [fmtP, eq_comm, eq_append_iff (m := 6), eq_append_iff (m := 8), eq_append_iff (m := 4), eq_append_iff (m := 4),
    eq_append_iff (m := 4)]
  simp [extractLsb'_extractLsb', wOp, wRd, wRa, wRb, wDoff, and_assoc]

/-! ### Fields that are zero together -/

theorem extractLsb'_imm (w : BitVec 32) (i j : Nat) (h : i + j ≤ 18) : (wImm w).extractLsb' i j = w.extractLsb' i j := by
  rw [wImm, extractLsb'_extractLsb' _ _ _ _ _ h, Nat.zero_add]

theorem getLsbD_imm (w : BitVec 32) {i : Nat} (h : i < 18) : (wImm w).getLsbD i = w.getLsbD i := by
  simp [wImm, h]

theorem imm_eq_zero_iff (w : BitVec 32) : wImm w = 0 ↔ wRb w = 0 ∧ w.extractLsb' 0 14 = 0 := by
  rw [show (0 : BitVec 18) = 0#4 ++ 0#14 from rfl, eq_append_iff (m := 14), extractLsb'_imm w _ _ (by decide),
    extractLsb'_imm w _ _ (by decide)]
  rfl

theorem low14_eq_zero_iff (w : BitVec 32) : w.extractLsb' 0 14 = 0#14 ↔ wMid w = 0 ∧ wFn w = 0 := by
  rw [show 0#14 = 0#9 ++ 0#5 from rfl, eq_append_iff (m := 5)]
  simp [extractLsb'_extractLsb', wMid, wFn]

theorem low26_eq_zero_iff (w : BitVec 32) : w.extractLsb' 0 26 = 0#26 ↔ wRd w = 0 ∧ wRa w = 0 ∧ wImm w = 0 := by
  rw [show 0#26 = 0#4 ++ 0#4 ++ 0#18 from rfl, eq_append_iff (m := 18), eq_append_iff (m := 4)]
  simp [extractLsb'_extractLsb', wRd, wRa, wImm, and_assoc]

theorem fmtR_zero (op : BitVec 6) (rd ra : BitVec 4) : fmtR op rd ra 0 0 = fmtI op rd ra 0 := by
  obtain ⟨hop, hrd, hra, himm⟩ := (fmtI_eq_iff op rd ra 0 _).mp rfl
  obtain ⟨hrb, hlow⟩ := (imm_eq_zero_iff _).mp himm
  exact (fmtR_eq_iff ..).mpr ⟨hop, hrd, hra, hrb, (low14_eq_zero_iff _).mp hlow⟩

theorem fmtP_zero (op : BitVec 6) (rd ra : BitVec 4) : fmtP op rd ra 0 0 = fmtI op rd ra 0 := by
  obtain ⟨hop, hrd, hra, himm⟩ := (fmtI_eq_iff op rd ra 0 _).mp rfl
  refine (fmtP_eq_iff ..).mpr ⟨hop, hrd, hra, ((imm_eq_zero_iff _).mp himm).1, ?_, ?_⟩
  · rw [wDoff, ← extractLsb'_imm _ _ _ (by decide), himm]
    rfl
  · rw [← extractLsb'_imm _ _ _ (by decide), himm]
    rfl

theorem fmtJ_zero (op : BitVec 6) (rd ra : BitVec 4) : fmtJ op rd ra 0 = fmtI op rd ra 0 := by
  obtain ⟨hop, hrd, hra, himm⟩ := (fmtI_eq_iff op rd ra 0 _).mp rfl
  refine (fmtJ_eq_iff ..).mpr ⟨hop, hrd, hra, ?_, ?_⟩
  · rw [← extractLsb'_imm _ _ _ (by decide), himm]
    rfl
  · rw [wTgt, ← extractLsb'_imm _ _ _ (by decide), himm]
    rfl

/-! ### Immediates that hold fields of their own (R156, R161, R167, R171) -/

theorem shiftImm_iff (imm : BitVec 18) (n : BitVec 5) :
    imm = 0#13 ++ n ↔ imm.extractLsb' 5 13 = 0 ∧ imm.extractLsb' 0 5 = n := eq_append_iff (m := 5) imm _ _

theorem trapImm_iff (imm : BitVec 18) (code : BitVec 8) :
    imm = 0#10 ++ code ↔ imm.extractLsb' 8 10 = 0 ∧ imm.extractLsb' 0 8 = code := eq_append_iff (m := 8) imm _ _

theorem eq_ofBool_iff (x : BitVec 1) (b : Bool) : x = BitVec.ofBool b ↔ x.getLsbD 0 = b := by
  revert x b
  decide

theorem low14_iff (w : BitVec 32) (stale : Bool) :
    w.extractLsb' 0 14 = BitVec.ofBool stale ++ 0#13 ↔ w.getLsbD 13 = stale ∧ w.extractLsb' 0 13 = 0 := by
  rw [eq_append_iff (m := 13), eq_ofBool_iff]
  simp [extractLsb'_extractLsb']

theorem emitImm_iff (w : BitVec 32) (n : BitVec 4) :
    wImm w = n ++ 0#14 ↔ wRb w = n ∧ w.getLsbD 13 = false ∧ w.extractLsb' 0 13 = 0 := by
  rw [eq_append_iff (m := 14), extractLsb'_imm w _ _ (by decide), extractLsb'_imm w _ _ (by decide),
    show 0#14 = BitVec.ofBool false ++ 0#13 from rfl, low14_iff]
  rfl

theorem emitSImm_iff (w : BitVec 32) (n : BitVec 4) :
    wImm w = n ++ 1#1 ++ 0#13 ↔ wRb w = n ∧ w.getLsbD 13 = true ∧ w.extractLsb' 0 13 = 0 := by
  rw [eq_append_iff (m := 13), eq_append_iff (m := 1), show 1#1 = BitVec.ofBool true from rfl, eq_ofBool_iff]
  simp [extractLsb'_extractLsb', extractLsb'_imm, wRb, and_assoc]

theorem awaitCompImm_iff (imm : BitVec 18) :
    imm = 0 ↔ imm.extractLsb' 16 2 = 0 ∧ imm.extractLsb' 0 16 = 0 := eq_append_iff (m := 16) imm 0#2 0#16

theorem awaitEdgeImm_iff (imm : BitVec 18) (pin edge : BitVec 2) : imm = 1#2 ++ 0#12 ++ edge ++ pin ↔
    imm.extractLsb' 16 2 = 1 ∧ imm.extractLsb' 4 12 = 0 ∧ imm.extractLsb' 2 2 = edge ∧ imm.extractLsb' 0 2 = pin := by
  rw [eq_append_iff (m := 2), eq_append_iff (m := 2), eq_append_iff (m := 12)]
  simp [extractLsb'_extractLsb', and_assoc]

theorem awaitTimeImm_iff (imm : BitVec 18) (units : BitVec 16) :
    imm = 2#2 ++ units ↔ imm.extractLsb' 16 2 = 2 ∧ imm.extractLsb' 0 16 = units := eq_append_iff (m := 16) imm _ _

theorem awaitLineImm_iff (imm : BitVec 18) (rise : Bool) : imm = 3#2 ++ 0#15 ++ BitVec.ofBool rise ↔
    imm.extractLsb' 16 2 = 3 ∧ imm.extractLsb' 1 15 = 0 ∧ imm.getLsbD 0 = rise := by
  rw [eq_append_iff (m := 1), eq_append_iff (m := 15), eq_ofBool_iff]
  simp [extractLsb'_extractLsb', and_assoc]

/-! ### Encoding what was decoded -/

/-- A guarded result: its guard holds, and what it encodes to is what the instruction encodes to. -/
theorem encodeWord_of_guarded {p : Prop} [Decidable p] {x i : Instr} {w : BitVec 32}
    (hi : (if p then some x else none) = some i) (h : p → encodeWord x = some w) : encodeWord i = some w := by
  obtain ⟨hp, rfl⟩ := Option.ite_none_right_eq_some.mp hi |>.imp_right Option.some.inj
  exact h hp

/-! ### The operations whose FN or immediate selects them (R157, R167, R174) -/

theorem kind_eq_three {x : BitVec 2} (h0 : x.toNat ≠ 0) (h1 : x.toNat ≠ 1) (h2 : x.toNat ≠ 2) : x = 3 := by
  revert x
  decide

theorem toNat_eq_imp {n k : Nat} {x : BitVec n} (h : x.toNat = k) : x = BitVec.ofNat n k := (BitVec.toNat_eq_nat.mp h).2

theorem encode_decodeAlu {e : Nat} {rd ra rb : BitVec 4} {fn : BitVec 5} {i : Instr}
    (h : decodeAlu e rd ra rb fn.toNat = some i) : encodeWord i = some (fmtR 0x00 rd ra rb fn) := by
  unfold decodeAlu at h
  split at h
  case h_19 hfn =>
    rw [toNat_eq_imp hfn]
    exact encodeWord_of_guarded h fun hrb => by rw [hrb]; rfl
  case h_20 => nomatch h
  all_goals
    rename_i hfn
    cases h
    rw [toNat_eq_imp hfn]
    rfl

theorem encode_decodeSignal {e : Nat} {ra : BitVec 4} {imm : BitVec 18} {i : Instr} (h : decodeSignal e ra imm = some i) :
    encodeWord i = some (fmtI 0x34 0 ra imm) := by
  unfold decodeSignal at h
  split at h
  case h_4 => nomatch h
  all_goals
    rename_i himm
    cases h
    rw [toNat_eq_imp himm]
    rfl

theorem encode_decodeAwait {e : Nat} {rd ra : BitVec 4} {imm : BitVec 18} {i : Instr} (h : decodeAwait e rd ra imm = some i) :
    encodeWord i = some (fmtI 0x35 rd ra imm) := by
  unfold decodeAwait at h
  split at h
  case h_1 hkind =>
    exact encodeWord_of_guarded h fun hzero => by rw [(awaitCompImm_iff imm).mpr ⟨toNat_eq_imp hkind, hzero⟩]; rfl
  case h_2 hkind =>
    refine encodeWord_of_guarded h fun hzero => ?_
    rw [encodeWord, ← (awaitEdgeImm_iff imm _ _).mpr ⟨toNat_eq_imp hkind, hzero.1, rfl, rfl⟩]
  case h_3 hkind =>
    cases h
    rw [encodeWord, ← (awaitTimeImm_iff imm _).mpr ⟨toNat_eq_imp hkind, rfl⟩]
  case h_4 h0 h1 h2 =>
    refine encodeWord_of_guarded h fun hzero => ?_
    rw [encodeWord, ← (awaitLineImm_iff imm _).mpr ⟨kind_eq_three h0 h1 h2, hzero, rfl⟩]

/-- A word that decodes to an instruction is the word of that instruction: every field that its opcode leaves unused is zero. -/
theorem encode_decode {e : Nat} {w : BitVec 32} {i : Instr} (h : decodeWord e w = some i) : encodeWord i = some w := by
  have fields {op : BitVec 6} {rd ra : BitVec 4} {imm : BitVec 18} (hop : (wOp w).toNat = op.toNat) (hrd : wRd w = rd)
      (hra : wRa w = ra) (himm : wImm w = imm) : some (fmtI op rd ra imm) = some w :=
    congrArg some ((fmtI_eq_iff ..).mpr ⟨BitVec.eq_of_toNat_eq hop, hrd, hra, himm⟩)
  unfold decodeWord at h
  dsimp only at h
  split at h
  case h_1 hop =>
    obtain ⟨hmid, h⟩ := Option.ite_none_right_eq_some.mp h
    rw [encode_decodeAlu h]
    exact congrArg some ((fmtR_eq_iff ..).mpr ⟨toNat_eq_imp hop, rfl, rfl, rfl, hmid, rfl⟩)
  case h_2 hop | h_3 hop | h_4 hop | h_5 hop | h_11 hop | h_12 hop | h_13 hop | h_14 hop | h_15 hop | h_16 hop | h_17 hop | h_18 hop
      | h_19 hop | h_20 hop | h_21 hop =>
    cases h
    exact fields hop rfl rfl rfl
  case h_6 hop | h_7 hop | h_8 hop =>
    exact encodeWord_of_guarded h fun hhigh => fields hop rfl rfl ((shiftImm_iff ..).mpr ⟨hhigh, rfl⟩)
  case h_9 hop => exact encodeWord_of_guarded h fun hra => fields hop rfl hra rfl
  case h_10 hop => exact encodeWord_of_guarded h fun hrd => fields hop hrd rfl rfl
  case h_22 hop =>
    exact encodeWord_of_guarded h fun ⟨hra, hmid, _⟩ => congrArg some ((fmtJ_eq_iff ..).mpr ⟨toNat_eq_imp hop, rfl, hra, hmid, rfl⟩)
  case h_23 hop =>
    exact encodeWord_of_guarded h fun ⟨hra, hmid⟩ => congrArg some ((fmtJ_eq_iff ..).mpr ⟨toNat_eq_imp hop, rfl, hra, hmid, rfl⟩)
  case h_24 hop =>
    refine encodeWord_of_guarded h fun ⟨hrd, himm⟩ => ?_
    rw [encodeWord, fmtJ_zero]
    exact fields hop hrd rfl himm
  case h_25 hop | h_26 hop | h_27 hop | h_28 hop =>
    exact encodeWord_of_guarded h fun hlow => congrArg some ((fmtP_eq_iff ..).mpr ⟨toNat_eq_imp hop, rfl, rfl, rfl, rfl, hlow⟩)
  case h_29 hop =>
    refine encodeWord_of_guarded h fun himm => ?_
    rw [encodeWord, fmtP_zero]
    exact fields hop rfl rfl himm
  case h_30 hop | h_33 hop =>
    refine encodeWord_of_guarded h fun himm => ?_
    rw [encodeWord, fmtR_zero]
    exact fields hop rfl rfl himm
  case h_31 hop =>
    obtain ⟨hlow, h⟩ := Option.ite_none_right_eq_some.mp h
    split at h
    · cases h
      exact fields hop rfl rfl ((emitSImm_iff ..).mpr ⟨rfl, ‹_›, hlow⟩)
    · cases h
      exact fields hop rfl rfl ((emitImm_iff ..).mpr ⟨rfl, Bool.not_eq_true _ ▸ ‹_›, hlow⟩)
  case h_32 hop =>
    refine encodeWord_of_guarded h fun hlow => congrArg some ((fmtR_eq_iff ..).mpr ⟨toNat_eq_imp hop, rfl, rfl, rfl, ?_⟩)
    exact (low14_eq_zero_iff w).mp hlow
  case h_34 hop =>
    obtain ⟨hrd, h⟩ := Option.ite_none_right_eq_some.mp h
    rw [encode_decodeSignal h]
    exact fields hop hrd rfl rfl
  case h_35 hop =>
    rw [encode_decodeAwait h]
    exact fields hop rfl rfl rfl
  case h_36 hop =>
    refine encodeWord_of_guarded h fun hlow => ?_
    obtain ⟨hrd, hra, himm⟩ := (low26_eq_zero_iff w).mp hlow
    exact fields hop hrd hra himm
  case h_37 hop => exact encodeWord_of_guarded h fun ⟨hrd, hra, hhigh⟩ => fields hop hrd hra ((trapImm_iff ..).mpr ⟨hhigh, rfl⟩)
  case h_38 => nomatch h

/-- The word of a well-formed instruction decodes to it: the fields that the format laid down are those that the opcode's arm of the
decoder reads. -/
theorem decode_encode {i : Instr} {w : BitVec 32} (hwf : i.wf = true) (h : encodeWord i = some w) :
    ∃ e, e < 192 ∧ decodeWord e w = some i := by
  unfold encodeWord at h
  split at h
  all_goals
    simp only [Instr.wf, Instr.wfFor, Bool.and_eq_true, decide_eq_true_eq, bne_iff_ne, Nat.reduceMul] at hwf
    simp only [Option.some.injEq, reduceCtorEq, fmtR_zero, fmtP_zero, fmtJ_zero, fmtI_eq_iff, fmtR_eq_iff, fmtJ_eq_iff, fmtP_eq_iff,
      shiftImm_iff, trapImm_iff, emitImm_iff, emitSImm_iff, awaitEdgeImm_iff, awaitTimeImm_iff, awaitLineImm_iff] at h
  all_goals
    simp only [BitVec.ofNat_eq_ofNat, ne_eq, Nat.reduceLT, BitVec.getLsbD_eq_getElem] at h hwf
    simp [decodeWord, decodeAlu, decodeAwait, decodeSignal, low14_eq_zero_iff, low26_eq_zero_iff, h, hwf]

/-- Settles O58: each word's fields are those that its format lays down, so the two directions are read off field by field. -/
theorem encodingAndDecodingAgree : Obligations.EncodingAndDecodingAgree :=
  ⟨fun _ _ hwf h => decode_encode hwf h, fun _ _ _ h => encode_decode h⟩

end Sys2Proof
end

section
/-! PROOF. O1 and O2: the register instructions of the tap engines. -/

namespace Sys2Proof.Machine

/-! ### Results and flags (R157, R158) -/

theorem withZN_eq (f : Flags) (r : Word) : withZN f r = (r, { z := decide (r = 0), n := r.getLsbD 31, c := f.c, v := f.v }) := by
  rw [withZN, BitVec.msb_eq_getLsbD_last]

/-- A signed value is saturated exactly when 32 bits do not hold it. -/
theorem wasSat_eq_bmod (x : Int) : wasSat x = decide (x.bmod (2 ^ 32) ≠ x) := by
  rw [wasSat, decide_eq_decide, Int.bmod_def]
  omega

theorem aluAdd_eq (f : Flags) (a b : Word) : aluAdd f a b = (a + b, sumFlags a b) := by
  rw [aluAdd, withZN_eq, wasSat_eq_bmod, ← BitVec.toInt_add]
  rfl

theorem aluSub_eq (f : Flags) (a b : Word) : aluSub f a b = (a - b, diffFlags a b) := by
  rw [aluSub, withZN_eq, wasSat_eq_bmod, ← BitVec.toInt_sub]
  rfl

theorem satWord_eq_clamped (x : Int) : satWord x = clamped x := by
  unfold satWord clamped
  split
  · rw [min_eq_left (by omega)]
    rfl
  · split
    · rw [max_eq_left (by omega)]
      rfl
    · rw [min_eq_right (by omega), max_eq_right (by omega)]

theorem clamped_toInt (x : Int) : (clamped x).toInt = max (-2147483648) (min 2147483647 x) := by
  rw [clamped, BitVec.toInt_ofInt, Int.bmod_def]
  omega

theorem satOp_eq (f : Flags) (x : Int) : satOp f x = (clamped x,
    { z := decide (clamped x = 0), n := (clamped x).getLsbD 31, c := f.c, v := decide ((clamped x).toInt ≠ x) }) := by
  have hsat : wasSat x = decide ((clamped x).toInt ≠ x) := by
    rw [wasSat, decide_eq_decide, clamped_toInt]
    omega
  rw [satOp, withZN_eq, satWord_eq_clamped, hsat]

/-! ### Products and extrema (R157) -/

theorem mulHigh_eq (a b : Word) : mulHigh a b = (a.signExtend 64 * b.signExtend 64).extractLsb' 32 32 := by
  have hprod : a.signExtend 64 * b.signExtend 64 = BitVec.ofInt 64 (a.toInt * b.toInt) := by
    rw [BitVec.ofInt_mul]
    rfl
  apply BitVec.eq_of_toNat_eq
  rw [mulHigh, hprod, BitVec.extractLsb'_toNat, BitVec.toNat_ofInt, BitVec.toNat_ofInt, Nat.shiftRight_eq_div_pow]
  omega

theorem mulHighU_eq (a b : Word) : mulHighU a b = (a.setWidth 64 * b.setWidth 64).extractLsb' 32 32 := by
  have ha := a.isLt
  have hb := b.isLt
  have hprod : a.toNat * b.toNat < 2 ^ 32 * 2 ^ 32 := Nat.mul_lt_mul'' ha hb
  apply BitVec.eq_of_toNat_eq
  rw [mulHighU, BitVec.extractLsb'_toNat, BitVec.toNat_mul, BitVec.toNat_setWidth, BitVec.toNat_setWidth, BitVec.toNat_ofNat,
    Nat.shiftRight_eq_div_pow, Nat.mod_eq_of_lt (a := a.toNat) (by omega), Nat.mod_eq_of_lt (a := b.toNat) (by omega)]
  omega

theorem minS_eq (a b : Word) : minS a b = if a.slt b then a else b := by
  rw [minS, BitVec.slt_eq_decide]
  by_cases h : a.toInt = b.toInt
  · rw [BitVec.eq_of_toInt_eq h, ite_self, ite_self]
  · simp only [decide_eq_true_eq, show a.toInt ≤ b.toInt ↔ a.toInt < b.toInt by omega]

theorem maxS_eq (a b : Word) : maxS a b = if a.slt b then b else a := by
  rw [maxS, BitVec.slt_eq_decide]
  by_cases h : a.toInt < b.toInt
  · rw [if_neg (by omega), if_pos (decide_eq_true h)]
  · rw [if_pos (by omega), if_neg (by simpa using h)]

theorem minU_eq (a b : Word) : minU a b = if a < b then a else b := by
  simp only [minU, BitVec.lt_def]
  by_cases h : a.toNat = b.toNat
  · rw [BitVec.eq_of_toNat_eq h, ite_self, ite_self]
  · simp only [show a.toNat ≤ b.toNat ↔ a.toNat < b.toNat by omega]

theorem maxU_eq (a b : Word) : maxU a b = if a < b then b else a := by
  simp only [maxU, BitVec.lt_def]
  by_cases h : a.toNat < b.toNat
  · rw [if_neg (by omega), if_pos h]
  · rw [if_pos (by omega), if_neg h]

/-! ### Register instructions that run -/

section
variable {s : State} {e c : Nat} {i : Instr} {rd ra rb : BitVec 4} {v : Word} {g : Flags} (h : Runs s e c i)
include h

/-- A register instruction with two source registers computes what its operation gives. -/
theorem computes_of_aluR {f : Flags → Word → Word → Word × Flags} (hexec : exec i s = aluR s e i rd ra rb f)
    (hf : f (flagsOf s e c) (regOf s e c ra) (regOf s e c rb) = (v, g)) :
    ∃ t, exec i s = .next t ∧ Computes s t e c rd v g := by
  have hc := aluEnd_computes s e c rd (f (flagsOf s e c) (regOf s e c ra) (regOf s e c rb))
  rw [hf] at hc
  exact ⟨_, by rw [hexec, aluR_runs f h, ← hf]; rfl, hc⟩

/-- A register instruction with one source register computes what its operation gives. -/
theorem computes_of_aluI {f : Flags → Word → Word × Flags} (hexec : exec i s = aluI s e i rd ra f)
    (hf : f (flagsOf s e c) (regOf s e c ra) = (v, g)) : ∃ t, exec i s = .next t ∧ Computes s t e c rd v g := by
  have hc := aluEnd_computes s e c rd (f (flagsOf s e c) (regOf s e c ra))
  rw [hf] at hc
  exact ⟨_, by rw [hexec, aluI_runs f h, ← hf]; rfl, hc⟩

end

/-- CMPI: the flags enter the context, and no register changes. -/
theorem cmpi_computes {s : State} {e c : Nat} {ra : BitVec 4} {imm : BitVec 18} (h : Runs s e c (.cmpi e ra imm)) :
    ∃ t, exec (.cmpi e ra imm) s = .next t ∧ Computes s t e c 0 0 (diffFlags (regOf s e c ra) (imm.signExtend 32)) := by
  have hc := aluEnd_computes s e c 0 (0, diffFlags (regOf s e c ra) (imm.signExtend 32))
  refine ⟨_, ?_, hc⟩
  rw [exec_cmpi, execCmpi, onCtx_runs _ h]
  simp only [aluSub_eq]
  rfl

/-- Settles O1: each instruction computes the result and the flags of its operation. -/
theorem sumsDifferencesAndShiftsSetFlags : Obligations.SumsDifferencesAndShiftsSetFlags := by
  refine ⟨fun s e c rd ra rb imm => ⟨fun h => ?_, fun h => ?_, fun h => ?_, fun h => cmpi_computes h⟩,
    fun s e c rd ra rb n i v k bit => ?_⟩
  · exact computes_of_aluR h (exec_add e rd ra rb s) (aluAdd_eq _ _ _)
  · exact computes_of_aluR h (exec_sub e rd ra rb s) (aluSub_eq _ _ _)
  · exact computes_of_aluI h (exec_addi e rd ra imm s) (aluAdd_eq _ _ _)
  · intro y a m hi h
    simp only [List.mem_cons, Prod.mk.injEq, List.not_mem_nil, or_false] at hi
    obtain ⟨rfl, rfl, rfl, rfl⟩ | ⟨rfl, rfl, rfl, rfl⟩ | ⟨rfl, rfl, rfl, rfl⟩ | ⟨rfl, rfl, rfl, rfl⟩ | ⟨rfl, rfl, rfl, rfl⟩ |
      ⟨rfl, rfl, rfl, rfl⟩ := hi
    · exact computes_of_aluR h (exec_shl e rd ra rb s) (withZN_eq _ _)
    · exact computes_of_aluR h (exec_shr e rd ra rb s) (withZN_eq _ _)
    · exact computes_of_aluR h (exec_sar e rd ra rb s) (withZN_eq _ _)
    · exact computes_of_aluI h (exec_shli e rd ra n s) (withZN_eq _ _)
    · exact computes_of_aluI h (exec_shri e rd ra n s) (withZN_eq _ _)
    · exact computes_of_aluI h (exec_sari e rd ra n s) (withZN_eq _ _)

/-- LUI: its constant to rd, and no flag. -/
theorem lui_computes {s : State} {e c : Nat} {rd : BitVec 4} {imm : BitVec 18} (h : Runs s e c (.lui e rd imm)) :
    ∃ t, exec (.lui e rd imm) s = .next t ∧ Computes s t e c rd (imm.setWidth 32 <<< 14) (flagsOf s e c) :=
  ⟨_, (exec_lui e rd imm s).trans (onCtx_runs _ h), writeNext_computes s e c rd _⟩

/-- Settles O2: each instruction computes the result and the flags of its operation. -/
theorem logicProductsExtremaAndSaturation : Obligations.LogicProductsExtremaAndSaturation := by
  refine ⟨fun s e c rd ra rb imm i v => ?_, fun s e c rd ra rb imm i x => ?_⟩
  · intro y a b k
    refine ⟨fun hi h => ?_, fun h => lui_computes h⟩
    simp only [List.mem_cons, Prod.mk.injEq, List.not_mem_nil, or_false, ← mulHigh_eq, ← mulHighU_eq, ← minS_eq, ← maxS_eq, ← minU_eq,
      ← maxU_eq] at hi
    obtain ⟨rfl, rfl⟩ | ⟨rfl, rfl⟩ | ⟨rfl, rfl⟩ | ⟨rfl, rfl⟩ | ⟨rfl, rfl⟩ | ⟨rfl, rfl⟩ | ⟨rfl, rfl⟩ | ⟨rfl, rfl⟩ | ⟨rfl, rfl⟩ |
      ⟨rfl, rfl⟩ | ⟨rfl, rfl⟩ | ⟨rfl, rfl⟩ | ⟨rfl, rfl⟩ := hi
    · exact computes_of_aluR h (exec_and e rd ra rb s) (withZN_eq _ _)
    · exact computes_of_aluR h (exec_or e rd ra rb s) (withZN_eq _ _)
    · exact computes_of_aluR h (exec_xor e rd ra rb s) (withZN_eq _ _)
    · exact computes_of_aluI h (exec_andi e rd ra imm s) (withZN_eq _ _)
    · exact computes_of_aluI h (exec_ori e rd ra imm s) (withZN_eq _ _)
    · exact computes_of_aluI h (exec_xori e rd ra imm s) (withZN_eq _ _)
    · exact computes_of_aluR h (exec_mul e rd ra rb s) (withZN_eq _ _)
    · exact computes_of_aluR h (exec_mulh e rd ra rb s) (withZN_eq _ _)
    · exact computes_of_aluR h (exec_mulhu e rd ra rb s) (withZN_eq _ _)
    · exact computes_of_aluR h (exec_min e rd ra rb s) (withZN_eq _ _)
    · exact computes_of_aluR h (exec_max e rd ra rb s) (withZN_eq _ _)
    · exact computes_of_aluR h (exec_minu e rd ra rb s) (withZN_eq _ _)
    · exact computes_of_aluR h (exec_maxu e rd ra rb s) (withZN_eq _ _)
  · intro a b v hi h
    have hsext : (sext imm).toInt = imm.toInt := BitVec.toInt_signExtend_of_le (by decide)
    simp only [List.mem_cons, Prod.mk.injEq, List.not_mem_nil, or_false, ← hsext, Int.abs_eq_natAbs] at hi
    obtain ⟨rfl, rfl⟩ | ⟨rfl, rfl⟩ | ⟨rfl, rfl⟩ | ⟨rfl, rfl⟩ | ⟨rfl, rfl⟩ := hi
    · exact computes_of_aluR h (exec_adds e rd ra rb s) (satOp_eq _ _)
    · exact computes_of_aluR h (exec_subs e rd ra rb s) (satOp_eq _ _)
    · exact computes_of_aluI h (exec_addsi e rd ra imm s) (satOp_eq _ _)
    · exact computes_of_aluR h (exec_mulq e rd ra rb s) (satOp_eq _ _)
    · exact computes_of_aluI h (exec_abs e rd ra s) (satOp_eq _ _)

end Sys2Proof.Machine
end

section
/-! PROOF. O3 and O5: loads and stores, branches and jumps, and the faults that end a context. -/

namespace Sys2Proof.Machine

/-! ### Bytes and words (R11) -/

theorem scratchOk_iff (a n : Nat) : scratchOk a n = true ↔ a % n = 0 ∧ a + n ≤ 1024 := by
  simp [scratchOk]

theorem leNat_pair (x y : Byte) : leNat [x, y] = (y ++ x).toNat := by
  rw [BitVec.toNat_append, ← Nat.shiftLeft_add_eq_or_of_lt x.isLt, Nat.shiftLeft_eq]
  simp only [leNat]
  omega

theorem leNat_quad (x y z w : Byte) : leNat [x, y, z, w] = (w ++ z ++ y ++ x).toNat := by
  have hpair := leNat_pair z w
  rw [BitVec.toNat_append, ← Nat.shiftLeft_add_eq_or_of_lt x.isLt, Nat.shiftLeft_eq, BitVec.toNat_append,
    ← Nat.shiftLeft_add_eq_or_of_lt y.isLt, Nat.shiftLeft_eq, ← hpair]
  simp only [leNat]
  omega

theorem readWord_eq (m : Memory) (a : Nat) : Memory.readWord m a =
    Memory.read m (a + 3) ++ Memory.read m (a + 2) ++ Memory.read m (a + 1) ++ Memory.read m (a + 0) := by
  apply BitVec.eq_of_toNat_eq
  rw [Memory.readWord, ← leNat_quad, BitVec.toNat_ofNat]
  exact Nat.mod_eq_of_lt (leNat_quad _ _ _ _ ▸ BitVec.isLt _)

theorem readHalf_eq (m : Memory) (a : Nat) : leNat (Memory.readBytes m a 2) = (Memory.read m (a + 1) ++ Memory.read m (a + 0)).toNat :=
  leNat_pair _ _

theorem sgn_toNat {n : Nat} (x : BitVec n) : sgn n x.toNat = x.toInt := by
  rw [sgn, Nat.mod_eq_of_lt x.isLt, BitVec.toInt_eq_toNat_cond]
  simp

/-! ### Loads and stores (R159) -/

section
variable {s : State} {e c : Nat} {i : Instr} {rd ra : BitVec 4} {imm : BitVec 18} {n : Nat} (h : Runs s e c i)
include h

theorem loads_of_loadOp {f : Memory → Nat → Word} (hexec : exec i s = loadOp s e i rd ra imm n f) {v : Word}
    (hv : f (s.engAt e).scratch (addrOf s e c ra imm) = v) :
    if addrOf s e c ra imm % n = 0 ∧ addrOf s e c ra imm + n ≤ 1024 then
      ∃ t, exec i s = .next t ∧ Computes s t e c rd v (flagsOf s e c)
    else ∃ t, exec i s = .next t ∧ EndsInFault s t e c 2 := by
  have hrun : exec i s = .next (if scratchOk (addrOf s e c ra imm) n then nextPc (writeReg s e c rd v) e c
      else faultEnd s e c 2 (addrOf s e c ra imm)) := by
    rw [hexec, loadOp, onCtx_runs _ h, ← hv]
    rfl
  obtain ⟨-, hrunning, -, -, -, hpc, -⟩ := h
  rw [hrun]
  split
  case isTrue hok =>
    rw [if_pos ((scratchOk_iff _ _).mpr hok)]
    exact ⟨_, rfl, writeNext_computes s e c rd v⟩
  case isFalse hbad =>
    rw [if_neg (mt (scratchOk_iff _ _).mp hbad)]
    exact ⟨_, rfl, faultEnd_ends s e c 2 _ (by decide) hpc hrunning⟩

end

theorem nth_leBytes {n j : Nat} (v : Nat) (h : j < n) : nth 0 (leBytes n v) j = BitVec.ofNat 8 (v / 256 ^ j) := by
  induction n generalizing j v with
  | zero => nomatch h
  | succ n ih =>
    cases j with
    | zero => rw [Nat.pow_zero, Nat.div_one]; rfl
    | succ j => rw [Nat.pow_succ', ← Nat.div_div_eq_div_mul]; exact ih _ (Nat.lt_of_succ_lt_succ h)

theorem byte_eq_extract (v : Word) (j : Nat) : BitVec.ofNat 8 (v.toNat / 256 ^ j) = v.extractLsb' (8 * j) 8 := by
  apply BitVec.eq_of_toNat_eq
  rw [BitVec.toNat_ofNat, BitVec.extractLsb'_toNat, Nat.shiftRight_eq_div_pow, Nat.pow_mul]

/-- Bytes of a word at an address of scratch: read back there, and nowhere else. -/
theorem writeScratch_reads {s : State} (hs : ScratchSound s) (e a n : Nat) (v : Word) :
    (∀ j, j < n → Memory.read ((writeScratch s e a (leBytes n v.toNat)).engAt e).scratch (a + j) = v.extractLsb' (8 * j) 8) ∧
      ∀ b, b < a ∨ a + n ≤ b →
        Memory.read ((writeScratch s e a (leBytes n v.toNat)).engAt e).scratch b = Memory.read (s.engAt e).scratch b := by
  have hread (b : Nat) := Memory.read_writeBytes a b (leBytes n v.toNat) (hs.engAt e)
  rw [length_leBytes] at hread
  rw [writeScratch, State.modEng_engAt]
  refine ⟨fun j hj => ?_, fun b hb => ?_⟩
  · rw [hread, if_pos (by omega), Nat.add_sub_cancel_left, nth_leBytes _ hj, byte_eq_extract]
  · rw [hread, if_neg (by omega)]

/-- From s to t bytes of register rd stand in scratch from an address on, the PC moves on, and nothing else changes (R159). -/
def Stores (s t : State) (e c : Nat) (rd : BitVec 4) (a n : Nat) : Prop :=
  (∀ j, j < n → Memory.read (t.engAt e).scratch (a + j) = (regOf s e c rd).extractLsb' (8 * j) 8) ∧
    (∀ b, b < a ∨ a + n ≤ b → Memory.read (t.engAt e).scratch b = Memory.read (s.engAt e).scratch b) ∧
    t.engAt e = { s.engAt e with scratch := (t.engAt e).scratch, ctxs := (t.engAt e).ctxs } ∧
    ctxOf t e c = { ctxOf s e c with pc := (ctxOf s e c).pc + 1 } ∧ (∀ k, k ≠ c → ctxOf t e k = ctxOf s e k) ∧
    (∀ j, j ≠ e → t.engAt j = s.engAt j) ∧ Changes [.engine] s t

theorem storeNext_stores {s : State} (hs : ScratchSound s) (e c : Nat) (rd : BitVec 4) (a n : Nat) :
    Stores s (nextPc (writeScratch s e a (leBytes n (regOf s e c rd).toNat)) e c) e c rd a n := by
  obtain ⟨hin, hout⟩ := writeScratch_reads hs e a n (regOf s e c rd)
  generalize hu : writeScratch s e a (leBytes n (regOf s e c rd).toNat) = u at hin hout ⊢
  have hkeep : KeepsRegs s u e := by
    rw [← hu, writeScratch]
    constructor
    · rw [State.modEng_engAt]
    · rw [State.modEng_engAt]
  obtain ⟨hchanges, hother, heng, hctxs, -⟩ := nextPc_step u e c
  have hscratch : ((nextPc u e c).engAt e).scratch = (u.engAt e).scratch := by rw [heng]
  refine ⟨hscratch ▸ hin, hscratch ▸ hout, ?_, ?_, fun k hk => ?_, fun j hj => ?_, ?_⟩
  · have hshared : ((nextPc u e c).engAt e).shared = (u.engAt e).shared := by simp [nextPc, State.modCtx]
    rw [heng, hshared, ← hu, writeScratch, State.modEng_engAt]
  · rw [nextPc_ctxOf, hkeep.ctxOf]
  · rw [hctxs k hk, hkeep.ctxOf]
  · rw [hother j hj, ← hu, writeScratch, State.modEng_engAt_other _ _ _ _ hj]
  · exact .after (hu ▸ writeScratch_changes s e a _) hchanges rfl

theorem stores_of_storeOp {s : State} {e c : Nat} {i : Instr} {rd ra : BitVec 4} {imm : BitVec 18} {n : Nat} (h : Runs s e c i)
    (hs : ScratchSound s) (hexec : exec i s = storeOp s e i rd ra imm n) :
    if addrOf s e c ra imm % n = 0 ∧ addrOf s e c ra imm + n ≤ 1024 then
      ∃ t, exec i s = .next t ∧ Stores s t e c rd (addrOf s e c ra imm) n
    else ∃ t, exec i s = .next t ∧ EndsInFault s t e c 2 := by
  have hrun : exec i s = .next (if scratchOk (addrOf s e c ra imm) n then
      nextPc (writeScratch s e (addrOf s e c ra imm) (leBytes n (regOf s e c rd).toNat)) e c
      else faultEnd s e c 2 (addrOf s e c ra imm)) := by
    rw [hexec, storeOp, onCtx_runs _ h]
    rfl
  obtain ⟨-, hrunning, -, -, -, hpc, -⟩ := h
  rw [hrun]
  split
  case isTrue hok =>
    rw [if_pos ((scratchOk_iff _ _).mpr hok)]
    exact ⟨_, rfl, storeNext_stores hs e c rd _ n⟩
  case isFalse hbad =>
    rw [if_neg (mt (scratchOk_iff _ _).mp hbad)]
    exact ⟨_, rfl, faultEnd_ends s e c 2 _ (by decide) hpc hrunning⟩

/-- Settles O3: a load and a store by whether their address is aligned scratch. -/
theorem loadsAndStoresReachAlignedScratch : Obligations.LoadsAndStoresReachAlignedScratch := by
  refine ⟨fun s e c rd ra imm i n v => ?_, fun s e c rd ra imm i n => ?_⟩
  · intro a m hi h
    simp only [List.mem_cons, Prod.mk.injEq, List.not_mem_nil, or_false] at hi
    obtain ⟨rfl, rfl, rfl⟩ | ⟨rfl, rfl, rfl⟩ | ⟨rfl, rfl, rfl⟩ | ⟨rfl, rfl, rfl⟩ | ⟨rfl, rfl, rfl⟩ := hi
    · exact loads_of_loadOp h (exec_lw e rd ra imm s) (readWord_eq _ _)
    · refine loads_of_loadOp h (exec_lh e rd ra imm s) ?_
      rw [readHalf_eq, sgn_toNat]
      rfl
    · refine loads_of_loadOp h (exec_lhu e rd ra imm s) ?_
      rw [readHalf_eq, BitVec.ofNat_toNat]
    · exact loads_of_loadOp h (exec_lb e rd ra imm s) rfl
    · exact loads_of_loadOp h (exec_lbu e rd ra imm s) rfl
  · intro a hi h hs
    simp only [List.mem_cons, Prod.mk.injEq, List.not_mem_nil, or_false] at hi
    obtain ⟨rfl, rfl⟩ | ⟨rfl, rfl⟩ | ⟨rfl, rfl⟩ := hi
    · exact stores_of_storeOp h hs (exec_sw e rd ra imm s)
    · exact stores_of_storeOp h hs (exec_sh e rd ra imm s)
    · exact stores_of_storeOp h hs (exec_sb e rd ra imm s)

end Sys2Proof.Machine
end

section
/-! PROOF. O5: branches and jumps, and the faults that end a context. -/

namespace Sys2Proof.Machine

/-! ### Branches and jumps (R161) -/

/-- From s to t a value goes to rd and the PC takes an address; nothing else changes. -/
def JumpsTo (s t : State) (e c : Nat) (rd : BitVec 4) (v : Word) (pc : Nat) : Prop :=
  CtxStep s t e c { ctxOf s e c with pc := pc } ∧ WroteReg s t e c rd v

theorem jumpTo_jumps (s : State) (e c pc : Nat) : JumpsTo s (jumpTo s e c pc) e c 0 0 pc :=
  ⟨modCtx_step s e c _, .of_regOf (modCtx_regs s e c _ rfl)⟩

theorem nextPc_jumps (s : State) (e c : Nat) : JumpsTo s (nextPc s e c) e c 0 0 ((ctxOf s e c).pc + 1) :=
  ⟨nextPc_step s e c, .of_regOf (nextPc_regOf s e c)⟩

/-- A register written before a jump. -/
theorem jumpTo_writeReg_jumps (s : State) (e c : Nat) (rd : BitVec 4) (v : Word) (pc : Nat) :
    JumpsTo s (jumpTo (writeReg s e c rd v) e c pc) e c rd v pc := by
  obtain ⟨hstep, hwrote⟩ := writeReg_step s e c rd v
  obtain ⟨hjump, hkeep⟩ := jumpTo_jumps (writeReg s e c rd v) e c pc
  refine ⟨?_, fun r => ?_⟩
  · have hctx : { ctxOf (writeReg s e c rd v) e c with pc := pc } =
        { ctxOf s e c with pc := pc, regs := (ctxOf (writeReg s e c rd v) e c).regs } := by rw [hstep.ctx]
    obtain ⟨hchanges, hother, heng, hctxs, hmine⟩ := hstep.trans hjump
    exact ⟨hchanges, hother, heng, hctxs, by rw [hmine, hctx]⟩
  · exact (modCtx_regs (writeReg s e c rd v) e c _ rfl r).trans (hwrote r)

section
variable {s : State} {e c : Nat}

theorem exec_branch_eq {cond : BitVec 4} {tgt : BitVec 10} (h : Runs s e c (.branch e cond tgt)) : exec (.branch e cond tgt) s =
    .next (if condHolds (flagsOf s e c) cond.toNat then jumpTo s e c tgt.toNat else nextPc s e c) :=
  (exec_branch e cond tgt s).trans (onCtx_runs _ h)

theorem branch_jumps {cond : BitVec 4} {tgt : BitVec 10} {q : Bool} (h : Runs s e c (.branch e cond tgt))
    (hq : condHolds (flagsOf s e c) cond.toNat = q) :
    ∃ t, exec (.branch e cond tgt) s = .next t ∧ JumpsTo s t e c 0 0 (if q then tgt.toNat else (ctxOf s e c).pc + 1) := by
  refine ⟨_, exec_branch_eq h, ?_⟩
  rw [hq]
  cases q with
  | true => exact jumpTo_jumps s e c _
  | false => exact nextPc_jumps s e c

theorem jal_jumps {rd : BitVec 4} {tgt : BitVec 10} (h : Runs s e c (.jal e rd tgt)) :
    ∃ t, exec (.jal e rd tgt) s = .next t ∧ JumpsTo s t e c rd (BitVec.ofNat 32 ((ctxOf s e c).pc + 1)) tgt.toNat :=
  ⟨_, (exec_jal e rd tgt s).trans (onCtx_runs _ h), jumpTo_writeReg_jumps s e c rd _ _⟩

theorem exec_jr_eq {ra : BitVec 4} (h : Runs s e c (.jr e ra)) : exec (.jr e ra) s =
    .next (if (regOf s e c ra).toNat ≤ 0x3FF then jumpTo s e c (regOf s e c ra).toNat
      else faultEnd s e c 2 (regOf s e c ra).toNat) :=
  (exec_jr e ra s).trans (onCtx_runs _ h)

/-! ### Faults that end a context (R153, R161, R176) -/

/-- What the end of program memory leaves: LAST_FAULT names the last address. -/
theorem faultEnd_pcend {pc : Nat} (hpc : (ctxOf s e c).pc = 1024) (hrun : (s.engAt e).running = some c) :
    let t := faultEnd s e c 5 pc
    (t.engAt e).running = none ∧ thas (t.engAt e).ctxs c = false ∧ (t.engAt e).faults = (s.engAt e).faults + 1 ∧
      (t.engAt e).lastFault = 5 + 256 * 1023 ∧ (t.engAt e).scratch = (s.engAt e).scratch ∧
      Changes [.die, .port, .engine, .stream, .parish, .reeve, .timers] s t := by
  intro t
  have ht : t = endCtx (engineFault s e c 5 1023 pc) e c none := by
    have hmin : min ((s.engAt e).ctxAt c).pc 1023 = 1023 := by
      rw [show ((s.engAt e).ctxAt c).pc = 1024 from hpc]
      rfl
    rw [← hmin]
    rfl
  obtain ⟨hrunning, hfree, -, heng, -, -⟩ := endCtx_ends (engineFault s e c 5 1023 pc) e c
  rw [← ht] at hrunning hfree heng
  rw [engineFault_engAt] at hrunning heng
  refine ⟨by rw [hrunning, if_pos hrun], hfree, by rw [heng], by rw [heng], by rw [heng], ?_⟩
  rw [ht]
  exact .after (.after (.refl _ _) (engineFault_changes _ _ _ _ _ _) rfl) (endCtx_changes _ _ _ _) rfl

variable (he : e < 24 * usedDies s) (hrun : (s.engAt e).running = some c) (hlive : (ctxOf s e c).live = true)
  (hbudget : s.ticks < (ctxOf s e c).budgetEnd)
include he hrun hlive hbudget

theorem exec_reservedOpcode_eq (hwait : (ctxOf s e c).slotWait = false) (hpc : (ctxOf s e c).pc < 1024)
    (hword : decodeWord e (nth 0 (s.engAt e).prog (ctxOf s e c).pc) = none) : exec (.reservedOpcode e) s =
      .next (faultEnd s e c 1 (nth 0 (s.engAt e).prog (ctxOf s e c).pc).toNat) := by
  unfold ctxOf at *
  rw [exec_reservedOpcode, execReservedOpcode, withEngine_of_lt he]
  simp only [hrun, hlive, hwait, hbudget, hpc, hword, decide_true, Bool.not_false, Option.isNone_none, Bool.and_self, given_true]

theorem exec_pcend_eq (hpc : (ctxOf s e c).pc = 1024) : exec (.pcend e) s = .next (faultEnd s e c 5 1024) := by
  unfold ctxOf at *
  rw [exec_pcend, execPcend, withEngine_of_lt he]
  simp only [hrun, hlive, hbudget, hpc, decide_true, Nat.le_refl, Bool.and_self, given_true]

end

/-- Settles O5: branches by their condition, jumps by their target, and each fault by the context that it ends. -/
theorem branchesJumpsAndFaults : Obligations.BranchesJumpsAndFaults := by
  refine ⟨fun s e c rd ra tgt => ?_, fun s e c code hrun he => ?_⟩
  · intro y v goes
    refine ⟨fun cond q hq h => ?_, fun h => jal_jumps h, fun h hv => ?_, fun h hv => ?_⟩
    · refine branch_jumps h ?_
      simp only [List.mem_cons, Prod.mk.injEq, List.not_mem_nil, or_false] at hq
      obtain ⟨rfl, rfl⟩ | ⟨rfl, rfl⟩ | ⟨rfl, rfl⟩ | ⟨rfl, rfl⟩ | ⟨rfl, rfl⟩ | ⟨rfl, rfl⟩ | ⟨rfl, rfl⟩ | ⟨rfl, rfl⟩ | ⟨rfl, rfl⟩ |
        ⟨rfl, rfl⟩ | ⟨rfl, rfl⟩ | ⟨rfl, rfl⟩ | ⟨rfl, rfl⟩ := hq
      all_goals rfl
    · refine ⟨_, exec_jr_eq h, ?_⟩
      rw [if_pos hv]
      exact jumpTo_jumps s e c _
    · obtain ⟨-, hrunning, -, -, -, hpc, -⟩ := id h
      refine ⟨_, exec_jr_eq h, ?_⟩
      rw [if_neg (Nat.not_le.mpr hv)]
      exact faultEnd_ends s e c 2 _ (by decide) hpc hrunning
  · intro y
    refine ⟨fun h => ?_, fun hlive hwait hbudget hpc hword => ?_, fun hlive hbudget hpc => ?_⟩
    · obtain ⟨-, -, -, -, -, hpc, -⟩ := id h
      exact ⟨_, (exec_trap e code s).trans (onCtx_runs _ h), faultEnd_ends s e c 6 _ (by decide) hpc hrun⟩
    · exact ⟨_, exec_reservedOpcode_eq he hrun hlive hbudget hwait hpc hword, faultEnd_ends s e c 1 _ (by decide) hpc hrun⟩
    · exact ⟨_, exec_pcend_eq he hrun hlive hbudget hpc, faultEnd_pcend hpc hrun⟩

end Sys2Proof.Machine
end

section
/-! PROOF. O8: STAMP. -/

namespace Sys2Proof.Machine

theorem regOf_zero (s : State) (e c : Nat) : regOf s e c 0 = 0 := rfl

theorem stamp_low (st : Stamp) : st.setWidth 32 = st.extractLsb' 0 32 := by
  rw [BitVec.setWidth_eq_extractLsb' (by decide)]

theorem stamp_high (st : Stamp) : (st >>> 32).setWidth 32 = (st.extractLsb' 32 20).setWidth 32 := by
  apply BitVec.eq_of_toNat_eq
  have hst := st.isLt
  simp only [BitVec.toNat_setWidth, BitVec.toNat_ushiftRight, BitVec.extractLsb'_toNat, Nat.shiftRight_eq_div_pow]
  omega

/-- Two registers written one after the other: where they are one, the second write stands. -/
theorem WroteReg.trans {s t u : State} {e c : Nat} {rd ra : BitVec 4} {v w : Word} (h : WroteReg s t e c rd v)
    (k : WroteReg t u e c ra w) (r : BitVec 4) :
    regOf u e c r = if r = 0 then 0 else if r = ra then w else if r = rd then v else regOf s e c r := by
  by_cases hr : r = 0
  · rw [if_pos hr, hr, regOf_zero]
  · rw [k r, h r, if_neg hr]
    simp only [hr, ne_eq, not_false_eq_true, and_true]

/-- Settles O8: the two halves of one CSTAMP, written one after the other. -/
theorem stampCopiesTheContextStamp : Obligations.StampCopiesTheContextStamp := by
  intro s e c rd ra h st
  have hexec := (exec_stampRead e rd ra s).trans (onCtx_runs _ h)
  obtain ⟨hlow, hwroteLow⟩ := writeReg_step s e c rd (st.setWidth 32)
  obtain ⟨⟨hchanges, hother, heng, hctxs, hmine⟩, hwrote⟩ :=
    writeNext_computes (writeReg s e c rd (st.setWidth 32)) e c ra ((st >>> 32).setWidth 32)
  refine ⟨_, hexec, hlow.trans ⟨hchanges, hother, heng, hctxs, ?_⟩, fun r => ?_⟩
  · rw [hmine, hlow.ctx]
    rfl
  · rw [← stamp_low, ← stamp_high]
    exact hwroteLow.trans hwrote r

end Sys2Proof.Machine
end

section
/-! PROOF. O15: the ends of SPI and UART operations. -/

namespace Sys2Proof.Machine

theorem ScratchTook.of_keeps {s t u : State} {e a : Nat} {bs : List Byte} (h : ScratchTook s u e a bs) (k : KeepsScratch u t) :
    ScratchTook s t e a bs := fun b => by rw [k e]; exact h b

theorem OpCompleted.congr {s t : State} {n k a b c d : Nat} (h : OpCompleted s t n k a b) (hac : a = c) (hbd : b = d) :
    OpCompleted s t n k c d := hac ▸ hbd ▸ h

theorem resultBytes_orphan_keeps {s : State} {n k a : Nat} {bs : List Byte} (h : (slotOf s n k).orphan = true) :
    KeepsScratch s (resultBytes s (n / 12) k a bs) := by
  rw [resultBytes_of_orphan a bs h]
  exact fun _ => rfl

/-! ### SPI (R82, R163) -/

/-- The machine once the bytes of an SPI transfer are where its descriptor wants them. -/
def spiFed (s : State) (n k : Nat) (rx : List Byte) : State :=
  if bitOf (slotOf s n k).d0.toNat 8 then resultBytes s (n / 12) k (4 * field (slotOf s n k).d1.toNat 15 8) rx else s

theorem spiFed_pending (s : State) (n k : Nat) (rx : List Byte) : OpPending s (spiFed s n k rx) n k := by
  unfold spiFed
  split
  · exact resultBytes_pending s n k _ rx
  · exact ⟨rfl, rfl⟩

theorem spiFed_portAt (s : State) (n k j : Nat) (rx : List Byte) : (spiFed s n k rx).portAt j = s.portAt j := by
  unfold spiFed
  split
  · exact portAt_of_port ((resultBytes_changes _ _ _ _ _) .port rfl) j
  · rfl

section
variable {s : State} {n k : Nat} {rx : List Byte}

theorem spiFed_took (hs : ScratchSound s) (hrx : bitOf (slotOf s n k).d0.toNat 8 = true) (horphan : (slotOf s n k).orphan = false) :
    ScratchTook s (spiFed s n k rx) (slotOf s n k).engine (4 * field (slotOf s n k).d1.toNat 15 8) rx := by
  rw [spiFed, if_pos hrx]
  exact resultBytes_took _ rx hs horphan

theorem spiFed_keeps (h : bitOf (slotOf s n k).d0.toNat 8 = false ∨ (slotOf s n k).orphan = true) :
    KeepsScratch s (spiFed s n k rx) := by
  unfold spiFed
  split
  case isTrue hrx => exact resultBytes_orphan_keeps (h.resolve_left (Bool.not_eq_false _ ▸ hrx))
  case isFalse => exact fun _ => rfl

theorem exec_spiTransferDone_eq (hn : hasPort s n) (h : HeadOp s n k 3 1) (hlen : rx.length = spiLen (slotOf s n k).d0) :
    exec (.spiTransferDone n rx) s = .next (completeOp (spiFed s n k rx) (n / 12) k 0 (spiLen (slotOf s n k).d0)) := by
  have hslot : (s.dieAt (portDie n)).slotAt k = slotOf s n k := rfl
  rw [exec_spiTransferDone, execSpiTransferDone, withPort_of_hasPort _ hn, activeOp_of_headOp h]
  simp only [hslot, hlen, beq_self_eq_true, given_true, Nat.mul_comm _ 4]
  rfl

end

/-! ### UART (R83, R164) -/

/-- STATUS of a UART reception that ended with an error, or with more bytes than its buffer takes. -/
def uartStatus (rx : List Byte) (err rxMax : Nat) : Nat := if err != 0 then err else if rxMax < rx.length then 6 else 0

/-- The machine once the bytes of a UART reception are in scratch, where it ended OK. -/
def uartFed (s : State) (n k : Nat) (rx : List Byte) (err rxMax : Nat) : State :=
  if uartStatus rx err rxMax = 0 then resultBytes s (n / 12) k (4 * field (slotOf s n k).d1.toNat 15 8) (rx.take rxMax) else s

/-- The machine once a reception has its stamp, where it had nothing to send. -/
def uartStamped (s u : State) (n k : Nat) (rx : List Byte) (lag bins : Nat) : State :=
  if field (slotOf s n k).d0.toNat 8 0 = 0 ∧ rx ≠ [] then
    u.modSlot (n / 12) k (fun z => { z with stamped := true, stamp := captureBack s n 1 lag bins }) else u

/-- The machine once a UART reception is ready to complete. -/
def uartClosed (s : State) (n k : Nat) (rx : List Byte) (err lag bins rxMax : Nat) : State :=
  (uartStamped s (uartFed s n k rx err rxMax) n k rx lag bins).modPort n fun z => { z with uartIdle := false }

section
variable (s : State) (n k : Nat) (rx : List Byte) (err lag bins rxMax : Nat)

theorem uartFed_pending : OpPending s (uartFed s n k rx err rxMax) n k := by
  unfold uartFed
  split
  · exact resultBytes_pending s n k _ _
  · exact ⟨rfl, rfl⟩

theorem uartStamped_pending (u : State) : OpPending u (uartStamped s u n k rx lag bins) n k := by
  unfold uartStamped
  split
  · exact .modSlot u n k fun _ => rfl
  · exact ⟨rfl, rfl⟩

theorem uartClosed_pending : OpPending s (uartClosed s n k rx err lag bins rxMax) n k := by
  refine ((uartFed_pending s n k rx err rxMax).trans (uartStamped_pending s n k rx lag bins _)).trans ⟨rfl, ?_⟩
  rw [uartClosed, State.modPort_portAt]
  rfl

theorem uartFed_portAt (j : Nat) : (uartFed s n k rx err rxMax).portAt j = s.portAt j := by
  unfold uartFed
  split
  · exact portAt_of_port ((resultBytes_changes _ _ _ _ _) .port rfl) j
  · rfl

theorem uartStamped_portAt (u : State) (j : Nat) : (uartStamped s u n k rx lag bins).portAt j = u.portAt j := by
  unfold uartStamped
  split <;> rfl

theorem uartClosed_portAt_other {j : Nat} (hj : j ≠ n) : (uartClosed s n k rx err lag bins rxMax).portAt j = s.portAt j := by
  rw [uartClosed, State.modPort_portAt_other _ _ _ _ hj, uartStamped_portAt, uartFed_portAt]

theorem uartClosed_keeps : KeepsScratch (uartFed s n k rx err rxMax) (uartClosed s n k rx err lag bins rxMax) := by
  refine .of_engine ?_
  unfold uartClosed uartStamped
  split <;> rfl

end

section
variable {s : State} {n k : Nat} {rx : List Byte} {err rxMax : Nat}

theorem uartFed_keeps (h : uartStatus rx err rxMax ≠ 0) : KeepsScratch s (uartFed s n k rx err rxMax) := by
  rw [uartFed, if_neg h]
  exact fun _ => rfl

theorem uartFed_ok (h : rx.length ≤ rxMax) : uartFed s n k rx 0 rxMax =
    resultBytes s (n / 12) k (4 * field (slotOf s n k).d1.toNat 15 8) rx := by
  have hstatus : uartStatus rx 0 rxMax = 0 := if_neg (Nat.not_lt.mpr h)
  rw [uartFed, if_pos hstatus, List.take_of_length_le h]

theorem exec_uartTransferDone_eq (lag bins : Nat) (hn : hasPort s n) (h : HeadOp s n k 3 2)
    (hended : uartEnded (s.portAt n) (field (slotOf s n k).d0.toNat 17 9) rx err = true)
    (herr : err = 0 ∨ err = 4 ∨ err = 5 ∨ err = 7) :
    exec (.uartTransferDone n rx err lag bins) s = .next (completeOp
      (uartClosed s n k rx err lag bins (field (slotOf s n k).d0.toNat 17 9)) (n / 12) k
      (uartStatus rx err (field (slotOf s n k).d0.toNat 17 9)) (min (field (slotOf s n k).d0.toNat 17 9) rx.length)) := by
  have hslot : (s.dieAt (portDie n)).slotAt k = slotOf s n k := rfl
  have hcode : (err == 0 || err == 4 || err == 5 || err == 7) = true := by simpa [or_assoc] using herr
  rw [exec_uartTransferDone, execUartTransferDone, withPort_of_hasPort _ hn, activeOp_of_headOp h]
  simp only [hslot, hended, hcode, Bool.and_self, given_true, Nat.mul_comm _ 4, List.length_take]
  rfl

end

/-- Settles O15: where the bytes of a transfer go, and how its operation completes. -/
theorem spiAndUartTransfersEnd : Obligations.SpiAndUartTransfersEnd := by
  intro s n k hn hs y rbuf len max same
  refine ⟨fun rx h hlen => ?_, fun rx err lag bins h hended herr => ?_⟩
  · obtain ⟨-, -, -, hport⟩ := id h
    have hexec := exec_spiTransferDone_eq hn h hlen
    have hpending := spiFed_pending s n k rx
    have hkeeps := completeOp_keepsScratch 0 len (hpending.slotPort hport)
    refine ⟨_, hexec, hpending.completes 0 len hport, ⟨fun j hj => ?_, execSpiTransferDone_changes n rx s _ hexec⟩,
      fun hrx horphan => (spiFed_took hs hrx horphan).of_keeps hkeeps, fun hnone => (spiFed_keeps hnone).trans hkeeps⟩
    rw [completeOp_portAt_other 0 _ (hpending.slotPort hport) hj, spiFed_portAt]
  · obtain ⟨-, -, -, hport⟩ := id h
    have hexec := exec_uartTransferDone_eq lag bins hn h hended herr
    have hpending := uartClosed_pending s n k rx err lag bins max
    have hport' := hpending.slotPort hport
    have hfed := (uartClosed_keeps s n k rx err lag bins max).trans
      (completeOp_keepsScratch (uartStatus rx err max) (min max rx.length) hport')
    have hdone := hpending.completes (uartStatus rx err max) (min max rx.length) hport
    have hidle := congrArg Port.uartIdle (completeOp_endsAtPort (uartStatus rx err max) (min max rx.length) hport').port
    refine ⟨_, hexec, hidle.trans ?_, ⟨fun j hj => ?_, execUartTransferDone_changes n rx err lag bins s _ hexec⟩, ?_, ?_, ?_⟩
    · rw [uartClosed, State.modPort_portAt]
      rfl
    · rw [completeOp_portAt_other _ _ hport' hj, uartClosed_portAt_other _ _ _ _ _ _ _ _ hj]
    · rintro rfl hfits
      have hstatus : uartStatus rx 0 max = 0 := if_neg (Nat.not_lt.mpr hfits)
      have hok := uartFed_ok (s := s) (n := n) (k := k) hfits
      refine ⟨hdone.congr hstatus (Nat.min_eq_right hfits), fun horphan => ?_, fun horphan => ?_⟩
      · exact (hok ▸ resultBytes_took _ rx hs horphan : ScratchTook s (uartFed s n k rx 0 max) _ _ rx).of_keeps hfed
      · exact (hok ▸ resultBytes_orphan_keeps horphan : KeepsScratch s (uartFed s n k rx 0 max)).trans hfed
    · rintro rfl hover
      have hstatus : uartStatus rx 0 max = 6 := if_pos hover
      exact ⟨hdone.congr hstatus (Nat.min_eq_left (Nat.le_of_lt hover)), (uartFed_keeps (by omega)).trans hfed⟩
    · intro hne
      have hstatus : uartStatus rx err max = err := if_pos (bne_iff_ne.mpr hne)
      exact ⟨hdone.congr hstatus rfl, (uartFed_keeps (by omega)).trans hfed⟩

end Sys2Proof.Machine
end

section
/-! PROOF. O10: SIEVE, MILL and SIGNAL. -/

namespace Sys2Proof.Machine

/-- What leaves the engines and moves the PC on. -/
theorem nextPc_after_engine {s u : State} (h : u.engine = s.engine) (e c : Nat) :
    ctxOf (nextPc u e c) e c = { ctxOf s e c with pc := (ctxOf s e c).pc + 1 } ∧
      ((nextPc u e c).engAt e).scratch = (s.engAt e).scratch := by
  have hkeep := KeepsRegs.of_engine (e := e) h
  refine ⟨by rw [nextPc_ctxOf, hkeep.ctxOf], ?_⟩
  rw [(nextPc_step u e c).engAt, engAt_of_engine h]

/-! ### SIEVE (R173, R217) -/

theorem offers_of_besideReaction {x y : Die} (h : y.besideReaction = x.besideReaction) :
    y.offers = x.offers ∧ y.offerDrops = x.offerDrops :=
  ⟨(congrArg Die.offers h :), (congrArg Die.offerDrops h :)⟩

/-- The machine once a discarded offer is counted, before its fault. -/
def offerDropped (s : State) (d : Nat) : State := s.modDie d fun y => { y with offerDrops := y.offerDrops + 1 }

section
variable {s : State} {g d q : Nat} (hd : g / 64 = d) (v : Int) (st : Stamp)
include hd

/-- An offer that finds room stands last in the queue of its rule's die. -/
theorem offerTo_room (hroom : ¬64 ≤ (s.dieAt d).offers.length) (hq : g % 64 = q) : offerTo s g v st =
    s.modDie d fun y => { y with offers := y.offers ++ [{ rule := q, value := v, stamp := st, arrived := s.time.elapsed }] } := by
  subst hd hq
  exact if_neg hroom

/-- An offer that finds 64 waiting is discarded and counted. -/
theorem offerTo_full (hfull : 64 ≤ (s.dieAt d).offers.length) :
    ((offerTo s g v st).dieAt d).offers = (s.dieAt d).offers ∧
      ((offerTo s g v st).dieAt d).offerDrops = (s.dieAt d).offerDrops + 1 ∧ (offerTo s g v st).engine = s.engine := by
  subst hd
  obtain ⟨dangerous, hoffer⟩ : ∃ dangerous, offerTo s g v st =
      raiseFault (offerDropped s (g / 64)) (g / 64) 0x0E 2 0 0 0 dangerous := ⟨_, if_pos hfull⟩
  obtain ⟨hoffers, hdrops⟩ := offers_of_besideReaction
    (raiseFault_besideReaction (offerDropped s (g / 64)) (g / 64) 0x0E 2 0 0 0 dangerous (g / 64))
  rw [hoffer, hoffers, hdrops, offerDropped, State.modDie_dieAt]
  exact ⟨rfl, rfl, (raiseFault_changes _ _ _ _ _ _ _ _) .engine rfl⟩

end

/-- The machine after a context offers a value to rule q of its die. -/
def sieveEffect (s : State) (e c q : Nat) (v : Int) : State :=
  let g := e / 24 * 64 + q
  if 63 < q then faultEnd s e c 2 q
  else if !ownsFor s e (ruleOwner s g) then faultEnd s e c 3 q
  else if !((s.ruleAt g).img.present && (s.ruleAt g).img.srcKind == 1) then faultEnd s e c 2 q
  else nextPc (offerTo s g v (ctxOf s e c).cstamp) e c

theorem exec_sieveOffer_eq {s : State} {e c : Nat} {rr ra : BitVec 4} (h : Runs s e c (.sieveOffer e rr ra)) :
    exec (.sieveOffer e rr ra) s = .next (sieveEffect s e c (regOf s e c rr).toNat (regOf s e c ra).toInt) :=
  (exec_sieveOffer e rr ra s).trans (onCtx_runs _ h)

section
variable {s : State} {e c q : Nat} (v : Int)

theorem sieveEffect_range (h : 63 < q) : sieveEffect s e c q v = faultEnd s e c 2 q := if_pos h

variable (hq : q ≤ 63)
include hq

theorem sieveEffect_foreign (h : ¬Owns s e (ruleOwner s (e / 24 * 64 + q))) : sieveEffect s e c q v = faultEnd s e c 3 q := by
  simp [sieveEffect, Nat.not_lt.mpr hq, (ownsFor_eq_false _ _ _).mpr h]

variable (hown : Owns s e (ruleOwner s (e / 24 * 64 + q)))
include hown

theorem sieveEffect_source (h : ¬((s.ruleAt (e / 24 * 64 + q)).img.present = true ∧ (s.ruleAt (e / 24 * 64 + q)).img.srcKind = 1)) :
    sieveEffect s e c q v = faultEnd s e c 2 q := by
  have hsrc : ((s.ruleAt (e / 24 * 64 + q)).img.present && (s.ruleAt (e / 24 * 64 + q)).img.srcKind == 1) = false := by simpa using h
  simp only [sieveEffect, Nat.not_lt.mpr hq, (ownsFor_iff _ _ _).mpr hown, hsrc, if_false, Bool.not_true, Bool.false_eq_true,
    Bool.not_false, if_true]

theorem sieveEffect_offers (hpresent : (s.ruleAt (e / 24 * 64 + q)).img.present = true)
    (hkind : (s.ruleAt (e / 24 * 64 + q)).img.srcKind = 1) :
    sieveEffect s e c q v = nextPc (offerTo s (e / 24 * 64 + q) v (ctxOf s e c).cstamp) e c := by
  simp [sieveEffect, Nat.not_lt.mpr hq, (ownsFor_iff _ _ _).mpr hown, hpresent, hkind]

end

/-- What an accepted SIEVE does. -/
theorem offerNext_effect (s : State) (e c : Nat) {q : Nat} (hq : q ≤ 63) (v : Int) :
    let t := nextPc (offerTo s (e / 24 * 64 + q) v (ctxOf s e c).cstamp) e c
    ctxOf t e c = { ctxOf s e c with pc := (ctxOf s e c).pc + 1 } ∧ (t.engAt e).scratch = (s.engAt e).scratch ∧
      if 64 ≤ (s.dieAt (e / 24)).offers.length then
        (t.dieAt (e / 24)).offers = (s.dieAt (e / 24)).offers ∧
          (t.dieAt (e / 24)).offerDrops = (s.dieAt (e / 24)).offerDrops + 1
      else (t.dieAt (e / 24)).offers = (s.dieAt (e / 24)).offers ++
          [{ rule := q, value := v, stamp := (ctxOf s e c).cstamp, arrived := s.time.elapsed }] ∧ Changes [.die, .engine] s t := by
  intro t
  have hdie : (e / 24 * 64 + q) / 64 = e / 24 := by omega
  have hdies : t.dieAt (e / 24) = (offerTo s (e / 24 * 64 + q) v (ctxOf s e c).cstamp).dieAt (e / 24) :=
    dieAt_of_die ((nextPc_changes _ e c) .die rfl) _
  split
  case isTrue hfull =>
    obtain ⟨hoffers, hdrops, heng⟩ := offerTo_full hdie v (ctxOf s e c).cstamp hfull
    obtain ⟨hctx, hscratch⟩ := nextPc_after_engine heng e c
    exact ⟨hctx, hscratch, by rw [hdies, hoffers], by rw [hdies, hdrops]⟩
  case isFalse hroom =>
    have hoffer := offerTo_room hdie v (ctxOf s e c).cstamp hroom (by omega : (e / 24 * 64 + q) % 64 = q)
    have heng : (offerTo s (e / 24 * 64 + q) v (ctxOf s e c).cstamp).engine = s.engine := by rw [hoffer]; rfl
    obtain ⟨hctx, hscratch⟩ := nextPc_after_engine heng e c
    refine ⟨hctx, hscratch, by rw [hdies, hoffer, State.modDie_dieAt], .after ?_ (nextPc_changes _ e c) rfl⟩
    rw [hoffer]
    exact .after (.refl _ _) (State.modDie_changes _ _ _) rfl

/-! ### MILL (R172, R205) -/

/-- The machine after a context submits a sample to channel q of its die. -/
def millEffect (s : State) (e c q : Nat) (word : Word) (lead : Nat) : State :=
  let d := s.dieAt (e / 24)
  if 15 < q then faultEnd s e c 2 q
  else if !ownsFor s e (millOwner s (e / 24 * 16 + q)) then faultEnd s e c 3 q
  else nextPc (s.modMill (e / 24 * 16 + q) fun z => z.submit d.round (dueLag d) word (stampAdd (ctxOf s e c).cstamp lead)) e c

theorem exec_millSubmit_eq {s : State} {e c : Nat} {rc ra rb : BitVec 4} (h : Runs s e c (.millSubmit e rc ra rb)) :
    exec (.millSubmit e rc ra rb) s =
      .next (millEffect s e c (regOf s e c rc).toNat (regOf s e c ra) (regOf s e c rb).toNat) :=
  (exec_millSubmit e rc ra rb s).trans (onCtx_runs _ h)

section
variable {s : State} {e c q : Nat} (word : Word) (lead : Nat)

theorem millEffect_range (h : 15 < q) : millEffect s e c q word lead = faultEnd s e c 2 q := if_pos h

theorem millEffect_foreign (hq : q ≤ 15) (h : ¬Owns s e (millOwner s (e / 24 * 16 + q))) :
    millEffect s e c q word lead = faultEnd s e c 3 q := by
  simp [millEffect, Nat.not_lt.mpr hq, (ownsFor_eq_false _ _ _).mpr h]

theorem millEffect_submits (hq : q ≤ 15) (h : Owns s e (millOwner s (e / 24 * 16 + q))) : millEffect s e c q word lead =
    nextPc (s.modMill (e / 24 * 16 + q) fun z => z.submit (s.dieAt (e / 24)).round (dueLag (s.dieAt (e / 24))) word
      (stampAdd (ctxOf s e c).cstamp lead)) e c := by
  simp [millEffect, Nat.not_lt.mpr hq, (ownsFor_iff _ _ _).mpr h]

end

section
variable {x : MillChan} (round lag : Nat) {word : Word} (stamp : Stamp)

theorem submit_disabled (h : x.img.enable = false) : x.submit round lag word stamp = { x with inDropped := satInc 65535 x.inDropped } := by
  simp [MillChan.submit, h]

theorem submit_first (hon : x.img.enable = true) (hlast : x.lastIn = none) (hword : word.getLsbD 30 = false) :
    x.submit round lag word stamp = x.accept round lag word stamp := by
  have hrestart : bitOf word.toNat 30 = false := by
    rw [← hword, bitOf, BitVec.getLsbD, Nat.testBit_eq_decide_div_mod_eq]
    rfl
  simp [MillChan.submit, hon, hlast, hrestart]

theorem accept_taken (x : MillChan) (word : Word) : (x.accept round lag word stamp).lastIn = some stamp ∧
    (x.accept round lag word stamp).count = x.count + 1 ∧
    (x.accept round lag word stamp).history = ((word, stamp) :: x.history).take 512 := by
  unfold MillChan.accept
  dsimp only
  split
  · exact ⟨rfl, rfl, rfl⟩
  · split <;> exact ⟨rfl, rfl, rfl⟩

end

/-- What a channel's change and the PC's advance leave. -/
theorem millNext_effect (s : State) (e c ch : Nat) (g : MillChan → MillChan) :
    let t := nextPc (s.modMill ch g) e c
    ctxOf t e c = { ctxOf s e c with pc := (ctxOf s e c).pc + 1 } ∧ (∀ j, j ≠ ch → t.millAt j = s.millAt j) ∧
      Changes [.engine, .mill] s t ∧ t.millAt ch = g (s.millAt ch) := by
  intro t
  refine ⟨(nextPc_after_engine (s := s) (u := s.modMill ch g) rfl e c).1, fun j hj => ?_, ?_, ?_⟩
  · exact State.modMill_millAt_other s j ch g hj
  · exact .after (.after (.refl _ _) (State.modMill_changes _ _ _) rfl) (nextPc_changes _ e c) rfl
  · exact State.modMill_millAt s ch g

/-! ### SIGNAL (R174) -/

/-- The machine after a context changes its engine's own level of line l. -/
def signalEffect (s : State) (e c l : Nat) (f : Engine → Nat → Engine) : State :=
  if 63 < l then faultEnd s e c 2 l
  else if (engOwner s e).isNone ∨ lineRow s (e / 24) l (engOwner s e) = false then faultEnd s e c 3 l
  else nextPc (s.modEng e (fun z => f z l)) e c

theorem exec_signal_eq {s : State} {e c : Nat} {i : Instr} {ra : BitVec 4} {f : Engine → Nat → Engine} (h : Runs s e c i)
    (hexec : exec i s = signalOp s e i ra f) : exec i s = .next (signalEffect s e c (regOf s e c ra).toNat f) :=
  hexec.trans (onCtx_runs _ h)

/-- What an accepted SIGNAL does. -/
theorem signalNext_effect (s : State) (e c : Nat) {f : Engine → Engine} {lines pulses : Nat}
    (hf : f (s.engAt e) = { s.engAt e with lines := lines, pulses := pulses }) :
    let t := nextPc (s.modEng e f) e c
    t.engAt e = { s.engAt e with lines := lines, pulses := pulses, ctxs := (t.engAt e).ctxs } ∧
      ctxOf t e c = { ctxOf s e c with pc := (ctxOf s e c).pc + 1 } ∧ (∀ k, k ≠ c → ctxOf t e k = ctxOf s e k) ∧
      (∀ j, j ≠ e → t.engAt j = s.engAt j) ∧ Changes [.engine] s t := by
  intro t
  have heng : (s.modEng e f).engAt e = { s.engAt e with lines := lines, pulses := pulses } := by rw [State.modEng_engAt, hf]
  have hkeep : KeepsRegs s (s.modEng e f) e := ⟨by rw [heng], by rw [heng]⟩
  obtain ⟨hother, hmine, hctxs⟩ := modCtx_only (s.modEng e f) e c fun y => { y with pc := y.pc + 1 }
  refine ⟨?_, ?_, fun k hk => ?_, fun j hj => ?_, ?_⟩
  · exact hmine.trans (by rw [heng]; rfl)
  · rw [nextPc_ctxOf, hkeep.ctxOf]
  · exact (hctxs k hk).trans (hkeep.ctxOf k)
  · exact (hother j hj).trans (State.modEng_engAt_other _ _ _ _ hj)
  · exact .after (.after (.refl _ _) (State.modEng_changes _ _ _) rfl) (nextPc_changes _ e c) rfl

/-- The three outcomes of a SIGNAL: a line out of range, one that is not the parish's, and its effect. -/
theorem signal_outcomes {s : State} {e c : Nat} {i : Instr} {ra : BitVec 4} {f : Engine → Nat → Engine} (h : Runs s e c i)
    (hexec : exec i s = signalOp s e i ra f) {lines pulses : Nat}
    (hf : f (s.engAt e) (regOf s e c ra).toNat = { s.engAt e with lines := lines, pulses := pulses }) :
    let l := (regOf s e c ra).toNat
    (63 < l → ∃ t, exec i s = .next t ∧ EndsInFault s t e c 2) ∧
      (l ≤ 63 → ¬((engOwner s e).isSome = true ∧ lineRow s (e / 24) l (engOwner s e) = true) →
        ∃ t, exec i s = .next t ∧ EndsInFault s t e c 3) ∧
      (l ≤ 63 → (engOwner s e).isSome = true → lineRow s (e / 24) l (engOwner s e) = true → ∃ t, exec i s = .next t ∧
        t.engAt e = { s.engAt e with lines := lines, pulses := pulses, ctxs := (t.engAt e).ctxs } ∧
        ctxOf t e c = { ctxOf s e c with pc := (ctxOf s e c).pc + 1 } ∧ (∀ k, k ≠ c → ctxOf t e k = ctxOf s e k) ∧
        (∀ j, j ≠ e → t.engAt j = s.engAt j) ∧ Changes [.engine] s t) := by
  intro l
  obtain ⟨-, hrun, -, -, -, hpc, -⟩ := id h
  have heff := exec_signal_eq h hexec
  have hforeign : ((engOwner s e).isNone ∨ lineRow s (e / 24) l (engOwner s e) = false) ↔
      ¬((engOwner s e).isSome = true ∧ lineRow s (e / 24) l (engOwner s e) = true) := by
    rw [not_and_or, Bool.not_eq_true, Bool.not_eq_true, ← Option.not_isSome, Bool.not_eq_true']
  unfold signalEffect at heff
  refine ⟨fun hl => ?_, fun hl hrow => ?_, fun hl hown hrow => ?_⟩
  · rw [if_pos hl] at heff
    exact ⟨_, heff, faultEnd_ends s e c 2 _ (by decide) hpc hrun⟩
  · rw [if_neg (Nat.not_lt.mpr hl), if_pos (hforeign.mpr hrow)] at heff
    exact ⟨_, heff, faultEnd_ends s e c 3 _ (by decide) hpc hrun⟩
  · rw [if_neg (Nat.not_lt.mpr hl), if_neg (fun h => hforeign.mp h ⟨hown, hrow⟩)] at heff
    exact ⟨_, heff, signalNext_effect s e c hf⟩

/-- Settles O10: each instruction by its checks in their order, and by what an accepted one does. -/
theorem sieveMillAndSignalInstructions : Obligations.SieveMillAndSignalInstructions := by
  intro s e c rd ra rb x y d q l v fails g m ch rows signals
  refine ⟨fun h => ?_, fun h => ?_, fun i lines pulses hi h => ?_⟩
  · obtain ⟨-, hrun, -, -, -, hpc, -⟩ := id h
    have hexec := exec_sieveOffer_eq h
    have hfails {f : Nat} (hf : f < 256) (heff : sieveEffect s e c q v.toInt = faultEnd s e c f q) : fails (.sieveOffer e rd ra) f :=
      ⟨_, hexec.trans (congrArg _ heff), faultEnd_ends s e c f q hf hpc hrun⟩
    refine ⟨fun hq => hfails (by decide) (sieveEffect_range _ hq), fun hq hown => hfails (by decide) (sieveEffect_foreign _ hq hown),
      fun hq hown hsrc => hfails (by decide) (sieveEffect_source _ hq hown hsrc), fun hq hown hpresent hkind => ?_⟩
    exact ⟨_, hexec.trans (congrArg _ (sieveEffect_offers _ hq hown hpresent hkind)), offerNext_effect s e c hq _⟩
  · obtain ⟨-, hrun, -, -, -, hpc, -⟩ := id h
    have hexec := exec_millSubmit_eq h
    refine ⟨fun hq => ?_, fun hq hown => ?_, fun hq hown => ?_⟩
    · exact ⟨_, hexec.trans (congrArg _ (millEffect_range _ _ hq)), faultEnd_ends s e c 2 _ (by decide) hpc hrun⟩
    · exact ⟨_, hexec.trans (congrArg _ (millEffect_foreign _ _ hq hown)), faultEnd_ends s e c 3 _ (by decide) hpc hrun⟩
    · obtain ⟨hctx, hothers, hchanges, hmine⟩ := millNext_effect s e c ch fun z =>
        z.submit (s.dieAt (e / 24)).round (dueLag (s.dieAt (e / 24))) v (stampAdd y.cstamp (regOf s e c rb).toNat)
      refine ⟨_, hexec.trans (congrArg _ (millEffect_submits _ _ hq hown)), hctx, hothers, hchanges, fun hoff => ?_,
        fun hon hlast hword => ?_⟩
      · rw [hmine, submit_disabled _ _ _ hoff]
        rfl
      · rw [hmine, submit_first _ _ _ hon hlast hword]
        exact accept_taken _ _ _ _ _
  · simp only [List.mem_cons, Prod.mk.injEq, List.not_mem_nil, or_false] at hi
    obtain ⟨rfl, rfl, rfl⟩ | ⟨rfl, rfl, rfl⟩ | ⟨rfl, rfl, rfl⟩ := hi
    · exact signal_outcomes h (exec_signalLow e ra s) rfl
    · exact signal_outcomes h (exec_signalHigh e ra s) rfl
    · exact signal_outcomes h (exec_signalPulse e ra s) rfl

end Sys2Proof.Machine
end

section
/-! PROOF. O9: a record whose offer finds the queue full can set off a capture, which pins the records before it. -/

namespace Sys2Proof.Machine

/-- A context of parish 1 is about to emit into stream 0, which holds a record and which a rule of the parish takes, while the die's
offer queue is full and an output is on. -/
def fullQueueState : State := { State.reset with
  cmpt := true
  conf := [(okey 0x2101 2, [1]), (okey 0x2101 4, [0, 0, 0, 0]), (okey 0x2101 7, [1]), (okey 0x2101 0xB, [1]),
    (okey 0xD000 4, [1]), (okey 0x7000 1, [1]), (okey 0x7000 6, [2])]
  die := [(0, { logicOn := true, soOut := 1, offers := List.replicate 64 {} })]
  rule := [(0, { img := { present := true, srcKind := 2 } })]
  stream := [(0, { ring := [{}] })]
  engine := [(0, { prog := [fmtI 0x31 0 0 (1#4 ++ 0#14)], running := some 0, ctxs := [(0, { live := true, budgetEnd := 1 })] })] }

theorem fullQueueState_runs : Runs fullQueueState 0 0 (.emit 0 0 0 1) := by decide

/-- The record that the state's EMIT writes. -/
def fullQueueRecord : Rec :=
  { stream := 0, stamp := 0, pcode := engParish fullQueueState 0 % 16, flags := emitFlags (ctxOf fullQueueState 0 0) false
    words := [Memory.readWord (fullQueueState.engAt 0).scratch 0] }

theorem fullQueueState_next : exec (.emit 0 0 0 1) fullQueueState =
    .next (nextPc (putRecord fullQueueState 0 fullQueueRecord) 0 0) := by
  have hnext := exec_emit 0 0 0 1 fullQueueState
  rw [execEmit, emitOp, onCtx_runs _ fullQueueState_runs] at hnext
  exact hnext.trans (congrArg Host.Outcome.next (if_neg (by decide)))

theorem fullQueueState_pins : ((nextPc (putRecord fullQueueState 0 fullQueueRecord) 0 0).streamAt 0).ring.head?.map Rec.pinned = some true := by
  decide

/-- Refutes O9: the clause of an accepted EMIT keeps every record that the ring held, with no hypothesis on the rules of the stream. In
`fullQueueState` the record's offer is dropped, which is a dangerous fault: the output that is on goes off, the capture of parish 1 that
this starts pins the records of its streams, and the one that the ring held is no longer as it was. -/
theorem not_emitAndYield : ¬ Obligations.EmitAndYield := by
  intro h
  obtain ⟨-, -, hemits⟩ := h.1 fullQueueState 0 0 0 0 1 (.emit 0 0 0 1) false (List.mem_cons_self ..) fullQueueState_runs
  obtain ⟨t, hexec, -, -, hring, -⟩ := hemits (by decide) (by decide) (by decide)
  obtain rfl := Host.Outcome.next.inj (fullQueueState_next.symm.trans hexec)
  obtain ⟨r, hkept, -⟩ := hring rfl (by decide) (by decide)
  have hfree : _ = some false := congrArg (fun ring : List Rec => ring.head?.map Rec.pinned) hkept
  exact Bool.false_ne_true (Option.some.inj (hfree.symm.trans fullQueueState_pins))

end Sys2Proof.Machine
end

section
/-! PROOF. What the issue of a port operation does: the layer of O6. -/

namespace Sys2Proof.Machine

/-! ### The slot that an issue takes (R162) -/

theorem nth_mem_of_lt {α : Type} (dflt : α) : ∀ {l : List α} {i : Nat}, i < l.length → nth dflt l i ∈ l
  | _ :: _, 0, _ => List.mem_cons_self ..
  | _ :: _, _ + 1, h => List.mem_cons_of_mem _ (nth_mem_of_lt dflt (Nat.lt_of_succ_lt_succ h))

/-- The slot of an operation as its issue fills it (R162). -/
def issuedSlot (s : State) (e c n kind : Nat) (d0 d1 : Word) (gen : Nat) : Slot :=
  { state := firstState s n kind d0, gen := gen, kind := kind, engine := e, ctx := c, entry := (ctxOf s e c).entry, port := n
    d0 := d0, d1 := d1, needsGov := usesGovernor kind d0
    waitedCal := kind == 3 && (s.portAt n).calOffline && (s.portAt n).calForced }

/-- The machine once slot k holds an operation and its port has it queued; its context is not told yet. -/
def slotEntered (s : State) (e c n kind : Nat) (d0 d1 : Word) (k : Nat) : State :=
  (((s.draw 9).2.modSlot (e / 24) k fun _ => issuedSlot s e c n kind d0 d1 ((s.dieAt (e / 24)).slotAt k).gen).modDie (e / 24) fun z =>
    { z with slotPeak := max z.slotPeak z.held, tele := { z.tele with slotPeak := max z.tele.slotPeak z.held } }).modPort n fun z =>
      { z with
        queue := z.queue ++ [k], emBusy := z.emBusy || usesGovernor kind d0
        lastInput := if kind = 3 then anaInput d0 else z.lastInput }

/-- The machine once the context holds the operation's ticket and the PC stands on the next word. -/
def ticketGiven (s : State) (e c : Nat) (rd : BitVec 4) (ticket : Nat) : State :=
  nextPc (writeReg (s.modCtx e c fun z => { z with tickets := z.tickets ++ [ticket] }) e c rd (BitVec.ofNat 32 ticket)) e c

@[simp] theorem slotEntered_engine (s : State) (e c n kind : Nat) (d0 d1 : Word) (k : Nat) :
    (slotEntered s e c n kind d0 d1 k).engine = s.engine := rfl

/-- From s to t a context has the ticket of slot k, which holds its operation; nothing else of its engine changes but flags of the
records that it emits later. -/
structure SlotIssued (s t : State) (e c : Nat) (rd : BitVec 4) (n kind : Nat) (d0 d1 : Word) (k ticket : Nat) : Prop where
  operation : let y := slotOf t n k
    y.state ≠ 0 ∧ y.port = n ∧ y.kind = kind ∧ y.engine = e ∧ y.ctx = c ∧ y.entry = (ctxOf s e c).entry ∧ y.d0 = d0 ∧ y.d1 = d1
  rd : WroteReg s t e c rd (BitVec.ofNat 32 ticket)
  tickets : (ctxOf t e c).tickets = (ctxOf s e c).tickets ++ [ticket]
  pc : (ctxOf t e c).pc = (ctxOf s e c).pc + 1
  engine : t.engAt e = { s.engAt e with ctxs := (t.engAt e).ctxs, shared := (t.engAt e).shared }

theorem firstState_ne_zero (s : State) (n kind : Nat) (d0 : Word) : firstState s n kind d0 ≠ 0 := by
  unfold firstState
  split <;> decide

section
variable (s : State) (e c : Nat) (rd : BitVec 4)

theorem ticketGiven_step (ticket : Nat) :
    CtxStep s (ticketGiven s e c rd ticket) e c
      { ctxOf s e c with tickets := (ctxOf s e c).tickets ++ [ticket], pc := (ctxOf s e c).pc + 1 } ∧
    WroteReg s (ticketGiven s e c rd ticket) e c rd (BitVec.ofNat 32 ticket) := by
  let u := s.modCtx e c fun z => { z with tickets := z.tickets ++ [ticket] }
  have hticket : CtxStep s u e c { ctxOf s e c with tickets := (ctxOf s e c).tickets ++ [ticket] } := modCtx_step s e c _
  obtain ⟨hstep, hwrote⟩ := writeNext_computes u e c rd (BitVec.ofNat 32 ticket)
  refine ⟨?_, fun r => ?_⟩
  · have hctx : ctxOf u e c = { ctxOf s e c with tickets := (ctxOf s e c).tickets ++ [ticket] } := by
      simp [u, State.modCtx, ctxOf]
    rw [hctx] at hstep
    exact hticket.trans hstep
  · rw [ticketGiven, hwrote r, modCtx_regs s e c _ rfl]

variable {n : Nat} (kind : Nat) (d0 d1 : Word) (k : Nat) (hdie : n / 12 = e / 24)
include hdie

theorem slotEntered_slotOf : slotOf (slotEntered s e c n kind d0 d1 k) n k = issuedSlot s e c n kind d0 d1 (slotOf s n k).gen := by
  simp [slotOf, slotEntered, hdie, State.modSlot, Die.slotAt]

theorem slotEntered_issued (ticket : Nat) :
    SlotIssued s (ticketGiven (slotEntered s e c n kind d0 d1 k) e c rd ticket) e c rd n kind d0 d1 k ticket := by
  have hslot := slotEntered_slotOf s e c kind d0 d1 k hdie
  have heng : (slotEntered s e c n kind d0 d1 k).engine = s.engine := slotEntered_engine ..
  generalize slotEntered s e c n kind d0 d1 k = u at hslot heng ⊢
  have hkeep : KeepsRegs s u e := .of_engine heng
  obtain ⟨hstep, hwrote⟩ := ticketGiven_step u e c rd ticket
  have hctx := hstep.ctx
  refine ⟨?_, .after hkeep hwrote, ?_, ?_, ?_⟩
  · rw [slotOf, dieAt_of_die (hstep.changes .die rfl), ← slotOf, hslot]
    exact ⟨firstState_ne_zero s n kind d0, rfl, rfl, rfl, rfl, rfl, rfl, rfl⟩
  · rw [hctx, ← hkeep.ctxOf]
  · rw [hctx, ← hkeep.ctxOf]
  · rw [← engAt_of_engine heng]
    exact hstep.engAt

end

/-- The end of an operation whose context lives tells the context, and no other part of the engines. -/
theorem completeOp_engine {s : State} {n k : Nat} (status count : Nat) (hport : (slotOf s n k).port = n)
    (hlive : (slotOf s n k).orphan = false) : (completeOp s (n / 12) k status count).engine =
      (s.modCtx (slotOf s n k).engine (slotOf s n k).ctx (·.opDone (slotOf s n k) status)).engine := by
  rw [completeOp_eq status count hport, (enterIdleMode_changes _ n) .engine rfl, opReleased, hlive]
  rfl

/-- An operation that ends at its issue leaves its context the ticket (R85, R90). -/
theorem SlotIssued.completeOp {s u : State} {e c : Nat} {rd : BitVec 4} {n kind : Nat} {d0 d1 : Word} {k ticket : Nat}
    (h : SlotIssued s u e c rd n kind d0 d1 k ticket) (hlive : (slotOf u n k).orphan = false) (status count : Nat) :
    SlotIssued s (completeOp u (n / 12) k status count) e c rd n kind d0 d1 k ticket := by
  obtain ⟨-, hport, hkind, hengine, hctx, hentry, hd0, hd1⟩ := h.operation
  have hslot : slotOf (Machine.completeOp u (n / 12) k status count) n k =
      { slotOf u n k with state := 4, status := status, count := count } := by
    rw [completeOp_slotOf status count hport, opReleased_slotOf, hlive]
    rfl
  have heng := completeOp_engine status count hport hlive
  rw [hengine, hctx] at heng
  have hdone := modCtx_step u e c (·.opDone (slotOf u n k) status)
  have hkeep : KeepsRegs (u.modCtx e c (·.opDone (slotOf u n k) status)) (Machine.completeOp u (n / 12) k status count) e :=
    .of_engine heng
  refine ⟨?_, fun r => ?_, ?_, ?_, ?_⟩
  · rw [hslot]
    exact ⟨Nat.succ_ne_zero 3, hport, hkind, hengine, hctx, hentry, hd0, hd1⟩
  · rw [hkeep.regOf, modCtx_regs u e c (·.opDone (slotOf u n k) status) rfl, h.rd r]
  · rw [hkeep.ctxOf, hdone.ctx, ← h.tickets]
    rfl
  · rw [hkeep.ctxOf, hdone.ctx, ← h.pc]
    rfl
  · rw [engAt_of_engine heng, hdone.engAt, h.engine]

/-- The free slot that an issue takes: a free value (log entry 7). -/
def takenSlot (s : State) (e : Nat) : Nat :=
  nth 0 (s.dieAt (e / 24)).freeSlots ((s.draw 9).1 % (s.dieAt (e / 24)).freeSlots.length)

theorem takenSlot_mem {s : State} {e : Nat} (h : (s.dieAt (e / 24)).freeSlots ≠ []) : takenSlot s e ∈ (s.dieAt (e / 24)).freeSlots :=
  nth_mem_of_lt 0 (Nat.mod_lt _ (List.length_pos_iff.mpr h))

theorem ticketOf_freeSlot {x : Die} {k : Nat} (h : k ∈ x.freeSlots) (gen : Nat) : ticketOf k gen = k + gen % 128 * 512 := by
  rw [ticketOf, Nat.mod_eq_of_lt (List.mem_range.mp (List.mem_of_mem_filter h))]

/-- The ticket of the slot that an issue takes. -/
def takenTicket (s : State) (e : Nat) : Nat := ticketOf (takenSlot s e) ((s.dieAt (e / 24)).slotAt (takenSlot s e)).gen

section
variable (s : State) (e c : Nat) (rd : BitVec 4) {n : Nat} (kind : Nat) (d0 d1 : Word) (hdie : n / 12 = e / 24)
include hdie

theorem takeSlot_eq :
    let u := ticketGiven (slotEntered s e c n kind d0 d1 (takenSlot s e)) e c rd (takenTicket s e)
    takeSlot s e c rd n kind d0 d1 = (issueStatus s n).elim u fun st =>
      completeOp u (n / 12) (takenSlot s e) st (if kind = 0 then (s.portAt n).twCount else 0) := by
  intro u
  rw [hdie, takeSlot]
  dsimp only
  cases issueStatus s n <;> rfl

theorem slotEntered_live (k ticket : Nat) : (slotOf (ticketGiven (slotEntered s e c n kind d0 d1 k) e c rd ticket) n k).orphan = false := by
  rw [slotOf, dieAt_of_die ((ticketGiven_step _ e c rd ticket).1.changes .die rfl), ← slotOf, slotEntered_slotOf s e c kind d0 d1 k hdie]
  rfl

/-- An issue that passes its checks takes its slot, whether the port can run the operation or not. -/
theorem takeSlot_issued : SlotIssued s (takeSlot s e c rd n kind d0 d1) e c rd n kind d0 d1 (takenSlot s e) (takenTicket s e) := by
  have hissued := slotEntered_issued s e c rd kind d0 d1 (takenSlot s e) hdie (takenTicket s e)
  rw [takeSlot_eq s e c rd kind d0 d1 hdie]
  cases issueStatus s n with
  | none => exact hissued
  | some st => exact hissued.completeOp (slotEntered_live s e c rd kind d0 d1 hdie _ _) st _

/-- With the domain off the operation ends with NOPOWER (R85). -/
theorem takeSlot_off (hoff : domainOn s n = false) :
    let t := takeSlot s e c rd n kind d0 d1
    (slotOf t n (takenSlot s e)).state = 4 ∧ (slotOf t n (takenSlot s e)).status = 8 ∧ (t.portAt n).opStatus = 8 := by
  have hstatus : issueStatus s n = some 8 := by simp [issueStatus, hoff]
  obtain ⟨-, hport, -⟩ := (slotEntered_issued s e c rd kind d0 d1 (takenSlot s e) hdie (takenTicket s e)).operation
  have hdone := completeOp_completed 8 (if kind = 0 then (s.portAt n).twCount else 0) hport
  rw [OpCompleted, slotEntered_live s e c rd kind d0 d1 hdie] at hdone
  obtain ⟨hop, -, -, -, hstate, hslot, -⟩ := hdone
  rw [takeSlot_eq s e c rd kind d0 d1 hdie, hstatus]
  exact ⟨hstate, hslot, hop⟩

end

/-! ### The checks of an issue (R162) -/

/-- The machine after a context issues an operation to handle h, with its descriptor's words at address a and whether they pass. -/
def issueEffect (s : State) (e c : Nat) (rd : BitVec 4) (h kind a : Nat) (d0 d1 : Word) (good : Bool) : State :=
  let n := e / 24 * 12 + h
  let tickets := (ctxOf s e c).tickets
  if 11 < h then faultEnd s e c 2 h
  else if !ownsFor s e (portOwner s n) then faultEnd s e c 3 h
  else if (s.dieAt (e / 24)).freeSlots.isEmpty && (!domainOn s n || (modeFits s n kind && good && decide (tickets.length < 8))) then
    waitForSlot s e c
  else if !domainOn s n then takeSlot (engineFault s e c 4 (ctxOf s e c).pc h) e c rd n kind d0 d1
  else if !modeFits s n kind then faultEnd s e c 2 h
  else if !good then faultEnd s e c 2 a
  else if 8 ≤ tickets.length then faultEnd s e c 2 h
  else takeSlot s e c rd n kind d0 d1

theorem descIn_and (a : Nat) (ok : Bool) : (descIn a && ok) = true ↔ a % 4 = 0 ∧ a + 8 ≤ 1024 ∧ ok = true := by
  simp [descIn, and_assoc]

theorem issueOp_runs {s : State} {e c : Nat} {i : Instr} (h : Runs s e c i) (kind : Nat) (rd rh : BitVec 4)
    (desc : Engine → Ctx → Nat × Word × Word) (ok : Nat → Nat → Word → Word → Bool) :
    let w := desc (s.engAt e) (ctxOf s e c)
    issueOp s e i kind rd rh desc ok = .next (issueEffect s e c rd (regOf s e c rh).toNat kind w.1 w.2.1 w.2.2
      (ok (e / 24 * 12 + (regOf s e c rh).toNat) w.1 w.2.1 w.2.2)) :=
  onCtx_runs _ h

theorem exec_issue_eq {s : State} {e c : Nat} {rd rh ra : BitVec 4} {doff : BitVec 8} {i : Instr} {kind : Nat} {ok : Word → Word → Bool}
    (hi : (i, kind) ∈ [(Instr.issueTw e rd rh ra doff, 0), (.issueSpi e rd rh ra doff, 1), (.issueUart e rd rh ra doff, 2),
      (.issueAna e rd rh ra doff, 3), (.issuePulse e rd rh, 4)])
    (htw : kind = 0 → ok = twOk) (hspi : kind = 1 → ok = spiOk) (huart : kind = 2 → ok = uartOk)
    (hana : kind = 3 → ok = anaOk s (e / 24 * 12 + (regOf s e c rh).toNat)) (h : Runs s e c i) :
    let a := (regOf s e c ra + BitVec.ofNat 32 (doff.toNat * 4)).toNat
    let d0 := if kind = 4 then 0 else Memory.readWord (s.engAt e).scratch a
    let d1 := if kind = 4 then 0 else Memory.readWord (s.engAt e).scratch (a + 4)
    ∃ q good, exec i s = .next (issueEffect s e c rd (regOf s e c rh).toNat kind q d0 d1 good) ∧
      (good = true ↔ kind = 4 ∨ (a % 4 = 0 ∧ a + 8 ≤ 1024 ∧ ok d0 d1 = true)) := by
  intro a d0 d1
  simp only [List.mem_cons, Prod.mk.injEq, List.not_mem_nil, or_false] at hi
  obtain ⟨rfl, rfl⟩ | ⟨rfl, rfl⟩ | ⟨rfl, rfl⟩ | ⟨rfl, rfl⟩ | ⟨rfl, rfl⟩ := hi
  · obtain rfl := htw rfl
    exact ⟨a, descIn a && twOk d0 d1, (exec_issueTw e rd rh ra doff s).trans (issueOp_runs h ..),
      (descIn_and _ _).trans (or_iff_right (by decide)).symm⟩
  · obtain rfl := hspi rfl
    exact ⟨a, descIn a && spiOk d0 d1, (exec_issueSpi e rd rh ra doff s).trans (issueOp_runs h ..),
      (descIn_and _ _).trans (or_iff_right (by decide)).symm⟩
  · obtain rfl := huart rfl
    exact ⟨a, descIn a && uartOk d0 d1, (exec_issueUart e rd rh ra doff s).trans (issueOp_runs h ..),
      (descIn_and _ _).trans (or_iff_right (by decide)).symm⟩
  · obtain rfl := hana rfl
    exact ⟨a, descIn a && anaOk s (e / 24 * 12 + (regOf s e c rh).toNat) d0 d1,
      (exec_issueAna e rd rh ra doff s).trans (issueOp_runs h ..), (descIn_and _ _).trans (or_iff_right (by decide)).symm⟩
  · exact ⟨0, true, (exec_issuePulse e rd rh s).trans (issueOp_runs h ..), by simp⟩

section
variable {s : State} {e c h kind a : Nat} (rd : BitVec 4) (d0 d1 : Word) {good : Bool}

theorem issueEffect_range (hh : 11 < h) : issueEffect s e c rd h kind a d0 d1 good = faultEnd s e c 2 h := if_pos hh

variable (hh : h ≤ 11)
include hh

theorem issueEffect_foreign (hown : ¬Owns s e (portOwner s (e / 24 * 12 + h))) :
    issueEffect s e c rd h kind a d0 d1 good = faultEnd s e c 3 h := by
  simp [issueEffect, Nat.not_lt.mpr hh, (ownsFor_eq_false _ _ _).mpr hown]

variable (hown : Owns s e (portOwner s (e / 24 * 12 + h)))
include hown

/-- Past the domain, an issue that fails one of the three checks ends with OPERAND. -/
theorem issueEffect_unfit (hon : domainOn s (e / 24 * 12 + h) = true)
    (hfits : ¬(modeFits s (e / 24 * 12 + h) kind = true ∧ good = true ∧ (ctxOf s e c).tickets.length < 8)) :
    ∃ q, issueEffect s e c rd h kind a d0 d1 good = faultEnd s e c 2 q := by
  have howns := (ownsFor_iff s e _).mpr hown
  cases hmode : modeFits s (e / 24 * 12 + h) kind with
  | false => exact ⟨h, by simp [issueEffect, Nat.not_lt.mpr hh, howns, hon, hmode]⟩
  | true =>
    cases hgood : good with
    | false => exact ⟨a, by simp [issueEffect, Nat.not_lt.mpr hh, howns, hon, hmode]⟩
    | true =>
      have hfull : 8 ≤ (ctxOf s e c).tickets.length := Nat.not_lt.mp fun hlt => hfits ⟨hmode, hgood, hlt⟩
      exact ⟨h, by simp [issueEffect, Nat.not_lt.mpr hh, howns, hon, hmode, hfull, Nat.not_lt.mpr hfull]⟩

theorem issueEffect_off (hoff : domainOn s (e / 24 * 12 + h) = false) (hfree : (s.dieAt (e / 24)).freeSlots ≠ []) :
    issueEffect s e c rd h kind a d0 d1 good =
      takeSlot (engineFault s e c 4 (ctxOf s e c).pc h) e c rd (e / 24 * 12 + h) kind d0 d1 := by
  simp [issueEffect, Nat.not_lt.mpr hh, (ownsFor_iff _ _ _).mpr hown, hoff, hfree]

variable (hfits : modeFits s (e / 24 * 12 + h) kind = true ∧ good = true ∧ (ctxOf s e c).tickets.length < 8)
include hfits

theorem issueEffect_waits (hfree : (s.dieAt (e / 24)).freeSlots = []) :
    issueEffect s e c rd h kind a d0 d1 good = waitForSlot s e c := by
  simp [issueEffect, Nat.not_lt.mpr hh, (ownsFor_iff _ _ _).mpr hown, hfits, hfree]

theorem issueEffect_takes (hon : domainOn s (e / 24 * 12 + h) = true) (hfree : (s.dieAt (e / 24)).freeSlots ≠ []) :
    issueEffect s e c rd h kind a d0 d1 good = takeSlot s e c rd (e / 24 * 12 + h) kind d0 d1 := by
  simp [issueEffect, Nat.not_lt.mpr hh, (ownsFor_iff _ _ _).mpr hown, hon, hfits, hfree, Nat.not_le.mpr hfits.2.2]

end

/-! ### An issue that waits, and one with the domain off (R162, R85) -/

theorem waitForSlot_effect (s : State) (e c : Nat) :
    ((waitForSlot s e c).engAt e).running = none ∧ ctxOf (waitForSlot s e c) e c = { ctxOf s e c with slotWait := true } ∧
      ((waitForSlot s e c).dieAt (e / 24)).slotWaiters = (s.dieAt (e / 24)).slotWaiters ++ [(e, c)] ∧
      ((waitForSlot s e c).dieAt (e / 24)).slots = (s.dieAt (e / 24)).slots := by
  simp [waitForSlot, leaveEngine, ctxOf, State.modCtx, engDie, Engine.ctxAt]

theorem engineFault_besideRecords (s : State) (e c detail pc operand d : Nat) :
    ((engineFault s e c detail pc operand).dieAt d).besideRecords = (s.dieAt d).besideRecords := by
  have hrecord := fun p mk => faultRecord_besideRecords
    (s.modEng e fun y => { y with faults := y.faults + 1, lastFault := detail % 256 + pc % 1024 * 256 }) (engDie e) 1 detail p
    (faultKey 0x01 detail e) mk d
  unfold engineFault
  dsimp only
  split
  · rw [dieAt_of_die ((violationCount_changes _ _) .die rfl)]
    exact hrecord _ _
  · exact hrecord _ _

theorem freeSlots_of_slots {x y : Die} (h : y.slots = x.slots) : y.freeSlots = x.freeSlots := by
  simp only [Die.freeSlots, Die.slotAt, h]

theorem engineFault_domainOn (s : State) (e c detail pc operand n : Nat) :
    domainOn (engineFault s e c detail pc operand) n = domainOn s n := by
  have hlogic := (congrArg Die.logicOn (engineFault_besideRecords s e c detail pc operand (portDie n)) :)
  rw [domainOn, portAt_of_port ((engineFault_changes s e c detail pc operand) .port rfl), domainOn]
  exact congrArg _ hlogic

/-- Settles O6: an issue by the first of its checks that fails, else by the slot that it takes or waits for. -/
theorem portOperationsTakeASlotAndATicket : Obligations.PortOperationsTakeASlotAndATicket := by
  intro s e c rd rh ra doff i kind ok x y h n d a w0 w1 fits free hi htw hspi huart hana hruns
  obtain ⟨q, good, hexec, hgood⟩ := exec_issue_eq hi htw hspi huart hana hruns
  obtain ⟨-, hrun, -, -, -, hpc, -⟩ := id hruns
  have hdie : h ≤ 11 → n / 12 = e / 24 := fun hh => by omega
  have hpasses : fits → modeFits s n kind = true ∧ good = true ∧ y.tickets.length < 8 := fun ⟨hmode, hdesc, hroom⟩ =>
    ⟨hmode, hgood.mpr hdesc, hroom⟩
  have hfails {f q' : Nat} (hf : f < 256) (heff : _ = faultEnd s e c f q') : ∃ t, exec i s = .next t ∧ EndsInFault s t e c f :=
    ⟨_, hexec.trans (congrArg _ heff), faultEnd_ends s e c f q' hf hpc hrun⟩
  refine ⟨fun hh => ?_, fun hh hown => ?_, fun hh hown hon hfits => ?_, fun hh hown hon hfits hfree => ?_,
    fun hh hown hon hfits hfree => ?_, fun hh hown hoff hfree => ?_⟩
  · exact hfails (by decide) (issueEffect_range rd _ _ hh)
  · exact hfails (by decide) (issueEffect_foreign rd _ _ hh hown)
  · obtain ⟨q', heff⟩ := issueEffect_unfit (a := q) rd w0 w1 hh hown hon fun ⟨hmode, hdesc, hroom⟩ =>
      hfits ⟨hmode, hgood.mp hdesc, hroom⟩
    exact hfails (by decide) heff
  · have hissued := takeSlot_issued s e c rd kind w0 w1 (hdie hh)
    have hmem := takenSlot_mem hfree
    have hticket := ticketOf_freeSlot hmem ((s.dieAt d).slotAt (takenSlot s e)).gen
    rw [takenTicket, hticket] at hissued
    obtain ⟨⟨hstate, hport, hkind, heng, hctx, hentry, hd0, hd1⟩, hrd, htickets, hpcs, hengine⟩ := hissued
    rw [slotOf, hdie hh] at hstate hport hkind heng hctx hentry hd0 hd1
    refine ⟨_, takenSlot s e, hexec.trans (congrArg _ (issueEffect_takes rd _ _ hh hown (hpasses hfits) hon hfree)), hmem,
      hstate, hport, hkind, heng, hctx, hentry, hd0, hd1, hrd, htickets, hpcs, ?_, takeSlot_changes s e c rd n kind w0 w1⟩
    rw [hengine]
  · obtain ⟨hleaves, hwaits, hqueue, hslots⟩ := waitForSlot_effect s e c
    exact ⟨_, hexec.trans (congrArg _ (issueEffect_waits rd _ _ hh hown (hpasses hfits) hfree)), hleaves, hwaits, hqueue, hslots,
      waitForSlot_changes s e c⟩
  · let u := engineFault s e c 4 y.pc h
    have hslots : (u.dieAt d).freeSlots = free := freeSlots_of_slots ((engineFault_keepsOps s e c 4 y.pc h).slots d)
    have hlast : 4 % 256 + y.pc % 1024 * 256 = 4 + 256 * y.pc := by rw [Nat.mod_eq_of_lt hpc, Nat.mul_comm]
    have hmem := takenSlot_mem (s := u) (e := e) (hslots ▸ hfree)
    have hissued := takeSlot_issued u e c rd kind w0 w1 (hdie hh)
    obtain ⟨hstate, hstatus, hop⟩ := takeSlot_off u e c rd kind w0 w1 (hdie hh) ((engineFault_domainOn s e c 4 y.pc h n).trans hoff)
    have heng := engineFault_engAt s e c 4 y.pc h
    rw [slotOf, hdie hh] at hstate hstatus
    refine ⟨_, hexec.trans (congrArg _ (issueEffect_off rd _ _ hh hown hoff hfree)), ?_, ?_,
      ⟨takenSlot u e, hslots ▸ hmem, hstate, hstatus⟩, hop, ?_⟩
    · rw [hissued.engine, heng]
    · rw [hissued.engine, heng]
      exact hlast
    · rw [hissued.pc, (engineFault_keepsRegs s e c 4 y.pc h).ctxOf]

end Sys2Proof.Machine
end

section
/-! PROOF. Entries at their nominal instants and the contexts that they launch: the layer of O51. -/

namespace Sys2Proof.Machine

/-! ### Whether an entry is due (R184, R187) -/

theorem entryDue_none {s : State} {d i : Nat} (h : (s.dieAt d).lost = true ∨ (s.dieAt d).logicOn = false ∨ i ∈ (s.dieAt d).instants ∨
    (s.dieAt d).active.entries[i]? = none ∨ (s.dieAt d).frameStart = none) : entryDue s d i = none := by
  unfold entryDue
  dsimp only
  split
  · rfl
  · next hon =>
    simp only [Bool.or_eq_true, Bool.not_eq_true', List.contains_iff_mem, not_or, Bool.not_eq_true, Bool.not_eq_false] at hon
    obtain ⟨⟨hlost, hlogic⟩, hinst⟩ := hon
    obtain h | h | h | h | h := h
    · simp [h] at hlost
    · simp [h] at hlogic
    · exact absurd h hinst
    · rw [Die.entryAt, h]
    · cases (s.dieAt d).entryAt i <;> simp [nominalAt, h]

theorem entryDue_some {s : State} {d i : Nat} {r : RotaEntry} {fs : Int} (hlost : (s.dieAt d).lost = false)
    (hlogic : (s.dieAt d).logicOn = true) (hinst : i ∉ (s.dieAt d).instants) (hentry : (s.dieAt d).active.entries[i]? = some r)
    (hframe : (s.dieAt d).frameStart = some fs) (hlen : (s.dieAt d).active.frameLen ≠ 0)
    (hcycle : (s.dieAt d).frameN % ((field r.flags 7 4 + 1 : Nat) : Int) = ((r.offset / (s.dieAt d).active.frameLen : Nat) : Int))
    (hcome : fs + ((r.offset % (s.dieAt d).active.frameLen * 10 * 2 ^ 32 : Nat) : Int) ≤ (fineOf s.time : Int)) :
    entryDue s d i = some (r, fs + ((r.offset % (s.dieAt d).active.frameLen * 10 * 2 ^ 32 : Nat) : Int)) := by
  have hnominal : nominalAt (s.dieAt d) r = some (fs + ((r.offset % (s.dieAt d).active.frameLen * 10 * 2 ^ 32 : Nat) : Int)) := by
    have hdue : (s.dieAt d).frameN % (r.cycle : Int) = entryK (s.dieAt d).active r := by
      rw [entryK, if_neg hlen]
      exact hcycle
    rw [nominalAt, hframe]
    dsimp only
    rw [if_pos hdue, entryIn, if_neg hlen]
    rfl
  rw [entryDue]
  simp only [hlost, hlogic, List.contains_eq_mem, hinst, Die.entryAt, hentry, hnominal]
  exact if_pos hcome

section
variable {s : State} {d i : Nat} {r : RotaEntry} {f : Int} (hd : d < usedDies s)
include hd

theorem exec_entryNominalInstant_idle (hdue : entryDue s d i = none) : exec (.entryNominalInstant d i) s = .next s := by
  rw [exec_entryNominalInstant, execEntryNominalInstant, withDie_of_lt _ hd, hdue]

variable (hdue : entryDue s d i = some (r, f))
include hdue

theorem exec_entryNominalInstant_due :
    exec (.entryNominalInstant d i) s = .next (given (entryFirst s d i f) s (nominalInstant s d i r f)) := by
  rw [exec_entryNominalInstant, execEntryNominalInstant, withDie_of_lt _ hd, hdue]

theorem exec_contextLaunch_due : exec (.contextLaunch d i) s =
    .next (given (entryFirst s d i f && !r.gap && (!r.drdy || (edgeFor s d r (fineStamp f)).isSome)) s (nominalInstant s d i r f)) := by
  rw [exec_contextLaunch, execContextLaunch, withDie_of_lt _ hd, hdue]

end

/-! ### What an entry does at its nominal instant (R187, R188, R194) -/

/-- The machine once an entry's nominal instant of the frame is taken. -/
def instantTaken (s : State) (d i : Nat) : State := s.modDie d fun y => { y with instants := i :: y.instants }

/-- The window of an entry as it opens. -/
def entryWindow (s : State) (d i : Nat) (r : RotaEntry) (nominal : Stamp) : OpenWindow :=
  { entry := i, nominal := nominal, engine := entryEngine (s.dieAt d) d r, endAt := s.time.elapsed + r.budget * 250 }

/-- The machine once an entry's window has opened. -/
def windowOpened (s : State) (d i : Nat) (r : RotaEntry) (nominal : Stamp) : State :=
  (instantTaken s d i).modDie d fun y => { y with opens := y.opens ++ [entryWindow s d i r nominal] }

theorem instantTaken_dieAt (s : State) (d i : Nat) :
    (instantTaken s d i).dieAt d = { s.dieAt d with instants := i :: (s.dieAt d).instants } := State.modDie_dieAt ..

theorem windowOpened_dieAt (s : State) (d i : Nat) (r : RotaEntry) (nominal : Stamp) : (windowOpened s d i r nominal).dieAt d =
    { s.dieAt d with
      instants := i :: (s.dieAt d).instants, opens := (s.dieAt d).opens ++ [entryWindow s d i r nominal] } := by
  rw [windowOpened, State.modDie_dieAt, instantTaken_dieAt]

theorem windowOpened_changes (s : State) (d i : Nat) (r : RotaEntry) (nominal : Stamp) :
    Changes [.die] s (windowOpened s d i r nominal) :=
  .after (.after (.refl _ _) (State.modDie_changes _ _ _) rfl) (State.modDie_changes _ _ _) rfl

section
variable {s : State} {d i : Nat} {r : RotaEntry} (f : Int)

theorem nominalInstant_gap (hgap : bitOf r.flags 1 = true) : nominalInstant s d i r f =
    openGap (windowOpened s d i r (fineStamp f)) (d * 12 + r.engine % 12) (bitOf r.flags 3) (entryWindow s d i r (fineStamp f)).endAt :=
  if_pos hgap

variable (hgap : bitOf r.flags 1 = false)
include hgap

theorem nominalInstant_skipped
    (h : parishLaunches s (engParish s (d * 24 + r.engine)) d = false ∨ engNamed s (entryEngine (s.dieAt d) d r) = false) :
    nominalInstant s d i r f = instantTaken s d i := by
  have hskip : (!parishLaunches s (engParish s (d * 24 + r.engine)) d || !engNamed s (entryEngine (s.dieAt d) d r)) = true := by
    simpa using h
  simp [nominalInstant, RotaEntry.gap, hgap, hskip, instantTaken]

variable (hlaunches : parishLaunches s (engParish s (d * 24 + r.engine)) d = true)
  (hnamed : engNamed s (entryEngine (s.dieAt d) d r) = true)
include hlaunches hnamed

theorem nominalInstant_damaged (h : (s.dieAt d).rotaNone = true ∨ i ∈ (s.dieAt d).rotaDamaged) :
    nominalInstant s d i r f = missEntry (instantTaken s d i) d i 6 (fineStamp f) := by
  simp [nominalInstant, RotaEntry.gap, hgap, hlaunches, hnamed, h, instantTaken]

variable (hrota : (s.dieAt d).rotaNone = false) (hsound : i ∉ (s.dieAt d).rotaDamaged)
include hrota hsound

theorem nominalInstant_halted (h : engHalted s (entryEngine (s.dieAt d) d r) = true) :
    nominalInstant s d i r f = missEntry (instantTaken s d i) d i 4 (fineStamp f) := by
  simp [nominalInstant, RotaEntry.gap, hgap, hlaunches, hnamed, hrota, hsound, h, instantTaken]

variable (hruns : engHalted s (entryEngine (s.dieAt d) d r) = false)
include hruns

theorem nominalInstant_plain (hdrdy : bitOf r.flags 0 = false) : nominalInstant s d i r f =
    launchEntry (windowOpened s d i r (fineStamp f)) d i r (entryWindow s d i r (fineStamp f)) (fineStamp f) := by
  simp [nominalInstant, RotaEntry.gap, RotaEntry.drdy, hgap, hlaunches, hnamed, hrota, hsound, hruns, hdrdy, windowOpened, instantTaken,
    entryWindow, State.ticks]

theorem nominalInstant_waits (hdrdy : bitOf r.flags 0 = true) (hedge : edgeFor s d r (fineStamp f) = none) :
    nominalInstant s d i r f = windowOpened s d i r (fineStamp f) := by
  simp [nominalInstant, RotaEntry.gap, RotaEntry.drdy, hgap, hlaunches, hnamed, hrota, hsound, hruns, hdrdy, hedge, windowOpened,
    instantTaken, entryWindow, State.ticks]

theorem nominalInstant_edge {stamp : Stamp} (hdrdy : bitOf r.flags 0 = true) (hedge : edgeFor s d r (fineStamp f) = some stamp) :
    nominalInstant s d i r f =
      launchEntry (windowOpened s d i r (fineStamp f)) d i r (entryWindow s d i r (fineStamp f)) stamp := by
  simp [nominalInstant, RotaEntry.gap, RotaEntry.drdy, hgap, hlaunches, hnamed, hrota, hsound, hruns, hdrdy, hedge, windowOpened,
    instantTaken, entryWindow, State.ticks]

end

/-! ### The context that a launch takes (R151) -/

/-- A context number of an engine's bench that no live context holds. -/
abbrev CtxFree (x : Engine) (c : Nat) : Prop := c < x.bench ∧ (x.ctxAt c).live = false

theorem freeContext_eq_hint {x : Engine} {hint : Nat} (h : CtxFree x hint) : freeContext x hint = some hint := by
  simp [freeContext, h]

theorem freeContext_eq_find {x : Engine} {hint : Nat} (h : ¬CtxFree x hint) :
    freeContext x hint = (List.range x.bench).find? fun c => decide (c < x.bench) && !(x.ctxAt c).live := by
  have hbusy : (decide (hint < x.bench) && !(x.ctxAt hint).live) = false := by simpa using h
  simp [freeContext, hbusy]

/-- The hinted context when it is free, else the lowest free one. -/
theorem freeContext_spec {x : Engine} (hint : Nat) (h : ∃ c, CtxFree x c) : ∃ c, freeContext x hint = some c ∧ CtxFree x c ∧
    (CtxFree x hint → c = hint) ∧ (¬CtxFree x hint → ∀ j, j < c → ¬CtxFree x j) := by
  by_cases hhint : CtxFree x hint
  · exact ⟨hint, freeContext_eq_hint hhint, hhint, fun _ => rfl, fun hbusy => absurd hhint hbusy⟩
  · obtain ⟨c, hc⟩ := h
    cases hfind : (List.range x.bench).find? fun c => decide (c < x.bench) && !(x.ctxAt c).live with
    | none =>
      have hnone := List.find?_eq_none.mp hfind c (List.mem_range.mpr hc.1)
      simp [hc] at hnone
    | some k =>
      obtain ⟨hk, -, hlower⟩ := List.find?_range_eq_some.mp hfind
      refine ⟨k, (freeContext_eq_find hhint).trans hfind, by simpa using hk, fun hfree => absurd hfree hhint, fun _ j hj hfree => ?_⟩
      have hbusy := hlower j hj
      simp [hfree] at hbusy

theorem freeContext_none {x : Engine} (hint : Nat) (h : ∀ c, ¬CtxFree x c) : freeContext x hint = none := by
  rw [freeContext_eq_find (h hint), List.find?_eq_none]
  intro c _ hc
  exact h c (by simpa using hc)

/-! ### Launches (R151, R188) -/

/-- The machine once a context is live and ready on an engine. -/
def contextLaunched (s : State) (e c : Nat) (y : Ctx) : State :=
  makeReady (s.modEng e fun z => { z with
    ctxs := tput z.ctxs c y, launches := z.launches + 1
    peak := max z.peak ((tput z.ctxs c y).filter (fun v => v.2.live)).length }) e c

/-- The context of an entry as its launch makes it. -/
def entryCtx (i : Nat) (r : RotaEntry) (w : OpenWindow) (stamp : Stamp) : Ctx :=
  { live := true, pc := r.entryPt, cstamp := stamp, launchStamp := stamp, entry := i, flags := r.flags, budgetEnd := w.endAt }

theorem mem_readyWith (x : Engine) (t c : Nat) : c ∈ readyWith x t c := by
  unfold readyWith
  split
  · next h => exact List.contains_iff_mem.mp h
  · split
    · simp
    · simp

theorem contextLaunched_effect (s : State) (e c : Nat) (y : Ctx) :
    let t := contextLaunched s e c y
    ctxOf t e c = { y with readyAt := s.time.elapsed } ∧ c ∈ (t.engAt e).ready ∧ (t.engAt e).launches = (s.engAt e).launches + 1 ∧
      (∀ k, k ≠ c → ctxOf t e k = ctxOf s e k) ∧ ∀ j, j ≠ e → t.engAt j = s.engAt j := by
  refine ⟨?_, ?_, ?_, fun k hk => ?_, fun j hj => ?_⟩
  · simp [contextLaunched, makeReady, ctxOf, State.modCtx, Engine.ctxAt, State.ticks]
  · simpa [contextLaunched, makeReady, State.modCtx] using mem_readyWith _ _ _
  · simp [contextLaunched, makeReady, State.modCtx]
  · simp [contextLaunched, makeReady, ctxOf, State.modCtx, Engine.ctxAt, hk]
  · simp [contextLaunched, makeReady, State.modCtx, hj]

section
variable {s : State} (d i : Nat) {r : RotaEntry} {w : OpenWindow} (stamp : Stamp) (hruns : engHalted s w.engine = false)
include hruns

theorem launchEntry_some {c : Nat} (h : freeContext (s.engAt w.engine) r.hint = some c) : launchEntry s d i r w stamp =
    markWindow (contextLaunched s w.engine c (entryCtx i r w stamp)) d i fun v => { v with ctx := some c } := by
  simp [launchEntry, hruns, h, contextLaunched, entryCtx]

theorem launchEntry_none (h : freeContext (s.engAt w.engine) r.hint = none) : launchEntry s d i r w stamp =
    missEntry (markWindow (engineFault s w.engine r.hint 7 r.entryPt i) d i fun v => { v with done := true }) d i 2 w.nominal := by
  simp [launchEntry, hruns, h]

end

/-! ### What a miss and a window leave of their die (R188) -/

/-- The windows of a die, its missed entries, and the entries whose instants the frame has taken. -/
def Die.entries (x : Die) : (List OpenWindow × BitVec 32 × Tbl Nat) × List Nat := (x.windows, x.instants)

theorem missEntry_entries (s : State) (d i cause : Nat) (st : Stamp) :
    ((missEntry s d i cause st).dieAt d).entries = ((s.dieAt d).countMiss cause).entries := by
  have h := missEntry_besideOffers s d i cause st d
  rw [State.modDie_dieAt] at h
  exact (congrArg Die.entries h :)

/-- A missed entry counts by its cause, and nothing else of the die's entries changes. -/
theorem missEntry_missed {s : State} {d : Nat} (i cause : Nat) (st : Stamp) :
    let y := (missEntry s d i cause st).dieAt d
    y.missed = (s.dieAt d).missed + 1 ∧ tget 0 y.missedBy cause = counted 65535 (tget 0 (s.dieAt d).missedBy cause) ∧
      y.instants = (s.dieAt d).instants ∧ y.opens = (s.dieAt d).opens := by
  intro y
  have h := missEntry_entries s d i cause st
  have hmissed : y.missed = (s.dieAt d).missed + 1 := (congrArg (fun v => v.1.2.1) h :)
  have hcauses : y.missedBy = tput (s.dieAt d).missedBy cause (satInc 65535 (tget 0 (s.dieAt d).missedBy cause)) :=
    (congrArg (fun v => v.1.2.2) h :)
  have hinstants : y.instants = (s.dieAt d).instants := (congrArg (fun v => v.2) h :)
  have hopens : y.opens = (s.dieAt d).opens := (congrArg (fun v => v.1.1) h :)
  refine ⟨hmissed, ?_, hinstants, hopens⟩
  rw [hcauses, tget_tput_same]
  rfl

/-- The missed entries of a die and the entries whose instants the frame has taken. -/
def Die.misses (x : Die) : BitVec 32 × Tbl Nat × List Nat := (x.missed, x.missedBy, x.instants)

/-- A miss on a die whose counts are known. -/
theorem missEntry_counts {s : State} {d : Nat} {m : BitVec 32} {by_ : Tbl Nat} {taken : List Nat}
    (h : (s.dieAt d).misses = (m, by_, taken)) (i cause : Nat) (st : Stamp) :
    let y := (missEntry s d i cause st).dieAt d
    y.missed = m + 1 ∧ tget 0 y.missedBy cause = counted 65535 (tget 0 by_ cause) ∧ y.instants = taken := by
  simp only [Die.misses, Prod.mk.injEq] at h
  obtain ⟨rfl, rfl, rfl⟩ := h
  obtain ⟨hmissed, hcause, hinstants, -⟩ := missEntry_missed (s := s) (d := d) i cause st
  exact ⟨hmissed, hcause, hinstants⟩

theorem markWindow_dieAt (s : State) (d i : Nat) (g : OpenWindow → OpenWindow) : (markWindow s d i g).dieAt d =
    { s.dieAt d with opens := (s.dieAt d).opens.map fun v => if v.entry = i then g v else v } := State.modDie_dieAt ..

theorem engineFault_misses (s : State) (e c detail pc operand d : Nat) :
    ((engineFault s e c detail pc operand).dieAt d).misses = (s.dieAt d).misses :=
  (congrArg Die.misses (engineFault_besideRecords s e c detail pc operand d) :)

/-! ### A gap (R194) -/

/-- The window of calibration of a port. -/
def Port.gapWindow (x : Port) : Bool × Nat := (x.gapOpen, x.calUntil)

theorem startItem_entries (s : State) (n d : Nat) : ((startItem s n).dieAt d).entries = (s.dieAt d).entries := by
  unfold startItem
  dsimp only
  split
  · split
    · rfl
    · split
      · rfl
      · split
        · exact modDie_keeps Die.entries _ _ _ fun _ => rfl
        · exact modDie_keeps Die.entries _ _ _ fun _ => rfl
  · rfl

theorem startItem_gapWindow (s : State) (n : Nat) : ((startItem s n).portAt n).gapWindow = (s.portAt n).gapWindow := by
  unfold startItem
  dsimp only
  split
  · split
    · rfl
    · split
      · rw [State.modPort_portAt]
        rfl
      · split
        · simp [emitterStart, Port.gapWindow]
        · simp [Port.gapWindow]
  · rw [State.modPort_portAt]
    rfl

theorem openGap_effect (s : State) (n : Nat) (emitter : Bool) (endAt d : Nat) :
    ((openGap s n emitter endAt).dieAt d).entries = (s.dieAt d).entries ∧
      ((openGap s n emitter endAt).portAt n).gapWindow = (true, endAt) := by
  unfold openGap
  dsimp only
  split
  · exact ⟨rfl, by rw [State.modPort_portAt]; rfl⟩
  · exact ⟨startItem_entries _ _ _, by rw [startItem_gapWindow, State.modPort_portAt]; rfl⟩

/-! ### A due entry that launches, or finds no context (R151) -/

section
variable {s : State} {d i : Nat} {r : RotaEntry} (nominal stamp : Stamp) (hruns : engHalted s (entryEngine (s.dieAt d) d r) = false)
include hruns

theorem launchEntry_launches (hfree : ∃ c, CtxFree (s.engAt (entryEngine (s.dieAt d) d r)) c) :
    let w := entryWindow s d i r nominal
    let x := s.engAt w.engine
    let t := launchEntry (windowOpened s d i r nominal) d i r w stamp
    ∃ c, CtxFree x c ∧ (CtxFree x r.hint → c = r.hint) ∧ (¬CtxFree x r.hint → ∀ j, j < c → ¬CtxFree x j) ∧
      ctxOf t w.engine c = { entryCtx i r w stamp with readyAt := s.time.elapsed } ∧ c ∈ (t.engAt w.engine).ready ∧
      (t.engAt w.engine).launches = x.launches + 1 ∧ (∀ k, k ≠ c → ctxOf t w.engine k = ctxOf s w.engine k) ∧
      (∀ j, j ≠ w.engine → t.engAt j = s.engAt j) ∧ { w with ctx := some c } ∈ (t.dieAt d).opens ∧
      (t.dieAt d).missed = (s.dieAt d).missed ∧ Changes [.die, .engine] s t := by
  intro w x t
  obtain ⟨c, htakes, hfree, hhint, hlowest⟩ := freeContext_spec r.hint hfree
  let u := windowOpened s d i r nominal
  have ht : t = markWindow (contextLaunched u w.engine c (entryCtx i r w stamp)) d i fun v => { v with ctx := some c } :=
    launchEntry_some d i stamp hruns htakes
  obtain ⟨hctx, hready, hlaunches, hothers, hengines⟩ := contextLaunched_effect u w.engine c (entryCtx i r w stamp)
  have hdie : (contextLaunched u w.engine c (entryCtx i r w stamp)).dieAt d =
      { s.dieAt d with instants := i :: (s.dieAt d).instants, opens := (s.dieAt d).opens ++ [w] } := windowOpened_dieAt s d i r nominal
  rw [ht]
  refine ⟨c, hfree, hhint, hlowest, hctx, hready, hlaunches, hothers, hengines, ?_, ?_, ?_⟩
  · rw [markWindow_dieAt, hdie]
    exact List.mem_map.mpr ⟨w, List.mem_append_right _ (List.mem_singleton_self w), if_pos rfl⟩
  · rw [markWindow_dieAt, hdie]
  · exact .after (.after (.after (.after (.refl _ _) (windowOpened_changes s d i r nominal) rfl) (State.modEng_changes _ _ _) rfl)
      (makeReady_changes _ _ _) rfl) (markWindow_changes _ _ _ _) rfl

theorem launchEntry_refused (hfree : ∀ c, ¬CtxFree (s.engAt (entryEngine (s.dieAt d) d r)) c) :
    let w := entryWindow s d i r nominal
    let t := launchEntry (windowOpened s d i r nominal) d i r w stamp
    ((t.dieAt d).missed = (s.dieAt d).missed + 1 ∧
      tget 0 (t.dieAt d).missedBy 2 = counted 65535 (tget 0 (s.dieAt d).missedBy 2) ∧
      (t.dieAt d).instants = i :: (s.dieAt d).instants) ∧
      (t.engAt w.engine).faults = (s.engAt w.engine).faults + 1 ∧ (t.engAt w.engine).lastFault = 7 + r.entryPt % 1024 * 256 := by
  intro w t
  let u := windowOpened s d i r nominal
  let v := markWindow (engineFault u w.engine r.hint 7 r.entryPt i) d i fun z => { z with done := true }
  have ht : t = missEntry v d i 2 w.nominal := launchEntry_none d i stamp hruns (freeContext_none _ hfree)
  have hmisses : (v.dieAt d).misses = ((s.dieAt d).missed, (s.dieAt d).missedBy, i :: (s.dieAt d).instants) := by
    rw [markWindow_dieAt]
    refine (engineFault_misses u w.engine r.hint 7 r.entryPt i d).trans ?_
    rw [windowOpened_dieAt]
    rfl
  have heng : t.engAt w.engine = (engineFault u w.engine r.hint 7 r.entryPt i).engAt w.engine := by
    rw [ht]
    exact engAt_of_engine ((missEntry_changes v d i 2 w.nominal) .engine rfl) w.engine
  refine ⟨?_, ?_, ?_⟩
  · rw [ht]
    exact missEntry_counts hmisses i 2 w.nominal
  · rw [heng, engineFault_engAt]
    rfl
  · rw [heng, engineFault_engAt]

end

/-- An entry that is missed before its window opens counts by its cause. -/
theorem missEntry_instantTaken (s : State) (d i cause : Nat) (nominal : Stamp) :
    let t := missEntry (instantTaken s d i) d i cause nominal
    ((t.dieAt d).missed = (s.dieAt d).missed + 1 ∧
      tget 0 (t.dieAt d).missedBy cause = counted 65535 (tget 0 (s.dieAt d).missedBy cause) ∧
      (t.dieAt d).instants = i :: (s.dieAt d).instants) ∧ (t.dieAt d).opens = (s.dieAt d).opens := by
  intro t
  obtain ⟨-, -, -, hopens⟩ := missEntry_missed (s := instantTaken s d i) (d := d) i cause nominal
  refine ⟨missEntry_counts (by rw [instantTaken_dieAt]; rfl) i cause nominal, hopens.trans ?_⟩
  rw [instantTaken_dieAt]

/-- Settles O51: an entry by whether it is due and first, then by the first thing that keeps it from launching. -/
theorem entriesLaunchContextsAtTheirInstants : Obligations.EntriesLaunchContextsAtTheirInstants := by
  intro s d i r fs hd x f nom e w inst opened isFree missed launched
  refine ⟨fun hidle => exec_entryNominalInstant_idle hd (entryDue_none hidle),
    fun hlost hlogic hinst hentry hframe hlen hcycle hcome _ => ?_⟩
  have hdue := entryDue_some hlost hlogic hinst hentry hframe hlen hcycle hcome
  have hnominal := exec_entryNominalInstant_due hd hdue
  have hlaunch := exec_contextLaunch_due hd hdue
  refine ⟨fun hfirst => ?_, fun hfirst => ?_⟩
  · rw [hfirst] at hnominal hlaunch
    exact ⟨hnominal, hlaunch⟩
  rw [hfirst] at hnominal hlaunch
  have hsame (hgap : bitOf r.flags 1 = false) (hready : bitOf r.flags 0 = false ∨ (edgeFor s d r nom).isSome = true) :
      exec (.contextLaunch d i) s = exec (.entryNominalInstant d i) s := by
    have hmay : (true && !r.gap && (!r.drdy || (edgeFor s d r nom).isSome)) = true := by
      simpa [RotaEntry.gap, RotaEntry.drdy, hgap] using hready
    rw [hlaunch, hnominal, hmay]
  refine ⟨fun hgap => ?_, fun hgap => ⟨fun hskip => ?_, fun hlaunches hnamed => ⟨fun hdamaged => ?_, fun hrota hsound hhalted => ?_,
    fun hrota hsound hruns => ⟨fun hdrdy => ⟨?_, fun hfree => ?_, fun hfree => ?_⟩, fun hdrdy hedge => ?_,
      fun stamp hdrdy hedge hfree => ?_⟩⟩⟩⟩
  · have ht := hnominal.trans (congrArg _ (nominalInstant_gap f hgap))
    obtain ⟨hentries, hwindow⟩ := openGap_effect (windowOpened s d i r nom) (d * 12 + r.engine % 12) (bitOf r.flags 3) w.endAt d
    rw [windowOpened_dieAt] at hentries
    have hstays : exec (.contextLaunch d i) s = .next s := by
      rw [hlaunch, RotaEntry.gap, hgap, given]
      rfl
    refine ⟨_, ht, (congrArg (fun v => v.2) hentries :), (congrArg (fun v => v.1.1) hentries :), (congrArg Prod.fst hwindow :),
      (congrArg Prod.snd hwindow :), hstays, ?_⟩
    exact .after (.after (.refl _ _) (windowOpened_changes s d i r nom) rfl) (openGap_changes _ _ _ _) rfl
  · exact hnominal.trans (congrArg _ (nominalInstant_skipped f hgap hskip))
  · obtain ⟨hmiss, hopens⟩ := missEntry_instantTaken s d i 6 nom
    exact ⟨_, hnominal.trans (congrArg _ (nominalInstant_damaged f hgap hlaunches hnamed hdamaged)), hmiss, hopens⟩
  · obtain ⟨hmiss, hopens⟩ := missEntry_instantTaken s d i 4 nom
    exact ⟨_, hnominal.trans (congrArg _ (nominalInstant_halted f hgap hlaunches hnamed hrota hsound hhalted)), hmiss, hopens⟩
  · exact hsame hgap (.inl hdrdy)
  · have ht := hnominal.trans (congrArg _ (nominalInstant_plain f hgap hlaunches hnamed hrota hsound hruns hdrdy))
    exact ⟨_, (hsame hgap (.inl hdrdy)).trans ht, launchEntry_launches nom nom hruns hfree⟩
  · have ht := hnominal.trans (congrArg _ (nominalInstant_plain f hgap hlaunches hnamed hrota hsound hruns hdrdy))
    exact ⟨_, (hsame hgap (.inl hdrdy)).trans ht, launchEntry_refused nom nom hruns hfree⟩
  · refine ⟨hnominal.trans (congrArg _ (nominalInstant_waits f hgap hlaunches hnamed hrota hsound hruns hdrdy hedge)), ?_⟩
    rw [hlaunch, RotaEntry.gap, hgap, RotaEntry.drdy, hdrdy, hedge]
    rfl
  · have ht := hnominal.trans (congrArg _ (nominalInstant_edge f hgap hlaunches hnamed hrota hsound hruns hdrdy hedge))
    exact ⟨_, (hsame hgap (.inr (Option.isSome_iff_exists.mpr ⟨stamp, hedge⟩))).trans ht, ht, launchEntry_launches nom stamp hruns hfree⟩

end Sys2Proof.Machine
end

section
/-! PROOF. O50: a refused NEXT_IMAGE of a parish whose host is asleep restarts SLEEP_TIME. -/

namespace Sys2Proof.Machine

/-- A write of one object without the rights is a violation and changes nothing else (R290), where its access stays on die 0. -/
theorem writeOne_barred {s : State} {w : Who} {i sub d : Nat} {l : Lay} {r : ObjRow} (b : List Byte) (hnative : nativeIndex s i = i)
    (hnear : forwardFor s w i sub = s) (hfind : findObj s i sub = some (l, r)) (hbarred : writeBarred s w i l r = some d) :
    writeOne s w i sub b = answered (violation s d w.parish 2 i sub w.op w.session) 0x0201 := by
  have hcode : entryCode s w i sub b = 0x0201 := by simp [entryCode, hfind, hbarred]
  have hleaves : entryLeaves s s w i sub b 0x0201 = violation s d w.parish 2 i sub w.op w.session := by
    simp [entryLeaves, hfind, hbarred]
  simp [writeOne, writeEntries, hnative, hnear, judgeEntries, hcode, hleaves, worstCode, withStatus, answered]

/-- The hub is in IDLE and has counted one tick without activity (R405); the host of parish 15 is asleep, and no parish owns a rota. -/
def sleepingHostState : State := { State.reset with
  dictReady := true
  power := { State.reset.power with state := 1, vinOk := true }
  parish := [(15, { hostAsleep := true })]
  timers := { sleepRun := 1 } }

theorem sleepingHostState_next : exec (.nextImageWrite 0 15 0 []) sleepingHostState =
    .next (answered (violation sleepingHostState 0 15 2 0x6C00 1 2 0) 0x0201) := by
  have hwrite : exec (.nextImageWrite 0 15 0 []) sleepingHostState =
      .next (writeOne sleepingHostState (sender sleepingHostState 15 0 true) 0x6C00 1 []) := rfl
  have hfind : findObj sleepingHostState 0x6C00 1 = some (.rota 0, cfgOwn 1 (.blob 36944 (0, 0))) := by decide
  have hnear : forwardFor sleepingHostState (sender sleepingHostState 15 0 true) 0x6C00 1 = sleepingHostState := by
    have hdie : keyDie sleepingHostState (okey 0x6C00 1) = some 0 := by decide
    rw [forwardFor, hdie]
    exact if_pos (.inl rfl)
  rw [hwrite, writeOne_barred [] (by decide) hnear hfind (d := 0) (by decide)]
  rfl

/-- The record of the violation names the parish: a reason for the crier (R245), and so activity (R405). -/
theorem sleepingHostState_violation_restarts : (violation sleepingHostState 0 15 2 0x6C00 1 2 0).timers.sleepRun = 0 := by
  decide

/-- Refutes O50: the clause of a NEXT_IMAGE by a parish other than the rota's owner lists no timers among what changes, with no
hypothesis on the host of that parish. In `sleepingHostState` it is asleep and WAKE_ON is at its default, so the fault record of the
violation is a crier reason: SLEEP_TIME starts anew. -/
theorem not_commitsApplyAndFramesBegin : ¬ Obligations.CommitsApplyAndFramesBegin := by
  intro h
  obtain ⟨himage, -⟩ := h
  obtain ⟨hforeign, -⟩ := himage sleepingHostState 0 15 0 [] (by decide) (by decide) (by decide) (by decide)
  obtain ⟨t, hexec, -, -, hchanges⟩ := hforeign (by decide)
  obtain rfl := Host.Outcome.next.inj (sleepingHostState_next.symm.trans hexec)
  have htimers : (violation sleepingHostState 0 15 2 0x6C00 1 2 0).timers = sleepingHostState.timers := hchanges .timers rfl
  exact absurd (sleepingHostState_violation_restarts.symm.trans (congrArg Timers.sleepRun htimers)) (by decide)

end Sys2Proof.Machine
end

section
/-! PROOF. What becomes of a record as it enters a ring, and as the offers after it are made: the layer of O53. -/

namespace Sys2Proof.Machine

/-! ### Room in a ring (R239) -/

theorem recBytes_cons (r : Rec) (l : List Rec) : recBytes (r :: l) = r.size + recBytes l := by
  have hacc (a : Nat) (l : List Rec) : l.foldl (fun a r => a + r.size) a = a + recBytes l := by
    induction l generalizing a with
    | nil => rfl
    | cons r l ih => rw [recBytes, List.foldl_cons, List.foldl_cons, ih, ih, Nat.add_assoc, Nat.zero_add]
  rw [recBytes, List.foldl_cons, hacc, Nat.zero_add]

/-- The bytes of a list's undelivered records. -/
def undeliveredBytes (l : List Rec) : Nat := recBytes (l.filter fun r => !r.delivered)

theorem undeliveredBytes_cons_delivered {r : Rec} (l : List Rec) (h : r.delivered = true) :
    undeliveredBytes (r :: l) = undeliveredBytes l := by
  rw [undeliveredBytes, List.filter_cons_of_neg (by simp [h]), undeliveredBytes]

theorem undeliveredBytes_cons_undelivered {r : Rec} (l : List Rec) (h : r.delivered = false) :
    undeliveredBytes (r :: l) = r.size + undeliveredBytes l := by
  rw [undeliveredBytes, List.filter_cons_of_pos (by simp [h]), recBytes_cons, undeliveredBytes]

/-- Only records of the ring stay in it. -/
theorem mem_of_mem_dropDelivered {n : Nat} {l : List Rec} {r : Rec} (hr : r ∈ (dropDelivered n l).1) : r ∈ l := by
  induction n, l using dropDelivered.induct with
  | case1 l => simpa [dropDelivered] using hr
  | case2 n hn => simp [dropDelivered] at hr
  | case3 n r' t hn hdrop ih =>
    rw [dropDelivered.eq_3 _ _ _ hn, if_pos hdrop] at hr
    exact List.mem_cons_of_mem _ (ih hr)
  | case4 n r' t hn hdrop ih =>
    rw [dropDelivered.eq_3 _ _ _ hn, if_neg hdrop] at hr
    exact (List.mem_cons.mp hr).elim (fun h => h ▸ List.mem_cons_self) fun h => List.mem_cons_of_mem _ (ih h)

/-- What the delivered records of a ring without pins do not free, its undelivered ones hold, as far as the ring holds it. -/
theorem dropDelivered_left {n : Nat} {l : List Rec} (hfree : ∀ r ∈ l, r.pinned = false) :
    (dropDelivered n l).2 ≤ undeliveredBytes (dropDelivered n l).1 + (n - recBytes l) := by
  induction n, l using dropDelivered.induct with
  | case1 l => simp [dropDelivered]
  | case2 n hn => simp [dropDelivered, recBytes]
  | case3 n r t hn hdrop ih =>
    rw [dropDelivered.eq_3 _ _ _ hn, if_pos hdrop, recBytes_cons]
    have := ih fun r' hr' => hfree r' (List.mem_cons_of_mem _ hr')
    omega
  | case4 n r t hn hdrop ih =>
    have hundelivered : r.delivered = false := by simpa [hfree r List.mem_cons_self] using hdrop
    rw [dropDelivered.eq_3 _ _ _ hn, if_neg hdrop, recBytes_cons]
    dsimp only
    rw [undeliveredBytes_cons_undelivered _ hundelivered]
    have := ih fun r' hr' => hfree r' (List.mem_cons_of_mem _ hr')
    omega

/-- A ring without pins gives up its undelivered records for as many bytes as they hold. -/
theorem dropOldest_frees {n : Nat} {l : List Rec} (hfree : ∀ r ∈ l, r.pinned = false) (hn : n ≤ undeliveredBytes l) :
    ∃ q, dropOldest n l = some q := by
  induction n, l using dropOldest.induct with
  | case1 l => exact ⟨_, by rw [dropOldest]⟩
  | case2 n hpos => exact absurd hn (by simpa [undeliveredBytes, recBytes, Nat.pos_iff_ne_zero] using hpos)
  | case3 n r t hpos hdelivered ih =>
    obtain ⟨q, hq⟩ := ih (fun r' hr' => hfree r' (List.mem_cons_of_mem _ hr'))
      (undeliveredBytes_cons_delivered t hdelivered ▸ hn)
    exact ⟨(r :: q.1, q.2), by rw [dropOldest.eq_3 _ _ _ hpos, if_pos hdelivered, hq]; rfl⟩
  | case4 n r t hpos hdelivered hpinned => exact absurd hpinned (by simp [hfree r List.mem_cons_self])
  | case5 n r t hpos hdelivered hpinned ih =>
    rw [undeliveredBytes_cons_undelivered t (by simpa using hdelivered)] at hn
    obtain ⟨q, hq⟩ := ih (fun r' hr' => hfree r' (List.mem_cons_of_mem _ hr')) (by omega)
    exact ⟨(q.1, q.2 + 1), by rw [dropOldest.eq_3 _ _ _ hpos, if_neg hdelivered, if_neg hpinned, hq]; rfl⟩

/-- Under DROP_OLDEST room can be made in a ring without pins. -/
theorem makeRoom_of_unpinned {room : Nat} {l : List Rec} (hfree : ∀ r ∈ l, r.pinned = false) :
    ∃ q, makeRoom true room l = some q := by
  have hleft := dropDelivered_left (n := recBytes l - room) hfree
  unfold makeRoom
  split
  · exact ⟨_, rfl⟩
  · next l1 n _ hdrop =>
    rw [hdrop] at hleft
    refine dropOldest_frees (fun r hr => hfree r (mem_of_mem_dropDelivered (n := recBytes l - room) ?_)) ?_
    · rw [hdrop]
      exact hr
    · dsimp only at hleft
      omega

/-! ### A record enters (R233, R234) -/

theorem streamAt_of_stream {s t : State} (h : t.stream = s.stream) (k : Nat) : t.streamAt k = s.streamAt k := by
  rw [State.streamAt, h, State.streamAt]

/-- A record that finds room, or can make it, stands last in its ring and is counted. -/
theorem ringEnter_enters {s : State} {k : Nat} (r : Rec) (hon : (s.dieAt (streamDie k)).logicOn = true) (hsize : ringSize s k ≠ 0)
    (hpolicy : streamPolicy s k = 0) (hfree : ∀ q ∈ (s.streamAt k).ring, q.pinned = false) :
    ((ringEnter s k r).streamAt k).records = (s.streamAt k).records + 1 ∧
      ∃ lost, ((ringEnter s k r).streamAt k).ring.getLast? = some (stampRec s k lost r) := by
  have hcap : ringSize s k * 256 ≠ 0 := by omega
  obtain ⟨⟨ring, n⟩, hroom⟩ := makeRoom_of_unpinned (room := ringSize s k * 256 - r.size) hfree
  have holdest : (streamPolicy s k == 0) = true := by simp [hpolicy]
  unfold ringEnter
  rw [hon]
  dsimp only
  rw [if_pos rfl, if_neg hcap, holdest, hroom]
  dsimp only
  rw [streamAt_of_stream ((markReasons_changes _ _) .stream rfl), streamAt_of_stream ((logContinuous_changes _ _ _) .stream rfl),
    State.modStream_streamAt]
  exact ⟨by unfold Stream.lose; split <;> rfl, _, List.getLast?_concat ..⟩

/-- A record that enters one ring leaves every other. -/
theorem ringEnter_streamAt_other (s : State) {j k : Nat} (r : Rec) (h : j ≠ k) : (ringEnter s k r).streamAt j = s.streamAt j := by
  unfold ringEnter
  extract_lets cap bump
  split
  · exact State.modStream_streamAt_other _ _ _ _ h
  · split
    · exact State.modStream_streamAt_other _ _ _ _ h
    · dsimp only
      rw [streamAt_of_stream ((markReasons_changes _ _) .stream rfl), streamAt_of_stream ((logContinuous_changes _ _ _) .stream rfl),
        State.modStream_streamAt_other _ _ _ _ h]

/-! ### What an offer and its fault leave of a ring -/

/-- A record but for its pin, which a capture sets. -/
def Rec.besidePin (r : Rec) : Rec := { r with pinned := false }

/-- The records of a ring but for their pins. -/
def ringRecords (s : State) (k : Nat) : List Rec := (s.streamAt k).ring.map Rec.besidePin

theorem ringRecords_of_stream {s t : State} (h : t.stream = s.stream) (k : Nat) : ringRecords t k = ringRecords s k := by
  rw [ringRecords, streamAt_of_stream h, ringRecords]

theorem captureTrigger_ringRecords (s : State) (d p k : Nat) : ringRecords (captureTrigger s d p) k = ringRecords s k := by
  unfold captureTrigger
  split
  · rfl
  · extract_lets g post from_ s1 mine
    refine List.foldlRecOn (motive := fun x : State => ringRecords x k = ringRecords s k) _ _ rfl fun x hx j _ => ?_
    refine Eq.trans ?_ hx
    by_cases hk : k = j
    · subst hk
      rw [ringRecords, State.modStream_streamAt, List.map_map, ringRecords]
      refine List.map_congr_left fun r _ => ?_
      dsimp only [Function.comp]
      split <;> rfl
    · rw [ringRecords, State.modStream_streamAt_other _ _ _ _ hk, ringRecords]

theorem soRefresh_ringRecords (s : State) (k : Nat) : ringRecords (soRefresh s) k = ringRecords s k := by
  unfold soRefresh
  extract_lets s1 q s2
  have h2 : s2.stream = s.stream :=
    List.foldlRecOn (motive := fun x : State => x.stream = s.stream) _ _ rfl fun x hx d _ =>
      ((soRefreshDie_changes x d) .stream rfl).trans hx
  refine List.foldlRecOn (motive := fun x : State => ringRecords x k = ringRecords s k) _ _ (ringRecords_of_stream h2 k)
    fun x hx d _ => ?_
  split
  · exact (captureTrigger_ringRecords x d 1 k).trans hx
  · exact hx

theorem dangerReaction_ringRecords (s : State) (key : Nat × Nat × Nat × Nat) (k : Nat) :
    ringRecords (dangerReaction s key) k = ringRecords s k := by
  obtain h | ⟨u, h, hu, -⟩ := dangerReaction_cases s key
  · rw [h]
  · rw [h, soRefresh_ringRecords, ringRecords_of_stream (hu .stream rfl)]

/-- A fault record goes to its die's fault stream. -/
theorem faultRecord_streamAt {s : State} {d k : Nat} (cls detail par key : Nat) (mk : Nat → List Word) (h : k ≠ d * 512 + 0x1F2) :
    (faultRecord s d cls detail par key mk).streamAt k = s.streamAt k := by
  unfold faultRecord
  extract_lets x last fw r s1 s2 q s3
  have h3 : s3.streamAt k = s.streamAt k := ringEnter_streamAt_other s1 r h
  split
  · rfl
  · split
    · exact h3
    · rw [streamAt_of_stream ((crierReason_changes _ _ _ _) .stream rfl), h3]

theorem raiseFault_ringRecords {s : State} {d k : Nat} (cls detail item a b : Nat) (dangerous : Bool) (h : k ≠ d * 512 + 0x1F2) :
    ringRecords (raiseFault s d cls detail item a b dangerous) k = ringRecords s k := by
  have hitem : ringRecords (faultItem s d cls detail item a b) k = ringRecords s k := by
    rw [ringRecords, faultItem, faultRecord_streamAt _ _ _ _ _ h, ringRecords]
  unfold raiseFault
  dsimp only
  split
  · exact (dangerReaction_ringRecords _ _ k).trans hitem
  · exact hitem

section
variable {k : Nat} (hk : k % 512 ≠ 0x1F2)
include hk

theorem offerTo_ringRecords (s : State) (g : Nat) (v : Int) (st : Stamp) : ringRecords (offerTo s g v st) k = ringRecords s k := by
  unfold offerTo
  dsimp only
  split
  · exact raiseFault_ringRecords _ _ _ _ _ _ (by omega)
  · rfl

theorem offerFrom_ringRecords (s : State) (d kind num : Nat) (v : Int) (st : Stamp) :
    ringRecords (offerFrom s d kind num v st) k = ringRecords s k :=
  List.foldlRecOn (motive := fun x : State => ringRecords x k = ringRecords s k) _ _ rfl fun x hx g _ =>
    (offerTo_ringRecords hk x g v st).trans hx

theorem recordOffers_ringRecords (s : State) (j : Nat) (r : Rec) : ringRecords (recordOffers s j r) k = ringRecords s k := by
  unfold recordOffers
  refine List.foldlRecOn (motive := fun x : State => ringRecords x k = ringRecords s k) _ _ rfl fun x hx g _ => ?_
  split
  · exact (offerTo_ringRecords hk x g _ _).trans hx
  · exact hx

/-- A record written to a stream stands last in its ring, though a fault of its offers may pin it. -/
theorem putRecord_last {s : State} (r : Rec) (hon : (s.dieAt (streamDie k)).logicOn = true) (hsize : ringSize s k ≠ 0)
    (hpolicy : streamPolicy s k = 0) (hfree : ∀ q ∈ (s.streamAt k).ring, q.pinned = false) :
    ∃ lost, (ringRecords (putRecord s k r) k).getLast? = some (stampRec s k lost r).besidePin := by
  obtain ⟨hrecords, lost, hlast⟩ := ringEnter_enters r hon hsize hpolicy hfree
  have hentered : ((ringEnter s k r).streamAt k).records ≠ (s.streamAt k).records := by
    rw [hrecords]
    bv_omega
  refine ⟨lost, ?_⟩
  unfold putRecord
  dsimp only
  rw [if_neg hentered, recordOffers_ringRecords hk, ringRecords, List.getLast?_map, hlast]
  rfl

end

end Sys2Proof.Machine
end

section
/-! PROOF. O53: the computing and the release of a mill's outputs, and its round boundaries. -/

namespace Sys2Proof.Machine

theorem millAt_of_mill {s t : State} (h : t.mill = s.mill) (c : Nat) : t.millAt c = s.millAt c := by
  rw [State.millAt, h, State.millAt]

theorem withMill_of_lt {s : State} {c : Nat} (t : State) (hc : c < usedDies s * 16) : withMill s c t = .next t := by
  rw [withMill, decide_eq_true hc, withUnit_true]

/-! ### Computing (R210) -/

section
variable {pre post : List MillOut} {o : MillOut} (hpre : ∀ v ∈ pre, v.ready = true) (ho : o.ready = false)
include hpre ho

theorem todo_of_waiting {y : MillChan} (hwaiting : y.waiting = pre ++ o :: post) : y.todo = some o := by
  rw [MillChan.todo, hwaiting, List.find?_eq_some_iff_append]
  exact ⟨by simp [ho], pre, post, rfl, by simpa using hpre⟩

theorem markReady_first : markReady (pre ++ o :: post) = pre ++ { o with ready := true } :: post := by
  induction pre with
  | nil => simp [markReady, ho]
  | cons v pre ih =>
    have hv : v.ready = true := hpre v List.mem_cons_self
    simp [markReady, hv, ih fun u hu => hpre u (List.mem_cons_of_mem _ hu)]

end

/-- No other channel of the die of channel c has an output to compute that comes before o: one that became due in an earlier round, or
in the same round on a lower channel (R210). -/
def DueFirst (s : State) (c : Nat) (o : MillOut) : Prop :=
  ∀ k q, k < 16 → (s.millAt (c / 16 * 16 + k)).todo = some q → o.round < q.round ∨ (o.round = q.round ∧ c % 16 ≤ k)

section
variable {s : State} {c : Nat} {o : MillOut} (hc : c < usedDies s * 16) (htodo : (s.millAt c).todo = some o)
include hc htodo

theorem execMillOutputComputed_first (hon : (s.dieAt (c / 16)).logicOn = true) (h : DueFirst s c o) :
    execMillOutputComputed c s = .next (s.modMill c fun x => { x with waiting := markReady x.waiting }) := by
  rw [execMillOutputComputed, withMill_of_lt _ hc, htodo]
  refine congrArg _ (if_pos ?_)
  rw [millDie, hon, Bool.true_and, List.all_eq_true]
  intro k hk
  split
  · rfl
  · next q hq => exact decide_eq_true (h k q (List.mem_range.mp hk) hq)

theorem execMillOutputComputed_later (h : ¬DueFirst s c o) : execMillOutputComputed c s = .next s := by
  rw [execMillOutputComputed, withMill_of_lt _ hc, htodo]
  refine congrArg _ (if_neg fun hfirst => h fun k q hk hq => ?_)
  have hk' := List.all_eq_true.mp (Bool.and_eq_true_iff.mp hfirst).2 k (List.mem_range.mpr hk)
  rw [millDie, hq] at hk'
  exact of_decide_eq_true hk'

end

/-! ### Release (R206, R208, R210) -/

/-- From s to t channel c has released the outputs of a list, and no other channel has changed. -/
structure Released (c : Nat) (l : List MillOut) (s t : State) : Prop where
  waiting : (t.millAt c).waiting = (s.millAt c).waiting.drop l.length
  outputs : (t.millAt c).outputs = (s.millAt c).outputs + BitVec.ofNat 32 l.length
  last : ∀ o, l.getLast? = some o → (t.millAt c).lastOut = o.word ∧ (t.millAt c).lastStamp = o.stamp
  history : (t.millAt c).history = (s.millAt c).history
  img : (t.millAt c).img = (s.millAt c).img
  other : ∀ k, k ≠ c → t.millAt k = s.millAt k

/-- What the release of one output does to the channels. -/
theorem releaseOut_millAt (s : State) (c : Nat) (o : MillOut) :
    (∃ late stale, (releaseOut s c o).millAt c = { s.millAt c with
      waiting := (s.millAt c).waiting.drop 1, outputs := (s.millAt c).outputs + 1, lateOut := late
      lastOut := o.word, lastStamp := o.stamp, staleNext := stale }) ∧
      ∀ k, k ≠ c → (releaseOut s c o).millAt k = s.millAt k := by
  unfold releaseOut
  extract_lets d x late s1 k w s2
  have h2 : s2.mill = s1.mill := by
    unfold s2
    split
    · rfl
    · exact (putRecord_changes _ _ _) .mill rfl
  have hmill : (offerFrom s2 d 3 (c % 16) (wordValue o.word) o.stamp).mill = s1.mill := ((offerFrom_changes _ _ _ _ _ _) .mill rfl).trans h2
  exact ⟨⟨_, _, (millAt_of_mill hmill c).trans (State.modMill_millAt ..)⟩,
    fun k hk => (millAt_of_mill hmill k).trans (State.modMill_millAt_other _ _ _ _ hk)⟩

theorem releaseOuts_released (s : State) (c : Nat) (l : List MillOut) : Released c l s (l.foldl (fun y o => releaseOut y c o) s) := by
  induction l using List.reverseRecOn with
  | nil => exact ⟨by simp, by simp, by simp, rfl, rfl, fun _ _ => rfl⟩
  | append_singleton l o ih =>
    rw [List.foldl_append, List.foldl_cons, List.foldl_nil]
    obtain ⟨⟨late, stale, hchan⟩, hother⟩ := releaseOut_millAt (l.foldl (fun y o => releaseOut y c o) s) c o
    refine ⟨?_, ?_, ?_, by rw [hchan, ih.history], by rw [hchan, ih.img], fun k hk => (hother k hk).trans (ih.other k hk)⟩
    · rw [hchan, ih.waiting, List.drop_drop, List.length_append, List.length_singleton]
    · rw [hchan, ih.outputs, List.length_append, List.length_singleton, BitVec.ofNat_add, BitVec.add_assoc]
      rfl
    · intro v hv
      obtain rfl : o = v := by simpa using hv
      rw [hchan]
      exact ⟨rfl, rfl⟩

/-- The flags of an output's record tell STALE in bit 0 and the first output after a settle in bit 6. -/
theorem bitOf_outputFlags (stale bit29 bit28 late first : Bool) :
    bitOf (b2n stale + 2 * b2n bit29 + 4 * b2n bit28 + 8 * b2n late + 64 * b2n first) 0 = stale ∧
      bitOf (b2n stale + 2 * b2n bit29 + 4 * b2n bit28 + 8 * b2n late + 64 * b2n first) 6 = first := by
  revert stale bit29 bit28 late first
  decide

/-- A ring sets no flags of a record but for its alignment and its overrun. -/
theorem bitOf_stampRec_flags {s : State} {k i : Nat} {lost : Bool} {r : Rec} (h3 : 3 ≠ i) (h4 : 4 ≠ i) :
    bitOf (stampRec s k lost r).flags i = bitOf r.flags i := by
  simp only [stampRec, bitOf_putBit, if_neg h4]
  split
  · rfl
  · simp [h3]

/-- The record of a released output stands last in the stream of its image. -/
theorem releaseOut_record {s : State} {c k : Nat} {o : MillOut} (hstream : o.stream < 0x1F0) (hk : k = c / 16 * 512 + o.stream)
    (hon : (s.dieAt (c / 16)).logicOn = true) (hsize : ringSize s k ≠ 0) (hpolicy : streamPolicy s k = 0)
    (hfree : ∀ r ∈ (s.streamAt k).ring, r.pinned = false) :
    ∃ r, ((releaseOut s c o).streamAt k).ring.getLast? = some r ∧ r.words = [o.word] ∧ r.stamp = o.stamp ∧
      r.pcode = 32 + (millOwner s c).getD 0 % 16 ∧ bitOf r.flags 0 = (s.millAt c).staleNext ∧
      bitOf r.flags 6 = o.word.getLsbD 30 := by
  have hfault : k % 512 ≠ 0x1F2 := by omega
  have hplace : c / 16 * 512 + o.stream % 512 = k := by omega
  have hdie : streamDie k = c / 16 := by
    unfold streamDie
    omega
  unfold releaseOut
  extract_lets d x late s1 k' w s2
  obtain rfl : k' = k := hplace
  obtain ⟨lost, hput⟩ := putRecord_last (s := s1) hfault
    { stream := k', stamp := o.stamp, pcode := 32 + (millOwner s c).getD 0 % 16
      flags := b2n x.staleNext + 2 * b2n (bitOf w 29) + 4 * b2n (bitOf w 28) + 8 * b2n late + 64 * b2n (bitOf w 30)
      words := [o.word] } (hdie ▸ hon) hsize hpolicy hfree
  rw [← show s2 = _ from if_neg (by omega), ← offerFrom_ringRecords hfault s2 d 3 (c % 16) (wordValue o.word) o.stamp, ringRecords,
    List.getLast?_map] at hput
  obtain ⟨r, hlast, hr⟩ := Option.map_eq_some_iff.mp hput
  have hflags : r.flags = _ := (congrArg Rec.flags hr :)
  obtain ⟨hstale, hfirst⟩ := bitOf_outputFlags x.staleNext (bitOf w 29) (bitOf w 28) late (bitOf w 30)
  refine ⟨r, hlast, (congrArg Rec.words hr :), (congrArg Rec.stamp hr :), (congrArg Rec.pcode hr :), ?_, ?_⟩
  · rw [hflags]
    exact (bitOf_stampRec_flags (by decide) (by decide)).trans hstale
  · rw [hflags]
    exact (bitOf_stampRec_flags (by decide) (by decide)).trans (hfirst.trans (bitOf_eq_testBit _ _))

theorem exec_millSlot_none {s : State} {c : Nat} (hc : c < usedDies s * 16)
    (h : (releasable (s.dieAt (c / 16)).round (s.millAt c).waiting).take 64 = []) : exec (.millSlot c) s = .next s := by
  rw [exec_millSlot, execMillSlot, withMill_of_lt _ hc, millDie]
  dsimp only
  rw [h]
  exact congrArg _ (given_self _ _)

theorem exec_millSlot_releases {s : State} {c : Nat} (hc : c < usedDies s * 16) (hon : (s.dieAt (c / 16)).logicOn = true)
    (hruns : (s.millAt c).halted = false) : exec (.millSlot c) s =
      .next (((releasable (s.dieAt (c / 16)).round (s.millAt c).waiting).take 64).foldl (fun y o => releaseOut y c o) s) := by
  rw [exec_millSlot, execMillSlot, withMill_of_lt _ hc, millDie]
  dsimp only
  rw [hon, hruns]
  rfl

/-! ### Rounds (R211, R212) -/

/-- A channel as the round boundary leaves it. -/
def MillChan.atRound (x : MillChan) : MillChan :=
  match x.next with
  | none => x
  | some m => x.takeImage m

theorem MillChan.atRound_none {x : MillChan} (h : x.next = none) : x.atRound = x := by rw [atRound, h]

theorem MillChan.atRound_some {x : MillChan} {m : MillImg} (h : x.next = some m) : x.atRound = x.takeImage m := by rw [atRound, h]

/-- At a round boundary the channels of the die take their new images, and no other does. -/
theorem takeBank_millAt (s : State) (d c : Nat) : (takeBank s d).millAt c = if c / 16 = d then (s.millAt c).atRound else s.millAt c := by
  have hdflt : (if c / 16 = d then MillChan.atRound {} else {}) = ({} : MillChan) := by split <;> rfl
  have hget := tget_map (fun k x => if k / 16 = d then MillChan.atRound x else x) {} s.mill c hdflt
  have hmill : (takeBank s d).mill = s.mill.map fun e => (e.1, if e.1 / 16 = d then e.2.atRound else e.2) := by
    refine List.map_congr_left fun e _ => ?_
    unfold millDie
    by_cases hd : e.1 / 16 = d
    · rw [if_pos hd, if_pos hd]
      split
      · next m hm => rw [MillChan.atRound_some hm]
      · next hm => rw [MillChan.atRound_none hm]
    · rw [if_neg hd, if_neg hd]
  rw [State.millAt, hmill]
  exact hget

/-- A swap of coefficients and SHIFT in a running channel keeps the history (R211). -/
theorem takeImage_swap {x : MillChan} {m : MillImg} (hon : x.img.enable = true) (hm : m.enable = true) (hruns : x.halted = false)
    (hswap : { x.img with coeffs := m.coeffs, shift := m.shift } = m) :
    x.takeImage m = { x with img := m, next := none, since := 0, settled := false } := by
  have hcoeffs : coeffSwapOnly x.img m = true := beq_iff_eq.mpr hswap
  rw [MillChan.takeImage, hon, hm, hruns, hcoeffs]
  rfl

/-- Any other image, and the reload of a stopped channel, restarts the channel (R211, R421). -/
theorem takeImage_switch {x : MillChan} {m : MillImg} (h : ¬(x.img.enable = true ∧ m.enable = true ∧ x.halted = false ∧
      { x.img with coeffs := m.coeffs, shift := m.shift } = m)) :
    x.takeImage m = { x with
      img := m, next := none, history := [], count := 0, since := 0, settled := false, halted := false, lastIn := none } := by
  refine if_neg fun hcond => h ?_
  simpa [coeffSwapOnly, and_assoc] using hcond

/-- The old lags that still hold after a round more (R212). -/
def Die.lagsLeft (x : Die) : List (Nat × Nat) := (x.oldLags.map fun q => (q.1, q.2 - 1)).filter fun q => q.2 != 0

theorem takeBank_dieAt_none {s : State} {d : Nat} (h : (s.dieAt d).lagNext = none) :
    (takeBank s d).dieAt d = { s.dieAt d with oldLags := (s.dieAt d).lagsLeft } := by
  refine (State.modDie_dieAt ..).trans ?_
  simp only [State.dieAt] at h ⊢
  rw [h]
  rfl

theorem takeBank_dieAt_some {s : State} {d l : Nat} (h : (s.dieAt d).lagNext = some l) :
    (takeBank s d).dieAt d = { s.dieAt d with
      lag := l, lagNext := none
      oldLags := if l < (s.dieAt d).lag then (s.dieAt d).lagsLeft ++ [((s.dieAt d).lag, (s.dieAt d).lag)] else (s.dieAt d).lagsLeft } := by
  refine (State.modDie_dieAt ..).trans ?_
  simp only [State.dieAt] at h ⊢
  rw [h]
  rfl

/-- The machine after a round boundary of a die. -/
def roundPassed (s : State) (d : Nat) : State := (takeBank s d).modDie d fun x => { x with round := x.round + 1 }

theorem exec_millRound_passes {s : State} {d : Nat} (hd : d < usedDies s) (hon : (s.dieAt d).logicOn = true) :
    exec (.millRound d) s = .next (roundPassed s d) := by
  rw [exec_millRound, execMillRound, withDie_of_lt _ hd, hon]
  rfl

/-- Settles O53: outputs are computed in due order (`DueFirst`), a slot's releases are counted along the list that it releases, and a
round boundary acts on each channel and on the lags of its die alone. -/
theorem millOutputsAreComputedAndReleased : Obligations.MillOutputsAreComputedAndReleased := by
  unfold Obligations.MillOutputsAreComputedAndReleased
  refine ⟨fun s c hc => ?_, fun s d hd hon => ?_⟩
  · intro d y first l
    refine ⟨fun pre o post hwaiting hpre ho hon => ?_, exec_millSlot_none hc, fun hl hon hruns => ?_⟩
    · have htodo : (s.millAt c).todo = some o := todo_of_waiting hpre ho hwaiting
      refine ⟨fun hfirst => ?_, fun k q hk hq hbefore => ?_⟩
      · rw [exec_millOutputComputed, execMillOutputComputed_first hc htodo hon hfirst, State.modMill, State.modMill]
        exact congrArg (fun w => Host.Outcome.next { s with mill := tput s.mill c { y with waiting := w } })
          ((congrArg markReady hwaiting).trans (markReady_first hpre ho))
      · refine execMillOutputComputed_later hc htodo fun hfirst => ?_
        have := hfirst k q hk hq
        omega
    · have hexec := exec_millSlot_releases hc hon hruns
      obtain ⟨hwaiting, houtputs, hlast, hhistory, himg, hother⟩ := releaseOuts_released s c l
      refine ⟨_, hexec, hwaiting, houtputs, hlast, hhistory, himg, hother, ?_, execMillSlot_changes c s _ hexec⟩
      intro o ho hstream k hsize hpolicy hfree
      rw [show (releasable (s.dieAt (c / 16)).round (s.millAt c).waiting).take 64 = [o] from ho]
      exact releaseOut_record hstream rfl hon hsize hpolicy hfree
  · intro x kept
    have hexec := exec_millRound_passes hd hon
    have hdie : (roundPassed s d).dieAt d = { (takeBank s d).dieAt d with round := ((takeBank s d).dieAt d).round + 1 } :=
      State.modDie_dieAt ..
    refine ⟨_, hexec, fun j hj => ?_, execMillRound_changes d s _ hexec, fun l hl => ?_, fun hl => ?_, fun c => ⟨fun hc => ?_, ?_⟩⟩
    · exact (State.modDie_dieAt_other _ _ _ _ hj).trans (State.modDie_dieAt_other _ _ _ _ hj)
    · rw [hdie, takeBank_dieAt_some hl]
      rfl
    · rw [hdie, takeBank_dieAt_none hl]
      rfl
    · refine (takeBank_millAt s d c).trans ?_
      obtain hc | hc := hc
      · exact if_neg hc
      · rw [MillChan.atRound_none hc, ite_self]
    · intro m hc hm y keeps
      have hmill : (roundPassed s d).millAt c = y.takeImage m :=
        (takeBank_millAt s d c).trans ((if_pos hc).trans (MillChan.atRound_some hm))
      rw [hmill]
      exact ⟨fun ⟨hon, hnew, hruns, hswap⟩ => takeImage_swap hon hnew hruns hswap, takeImage_switch⟩

end Sys2Proof.Machine
end

section
/-! PROOF. What the evaluation of a rule leaves of the rules: the layer of O54. -/

namespace Sys2Proof.Machine

/-! ### A rule but for what records count in it -/

theorem ruleAt_of_rule {s t : State} (h : t.rule = s.rule) (g : Nat) : t.ruleAt g = s.ruleAt g := by
  rw [State.ruleAt, h, State.ruleAt]

/-- A rule but for SKIPPED, which counts the records of a stream that make it no offer (R216). -/
def Rule.besideSkips (x : Rule) : Rule := { x with skipped := 0 }

/-- A rule of the machine but for SKIPPED. -/
def ruleBeside (s : State) (g : Nat) : Rule := (s.ruleAt g).besideSkips

theorem ruleBeside_of_rule {s t : State} (h : t.rule = s.rule) (g : Nat) : ruleBeside t g = ruleBeside s g := by
  rw [ruleBeside, ruleAt_of_rule h, ruleBeside]

theorem ruleAt_of_ruleBeside {s : State} {g : Nat} {y : Rule} (h : ruleBeside s g = y.besideSkips) :
    ∃ n, s.ruleAt g = { y with skipped := n } :=
  ⟨(s.ruleAt g).skipped, (congrArg (fun z : Rule => { z with skipped := (s.ruleAt g).skipped }) h :)⟩

theorem ruleBeside_modRule_other (s : State) {j g : Nat} (f : Rule → Rule) (h : j ≠ g) : ruleBeside (s.modRule g f) j = ruleBeside s j := by
  rw [ruleBeside, State.modRule_ruleAt_other _ _ _ _ h, ruleBeside]

/-! ### Records and events -/

/-- The offers of a record count it in SKIPPED of a rule at most. -/
theorem recordOffers_ruleBeside (s : State) (k : Nat) (r : Rec) (g : Nat) : ruleBeside (recordOffers s k r) g = ruleBeside s g := by
  unfold recordOffers
  refine List.foldlRecOn (motive := fun x : State => ruleBeside x g = ruleBeside s g) _ _ rfl fun x hx j _ => Eq.trans ?_ hx
  split
  · exact ruleBeside_of_rule ((offerTo_changes x j _ _) .rule rfl) g
  · by_cases hj : g = j
    · subst hj
      rw [ruleBeside, State.modRule_ruleAt]
      rfl
    · exact ruleBeside_modRule_other x _ hj

theorem putRecord_ruleBeside (s : State) (k : Nat) (r : Rec) (g : Nat) : ruleBeside (putRecord s k r) g = ruleBeside s g := by
  have hring := ruleBeside_of_rule ((ringEnter_changes s k r) .rule rfl) g
  unfold putRecord
  dsimp only
  split
  · exact hring
  · exact (recordOffers_ruleBeside _ k r g).trans hring

theorem placeEvent_ruleBeside (s : State) (g : Nat) (words : List Word) (st : Stamp) (j : Nat) :
    ruleBeside (placeEvent s g words st) j = ruleBeside s j := by
  unfold placeEvent
  extract_lets s1 d p share all mine k bump
  split
  · rfl
  · split
    · exact putRecord_ruleBeside _ _ _ j
    · rfl

/-! ### Changes of OUT (R219) -/

/-- A rule whose OUT takes a level: a change that EDGE selects is counted, and may start a line pulse. -/
def Rule.turned (x : Rule) (out : Bool) : Rule :=
  let event := decide (out ≠ x.out) && bitOf x.img.edge (if out = true then 0 else 1)
  { x with
    out := out
    events := if out ≠ x.out ∧ bitOf x.img.edge (if out = true then 0 else 1) = true then x.events + 1 else x.events
    pulse := x.pulse || (event && bitOf x.img.outputs 1 && bitOf x.img.outputs 2) }

theorem Rule.turned_same (x : Rule) : x.turned x.out = x := by simp [Rule.turned]

theorem Rule.turned_changed {x : Rule} {out : Bool} (h : out ≠ x.out) : x.turned out =
    let event := bitOf x.img.edge (if out = true then 0 else 1)
    { x with
      out := out, events := if event then x.events + 1 else x.events
      pulse := x.pulse || (event && bitOf x.img.outputs 1 && bitOf x.img.outputs 2) } := by
  simp [Rule.turned, h]

section
variable {s : State} {g : Nat} {out : Bool} (st : Stamp) (v : Int) (timer fail : Bool)

theorem ruleOut_same (h : (s.ruleAt g).out = out) : ruleOut s g out st v timer fail = s := if_pos h.symm

/-- On a change, what follows the new level of OUT leaves every rule but for SKIPPED. -/
theorem ruleOut_changed (h : out ≠ (s.ruleAt g).out) (j : Nat) :
    ruleBeside (ruleOut s g out st v timer fail) j = ruleBeside (s.modRule g fun y => y.turned out) j := by
  unfold ruleOut
  extract_lets x m event s1 s2 s3
  rw [if_neg h]
  have h1 : s1 = s.modRule g fun y => y.turned out :=
    congrArg (fun y => { s with rule := tput s.rule g y }) (Rule.turned_changed h).symm
  have h2 : ruleBeside s2 j = ruleBeside s1 j := by
    unfold s2
    split
    · exact placeEvent_ruleBeside _ _ _ _ j
    · rfl
  have h3 : ruleBeside s3 j = ruleBeside s2 j := by
    unfold s3
    split
    · split
      · exact ruleBeside_of_rule ((crierReason_changes _ _ _ _) .rule rfl) j
      · rfl
    · rfl
  refine Eq.trans ?_ (h3.trans (h2.trans (by rw [h1])))
  split
  · exact ruleBeside_of_rule ((soRefresh_changes s3) .rule rfl) j
  · rfl

theorem ruleOut_self : ruleBeside (ruleOut s g out st v timer fail) g = ((s.ruleAt g).turned out).besideSkips := by
  by_cases h : out = (s.ruleAt g).out
  · rw [ruleOut_same st v timer fail h.symm, h, Rule.turned_same, ruleBeside]
  · rw [ruleOut_changed st v timer fail h, ruleBeside, State.modRule_ruleAt]

theorem ruleOut_other {j : Nat} (hj : j ≠ g) : ruleBeside (ruleOut s g out st v timer fail) j = ruleBeside s j := by
  by_cases h : out = (s.ruleAt g).out
  · rw [ruleOut_same st v timer fail h.symm]
  · rw [ruleOut_changed st v timer fail h, ruleBeside_modRule_other _ _ hj]

end

/-! ### Offers (R217, R220) -/

/-- A rule that has judged an offer, before its OUT takes the new level. -/
def Rule.judged (x : Rule) (v : Int) (arrived now : Nat) (st : Stamp) : Rule :=
  { (judge x v arrived now).1 with lastValue := v, lastStamp := st, heard := arrived }

section
variable {s : State} {g : Nat} (v : Int) (arrived : Nat) (st : Stamp)

theorem evalOffer_idle (h : ruleActs s g = false) : evalOffer s g v arrived st = s := by simp [evalOffer, h]

theorem evalOffer_acts (h : ruleActs s g = true) : evalOffer s g v arrived st =
    ruleOut (s.modRule g fun _ => (s.ruleAt g).judged v arrived s.ticks st) g (judge (s.ruleAt g) v arrived s.ticks).2 st v false false := by
  simp [evalOffer, h, Rule.judged]

theorem evalOffer_self (h : ruleActs s g = true) : ruleBeside (evalOffer s g v arrived st) g =
    (((s.ruleAt g).judged v arrived s.ticks st).turned (judge (s.ruleAt g) v arrived s.ticks).2).besideSkips := by
  rw [evalOffer_acts v arrived st h, ruleOut_self, State.modRule_ruleAt]

theorem evalOffer_other {j : Nat} (hj : j ≠ g) : ruleBeside (evalOffer s g v arrived st) j = ruleBeside s j := by
  cases h : ruleActs s g
  · rw [evalOffer_idle v arrived st h]
  · rw [evalOffer_acts v arrived st h, ruleOut_other _ _ _ _ hj, ruleBeside_modRule_other _ _ hj]

end

/-! ### Rules that take a changed OUT (R217) -/

/-- An image takes the OUT of no rule. -/
def RuleImg.TakesNone (m : RuleImg) : Prop := ∀ r, m.takes r = false

/-- Only a rule of source 6, a SEQUENCE and a COMBINE take the OUT of a rule. -/
theorem takesNone_of_source {m : RuleImg} (hsrc : m.srcKind ≠ 6) (hsequence : m.type ≠ 5) (hcombine : m.type ≠ 7) : m.TakesNone := by
  intro r
  simp [RuleImg.takes, hsrc, hsequence, hcombine]

/-- A rule that takes no OUT is not evaluated as a taker. -/
theorem evalTaker_none {d r : Nat} (st : Stamp) {acc : State × List Nat} (h : (acc.1.ruleAt (d * 64 + r)).img.TakesNone) :
    evalTaker d st acc r = acc := by
  have hsrcs : acc.2.filter (acc.1.ruleAt (d * 64 + r)).img.takes = [] :=
    List.filter_eq_nil_iff.mpr fun q _ => by rw [h q]; exact Bool.false_ne_true
  unfold evalTaker
  dsimp only
  rw [hsrcs]
  rfl

/-- The evaluation of one rule leaves every other. -/
theorem evalTaker_other {d r j : Nat} (st : Stamp) (acc : State × List Nat) (hj : j ≠ d * 64 + r) :
    ruleBeside (evalTaker d st acc r).1 j = ruleBeside acc.1 j := by
  unfold evalTaker
  extract_lets s g x srcs isOut e o s1
  split
  · rfl
  · unfold s1
    split
    · rw [ruleOut_other _ _ _ _ hj, ruleBeside_modRule_other _ _ hj]
    · split
      · exact ruleOut_other _ _ _ _ hj
      · exact evalOffer_other _ _ _ hj

/-- The takers of a rule's OUT are rules of its die that take one. -/
theorem evalTakers_ruleBeside {s : State} {g j : Nat} (st : Stamp) (hj : j / 64 ≠ g / 64 ∨ (s.ruleAt j).img.TakesNone) :
    ruleBeside (evalTakers s g st) j = ruleBeside s j := by
  refine List.foldlRecOn (motive := fun acc : State × List Nat => ruleBeside acc.1 j = ruleBeside s j) _ _ rfl
    fun acc hacc r hr => Eq.trans ?_ hacc
  have hr' : r < 64 := List.mem_range.mp hr
  by_cases hself : j = g / 64 * 64 + r
  · have himg : (acc.1.ruleAt j).img = (s.ruleAt j).img := (congrArg Rule.img hacc :)
    have hnone := hj.resolve_left (by omega)
    rw [← himg, hself] at hnone
    exact congrArg (fun a : State × List Nat => ruleBeside a.1 j) (evalTaker_none st hnone)
  · exact evalTaker_other st acc hself

section
variable {before s : State} {g : Nat} (st : Stamp)

/-- Without a change of OUT only the start-up tests are looked at. -/
theorem afterRule_quiet (h : (s.ruleAt g).out = (before.ruleAt g).out) : afterRule before s g st = tryRun s := by
  rw [afterRule, h, bne_self_eq_false]
  rfl

/-- What a change of a rule's OUT brings leaves the rules of other dies, and those that take no OUT. -/
theorem afterRule_ruleBeside {j : Nat} (hj : j / 64 ≠ g / 64 ∨ (s.ruleAt j).img.TakesNone) :
    ruleBeside (afterRule before s g st) j = ruleBeside s j := by
  rw [afterRule, ruleBeside_of_rule ((tryRun_changes _) .rule rfl)]
  split
  · exact evalTakers_ruleBeside st hj
  · rfl

end

end Sys2Proof.Machine
end

section
/-! PROOF. O54: the sieve's judgments of offers, its time windows and its silence limits. -/

namespace Sys2Proof.Machine

theorem withRule_of_lt {s : State} {g : Nat} (t : State) (hg : g < usedDies s * 64) : withRule s g t = .next t := by
  rw [withRule, decide_eq_true hg, withUnit_true]

/-! ### Which rules act (R221, R292, R421) -/

/-- A rule acts: its image is in force and undamaged, and it is a SEQUENCE or a COMBINE, or its parish is not in HALT on its die. -/
def Acts (s : State) (g : Nat) : Prop :=
  (s.ruleAt g).img.present = true ∧ thas (s.dieAt (g / 64)).reloadDue (0x8400 + g) = false ∧
    ((s.ruleAt g).img.type = 5 ∨ (s.ruleAt g).img.type = 7 ∨ ∃ p, ruleOwner s g = some p ∧ parStateOn s p (g / 64) ≠ 4)

theorem ruleActs_iff (s : State) (g : Nat) : ruleActs s g = true ↔ Acts s g := by
  unfold ruleActs ruleDie Acts
  cases ruleOwner s g <;> simp [and_assoc, or_assoc]

/-- The machine once the oldest offer of a die has left its queue. -/
def offerTaken (s : State) (d : Nat) (rest : List Offer) : State := s.modDie d fun x => { x with offers := rest }

theorem offerTaken_ruleActs (s : State) (d : Nat) (rest : List Offer) (g : Nat) : ruleActs (offerTaken s d rest) g = ruleActs s g := by
  have hreload := modDie_keeps Die.reloadDue s d (ruleDie g) (g := fun x => { x with offers := rest }) fun _ => rfl
  have hheld := modDie_keeps Die.ownHeld s d (g / 64) (g := fun x => { x with offers := rest }) fun _ => rfl
  have hown : ruleOwner (offerTaken s d rest) g = ruleOwner s g := by
    unfold ruleOwner bitOwner ownBlob offerTaken
    rw [hheld]
    rfl
  unfold ruleActs
  dsimp only
  rw [hown, show ((offerTaken s d rest).dieAt (ruleDie g)).reloadDue = _ from hreload]
  rfl

/-! ### SIEVE_OFFER_EVAL (R217, R220) -/

/-- WINDOW outside its limits is the inside inverted, as POL asks. -/
theorem outside_eq_inside_bne (a b v : Int) (pol : Bool) :
    (if pol = true then decide (v < b ∨ a < v) else decide (b ≤ v ∧ v ≤ a)) = (decide (b ≤ v ∧ v ≤ a) != pol) := by
  have houtside : (v < b ∨ a < v) ↔ ¬(b ≤ v ∧ v ≤ a) := by omega
  cases pol
  · simp
  · rw [if_pos rfl, decide_eq_decide.mpr houtside, decide_not, Bool.bne_true]

section
variable (x : Rule) (v : Int) (arrived now : Nat)

theorem judge_level (h : x.img.type = 0) : judge x v arrived now = ({ x with primed := true }, levelOut x.img x.out v) := by
  simp [judge, h]

theorem judge_window (h : x.img.type = 1) :
    judge x v arrived now = ({ x with primed := true }, decide (x.img.b ≤ v ∧ v ≤ x.img.a) != bitOf x.img.mode 0) := by
  rw [← outside_eq_inside_bne, judge, h]
  rfl

theorem judge_change_first (h : x.img.type = 6) (hprimed : x.primed = false) :
    judge x v arrived now = ({ x with primed := true, ref := v }, x.out) := by
  simp [judge, h, hprimed]

theorem judge_change (h : x.img.type = 6) (hprimed : x.primed = true) :
    judge x v arrived now = if x.img.a < ((v - x.ref).natAbs : Int) then ({ x with ref := v }, !x.out) else (x, x.out) := by
  simp [judge, h, hprimed]

/-- A SEQUENCE and a COMBINE follow their inputs, and judge no offer. -/
theorem judge_inputs (h : x.img.type = 5 ∨ x.img.type = 7) : judge x v arrived now = (x, x.out) := by
  obtain h | h := h <;> simp [judge, h]

theorem judge_img : (judge x v arrived now).1.img = x.img := by
  unfold judge
  dsimp only
  split
  case h_6 =>
    split
    · rfl
    · split <;> rfl
  all_goals rfl

end

/-- From x to y a change of OUT that EDGE selects is counted, and no other (R219). -/
def EventsCounted (x y : Rule) : Prop :=
  y.events = if y.out ≠ x.out ∧ bitOf (field x.img.mode 2 1) (if y.out = true then 0 else 1) = true then x.events + 1 else x.events

/-- A rule after an offer: it has judged the offer, its OUT has taken the level judged, and n records have been skipped. -/
def Rule.afterOffer (x : Rule) (v : Int) (arrived now : Nat) (st : Stamp) (n : Nat) : Rule :=
  { (x.judged v arrived now st).turned (judge x v arrived now).2 with skipped := n }

section
variable {x y : Rule} {v : Int} {arrived now n : Nat} {st : Stamp} (hy : y = x.afterOffer v arrived now st n)
include hy

theorem afterOffer_notes : y.img = x.img ∧ y.lastValue = v ∧ y.lastStamp = st ∧ y.heard = arrived := by
  subst hy
  exact ⟨judge_img x v arrived now, rfl, rfl, rfl⟩

theorem afterOffer_level (htype : x.img.type = 0) : y.primed = true ∧ EventsCounted x y ∧ y.out = levelOut x.img x.out v := by
  rw [Rule.afterOffer, Rule.judged, judge_level _ _ _ _ htype] at hy
  subst hy
  exact ⟨rfl, rfl, rfl⟩

theorem afterOffer_above (htype : x.img.type = 0) (hpol : bitOf x.img.mode 0 = false) : y.primed = true ∧ EventsCounted x y ∧
    y.out = if x.img.a ≤ v then true else if v < x.img.b then false else x.out := by
  obtain ⟨hprimed, hcounted, hout⟩ := afterOffer_level hy htype
  rw [levelOut, RuleImg.pol, hpol] at hout
  exact ⟨hprimed, hcounted, hout⟩

theorem afterOffer_below (htype : x.img.type = 0) (hpol : bitOf x.img.mode 0 = true) : y.primed = true ∧ EventsCounted x y ∧
    y.out = if v ≤ x.img.a then true else if x.img.b < v then false else x.out := by
  obtain ⟨hprimed, hcounted, hout⟩ := afterOffer_level hy htype
  rw [levelOut, RuleImg.pol, hpol] at hout
  exact ⟨hprimed, hcounted, hout⟩

theorem afterOffer_window (htype : x.img.type = 1) : y.primed = true ∧ EventsCounted x y ∧
    y.out = (decide (x.img.b ≤ v ∧ v ≤ x.img.a) != bitOf x.img.mode 0) := by
  rw [Rule.afterOffer, Rule.judged, judge_window _ _ _ _ htype] at hy
  subst hy
  exact ⟨rfl, rfl, rfl⟩

theorem afterOffer_change_first (htype : x.img.type = 6) (hprimed : x.primed = false) :
    y.primed = true ∧ y.ref = v ∧ y.out = x.out := by
  rw [Rule.afterOffer, Rule.judged, judge_change_first _ _ _ _ htype hprimed] at hy
  subst hy
  exact ⟨rfl, rfl, rfl⟩

theorem afterOffer_change (htype : x.img.type = 6) (hprimed : x.primed = true) : EventsCounted x y ∧
    if x.img.a < ((v - x.ref).natAbs : Int) then y.ref = v ∧ y.out = !x.out else y.ref = x.ref ∧ y.out = x.out := by
  rw [Rule.afterOffer, Rule.judged, judge_change _ _ _ _ htype hprimed] at hy
  by_cases hfar : x.img.a < ((v - x.ref).natAbs : Int)
  · rw [if_pos hfar] at hy ⊢
    subst hy
    exact ⟨rfl, rfl, rfl⟩
  · rw [if_neg hfar] at hy ⊢
    subst hy
    exact ⟨rfl, rfl, rfl⟩

end

section
variable {s : State} {d : Nat} {o : Offer} {rest : List Offer} (hd : d < usedDies s) (hoffers : (s.dieAt d).offers = o :: rest)
include hd hoffers

theorem sieveOfferEval_waits (hwaits : expiryWaits s d = true) : exec (.sieveOfferEval d) s = .next s := by
  rw [exec_sieveOfferEval, execSieveOfferEval, withDie_of_lt _ hd, hoffers]
  dsimp only
  rw [hwaits, Bool.not_true, Bool.and_false, given_false]

variable {g : Nat} (hon : (s.dieAt d).logicOn = true) (hwaits : expiryWaits s d = false) (hg : d * 64 + o.rule = g)
include hon hwaits hg

theorem sieveOfferEval_evaluates : exec (.sieveOfferEval d) s =
    .next (afterRule (offerTaken s d rest) (evalOffer (offerTaken s d rest) g o.value o.arrived o.stamp) g o.stamp) := by
  subst hg
  rw [exec_sieveOfferEval, execSieveOfferEval, withDie_of_lt _ hd, hoffers]
  dsimp only
  rw [hwaits, hon]
  rfl

theorem sieveOfferEval_idle (hacts : ¬Acts s g) :
    ∃ t, exec (.sieveOfferEval d) s = .next t ∧ (t.dieAt d).offers = rest ∧ t.rule = s.rule := by
  have hidle : ruleActs (offerTaken s d rest) g = false := by
    rw [offerTaken_ruleActs]
    exact Bool.eq_false_iff.mpr fun h => hacts ((ruleActs_iff s g).mp h)
  refine ⟨_, sieveOfferEval_evaluates hd hoffers hon hwaits hg, ?_⟩
  rw [evalOffer_idle _ _ _ hidle, afterRule_quiet _ rfl]
  refine ⟨?_, (tryRun_changes (offerTaken s d rest)) .rule rfl⟩
  rw [dieAt_of_die ((tryRun_changes (offerTaken s d rest)) .die rfl), offerTaken, State.modDie_dieAt]

/-- The rule of an offer that acts judges it and its OUT takes the level judged; the rules of other dies stay. -/
theorem sieveOfferEval_judges (hacts : Acts s g) (hsrc : (s.ruleAt g).img.srcKind ≠ 6) :
    ∃ t, exec (.sieveOfferEval d) s = .next t ∧
      (∃ n, t.ruleAt g = (s.ruleAt g).afterOffer o.value o.arrived s.time.elapsed o.stamp n) ∧
      ∀ k, k / 64 ≠ g / 64 → ruleBeside t k = ruleBeside s k := by
  have hself := evalOffer_self (s := offerTaken s d rest) o.value o.arrived o.stamp
    ((offerTaken_ruleActs s d rest g).trans ((ruleActs_iff s g).mpr hacts))
  refine ⟨_, sieveOfferEval_evaluates hd hoffers hon hwaits hg, ruleAt_of_ruleBeside (Eq.trans ?_ hself), fun k hk => ?_⟩
  · by_cases hinputs : (s.ruleAt g).img.type = 5 ∨ (s.ruleAt g).img.type = 7
    · have hsame : ((evalOffer (offerTaken s d rest) g o.value o.arrived o.stamp).ruleAt g).out = (s.ruleAt g).out :=
        (congrArg Rule.out hself :).trans (congrArg Prod.snd (judge_inputs (s.ruleAt g) o.value o.arrived s.time.elapsed hinputs))
      rw [afterRule_quiet (before := offerTaken s d rest) _ hsame, ruleBeside_of_rule ((tryRun_changes _) .rule rfl)]
    · obtain ⟨hsequence, hcombine⟩ := not_or.mp hinputs
      have hkept : ((evalOffer (offerTaken s d rest) g o.value o.arrived o.stamp).ruleAt g).img = (s.ruleAt g).img :=
        (congrArg Rule.img hself :).trans (judge_img ..)
      refine afterRule_ruleBeside _ (.inr ?_)
      rw [hkept]
      exact takesNone_of_source hsrc hsequence hcombine
  · rw [afterRule_ruleBeside _ (.inl hk), evalOffer_other _ _ _ (fun h => hk (congrArg (· / 64) h))]
    rfl

end

/-! ### SIEVE_TIMER_EXPIRY (R218, R220) -/

theorem checkedBy_of_le {s : State} {due : Nat} (h : (due + 249) / 250 * 250 ≤ s.time.elapsed) : checkedBy due s.ticks = true :=
  decide_eq_true h

theorem checkedBy_of_lt {s : State} {due : Nat} (h : s.time.elapsed < (due + 249) / 250 * 250) : checkedBy due s.ticks = false :=
  decide_eq_false (Nat.not_le.mpr h)

theorem timerDue_count {x : Rule} {a : Nat} (htype : x.img.type = 3) (hprimed : x.primed = true) (hout : x.out = true)
    (ha : x.arrivals[x.img.n - 1]? = some a) : timerDue x = some (a + x.img.t * 250) := by
  simp [timerDue, htype, hprimed, hout, ha, RuleImg.tTicks]

theorem timerDue_hold {x : Rule} {a : Nat} (htype : x.img.type = 4) (hprimed : x.primed = true) (hout : x.out = false)
    (hc : x.lastC = true) (ha : x.arrivals.head? = some a) : timerDue x = some (a + x.img.t * 250) := by
  simp [timerDue, htype, hprimed, hout, hc, ha, RuleImg.tTicks]

/-- Only a COUNT and a HOLD have a time window to expire. -/
theorem type_of_timerDue {x : Rule} {due : Nat} (h : timerDue x = some due) : x.img.type = 3 ∨ x.img.type = 4 := by
  unfold timerDue at h
  dsimp only at h
  split at h
  · next hcount => exact .inl hcount.1
  · split at h
    · next hhold => exact .inr hhold.1
    · cases h

section
variable {s : State} {g due : Nat} (hg : g < usedDies s * 64) (hdue : timerDue (s.ruleAt g) = some due)
include hg hdue

theorem sieveTimerExpiry_early (hcheck : s.time.elapsed < (due + 249) / 250 * 250) : exec (.sieveTimerExpiry g) s = .next s := by
  rw [exec_sieveTimerExpiry, execSieveTimerExpiry, withRule_of_lt _ hg, hdue]
  dsimp only
  rw [checkedBy_of_lt hcheck, Bool.and_false, Bool.false_and, given_false]

/-- At the check that finds the window of a COUNT or a HOLD expired, OUT clears or sets. -/
theorem sieveTimerExpiry_turns (hcheck : (due + 249) / 250 * 250 ≤ s.time.elapsed) (hacts : Acts s g)
    (hon : (s.dieAt (g / 64)).logicOn = true) (hsrc : (s.ruleAt g).img.srcKind ≠ 6) :
    ∃ t, exec (.sieveTimerExpiry g) s = .next t ∧ (t.ruleAt g).out = ((s.ruleAt g).img.type == 4) ∧
      EventsCounted (s.ruleAt g) (t.ruleAt g) ∧ (t.ruleAt g).arrivals = (s.ruleAt g).arrivals := by
  have htype := type_of_timerDue hdue
  have hnone : (s.ruleAt g).img.TakesNone := takesNone_of_source hsrc (by omega) (by omega)
  have hexec : exec (.sieveTimerExpiry g) s =
      .next (afterRule s (ruleOut s g ((s.ruleAt g).img.type == 4) (stampBack s (s.ticks - due)) 0 true false) g
        (stampBack s (s.ticks - due))) := by
    rw [exec_sieveTimerExpiry, execSieveTimerExpiry, withRule_of_lt _ hg, hdue]
    dsimp only
    rw [checkedBy_of_le hcheck, (ruleActs_iff s g).mpr hacts, ruleDie, hon]
    rfl
  have hself := ruleOut_self (s := s) (g := g) (out := (s.ruleAt g).img.type == 4) (stampBack s (s.ticks - due)) 0 true false
  have himg : ((ruleOut s g ((s.ruleAt g).img.type == 4) (stampBack s (s.ticks - due)) 0 true false).ruleAt g).img = (s.ruleAt g).img :=
    (congrArg Rule.img hself :)
  rw [← himg] at hnone
  obtain ⟨n, ht⟩ := ruleAt_of_ruleBeside
    ((afterRule_ruleBeside (before := s) (stampBack s (s.ticks - due)) (.inr hnone)).trans hself)
  refine ⟨_, hexec, ?_⟩
  rw [ht]
  exact ⟨rfl, rfl, rfl⟩

end

/-! ### SIEVE_SILENCE_EXPIRY (R221) -/

/-- A rule that has become unprimed, before its OUT takes FAIL_VALUE. -/
def Rule.unprimed (x : Rule) : Rule := { x with primed := false, lastC := false, hist := [], arrivals := [], ref := 0 }

/-- A rule after its silence limit: unprimed, with OUT at FAIL_VALUE, and counted; n records have been skipped. -/
def Rule.afterSilence (x : Rule) (n : Nat) : Rule :=
  { x.unprimed.turned x.img.failValue with fails := satInc 65535 x.fails, skipped := n }

theorem afterSilence_state {x y : Rule} {n : Nat} (hy : y = x.afterSilence n) : y.primed = false ∧ y.out = x.img.failValue ∧
    EventsCounted x y ∧ y.hist = [] ∧ y.fails = counted 65535 x.fails := by
  subst hy
  exact ⟨rfl, rfl, rfl, rfl, rfl⟩

/-- The machine once a rule has become unprimed for its silence, which is counted, before the fault. -/
def silenceCounted (s : State) (g : Nat) (st : Stamp) : State :=
  (unprimeRule s g st true).modRule g fun y => { y with fails := satInc 65535 y.fails }

section
variable {s : State} {g : Nat} (hsequence : (s.ruleAt g).img.type ≠ 5) (hcombine : (s.ruleAt g).img.type ≠ 7)
include hsequence hcombine

theorem unprimeRule_eq (st : Stamp) (fail : Bool) : unprimeRule s g st fail =
    ruleOut (s.modRule g Rule.unprimed) g (s.ruleAt g).img.failValue st 0 false fail :=
  if_neg (not_or.mpr ⟨hsequence, hcombine⟩)

theorem silenceCounted_self (st : Stamp) : ruleBeside (silenceCounted s g st) g =
    ((s.ruleAt g).afterSilence 0).besideSkips := by
  have hself : ruleBeside (unprimeRule s g st true) g = ((s.ruleAt g).unprimed.turned (s.ruleAt g).img.failValue).besideSkips := by
    rw [unprimeRule_eq hsequence hcombine, ruleOut_self, State.modRule_ruleAt]
  rw [silenceCounted, ruleBeside, State.modRule_ruleAt]
  exact (congrArg (fun x : Rule => { x with fails := satInc 65535 x.fails }) hself :)

/-- A rule whose OUT stands at FAIL_VALUE already becomes unprimed without an event. -/
theorem silenceCounted_quiet (st : Stamp) (hout : (s.ruleAt g).out = (s.ruleAt g).img.failValue) : silenceCounted s g st =
    (s.modRule g Rule.unprimed).modRule g fun y => { y with fails := satInc 65535 y.fails } := by
  have hsame : ((s.modRule g Rule.unprimed).ruleAt g).out = (s.ruleAt g).img.failValue := by
    rw [State.modRule_ruleAt]
    exact hout
  rw [silenceCounted, unprimeRule_eq hsequence hcombine, ruleOut_same _ _ _ _ hsame]

end

theorem silenceDue_eq {x : Rule} (hprimed : x.primed = true) (hsilence : x.img.silence ≠ 0) :
    silenceDue x = some (x.heard + x.img.silence * 250000) := by
  simp [silenceDue, hprimed, hsilence, msTicks]

section
variable {s : State} {g : Nat} (hg : g < usedDies s * 64)
include hg

/-- An unprimed rule, one without a limit, and one whose limit no check has found expired stay as they are. -/
theorem sieveSilenceExpiry_early (h : (s.ruleAt g).primed = false ∨ (s.ruleAt g).img.silence = 0 ∨
    s.time.elapsed < ((s.ruleAt g).heard + (s.ruleAt g).img.silence * 250000 + 249) / 250 * 250) :
    exec (.sieveSilenceExpiry g) s = .next s := by
  rw [exec_sieveSilenceExpiry, execSieveSilenceExpiry, withRule_of_lt _ hg]
  by_cases hlimit : (s.ruleAt g).primed = true ∧ (s.ruleAt g).img.silence ≠ 0
  · obtain ⟨hprimed, hsilence⟩ := hlimit
    have hcheck := (h.resolve_left (by simp [hprimed])).resolve_left hsilence
    rw [silenceDue_eq hprimed hsilence]
    dsimp only
    rw [checkedBy_of_lt hcheck, Bool.and_false, Bool.false_and, given_false]
  · have hnone : silenceDue (s.ruleAt g) = none := by simpa [silenceDue] using hlimit
    rw [hnone]

variable (hacts : Acts s g) (hon : (s.dieAt (g / 64)).logicOn = true) (hprimed : (s.ruleAt g).primed = true)
  (hsilence : (s.ruleAt g).img.silence ≠ 0)
  (hcheck : ((s.ruleAt g).heard + (s.ruleAt g).img.silence * 250000 + 249) / 250 * 250 ≤ s.time.elapsed)
include hacts hon hprimed hsilence hcheck

theorem sieveSilenceExpiry_expires : ∃ st, exec (.sieveSilenceExpiry g) s =
    .next (afterRule s (raiseFault (silenceCounted s g st) (g / 64) 0x0E 1 g 0 0 false) g st) := by
  refine ⟨stampBack s (s.ticks - ((s.ruleAt g).heard + (s.ruleAt g).img.silence * 250000)), ?_⟩
  rw [exec_sieveSilenceExpiry, execSieveSilenceExpiry, withRule_of_lt _ hg, silenceDue_eq hprimed hsilence]
  dsimp only
  rw [checkedBy_of_le hcheck, (ruleActs_iff s g).mpr hacts, ruleDie, hon]
  rfl

variable (hsequence : (s.ruleAt g).img.type ≠ 5) (hcombine : (s.ruleAt g).img.type ≠ 7) (hsrc : (s.ruleAt g).img.srcKind ≠ 6)
include hsequence hcombine hsrc

/-- A silent rule becomes unprimed with OUT at FAIL_VALUE; without a change of OUT the fault is the only one told. -/
theorem sieveSilenceExpiry_unprimes : ∃ t, exec (.sieveSilenceExpiry g) s = .next t ∧
    (∃ n, t.ruleAt g = (s.ruleAt g).afterSilence n) ∧
    ((s.ruleAt g).out = (s.ruleAt g).img.failValue → FaultTold s t (g / 64) 0xE 1 g ((ruleOwner s g).getD 0)) := by
  obtain ⟨st, hexec⟩ := sieveSilenceExpiry_expires hg hacts hon hprimed hsilence hcheck
  have hfault : ruleBeside (raiseFault (silenceCounted s g st) (g / 64) 0x0E 1 g 0 0 false) g =
      ((s.ruleAt g).afterSilence 0).besideSkips :=
    (ruleBeside_of_rule ((raiseFault_changes _ _ _ _ _ _ _ _) .rule rfl) g).trans (silenceCounted_self hsequence hcombine st)
  have hnone : ((raiseFault (silenceCounted s g st) (g / 64) 0x0E 1 g 0 0 false).ruleAt g).img.TakesNone := by
    rw [show ((raiseFault _ _ _ _ _ _ _ _).ruleAt g).img = (s.ruleAt g).img from (congrArg Rule.img hfault :)]
    exact takesNone_of_source hsrc hsequence hcombine
  refine ⟨_, hexec, ruleAt_of_ruleBeside ((afterRule_ruleBeside st (.inr hnone)).trans hfault), fun hout => ?_⟩
  have hquiet := silenceCounted_quiet hsequence hcombine st hout
  have htold := raiseFault_faultTold (s := s) (u := silenceCounted s g st) (d := g / 64) 0x0E 1 g 0 0 false (by rw [hquiet]; rfl)
    (by rw [hquiet]; rfl) (by rw [hquiet]; rfl)
  have howner : faultParish (silenceCounted s g st) 0x0E 1 g = (ruleOwner s g).getD 0 := by
    rw [hquiet]
    rfl
  have hsame : ((raiseFault (silenceCounted s g st) (g / 64) 0x0E 1 g 0 0 false).ruleAt g).out = (s.ruleAt g).out :=
    (congrArg Rule.out hfault :).trans hout.symm
  have hreeve := (tryRun_changes (raiseFault (silenceCounted s g st) (g / 64) 0x0E 1 g 0 0 false)) .reeve rfl
  rw [afterRule_quiet st hsame]
  rw [howner] at htold
  intro hdue
  rw [show (tryRun _).reeve = _ from hreeve]
  exact htold hdue

end

/-- Settles O54: each clause reads off what its command leaves of the rule: the rule as it judged the offer, timed out or became unprimed,
with its OUT turned (`Rule.turned`), whatever its takers and records do after it. -/
theorem rulesJudgeTheirOffers : Obligations.RulesJudgeTheirOffers := by
  unfold Obligations.RulesJudgeTheirOffers
  intro s g hg d x m acts check counts
  have hd : d < usedDies s := Nat.div_lt_of_lt_mul (Nat.mul_comm .. ▸ hg)
  refine ⟨fun hempty => ?_, fun o rest hoffers hrule hon => ?_, fun hacts hon hprimed hsrc => ⟨?_, ?_⟩, sieveSilenceExpiry_early hg, ?_⟩
  · rw [exec_sieveOfferEval, execSieveOfferEval, withDie_of_lt _ hd, hempty]
  · intro v
    have hplace : d * 64 + o.rule = g := by
      rw [hrule]
      exact Nat.div_add_mod' g 64
    refine ⟨sieveOfferEval_waits hd hoffers, fun hwaits hidle => sieveOfferEval_idle hd hoffers hon hwaits hplace hidle,
      fun hwaits hacts hsrc => ?_⟩
    obtain ⟨t, hexec, ⟨n, ht⟩, hothers⟩ := sieveOfferEval_judges hd hoffers hon hwaits hplace hacts hsrc
    obtain ⟨himg, hvalue, hstamp, hheard⟩ := afterOffer_notes ht
    exact ⟨t, hexec, himg, hvalue, hstamp, hheard, afterOffer_above ht, afterOffer_below ht, afterOffer_window ht,
      afterOffer_change_first ht, afterOffer_change ht,
      fun k hk => ⟨(congrArg Rule.out (hothers k hk) :), (congrArg Rule.primed (hothers k hk) :)⟩,
      execSieveOfferEval_changes d s t hexec⟩
  · intro a htype hout ha
    have hdue := timerDue_count htype hprimed hout ha
    refine ⟨sieveTimerExpiry_early hg hdue, fun hcheck => ?_⟩
    obtain ⟨t, hexec, hnew, hcounted, harrivals⟩ := sieveTimerExpiry_turns hg hdue hcheck hacts hon hsrc
    exact ⟨t, hexec, hnew.trans (congrArg (· == 4) htype), hcounted, harrivals, execSieveTimerExpiry_changes g s t hexec⟩
  · intro a htype hout hc ha
    have hdue := timerDue_hold htype hprimed hout hc ha
    refine ⟨sieveTimerExpiry_early hg hdue, fun hcheck => ?_⟩
    obtain ⟨t, hexec, hnew, hcounted, -⟩ := sieveTimerExpiry_turns hg hdue hcheck hacts hon hsrc
    exact ⟨t, hexec, hnew.trans (congrArg (· == 4) htype), hcounted, execSieveTimerExpiry_changes g s t hexec⟩
  · intro hacts hon hprimed hsilence hcheck hsequence hcombine hsrc
    obtain ⟨t, hexec, ⟨n, ht⟩, htold⟩ :=
      sieveSilenceExpiry_unprimes hg hacts hon hprimed hsilence hcheck hsequence hcombine hsrc
    obtain ⟨hprimed, hout, hcounted, hhist, hfails⟩ := afterSilence_state ht
    exact ⟨t, hexec, hprimed, hout, hcounted, hhist, hfails, htold, execSieveSilenceExpiry_changes g s t hexec⟩

end Sys2Proof.Machine
end

section
/-! PROOF. The regions of a die's NV log, and the captures that start and end on them: the layer of O44. -/

namespace Sys2Proof.Machine

/-! ### Regions of a die's NV log (R248) -/

section
variable (s : State) (d p : Nat) (f : Region → Region)

@[simp] theorem State.modRegion_regionAt : ((s.modRegion d p f).dieAt d).regionAt p = f ((s.dieAt d).regionAt p) := by
  rw [State.modRegion, State.modDie_dieAt, Die.regionAt, tget_tput_same]

@[simp] theorem State.modRegion_regionAt_other {q : Nat} (h : q ≠ p) :
    ((s.modRegion d p f).dieAt d).regionAt q = (s.dieAt d).regionAt q := by
  rw [State.modRegion, State.modDie_dieAt, Die.regionAt, tget_tput_other _ _ _ _ _ h, Die.regionAt]

@[simp] theorem State.modRegion_dieAt_other {j : Nat} (h : j ≠ d) : (s.modRegion d p f).dieAt j = s.dieAt j :=
  State.modDie_dieAt_other _ _ _ _ h

theorem State.modRegion_besideLog (j : Nat) : ((s.modRegion d p f).dieAt j).besideLog = (s.dieAt j).besideLog :=
  modDie_keeps Die.besideLog s d j fun _ => rfl

end

/-! ### What a die's ownership table gives (R34, R248, R286) -/

section
variable {s t : State} {d : Nat} (hconf : t.conf = s.conf) (hheld : (t.dieAt d).ownHeld = (s.dieAt d).ownHeld)
include hconf hheld

theorem ownBlob_of_held (p sub : Nat) : ownBlob t d p sub = ownBlob s d p sub := by
  unfold ownBlob cfgBlob
  rw [hheld, hconf]

theorem logBlocks_of_held (p : Nat) : logBlocks t p d = logBlocks s p d := by
  rw [logBlocks, ownBlob_of_held hconf hheld, logBlocks]

theorem streamOwner_of_held (hreeve : t.reeve = s.reeve) {k : Nat} (hk : k / 512 = d) : streamOwner t k = streamOwner s k := by
  subst hk
  simp only [streamOwner, hreeve, ownBlob_of_held hconf hheld]

end

theorem ownHeld_of_besideLog {x y : Die} (h : y.besideLog = x.besideLog) : y.ownHeld = x.ownHeld := (congrArg Die.ownHeld h :)

theorem State.modRegion_streamOwner (s : State) (d p : Nat) (f : Region → Region) (k : Nat) :
    streamOwner (s.modRegion d p f) k = streamOwner s k :=
  streamOwner_of_held (s := s) (t := s.modRegion d p f) rfl (ownHeld_of_besideLog (s.modRegion_besideLog d p f _)) rfl rfl

theorem streamLog_of_conf {s t : State} (hconf : t.conf = s.conf) (k : Nat) : streamLog t k = streamLog s k := by
  simp only [streamLog, cfg, hconf]

/-! ### The start of a capture (R253) -/

/-- A stream whose records of an instant on are pinned. -/
def Stream.pinnedSince (y : Stream) (since : Nat) : Stream :=
  { y with ring := y.ring.map fun r => if since ≤ r.entered then { r with pinned := true } else r }

theorem Stream.pinnedSince_pinnedSince (y : Stream) (since : Nat) : (y.pinnedSince since).pinnedSince since = y.pinnedSince since := by
  refine congrArg (fun l : List Rec => { y with ring := l }) ?_
  rw [Stream.pinnedSince, List.map_map]
  refine List.map_congr_left fun r _ => ?_
  by_cases h : since ≤ r.entered <;> simp [h]

theorem tget_unlisted {α : Type} (dflt : α) {t : Tbl α} {k : Nat} (h : k ∉ t.map (·.1)) : tget dflt t k = dflt :=
  (tget_mem_or_default dflt t k).resolve_left fun hmem => h (List.mem_map.mpr ⟨_, hmem, rfl⟩)

theorem foldl_modStream_die (g : Stream → Stream) (l : List Nat) (s : State) : (l.foldl (fun x j => x.modStream j g) s).die = s.die :=
  (Changes.foldl (fun x j => State.modStream_changes x j g) (.refl [.stream] s)) .die rfl

theorem foldl_modStream_streamAt {g : Stream → Stream} (hg : ∀ y, g (g y) = g y) (l : List Nat) (s : State) (k : Nat) :
    (l.foldl (fun x j => x.modStream j g) s).streamAt k = if k ∈ l then g (s.streamAt k) else s.streamAt k := by
  induction l generalizing s with
  | nil => simp
  | cons j l ih =>
    rw [List.foldl_cons, ih]
    by_cases hj : k = j
    · subst hj
      by_cases hl : k ∈ l <;> simp [hl, hg]
    · simp [hj]

/-- The instant from which a capture that starts or is extended takes a region's records (R253). -/
def captureSince (s : State) (p : Nat) (g : Region) : Nat :=
  if g.capActive = true then (if g.capDrain = true then g.capTo + 1 else g.capFrom)
  else s.time.elapsed - 250000 * cfg s (0x9100 + 16 * p) 0xA 5000

/-- A region whose capture starts, or is extended by a trigger. -/
def Region.triggered (g : Region) (since until_ : Nat) : Region :=
  { g with capActive := true, capDrain := false, capFirst := g.capActive && g.capFirst, capFrom := since, capTo := until_ }

/-- The streams whose records a capture of a parish takes on a die: its CAPTURE streams there (R253). -/
abbrev Captured (s : State) (d p k : Nat) : Prop := k / 512 = d ∧ streamOwner s k = some p ∧ streamLog s k = 2

section
variable {s : State} {d p : Nat}

theorem captureTrigger_none (h : logBlocks s p d = 0) : captureTrigger s d p = s := if_pos h

theorem captureTrigger_eq (h : logBlocks s p d ≠ 0) : captureTrigger s d p =
    ((s.stream.map (·.1)).filter fun k => streamDie k == d && streamOwner s k == some p && streamLog s k == 2).foldl
      (fun x k => x.modStream k fun y => y.pinnedSince (captureSince s p ((s.dieAt d).regionAt p)))
      (s.modRegion d p fun g => g.triggered (captureSince s p g) (s.time.elapsed + 250000 * cfg s (0x9100 + 16 * p) 0xB 1000)) := by
  have hms (n : Nat) : 250000 * n = msTicks n := Nat.mul_comm ..
  simp only [captureTrigger, if_neg h, captureSince, hms]
  rfl

theorem captureTrigger_dieAt_other {j : Nat} (hj : j ≠ d) : (captureTrigger s d p).dieAt j = s.dieAt j := by
  by_cases h : logBlocks s p d = 0
  · rw [captureTrigger_none h]
  · rw [captureTrigger_eq h, dieAt_of_die (foldl_modStream_die ..),
      State.modRegion_dieAt_other _ _ _ _ hj]

theorem captureTrigger_streamAt_other {k : Nat} (hk : ¬Captured s d p k) : (captureTrigger s d p).streamAt k = s.streamAt k := by
  by_cases h : logBlocks s p d = 0
  · rw [captureTrigger_none h]
  · have hnot : k ∉ (s.stream.map (·.1)).filter fun k => streamDie k == d && streamOwner s k == some p && streamLog s k == 2 := by
      intro hmem
      exact hk (by simpa [streamDie, and_assoc] using (List.mem_filter.mp hmem).2)
    rw [captureTrigger_eq h, foldl_modStream_streamAt (fun y => y.pinnedSince_pinnedSince _), if_neg hnot]
    rfl

variable (h : logBlocks s p d ≠ 0)
include h

theorem captureTrigger_regionAt : ((captureTrigger s d p).dieAt d).regionAt p =
    ((s.dieAt d).regionAt p).triggered (captureSince s p ((s.dieAt d).regionAt p))
      (s.time.elapsed + 250000 * cfg s (0x9100 + 16 * p) 0xB 1000) := by
  rw [captureTrigger_eq h, dieAt_of_die (foldl_modStream_die ..),
    State.modRegion_regionAt]

theorem captureTrigger_streamAt {k : Nat} (hk : Captured s d p k) :
    (captureTrigger s d p).streamAt k = (s.streamAt k).pinnedSince (captureSince s p ((s.dieAt d).regionAt p)) := by
  rw [captureTrigger_eq h, foldl_modStream_streamAt (fun y => y.pinnedSince_pinnedSince _)]
  split
  · rfl
  · next hnot =>
    have hunlisted : k ∉ s.stream.map (·.1) := fun hmem =>
      hnot (List.mem_filter.mpr ⟨hmem, by simpa [streamDie, and_assoc] using hk⟩)
    have hnone : s.streamAt k = {} := tget_unlisted _ hunlisted
    rw [show (State.streamAt (State.modRegion ..) k) = s.streamAt k from rfl, hnone]
    rfl

end

/-! ### LOG_TRIGGER (R253) -/

/-- Only one step of a fold over distinct elements concerns what a relation compares. -/
theorem foldl_once {α β : Type} {g : β → α → β} {R : β → β → Prop} {a : α} {l : List α} (hrefl : ∀ x, R x x)
    (htrans : ∀ x y z, R x y → R y z → R x z) (hkeep : ∀ x i, i ≠ a → R x (g x i)) (ha : a ∈ l) (hl : l.Nodup) (b : β) :
    ∃ x, R b x ∧ R (g x a) (l.foldl g b) := by
  have hrun : ∀ (l : List α) (b : β), a ∉ l → R b (l.foldl g b) := by
    intro l
    induction l with
    | nil => exact fun b _ => hrefl b
    | cons i l ih =>
      intro b hnot
      obtain ⟨hi, hrest⟩ := not_or.mp fun h => hnot (List.mem_cons.mpr h)
      exact htrans _ _ _ (hkeep b i (Ne.symm hi)) (ih _ hrest)
  obtain ⟨l1, l2, rfl⟩ := List.append_of_mem ha
  obtain ⟨-, hl2, hdisjoint⟩ := List.nodup_append.mp hl
  refine ⟨l1.foldl g b, hrun l1 b fun h => hdisjoint a h a List.mem_cons_self rfl, ?_⟩
  rw [List.foldl_append, List.foldl_cons]
  exact hrun l2 _ (List.nodup_cons.mp hl2).1

/-- From s to t dies and streams change, but none of die d. -/
structure SparesDie (d : Nat) (s t : State) : Prop where
  changes : Changes [.die, .stream] s t
  die : t.dieAt d = s.dieAt d
  streams : ∀ k, k / 512 = d → t.streamAt k = s.streamAt k

theorem SparesDie.refl (d : Nat) (s : State) : SparesDie d s s := ⟨.refl _ _, rfl, fun _ _ => rfl⟩

theorem SparesDie.trans {d : Nat} {s t u : State} (h : SparesDie d s t) (k : SparesDie d t u) : SparesDie d s u :=
  ⟨h.changes.trans k.changes, k.die.trans h.die, fun j hj => (k.streams j hj).trans (h.streams j hj)⟩

theorem captureTrigger_sparesDie (s : State) (p : Nat) {d e : Nat} (h : e ≠ d) : SparesDie d s (captureTrigger s e p) :=
  ⟨captureTrigger_changes s e p, captureTrigger_dieAt_other h.symm, fun _ hk =>
    captureTrigger_streamAt_other fun hcap => h (hcap.1.symm.trans hk)⟩

/-- From s to t a capture of a parish starts on die d, or is extended there (R253). -/
structure CaptureStarts (s t : State) (d p : Nat) : Prop where
  region : (t.dieAt d).regionAt p = ((s.dieAt d).regionAt p).triggered (captureSince s p ((s.dieAt d).regionAt p))
    (s.time.elapsed + 250000 * cfg s (0x9100 + 16 * p) 0xB 1000)
  streams : ∀ k, Captured s d p k → t.streamAt k = (s.streamAt k).pinnedSince (captureSince s p ((s.dieAt d).regionAt p))

theorem captureTrigger_starts {s : State} {d p : Nat} (h : logBlocks s p d ≠ 0) : CaptureStarts s (captureTrigger s d p) d p :=
  ⟨captureTrigger_regionAt h, fun _ => captureTrigger_streamAt h⟩

section
variable {s t u : State} {d p : Nat} (h : SparesDie d s t)
include h

theorem SparesDie.logBlocks (p : Nat) : logBlocks t p d = logBlocks s p d :=
  logBlocks_of_held (h.changes .conf rfl) (by rw [h.die]) p

theorem SparesDie.captured (k : Nat) : Captured t d p k ↔ Captured s d p k := by
  refine and_congr_right fun hk => ?_
  rw [streamOwner_of_held (h.changes .conf rfl) (by rw [h.die]) (h.changes .reeve rfl) hk, streamLog_of_conf (h.changes .conf rfl)]

/-- A capture that starts on die d is the same from a machine that differs on other dies. -/
theorem SparesDie.captureStarts (hstart : CaptureStarts t u d p) : CaptureStarts s u d p := by
  have htime : t.time = s.time := h.changes .time rfl
  have hcfg (idx sub dflt : Nat) : cfg t idx sub dflt = cfg s idx sub dflt := by rw [cfg, h.changes .conf rfl, cfg]
  have hsince (g : Region) : captureSince t p g = captureSince s p g := by rw [captureSince, hcfg, htime, captureSince]
  refine ⟨?_, fun k hk => ?_⟩
  · rw [hstart.region, h.die, hsince, hcfg, htime]
  · rw [hstart.streams k ((h.captured k).mpr hk), h.streams k hk.1, h.die, hsince]

/-- What other dies do afterwards leaves the capture that has started on die d. -/
theorem CaptureStarts.after (hstart : CaptureStarts u s d p) : CaptureStarts u t d p :=
  ⟨by rw [h.die, hstart.region], fun k hk => (h.streams k hk.1).trans (hstart.streams k hk)⟩

end

theorem exec_logTrigger_eq {p : Nat} (s : State) (hp : p < 16) : exec (.logTrigger p) s =
    .next (withStatus ((List.range (usedDies s)).foldl (fun x d => captureTrigger x d p) s) 0) := by
  rw [exec_logTrigger, execLogTrigger, parCode, decide_eq_true hp]
  rfl

/-- LOG_TRIGGER on one die of the part: what the trigger of a capture there does. -/
theorem logTrigger_sparesDie (s : State) (p : Nat) {d : Nat} (hd : d < usedDies s) :
    ∃ x, SparesDie d s x ∧ SparesDie d (captureTrigger x d p) ((List.range (usedDies s)).foldl (fun x d => captureTrigger x d p) s) :=
  foldl_once (.refl d) (fun _ _ _ => .trans) (fun x _ he => captureTrigger_sparesDie x p he) (List.mem_range.mpr hd)
    List.nodup_range s

/-! ### The end of a capture (R253) -/

/-- A region but for its capture. -/
def Region.besideCapture (g : Region) : Region :=
  { g with capActive := false, capDrain := false, capFirst := false, captures := 0 }

/-- A region whose capture is complete. -/
def Region.captureOver (g : Region) : Region :=
  { g with capActive := false, capDrain := false, capFirst := false, captures := satInc 65535 g.captures }

/-- A stream none of whose records is pinned. -/
def Stream.unpinned (y : Stream) : Stream := { y with ring := y.ring.map Rec.besidePin }

theorem Stream.unpinned_free {y : Stream} {r : Rec} (hr : r ∈ y.unpinned.ring) : r.pinned = false := by
  obtain ⟨q, -, rfl⟩ := List.mem_map.mp hr
  rfl

/-- The streams that a test selects unpinned. -/
def unpinStreams (s : State) (f : Nat → Bool) : State :=
  { s with stream := s.stream.map fun e => if f e.1 then (e.1, e.2.unpinned) else e }

theorem unpinStreams_streamAt (s : State) (f : Nat → Bool) (k : Nat) :
    (unpinStreams s f).streamAt k = if f k then (s.streamAt k).unpinned else s.streamAt k := by
  have hmap := tget_map (fun j (y : Stream) => if f j then y.unpinned else y) {} s.stream k (by split <;> rfl)
  rw [State.streamAt, State.streamAt, ← hmap, unpinStreams]
  refine congrArg (fun l : Tbl Stream => tget {} l k) (List.map_congr_left fun e _ => ?_)
  split <;> rfl

section
variable {s : State} {d p : Nat}

theorem captureDone_eq (s : State) (d p : Nat) : captureDone s d p =
    let g := (s.dieAt d).regionAt p
    if g.capActive && g.capDrain && !(g.queue.any Page.capture) then
      crierReason (unpinStreams (s.modRegion d p Region.captureOver) fun k => streamDie k == d && streamOwner s k == some p) p 4 0xFFFF
    else s := rfl

/-- While a page of a capture waits to be written the capture goes on. -/
theorem captureDone_waits (h : ∃ pg ∈ ((s.dieAt d).regionAt p).queue, pg.capture = true) : captureDone s d p = s := by
  rw [captureDone_eq]
  dsimp only
  rw [List.any_eq_true.mpr h, Bool.not_true, Bool.and_false]
  rfl

section
variable (hactive : ((s.dieAt d).regionAt p).capActive = true) (hdrain : ((s.dieAt d).regionAt p).capDrain = true)
  (hqueue : ∀ pg ∈ ((s.dieAt d).regionAt p).queue, pg.capture = false)
include hactive hdrain hqueue

theorem captureDone_completes : captureDone s d p = crierReason
    (unpinStreams (s.modRegion d p Region.captureOver) fun k => streamDie k == d && streamOwner s k == some p) p 4 0xFFFF := by
  have hnone : ((s.dieAt d).regionAt p).queue.any Page.capture = false :=
    List.any_eq_false.mpr fun pg hpg => Bool.eq_false_iff.mp (hqueue pg hpg)
  rw [captureDone_eq]
  dsimp only
  rw [hactive, hdrain, hnone]
  rfl

theorem captureDone_regionAt : ((captureDone s d p).dieAt d).regionAt p = ((s.dieAt d).regionAt p).captureOver := by
  rw [captureDone_completes hactive hdrain hqueue, dieAt_of_die ((crierReason_changes _ _ _ _) .die rfl)]
  exact State.modRegion_regionAt ..

theorem captureDone_unpins {k : Nat} (hk : k / 512 = d) (howner : streamOwner s k = some p) :
    ∀ r ∈ ((captureDone s d p).streamAt k).ring, r.pinned = false := by
  have hsel : (streamDie k == d && streamOwner s k == some p) = true := by simp [streamDie, hk, howner]
  rw [captureDone_completes hactive hdrain hqueue, streamAt_of_stream ((crierReason_changes _ _ _ _) .stream rfl),
    unpinStreams_streamAt, if_pos hsel]
  exact fun r => Stream.unpinned_free

end

/-- The completion of a capture leaves every die but for its NV log, and the region but for its capture. -/
theorem captureDone_keeps (s : State) (d p : Nat) : (∀ j, ((captureDone s d p).dieAt j).besideLog = (s.dieAt j).besideLog) ∧
    (((captureDone s d p).dieAt d).regionAt p).besideCapture = ((s.dieAt d).regionAt p).besideCapture := by
  rw [captureDone_eq]
  dsimp only
  split
  · have hdie (j : Nat) := dieAt_of_die ((crierReason_changes (unpinStreams (s.modRegion d p Region.captureOver)
      fun k => streamDie k == d && streamOwner s k == some p) p 4 0xFFFF) .die rfl) j
    simp only [hdie]
    refine ⟨fun j => State.modRegion_besideLog s d p Region.captureOver j, ?_⟩
    rw [show State.dieAt (unpinStreams ..) d = (s.modRegion d p Region.captureOver).dieAt d from rfl, State.modRegion_regionAt]
    rfl
  · exact ⟨fun _ => rfl, rfl⟩

end

/-! ### The pages of a capture (R249, R253) -/

theorem capturePages_recs (s : State) (pflags : Nat) (o : Option Page) (l : List Rec) :
    (capturePages s pflags o l).flatMap (·.recs) = (o.map Page.recs).getD [] ++ l := by
  induction o, l using capturePages.induct s pflags with
  | case1 => simp [capturePages]
  | case2 pg => simp [capturePages]
  | case3 r t ih => simpa [capturePages, freshPage] using ih
  | case4 pg r t htakes ih => simpa [capturePages, htakes] using ih
  | case5 pg r t htakes ih => simpa [capturePages, htakes, freshPage] using ih

theorem capturePages_pflags (s : State) (pflags : Nat) (o : Option Page) (l : List Rec) (ho : ∀ pg ∈ o, pg.pflags = pflags) :
    ∀ pg ∈ capturePages s pflags o l, pg.pflags = pflags := by
  have hfresh (r : Rec) : ∀ pg ∈ some (freshPage s pflags r), pg.pflags = pflags := fun pg hpg => by
    rw [← Option.mem_some.mp hpg, freshPage]
  induction o, l using capturePages.induct s pflags with
  | case1 => simp [capturePages]
  | case2 pg => simpa [capturePages] using ho
  | case3 r t ih => simpa [capturePages] using ih (hfresh r)
  | case4 pg r t htakes ih => simpa [capturePages, htakes] using ih (by simpa using ho)
  | case5 pg r t htakes ih => simpa [capturePages, htakes] using ⟨ho pg rfl, ih (hfresh r)⟩

/-- The first of the pages marked as the first page of its capture, where none has been formed before. -/
def markFirst (formed : Bool) (l : List Page) : List Page :=
  if formed then l else match l with
    | [] => []
    | pg :: t => { pg with pflags := pg.pflags + 32 } :: t

theorem markFirst_recs (formed : Bool) (l : List Page) : (markFirst formed l).flatMap (·.recs) = l.flatMap (·.recs) := by
  cases formed <;> cases l <;> rfl

/-- The mark of a capture, bit 4, stands under that of its first page, bit 5. -/
theorem bitOf_captureFlags (p : Nat) : bitOf (p % 16 + 16) 4 = true ∧ bitOf (p % 16 + 16 + 32) 4 = true := by
  constructor <;> simp only [bitOf, beq_iff_eq] <;> omega

theorem markFirst_capture {formed : Bool} {p : Nat} {l : List Page} (hl : ∀ pg ∈ l, pg.pflags = p % 16 + 16) :
    ∀ pg ∈ markFirst formed l, pg.capture = true := by
  obtain ⟨hmark, hfirst⟩ := bitOf_captureFlags p
  have hall : ∀ pg ∈ l, pg.capture = true := fun pg hpg => by rw [Page.capture, hl pg hpg, hmark]
  unfold markFirst
  split
  · exact hall
  · split
    · exact fun pg hpg => absurd hpg List.not_mem_nil
    · next pg t =>
      refine List.forall_mem_cons.mpr ⟨?_, fun q hq => hall q (List.mem_cons_of_mem _ hq)⟩
      rw [Page.capture, hl pg List.mem_cons_self, hfirst]

/-- The pages of a capture that ends, as they wait to be written. -/
def capturedPages (s : State) (d p : Nat) (g : Region) : List Page :=
  markFirst g.capFirst (capturePages s (p % 16 + 16) none (captureRecs s d p g))

theorem capturedPages_recs (s : State) (d p : Nat) (g : Region) :
    (capturedPages s d p g).flatMap (·.recs) = captureRecs s d p g := by
  rw [capturedPages, markFirst_recs, capturePages_recs]
  rfl

theorem capturedPages_capture (s : State) (d p : Nat) (g : Region) : ∀ pg ∈ capturedPages s d p g, pg.capture = true :=
  markFirst_capture (capturePages_pflags s _ none _ fun _ h => nomatch h)

/-- A region whose capture has ended and whose pages wait. -/
def Region.draining (g : Region) (pgs : List Page) : Region :=
  { g with queue := g.queue ++ pgs, capDrain := true, capFirst := g.capFirst || !pgs.isEmpty }

theorem markFirst_isEmpty (formed : Bool) (l : List Page) : (markFirst formed l).isEmpty = l.isEmpty := by
  cases formed <;> cases l <;> rfl

section
variable {s : State} {d p : Nat} (hd : d < usedDies s)
include hd

theorem exec_captureEnd_eq (hactive : ((s.dieAt d).regionAt p).capActive = true) (hdrain : ((s.dieAt d).regionAt p).capDrain = false)
    (hover : ((s.dieAt d).regionAt p).capTo ≤ s.time.elapsed) : exec (.captureEnd d p) s =
      .next (captureDone (s.modRegion d p fun g => g.draining (capturedPages s d p ((s.dieAt d).regionAt p))) d p) := by
  rw [exec_captureEnd, execCaptureEnd, withDie_of_lt _ hd]
  simp only [hactive, hdrain, State.ticks, hover, decide_true, Bool.not_false, Bool.and_true, given_true, Region.draining,
    capturedPages, markFirst_isEmpty]
  rfl

theorem exec_captureStart_eq (p : Nat) : exec (.captureStart d p) s = .next (captureTrigger s d p) := by
  rw [exec_captureStart, execCaptureStart, withDie_of_lt _ hd]

/-- The first record of an open page is LOG_FLUSH old: the page waits to be written (R253). -/
theorem exec_logFlushExpiry_eq {pg : Page} {r : Rec} (hopen : ((s.dieAt d).regionAt p).openPage = some pg)
    (hfirst : pg.recs.head? = some r) (hold : r.entered + 250000 * cfg s (0x9100 + 16 * p) 0xC 1000 ≤ s.time.elapsed) :
    exec (.logFlushExpiry d p) s = .next (s.modRegion d p fun y => { y with openPage := none, queue := y.queue ++ [pg] }) := by
  have hdue : decide (r.entered + msTicks (cfg s (granIdx p) 0xC 1000) ≤ s.ticks) = true :=
    decide_eq_true (by rw [msTicks, Nat.mul_comm]; exact hold)
  have hclose : closePage ((s.dieAt d).regionAt p) =
      { (s.dieAt d).regionAt p with openPage := none, queue := ((s.dieAt d).regionAt p).queue ++ [pg] } := by
    rw [closePage, hopen]
  rw [exec_logFlushExpiry, execLogFlushExpiry, withDie_of_lt _ hd, hopen, Option.bind_some, hfirst]
  dsimp only
  rw [hdue, given_true]
  simp only [State.modRegion, State.modDie, hclose]

end

end Sys2Proof.Machine
end

section
/-! PROOF. The bytes of an NV page, its write and the pages that are retired: the layer of O44. -/

namespace Sys2Proof.Machine

/-! ### The bytes of a page (R249, R250) -/

theorem crc16Bit_lt {c : Nat} (h : c < 2 ^ 16) : crc16Bit c < 2 ^ 16 := by
  unfold crc16Bit
  split
  · exact Nat.xor_lt_two_pow (Nat.mod_lt _ (by decide)) (by decide)
  · omega

theorem crc16Byte_lt {c : Nat} (h : c < 2 ^ 16) (b : Byte) : crc16Byte c b < 2 ^ 16 := by
  have hbyte : b.toNat * 256 < 2 ^ 16 := by
    have := b.isLt
    omega
  exact crc16Bit_lt <| crc16Bit_lt <| crc16Bit_lt <| crc16Bit_lt <| crc16Bit_lt <| crc16Bit_lt <| crc16Bit_lt <| crc16Bit_lt <|
    Nat.xor_lt_two_pow h hbyte

theorem crc16_lt (l : List Byte) : crc16 l < 2 ^ 16 :=
  List.foldlRecOn (motive := fun c => c < 2 ^ 16) l crc16Byte (by decide) fun _ hc b _ => crc16Byte_lt hc b

/-- Bytes 248 to 253 of a page: the marker with copies of LOG_SEQ, FILL and the count of records (R249). -/
def pageMark (pg : Page) : List Byte :=
  leBytes 2 0x4C47 ++ leBytes 2 pg.seq ++ leBytes 1 pg.fill ++ leBytes 1 pg.recs.length

/-- Bytes 0 to 247 of a page. -/
def pageBody (pg : Page) : List Byte :=
  pageHead pg ++ pg.recs.flatMap recNative ++ zeros (232 - (pg.recs.flatMap recNative).length)

theorem pageBytes_eq (pg : Page) :
    pageBytes pg = pageBody pg ++ (pageMark pg ++ leBytes 2 (crc16 (pageHead pg ++ pageMark pg))) := by
  have hmark : leBytes 2 0x4C47 ++ leBytes 2 pg.seq ++ slice (pageHead pg) 5 1 ++ slice (pageHead pg) 6 1 = pageMark pg := rfl
  rw [pageBytes, hmark, pageBody, List.append_assoc _ (pageMark pg)]

/-- What the marker holds, whatever stands after it. -/
theorem pageMark_fields (pg : Page) (tail : List Byte) : slice (pageMark pg ++ tail) 0 6 = pageMark pg ∧
    slice (pageMark pg ++ tail) 0 2 = leBytes 2 0x4C47 ∧ slice (pageMark pg ++ tail) 2 2 = leBytes 2 pg.seq ∧
    slice (pageMark pg ++ tail) 4 1 = leBytes 1 pg.fill ∧ slice (pageMark pg ++ tail) 5 1 = leBytes 1 pg.recs.length ∧
    slice (pageMark pg ++ tail) 6 2 = tail.take 2 := ⟨rfl, rfl, rfl, rfl, rfl, rfl⟩

theorem pageHead_length (pg : Page) : (pageHead pg).length = 16 := rfl

/-- What a page reads at its head, whatever stands after it. -/
theorem pageBytes_head (pg : Page) : (pageBytes pg).take 16 = pageHead pg ∧ pageSeq (pageBytes pg) = pg.seq % 2 ^ 32 ∧
    slice (pageBytes pg) 5 1 = leBytes 1 pg.fill ∧ slice (pageBytes pg) 6 1 = leBytes 1 pg.recs.length :=
  ⟨rfl, leNat_leBytes 4 pg.seq, rfl, rfl⟩

section
variable {pg : Page} (hfits : (pg.recs.flatMap recNative).length ≤ 232)
include hfits

theorem pageBody_length : (pageBody pg).length = 248 := by
  rw [pageBody, List.length_append, List.length_append, pageHead_length, zeros, List.length_replicate]
  omega

theorem pageBytes_length : (pageBytes pg).length = 256 := by
  rw [pageBytes_eq, List.length_append, pageBody_length hfits]
  rfl

/-- What a page reads from its marker on. -/
theorem slice_pageBytes (off n : Nat) : slice (pageBytes pg) (248 + off) n =
    slice (pageMark pg ++ leBytes 2 (crc16 (pageHead pg ++ pageMark pg))) off n := by
  rw [slice, pageBytes_eq, ← pageBody_length hfits, List.drop_append, slice,
    List.drop_eq_nil_of_le (Nat.le_add_right ..), List.nil_append, Nat.add_sub_cancel_left]

/-- A page as it is written passes the check of a committed page. -/
theorem pageOk_pageBytes : pageOk (pageBytes pg) = true := by
  obtain ⟨hhead, hseq, hfill, hcount⟩ := pageBytes_head pg
  obtain ⟨hmark, hname, hlow, hfillCopy, hcountCopy, hcrc⟩ :=
    pageMark_fields pg (leBytes 2 (crc16 (pageHead pg ++ pageMark pg)))
  have hcrcRead : leNat (leBytes 2 (crc16 (pageHead pg ++ pageMark pg))) = crc16 (pageHead pg ++ pageMark pg) :=
    (leNat_leBytes 2 _).trans (Nat.mod_eq_of_lt (crc16_lt _))
  have hnameRead : leNat (leBytes 2 0x4C47) = 0x4C47 := leNat_leBytes 2 _
  have hlowRead : leNat (leBytes 2 pg.seq) = pg.seq % 2 ^ 32 % 65536 := (leNat_leBytes 2 _).trans (by omega)
  have hat (off n : Nat) := slice_pageBytes hfits off n
  simp only [pageOk, hat 0, hat 2, hat 4, hat 5, hat 6, hmark, hname, hlow, hfillCopy, hcountCopy, hcrc, hhead, hseq, hfill, hcount,
    List.take_of_length_le (length_leBytes 2 _).le, hcrcRead, hnameRead, hlowRead, beq_self_eq_true, Bool.and_self]

end

/-! ### Faults and the die that tells them (R370) -/

/-- A die but for when it wrote fault records, and how many were withheld. -/
def Die.besideFaults (x : Die) : Die := { x with faultAt := [], faultSpoil := [] }

/-- A record of a system stream enters no page of the NV log. -/
theorem ringEnter_system_die (s : State) {k : Nat} (hk : 0x1F0 ≤ k % 512) (r : Rec) : (ringEnter s k r).die = s.die := by
  unfold ringEnter
  extract_lets cap bump
  split
  · rfl
  · split
    · rfl
    · dsimp only
      have hlog (u : State) (q : Rec) : logContinuous u k q = u := by rw [logContinuous, streamLog, if_pos hk]; rfl
      rw [(markReasons_changes _ _) .die rfl, hlog]
      rfl

theorem faultRecord_besideFaults (s : State) (k cls detail par key : Nat) (mk : Nat → List Word) (d : Nat) :
    ((faultRecord s k cls detail par key mk).dieAt d).besideFaults = (s.dieAt d).besideFaults := by
  unfold faultRecord
  extract_lets x last fw r s1 s2 q s3
  split
  · exact modDie_keeps Die.besideFaults s k d fun _ => rfl
  · have h3 : (s3.dieAt d).besideFaults = (s.dieAt d).besideFaults := by
      rw [dieAt_of_die (show s3.die = s1.die from ringEnter_system_die s1 (by omega) r)]
      exact modDie_keeps Die.besideFaults s k d fun _ => rfl
    split
    · exact h3
    · rw [dieAt_of_die ((crierReason_changes _ _ _ _) .die rfl)]
      exact h3

theorem requestReason_besideFaults (s : State) (bit k d : Nat) :
    ((requestReason s bit k).dieAt d).besideFaults = (s.dieAt d).besideFaults := by
  unfold requestReason
  extract_lets q s1
  split
  · rfl
  · exact faultRecord_besideFaults s1 ..

/-! ### Pages that are retired, and writes (R248, R252) -/

/-- The page of the block map behind which a physical page stands (R252). -/
def mapPage (x : Die) (k : Nat) : Nat := ((x.remap.find? fun e => e.2 == k).map (·.1)).getD k

/-- A die once a physical page is retired: a spare page takes its place in the block map, or the region is shortened by it. -/
def Die.pageRetired (x : Die) (k : Nat) : Die :=
  match freeSpare x with
  | some q => { x with
      pagesRetired := satInc 65535 x.pagesRetired, sparesFree := x.sparesFree - 1, remap := tput (tput x.remap (mapPage x k) q) k q }
  | none => { x with pagesRetired := satInc 65535 x.pagesRetired, gonePages := addOnce x.gonePages (mapPage x k) }

theorem pageRetired_spare {x : Die} {q : Nat} (k : Nat) (h : freeSpare x = some q) : x.pageRetired k = { x with
    pagesRetired := satInc 65535 x.pagesRetired, sparesFree := x.sparesFree - 1, remap := tput (tput x.remap (mapPage x k) q) k q } := by
  rw [Die.pageRetired, h]

theorem pageRetired_short {x : Die} (k : Nat) (h : freeSpare x = none) : x.pageRetired k =
    { x with pagesRetired := satInc 65535 x.pagesRetired, gonePages := addOnce x.gonePages (mapPage x k) } := by
  rw [Die.pageRetired, h]

/-- A retired page is told as a fault of its region, and with few spares left a replacement request is made. -/
theorem retirePage_cases (s : State) (d p k : Nat) : ∃ detail, let u := faultItem (s.modDie d (·.pageRetired k)) d 0x11 detail p 0 0
    retirePage s d p k = u ∨ retirePage s d p k = requestReason u 0 d := by
  cases hfree : freeSpare (s.dieAt d) with
  | some q =>
    refine ⟨1, ?_⟩
    simp only [retirePage, hfree, State.modDie, pageRetired_spare k hfree, mapPage]
    exact (ite_eq_or_eq ..).symm
  | none =>
    refine ⟨2, .inl ?_⟩
    simp only [retirePage, hfree, State.modDie, pageRetired_short k hfree, mapPage]

theorem retirePage_besideFaults (s : State) (d p k : Nat) :
    ((retirePage s d p k).dieAt d).besideFaults = ((s.dieAt d).pageRetired k).besideFaults := by
  obtain ⟨detail, h | h⟩ := retirePage_cases s d p k
  · rw [h, faultItem, faultRecord_besideFaults, State.modDie_dieAt]
  · rw [h, requestReason_besideFaults, faultItem, faultRecord_besideFaults, State.modDie_dieAt]

/-- A die whose page has been written once more. -/
def Die.worn (x : Die) (k : Nat) : Die := { x with pageWrites := tput x.pageWrites k (tget 0 x.pageWrites k + 1) }

theorem wearPage_dieAt (s : State) (d k : Nat) : (wearPage s d k).dieAt d = (s.dieAt d).worn k := State.modDie_dieAt ..

/-- The machine once a page has been written behind a die's block map: the page wears, stands as the newest of its region, and may be
the last one of a capture (R248, R251, R253). -/
def pageWritten (s : State) (d p : Nat) (pg : Page) : State :=
  let u := wearPage s d (physPage (s.dieAt d) ((s.dieAt d).regionAt p))
  captureDone (u.modRegion d p fun g => storePage (regionSize (u.dieAt d) g) g pg) d p

section
variable (s : State) (d p : Nat) (pg : Page)

theorem pageWritten_besideLog : ((pageWritten s d p pg).dieAt d).besideLog =
    ((s.dieAt d).worn (physPage (s.dieAt d) ((s.dieAt d).regionAt p))).besideLog := by
  rw [pageWritten, (captureDone_keeps _ _ _).1, State.modRegion_besideLog, wearPage_dieAt]

theorem pageWritten_besideCapture : (((pageWritten s d p pg).dieAt d).regionAt p).besideCapture =
    (storePage (regionSize (s.dieAt d) ((s.dieAt d).regionAt p)) ((s.dieAt d).regionAt p) pg).besideCapture := by
  rw [pageWritten, (captureDone_keeps _ _ _).2, State.modRegion_regionAt, wearPage_dieAt]
  rfl

theorem pageWritten_changes : Changes [.die, .stream, .parish, .timers] s (pageWritten s d p pg) :=
  have hworn := wearPage_changes s d (physPage (s.dieAt d) ((s.dieAt d).regionAt p))
  .after (.after (.after (.refl _ _) hworn rfl) (State.modRegion_changes _ d p _) rfl) (captureDone_changes _ d p) rfl

end

/-- What a die counts of group rewrites (R252). -/
def Die.rewritten (x : Die) (retries : Nat) : Die := { x with writeRetries := x.writeRetries + BitVec.ofNat 32 retries }

section
variable {s : State} {d p : Nat} {pg : Page} {rest : List Page} (hd : d < usedDies s) (hqueue : ((s.dieAt d).regionAt p).queue = pg :: rest)
  (hmay : mayWrite (s.dieAt d) p = true) (retries : Nat)
include hd hqueue hmay

/-- A page is written where no group failed and its physical page is not worn out. -/
theorem exec_nvPageWriteDone_ok (hworn : tget 0 (s.dieAt d).pageWrites (physPage (s.dieAt d) ((s.dieAt d).regionAt p)) < 100000) :
    exec (.nvPageWriteDone d p retries true) s = .next (pageWritten (s.modDie d (·.rewritten retries)) d p pg) := by
  have hgood : decide (100000 ≤ tget 0 (s.dieAt d).pageWrites (physPage (s.dieAt d) ((s.dieAt d).regionAt p))) = false := by
    simpa using hworn
  rw [exec_nvPageWriteDone, execNvPageWriteDone, withDie_of_lt _ hd]
  simp only [hqueue, hmay, given_true, hgood, Bool.not_true, Bool.or_false, Bool.false_eq_true, if_false]
  rfl

/-- A page whose group failed is retired and then written. -/
theorem exec_nvPageWriteDone_failed : exec (.nvPageWriteDone d p retries false) s =
    .next (pageWritten (retirePage (wearPage (s.modDie d (·.rewritten retries)) d (physPage (s.dieAt d) ((s.dieAt d).regionAt p))) d p
      (physPage (s.dieAt d) ((s.dieAt d).regionAt p))) d p pg) := by
  rw [exec_nvPageWriteDone, execNvPageWriteDone, withDie_of_lt _ hd]
  simp only [hqueue, hmay, given_true, Bool.not_false, Bool.true_or, Bool.false_eq_true, if_false, if_true]
  rfl

end

theorem storePage_fields {size : Nat} {g h : Region} {pg : Page} (heq : h.besideCapture = (storePage size g pg).besideCapture) :
    h.pages = putPage size g (pageBytes { pg with seq := g.nextSeq }) ∧ h.queue = g.queue.drop 1 ∧ h.nextSeq = g.nextSeq + 1 :=
  ⟨(congrArg Region.pages heq :), (congrArg Region.queue heq :), (congrArg Region.nextSeq heq :)⟩

theorem pageOf_of_gone {x y : Die} (hgone : y.gonePages = x.gonePages) (bs : List Nat) (pos : Nat) : pageOf y bs pos = pageOf x bs pos := by
  have hthere : y.pageThere = x.pageThere := funext fun k => by rw [Die.pageThere, hgone, Die.pageThere]
  have hpages (b : Nat) : y.blockPages b = x.blockPages b := by rw [Die.blockPages, hthere, Die.blockPages]
  induction bs generalizing pos with
  | nil => rfl
  | cons b bs ih => simp only [pageOf, hpages, ih]

theorem physPage_of_map {x y : Die} (hgone : y.gonePages = x.gonePages) (hmap : y.remap = x.remap) (g : Region) :
    physPage y g = physPage x g := by
  have hsize : regionSize y g = regionSize x g := by rw [regionSize, hgone, regionSize]
  unfold physPage
  rw [hsize, pageOf_of_gone hgone, hmap]

/-- A page that is written: the region's newest, its physical page worn once more (R248, R249, R251). -/
theorem pageWritten_effect {s : State} {d p : Nat} {pg : Page} {x : Die} (h : (s.dieAt d).besideFaults = x.besideFaults) :
    let t := pageWritten s d p pg
    let g := x.regionAt p
    ((t.dieAt d).regionAt p).pages = putPage (regionSize x g) g (pageBytes { pg with seq := g.nextSeq }) ∧
      ((t.dieAt d).regionAt p).queue = g.queue.drop 1 ∧ ((t.dieAt d).regionAt p).nextSeq = g.nextSeq + 1 ∧
      (t.dieAt d).besideRecords = (x.worn (physPage x g)).besideRecords := by
  have hregion : (s.dieAt d).regionAt p = x.regionAt p := (congrArg (fun y : Die => y.regionAt p) h :)
  have hsize (g : Region) : regionSize (s.dieAt d) g = regionSize x g := (congrArg (fun y : Die => regionSize y g) h :)
  have hgone : (s.dieAt d).gonePages = x.gonePages := (congrArg Die.gonePages h :)
  have hmap : (s.dieAt d).remap = x.remap := (congrArg Die.remap h :)
  obtain ⟨hpages, hqueue, hseq⟩ := storePage_fields (pageWritten_besideCapture s d p pg)
  rw [hregion, hsize] at hpages
  rw [hregion] at hqueue hseq
  refine ⟨hpages, hqueue, hseq, ?_⟩
  rw [besideRecords_of_besideLog (pageWritten_besideLog s d p pg), hregion, physPage_of_map hgone hmap]
  exact (congrArg (fun y : Die => (y.worn (physPage x (x.regionAt p))).besideRecords) h :)

/-- What a die keeps, and counts, of a page written in so many group rewrites and retired (R252). -/
theorem retiredWrite_counts (x : Die) (retries k : Nat) :
    let z := ((x.rewritten retries).worn k).pageRetired k
    z.regions = x.regions ∧ z.pagesRetired = satInc 65535 x.pagesRetired ∧
      (∀ q, freeSpare x = some q → z.sparesFree = x.sparesFree - 1 ∧ z.gonePages = x.gonePages) ∧
      (freeSpare x = none → z.sparesFree = x.sparesFree ∧ z.gonePages = addOnce x.gonePages (mapPage x k)) := by
  have hfree : freeSpare ((x.rewritten retries).worn k) = freeSpare x := rfl
  cases h : freeSpare x with
  | some q =>
    rw [pageRetired_spare k (hfree.trans h)]
    exact ⟨rfl, rfl, fun _ _ => ⟨rfl, rfl⟩, nofun⟩
  | none =>
    rw [pageRetired_short k (hfree.trans h)]
    exact ⟨rfl, rfl, nofun, fun _ => ⟨rfl, rfl⟩⟩

theorem worn_counts (x : Die) (k : Nat) : (x.worn k).pageWrites = tput x.pageWrites k (tget 0 x.pageWrites k + 1) ∧
    (x.worn k).writeRetries = x.writeRetries ∧ (x.worn k).pagesRetired = x.pagesRetired ∧ (x.worn k).sparesFree = x.sparesFree ∧
    (x.worn k).gonePages = x.gonePages := ⟨rfl, rfl, rfl, rfl, rfl⟩

/-- What a die counts of its pages stays in what fault records leave. -/
theorem counts_of_besideRecords {x y : Die} (h : y.besideRecords = x.besideRecords) : y.pageWrites = x.pageWrites ∧
    y.writeRetries = x.writeRetries ∧ y.pagesRetired = x.pagesRetired ∧ y.sparesFree = x.sparesFree ∧ y.gonePages = x.gonePages :=
  ⟨(congrArg Die.pageWrites h :), (congrArg Die.writeRetries h :), (congrArg Die.pagesRetired h :), (congrArg Die.sparesFree h :),
    (congrArg Die.gonePages h :)⟩

/-- What a die counts after a write of a page, from what it counted before. -/
theorem counts_of_worn {x y : Die} {k : Nat} (h : y.besideRecords = (x.worn k).besideRecords) :
    y.pageWrites = tput x.pageWrites k (tget 0 x.pageWrites k + 1) ∧ y.writeRetries = x.writeRetries ∧
      y.pagesRetired = x.pagesRetired ∧ y.sparesFree = x.sparesFree ∧ y.gonePages = x.gonePages := by
  obtain ⟨hwrites, hretries, hretired, hspares, hgone⟩ := worn_counts x k
  rw [← hwrites, ← hretries, ← hretired, ← hspares, ← hgone]
  exact counts_of_besideRecords h

section
variable {s : State} {d p : Nat} {pg : Page} {rest : List Page} (hd : d < usedDies s) (hqueue : ((s.dieAt d).regionAt p).queue = pg :: rest)
  (hmay : mayWrite (s.dieAt d) p = true) (retries : Nat)
include hd hqueue hmay

/-- NV_PAGE_WRITE_DONE of a page whose groups all held (R249, R251). -/
theorem nvPageWriteDone_ok (hworn : tget 0 (s.dieAt d).pageWrites (physPage (s.dieAt d) ((s.dieAt d).regionAt p)) < 100000) :
    ∃ t, exec (.nvPageWriteDone d p retries true) s = .next t ∧
      let x := s.dieAt d
      let g := x.regionAt p
      ((t.dieAt d).regionAt p).pages = putPage (regionSize x g) g (pageBytes { pg with seq := g.nextSeq }) ∧
        ((t.dieAt d).regionAt p).queue = rest ∧ ((t.dieAt d).regionAt p).nextSeq = g.nextSeq + 1 ∧
        (t.dieAt d).pageWrites = tput x.pageWrites (physPage x g) (tget 0 x.pageWrites (physPage x g) + 1) ∧
        (t.dieAt d).writeRetries = x.writeRetries + BitVec.ofNat 32 retries ∧ (t.dieAt d).pagesRetired = x.pagesRetired ∧
        Changes [.die, .stream, .parish, .timers] s t := by
  refine ⟨_, exec_nvPageWriteDone_ok hd hqueue hmay retries hworn, ?_⟩
  extract_lets x g
  have hwritten : ((s.modDie d (·.rewritten retries)).dieAt d).besideFaults = (x.rewritten retries).besideFaults := by
    rw [State.modDie_dieAt]
  obtain ⟨hpages, hrest, hseq, hdie⟩ := pageWritten_effect (p := p) (pg := pg) hwritten
  have hregion : (x.rewritten retries).regionAt p = g := rfl
  rw [hregion] at hpages hrest hseq hdie
  rw [physPage_of_map (x := x) (y := x.rewritten retries) rfl rfl g] at hdie
  obtain ⟨hwrites, hretries, hretired, -⟩ := counts_of_worn hdie
  exact ⟨hpages, hrest.trans (congrArg (List.drop 1) hqueue), hseq, hwrites, hretries, hretired,
    .after (.after (.refl _ _) (State.modDie_changes s d _) rfl) (pageWritten_changes _ d p pg) rfl⟩

/-- NV_PAGE_WRITE_DONE of a page of which a group still failed (R252). -/
theorem nvPageWriteDone_failed : ∃ t, exec (.nvPageWriteDone d p retries false) s = .next t ∧
    let x := s.dieAt d
    let g := x.regionAt p
    ((t.dieAt d).regionAt p).queue = rest ∧ ((t.dieAt d).regionAt p).nextSeq = g.nextSeq + 1 ∧
      (t.dieAt d).pagesRetired = satInc 65535 x.pagesRetired ∧
      (∀ q, freeSpare x = some q → (t.dieAt d).sparesFree = x.sparesFree - 1 ∧ (t.dieAt d).gonePages = x.gonePages) ∧
      (freeSpare x = none → (t.dieAt d).sparesFree = x.sparesFree ∧
        (t.dieAt d).gonePages = addOnce x.gonePages (mapPage x (physPage x g))) := by
  refine ⟨_, exec_nvPageWriteDone_failed hd hqueue hmay retries, ?_⟩
  extract_lets x g
  have hretired := retirePage_besideFaults (wearPage (s.modDie d (·.rewritten retries)) d (physPage x g)) d p (physPage x g)
  rw [wearPage_dieAt, State.modDie_dieAt] at hretired
  obtain ⟨hregions, hcount, hspare, hshort⟩ := retiredWrite_counts x retries (physPage x g)
  have hregion : (((x.rewritten retries).worn (physPage x g)).pageRetired (physPage x g)).regionAt p = g :=
    congrArg (fun l : Tbl Region => tget ({} : Region) l p) hregions
  obtain ⟨-, hrest, hseq, hdie⟩ := pageWritten_effect (p := p) (pg := pg) hretired
  rw [hregion] at hrest hseq
  obtain ⟨-, -, htold, hfree, hgone⟩ := counts_of_worn hdie
  refine ⟨hrest.trans (congrArg (List.drop 1) hqueue), hseq, htold.trans hcount, fun q hq => ?_, fun hnone => ?_⟩
  · obtain ⟨hspares, hstay⟩ := hspare q hq
    exact ⟨hfree.trans hspares, hgone.trans hstay⟩
  · obtain ⟨hspares, hjoin⟩ := hshort hnone
    exact ⟨hfree.trans hspares, hgone.trans hjoin⟩

end

end Sys2Proof.Machine
end

section
/-! PROOF. O44: the captures, pages, wear and scan of the NV log. -/

namespace Sys2Proof.Machine

/-! ### The scan after reset (R255, R257) -/

theorem scanRegion_fields (g : Region) : (scanRegion g).pages = g.pages ∧ (scanRegion g).queue = g.queue ∧
    (scanRegion g).nextSeq = match headSeq g with
      | some n => n + 1
      | none => 0 := by
  refine ⟨rfl, rfl, ?_⟩
  cases h : headSeq g <;> simp [scanRegion, h]

/-- The torn pages of a region (R250). -/
def tornCount (g : Region) : Nat := (g.pages.filter fun b => !pageOk b).length

theorem foldl_tornCount (l : Tbl Region) : l.foldl (fun a e => a + tornCount e.2) 0 = (l.map fun e => tornCount e.2).sum := by
  rw [List.sum_eq_foldl, List.foldl_map]

/-- A die whose region pages have been scanned. -/
def Die.scanned (x : Die) : Die :=
  { x with
    scanDone := true, tornPages := min 65535 (x.tornPages + (x.regions.map fun e => tornCount e.2).sum)
    regions := x.regions.map fun e => (e.1, scanRegion e.2) }

theorem scanned_regionAt (x : Die) (q : Nat) : x.scanned.regionAt q = scanRegion (x.regionAt q) :=
  tget_map (fun _ g => scanRegion g) {} x.regions q rfl

/-- The scan of a die ends once its rota has begun its first frame, or at once where it has none (R257). -/
theorem exec_nvScanDone_eq {s : State} {d : Nat} (hd : d < usedDies s) (hdict : s.dictReady = true)
    (hon : (s.dieAt d).logicOn = true) (hscan : (s.dieAt d).scanDone = false)
    (hframe : (s.dieAt d).frames ≠ 0 ∨ (s.dieAt d).active.valid = false) : exec (.nvScanDone d) s =
      .next (unpinStreams (s.modDie d Die.scanned) fun k => streamDie k == d && streamLog s k == 1) := by
  have hready : (s.dictReady && (s.dieAt d).logicOn && !(s.dieAt d).scanDone &&
      ((s.dieAt d).frames != 0 || !(s.dieAt d).active.valid)) = true := by
    simpa [hdict, hon, hscan] using hframe
  have hdie : Die.scanned (s.dieAt d) = { s.dieAt d with
      scanDone := true
      tornPages := satAdd 65535 (s.dieAt d).tornPages ((s.dieAt d).regions.foldl (fun a e => a + tornCount e.2) 0)
      regions := (s.dieAt d).regions.map fun e => (e.1, scanRegion e.2) } := by
    rw [foldl_tornCount]
    rfl
  rw [exec_nvScanDone, execNvScanDone, withDie_of_lt _ hd]
  dsimp only
  rw [hready, given_true, State.modDie, State.modDie, hdie]
  rfl

/-! ### Wear levelling (R254) -/

theorem argMax_mem {f : Nat → Nat} {l : List Nat} {a : Nat} (h : argMax f l = some a) : a ∈ l := by
  induction l generalizing a with
  | nil => cases h
  | cons b t ih =>
    unfold argMax at h
    split at h
    · exact Option.some.inj h ▸ List.mem_cons_self
    · next c hc =>
      split at h
      · exact Option.some.inj h ▸ List.mem_cons_of_mem _ (ih hc)
      · exact Option.some.inj h ▸ List.mem_cons_self

theorem argMin_mem {f : Nat → Nat} {l : List Nat} {a : Nat} (h : argMin f l = some a) : a ∈ l := by
  induction l generalizing a with
  | nil => cases h
  | cons b t ih =>
    unfold argMin at h
    split at h
    · exact Option.some.inj h ▸ List.mem_cons_self
    · next c hc =>
      split at h
      · exact Option.some.inj h ▸ List.mem_cons_of_mem _ (ih hc)
      · exact Option.some.inj h ▸ List.mem_cons_self

/-- A die but for how often its pages were written. -/
def Die.besideWrites (x : Die) : Die := { x with pageWrites := [] }

section
variable {x y : Die} (h : y.besideWrites = x.besideWrites)
include h

theorem regionAt_of_besideWrites (p : Nat) : y.regionAt p = x.regionAt p := (congrArg (fun z : Die => z.regionAt p) h :)

theorem spareBlocks_of_besideWrites : y.spareBlocks = x.spareBlocks := (congrArg Die.spareBlocks h :)

end

theorem spareBlocks_of_besideLog {x y : Die} (h : y.besideLog = x.besideLog) : y.spareBlocks = x.spareBlocks :=
  (congrArg Die.spareBlocks h :)

theorem wearPage_besideWrites (s : State) (d k j : Nat) : ((wearPage s d k).dieAt j).besideWrites = (s.dieAt j).besideWrites :=
  modDie_keeps Die.besideWrites s d j fun _ => rfl

theorem copyInto_besideWrites (s : State) (d b j : Nat) : ((copyInto s d b).dieAt j).besideWrites = (s.dieAt j).besideWrites :=
  List.foldlRecOn (motive := fun x : State => (x.dieAt j).besideWrites = (s.dieAt j).besideWrites) _ _ rfl
    fun x hx i _ => (wearPage_besideWrites x d (b * 64 + i) j).trans hx

theorem copyInto_dieAt_other (s : State) {d j : Nat} (b : Nat) (h : j ≠ d) : (copyInto s d b).dieAt j = s.dieAt j :=
  List.foldlRecOn (motive := fun x : State => x.dieAt j = s.dieAt j) _ _ rfl
    fun _ hx _ _ => (State.modDie_dieAt_other _ _ _ _ h).trans hx

/-- The numbers of the regions that hold blocks (R254). -/
def blockRegions (x : Die) : List Nat := (x.regions.filter fun e => !e.2.blocks.isEmpty).map (·.1)

theorem mem_blockRegions {x : Die} {p : Nat} (h : p ∈ blockRegions x) : ∃ e ∈ x.regions, e.2.blocks ≠ [] ∧ e.1 = p := by
  obtain ⟨e, he, rfl⟩ := List.mem_map.mp h
  obtain ⟨hmem, hblocks⟩ := List.mem_filter.mp he
  exact ⟨e, hmem, by simpa using hblocks, rfl⟩

/-- The spare blocks of which no page serves a retired one (R254). -/
def wholeSpares (x : Die) : List Nat := x.spareBlocks.filter fun k => !x.remap.any fun e => e.2 / 64 == k

/-- Wear levelling of a region's block into a spare one: its content is copied, and the region takes the other block. -/
def blockMoved (s : State) (d p old new_ : Nat) : State :=
  (copyInto s d new_).modRegion d p fun g => { g with blocks := replaceVal g.blocks old new_ }

theorem blockMoved_blocks (s : State) (d p old new_ : Nat) : (((blockMoved s d p old new_).dieAt d).regionAt p).blocks =
    replaceVal ((s.dieAt d).regionAt p).blocks old new_ := by
  rw [blockMoved, State.modRegion_regionAt, regionAt_of_besideWrites (copyInto_besideWrites ..)]

theorem blockMoved_regionAt_other (s : State) {d p q : Nat} (old new_ : Nat) (h : q ≠ p) :
    ((blockMoved s d p old new_).dieAt d).regionAt q = (s.dieAt d).regionAt q := by
  rw [blockMoved, State.modRegion_regionAt_other _ _ _ _ h, regionAt_of_besideWrites (copyInto_besideWrites ..)]

theorem blockMoved_dieAt_other (s : State) {d j : Nat} (p old new_ : Nat) (h : j ≠ d) :
    (blockMoved s d p old new_).dieAt j = s.dieAt j := by
  rw [blockMoved, State.modRegion_dieAt_other _ _ _ _ h, copyInto_dieAt_other s new_ h]

theorem blockMoved_spares (s : State) (d p old new_ : Nat) :
    ((blockMoved s d p old new_).dieAt d).spareBlocks = (s.dieAt d).spareBlocks := by
  rw [blockMoved, spareBlocks_of_besideLog (State.modRegion_besideLog ..), spareBlocks_of_besideWrites (copyInto_besideWrites ..)]

theorem blockMoved_changes (s : State) (d p old new_ : Nat) : Changes [.die] s (blockMoved s d p old new_) :=
  .after (.after (.refl _ _) (copyInto_changes s d new_) rfl) (State.modRegion_changes _ d p _) rfl

/-- A die whose freed block has joined the spares. -/
def Die.sparesReplaced (x : Die) (a b : Nat) : Die := { x with spareBlocks := replaceVal x.spareBlocks a b }

theorem sparesReplaced_regionAt (x : Die) (a b q : Nat) : (x.sparesReplaced a b).regionAt q = x.regionAt q := rfl

/-- Block b of region hi goes to the spare block sp, block c of region lo to b, and c joins the spares (R254). -/
def wearLevelled (s : State) (d hi lo sp b c : Nat) : State :=
  (blockMoved (blockMoved s d hi b sp) d lo c b).modDie d (·.sparesReplaced sp c)

section
variable {s : State} {d : Nat} (hd : d < usedDies s)
include hd

/-- While no two regions differ by more than 2,000 writes a page, no block moves. -/
theorem exec_wearLevelCheck_even (heven : ∀ a ∈ (s.dieAt d).regions, ∀ b ∈ (s.dieAt d).regions, a.2.blocks ≠ [] → b.2.blocks ≠ [] →
    regionMean (s.dieAt d) ((s.dieAt d).regionAt a.1) ≤ regionMean (s.dieAt d) ((s.dieAt d).regionAt b.1) + 131072000) :
    exec (.wearLevelCheck d) s = .next s := by
  rw [exec_wearLevelCheck, execWearLevelCheck, withDie_of_lt _ hd]
  dsimp only
  split
  · next hi lo sp hmax hmin _ =>
    obtain ⟨e, he, hblocks, rfl⟩ := mem_blockRegions (argMax_mem hmax)
    obtain ⟨f, hf, hothers, rfl⟩ := mem_blockRegions (argMin_mem hmin)
    have hle := heven e he f hf hblocks hothers
    split
    · rw [decide_eq_false (by omega), Bool.false_and, given_false]
    · rfl
  · rfl

theorem exec_wearLevelCheck_moves {hi lo sp b c : Nat}
    (hmax : argMax (fun p => regionMean (s.dieAt d) ((s.dieAt d).regionAt p)) (blockRegions (s.dieAt d)) = some hi)
    (hmin : argMin (fun p => regionMean (s.dieAt d) ((s.dieAt d).regionAt p)) (blockRegions (s.dieAt d)) = some lo)
    (hspare : argMin (blockWrites (s.dieAt d)) (wholeSpares (s.dieAt d)) = some sp)
    (hmost : argMax (blockWrites (s.dieAt d)) ((s.dieAt d).regionAt hi).blocks = some b)
    (hleast : argMin (blockWrites (s.dieAt d)) ((s.dieAt d).regionAt lo).blocks = some c)
    (hapart : regionMean (s.dieAt d) ((s.dieAt d).regionAt lo) + 131072000 < regionMean (s.dieAt d) ((s.dieAt d).regionAt hi))
    (hon : (s.dieAt d).logicOn = true) : exec (.wearLevelCheck d) s = .next (wearLevelled s d hi lo sp b c) := by
  rw [blockRegions] at hmax hmin
  rw [wholeSpares] at hspare
  rw [exec_wearLevelCheck, execWearLevelCheck, withDie_of_lt _ hd]
  simp only [hmax, hmin, hspare, hmost, hleast, hapart, hon, decide_true, Bool.and_self, given_true]
  rfl

end

section
variable (s : State) (d hi lo sp b c : Nat)

theorem wearLevelled_dieAt : (wearLevelled s d hi lo sp b c).dieAt d =
    ((blockMoved (blockMoved s d hi b sp) d lo c b).dieAt d).sparesReplaced sp c := State.modDie_dieAt ..

theorem wearLevelled_dieAt_other {j : Nat} (hj : j ≠ d) : (wearLevelled s d hi lo sp b c).dieAt j = s.dieAt j := by
  rw [wearLevelled, State.modDie_dieAt_other _ _ _ _ hj, blockMoved_dieAt_other _ _ _ _ hj, blockMoved_dieAt_other _ _ _ _ hj]

theorem wearLevelled_regionAt_other {q : Nat} (hhi : q ≠ hi) (hlo : q ≠ lo) :
    ((wearLevelled s d hi lo sp b c).dieAt d).regionAt q = (s.dieAt d).regionAt q := by
  rw [wearLevelled_dieAt, sparesReplaced_regionAt, blockMoved_regionAt_other _ _ _ hlo, blockMoved_regionAt_other _ _ _ hhi]

theorem wearLevelled_spares : ((wearLevelled s d hi lo sp b c).dieAt d).spareBlocks = replaceVal (s.dieAt d).spareBlocks sp c := by
  rw [wearLevelled_dieAt, Die.sparesReplaced, blockMoved_spares, blockMoved_spares]

theorem wearLevelled_changes : Changes [.die] s (wearLevelled s d hi lo sp b c) :=
  have hfirst := blockMoved_changes s d hi b sp
  .after (.after (.after (.refl _ _) hfirst rfl) (blockMoved_changes _ d lo c b) rfl) (State.modDie_changes _ d _) rfl

variable (h : hi ≠ lo)
include h

theorem wearLevelled_blocks_high : (((wearLevelled s d hi lo sp b c).dieAt d).regionAt hi).blocks =
    replaceVal ((s.dieAt d).regionAt hi).blocks b sp := by
  rw [wearLevelled_dieAt, sparesReplaced_regionAt, blockMoved_regionAt_other _ _ _ h, blockMoved_blocks]

theorem wearLevelled_blocks_low : (((wearLevelled s d hi lo sp b c).dieAt d).regionAt lo).blocks =
    replaceVal ((s.dieAt d).regionAt lo).blocks c b := by
  rw [wearLevelled_dieAt, sparesReplaced_regionAt, blockMoved_blocks, blockMoved_regionAt_other _ _ _ h.symm]

end

theorem CaptureStarts.statement {s t : State} {d p : Nat} (h : CaptureStarts s t d p) :
    let g := (s.dieAt d).regionAt p
    ((t.dieAt d).regionAt p).capActive = true ∧ ((t.dieAt d).regionAt p).capDrain = false ∧
      ((t.dieAt d).regionAt p).capTo = s.time.elapsed + 250000 * cfg s (0x9100 + 16 * p) 0xB 1000 ∧
      ((t.dieAt d).regionAt p).capFrom = captureSince s p g ∧
      ∀ k, k / 512 = d → streamOwner s k = some p → streamLog s k = 2 → (t.streamAt k).ring =
        (s.streamAt k).ring.map fun r => if captureSince s p g ≤ r.entered then { r with pinned := true } else r := by
  rw [h.region]
  refine ⟨rfl, rfl, rfl, rfl, fun k hk howner hlog => ?_⟩
  rw [h.streams k ⟨hk, howner, hlog⟩]
  rfl

section
variable {s : State} {d p : Nat} (hd : d < usedDies s)
include hd

/-- CAPTURE_END: the capture's pages wait after those of the region, and with none waiting it is complete (R253). -/
theorem captureEnd_effect (hactive : ((s.dieAt d).regionAt p).capActive = true) (hdrain : ((s.dieAt d).regionAt p).capDrain = false)
    (hover : ((s.dieAt d).regionAt p).capTo ≤ s.time.elapsed) :
    let g := (s.dieAt d).regionAt p
    let pgs := capturedPages s d p g
    ∃ t, exec (.captureEnd d p) s = .next t ∧ ((t.dieAt d).regionAt p).queue = g.queue ++ pgs ∧
      ((∃ pg ∈ g.queue ++ pgs, pg.capture = true) → ((t.dieAt d).regionAt p).capActive = true ∧
        ((t.dieAt d).regionAt p).capDrain = true ∧ ((t.dieAt d).regionAt p).captures = g.captures ∧ t.stream = s.stream) ∧
      ((∀ pg ∈ g.queue ++ pgs, pg.capture = false) → ((t.dieAt d).regionAt p).capActive = false ∧
        ((t.dieAt d).regionAt p).captures = satInc 65535 g.captures ∧
        ∀ k, k / 512 = d → streamOwner s k = some p → ∀ r ∈ (t.streamAt k).ring, r.pinned = false) := by
  extract_lets g pgs
  refine ⟨_, exec_captureEnd_eq hd hactive hdrain hover, ?_⟩
  have hregion : ((s.modRegion d p fun y => y.draining pgs).dieAt d).regionAt p = g.draining pgs := State.modRegion_regionAt ..
  refine ⟨?_, fun hwaits => ?_, fun hnone => ?_⟩
  · have hqueue := congrArg Region.queue ((captureDone_keeps (s.modRegion d p fun y => y.draining pgs) d p).2.trans
      (congrArg Region.besideCapture hregion))
    exact hqueue
  · have hsame := captureDone_waits (s := s.modRegion d p fun y => y.draining pgs) (d := d) (p := p) (by rw [hregion]; exact hwaits)
    rw [hsame, hregion]
    exact ⟨hactive, rfl, rfl, rfl⟩
  · have hover := captureDone_regionAt (s := s.modRegion d p fun y => y.draining pgs) (d := d) (p := p) (by rw [hregion]; exact hactive)
      (by rw [hregion]; rfl) (by rw [hregion]; exact hnone)
    refine ⟨by rw [hover]; rfl, by rw [hover, hregion]; rfl, fun k hk howner => ?_⟩
    exact captureDone_unpins (by rw [hregion]; exact hactive) (by rw [hregion]; rfl) (by rw [hregion]; exact hnone) hk
      ((s.modRegion_streamOwner ..).trans howner)

end

/-- NV_SCAN_DONE: the torn pages are counted, the heads taken, and the records that waited for the scan unpinned (R257). -/
theorem nvScanDone_effect {s : State} {d : Nat} (hd : d < usedDies s) (hdict : s.dictReady = true)
    (hon : (s.dieAt d).logicOn = true) (hscan : (s.dieAt d).scanDone = false)
    (hframe : (s.dieAt d).frames ≠ 0 ∨ (s.dieAt d).active.valid = false) :
    ∃ t, exec (.nvScanDone d) s = .next t ∧ t.dieAt d = (s.dieAt d).scanned ∧ (∀ j, j ≠ d → t.dieAt j = s.dieAt j) ∧
      ∀ k, t.streamAt k = if k / 512 = d ∧ streamLog s k = 1 then (s.streamAt k).unpinned else s.streamAt k := by
  refine ⟨_, exec_nvScanDone_eq hd hdict hon hscan hframe, State.modDie_dieAt .., fun j hj => State.modDie_dieAt_other _ _ _ _ hj,
    fun k => ?_⟩
  simp only [unpinStreams_streamAt, streamDie, Bool.and_eq_true, beq_iff_eq]
  rfl

/-- Settles O44: what each command does to the region of the NV log that it names, and to the records of its streams. -/
theorem capturesStartAndEnd : Obligations.CapturesStartAndEnd := by
  unfold Obligations.CapturesStartAndEnd
  refine ⟨fun s p => ?_, fun s d p hd => ?_, fun s d hd => ?_⟩
  · intro pre post from_ starts
    refine ⟨fun d hd => ⟨fun hnone => ?_, fun hsome => ?_⟩, fun hp => ?_⟩
    · rw [exec_captureStart_eq hd, captureTrigger_none hnone]
    · refine ⟨_, exec_captureStart_eq hd p, (captureTrigger_starts hsome).statement, fun j hj => captureTrigger_dieAt_other hj,
        fun k hk => captureTrigger_streamAt_other ?_, captureTrigger_changes s d p⟩
      rintro ⟨hdie, howner, hlog⟩
      exact hk.elim (· hdie) (·.elim (· howner) (· hlog))
    · refine ⟨_, exec_logTrigger_eq s hp, rfl, execLogTrigger_changes p s _ (exec_logTrigger_eq s hp), fun d hd => ?_⟩
      obtain ⟨x, hbefore, hafter⟩ := logTrigger_sparesDie s p hd
      refine ⟨fun hnone => ?_, fun hsome => ?_⟩
      · rw [captureTrigger_none (hbefore.logBlocks p ▸ hnone)] at hafter
        exact (hbefore.trans hafter).die
      · have hstart : CaptureStarts x (captureTrigger x d p) d p := captureTrigger_starts (by rwa [hbefore.logBlocks p])
        exact (hbefore.captureStarts (CaptureStarts.after hafter hstart)).statement
  · intro x g
    refine ⟨fun hactive hdrain hover => ?_, fun pg r hopen hfirst hold => exec_logFlushExpiry_eq hd hopen hfirst hold,
      fun pg rest retries hqueue hscan hon hlost hsize => ?_, fun hdict hon hscan hframe => ?_⟩
    · obtain ⟨t, hexec, hqueue, hwaits, hover⟩ := captureEnd_effect hd hactive hdrain hover
      exact ⟨t, _, hexec, capturedPages_recs s d p g, capturedPages_capture s d p g, hqueue, hwaits, hover,
        execCaptureEnd_changes d p s t hexec⟩
    · have hmay : mayWrite x p = true := by simp [mayWrite, hscan, hon, hlost, hsize, g]
      refine ⟨fun hworn => ?_, ?_⟩
      · obtain ⟨t, hexec, hpages, hrest, hseq, hwrites, hretries, hretired, hchanges⟩ := nvPageWriteDone_ok hd hqueue hmay retries hworn
        exact ⟨t, hexec, hpages, fun hfits => ⟨pageOk_pageBytes hfits, pageBytes_length hfits⟩, hrest, hseq, hwrites, hretries, hretired,
          hchanges⟩
      · obtain ⟨t, hexec, hrest, hseq, hretired, hspare, hshort⟩ := nvPageWriteDone_failed hd hqueue hmay retries
        exact ⟨t, hexec, hrest, hseq, hretired, hspare, hshort, execNvPageWriteDone_changes d p retries false s t hexec⟩
    · obtain ⟨t, hexec, hdie, hothers, hstreams⟩ := nvScanDone_effect hd hdict hon hscan hframe
      refine ⟨t, hexec, by rw [hdie]; rfl, fun q => ?_, by rw [hdie]; rfl, fun k hk hlog r hr => ?_, fun k hk => ?_, hothers,
        execNvScanDone_changes d s t hexec⟩
      · rw [hdie, scanned_regionAt]
        obtain ⟨hpages, hqueue, hseq⟩ := scanRegion_fields (x.regionAt q)
        exact ⟨hpages, hqueue, hseq⟩
      · rw [hstreams, if_pos ⟨hk, hlog⟩] at hr
        exact Stream.unpinned_free hr
      · rw [hstreams, if_neg fun h => hk.elim (· h.1) (· h.2)]
  · intro x mean
    refine ⟨exec_wearLevelCheck_even hd, fun hi lo sp b c hmax hmin hspare hmost hleast hapart hon => ?_⟩
    have hne : hi ≠ lo := by
      rintro rfl
      omega
    exact ⟨_, exec_wearLevelCheck_moves hd hmax hmin hspare hmost hleast hapart hon, wearLevelled_blocks_high s d hi lo sp b c hne,
      wearLevelled_blocks_low s d hi lo sp b c hne, wearLevelled_spares s d hi lo sp b c,
      fun q hhi hlo => wearLevelled_regionAt_other s d hi lo sp b c hhi hlo, fun j hj => wearLevelled_dieAt_other s d hi lo sp b c hj,
      wearLevelled_changes s d hi lo sp b c⟩

end Sys2Proof.Machine
end

section
/-! PROOF. The frames, wakes and entries that a sleep vote and the crier bring: the layer of O40. -/

namespace Sys2Proof.Machine

theorem withParish_of_lt {p : Nat} (t : State) (hp : p < 16) : withParish p t = .next t := by
  rw [withParish, decide_eq_true hp, withUnit_true]

theorem withStream_of_lt {s : State} {k : Nat} (t : State) (hk : k < usedDies s * 512) : withStream s k t = .next t := by
  rw [withStream, decide_eq_true hk, withUnit_true]

/-! ### Frames that the hub starts (R314, R315) -/

/-- A frame as it waits at a port where the hub has sent it. -/
def hubSent (s : State) (n : Nat) (f : Frame) : Frame :=
  { f with flags := setBit f.flags 0, transId := (s.netAt n).transCtr.toNat, since := s.time.elapsed }

theorem hubFrame_netAt (s : State) (n : Nat) (f : Frame) : (hubFrame s n f).netAt n =
    { s.netAt n with waiting := (s.netAt n).waiting ++ [hubSent s n f], transCtr := (s.netAt n).transCtr + 1 } := by
  rw [hubFrame, State.modNet_netAt, enqueueFrame, State.modNet_netAt]
  rfl

theorem hubFrame_netAt_other (s : State) {n j : Nat} (f : Frame) (hj : j ≠ n) : (hubFrame s n f).netAt j = s.netAt j := by
  rw [hubFrame, State.modNet_netAt_other _ _ _ _ hj, enqueueFrame_netAt_other s _ hj]

/-! ### The sleep vote's frames (R333, R334) -/

/-- A SLEEP_VOTE on one port. -/
def voteFrame (state commitIn : Nat) (u : State) (n : Nat) : State :=
  if cfg u (0x0810 + 16 * n) 1 1 = 1 ∧ portLive u n = true then
    hubFrame u n { op := 9, dst := adpMcast u
                   payload := leBytes 1 state ++ leBytes 1 u.net.voteTarget ++ leBytes 2 u.net.voteRound.toNat ++ leBytes 4 commitIn }
  else u

theorem voteFrames_eq (s : State) (state commitIn : Nat) :
    voteFrames s state commitIn = (List.range 3).foldl (voteFrame state commitIn) s := rfl

/-- From s to t network ports change, but not port n. -/
structure SparesNet (n : Nat) (s t : State) : Prop where
  changes : Changes [.netPorts] s t
  port : t.netAt n = s.netAt n

theorem SparesNet.refl (n : Nat) (s : State) : SparesNet n s s := ⟨.refl _ _, rfl⟩

theorem SparesNet.trans {n : Nat} {s t u : State} (h : SparesNet n s t) (k : SparesNet n t u) : SparesNet n s u :=
  ⟨h.changes.trans k.changes, k.port.trans h.port⟩

theorem voteFrame_sparesNet (state commitIn : Nat) (u : State) {n j : Nat} (h : j ≠ n) : SparesNet n u (voteFrame state commitIn u j) := by
  unfold voteFrame
  split
  · exact ⟨hubFrame_changes u j _, hubFrame_netAt_other u _ h.symm⟩
  · exact .refl n u

theorem SparesNet.portLive {n : Nat} {s t : State} (h : SparesNet n s t) : portLive t n = portLive s n := by
  have hdict : t.dictReady = s.dictReady := h.changes .dictReady rfl
  have hfw : t.fw = s.fw := h.changes .fw rfl
  have hpower : t.power = s.power := h.changes .power rfl
  have hconf : t.conf = s.conf := h.changes .conf rfl
  simp only [Machine.portLive, cfg, hdict, hfw, hpower, hconf, h.port]

theorem voteFrame_live {state commitIn n : Nat} {u : State} (hlive : portLive u n = true) :
    ∃ g, ((voteFrame state commitIn u n).netAt n).waiting = (u.netAt n).waiting ++ [g] ∧ g.op = 9 := by
  have hused : cfg u (0x0810 + 16 * n) 1 1 = 1 := by
    unfold portLive at hlive
    simp only [Bool.and_eq_true, beq_iff_eq] at hlive
    obtain ⟨⟨⟨-, hused⟩, -⟩, -⟩ := hlive
    exact hused
  rw [voteFrame, if_pos ⟨hused, hlive⟩, hubFrame_netAt]
  exact ⟨_, rfl, rfl⟩

/-- Every live port gets a SLEEP_VOTE. -/
theorem voteFrames_waiting (s : State) (state commitIn : Nat) {n : Nat} (hn : n < 3) (hlive : portLive s n = true) :
    ∃ g, ((voteFrames s state commitIn).netAt n).waiting = (s.netAt n).waiting ++ [g] ∧ g.op = 9 := by
  obtain ⟨x, hbefore, hafter⟩ := foldl_once (g := voteFrame state commitIn) (R := SparesNet n) (.refl n) (fun _ _ _ => .trans)
    (fun x _ hj => voteFrame_sparesNet state commitIn x hj) (List.mem_range.mpr hn) List.nodup_range s
  obtain ⟨g, hwaiting, hop⟩ := voteFrame_live (state := state) (commitIn := commitIn) (hbefore.portLive.trans hlive)
  exact ⟨g, by rw [voteFrames_eq, hafter.port, hwaiting, hbefore.port], hop⟩

/-! ### Cancelled agreements (R334) -/

theorem cancelVote_net (s : State) : (cancelVote s).net =
    { s.net with graceAt := some s.time.elapsed, voteState := if s.net.voteState = 1 then 0 else s.net.voteState } := by
  unfold cancelVote
  extract_lets s1
  split
  · next h =>
    rw [(powerRecord_changes _ _ _ _ _) .net rfl, (voteFrames_changes _ _ _) .net rfl]
    rfl
  · rfl

/-! ### The wakes of a parish (R245) -/

/-- What the crier has sent of a parish's wakes: their count, and whether one is not acknowledged. -/
def wakeSent (s : State) (p : Nat) : BitVec 32 × Bool := ((s.parAt p).wake.wakes, (s.parAt p).wake.pending)

theorem wakeSent_of_parish {s t : State} (h : t.parish = s.parish) (p : Nat) : wakeSent t p = wakeSent s p := by
  simp only [wakeSent, State.parAt, h]

/-- A reason for the crier sends no wake. -/
theorem crierReason_wakeSent (s : State) (p bit rule q : Nat) : wakeSent (crierReason s p bit rule) q = wakeSent s q := by
  unfold crierReason
  dsimp only
  split
  · by_cases hq : q = p
    · subst hq
      simp [wakeSent, active, State.modPar, State.parAt]
    · simp [wakeSent, active, State.modPar, State.parAt, hq]
  · rfl

theorem markReasons_wakeSent (s : State) (k q : Nat) : wakeSent (markReasons s k) q = wakeSent s q := by
  unfold markReasons
  split
  · rfl
  · next p _ =>
    split
    · extract_lets wm s1
      have h1 : wakeSent s1 q = wakeSent s q := by
        unfold s1
        split
        · exact crierReason_wakeSent s p 0 _ q
        · rfl
      split
      · exact (crierReason_wakeSent s1 p 1 _ q).trans h1
      · exact h1
    · rfl

theorem ringEnter_wakeSent (s : State) (k : Nat) (r : Rec) (q : Nat) : wakeSent (ringEnter s k r) q = wakeSent s q := by
  unfold ringEnter
  extract_lets cap bump
  split
  · rfl
  · split
    · rfl
    · dsimp only
      rw [markReasons_wakeSent, wakeSent_of_parish ((logContinuous_changes _ _ _) .parish rfl)]
      rfl

theorem cancelVote_wakeSent (s : State) (q : Nat) : wakeSent (cancelVote s) q = wakeSent s q := by
  unfold cancelVote
  extract_lets s1
  split
  · rw [powerRecord, ringEnter_wakeSent, wakeSent_of_parish ((voteFrames_changes _ _ _) .parish rfl)]
    rfl
  · rfl

/-- A parish whose host the crier has woken. -/
def Wake.sent (w : Wake) (now : Nat) : Wake := { w with wakes := w.wakes + 1, pending := true, asked := false, lastAt := some now }

/-- The EVENT frame of a wake (R324). -/
def wakeEvent (s : State) (p : Nat) : Frame :=
  let w := (s.parAt p).wake
  { op := 8, dst := (destOf s p).1, parish := p, payload := leBytes 2 w.reasons ++ leBytes 2 w.rule ++ leBytes 4 (w.wakes + 1).toNat }

theorem wakeHost_eq (s : State) (p : Nat) : wakeHost s p =
    ({ hubFrame s (destOf s p).2 (wakeEvent s p) with power := { s.power with hostWake := true } } : State).modPar p
      fun x => { x with wake := (s.parAt p).wake.sent s.time.elapsed } := rfl

theorem wakeHost_wake (s : State) (p : Nat) : ((wakeHost s p).parAt p).wake = (s.parAt p).wake.sent s.time.elapsed := by
  rw [wakeHost_eq, State.modPar_parAt]

theorem wakeHost_frame (s : State) (p : Nat) : ((wakeHost s p).netAt (destOf s p).2).waiting =
    (s.netAt (destOf s p).2).waiting ++ [hubSent s (destOf s p).2 (wakeEvent s p)] :=
  congrArg NetPort.waiting (hubFrame_netAt s (destOf s p).2 (wakeEvent s p))

/-! ### The crier (R245, R246, R334) -/

theorem mem_voters (s : State) (q : Nat) : q ∈ voters s ↔ q < 16 ∧ bitOf (cfg s 0x0800 6 0) q = true := by
  rw [voters, bitList, List.mem_filter, List.mem_range]

section
variable {s : State} {q : Nat} (hq : q < 16) (hasleep : (s.parAt q).hostAsleep = true) (hstate : s.power.state < 3)
include hq hasleep hstate

theorem exec_crierWake_eq (hasked : (s.parAt q).wake.asked = true) : exec (.crierWake q) s = .next (voterActs (wakeHost s q) q) := by
  rw [exec_crierWake, execCrierWake, withParish_of_lt _ hq]
  simp only [hasleep, hasked, hstate, decide_true, Bool.and_self, given_true]

theorem exec_wakeRetryExpiry_eq (hpending : (s.parAt q).wake.pending = true) (hreasons : (s.parAt q).wake.reasons ≠ 0)
    (hretry : ∀ at_, (s.parAt q).wake.lastAt = some at_ → at_ + 250000000 * cfg s (0x9100 + 16 * q) 7 10 ≤ s.time.elapsed) :
    exec (.wakeRetryExpiry q) s = .next (wakeHost s q) := by
  have hsince : sinceWake s q (cfg s (granIdx q) 7 10 * 1000) = false := by
    unfold sinceWake
    cases hlast : (s.parAt q).wake.lastAt with
    | none => rfl
    | some at_ =>
      have hle := hretry at_ hlast
      have hms : msTicks (cfg s (granIdx q) 7 10 * 1000) = 250000000 * cfg s (0x9100 + 16 * q) 7 10 := by
        rw [msTicks, granIdx]
        omega
      dsimp only
      rw [hms]
      exact decide_eq_false (Nat.not_lt.mpr hle)
  rw [exec_wakeRetryExpiry, execWakeRetryExpiry, withParish_of_lt _ hq]
  simp only [hpending, hasleep, hstate, hsince, bne_iff_ne.mpr hreasons, decide_true, Bool.not_false, Bool.and_self, given_true]

end

theorem voters_of_conf {s t : State} (h : t.conf = s.conf) : voters t = voters s := by simp only [voters, cfg, h]

/-- A cause of cancellation from a voter, and none from any other parish (R334). -/
theorem voterActs_of_voter {s : State} {q : Nat} (h : q ∈ voters s) : voterActs s q = cancelVote s :=
  if_pos (List.contains_iff_mem.mpr h)

theorem voterActs_of_other {s : State} {q : Nat} (h : q ∉ voters s) : voterActs s q = s :=
  if_neg fun hin => h (List.contains_iff_mem.mp hin)

/-! ### The entry that a vote starts (R334, R406) -/

theorem discardXfers_voteState (s : State) (f : BlockXfer → Bool) : (discardXfers s f).net.voteState = s.net.voteState := by
  have hnet : (discardXfers s f).net = (closeXfers s f).net :=
    (Changes.foldl (fun x b => abortXfer_changes x b) (.refl [.netPorts] (closeXfers s f))) .net rfl
  rw [hnet]
  rfl

theorem endSessions_voteState (s : State) (p : Nat) : (endSessions s p).net.voteState = s.net.voteState :=
  List.foldlRecOn (motive := fun x : State => x.net.voteState = s.net.voteState) _ _ rfl
    fun x hx n _ => (discardXfers_voteState { x with sessions := x.sessions.filter fun y => y.num != n } _).trans hx

theorem foldl_endSessions_voteState (l : List Nat) (s : State) : (l.foldl endSessions s).net.voteState = s.net.voteState :=
  List.foldlRecOn (motive := fun x : State => x.net.voteState = s.net.voteState) _ _ rfl
    fun x hx p _ => (endSessions_voteState x p).trans hx

theorem changes_twin (s : State) (w : Twin) : Changes [.twin] s { s with twin := w } := by
  intro f hf
  cases f <;> simp_all [Piece.same]

/-- The power once an entry has begun (R406). -/
def entryBegun (s : State) (target cause : Nat) : Power :=
  { s.power with
    state := 5, target := target, entryCause := cause, prevState := s.power.state, drained := false, enteredAt := s.time.elapsed
    lprcEnd := 0, pendReq := if s.power.pendReq = 1 then 0 else s.power.pendReq }

/-- The machine whose entry has begun and whose reeve has noted it (R386, R406). -/
def entryNoted (s : State) (target cause : Nat) : State :=
  { s with power := entryBegun s target cause, reeve := { s.reeve with powerCause := true } }

/-- The twin is told of an entry from RUN or IDLE (R392). -/
def twinTold (s : State) (from_ : Nat) : State :=
  if s.twin.state = 0 ∨ 2 ≤ from_ then s else { s with twin := { s.twin with todo := s.twin.todo ++ [4, 4, 4] } }

/-- The machine whose dies have stopped for an entry (R406, R407). -/
def diesStopped (s : State) : State := dropItems (failLoops (stopFrames (allDies s)))

/-- What every entry does at its commit point (R406). -/
def entryMade (s : State) (target cause : Nat) : State :=
  diesStopped (soRefresh (parishRecover
    (twinTold (powerRecord (entryNoted s target cause) 0 (powerW0 1 s.power.state target cause) (usedMask s) 0) s.power.state) 1 5))

theorem beginEntry_eq (s : State) (target cause : Nat) : beginEntry s target cause =
    if target = 2 then entryMade s target cause
    else { (List.range 16).foldl endSessions (closePages (entryMade s target cause)) with pend := [] } := rfl

theorem twinTold_changes (s : State) (from_ : Nat) : Changes [.twin] s (twinTold s from_) := .ite (.refl _ _) (changes_twin s _)

theorem diesStopped_changes (s : State) : Changes [.die, .netPorts, .port, .twin, .test, .stream, .reeve] s (diesStopped s) :=
  .after (.after (.after (.after (.refl _ _) (allDies_changes s) rfl) (stopFrames_changes _) rfl) (failLoops_changes _) rfl)
    (dropItems_changes _) rfl

theorem entryMade_changes (s : State) (target cause : Nat) :
    Changes [.die, .netPorts, .port, .stream, .parish, .reeve, .timers, .twin, .test] (entryNoted s target cause) (entryMade s target cause) :=
  .after (.after (.after (.after (.after (.refl _ _) (powerRecord_changes _ _ _ _ _) rfl) (twinTold_changes _ _) rfl)
    (parishRecover_changes _ _ _) rfl) (soRefresh_changes _) rfl) (diesStopped_changes _) rfl

/-- An entry sets the power, and no vote (R406). -/
theorem beginEntry_keeps (s : State) (target cause : Nat) :
    (beginEntry s target cause).power = entryBegun s target cause ∧ (beginEntry s target cause).net.voteState = s.net.voteState := by
  have hmade := entryMade_changes s target cause
  have hpower : (entryMade s target cause).power = entryBegun s target cause := hmade .power rfl
  have hnet : (entryMade s target cause).net = s.net := hmade .net rfl
  rw [beginEntry_eq]
  split
  · exact ⟨hpower, by rw [hnet]⟩
  · generalize entryMade s target cause = u at hpower hnet
    have hclosed := closePages_changes u
    have hsessions : Changes [.net, .netPorts, .sessions, .fw] (closePages u) ((List.range 16).foldl endSessions (closePages u)) :=
      .foldl (fun x p => endSessions_changes x p) (.refl _ _)
    have hvote := foldl_endSessions_voteState (List.range 16) (closePages u)
    rw [hclosed .net rfl, hnet] at hvote
    generalize (List.range 16).foldl endSessions (closePages u) = v at hsessions hvote
    exact ⟨(hsessions .power rfl).trans ((hclosed .power rfl).trans hpower), hvote⟩

end Sys2Proof.Machine
end

section
/-! PROOF. O40: the sleep agreement, the crier's wakes and the batches. -/

namespace Sys2Proof.Machine

/-! ### The agreement and its commit point (R334) -/

/-- The shallowest target among those voted for, DEEP SLEEP where none is (R334). -/
def agreedTarget (s : State) : Nat := (voters s).foldl (fun a p => min a (s.parAt p).voteTarget) 2

theorem foldl_min (f : Nat → Nat) (l : List Nat) (a : Nat) : l.foldl (fun a p => min a (f p)) a ≤ a ∧
    (∀ q ∈ l, l.foldl (fun a p => min a (f p)) a ≤ f q) ∧
    (l.foldl (fun a p => min a (f p)) a = a ∨ ∃ q ∈ l, l.foldl (fun a p => min a (f p)) a = f q) := by
  induction l generalizing a with
  | nil => simp
  | cons p l ih =>
    obtain ⟨hstart, hall, hone⟩ := ih (min a (f p))
    rw [List.foldl_cons]
    refine ⟨hstart.trans (Nat.min_le_left ..), List.forall_mem_cons.mpr ⟨hstart.trans (Nat.min_le_right ..), hall⟩, ?_⟩
    obtain hfirst | ⟨q, hq, hrest⟩ := hone
    · rcases Nat.le_total a (f p) with hle | hle
      · exact .inl (hfirst.trans (Nat.min_eq_left hle))
      · exact .inr ⟨p, List.mem_cons_self, hfirst.trans (Nat.min_eq_right hle)⟩
    · exact .inr ⟨q, List.mem_cons_of_mem _ hq, hrest⟩

/-- The machine with the agreement that its voters' targets give (R334). -/
def agreed (s : State) : State :=
  { s with net := { s.net with
      voteState := 1, voteTarget := agreedTarget s, voteRound := s.net.voteRound + 1, voteAt := s.time.elapsed } }

theorem exec_sleepAgreement_eq {s : State} (hdict : s.dictReady = true) (hstate : s.power.state < 2) (hvote : s.net.voteState = 0)
    (hsome : ∃ q, q ∈ voters s) (hasleep : ∀ q ∈ voters s, (s.parAt q).hostAsleep = true) (hfree : voteBlocked s = false) :
    exec .sleepAgreement s = .next (voteFrames (agreed s) 2 (sleepGrace s * 1000)) := by
  have hvoters : (voters s).isEmpty = false := by
    obtain ⟨q, hq⟩ := hsome
    exact List.isEmpty_eq_false_iff.mpr (List.ne_nil_of_mem hq)
  have hall : ((voters s).all fun p => (s.parAt p).hostAsleep) = true := List.all_eq_true.mpr hasleep
  have hready : (s.dictReady && decide (s.power.state < 2) && s.net.voteState == 0 && !(voters s).isEmpty &&
      (voters s).all (fun p => (s.parAt p).hostAsleep) && !voteBlocked s) = true := by
    rw [hdict, decide_eq_true hstate, hvote, hvoters, hall, hfree]
    rfl
  rw [exec_sleepAgreement, execSleepAgreement, hready]
  rfl

/-- The machine whose agreement has reached its commit point (R334). -/
def agreementMade (s : State) : State := { s with net := { s.net with voteState := 2 } }

theorem exec_sleepCommitPoint_due {s : State} (hvote : s.net.voteState = 1)
    (hgrace : s.net.voteAt + 250000 * cfg s 0x0800 7 2 ≤ s.time.elapsed) : exec .sleepCommitPoint s =
    .next (if voteBlocked s then cancelVote s else requestState (agreementMade s) (s.net.voteTarget + 1) 1024) := by
  have hdue : decide (s.net.voteAt + msTicks (sleepGrace s) ≤ s.ticks) = true :=
    decide_eq_true (by rw [msTicks, Nat.mul_comm]; exact hgrace)
  rw [exec_sleepCommitPoint, execSleepCommitPoint, hvote, hdue]
  rfl

/-- A request for a deeper state starts an entry where no transition runs (R405, R411). -/
theorem requestState_enters {s : State} {target : Nat} (cause : Nat) (hstate : s.power.state < 2) (hbusy : s.power.opBusy = false)
    (htarget : 2 ≤ target) (hvote : s.net.voteState ≠ 1) : requestState s target cause = beginEntry s target cause := by
  have hrest : inTransition s = false := by
    simp only [inTransition, hbusy, Bool.or_false, Bool.or_eq_false_iff, beq_eq_false_iff_ne]
    omega
  rw [requestState, if_neg (by omega), if_neg (by simp [hrest]), if_neg (by omega), if_neg (by omega), if_neg hvote]

/-! ### MAX_AGE (R241, R244, R246) -/

section
variable {s : State} {k q : Nat} (hk : k < usedDies s * 512) (howner : streamOwner s k = some q) (haged : agedRecord s k = true)
include hk howner haged

theorem exec_maxAgeExpiry_awake (hawake : (s.parAt q).hostAsleep = false) :
    exec (.maxAgeExpiry k) s = .next (s.modPar q fun x => { x with deliverAll := true }) := by
  rw [exec_maxAgeExpiry, execMaxAgeExpiry, withStream_of_lt _ hk, howner]
  dsimp only
  rw [haged, given_true, hawake]
  rfl

theorem exec_maxAgeExpiry_asleep (hasleep : (s.parAt q).hostAsleep = true) :
    exec (.maxAgeExpiry k) s = .next (crierReason s q 2 0xFFFF) := by
  rw [exec_maxAgeExpiry, execMaxAgeExpiry, withStream_of_lt _ hk, howner]
  dsimp only
  rw [haged, given_true, hasleep]
  rfl

end

/-- A reason within WAKE_HOLDOFF of a wake that has been acknowledged asks for nothing (R246). -/
theorem crierReason_joins {s : State} {q : Nat} (bit rule : Nat) (hnear : sinceWake s q (cfg s (0x9100 + 16 * q) 8 100) = true)
    (hacked : (s.parAt q).wake.pending = false) : crierReason s q bit rule = s := by
  have hjoins : sinceWake s q (cfg s (granIdx q) 8 100) = true := hnear
  rw [crierReason]
  dsimp only
  rw [hjoins, hacked]
  exact if_neg (by simp)

/-- A reason of WAKE_ON that holds asks for a wake of its own unless it joins one of less than WAKE_HOLDOFF ago (R245, R246). -/
theorem crierReason_wake {s : State} {q bit : Nat} (rule : Nat) (hasleep : (s.parAt q).hostAsleep = true)
    (hon : bitOf (cfg s (0x9100 + 16 * q) 5 10) bit = true) (hbit : bit ≠ 15)
    (hholds : sinceWake s q (cfg s (0x9100 + 16 * q) 8 100) = false ∨ (s.parAt q).wake.pending = true) :
    ((crierReason s q bit rule).parAt q).wake = { (s.parAt q).wake with
      reasons := setBit (s.parAt q).wake.reasons bit
      asked := (s.parAt q).wake.asked || !sinceWake s q (cfg s (0x9100 + 16 * q) 8 100) } := by
  have hwakeOn : bitOf (cfg s (granIdx q) 5 10) bit = true := hon
  have hcond : ((s.parAt q).hostAsleep && (bit == 15 || bitOf (cfg s (granIdx q) 5 10) bit) &&
      (!sinceWake s q (cfg s (granIdx q) 8 100) || (s.parAt q).wake.pending)) = true := by
    rw [hwakeOn, hasleep, Bool.or_true, Bool.true_and, Bool.true_and, Bool.or_eq_true, Bool.not_eq_true']
    exact hholds
  rw [crierReason]
  dsimp only
  rw [if_pos hcond, State.modPar_parAt]
  simp only [hbit, false_and, if_false]
  rfl

/-! ### Batches (R229, R242, R322) -/

theorem recNative_length (r : Rec) : (recNative r).length = 12 + 4 * r.words.length := by
  have hwords (l : List Word) : (wordsBytes l).length = 4 * l.length := by
    induction l with
    | nil => rfl
    | cons w l ih =>
      rw [wordsBytes, List.flatMap_cons, List.length_append, length_leBytes, ← wordsBytes, ih, List.length_cons]
      omega
  rw [recNative, List.length_append, List.length_append, length_leBytes, length_leBytes, hwords]

/-- An anchor that leads a batch takes 20 bytes in native form (R61, R229). -/
theorem leadAnchor_length {s : State} (hcmpt : s.cmpt = false) (epoch : BitVec 8) : (recOut s (leadAnchor s epoch)).length = 20 := by
  have hwords : (leadAnchor s epoch).words.length = 2 := by
    unfold leadAnchor
    split <;> rfl
  rw [recOut, hcmpt, if_neg Bool.false_ne_true, recNative_length, hwords]

/-- Where no record is over age none is discarded (R62). -/
theorem discardOld_none {s : State} {k : Nat} (h : ∀ y ∈ (s.streamAt k).ring, s.time.elapsed ≤ y.entered + 2 ^ 18 * 250000000) :
    discardOld s k = s := by
  have hnone : (s.streamAt k).ring.filter (fun r => tooOld s r && (!r.delivered || manyReaders s k)) = [] := by
    refine List.filter_eq_nil_iff.mpr fun y hy => ?_
    have hyoung : tooOld s y = false := decide_eq_false (Nat.not_lt.mpr (h y hy))
    rw [hyoung, Bool.false_and]
    exact Bool.false_ne_true
  unfold discardOld
  dsimp only
  rw [hnone]
  rfl

/-- The STREAM frame of a PUSH batch of one record, which no window holds back (R322). -/
def batchFrame (s : State) (p : Nat) (r : Rec) : Frame :=
  { op := 7, dst := (destOf s p).1, parish := p, objCount := 1, push := true
    takes := ([r].filter fun r => !batchAnchor r).map recKey
    payload := leBytes 2 (s.parAt p).batchNo.toNat ++ [0, 0] ++ recOut s (leadAnchor s r.epoch) ++ recOut s r }

theorem streamFrames_one {s : State} {p : Nat} {r : Rec} (hcmpt : s.cmpt = false) (hsize : recOutSize s r ≤ 1400) :
    streamFrames s p (destOf s p).1 (s.parAt p).batchNo.toNat true false [leadAnchor s r.epoch, r] = [batchFrame s p r] := by
  have hroom : 0 + recOutSize s r ≤ 1472 - 20 := by omega
  have hpack : packParts s (1472 - (recOut s (leadAnchor s r.epoch)).length) [] 0 [r] = [[r]] := by
    rw [leadAnchor_length hcmpt, packParts, if_pos hroom, packParts]
    rfl
  unfold streamFrames
  dsimp only
  rw [hpack]
  simp [batchFrame, leBytes]

/-- A batch of one record as it is handed over at once: the record is in the parish's list of what it was sent and delivered, the frame
waits at the port of the destination, and the batch counts (R242, R243). -/
def batchHanded (s : State) (p : Nat) (r : Rec) : State :=
  deliverKeys ((ringSend (hubFrame (markRecs s [recKey r] fun r => { r with sentTo := addOnce r.sentTo p }) (destOf s p).2 (batchFrame s p r))
    { cls := 3, src := streamDie r.stream, dst := 0, parish := p }).modPar p fun x => { x with
      batches := x.batches + 1, batchNo := x.batchNo + 1 }) [recKey r]

theorem assembleBatch_one {s : State} {p k : Nat} {r : Rec} (hcmpt : s.cmpt = false) (htake : toTake s p k false = [r])
    (hyoung : ∀ y ∈ (s.streamAt k).ring, s.time.elapsed ≤ y.entered + 2 ^ 18 * 250000000) (hsize : recOutSize s r ≤ 1400)
    (hmax : 1420 ≤ cfg s (0x9100 + 16 * p) 2 16 * 1024) (hfree : windowNames s (destOf s p).2 p = false) :
    assembleBatch s p [k] false = batchHanded s p r := by
  have hroom : recOutSize s r ≤ cfg s (granIdx p) 2 16 * 1024 - 20 := by
    rw [granIdx]
    omega
  have hrecs : takeUpTo s (cfg s (granIdx p) 2 16 * 1024 - 20) [r] = [r] := by rw [takeUpTo, if_pos hroom, takeUpTo]
  have horder : batchOrder s r.epoch [r] = [leadAnchor s r.epoch, r] := by rw [batchOrder, hcmpt, if_neg Bool.false_ne_true]
  unfold assembleBatch
  simp only [List.foldl_cons, List.foldl_nil, discardOld_none hyoung, List.flatMap_cons, List.flatMap_nil, List.append_nil, htake, sameEpoch,
    List.takeWhile_nil, hcmpt, Bool.false_eq_true, if_false, hrecs, horder, hfree, Bool.not_false, Bool.true_and,
    streamFrames_one hcmpt hsize]
  rfl

theorem parAt_of_parish {s t : State} (h : t.parish = s.parish) (p : Nat) : t.parAt p = s.parAt p := by simp only [State.parAt, h]

theorem netAt_of_netPorts {s t : State} (h : t.netPorts = s.netPorts) (n : Nat) : t.netAt n = s.netAt n := by simp only [State.netAt, h]

/-! ### A batch of one record, once handed over (R242, R243) -/

/-- The machine whose record is in the parish's list of what it was sent (R242). -/
def recordSent (s : State) (p : Nat) (r : Rec) : State := markRecs s [recKey r] fun r => { r with sentTo := addOnce r.sentTo p }

/-- The machine whose batch of one record counts and waits at the port (R242, R322). -/
def batchQueued (s : State) (p : Nat) (r : Rec) : State :=
  (ringSend (hubFrame (recordSent s p r) (destOf s p).2 (batchFrame s p r))
    { cls := 3, src := streamDie r.stream, dst := 0, parish := p }).modPar p fun x => { x with
      batches := x.batches + 1, batchNo := x.batchNo + 1 }

theorem batchHanded_eq (s : State) (p : Nat) (r : Rec) : batchHanded s p r = deliverKeys (batchQueued s p r) [recKey r] := rfl

theorem batchHanded_parAt (s : State) (p : Nat) (r : Rec) : (batchHanded s p r).parAt p =
    { s.parAt p with batches := (s.parAt p).batches + 1, batchNo := (s.parAt p).batchNo + 1 } := by
  have hsent : Changes [.stream, .netPorts, .die] s (ringSend (hubFrame (recordSent s p r) (destOf s p).2 (batchFrame s p r))
      { cls := 3, src := streamDie r.stream, dst := 0, parish := p }) :=
    .after (.after (.after (.refl _ _) (markRecs_changes _ _ _) rfl) (hubFrame_changes _ _ _) rfl) (ringSend_changes _ _) rfl
  rw [batchHanded_eq, parAt_of_parish ((deliverKeys_changes _ _) .parish rfl), batchQueued, State.modPar_parAt,
    parAt_of_parish (hsent .parish rfl)]

theorem batchHanded_waiting (s : State) (p : Nat) (r : Rec) : ((batchHanded s p r).netAt (destOf s p).2).waiting =
    (s.netAt (destOf s p).2).waiting ++ [hubSent (recordSent s p r) (destOf s p).2 (batchFrame s p r)] := by
  have hqueued : Changes [.die, .parish, .stream] (hubFrame (recordSent s p r) (destOf s p).2 (batchFrame s p r)) (batchHanded s p r) :=
    .after (.after (.after (.refl _ _) (ringSend_changes _ _) rfl) (State.modPar_changes _ _ _) rfl) (deliverKeys_changes _ _) rfl
  rw [netAt_of_netPorts (hqueued .netPorts rfl), hubFrame_netAt]
  rfl

/-- The batch's record is in the parish's list of what it was sent, and delivered (R242, R243). -/
theorem batchHanded_ring {s : State} {p : Nat} {r y : Rec} (hy : y ∈ ((batchHanded s p r).streamAt r.stream).ring)
    (hkey : recKey y = recKey r) : y.delivered = true ∧ p ∈ y.sentTo := by
  have hqueued : Changes [.netPorts, .die, .parish] (recordSent s p r) (batchQueued s p r) :=
    .after (.after (.after (.refl _ _) (hubFrame_changes _ _ _) rfl) (ringSend_changes _ _) rfl) (State.modPar_changes _ _ _) rfl
  have hnamed : [recKey r].any (fun q => q.1 == r.stream) = true := by simp [recKey]
  rw [batchHanded_eq, deliverKeys, markRecs_streamAt, hnamed, streamAt_of_stream (hqueued .stream rfl), recordSent, markRecs_streamAt, hnamed] at hy
  simp only [Stream.marked, if_true, List.map_map, List.mem_map, Function.comp, List.contains_iff_mem, List.mem_singleton] at hy
  obtain ⟨x, -, rfl⟩ := hy
  by_cases hx : recKey x = recKey r
  · have hsent : recKey { x with sentTo := addOnce x.sentTo p } = recKey r := hx
    simp only [hx, hsent, if_true]
    exact ⟨trivial, mem_addOnce _ _⟩
  · simp only [hx, if_false] at hkey

/-- A record of die 0 needs no frame of the ring (R19). -/
theorem batchHanded_die {s : State} {r : Rec} (p : Nat) (hdie : streamDie r.stream = 0) : (batchHanded s p r).die = s.die := by
  have hqueued : Changes [.stream, .netPorts] s (hubFrame (recordSent s p r) (destOf s p).2 (batchFrame s p r)) :=
    .after (.after (.refl _ _) (markRecs_changes _ _ _) rfl) (hubFrame_changes _ _ _) rfl
  rw [batchHanded_eq, (deliverKeys_changes _ _) .die rfl, batchQueued, ringSend, if_pos (.inl hdie), State.modPar_die]
  exact hqueued .die rfl

/-! ### BATCH_ASSEMBLE where no session has asked for records (R241, R244) -/

section
variable {s : State} {q : Nat} (hq : q < 16) (hdict : s.dictReady = true) (hstate : s.power.state < 2) (hpulls : (s.parAt q).pulls = [])
include hq hdict hstate hpulls

theorem exec_batchAssemble_eq : exec (.batchAssemble q) s = .next (
    if !(s.parAt q).hostAsleep && pushDue s q then
      (assembleBatch s q (pushStreams s q) false).modPar q fun x => { x with
        deliverAll := !(pushStreams (assembleBatch s q (pushStreams s q) false) q).isEmpty, pulls := [] }
    else s.modPar q fun x => { x with pulls := [] }) := by
  rw [exec_batchAssemble, execBatchAssemble, withParish_of_lt _ hq, hdict, decide_eq_true hstate, hpulls]
  rfl

theorem exec_batchAssemble_idle (hidle : (s.parAt q).hostAsleep = true ∨ pushDue s q = false) :
    exec (.batchAssemble q) s = .next (s.modPar q fun x => { x with pulls := [] }) := by
  rw [exec_batchAssemble_eq hq hdict hstate hpulls, if_neg]
  obtain h | h := hidle <;> simp [h]

theorem exec_batchAssemble_push (hawake : (s.parAt q).hostAsleep = false) (hdue : pushDue s q = true) :
    ∃ more, exec (.batchAssemble q) s = .next ((assembleBatch s q (pushStreams s q) false).modPar q fun x => { x with
      deliverAll := more, pulls := [] }) := by
  rw [exec_batchAssemble_eq hq hdict hstate hpulls, if_pos (by rw [hawake, hdue]; rfl)]
  exact ⟨_, rfl⟩

end

theorem exec_wakeHoldExpiry_released {s : State} (h : wakeHeld s = false) :
    exec .wakeHoldExpiry s = .next { s with power := { s.power with hostWake := false } } := by
  rw [exec_wakeHoldExpiry, execWakeHoldExpiry, h]
  rfl

/-- What a wake of a parish and its repeat do (R245, R324): HOST_WAKE, the count, and the EVENT to the parish's destination; a voter's wake
also cancels an agreement (R334). -/
theorem wake_sent {s : State} {i : Instr} {q : Nat} (hi : i = .crierWake q ∨ i = .wakeRetryExpiry q) (hq : q < 16)
    (hasleep : (s.parAt q).hostAsleep = true) (hstate : s.power.state < 3)
    (hasked : i = .crierWake q → (s.parAt q).wake.asked = true)
    (hretry : i = .wakeRetryExpiry q → (s.parAt q).wake.pending = true ∧ (s.parAt q).wake.reasons ≠ 0 ∧
      ∀ at_, (s.parAt q).wake.lastAt = some at_ → at_ + 250000000 * cfg s (0x9100 + 16 * q) 7 10 ≤ s.time.elapsed) :
    (exec i s = .next (wakeHost s q) ∧ (i = .crierWake q → q ∉ voters s)) ∨
      (i = .crierWake q ∧ q ∈ voters s ∧ exec i s = .next (cancelVote (wakeHost s q))) := by
  obtain rfl | rfl := hi
  · have hvoters : voters (wakeHost s q) = voters s := voters_of_conf ((wakeHost_changes s q) .conf rfl)
    rw [exec_crierWake_eq hq hasleep hstate (hasked rfl)]
    by_cases h : q ∈ voters s
    · exact .inr ⟨rfl, h, by rw [voterActs_of_voter (hvoters.symm ▸ h)]⟩
    · exact .inl ⟨by rw [voterActs_of_other (hvoters.symm ▸ h)], fun _ => h⟩
  · obtain ⟨hpending, hreasons, hlast⟩ := hretry rfl
    exact .inl ⟨exec_wakeRetryExpiry_eq hq hasleep hstate hpending hreasons hlast, nofun⟩

/-- A cancelled agreement leaves the power and the wakes that were sent. -/
theorem cancelVote_keeps (s : State) (q : Nat) : (cancelVote s).power = s.power ∧
    ((cancelVote s).parAt q).wake.pending = (s.parAt q).wake.pending ∧ ((cancelVote s).parAt q).wake.wakes = (s.parAt q).wake.wakes :=
  have hsent := cancelVote_wakeSent s q
  ⟨(cancelVote_changes s) .power rfl, congrArg Prod.snd hsent, congrArg Prod.fst hsent⟩

/-- Settles O40: each command's step is stated once, as the state it leads to, and the statement's parts are read off those states. The
frames of a vote are found by following one port through the loop over all of them, and the agreed target as the least of the voters'. -/
theorem votesWakesAndBatches : Obligations.VotesWakesAndBatches := by
  unfold Obligations.VotesWakesAndBatches
  refine ⟨fun s => ?_, fun s q hq hdict hstate hpulls => ?_⟩
  · refine ⟨?agreement, ?commitPoint, exec_wakeHoldExpiry_released, ?wake, ?maxAge⟩
    case agreement =>
      intro hdict hstate hvote hsome hasleep hfree
      have hstep := exec_sleepAgreement_eq hdict hstate hvote (hsome.imp fun q hq => (mem_voters s q).mpr hq)
        (fun q hq => hasleep q ((mem_voters s q).mp hq)) hfree
      obtain ⟨hdeepest, hshallower, hone⟩ := foldl_min (fun q => (s.parAt q).voteTarget) (voters s) 2
      refine ⟨_, agreedTarget s, hstep, (voteFrames_changes _ _ _) .net rfl, hdeepest,
        fun q hq => hshallower q ((mem_voters s q).mpr hq), hone.imp_right ?_, fun n hn hlive => voteFrames_waiting (agreed s) 2 _ hn hlive,
        execSleepAgreement_changes s _ hstep⟩
      rintro ⟨q, hq, htarget⟩
      exact ⟨q, (mem_voters s q).mp hq, htarget⟩
    case commitPoint =>
      intro hvote hgrace hstate
      have hstep := exec_sleepCommitPoint_due hvote hgrace
      refine ⟨fun hblocked => ?_, fun hfree hbusy hleast _ => ?_⟩
      · rw [if_pos hblocked] at hstep
        refine ⟨_, hstep, ?_, ?_, (cancelVote_changes s) .power rfl, cancelVote_changes s⟩
        · rw [cancelVote_net, if_pos hvote]
        · rw [cancelVote_net]
      · have henters := requestState_enters (s := agreementMade s) (target := s.net.voteTarget + 1) 1024 hstate hbusy
          (Nat.succ_le_succ hleast) (show 2 ≠ 1 by decide)
        obtain ⟨hpower, hkept⟩ := beginEntry_keeps (agreementMade s) (s.net.voteTarget + 1) 1024
        rw [if_neg (hfree ▸ Bool.false_ne_true), henters] at hstep
        exact ⟨_, hstep, hkept, by rw [hpower]; rfl, by rw [hpower]; rfl, by rw [hpower]; rfl⟩
    case wake =>
      intro i q hi hq w hasleep hstate hasked hretry
      have hwake := wakeHost_wake s q
      obtain ⟨hstep, hother⟩ | ⟨rfl, hvoter, hstep⟩ := wake_sent hi hq hasleep hstate hasked hretry
      · refine ⟨_, hstep, rfl, by rw [hwake]; rfl, by rw [hwake]; rfl, fun hcrier hvotes => absurd ((mem_voters s q).mpr hvotes) (hother hcrier),
          fun _ => ⟨_, rfl, hwake, wakeHost_frame s q, rfl, rfl, rfl, rfl, wakeHost_changes s q⟩⟩
      · obtain ⟨hpower, hpending, hwakes⟩ := cancelVote_keeps (wakeHost s q) q
        refine ⟨_, hstep, by rw [hpower]; rfl, by rw [hpending, hwake]; rfl, by rw [hwakes, hwake]; rfl, fun _ _ => by rw [cancelVote_net]; rfl,
          fun h => h.elim nofun fun hnot => absurd ((mem_voters s q).mp hvoter) hnot⟩
    case maxAge =>
      intro k q hk howner haged
      refine ⟨exec_maxAgeExpiry_awake hk howner haged, ?_⟩
      intro hasleep hon near
      have hstep := exec_maxAgeExpiry_asleep hk howner haged hasleep
      refine ⟨fun hnear hacked => ?_, fun hholds => ?_⟩
      · rw [hstep, crierReason_joins 2 0xFFFF hnear hacked]
      · exact ⟨_, hstep, crierReason_wake 0xFFFF hasleep hon (by decide) hholds, crierReason_changes _ _ _ _⟩
  · refine ⟨exec_batchAssemble_idle hq hdict hstate hpulls, fun k r hcmpt hawake hdue hpush htake hstream _ hyoung hsize hmax hfree => ?_⟩
    obtain ⟨more, hstep⟩ := exec_batchAssemble_push hq hdict hstate hpulls hawake hdue
    rw [hpush, assembleBatch_one hcmpt htake hyoung hsize hmax hfree] at hstep
    have hpar := batchHanded_parAt s q r
    subst hstream
    refine ⟨_, _, hstep, ?_, ?_, batchHanded_waiting s q r, rfl, rfl, rfl, rfl, rfl, fun y hy hkey => batchHanded_ring hy hkey,
      batchHanded_die q, execBatchAssemble_changes q s _ hstep⟩
    · rw [State.modPar_parAt, hpar]
    · rw [State.modPar_parAt, hpar]

end Sys2Proof.Machine
end
